-- ==== Sys2Proof/Word.lean ====
section
/-! DEFINITION. Words, octet strings and sparse tables, the vocabulary of every other file. -/

namespace Sys2Proof

/-- One octet. -/
abbrev Octet := BitVec 8

/-- An octet string, lowest offset first. -/
abbrev Octets := List Octet

/-- A 36-bit word of a Cilapol-36 core (R357). -/
abbrev W36 := BitVec 36

/-- A 16-bit status code (R106) or cause code (R550). -/
abbrev Code := BitVec 16

/-- A sparse table: keys strictly rising.  A key that is not listed has the
table's default value, and no listed key has it (see `Tab.wf`). -/
abbrev Tab (α : Type) := List (Nat × α)

end Sys2Proof
end

