-- ==== Sys2Proof/Syntax.lean ====
section
/-! DEFINITION. The commands of the block: one constructor of Instr for each row of
spec/opcode_table.json, and the operand types they carry. -/

namespace Sys2Proof

/-- Logical core c of logical cluster k: 8 × k + c (R19). -/
abbrev CoreId := BitVec 6

/-- A PCI Express function: PF0 (vf 0) or virtual function 1 to 256 of a port (R67). -/
structure Fn where
  portB : Bool := false
  vf : BitVec 9 := 0
  deriving DecidableEq, Repr

/-- A 64-octet descriptor (R89). -/
structure Descriptor where
  opcode : Code := 0
  version : BitVec 8 := 0
  flags : BitVec 8 := 0
  inLen : BitVec 32 := 0
  cmdId : BitVec 64 := 0
  inAddr : BitVec 64 := 0
  outAddr : BitVec 64 := 0
  outCap : BitVec 32 := 0
  reserved : BitVec 32 := 0
  /-- The 24 octets of inline parameters. -/
  params : Octets := List.replicate 24 0
  deriving DecidableEq, Repr

/-- What a read of host memory gives: the octets, or a failure (R71). -/
inductive HostRead where
  | data (o : Octets)
  | failed
  deriving DecidableEq, Repr

/-- The answer to a far access (R368, R369). -/
inductive FarReply where
  /-- Accepted; the octets read, for a read. -/
  | ok (o : Octets)
  /-- Refused, with the value that st.FF takes, 1 to 5. -/
  | refused (ff : BitVec 3)
  deriving DecidableEq, Repr

/-- What the self-tests of boot step 6 found (R59, R60): the failing units, and whether a unit
without a spare failed. -/
structure SelfTest where
  lanes : BitVec 64 := 0
  hash : BitVec 16 := 0
  clusters : BitVec 9 := 0
  channels : BitVec 8 := 0
  /-- A unit with no spare failed: the status for BOOT_FAIL. -/
  fatal : Option Code := none
  deriving DecidableEq, Repr

/-- The fields of a slot-table entry that SLOT_CREATE writes (R437). -/
structure SlotFields where
  tenant : BitVec 16 := 0
  domain : BitVec 4 := 0
  policyId : BitVec 6 := 0
  phBase : Nat := 0
  phCount : Nat := 0
  maxPrio : Nat := 0
  weight : Nat := 0
  dataLog2 : Nat := 0
  dataBase : Nat := 0
  cacheShare : Nat := 0
  ctrBase : Nat := 0
  ctrCount : Nat := 0
  deriving DecidableEq, Repr

/-- A cipher-job descriptor (R217); its MODE is the row's. -/
structure CipherJob where
  cipher : BitVec 8 := 1
  ctl : BitVec 8 := 0
  key : BitVec 8 := 0
  len : BitVec 32 := 0
  src : BitVec 64 := 0
  dst : BitVec 64 := 0
  aux : BitVec 32 := 0
  reserved : BitVec 32 := 0
  iv : Octets := []
  inlineData : Octets := []
  deriving DecidableEq, Repr

/-- A hash-job descriptor (R221). -/
structure HashJob where
  alg : BitVec 8 := 1
  ctl : BitVec 8 := 0
  key : BitVec 8 := 0
  reserved : BitVec 8 := 0
  len : BitVec 32 := 0
  src : BitVec 64 := 0
  prior : BitVec 64 := 0
  reserved2 : Octets := []
  inlineData : Octets := []
  deriving DecidableEq, Repr

/-- How a job's accesses went: the octets read outside working memory, or the octets done before the
first refused piece (R220). -/
inductive JobReply where
  | ok (o : Octets)
  | refused (done : Nat)
  deriving DecidableEq, Repr

/-- Where a parity error is: a lane, with the job it ran as core and tag, or a key-file entry of a
core (R228, R229). -/
inductive ParityAt where
  | lane (n : BitVec 6) (victim : Option (CoreId × BitVec 2))
  | keyFile (k : CoreId) (reg : BitVec 2)
  deriving DecidableEq, Repr

/-- A key-unit request (R304); its OP is the row's. -/
structure KeyReq where
  target : BitVec 8 := 0
  group : BitVec 8 := 0
  reserved1 : BitVec 8 := 0
  word : BitVec 16 := 0
  reserved2 : BitVec 16 := 0
  ref : BitVec 64 := 0
  ref2 : BitVec 64 := 0
  dst : BitVec 64 := 0
  aux : BitVec 64 := 0
  auxLen : BitVec 32 := 0
  reserved3 : BitVec 32 := 0
  param : Octets := []
  block : Octets := []
  deriving DecidableEq, Repr

/-- A request at the entropy request port (10, registers). -/
structure RandReq where
  cls : BitVec 8 := 0
  flags : BitVec 8 := 0
  reserved : BitVec 16 := 0
  len : BitVec 32 := 0
  dst : BitVec 64 := 0
  deriving DecidableEq, Repr

/-- What the header of a mirror-link message brings, and whether its tag verifies (R492, R493). -/
structure MsgHead where
  mseq : BitVec 64 := 0
  tagOk : Bool := true
  deriving DecidableEq, Repr

/-- A HELLO of the partner (R491, R492). -/
structure HelloMsg where
  serial : BitVec 64 := 0
  mirrorMax : BitVec 8 := 0
  /-- MODE and ROLE as their registers show them. -/
  mode : BitVec 4 := 0
  role : BitVec 3 := 0
  /-- CROWN: the partner holds the Crown. -/
  crown : Bool := false
  epoch : Option Octets := none
  /-- Officer-set digest and PREV_DIGEST of its applied image. -/
  officers : Octets := []
  prev : Octets := []
  /-- DR check values by index. -/
  checks : List (Nat × Octets) := []
  /-- Its certificate was issued by Weleoma, and the signature verifies. -/
  certOk : Bool := true
  /-- Ephemeral point, 97 octets, and nonce, 32. -/
  point : Octets := []
  nonce : Octets := []
  /-- Its TIME. -/
  time : BitVec 64 := 0
  deriving DecidableEq, Repr

/-- One table write that a mirrored commit carries (R498). -/
inductive MirrorWrite where
  /-- One use of a counter entry. -/
  | ctrUse (index : Nat)
  /-- A counter entry is allocated: limit and allocation number. -/
  | ctrAlloc (index : Nat) (limit gen : BitVec 32)
  /-- A slot is written: its fields and STATE. -/
  | slot (n : Nat) (fields : SlotFields) (state : BitVec 2)
  /-- A slot is freed. -/
  | slotFree (n : Nat)
  deriving DecidableEq, Repr

/-- A COMMIT of the active module (R498): the replay record, the table writes, the journal entry. -/
structure CommitMsg where
  slot : Nat := 0
  ph : Nat := 0
  cmdId : BitVec 64 := 0
  opcode : Code := 0
  status : Code := 0
  output : Octets := []
  franked : Bool := false
  writes : List MirrorWrite := []
  /-- The journal entry, 256 octets (R465). -/
  entry : Octets := []
  deriving DecidableEq, Repr

/-- One counter-table entry of a bulk copy: index, COUNT, LIMIT, CTR_GEN, EPOCH_SEL, EXHAUSTED (R292). -/
structure BulkCounter where
  index : Nat := 0
  count : BitVec 32 := 0
  limit : BitVec 32 := 0
  gen : BitVec 32 := 0
  epochSel : Nat := 0
  exhausted : Bool := false
  deriving DecidableEq, Repr

/-- A chunk of the bulk copy (R496). -/
inductive BulkChunk where
  | counters (l : List BulkCounter) (nextGen : Nat)
  | aliases (l : List (Nat × List Octets))
  | slots (l : List (Nat × SlotFields × BitVec 2))
  | replays (l : List CommitMsg)
  /-- SEG, NEXT_SEQ, the last CHAIN and HEAD. -/
  | journal (seg : BitVec 32) (next : BitVec 64) (chain : Octets) (head : BitVec 64)
  | labels (l : List (Nat × Octets))
  deriving DecidableEq, Repr

/-- Instructions of the test access port (R545). -/
inductive ScanIr where
  | bypass | idcode | samplePreload | extest
  deriving DecidableEq, Repr


/-- The commands of the part: one constructor for each row of spec/opcode_table.json, in its order,
with the operands that the row's rule gives it. -/
inductive Instr where
  /-- PWR_GOOD_RISE (R59). PWR_GOOD rises and the module begins cold boot with the warden report of step 1. -/
  | pwrGoodRise (vbatMv : BitVec 16) (xstart : BitVec 3)
  /-- XA_DELAY_END (R59). The strapped XA start-up delay t_X expires and XA qualification begins. -/
  | xaDelayEnd
  /-- XA_QUALIFY (R556). A FOSC-counted XA qualification window ends; two good windows qualify XA, and three failed attempts stop boot in LOCKED. -/
  | xaQualify (count : Nat)
  /-- PLL_LOCK (R557). A PLL completes its lock; the next PLL starts, and LOCAL moves from FOSC to PLL_TIME when PLL_TIME locks. -/
  | pllLock (pll : Nat)
  /-- BOOT_ROM (R59). The supervisor boot ROM and warden link check of step 5 complete, power domains are switched on and the PCIe links may train. -/
  | bootRom (linkOk : Bool)
  /-- BOOT_SELFTEST (R59). SRAM BIST, lane and hash KATs, WMU KAT, gate tests and monitor dry-fires of step 6 complete; a failure retires the unit or stops boot in LOCKED. -/
  | bootSelftest (r : SelfTest)
  /-- ENTROPY_STARTUP (R343). Entropy start-up parts 7.1 to 7.4 complete, so RNG_READY is set, module keys are drawn, the key store is unsealed and the mode becomes STAGED. -/
  | entropyStartup (passed : BitVec 64) (condPass : BitVec 64) (katOk : Bool)
  /-- PWR_GOOD_FALL (R568). PWR_GOOD falls; the module enters BATTERY, drops CROWN_OUT, clamps PD0 and loses every other domain. -/
  | pwrGoodFall
  /-- PWR_GOOD_HOLDOFF (R582). The 2 ms after a PWR_GOOD fall expire and PWR_GOOD is sampled again; a high level starts a cold boot. -/
  | pwrGoodHoldoff (level : Bool) (vbatMv : BitVec 16) (xstart : BitVec 3)
  /-- RESET_N_ASSERT (R583). RESET_N reads low for 100 FOSC cycles while PWR_GOOD is high, and a warm reset begins. -/
  | resetNAssert
  /-- RESET_RELEASE (R64). Warm reset is released and cold-boot steps 3 to 13 (or 2 to 13) run again. -/
  | resetRelease (xaRan : Bool)
  /-- WARM (R63). A RESET_CTRL write with KEY 0x5A and WARM set starts a warm reset that drops the Crown and erases the cache key, lane keys and DRBG states. -/
  | warm (key : BitVec 8)
  /-- START (R44). START checks IMG_ADDR and IMG_LEN and begins fetching, verifying and applying an image when the mode or an IMAGE_REAPPLY arming permits it. -/
  | start (portB : Bool)
  /-- ABORT (R44). ABORT abandons an image fetch or verification in progress. -/
  | abort
  /-- IMAGE_RECEIVED (R603). The last image octet is received and verification of the header, records, signatures and floors (boot step 10) begins. -/
  | imageReceived (r : HostRead)
  /-- IMAGE_VERIFIED (R45). Image verification ends; a refused image changes nothing and sets IMG_STATE 5, and an accepted one proceeds to layout application. -/
  | imageVerified
  /-- LAYOUT_APPLIED (R51). Application of the layout or of the changed records completes, the warden floors and records are updated, and pair negotiation follows. -/
  | layoutApplied
  /-- PAIR_DECISION (R494). The module decides to join, to take the Crown or to wait, according to the partner state and PEER_CROWN_IN. -/
  | pairDecision (peerIn : Bool)
  /-- PAIR_WAIT_EXPIRY (R494). The 80 ms link wait ends; the module takes the Crown alone, or keeps retrying if PEER_CROWN_IN is high. -/
  | pairWaitExpiry (peerIn : Bool)
  /-- PAIR_RETRY (R494). The 100 ms retry timer fires and the pair decision is made again. -/
  | pairRetry (peerIn : Bool)
  /-- IMAGE_ARM_LAPSE (R48). The 60 s arming of an IMAGE_REAPPLY lapses with no image arrived. -/
  | imageArmLapse
  /-- IMAGE_BEGIN (R601). The MCTP command starts an image transfer with the checks of START. -/
  | imageBegin (len : BitVec 32)
  /-- IMAGE_DATA (R601). The MCTP command delivers image octets at the next offset, or is refused with BAD_FIELD. -/
  | imageData (off : BitVec 32) (data : Octets)
  /-- IMAGE_END (R601). The MCTP command ends the transfer and starts verification, or is refused with BAD_LENGTH if octets are missing. -/
  | imageEnd
  /-- IMAGE_STATUS (R600). The MCTP command returns the image status registers. -/
  | imageStatus
  /-- IMAGE_ABORT (R600). The MCTP command abandons a transfer in the way ABORT does. -/
  | imageAbort
  /-- IMAGE_TRANSFER_TIMEOUT (R601). An MCTP transfer with no IMAGE_DATA for 10 s ends with IMG_STATE 5 and BAD_LENGTH. -/
  | imageTransferTimeout
  /-- GET_IDENTITY (R600). The MCTP command returns the identity block. -/
  | getIdentity
  /-- GET_MODE (R600). The MCTP command returns the mode registers. -/
  | getMode
  /-- MCTP_BATTERY_LOG (R600). The MCTP command returns the battery log as BATTERY_LOG does. -/
  | mctpBatteryLog
  /-- MCTP_HEALTH_REPORT (R600). The MCTP command returns the health report. -/
  | mctpHealthReport
  /-- SET_ENDPOINT_ID (R599). The MCTP control message assigns the endpoint ID. -/
  | setEndpointId (op : BitVec 2) (eid : BitVec 8)
  /-- GET_ENDPOINT_ID (R599). The MCTP control message returns the endpoint ID. -/
  | getEndpointId
  /-- GET_MCTP_VERSION_SUPPORT (R599). The MCTP control message returns the supported MCTP versions. -/
  | getMctpVersionSupport (msgType : BitVec 8)
  /-- GET_MESSAGE_TYPE_SUPPORT (R599). The MCTP control message returns the supported message types. -/
  | getMessageTypeSupport
  /-- GET_VENDOR_DEFINED_MESSAGE_SUPPORT (R599). The MCTP control message returns vendor-defined message support. -/
  | getVendorDefinedMessageSupport (selector : BitVec 8)
  /-- ENTDAA (R597). The CCC assigns a dynamic address if CHAIN_IN was high, and CHAIN_OUT is then driven high. -/
  | entdaa (chainIn : Bool) (addr : Option (BitVec 7))
  /-- RSTDAA (R597). The CCC clears the dynamic address and drives CHAIN_OUT low. -/
  | rstdaa
  /-- ENEC (R595). The CCC enables target events. -/
  | enec (events : BitVec 8)
  /-- DISEC (R595). The CCC disables target events. -/
  | disec (events : BitVec 8)
  /-- SETMWL (R595). The CCC sets the maximum write length. -/
  | setmwl (n : BitVec 16)
  /-- SETMRL (R595). The CCC sets the maximum read length. -/
  | setmrl (n : BitVec 16)
  /-- GETMWL (R595). The CCC returns the maximum write length. -/
  | getmwl
  /-- GETMRL (R595). The CCC returns the maximum read length. -/
  | getmrl
  /-- GETPID (R596). The CCC returns the provisional ID. -/
  | getpid
  /-- GETBCR (R596). The CCC returns the BCR. -/
  | getbcr
  /-- GETDCR (R596). The CCC returns the DCR. -/
  | getdcr
  /-- GETSTATUS (R595). The CCC returns the target status. -/
  | getstatus
  /-- CHAIN_IN_RISE (R597). CHAIN_IN rises, enabling the module for address assignment. -/
  | chainInRise
  /-- HOT_JOIN (R597). Within 10 ms of PWR_GOOD or of CHAIN_IN rising, an unaddressed module with Hot-Join enabled requests Hot-Join. -/
  | hotJoin
  /-- MAINT_ENTER (R50). The service enters MAINTENANCE under quorum; from SERVICE it stops tenant fetching and ends undispatched commands with NOT_ACTIVE. -/
  | maintEnter (k : CoreId)
  /-- MAINT_DRAIN_END (R50). The MAINT_ENTER drain ends, the mode becomes MAINTENANCE and MAINT_ENTER completes. -/
  | maintDrainEnd
  /-- MAINT_EXIT (R47). The service leaves MAINTENANCE for SERVICE or STANDBY under quorum. -/
  | maintExit (k : CoreId)
  /-- IMAGE_REAPPLY (R48). The service arms the image path for one image of the given length and digest, for 60 s. -/
  | imageReapply (k : CoreId)
  /-- MODULE_RETIRE (R47). The service checks the serial number under quorum and completes, which schedules the erase. -/
  | moduleRetire (k : CoreId)
  /-- RETIRE_ERASE (R54). Within 100 µs of the MODULE_RETIRE completion write, MR, the domain roots, the identity key and working material are erased and the module enters ERASED. -/
  | retireErase
  /-- DIAG_ENTER (R546). Under a vendor grant, the service erases working material (and the domain roots if COMMISSIONED), clears the lock, powers PD25 and enters DIAGNOSTIC. -/
  | diagEnter (k : CoreId)
  /-- DIAG_EXIT (R547). The service powers PD25 down and performs a warm reset. -/
  | diagExit (k : CoreId)
  /-- PERST_ASSERT (R73). PERST_N of a port is asserted; the port's pigeonholes become DISABLED, undispatched commands are discarded and the configuration space resets. -/
  | perstAssert (portB : Bool)
  /-- PORT_LINK_DOWN (R73). A port's link goes down and the port is reset as for PERST_N. -/
  | portLinkDown (portB : Bool)
  /-- PERST_RELEASE (R579). PERST_N is released and the port's link begins training. -/
  | perstRelease (portB : Bool)
  /-- LINK_TRAINED (R68). A link completes training and the module records the rate and width, setting DEGRADED and PORT_EVENTS if it is degraded. -/
  | linkTrained (portB : Bool) (rate : BitVec 3) (width : BitVec 5)
  /-- FLR_VF (R445). A Function Level Reset of a VF resets the slot's pigeonholes and registers, but keeps its state, keys and replay records. -/
  | flrVf (fn : Fn)
  /-- FLR_PF0 (R75). A Function Level Reset of PF0 acts on that port's PF0 pigeonholes as a port reset does. -/
  | flrPf0 (portB : Bool)
  /-- VF_ENABLE (R67). The SR-IOV VF Enable is written, exposing the port's virtual functions. -/
  | vfEnable (portB : Bool) (enable : Bool) (numVfs : BitVec 16)
  /-- MSIX_UNMASK (R99). Unmasking an MSI-X vector whose pending bit is set sends its message. -/
  | msixUnmask (fn : Fn) (vector : BitVec 6)
  /-- ENABLE (R78). ENABLE is written 1; the ring configuration is checked and the pigeonhole enters READY, or ERROR. -/
  | enable (fn : Fn) (ph : BitVec 6) (depthLog2 : BitVec 5) (vector : BitVec 6)
  /-- ENABLE_OFF (R79). ENABLE is written 0; fetching stops and the drain begins. -/
  | enableOff (fn : Fn) (ph : BitVec 6)
  /-- RING_DRAIN_END (R79). The last completion of a draining pigeonhole is written and it enters DISABLED. -/
  | ringDrainEnd (ph : BitVec 12)
  /-- SQ_TAIL (R608). An SQ_TAIL doorbell write acts according to the pigeonhole state, with the range and overrun checks. -/
  | sqTail (fn : Fn) (ph : BitVec 6) (value : BitVec 16)
  /-- CQ_HEAD (R608). A CQ_HEAD doorbell write frees completion-ring space, releasing waiting completions. -/
  | cqHead (fn : Fn) (ph : BitVec 6) (value : BitVec 16)
  /-- FETCH_CREDIT (R113). The Sorting Office grants a pigeonhole a fetch credit and the port requests descriptors. -/
  | fetchCredit (portB : Bool)
  /-- DESCRIPTOR_FETCH (R94). A descriptor arrives, is stamped with the arrival Postmark and is checked in R94 order, then completed or placed. -/
  | descriptorFetch (ph : BitVec 12) (d : Descriptor)
  /-- PENDING_PLACEMENT (R120). A ready-list place frees and a command pending placement is placed. -/
  | pendingPlacement
  /-- INPUT_LANDED (R390). A command's input has landed in staging and its ready-list entry becomes eligible. -/
  | inputLanded (e : Nat) (data : Octets)
  /-- DISPATCH (R128). A free core with every gate ready receives its command; the rule sets swap and the core stamps the dispatch Postmark. -/
  | dispatch (k : CoreId)
  /-- COMPLETION_WRITE (R86). The port issues a completion entry at CQ_TAIL with the current phase, once CQ space and order allow. -/
  | completionWrite (e : Nat)
  /-- COALESCE_TIMER (R98). A TIME_US coalescing timer on delay list 3 expires and the vector condition is evaluated. -/
  | coalesceTimer (ph : BitVec 12)
  /-- SUPERVISOR_TIMER (R132). A supervisor timer on delay list 3 expires and raises its event. -/
  | supervisorTimer (insert : Option (BitVec 25 × BitVec 32))
  /-- HOST_ACCESS_FAULT (R71). A host-memory access for a command fails, and the command fails with HOST_FAULT or is held for a page request. -/
  | hostAccessFault (e : Nat) (translation : Bool) (written : Nat)
  /-- RING_ACCESS_FAULT (R72). A host-memory access to a ring fails and the pigeonhole enters ERROR. -/
  | ringAccessFault (ph : BitVec 12)
  /-- PAGE_GRANT (R71). A PRI page request is granted and the held command returns to its ready list. -/
  | pageGrant (e : Nat)
  /-- PAGE_WAIT_EXPIRY (R71). A command's entry on delay list 1 expires and the command completes with HOST_FAULT. -/
  | pageWaitExpiry (e : Nat)
  /-- REPLAY_EXPIRY (R108). A replay record's window ends by age, by count or by reuse of its output units. -/
  | replayExpiry (slot : Nat) (ph : BitVec 12) (cmdId : BitVec 64)
  /-- OPEN (R100). The service negotiates the command-set version and flags, and moves a READY pigeonhole to OPEN with a home cluster. -/
  | openCh (k : CoreId)
  /-- CLOSE (R105). A CLOSE that passes its checks stops fetching and the pigeonhole enters CLOSING. -/
  | closeCh (k : CoreId)
  /-- CLOSE_COMPLETE (R105). Every earlier command of a CLOSING pigeonhole has completed, so CLOSE completes and the pigeonhole enters READY. -/
  | closeComplete (ph : BitVec 12)
  /-- NOP (R105). The service (or instruction) completes with OK and no output. -/
  | nop (k : CoreId)
  /-- VERSION (R105). The service writes the 16-octet version record. -/
  | version (k : CoreId)
  /-- SO_DEFER (R133). A write to SO_DEFER ends the command's turn and defers it on delay list 2. -/
  | soDefer (k : CoreId) (ticks : BitVec 16)
  /-- DEFER_EXPIRY (R133). A deferred command's entry on delay list 2 expires and it returns to the tail of its queue. -/
  | deferExpiry (e : Nat)
  /-- ENQ (R122). The supervisor places level-0 internal work through ENQ. -/
  | enq (master : BitVec 7) (value : BitVec 32)
  /-- PH_SEL (R143). Writing PH_SEL snapshots the pigeonhole counters. -/
  | phSel (portB : Bool) (value : BitVec 12)
  /-- SLOT_SEL (R143). Writing SLOT_SEL snapshots the slot counters. -/
  | slotSel (portB : Bool) (value : BitVec 10)
  /-- HIST_SEL (R143). Writing HIST_SEL snapshots the waiting-time histogram. -/
  | histSel (portB : Bool) (cluster : BitVec 3) (level : BitVec 3)
  /-- CLR_MAX (R143). CLR_MAX clears MAX_DEPTH of the selected pigeonhole. -/
  | clrMax (portB : Bool)
  /-- CLR_SLOT (R143). CLR_SLOT clears the three counters of the selected slot. -/
  | clrSlot (portB : Bool)
  /-- CLR_HIST (R143). CLR_HIST clears the 16 histogram buckets of the selected cluster and level. -/
  | clrHist (portB : Bool)
  /-- CLR_DSTALL (R143). CLR_DSTALL clears all DSTALL counters. -/
  | clrDstall
  /-- BUSY_WINDOW_END (R141). A 1 ms or 1 s busy window ends at a whole timebase interval and the busy fractions update. -/
  | busyWindowEnd (second : Bool) (k : CoreId) (busy : BitVec 16)
  /-- SLOT_TAB_SEL (R437). Writing SLOT_TAB_SEL snapshots the selected slot's fields. -/
  | slotTabSel (portB : Bool) (value : BitVec 10)
  /-- REGISTER_WRITE (R6). A write to a register with no behaviour of its own sets, clears or is ignored according to its access code. -/
  | registerWrite (fn : Fn) (bar2 : Bool) (off : BitVec 16) (wide : Bool) (value : BitVec 64)
  /-- PIN_TRANSLATE (R159). The service deciphers a PIN block and re-enciphers it in the output format under the output key. -/
  | pinTranslate (k : CoreId)
  /-- PIN_VERIFY (R164). The service verifies a PIN against its PVV or offset reference. -/
  | pinVerify (k : CoreId)
  /-- PIN_GENERATE (R165). The service generates a PIN, its enciphered block and its reference. -/
  | pinGenerate (k : CoreId)
  /-- PIN_CHANGE (R167). The service verifies the old PIN and returns the new PIN's reference. -/
  | pinChange (k : CoreId)
  /-- CVC_GENERATE (R169). The service computes a card verification code. -/
  | cvcGenerate (k : CoreId)
  /-- CVC_VERIFY (R169). The service compares a presented card verification code. -/
  | cvcVerify (k : CoreId)
  /-- PIN_REF_GENERATE (R164). The service computes the reference for the PIN in a block. -/
  | pinRefGenerate (k : CoreId)
  /-- EMV_ARQC_VERIFY (R184). The service verifies an ARQC and optionally writes the ARPC. -/
  | emvArqcVerify (k : CoreId)
  /-- EMV_ARPC_GENERATE (R184). The service writes an ARPC without verifying. -/
  | emvArpcGenerate (k : CoreId)
  /-- EMV_SCRIPT_MAC (R185). The service computes a script MAC. -/
  | emvScriptMac (k : CoreId)
  /-- EMV_SCRIPT_ENCRYPT (R185). The service enciphers script data. -/
  | emvScriptEncrypt (k : CoreId)
  /-- EMV_SESSION_KEY (R186). The service exports the EMV session key as a key block. -/
  | emvSessionKey (k : CoreId)
  /-- DUKPT_IK_EXPORT (R191). The service exports a DUKPT initial key as a key block. -/
  | dukptIkExport (k : CoreId)
  /-- DUKPT_TERMINAL_KEY (R191). The service derives a terminal working key and writes its Envelope. -/
  | dukptTerminalKey (k : CoreId)
  /-- DUKPT_DECRYPT (R190). The service deciphers data under a DUKPT data key. -/
  | dukptDecrypt (k : CoreId)
  /-- DUKPT_ENCRYPT (R190). The service enciphers data under a DUKPT data key. -/
  | dukptEncrypt (k : CoreId)
  /-- DUKPT_MAC_VERIFY (R190). The service verifies a MAC under a DUKPT MAC key. -/
  | dukptMacVerify (k : CoreId)
  /-- DUKPT_MAC_GENERATE (R190). The service generates a MAC under a DUKPT MAC key. -/
  | dukptMacGenerate (k : CoreId)
  /-- MAC_GENERATE (R194). The service generates a MAC. -/
  | macGenerate (k : CoreId)
  /-- MAC_VERIFY (R194). The service verifies a MAC. -/
  | macVerify (k : CoreId)
  /-- KEY_GENERATE (R196). The service draws a key or seed and wraps it in an Envelope. -/
  | keyGenerate (k : CoreId)
  /-- KEY_DERIVE (R196). The service derives a child key and wraps it. -/
  | keyDerive (k : CoreId)
  /-- KEY_IMPORT (R197). The service imports an X9.143 key block as an Envelope. -/
  | keyImport (k : CoreId)
  /-- KEY_EXPORT (R198). The service exports a key as an X9.143 key block. -/
  | keyExport (k : CoreId)
  /-- RKL_RSA (R199). The service generates a KEK, OAEP-enciphers it to the terminal and signs the result. -/
  | rklRsa (k : CoreId)
  /-- RKL_ECDH (R200). The service exports a key under an ECDH-derived KBPK. -/
  | rklEcdh (k : CoreId)
  /-- ENVELOPE_MAKE (R196). The service wraps a referenced key under the template's attributes. -/
  | envelopeMake (k : CoreId)
  /-- ENVELOPE_UPGRADE (R202). The service converts a v1 envelope into an Envelope v3. -/
  | envelopeUpgrade (k : CoreId)
  /-- KEY_CHECK_VALUE (R201). The service writes a key check value. -/
  | keyCheckValue (k : CoreId)
  /-- GCM_ENCRYPT (R204). The service performs AES-GCM encryption of bulk data. -/
  | gcmEncrypt (k : CoreId)
  /-- GCM_DECRYPT (R205). The service performs AES-GCM decryption and zeroes the output if the tag fails. -/
  | gcmDecrypt (k : CoreId)
  /-- CBC_ENCRYPT (R203). The service performs CBC encryption. -/
  | cbcEncrypt (k : CoreId)
  /-- CBC_DECRYPT (R203). The service performs CBC decryption. -/
  | cbcDecrypt (k : CoreId)
  /-- CTR_CRYPT (R204). The service performs CTR encryption or decryption. -/
  | ctrCrypt (k : CoreId)
  /-- FF1_ENCRYPT (R206). The service performs FF1 encryption. -/
  | ff1Encrypt (k : CoreId)
  /-- FF1_DECRYPT (R206). The service performs FF1 decryption. -/
  | ff1Decrypt (k : CoreId)
  /-- RANDOM_BYTES (R353). The service returns LEN octets from the slot's DRBG instance. -/
  | randomBytes (k : CoreId)
  /-- ECDSA_SIGN (R260). The service signs with a hedged deterministic nonce in a fixed cycle count. -/
  | ecdsaSign (k : CoreId)
  /-- ECDSA_VERIFY (R262). The service verifies an ECDSA signature. -/
  | ecdsaVerify (k : CoreId)
  /-- ECDH (R261). The service computes Z and derives and wraps a key, or returns raw Z. -/
  | ecdh (k : CoreId)
  /-- EC_KEYGEN (R258). The service draws an EC seed, wraps it and returns the public point. -/
  | ecKeygen (k : CoreId)
  /-- RSA_SIGN (R258). The service makes an RSA signature by CRT. -/
  | rsaSign (k : CoreId)
  /-- RSA_VERIFY (R258). The service verifies an RSA signature. -/
  | rsaVerify (k : CoreId)
  /-- RSA_DECRYPT (R258). The service performs RSAES-OAEP decryption. -/
  | rsaDecrypt (k : CoreId)
  /-- RSA_KEYGEN (R258). The service draws an RSA seed, wraps it and returns the modulus. -/
  | rsaKeygen (k : CoreId)
  /-- CURVE_LOAD (R250). The service checks a curve entry and installs it in the table. -/
  | curveLoad (k : CoreId)
  /-- ATTEST (R473). The service returns an identity-signed attestation over the nonce. -/
  | attest (k : CoreId)
  /-- FRANK_CERT (R473). The service returns the Franking public key, its certificate and the identity certificate. -/
  | frankCert (k : CoreId)
  /-- COUNTER_READ (R298). The service returns one counter-table entry. -/
  | counterRead (k : CoreId)
  /-- CEREMONY_BEGIN (R319). The service opens a domain-root generate or load ceremony. -/
  | ceremonyBegin (k : CoreId)
  /-- SHARE_EXPORT (R319). The service releases one wrapped share to a signing officer. -/
  | shareExport (k : CoreId)
  /-- SHARE_SUBMIT (R319). The service accepts one wrapped share. -/
  | shareSubmit (k : CoreId)
  /-- CEREMONY_COMMIT (R320). The service installs the domain root in the warden, moving ISSUED to COMMISSIONED on the first install. -/
  | ceremonyCommit (k : CoreId)
  /-- DR_ERASE (R322). The service clears a domain root with no slots. -/
  | drErase (k : CoreId)
  /-- CEREMONY_TIMEOUT (R321). One hour after CEREMONY_BEGIN, the ceremony state is erased. -/
  | ceremonyTimeout
  /-- ARRAY_SELFTEST (R236). The service tests each lane in turn and reports which passed. -/
  | arraySelftest (k : CoreId) (failLanes : BitVec 64) (failHash : BitVec 16)
  /-- RNG_SELFTEST (R350). The service reruns the conditioner, derivation-function and expander KATs offline. -/
  | rngSelftest (k : CoreId) (condPass : BitVec 64) (dfPass : BitVec 4) (expPass : BitVec 4)
  /-- RNG_STATUS (R349). The service returns a snapshot of the entropy status registers. -/
  | rngStatus (k : CoreId)
  /-- RNG_CONFIG (R351). The service changes the conditioner mode after a start-up test of every cell. -/
  | rngConfig (k : CoreId) (passed : BitVec 64)
  /-- RNG_RAW_READ (R352). The service returns a cell's raw noise bits. -/
  | rngRawRead (k : CoreId)
  /-- SLOT_CREATE (R440). The service allocates a slot with its resources in one commit. -/
  | slotCreate (k : CoreId)
  /-- SLOT_DESTROY (R444). The service cancels the slot's undispatched commands and enters DESTROYING. -/
  | slotDestroy (k : CoreId)
  /-- SLOT_CLEANUP_END (R444). The last dispatched command of a destroyed slot completes, and its resources are released so that it becomes unallocated. -/
  | slotCleanupEnd (slot : Nat)
  /-- SLOT_QUIESCE (R442). The service stops the slot's fetching and begins draining it. -/
  | slotQuiesce (k : CoreId)
  /-- QUIESCE_DRAIN_END (R442). The slot has no command in flight and its dirty bits are written, so it enters QUIESCED and SLOT_QUIESCE completes. -/
  | quiesceDrainEnd (slot : Nat)
  /-- SLOT_RESUME (R443). The service returns a quiesced slot's pigeonholes to their resume states. -/
  | slotResume (k : CoreId)
  /-- SLOT_SAVE (R449). The service writes the sealed blob of a quiesced slot. -/
  | slotSave (k : CoreId)
  /-- SLOT_RESTORE (R452). The service installs a slot from a blob, QUIESCED. -/
  | slotRestore (k : CoreId)
  /-- LOG_ENABLE (R447). DIRTY_LOG ENABLE starts dirty-page logging into BITMAP_A. -/
  | logEnable (k : CoreId)
  /-- HARVEST (R447). DIRTY_LOG HARVEST flushes and switches logging to the other bitmap. -/
  | harvest (k : CoreId)
  /-- LOG_DISABLE (R447). DIRTY_LOG DISABLE flushes and ends logging. -/
  | logDisable (k : CoreId)
  /-- HEALTH_REPORT (R487). The service returns the 128-octet health report. -/
  | healthReport (k : CoreId)
  /-- BATTERY_LOG (R531). The service returns the battery log. -/
  | batteryLog (k : CoreId)
  /-- ROLE_SWAP (R515). The service stops admission and drains the active module, ahead of handing over the Crown. -/
  | roleSwap (k : CoreId)
  /-- ROLE_SWAP_DRAIN_END (R515). The drain ends and HANDOVER is sent, or DRAIN_MS expires and ROLE_SWAP completes with BUSY_RETRY. -/
  | roleSwapDrainEnd (inTime : Bool)
  /-- PAIR_FORCE (R512). The service has a detached standby take the Crown with a new pair epoch. -/
  | pairForce (k : CoreId) (peerIn : Bool)
  /-- DRY_FIRE (R534). The service opens a suppression window and stimulates one monitor. -/
  | dryFire (k : CoreId) (raw : Bool)
  /-- DRYFIRE_WINDOW_END (R535). The dry-fire window closes, the monitor is sampled again, a real condition raises a DEFERRED alarm, and DRY_FIRE completes. -/
  | dryfireWindowEnd (detected : Bool) (cleared : Bool) (detectNs : BitVec 32) (windowNs : BitVec 32) (raw : Bool) (unit : BitVec 16) (value : BitVec 32)
  /-- TAMPER_CONFIG (R533). The service replaces EXT_CFG. -/
  | tamperConfig (k : CoreId) (levels : BitVec 4)
  /-- QUORUM_CHALLENGE (R538). The service issues a challenge for a quorum action. -/
  | quorumChallenge (k : CoreId)
  /-- QUORUM_GRANT (R540). The service verifies the officers' signatures and holds a grant for 60 s. -/
  | quorumGrant (k : CoreId)
  /-- CHALLENGE_EXPIRY (R538). A challenge lapses 600 s after issue. -/
  | challengeExpiry (id : BitVec 32)
  /-- GRANT_EXPIRY (R540). An unconsumed grant lapses after 60 s. -/
  | grantExpiry (portB : Bool) (opcode : Code) (cmdId : BitVec 64)
  /-- UNLOCK (R544). Under quorum, the service clears the lock record and completes, ahead of the warm reset. -/
  | unlock (k : CoreId)
  /-- UNLOCK_RESET (R544). Within 1 ms of UNLOCK completing, the module performs a warm reset. -/
  | unlockReset
  /-- NOP_INSN (R373). The all-zero half does nothing. -/
  | nopInsn (k : CoreId)
  /-- MOV (R373). The instruction copies a register. -/
  | mov (k : CoreId) (d : BitVec 4) (a : BitVec 4)
  /-- ADD (R359). The instruction adds modulo 2^36. -/
  | addInsn (k : CoreId) (d : BitVec 4) (a : BitVec 4) (b : BitVec 4)
  /-- SUB (R359). The instruction subtracts modulo 2^36. -/
  | subInsn (k : CoreId) (d : BitVec 4) (a : BitVec 4) (b : BitVec 4)
  /-- AND (R373). The instruction computes a bitwise and. -/
  | andInsn (k : CoreId) (d : BitVec 4) (a : BitVec 4) (b : BitVec 4)
  /-- OR (R373). The instruction computes a bitwise or. -/
  | orInsn (k : CoreId) (d : BitVec 4) (a : BitVec 4) (b : BitVec 4)
  /-- XOR (R373). The instruction computes a bitwise xor. -/
  | xorInsn (k : CoreId) (d : BitVec 4) (a : BitVec 4) (b : BitVec 4)
  /-- ADDC (R373). The instruction adds 32-bit values with carry. -/
  | addcInsn (k : CoreId) (d : BitVec 4) (a : BitVec 4) (b : BitVec 4)
  /-- SUBB (R373). The instruction subtracts 32-bit values with borrow. -/
  | subbInsn (k : CoreId) (d : BitVec 4) (a : BitVec 4) (b : BitVec 4)
  /-- SHL (R373). The instruction shifts left by a register amount. -/
  | shlInsn (k : CoreId) (d : BitVec 4) (a : BitVec 4) (b : BitVec 4)
  /-- SHR (R373). The instruction shifts right logically by a register amount. -/
  | shrInsn (k : CoreId) (d : BitVec 4) (a : BitVec 4) (b : BitVec 4)
  /-- SLTU (R373). The instruction sets d to 1 on an unsigned less-than. -/
  | sltuInsn (k : CoreId) (d : BitVec 4) (a : BitVec 4) (b : BitVec 4)
  /-- MUL (R373). The instruction gives the low 32 bits of a product. -/
  | mulInsn (k : CoreId) (d : BitVec 4) (a : BitVec 4) (b : BitVec 4)
  /-- MULHU (R373). The instruction gives the high 32 bits of a product. -/
  | mulhuInsn (k : CoreId) (d : BitVec 4) (a : BitVec 4) (b : BitVec 4)
  /-- NORM (R360). The instruction propagates the guard carry of a register. -/
  | norm (k : CoreId) (d : BitVec 4) (a : BitVec 4)
  /-- GGET (R373). The instruction reads the guard bits. -/
  | gget (k : CoreId) (d : BitVec 4) (a : BitVec 4)
  /-- GCLR (R373). The instruction clears the guard bits. -/
  | gclr (k : CoreId) (d : BitVec 4) (a : BitVec 4)
  /-- LI (R373). The instruction loads an 8-bit immediate. -/
  | li (k : CoreId) (d : BitVec 4) (imm : BitVec 8)
  /-- ADDI (R373). The short instruction adds a signed 8-bit immediate. -/
  | addi (k : CoreId) (d : BitVec 4) (imm : BitVec 8)
  /-- SHLI (R373). The short instruction shifts left by an immediate. -/
  | shli (k : CoreId) (d : BitVec 4) (imm : BitVec 8)
  /-- SHRI (R373). The short instruction shifts right by an immediate. -/
  | shri (k : CoreId) (d : BitVec 4) (imm : BitVec 8)
  /-- LD (R377). The short NEAR load has one delay slot. -/
  | ld (k : CoreId) (d : BitVec 4) (a : BitVec 4) (u : BitVec 4)
  /-- ST (R373). The short instruction stores a NEAR word. -/
  | st (k : CoreId) (v : BitVec 4) (a : BitVec 4) (u : BitVec 4)
  /-- NORMS (R360). The instruction normalises a NEAR word in place and advances the address. -/
  | norms (k : CoreId) (a : BitVec 4)
  /-- ZEROS (R373). The instruction zeroes a NEAR word and advances the address. -/
  | zeros (k : CoreId) (a : BitVec 4)
  /-- BEQZ (R373). The instruction branches when a register is zero. -/
  | beqz (k : CoreId) (a : BitVec 4) (off : BitVec 8)
  /-- BNEZ (R373). The instruction branches when a register is non-zero. -/
  | bnez (k : CoreId) (a : BitVec 4) (off : BitVec 8)
  /-- JR (R373). The instruction jumps to a register. -/
  | jr (k : CoreId) (a : BitVec 4)
  /-- JALR (R373). The instruction jumps to a register and links in g31. -/
  | jalr (k : CoreId) (a : BitVec 4)
  /-- REP (R379). The prefix repeats the next instruction up to 64 times, uninterruptibly. -/
  | rep (k : CoreId) (n : BitVec 6) (body : BitVec 36)
  /-- REPI (R381). The prefix repeats the next instruction interruptibly. -/
  | repi (k : CoreId) (n : BitVec 12) (body : BitVec 36)
  /-- DONE (R395). The instruction waits for the core's writes and jobs, hands off the completion and ends the turn with scrubbing. -/
  | doneInsn (k : CoreId) (a : BitVec 4) (b : BitVec 4)
  /-- RFE (R386). The instruction returns from an event handler to EPC. -/
  | rfe (k : CoreId)
  /-- CYC (R373). The instruction reads the command's core cycles so far. -/
  | cyc (k : CoreId) (d : BitVec 4)
  /-- MOVS (R373). The instruction reads a special register. -/
  | movs (k : CoreId) (d : BitVec 4) (sp : BitVec 4)
  /-- MOVT (R373). The instruction writes st, repc or ev. -/
  | movt (k : CoreId) (sp : BitVec 4) (a : BitVec 4)
  /-- ALU (R373). The long form performs the operation of an SOP on g0 to g31. -/
  | alu (k : CoreId) (op : BitVec 5) (d : BitVec 5) (a : BitVec 5) (b : BitVec 5)
  /-- SEL (R373). The instruction selects a or b without a branch. -/
  | sel (k : CoreId) (d : BitVec 5) (a : BitVec 5) (b : BitVec 5) (c : BitVec 5)
  /-- ADDI_LONG (R373). The long instruction adds an 18-bit immediate. -/
  | addiLong (k : CoreId) (d : BitVec 5) (a : BitVec 5) (imm : BitVec 18)
  /-- ANDI (R373). The instruction ands with an immediate. -/
  | andi (k : CoreId) (d : BitVec 5) (a : BitVec 5) (imm : BitVec 18)
  /-- ORI (R373). The instruction ors with an immediate. -/
  | ori (k : CoreId) (d : BitVec 5) (a : BitVec 5) (imm : BitVec 18)
  /-- XORI (R373). The instruction xors with an immediate. -/
  | xori (k : CoreId) (d : BitVec 5) (a : BitVec 5) (imm : BitVec 18)
  /-- MOVI (R373). The instruction loads an 18-bit immediate. -/
  | movi (k : CoreId) (d : BitVec 5) (imm : BitVec 18)
  /-- LUI (R373). The instruction loads an immediate times 2^18. -/
  | lui (k : CoreId) (d : BitVec 5) (imm : BitVec 18)
  /-- SHLI_LONG (R373). The long instruction shifts left by an immediate. -/
  | shliLong (k : CoreId) (d : BitVec 5) (a : BitVec 5) (imm : BitVec 18)
  /-- SHRI_LONG (R373). The long instruction shifts right by an immediate. -/
  | shriLong (k : CoreId) (d : BitVec 5) (a : BitVec 5) (imm : BitVec 18)
  /-- LD_LONG (R377). The long NEAR load has an 18-bit offset. -/
  | ldLong (k : CoreId) (d : BitVec 5) (a : BitVec 5) (off : BitVec 18)
  /-- ST_LONG (R373). The long NEAR store has an 18-bit offset. -/
  | stLong (k : CoreId) (v : BitVec 5) (a : BitVec 5) (off : BitVec 18)
  /-- BEQ (R373). The instruction branches on equality. -/
  | beq (k : CoreId) (a : BitVec 5) (b : BitVec 5) (off : BitVec 18)
  /-- BNE (R373). The instruction branches on inequality. -/
  | bne (k : CoreId) (a : BitVec 5) (b : BitVec 5) (off : BitVec 18)
  /-- BLTU (R373). The instruction branches on an unsigned less-than. -/
  | bltu (k : CoreId) (a : BitVec 5) (b : BitVec 5) (off : BitVec 18)
  /-- BGEU (R373). The instruction branches on an unsigned greater-or-equal. -/
  | bgeu (k : CoreId) (a : BitVec 5) (b : BitVec 5) (off : BitVec 18)
  /-- JAL (R373). The instruction jumps relative and links. -/
  | jal (k : CoreId) (off : BitVec 18)
  /-- FLD (R366). The instruction issues a far load of one bus word. -/
  | fld (k : CoreId) (seg : BitVec 3) (d : BitVec 5) (a : BitVec 5) (off : BitVec 10)
  /-- FST (R366). The instruction issues a far store of one bus word. -/
  | fst (k : CoreId) (seg : BitVec 3) (v : BitVec 5) (a : BitVec 5) (off : BitVec 10)
  /-- FMR (R367). The instruction starts a far-move from FAR to NEAR, in pieces. -/
  | fmr (k : CoreId) (seg : BitVec 3) (d : BitVec 5) (a : BitVec 5) (b : BitVec 5)
  /-- FMW (R367). The instruction starts a far-move from NEAR to FAR, in pieces. -/
  | fmw (k : CoreId) (seg : BitVec 3) (d : BitVec 5) (a : BitVec 5) (b : BitVec 5)
  /-- FAR_ANSWER (R368). A far access or far-move piece is answered, resuming the core or issuing the next piece. -/
  | farAnswer (k : CoreId) (r : FarReply)
  /-- CYCLE_LIMIT (R399). A custom command's cycle count reaches MAX_CYCLES and the command ends with a terminal event. -/
  | cycleLimit (k : CoreId)
  /-- WMU_CLR (R239). The instruction clears the accumulator and its residue. -/
  | wmuClr (k : CoreId)
  /-- WMU_SETP (R239). The instruction sets the limb and output pointers. -/
  | wmuSetp (k : CoreId) (gl : BitVec 4) (go : BitVec 4)
  /-- WMU_LDM (R239). The instruction loads a multiplicand from operand memory. -/
  | wmuLdm (k : CoreId) (m1 : Bool) (ga : BitVec 4)
  /-- WMU_MAC (R239). The instruction accumulates the multiplicand times a register limb. -/
  | wmuMac (k : CoreId) (m1 : Bool) (b : BitVec 4)
  /-- WMU_MACS (R239). The instruction accumulates a streamed limb. -/
  | wmuMacs (k : CoreId) (m1 : Bool)
  /-- WMU_MACS_SH (R239). The instruction accumulates a streamed limb, then writes and shifts out the low limb. -/
  | wmuMacsSh (k : CoreId) (m1 : Bool)
  /-- WMU_PEEK (R239). The instruction reads out the low accumulator limb. -/
  | wmuPeek (k : CoreId) (d : BitVec 4)
  /-- WMU_POP (R239). The instruction reads out the low limb and shifts. -/
  | wmuPop (k : CoreId) (d : BitVec 4)
  /-- WMU_POPS (R239). The instruction writes the low limb to operand memory and shifts. -/
  | wmuPops (k : CoreId)
  /-- WMU_STAT (R239). The instruction reads the WMU status word. -/
  | wmuStat (k : CoreId) (d : BitVec 4)
  /-- SCRUB_END (R246). A 256-clock WMU scrub ends and the core may be dispatched again. -/
  | scrubEnd (k : CoreId)
  /-- ECB (R217). A cipher job in ECB mode is submitted. -/
  | ecb (k : CoreId) (j : CipherJob)
  /-- CBC (R217). A cipher job in CBC mode is submitted. -/
  | cbc (k : CoreId) (j : CipherJob)
  /-- CTR (R217). A cipher job in CTR mode is submitted. -/
  | ctr (k : CoreId) (j : CipherJob)
  /-- CBC_MAC (R217). A CBC-MAC cipher job is submitted, optionally with the FINAL3 output transform. -/
  | cbcMac (k : CoreId) (j : CipherJob)
  /-- CMAC (R217). A CMAC cipher job is submitted. -/
  | cmac (k : CoreId) (j : CipherJob)
  /-- GCM (R217). A GCM cipher job is submitted. -/
  | gcm (k : CoreId) (j : CipherJob)
  /-- KEYCHAIN (R219). The key unit submits a key-chain job whose result goes into a lane key register. -/
  | keychain (k : CoreId) (byCore : Bool) (j : CipherJob)
  /-- HASH_JOB (R221). A hash or HMAC job is submitted to hash control. -/
  | hashJob (k : CoreId) (j : HashJob)
  /-- JOB_END (R218). A cipher or hash job ends and its result area is written. -/
  | jobEnd (k : CoreId) (hash : Bool) (tag : BitVec 2) (r : JobReply)
  /-- LANE_PARITY (R228). A lane detects a parity error, erases its registers and restarts the job elsewhere. -/
  | laneParity (hash : Bool) (at_ : ParityAt)
  /-- LANE_KAT_END (R232). A faulted lane's known-answer tests end, and it returns to service or is retired. -/
  | laneKatEnd (hash : Bool) (lane : BitVec 6) (pass : Bool)
  /-- ARRAY_SWITCH (R226). A pooled-mode cause begins or ends, and the array switches between bound and pooled mode. -/
  | arraySwitch
  /-- REBUILD_END (R223). The key-cache rebuild ends, or 50 ms pass, and the REBUILD cause ends. -/
  | rebuildEnd
  /-- LOAD_LANE (R305). The key-unit request loads a resolved key into a lane key register. -/
  | loadLane (k : CoreId) (req : KeyReq)
  /-- LOAD_HASH (R305). The key-unit request loads HMAC states into a hash key register. -/
  | loadHash (k : CoreId) (req : KeyReq)
  /-- LOAD_PRIVATE (R305). The key-unit request writes private-key material into operand memory. -/
  | loadPrivate (k : CoreId) (req : KeyReq)
  /-- DUKPT (R305). The key-unit request derives a DUKPT working key into a lane key register. -/
  | dukpt (k : CoreId) (req : KeyReq)
  /-- EMV (R305). The key-unit request derives an EMV session key into a lane key register. -/
  | emv (k : CoreId) (req : KeyReq)
  /-- DERIVE (R305). The key-unit request loads kdf(parent, label) into a register. -/
  | derive (k : CoreId) (req : KeyReq)
  /-- GENERATE (R308). The key-unit request draws a key or seed over the key bus. -/
  | generateKey (k : CoreId) (req : KeyReq)
  /-- WRAP (R305). The key-unit request writes an Envelope v3 of the key in a register. -/
  | wrap (k : CoreId) (req : KeyReq)
  /-- IMPORT_BLOCK (R305). The key-unit request imports a key block. -/
  | importKeyBlock (k : CoreId) (req : KeyReq)
  /-- EXPORT_BLOCK (R305). The key-unit request exports a key block. -/
  | exportKeyBlock (k : CoreId) (req : KeyReq)
  /-- SECRET (R305). The key-unit request derives a key from a shared secret and erases the secret. -/
  | secret (k : CoreId) (req : KeyReq)
  /-- UPGRADE (R305). The key-unit request converts a v1 envelope. -/
  | upgrade (k : CoreId) (req : KeyReq)
  /-- OAEP_KEY (R305). The key-unit request OAEP-encodes a key into operand memory. -/
  | oaepKey (k : CoreId) (req : KeyReq)
  /-- KEY_REQUEST_END (R306). A key-unit request ends and its result area is written. -/
  | keyRequestEnd (k : CoreId)
  /-- RANDOM_REQUEST (R339). A core requests randomness at the entropy request port. -/
  | randomRequest (k : CoreId) (req : RandReq)
  /-- RANDOM_REQUEST_END (R339). A generate ends and its output and RSTATUS are written. -/
  | randomRequestEnd (k : CoreId)
  /-- ENTROPY_RELEASE (R340). An instance becomes able to serve and a command waiting on delay list 0 returns to its ready list. -/
  | entropyRelease (e : Nat)
  /-- ENTROPY_WAIT_EXPIRY (R340). A command's wait limit on delay list 0 expires and it completes with ENTROPY_NOT_READY. -/
  | entropyWaitExpiry (e : Nat)
  /-- APT_WINDOW_CLOSE (R330). A cell's 1,024-bit window closes and its bits enter the pool if no test failed. -/
  | aptWindowClose (cell : BitVec 6) (failed : Bool)
  /-- CELL_RETEST (R332). One second after quarantine, a cell runs its start-up test again and is made healthy or retired. -/
  | cellRetest (cell : BitVec 6) (pass : Bool)
  /-- ENTROPY_FAIL_DEADLINE (R349). One second of unrecovered entropy failure raises an L-class alarm. -/
  | entropyFailDeadline
  /-- DRBG_KAT (R345). The periodic 10 ms derivation-function and expander KAT runs on a DRBG lane. -/
  | drbgKat (lane : BitVec 2) (df : Bool) (expander : Bool)
  /-- KU_MASK_REDRAW (R334). The key unit's register masks are redrawn every 1 ms from I5. -/
  | kuMaskRedraw
  /-- GATE_REQUEST (R407). A gate checks the Seal of a request and admits or refuses it under the set of its epoch. -/
  | gateRequest (init : BitVec 7) (len : Nat) (msg : BitVec 640) (sl : BitVec 24)
  /-- RULE_TABLE_RETURN (R420). A slot's rule-table read returns to the gate loader. -/
  | ruleTableReturn (k : CoreId) (primary : Bool) (secondary : Bool)
  /-- SET_FREE (R422). A DRAINING set's count reaches zero and the set becomes FREE. -/
  | setFree (gate : BitVec 5) (master : BitVec 7)
  /-- LOAD (R418). The G22 command copies the staging descriptors into the selected set. -/
  | loadSet (master : BitVec 7) (gate : BitVec 8) (set : Bool) (regions : List (BitVec 64))
  /-- ARM (R408). The G22 command arms the selected set with the overlap and alignment checks. -/
  | armSet (master : BitVec 7) (gate : BitVec 8) (set : Bool)
  /-- SWAP (R421). The G22 command swaps a fixed master's sets at every gate. -/
  | swapSet (master : BitVec 7)
  /-- FREE (R418). The G22 command frees an armed set. -/
  | freeSet (master : BitVec 7) (gate : BitVec 8) (set : Bool)
  /-- GATE_SELF_CHECK (R426). The 1 ms gate self-check compares decisions with the central table; a failure bypasses the gate. -/
  | gateSelfCheck (gate : BitVec 5) (cause : BitVec 2) (central : Bool)
  /-- LOCKSTEP_MISMATCH (R479). A lockstep mismatch fences the cluster, ends its jobs and begins the spare takeover or re-steering. -/
  | lockstepMismatch (k : CoreId)
  /-- CLUSTER_REPLACED (R479). The spare finishes its reset and I-SRAM check and takes its first dispatch under logical number k. -/
  | clusterReplaced (cluster : BitVec 3)
  /-- FAILED_CLUSTER_TEST (R481). The failed cluster's test cycle ends, and it becomes the spare or is retired. -/
  | failedClusterTest (unit : BitVec 4) (pass : Bool)
  /-- SPARE_TEST (R478). The spare runs its periodic test cycle and is quarantined if it fails. -/
  | spareTest (pass : Bool)
  /-- MEMORY_ERROR (R483). A working-memory read is uncorrectable, and it is retried, its page poisoned, or the channel retired. -/
  | memoryError (addr : BitVec 31) (retryOk : Bool) (cached : List Nat) (table : Option (BitVec 2))
  /-- MODULE_FAULT (R486). A module fault drops the Crown and performs a warm reset. -/
  | moduleFault
  /-- CHECKPOINT_SIGN (R467). A checkpoint journal entry is signed by the Franking key. -/
  | checkpointSign
  /-- JOURNAL_STREAM (R471). The module streams journal entries to the host buffer and signals the vector. -/
  | journalStream
  /-- STREAM_EN (R471). Setting STREAM_EN starts streaming at START_SEQ. -/
  | streamEn (portB : Bool) (on : Bool)
  /-- HEAD (R471). A HEAD write marks entries consumed, releasing stalled commits. -/
  | journalHead (portB : Bool) (value : BitVec 64)
  /-- PTM_EXCHANGE (R458). A PTM exchange every PERIOD_MS aligns the timebase by step or slew, or refuses. -/
  | ptmExchange (host : Option (BitVec 64))
  /-- IDLE_FRAME (R489). Each side sends an idle frame at least every 1 µs. -/
  | idleFrame
  /-- FRAME_REPLAY (R489). A frame that is unacknowledged for 3 µs is sent again from the replay buffer. -/
  | frameReplay (seq : Nat)
  /-- MIRROR_LINK_DOWN (R489). The mirror link goes down and retrains. -/
  | mirrorLinkDown
  /-- MIRROR_LINK_UP (R489). Retraining completes and a session starts with HELLO. -/
  | mirrorLinkUp
  /-- HELLO (R491). A HELLO message is received, checked and used to derive the session keys. -/
  | hello (h : HelloMsg)
  /-- KEY_CONFIRM (R491). A key confirmation is received; a failure ends the session. -/
  | keyConfirm (ok : Bool)
  /-- LEASE_RENEW_TIMER (R501). Every L/4, the active module sends a LEASE_RENEW. -/
  | leaseRenewTimer
  /-- LEASE_RENEW (R503). The standby accepts and answers a renewal and extends E_s. -/
  | leaseRenew (h : MsgHead) (sent : BitVec 64) (leaseUs : BitVec 32) (n : BitVec 32)
  /-- LEASE_ACK (R502). The active module receives a renewal acknowledgement and releases held completions. -/
  | leaseAck (h : MsgHead) (n : BitVec 32)
  /-- LEASE_GUARD (R502). At local E_a − G, the active module stops releasing completions. -/
  | leaseGuard
  /-- LEASE_EXPIRY (R502). At local E_a, the lease timer drops CROWN_OUT. -/
  | leaseExpiry
  /-- TAKE_WINDOW (R503). The standby's take window opens and it takes the Crown if PEER_CROWN_IN is low. -/
  | takeWindow (peerIn : Bool)
  /-- TAKE_WINDOW_MISS (R503). The take window closes unused and the standby becomes detached. -/
  | takeWindowMiss
  /-- CROWN_RECHECK (R505). Two microseconds after raising CROWN_OUT, PEER_CROWN_IN is checked again. -/
  | crownRecheck (peerIn : Bool)
  /-- RETAKE (R505). After a random delay, a module that backed off retakes the Crown. -/
  | retake (peerIn : Bool)
  /-- RECLAIM (R504). At E_a + W with PEER_CROWN_IN low, the active module reclaims the Crown and runs alone. -/
  | reclaim (peerIn : Bool)
  /-- PEER_CROWN_IN_RISE (R504). PEER_CROWN_IN rises, and a module holding or reclaiming enters STANDBY. -/
  | peerCrownInRise
  /-- COMMIT (R498). The standby writes the mirrored commit and answers with COMMIT_ACK. -/
  | commitMsg (h : MsgHead) (m : CommitMsg)
  /-- COMMIT_ACK (R498). The active module commits locally and releases the completion. -/
  | commitAck (h : MsgHead) (seq : Nat)
  /-- JOURNAL (R469). The standby writes the mirrored journal entries and HEAD. -/
  | journalMsg (h : MsgHead) (entries : List Octets) (head : BitVec 64)
  /-- STANDBY_EVENT (R469). The active module journals the standby's events with ORIGIN 1. -/
  | standbyEvent (h : MsgHead) (entry : Octets)
  /-- CACHE_LIST_TIMER (R303). At least every 1 ms, the active module sends its cache label list. -/
  | cacheListTimer
  /-- CACHE_LIST (R303). The standby records the cache label list. -/
  | cacheList (h : MsgHead) (labels : List (Nat × Octets))
  /-- TIME_SYNC (R493). A time exchange every 1 ms lets the standby keep its skew within 50 ns. -/
  | timeSync (h : MsgHead) (skew : BitVec 64)
  /-- BULK (R496). The joining standby applies a bulk table chunk. -/
  | bulk (h : MsgHead) (chunk : BulkChunk) (last : Bool)
  /-- BULK_ACK (R497). The active module receives a bulk acknowledgement; the last one makes the standby synchronised. -/
  | bulkAck (h : MsgHead) (last : Bool)
  /-- HANDOVER (R515). The standby takes the Crown in a ROLE_SWAP and enters SERVICE. -/
  | handover (h : MsgHead) (tm : BitVec 64) (peerIn : Bool)
  /-- HANDOVER_ACK (R515). The old active module enters STANDBY and ROLE_SWAP completes. -/
  | handoverAck (h : MsgHead)
  /-- DETACH (R510). The standby becomes detached and answers. -/
  | detach (relay : Bool) (h : MsgHead)
  /-- DETACH_ACK (R510). The active module commits waiting COMMITs alone and runs alone. -/
  | detachAck (relay : Bool) (h : MsgHead)
  /-- DETACH_TIMEOUT (R510). After 1 ms of link loss, the active module sends DETACH by relay. -/
  | detachTimeout
  /-- SELF_DETACH (R510). After 10 ms of link loss, the standby detaches itself. -/
  | selfDetach
  /-- RELAY_IN (R508). A write of the last RELAY_IN word delivers a relay message for action. -/
  | relayIn (value : BitVec 64)
  /-- DRILL_OVERDUE (R516). DRILL_AGE_S passes 86,400, which sets DRILL_OVERDUE and raises a notice. -/
  | drillOverdue
  /-- MESH_OPEN (R519). A mesh net does not return its sequence and an E-class alarm is raised. -/
  | meshOpen (net : BitVec 2)
  /-- MESH_SHORT (R519). A mesh net returns another's sequence and an E-class alarm is raised. -/
  | meshShort (net : BitVec 2)
  /-- MESH_DRIFT (R519). A net's resistance drifts more than 15% and an E-class alarm is raised. -/
  | meshDrift (net : BitVec 2) (dev : BitVec 16)
  /-- LID (R519). A lid contact opens for 10 µs and an E-class alarm is raised. -/
  | lid (contact : BitVec 2)
  /-- LIGHT (R519). Light is sensed and an E-class alarm is raised. -/
  | light (sensor : BitVec 8)
  /-- TJ_EXTREME (R519). A main-die temperature is extreme and an E-class alarm is raised. -/
  | tjExtreme (sensor : BitVec 8) (dc : BitVec 16)
  /-- TW_EXTREME (R519). The warden temperature is extreme and an E-class alarm is raised. -/
  | twExtreme (dc : BitVec 16)
  /-- ZEROIZE (R532). ZEROIZE_N is low for 10 µs and an E-class alarm is raised. -/
  | zeroize
  /-- TAMPER_EXT (R533). An external tamper input is at its active level for 10 µs and raises an alarm of its configured class. -/
  | tamperExt (n : BitVec 2)
  /-- VBAT_CRIT (R519). VBAT falls below 2.3 V on battery and an E-class alarm is raised. -/
  | vbatCrit (mv : BitVec 16)
  /-- VBAT_LOW (R519). VBAT is low with main power present and a notice or F-class event is raised. -/
  | vbatLow (mv : BitVec 16)
  /-- SUPPLY (R519). A rail leaves ±10% for more than 20 ns and an L-class alarm is raised. -/
  | supply (rail : BitVec 3) (mv : BitVec 16)
  /-- MONITOR_WINDOW (R561). A clock-monitor window ends and its FOSC count is judged. -/
  | monitorWindow (clock : BitVec 3) (count : BitVec 8)
  /-- TJ_LIMIT (R519). A main-die temperature passes its limit and an L-class alarm is raised. -/
  | tjLimit (sensor : BitVec 8) (dc : BitVec 16)
  /-- TJ_WARN (R519). A main-die temperature passes its warning level and a notice is raised. -/
  | tjWarn (sensor : BitVec 8) (dc : BitVec 16)
  /-- MESH_REDRAW (R520). Every 1 s, the warden draws new mesh drive sequences. -/
  | meshRedraw
  /-- MASK_ROTATION (R315). Every second, the warden draws a new mask key and re-encrypts its SRAM. -/
  | maskRotation
  /-- XB_CHECK (R554). Once a second, the warden compares XB with SOSC and may move the RTC to SOSC. -/
  | xbCheck (edges : Nat)
  /-- CLK_GATE_CTRL (R564). The supervisor switches a clock gate, or the write is refused. -/
  | clkGateCtrl (master : BitVec 7) (gate : BitVec 5) (on : Bool)
  /-- PD_CTRL (R566). The supervisor starts switching a power domain, or the write is refused. -/
  | pdCtrl (master : BitVec 7) (pd : BitVec 5) (on : Bool)
  /-- PD_SWITCH_END (R567). A power-domain switch-on or switch-off sequence completes. -/
  | pdSwitchEnd
  /-- DRBG_LANE_PARITY (R345). A DRBG lane detects a parity error, which sets entropy-failure cause 3 until its KATs pass again. -/
  | drbgLaneParity (lane : BitVec 2)
  /-- MIRROR_LANE_ERROR (R490). A mirror-link lane meets uncorrectable codewords or loses lock, and after enough such events is retired and the link narrows. -/
  | mirrorLaneError (lane : BitVec 2) (lock : Bool)
  /-- SLEW_END (R458). SLEW_LEFT reaches zero and SLEWING clears, ending a timebase slew. -/
  | slewEnd
  /-- NEW_SECOND_COPY (R485). The rebuilt second copy of a critical table, or the reserve-page copy of a poisoned page, is complete and comes into use. -/
  | newSecondCopy (table : BitVec 2) (copy : Bool) (page : Bool)
  /-- VBAT_LOW_CLEAR (R576). VBAT returns above 2.5 V, so ALARM_STATUS.VBAT_LOW clears and ALERT_N is released if nothing else holds it. -/
  | vbatLowClear (mv : BitVec 16)
  /-- D_SRAM_CLEARED (R393). The end-of-turn zeroing of the D-SRAM blocks a turn wrote completes, so the core may be dispatched again. -/
  | dSramCleared (k : CoreId)
  /-- BOUNDARY_SCAN (R545). A TAP instruction (BYPASS, IDCODE, SAMPLE/PRELOAD or EXTEST) is shifted in and executed on TCK, TMS and TDI while PD25 is powered. -/
  | boundaryScan (ir : ScanIr) (tdi : Octets) (pins : Octets)
  deriving DecidableEq, Repr

end Sys2Proof
end

