-- ==== Sys2Proof/Config.lean ====
section
/-! DEFINITION. What an implementation fixes and what the spec leaves open: opaque constants with no body, so
that no proof can rest on a value of theirs.  Such are: free values (drawn by applying a constant to the state's counter
`free`), facts of one part (keys and programs in boot ROM), and encodings or codes that the spec does not state. -/

namespace Sys2Proof.Config

/-! ### Free values -/

/-- A free natural number: a drawn value, a stall, a lateness (log entry 3). -/
opaque freeNat : Nat → Nat
/-- A free octet, for drawn octet strings (log entry 3). -/
opaque freeOctet : Nat → Octet

/-! ### Facts of one part -/

/-- Words of the standard service programs and library in I-SRAM (R362, R364). -/
opaque stdProgram : Nat → W36
/-- Words of the standard constant tables in cluster-shared memory (R362). -/
opaque stdConstant : Nat → BitVec 32
/-- Entry and handler (if any) of the standard program for an opcode (R390, R384). -/
opaque stdEntry : Code → BitVec 25
opaque stdHandler : Code → BitVec 25
/-- The 256 residue check primes of boot ROM (R243). -/
opaque residuePrime : BitVec 8 → Nat
/-- Weleoma's firmware-signing public key, x ‖ y (R34). -/
opaque firmwareKey : Octets
/-- Weleoma's field-access public key, x ‖ y (R541). -/
opaque fieldAccessKey : Octets
/-- Status of CEREMONY_COMMIT while shares are missing, which the manual does not state (log entry 34). -/
opaque sharesMissing : Code
/-- Status of an image record whose BODY_LEN disagrees with its type, which the manual states only for two types (log
entry 42). -/
opaque recordLength : Code
/-- The identity certificate, DER (R473). -/
opaque identityCert : Octets

/-- Attributes that the manual does not state for an Envelope that a service makes without a
template: opcode and variant to class, USAGE_MASK (2 octets), usage (2), mode, exportability, key
version (2), flags (log entry 19). -/
opaque madeAttrs : Nat → Nat → Octets

/-- Curve-table index of a raw EC scalar that a key block brings (R253; log entry 22). -/
opaque importCurve : Octets → Nat

/-- Cause code of the F-class events of R403, R419 and R424, which R550 does not list (log entry 31). -/
opaque gateEvent : Nat → BitVec 16
/-- How a refusal's notice packs master, tag, address and kind into VALUE (R405; log entry 31). -/
opaque refusalValue : Nat → Nat → Nat → Nat → BitVec 32

/-- Versions that a message type reports, and the 16-bit command set of the vendor ID, which the manual does not state
(R599; log entry 32). -/
opaque mctpVersions : Nat → Octets
opaque mctpVendorSet : Octets

/-- Octets of the secret in the BLOCK of a SECRET request, which its zero fill does not show (R305; log
entry 26). -/
opaque secretLen : Octets → Nat

/-- Unit kind and cause codes of a RETIREMENT journal entry (R465; log entry 24). -/
opaque unitKind : Nat → Nat
opaque retireCause : Nat → Nat
/-- Trigger of a MODE entry that neither a service nor an alarm causes (R549; log entry 24). -/
opaque modeTrigger : Nat → Code
/-- BOOT_FAIL of a boot step whose failure has no stated status: steps 3, 5 and 6 (R60, R62, R234; log entry 38). -/
opaque bootStatus : Nat → Code
/-- Cause that a DETACH carries: the standby leaves, the link is lost (R492; log entry 24). -/
opaque detachCause : Nat → Code
/-- Cause octet of a TIME entry: step, slew start, refusal (R465; log entry 24). -/
opaque timeCause : Nat → Octet

/-- How B and the counter are written in the label of an RSA candidate (R254; log entry 49). -/
opaque rsaLabel : Nat → Nat → Octets
/-- Miller–Rabin rounds for a modulus of B bits, and the base of round j for a candidate, which the manual leaves to
FIPS 186-5 (R254; log entry 49). -/
opaque millerRounds : Nat → Nat
opaque millerBase : Nat → Nat → Nat

end Sys2Proof.Config
end

