-- ==== Sys2Proof/Machine/Primitive.lean ====
section
/-! DEFINITION. The primitives of the standards that the manual names without giving their equations: AES (FIPS 197), DES
(FIPS 46-3), SHA-2 (FIPS 180-4), and the curves that boot ROM holds (RFC 5639, FIPS 186-5; R247).  PRESUMED (log entry 23).  The
primitives are irreducible, so that only the kernel evaluates them, where a test asks it to. -/

namespace Sys2Proof.Machine.Primitive

/-- Entry i, w bits wide, of a table written as one number with entry 0 lowest. -/
def entry (table w i : Nat) : Nat := (table >>> (w * i)) % 2 ^ w

/-- The number that octets spell, first octet most significant. -/
def ofOctets (o : Octets) : Nat := o.foldl (fun n x => n * 256 + x.toNat) 0

/-- n octets of a number, most significant first. -/
def toOctets : Nat → Nat → Octets
  | 0, _ => []
  | n + 1, v => BitVec.ofNat 8 (v >>> (8 * n)) :: toOctets n v

/-- Groups of n; f is at least how many there are. -/
def groups {α : Type} (n : Nat) : Nat → List α → List (List α)
  | 0, _ => []
  | _ + 1, [] => []
  | f + 1, l => l.take n :: groups n f (l.drop n)

/-! ### SHA-2 (FIPS 180-4) -/

/-- K of SHA-384 and SHA-512; the upper halves of the first 64 are those of SHA-256. -/
def shaK : Nat :=
  0x59F111F1B605D0193956C25BF348B538E9B5DBA58189DBBCB5C0FBCFEC4D3B2F7137449123EF65CD428A2F98D728AE22 |||
  (0x550C7DC3D5FFB4E2243185BE4EE4B28C12835B0145706FBED807AA98A3030242AB1C5ED5DA6D8118923F82A4AF194F9B <<< 384) |||
  (0xEFBE4786384F25E3E49B69C19EF14AD2C19BF174CF6926949BDC06A725C7123580DEB1FE3B1696B172BE5D74F27B896F <<< 768) |||
  (0x76F988DA831153B55CB0A9DCBD41FBD44A7484AA6EA6E4832DE92C6F592B0275240CA1CC77AC9C650FC19DC68B8CD5B5 <<< 1152) |||
  (0xD5A79147930AA725C6E00BF33DA88FC2BF597FC7BEEF0EE4B00327C898FB213FA831C66D2DB43210983E5152EE66DFAB <<< 1536) |||
  (0x53380D139D95B3DF4D2C6DFC5AC42AED2E1B21385C26C92627B70A8546D22FFC142929670A0E6E7006CA6351E003826F <<< 1920) |||
  (0xA81A664BBC423001A2BFE8A14CF1036492722C851482353B81C2C92E47EDAEE6766A0ABB3C77B2A8650A73548BAF63DE <<< 2304) |||
  (0x106AA07032BBD1B8F40E35855771202AD69906245565A910D192E819D6EF5218C76C51A30654BE30C24B8B70D0F89791 <<< 2688) |||
  (0x4ED8AA4AE3418ACB391C0CB3C5C95A6334B0BCB5E19B48A82748774CDF8EEB991E376C085141AB5319A4C116B8D2D0C8 <<< 3072) |||
  (0x8CC702081A6439EC84C87814A1F0AB7278A5636F43172F60748F82EE5DEFB2FC682E6FF3D6B2B8A35B9CCA4F7763E373 <<< 3456) |||
  (0xD186B8C721C0C207CA273ECEEA26619CC67178F2E372532BBEF9A3F7B2C67915A4506CEBDE82BDE990BEFFFA23631E28 <<< 3840) |||
  (0x1B710B35131C471B113F9804BEF90DAE0A637DC5A2C898A606F067AA72176FBAF57D4F7FEE6ED178EADA7DD6CDE0EB1E <<< 4224) |||
  (0x597F299CFC657E2A4CC5D4BECB3E42B6431D67C49C100D4C3C9EBE0A15C9BEBC32CAAB7B40C7249328DB77F523047D84 <<< 4608) |||
  (0x6C44198C4A4758175FCB6FAB3AD6FAEC <<< 4992)

/-- Initial hash values of SHA-384, and of SHA-512, whose upper halves are those of SHA-256. -/
def shaH384 : Nat :=
  0x8EB44A876858151167332667FFC00B31152FECD8F70E59399159015A3070DD17629A292A367CD507CBBB9D5DC1059ED8 |||
  (0x47B5481DBEFA4FA4DB0C2E0D64F98FA7 <<< 384)
def shaH512 : Nat :=
  0x9B05688C2B3E6C1F510E527FADE682D1A54FF53A5F1D36F13C6EF372FE94F82BBB67AE8584CAA73B6A09E667F3BCC908 |||
  (0x5BE0CD19137E21791F83D9ABFB41BD6B <<< 384)

/-- Rotation of a w-bit word to the right. -/
def rotr (w n x : Nat) : Nat := (x >>> n ||| x <<< (w - n)) % 2 ^ w

/-- What differs between 32-bit and 64-bit words: rotations of the four sigmas, the last two with a shift. -/
structure ShaKind where
  w : Nat
  rounds : Nat
  /-- Rotations of Σ0, Σ1, σ0, σ1; the third of σ0 and σ1 is a shift. -/
  big0 : Nat × Nat × Nat
  big1 : Nat × Nat × Nat
  small0 : Nat × Nat × Nat
  small1 : Nat × Nat × Nat

def sha32 : ShaKind := ⟨32, 64, (2, 13, 22), (6, 11, 25), (7, 18, 3), (17, 19, 10)⟩
def sha64 : ShaKind := ⟨64, 80, (28, 34, 39), (14, 18, 41), (1, 8, 7), (19, 61, 6)⟩

def ShaKind.big (k : ShaKind) (r : Nat × Nat × Nat) (x : Nat) : Nat :=
  rotr k.w r.1 x ^^^ rotr k.w r.2.1 x ^^^ rotr k.w r.2.2 x
def ShaKind.small (k : ShaKind) (r : Nat × Nat × Nat) (x : Nat) : Nat :=
  rotr k.w r.1 x ^^^ rotr k.w r.2.1 x ^^^ x >>> r.2.2
def ShaKind.k (k : ShaKind) (t : Nat) : Nat := entry shaK 64 t >>> (64 - k.w)

/-- Extend the message schedule, newest word first, by n words. -/
def ShaKind.schedule (k : ShaKind) : Nat → List Nat → List Nat
  | 0, l => l
  | n + 1, l =>
    k.schedule n ((k.small k.small1 (l.getD 1 0) + l.getD 6 0 + k.small k.small0 (l.getD 14 0) + l.getD 15 0) % 2 ^ k.w :: l)

/-- One round on a to h with K + W. -/
def ShaKind.round (k : ShaKind) (v : List Nat) (kw : Nat) : List Nat :=
  match v with
  | [a, b, c, d, e, f, g, h] =>
    let t1 := h + k.big k.big1 e + ((e &&& f) ^^^ ((2 ^ k.w - 1 - e) &&& g)) + kw
    let t2 := k.big k.big0 a + ((a &&& b) ^^^ (a &&& c) ^^^ (b &&& c))
    [(t1 + t2) % 2 ^ k.w, a, b, c, (d + t1) % 2 ^ k.w, e, f, g]
  | v => v

/-- One block into the hash value. -/
def ShaKind.block (k : ShaKind) (hv : List Nat) (b : Octets) : List Nat :=
  let words := (groups (k.w / 8) 16 b).map ofOctets
  let sched := (k.schedule (k.rounds - 16) words.reverse).reverse
  let v := sched.zipIdx.foldl (fun v x => k.round v (k.k x.2 + x.1)) hv
  List.zipWith (fun a b => (a + b) % 2 ^ k.w) hv v

/-- The padded message: 1, zeros, and the length in bits in two words. -/
def ShaKind.pad (k : ShaKind) (o : Octets) : Octets :=
  let b := 2 * k.w
  let z := (b - (o.length + 1 + k.w / 4) % b) % b
  o ++ [0x80] ++ List.replicate z 0 ++ toOctets (k.w / 4) (8 * o.length)

def ShaKind.digest (k : ShaKind) (hv : List Nat) (o : Octets) : Octets :=
  let m := k.pad o
  (((groups (2 * k.w) m.length m).foldl k.block hv).map (toOctets (k.w / 8))).flatten

/-- SHA-256, SHA-384 or SHA-512, named by digest length in octets. -/
@[irreducible] def sha2 (len : Nat) (o : Octets) : Octets :=
  if len = 32 then sha32.digest ((List.range 8).map (fun i => entry shaH512 64 i >>> 32)) o
  else if len = 48 then (sha64.digest ((List.range 8).map (entry shaH384 64)) o).take 48
  else sha64.digest ((List.range 8).map (entry shaH512 64)) o

/-! ### AES (FIPS 197) -/

/-- S-box and its inverse. -/
def aesS : Nat :=
  0x1531D871F1E5A534CCF73F362693FDB7C072A49CAFA2D4ADF04759FA7DC982CA76ABD7FE2B670130C56F6BF27B777C63 |||
  (0xCF584C4A39BECB6A5BB1FC20ED00D153842FE329B3D63B52A05A6E1B1A2C830975B227EBE28012079A059618C323C704 <<< 384) |||
  (0x73195D643D7EA7C41744975FEC130CCDD2F3FF1021DAB6BCF5389D928F40A351A89F3C507F02F94585334D43FBAAEFD0 <<< 768) |||
  (0x08AE7A65EAF4566CA94ED58D6D37C8E779E4959162ACD3C25C2406490A3A32E0DB0B5EDE14B8EE4688902A22DC4F8160 <<< 1152) |||
  (0xDF2855CEE9871E9B948ED9691198F8E19E1DC186B95735610EF6034866B53E708A8BBD4B1F74DDE8C6B4A61C2E2578BA <<< 1536) |||
  (0x16BB54B00F2D99416842E6BF0D89A18C <<< 1920)
def aesInvS : Nat :=
  0x4EC3FA420B954CEE3D23C2A632947B54CBE9DEC444438E3487FF2F9B8239E37CFBD7F3819EA340BF38A53630D56A0952 |||
  (0x849D8DA75746155EDAB9EDFD5048706C92B6655DCC5CA4D41698688664F6F87225D18B6D49A25B76B224D92866A12E08 <<< 384) |||
  (0x73E6B4F0CECFF297EADC674F4111913A6B8A130103BDAFC1020F3FCA8F1E2CD00645B3B80558E4F70AD3BC8C00ABD890 <<< 768) |||
  (0xF45ACD78FEC0DB9A2079D2C64B3E56FC1BBE18AA0E62B76F89C5291D711AF1476EDF751CE837F9E28535ADE72274AC96 <<< 1152) |||
  (0x619953833CBBEBC8B0F52AAE4D3BE0A0EF9CC9939F7AE52D0D4AB519A97F51605FEC8027591012B131C7078833A8DD1F <<< 1536) |||
  (0x7D0C2155631469E126D677BA7E042B17 <<< 1920)

def subByte (x : Nat) : Nat := entry aesS 8 x
def invSubByte (x : Nat) : Nat := entry aesInvS 8 x

/-- Multiplication by x in the field of AES. -/
def xtime (x : Nat) : Nat := if x < 128 then 2 * x else (2 * x) ^^^ 0x11B

/-- Multiplication by a constant below 16. -/
def times (c x : Nat) : Nat :=
  let x2 := xtime x
  let x4 := xtime x2
  (if c.testBit 0 then x else 0) ^^^ (if c.testBit 1 then x2 else 0) ^^^ (if c.testBit 2 then x4 else 0) ^^^
    (if c.testBit 3 then xtime x4 else 0)

/-- A column under the circulant matrix whose first row is given. -/
def mixColumn (a b c d : Nat) (col : List Nat) : List Nat :=
  match col with
  | [w, x, y, z] =>
    [times a w ^^^ times b x ^^^ times c y ^^^ times d z, times d w ^^^ times a x ^^^ times b y ^^^ times c z,
     times c w ^^^ times d x ^^^ times a y ^^^ times b z, times b w ^^^ times c x ^^^ times d y ^^^ times a z]
  | l => l

def mixColumns (a b c d : Nat) (s : List Nat) : List Nat := ((groups 4 4 s).map (mixColumn a b c d)).flatten

/-- Octets of the state, column by column, taken in the order of an index list. -/
def permute (order : List Nat) (s : List Nat) : List Nat := order.map (fun i => s.getD i 0)

def shiftRows (s : List Nat) : List Nat := permute [0, 5, 10, 15, 4, 9, 14, 3, 8, 13, 2, 7, 12, 1, 6, 11] s
def invShiftRows (s : List Nat) : List Nat := permute [0, 13, 10, 7, 4, 1, 14, 11, 8, 5, 2, 15, 12, 9, 6, 3] s

def addKey (k s : List Nat) : List Nat := List.zipWith (· ^^^ ·) s k

/-- n more words of the key schedule, newest first; i is the index of the next word and rc its round constant. -/
def expandKey (nk : Nat) : Nat → Nat → Nat → List (List Nat) → List (List Nat)
  | 0, _, _, l => l
  | n + 1, i, rc, l =>
    let t := l.headD []
    let g := if i % nk = 0 then addKey [rc, 0, 0, 0] ((t.drop 1 ++ t.take 1).map subByte)
             else if nk > 6 ∧ i % nk = 4 then t.map subByte else t
    expandKey nk n (i + 1) (if i % nk = 0 then xtime rc else rc) (addKey (l.getD (nk - 1) []) g :: l)

/-- Round keys of 16 octets, first to last. -/
def roundKeys (key : Octets) : List (List Nat) :=
  let nk := key.length / 4
  let words := (groups 4 nk (key.map (·.toNat))).reverse
  let all := (expandKey nk (4 * (nk + 7) - nk) nk 1 words).reverse
  (groups 4 (nk + 7) all).map (·.flatten)

def ofState (s : List Nat) : Octets := s.map (BitVec.ofNat 8)

/-- AES on one block: key of 16, 24 or 32 octets, block of 16. -/
@[irreducible] def aesEnc (key block : Octets) : Octets :=
  match roundKeys key with
  | [] => []
  | k :: ks =>
    let s := ks.dropLast.foldl
      (fun s rk => addKey rk (mixColumns 2 3 1 1 (shiftRows (s.map subByte)))) (addKey k (block.map (·.toNat)))
    ofState (addKey (ks.getLastD []) (shiftRows (s.map subByte)))

@[irreducible] def aesDec (key block : Octets) : Octets :=
  match (roundKeys key).reverse with
  | [] => []
  | k :: ks =>
    let s := ks.dropLast.foldl
      (fun s rk => mixColumns 14 11 13 9 (addKey rk ((invShiftRows s).map invSubByte))) (addKey k (block.map (·.toNat)))
    ofState (addKey (ks.getLastD []) ((invShiftRows s).map invSubByte))

/-! ### DES (FIPS 46-3): bits are numbered from 1 at the most significant end, as the standard does -/

/-- Bits of an n-bit number in the order of a table. -/
def pick (n : Nat) (table : List Nat) (x : Nat) : Nat := table.foldl (fun r i => 2 * r + (x >>> (n - i)) % 2) 0

/-- Initial permutation. -/
def desIp : List Nat :=
  [58, 50, 42, 34, 26, 18, 10, 2, 60, 52, 44, 36, 28, 20, 12, 4,
   62, 54, 46, 38, 30, 22, 14, 6, 64, 56, 48, 40, 32, 24, 16, 8,
   57, 49, 41, 33, 25, 17, 9, 1, 59, 51, 43, 35, 27, 19, 11, 3,
   61, 53, 45, 37, 29, 21, 13, 5, 63, 55, 47, 39, 31, 23, 15, 7]
/-- Its inverse. -/
def desFp : List Nat :=
  [40, 8, 48, 16, 56, 24, 64, 32, 39, 7, 47, 15, 55, 23, 63, 31,
   38, 6, 46, 14, 54, 22, 62, 30, 37, 5, 45, 13, 53, 21, 61, 29,
   36, 4, 44, 12, 52, 20, 60, 28, 35, 3, 43, 11, 51, 19, 59, 27,
   34, 2, 42, 10, 50, 18, 58, 26, 33, 1, 41, 9, 49, 17, 57, 25]
/-- Expansion of the right half. -/
def desE : List Nat :=
  [32, 1, 2, 3, 4, 5, 4, 5, 6, 7, 8, 9, 8, 9, 10, 11,
   12, 13, 12, 13, 14, 15, 16, 17, 16, 17, 18, 19, 20, 21, 20, 21,
   22, 23, 24, 25, 24, 25, 26, 27, 28, 29, 28, 29, 30, 31, 32, 1]
/-- Permutation of the S-boxes' output. -/
def desP : List Nat :=
  [16, 7, 20, 21, 29, 12, 28, 17, 1, 15, 23, 26, 5, 18, 31, 10,
   2, 8, 24, 14, 32, 27, 3, 9, 19, 13, 30, 6, 22, 11, 4, 25]
/-- Permuted choice 1. -/
def desPc1 : List Nat :=
  [57, 49, 41, 33, 25, 17, 9, 1, 58, 50, 42, 34, 26, 18, 10, 2,
   59, 51, 43, 35, 27, 19, 11, 3, 60, 52, 44, 36, 63, 55, 47, 39,
   31, 23, 15, 7, 62, 54, 46, 38, 30, 22, 14, 6, 61, 53, 45, 37,
   29, 21, 13, 5, 28, 20, 12, 4]
/-- Permuted choice 2. -/
def desPc2 : List Nat :=
  [14, 17, 11, 24, 1, 5, 3, 28, 15, 6, 21, 10, 23, 19, 12, 4,
   26, 8, 16, 7, 27, 20, 13, 2, 41, 52, 31, 37, 47, 55, 30, 40,
   51, 45, 33, 48, 44, 49, 39, 56, 34, 53, 46, 42, 50, 36, 29, 32]
/-- S-boxes 1 to 8: 64 entries of 4 bits each, by row and column, entry 0 lowest. -/
def desS : List Nat :=
  [0xD60AE3B5719428CF05A379CFB26D8E148359BC6A1D2E47F07095C6A38BF21D4E,
   0x9E50C76B24F31A8DF2396C851D4AB7E05B96A10CE82F74D3A50CD27943B6E81F,
   0xC25B3EF478960DA17EA5C21B03F8946D1FBCE582A643907D824B7CD15F36E90A,
   0xE27CB5498D1A60F34825E31FD7BC096A9EA1C27430F65B8DF4CB5821A9603ED7,
   0x354A90F6D2E17C8BE0365C9F87DAB1246893AF051D74C2BE9E0DF3586BA714C2,
   0xD80671EBAF59C2346BD1A4073C825FE983B0ED1659C724FAB57E43D08629FA1C,
   0xC32EF0597A418DB6295086FAE73CDB4168F2C53EA1947B0D16A579C3D80FE2B4,
   0xB65309CFD8A47E12853FDA602EC914B729E0B65C473A8DF17C05E39A1BF6482D]

/-- The cipher function of the right half and a round key. -/
def desF (r k : Nat) : Nat :=
  let x := pick 32 desE r ^^^ k
  pick 32 desP (desS.zipIdx.foldl (fun acc b =>
    let six := (x >>> (42 - 6 * b.2)) % 64
    16 * acc + entry b.1 4 (16 * (2 * (six / 32) + six % 2) + six / 2 % 16)) 0)

/-- Rotation of 28 bits to the left. -/
def rotl28 (n x : Nat) : Nat := (x <<< n ||| x >>> (28 - n)) % 2 ^ 28

/-- The 16 round keys. -/
def desKeys (key : Nat) : List Nat :=
  let cd := pick 64 desPc1 key
  ([1, 1, 2, 2, 2, 2, 2, 2, 1, 2, 2, 2, 2, 2, 2, 1].foldl (fun (acc : (Nat × Nat) × List Nat) n =>
    let c := rotl28 n acc.1.1
    let d := rotl28 n acc.1.2
    ((c, d), acc.2 ++ [pick 56 desPc2 (c <<< 28 ||| d)])) ((cd >>> 28, cd % 2 ^ 28), [])).2

/-- DES on one block with the round keys in the order given. -/
def desRun (keys : List Nat) (block : Octets) : Octets :=
  let x := pick 64 desIp (ofOctets block)
  let (l, r) := keys.foldl (fun (acc : Nat × Nat) k => (acc.2, acc.1 ^^^ desF acc.2 k)) (x >>> 32, x % 2 ^ 32)
  toOctets 8 (pick 64 desFp (r <<< 32 ||| l))

@[irreducible] def desEnc (key block : Octets) : Octets := desRun (desKeys (ofOctets key)) block
@[irreducible] def desDec (key block : Octets) : Octets := desRun (desKeys (ofOctets key)).reverse block

/-! ### The curves of boot ROM (R247) -/

/-- Parameters of a curve: bits of p and of n, p, a, b, the base point and n. -/
structure Params where
  name : String
  fieldBits : Nat
  orderBits : Nat
  p : Nat
  a : Nat
  b : Nat
  gx : Nat
  gy : Nat
  n : Nat

/-- Entry 0: brainpoolP256r1. -/
def curve0 : Params :=
  { name := "brainpoolP256r1", fieldBits := 256, orderBits := 256,
    p := 0xA9FB57DBA1EEA9BC3E660A909D838D726E3BF623D52620282013481D1F6E5377,
    a := 0x7D5A0975FC2C3057EEF67530417AFFE7FB8055C126DC5C6CE94A4B44F330B5D9,
    b := 0x26DC5C6CE94A4B44F330B5D9BBD77CBF958416295CF7E1CE6BCCDC18FF8C07B6,
    gx := 0x8BD2AEB9CB7E57CB2C4B482FFC81B7AFB9DE27E1E3BD23C23A4453BD9ACE3262,
    gy := 0x547EF835C3DAC4FD97F8461A14611DC9C27745132DED8E545C1D54C72F046997,
    n := 0xA9FB57DBA1EEA9BC3E660A909D838D718C397AA3B561A6F7901E0E82974856A7 }

/-- Entry 1: brainpoolP384r1. -/
def curve1 : Params :=
  { name := "brainpoolP384r1", fieldBits := 384, orderBits := 384,
    p := 0x8CB91E82A3386D280F5D6F7E50E641DF152F7109ED5456B412B1DA197FB71123ACD3A729901D1A71874700133107EC53,
    a := 0x7BC382C63D8C150C3C72080ACE05AFA0C2BEA28E4FB22787139165EFBA91F90F8AA5814A503AD4EB04A8C7DD22CE2826,
    b := 0x4A8C7DD22CE28268B39B55416F0447C2FB77DE107DCD2A62E880EA53EEB62D57CB4390295DBC9943AB78696FA504C11,
    gx := 0x1D1C64F068CF45FFA2A63A81B7C13F6B8847A3E77EF14FE3DB7FCAFE0CBD10E8E826E03436D646AAEF87B2E247D4AF1E,
    gy := 0x8ABE1D7520F9C2A45CB1EB8E95CFD55262B70B29FEEC5864E19C054FF99129280E4646217791811142820341263C5315,
    n := 0x8CB91E82A3386D280F5D6F7E50E641DF152F7109ED5456B31F166E6CAC0425A7CF3AB6AF6B7FC3103B883202E9046565 }

/-- Entry 2: brainpoolP512r1. -/
def curve2 : Params :=
  { name := "brainpoolP512r1", fieldBits := 512, orderBits := 512,
    p := 0xAADD9DB8DBE9C48B3FD4E6AE33C9FC07CB308DB3B3C9D20ED6639CCA703308717D4D9B009BC66842AECDA12AE6A380E62881FF2F2D82C68528AA6056583A48F3,
    a := 0x7830A3318B603B89E2327145AC234CC594CBDD8D3DF91610A83441CAEA9863BC2DED5D5AA8253AA10A2EF1C98B9AC8B57F1117A72BF2C7B9E7C1AC4D77FC94CA,
    b := 0x3DF91610A83441CAEA9863BC2DED5D5AA8253AA10A2EF1C98B9AC8B57F1117A72BF2C7B9E7C1AC4D77FC94CADC083E67984050B75EBAE5DD2809BD638016F723,
    gx := 0x81AEE4BDD82ED9645A21322E9C4C6A9385ED9F70B5D916C1B43B62EEF4D0098EFF3B1F78E2D0D48D50D1687B93B97D5F7C6D5047406A5E688B352209BCB9F822,
    gy := 0x7DDE385D566332ECC0EABFA9CF7822FDF209F70024A57B1AA000C55B881F8111B2DCDE494A5F485E5BCA4BD88A2763AED1CA2B2FA8F0540678CD1E0F3AD80892,
    n := 0xAADD9DB8DBE9C48B3FD4E6AE33C9FC07CB308DB3B3C9D20ED6639CCA70330870553E5C414CA92619418661197FAC10471DB1D381085DDADDB58796829CA90069 }

/-- Entry 3: P-256. -/
def curve3 : Params :=
  { name := "P-256", fieldBits := 256, orderBits := 256,
    p := 0xFFFFFFFF00000001000000000000000000000000FFFFFFFFFFFFFFFFFFFFFFFF,
    a := 0xFFFFFFFF00000001000000000000000000000000FFFFFFFFFFFFFFFFFFFFFFFC,
    b := 0x5AC635D8AA3A93E7B3EBBD55769886BC651D06B0CC53B0F63BCE3C3E27D2604B,
    gx := 0x6B17D1F2E12C4247F8BCE6E563A440F277037D812DEB33A0F4A13945D898C296,
    gy := 0x4FE342E2FE1A7F9B8EE7EB4A7C0F9E162BCE33576B315ECECBB6406837BF51F5,
    n := 0xFFFFFFFF00000000FFFFFFFFFFFFFFFFBCE6FAADA7179E84F3B9CAC2FC632551 }

/-- Entry 4: P-384. -/
def curve4 : Params :=
  { name := "P-384", fieldBits := 384, orderBits := 384,
    p := 0xFFFFFFFFFFFFFFFFFFFFFFFFFFFFFFFFFFFFFFFFFFFFFFFFFFFFFFFFFFFFFFFEFFFFFFFF0000000000000000FFFFFFFF,
    a := 0xFFFFFFFFFFFFFFFFFFFFFFFFFFFFFFFFFFFFFFFFFFFFFFFFFFFFFFFFFFFFFFFEFFFFFFFF0000000000000000FFFFFFFC,
    b := 0xB3312FA7E23EE7E4988E056BE3F82D19181D9C6EFE8141120314088F5013875AC656398D8A2ED19D2A85C8EDD3EC2AEF,
    gx := 0xAA87CA22BE8B05378EB1C71EF320AD746E1D3B628BA79B9859F741E082542A385502F25DBF55296C3A545E3872760AB7,
    gy := 0x3617DE4A96262C6F5D9E98BF9292DC29F8F41DBD289A147CE9DA3113B5F0B8C00A60B1CE1D7E819D7A431D7C90EA0E5F,
    n := 0xFFFFFFFFFFFFFFFFFFFFFFFFFFFFFFFFFFFFFFFFFFFFFFFFC7634D81F4372DDF581A0DB248B0A77AECEC196ACCC52973 }

/-- Entry 5: P-521. -/
def curve5 : Params :=
  { name := "P-521", fieldBits := 521, orderBits := 521,
    p := 0x1FFFFFFFFFFFFFFFFFFFFFFFFFFFFFFFFFFFFFFFFFFFFFFFFFFFFFFFFFFFFFFFFFFFFFFFFFFFFFFFFFFFFFFFFFFFFFFFFFFFFFFFFFFFFFFFFFFFFFFFFFFFFFFFFFF,
    a := 0x1FFFFFFFFFFFFFFFFFFFFFFFFFFFFFFFFFFFFFFFFFFFFFFFFFFFFFFFFFFFFFFFFFFFFFFFFFFFFFFFFFFFFFFFFFFFFFFFFFFFFFFFFFFFFFFFFFFFFFFFFFFFFFFFFFC,
    b := 0x51953EB9618E1C9A1F929A21A0B68540EEA2DA725B99B315F3B8B489918EF109E156193951EC7E937B1652C0BD3BB1BF073573DF883D2C34F1EF451FD46B503F00,
    gx := 0xC6858E06B70404E9CD9E3ECB662395B4429C648139053FB521F828AF606B4D3DBAA14B5E77EFE75928FE1DC127A2FFA8DE3348B3C1856A429BF97E7E31C2E5BD66,
    gy := 0x11839296A789A3BC0045C8A5FB42C7D1BD998F54449579B446817AFBD17273E662C97EE72995EF42640C550B9013FAD0761353C7086A272C24088BE94769FD16650,
    n := 0x1FFFFFFFFFFFFFFFFFFFFFFFFFFFFFFFFFFFFFFFFFFFFFFFFFFFFFFFFFFFFFFFFFA51868783BF2F966B7FCC0148F709A5D03BB5C9B8899C47AEBB6FB71E91386409 }

/-- Octets 0x000 to 0x1FF of a boot ROM entry, cofactor 1 (R247, R248). -/
def curveRom (i : Nat) : Octets :=
  let c := if i = 0 then curve0 else if i = 1 then curve1 else if i = 2 then curve2 else if i = 3 then curve3
    else if i = 4 then curve4 else curve5
  let nm : Octets := c.name.toList.map (fun x => BitVec.ofNat 8 x.toNat)
  [BitVec.ofNat 8 i, 1] ++ [BitVec.ofNat 8 c.fieldBits, BitVec.ofNat 8 (c.fieldBits / 256)] ++
    [BitVec.ofNat 8 c.orderBits, BitVec.ofNat 8 (c.orderBits / 256), 0, 0] ++ nm ++ List.replicate (16 - nm.length) 0 ++
    toOctets 72 c.p ++ toOctets 72 c.a ++ toOctets 72 c.b ++ toOctets 72 c.gx ++ toOctets 72 c.gy ++ toOctets 72 c.n ++
    List.replicate 56 0

end Sys2Proof.Machine.Primitive
end

