-- ==== Sys2Proof/Machine/State.lean ====
section
/-! DEFINITION. The state of one PRK-3680 module as plain data, a structure for each unit of the part,
and State.reset.  A field's docstring gives its width, the rule and file of spec/ that names it
(chapter number in parentheses) and, where it is not the default written beside it, its reset. -/

namespace Sys2Proof.Machine

/-! ### Postmarks and counters -/

/-- A 96-bit Postmark: TIME, source ID, sequence (R461). -/
structure Postmark where
  /-- TIME in ns, 64 bits (R461, 14). -/
  time : BitVec 64 := 0
  /-- Source ID, 16 bits (R461, 14). -/
  src : BitVec 16 := 0
  /-- Sequence, 16 bits (R462, 14). -/
  seq : BitVec 16 := 0
  deriving DecidableEq, Repr

/-- What one Postmark source keeps (R462). -/
structure PmSource where
  /-- Sequence of the last Postmark stamped, 16 bits (R462, 14). -/
  seq : BitVec 16 := 0
  /-- Time of the last Postmark stamped, 64 bits (R462, 14). -/
  last : BitVec 64 := 0
  /-- How many Postmarks carry that time, at most 64 (R462, 14). -/
  same : Nat := 0
  deriving DecidableEq, Repr

/-- A 48-bit statistics counter with its overflow bit (R474). -/
structure Stat where
  /-- Count, 48 bits (R474, 14). -/
  count : BitVec 48 := 0
  /-- OVF, 1 bit (R474, 14). -/
  ovf : Bool := false
  deriving DecidableEq, Repr

/-! ### Logical cores -/

/-- Wide multiplier unit of a core (chapter 08, WMU state). -/
structure Wmu where
  /-- Operand memory, 2,048 words of 36 bits (R238, 08). -/
  opmem : Tab W36 := []
  /-- Multiplicand M0, 576 bits (R239, 08). -/
  m0 : BitVec 576 := 0
  /-- Multiplicand M1, 576 bits (R239, 08). -/
  m1 : BitVec 576 := 0
  /-- Accumulator ACC, 640 bits (R239, 08). -/
  acc : BitVec 640 := 0
  /-- Limb pointer LP, 11 bits (R239, 08). -/
  lp : BitVec 11 := 0
  /-- Output pointer OP, 11 bits (R239, 08). -/
  op : BitVec 11 := 0
  /-- Residue RES_M0, below the check prime (R242, 08). -/
  resM0 : Nat := 0
  /-- Residue RES_M1 (R242, 08). -/
  resM1 : Nat := 0
  /-- Residue RES_ACC (R242, 08). -/
  resAcc : Nat := 0
  /-- USED, 1 bit (R245, 08). -/
  used : Bool := false
  /-- ACNT, 32 bits (R241, 08). -/
  acnt : BitVec 32 := 0
  /-- RFAULT, 1 bit (R242, 08). -/
  rfault : Bool := false
  /-- A scrub is in progress: STAT.BUSY (R245, 08). -/
  scrubbing : Bool := false
  deriving DecidableEq, Repr

/-- A far access that waits for its answer (R366, R367, R368). -/
inductive FarOp where
  /-- FLD into register d. -/
  | load (d : Nat) (addr : Nat)
  /-- FST of a bus word. -/
  | store (addr : Nat) (v : BitVec 32)
  /-- A far-move: read?, count register b, NEAR base, FAR base, octets in all, octets done. -/
  | move (read : Bool) (b : Nat) (near : Nat) (far : Nat) (total done : Nat)
  deriving DecidableEq, Repr

/-- A repeat in progress (R379, R381). -/
structure Repeat where
  /-- REPI rather than REP. -/
  interruptible : Bool := false
  /-- Half address of the prefix. -/
  prefixPc : BitVec 25 := 0
  /-- Halves of the body, 1 or 2. -/
  bodyLen : Nat := 1
  deriving DecidableEq, Repr

/-- One logical core: a lockstep pair that acts as one core (R357, R388). -/
structure Core where
  /-- Command-table entry of the running command, if any (R128, 04). -/
  cmd : Option Nat := none
  /-- Slot of the last command begun here; 1,023 before any (R129, 04). -/
  lastSlot : Nat := 1023
  /-- Command pre-selected for this core (R126, 04). -/
  pre : Option Nat := none
  /-- g0 to g31, 36 bits each (R357, 11). -/
  regs : Tab W36 := []
  /-- pc, 25-bit half address (R358, 11). -/
  pc : BitVec 25 := 0
  /-- st, 36 bits: C, NC, FF (R358, 11). -/
  st : W36 := 0
  /-- repc, 36 bits: COUNT (R358, 11). -/
  repc : W36 := 0
  /-- ev, 36 bits: CAUSE, RPT, ACT, SLOT, EPC (R358, 11). -/
  ev : W36 := 0
  /-- ctx, 36 bits (R358, 11). -/
  ctx : W36 := 0
  /-- Load write still in its delay slot: register and value (R377, 11). -/
  load : Option (Nat × W36) := none
  /-- Repeat in progress (R379, 11). -/
  rep : Option Repeat := none
  /-- RFE has returned to a REPI prefix with ev.RPT set (R381, 11). -/
  resume : Bool := false
  /-- Far access that waits for its answer (R368, 11). -/
  far : Option FarOp := none
  /-- WMU_FAULT pending (R384, 11). -/
  wmuPending : Bool := false
  /-- ev.RPT of the pending WMU_FAULT: it arose inside a repeat (R358, R384, 11). -/
  wmuRpt : Bool := false
  /-- ev.SLOT of the pending WMU_FAULT: it arose in a load-delay slot (R358, R384, 11). -/
  wmuSlot : Bool := false
  /-- The running command has seen a WMU fault (R244, 08). -/
  wmuSeen : Bool := false
  /-- TIME of the residue faults of this WMU, newest first (R244, 08). -/
  wmuFaults : List Nat := []
  /-- The newest of them is the second within 24 h: a lockstep mismatch of the cluster once the scrub ends (R244, 08). -/
  wmuLost : Bool := false
  /-- Core cycles of the command so far (R373, R399, 11). -/
  cycles : Nat := 0
  /-- Custom code reached the library through its table (R362, 11). -/
  inLibrary : Bool := false
  /-- First NEAR word of the custom segment (R362, 11). -/
  segLo : Nat := 0
  /-- One past the last NEAR word of the custom segment (R362, 11). -/
  segHi : Nat := 0
  /-- Handler half address of the program, if it has one (R384, 11). -/
  handler : Option (BitVec 25) := none
  /-- MAX_CYCLES of a custom service (R399, 11). -/
  maxCycles : Option Nat := none
  /-- D-SRAM, words of 36 bits by NEAR word offset (R362, 11). -/
  dsram : Tab W36 := []
  /-- D-SRAM blocks of 512 words that the turn wrote (R393, 11). -/
  dirty : List Nat := []
  /-- D-SRAM zeroing after a turn has not ended yet (R393, 11). -/
  clearing : Bool := false
  /-- The wide multiplier unit (08). -/
  wmu : Wmu := {}
  /-- Core cycles busy in the running 1 ms and 1 s windows (R141, 04). -/
  busy1ms : BitVec 16 := 0
  /-- BUSY_1S, 16 bits (R141, 04). -/
  busy1s : BitVec 16 := 0
  deriving DecidableEq, Repr

/-! ### Host ports, pigeonholes and the command table -/

/-- One MSI-X vector of a function (R99). -/
structure MsixVec where
  /-- Message address, 64 bits (R66, 03). -/
  addr : BitVec 64 := 0
  /-- Message data, 32 bits (R66, 03). -/
  data : BitVec 32 := 0
  /-- Vector masked (R99, 03; log entry 6). -/
  masked : Bool := true
  /-- Pending bit (R99, 03). -/
  pending : Bool := false
  deriving DecidableEq, Repr

/-- One PCI Express port (R66 to R73). -/
structure Port where
  /-- PERST_N of the port is asserted (R73, 03). -/
  perst : Bool := false
  /-- The link is up (R68, 03). -/
  linkUp : Bool := false
  /-- PORT_STATUS.RATE, 3 bits (03, port registers). -/
  rate : BitVec 3 := 0
  /-- PORT_STATUS.WIDTH, 5 bits (03, port registers). -/
  width : BitVec 5 := 0
  /-- PORT_EVENTS.RATE_CHANGE (03, port registers). -/
  rateChange : Bool := false
  /-- PORT_EVENTS.WIDTH_CHANGE (03, port registers). -/
  widthChange : Bool := false
  /-- PORT_EVENTS.LINK_DOWN (03, port registers). -/
  linkDown : Bool := false
  /-- REPLAYS, 48 bits and OVF (03, port registers). -/
  replays : Stat := {}
  /-- HOST_FAULTS, 48 bits and OVF (03, port registers). -/
  hostFaults : Stat := {}
  /-- SR-IOV VF Enable of the port's PF0 (R67, R73, 03). -/
  vfEnable : Bool := false
  /-- SR-IOV NumVFs of the port's PF0 (R67, 03). -/
  numVfs : BitVec 16 := 0
  /-- PRI is enabled on the port's PF0 (R70, R71, 03). -/
  priEnable : Bool := false
  /-- PH_SEL, 12 bits (R143, 04). -/
  phSel : BitVec 12 := 0
  /-- Snapshot DEPTH, 16 bits (R143, 04). -/
  snapDepth : BitVec 16 := 0
  /-- Snapshot MAX_DEPTH, 16 bits (R143, 04). -/
  snapMax : BitVec 16 := 0
  /-- SLOT_SEL, 10 bits (R143, 04). -/
  slotSel : BitVec 10 := 0
  /-- Snapshot FETCHED (R143, 04). -/
  snapFetched : Stat := {}
  /-- Snapshot COMPLETED (R143, 04). -/
  snapCompleted : Stat := {}
  /-- Snapshot CANCELLED (R143, 04). -/
  snapCancelled : Stat := {}
  /-- CORE_SEL.UNIT, 7 bits (04, observability). -/
  coreSel : BitVec 7 := 0
  /-- HIST_SEL.CLUSTER, 3 bits (R143, 04). -/
  histCluster : BitVec 3 := 0
  /-- HIST_SEL.LEVEL, 3 bits (R143, 04). -/
  histLevel : BitVec 3 := 0
  /-- Snapshot of the 16 histogram buckets (R143, 04). -/
  snapHist : Tab Stat := []
  /-- SLOT_TAB_SEL, 10 bits (R437, 13). -/
  slotTabSel : BitVec 10 := 0
  /-- Snapshot of the selected slot's number when it was taken, and its fields (R437, 13). -/
  snapSlot : Octets := []
  /-- The PCI Express registers of the port's functions that the manual leaves to the standard
  are not held: no command of the table reads them. -/
  d3hot : Bool := false
  deriving DecidableEq, Repr

/-- PH_STATE.STATE (03, ring configuration). -/
inductive PhState where
  | disabled | ready | opened | closing | quiesced | error
  deriving DecidableEq, Repr

/-- Resume state of a quiesced pigeonhole (R442). -/
inductive ResumeState where
  | ready | opened
  deriving DecidableEq, Repr

/-- One pigeonhole, by global number (R111). -/
structure Ph where
  /-- SQ_BASE, 64 bits (R78, 03). -/
  sqBase : BitVec 64 := 0
  /-- CQ_BASE, 64 bits (R78, 03). -/
  cqBase : BitVec 64 := 0
  /-- DEPTH_LOG2, 5 bits (R78, 03). -/
  depthLog2 : BitVec 5 := 0
  /-- VECTOR, 6 bits (R98, 03). -/
  vector : BitVec 6 := 0
  /-- ENABLE, 1 bit (R78, R79, 03). -/
  enable : Bool := false
  /-- The drain after ENABLE 0 is in progress (R79, 03). -/
  draining : Bool := false
  /-- COUNT, 8 bits (R98, 03). Reset 0x01. -/
  count : BitVec 8 := 1
  /-- TIME_US, 10 bits (R98, 03). -/
  timeUs : BitVec 10 := 0
  /-- STATE, 3 bits (03, ring configuration). -/
  state : PhState := .disabled
  /-- VERSION in force, 2 bits (R101, 03). -/
  version : BitVec 2 := 0
  /-- ORDERED in force (R103, 03). -/
  ordered : Bool := false
  /-- SERIAL in force (R104, 03). -/
  serial : Bool := false
  /-- DEFAULT_PRIO in force, 3 bits (R92, 03). -/
  defaultPrio : BitVec 3 := 0
  /-- ERROR, 16 bits (R72, R78, R80, 03). -/
  error : Code := 0
  /-- SQ_HEAD, 16 bits (03, doorbells). -/
  sqHead : Nat := 0
  /-- SQ_TAIL, 16 bits (R80, R81, 03). -/
  sqTail : Nat := 0
  /-- CQ_HEAD, 16 bits (R80, 03). -/
  cqHead : Nat := 0
  /-- CQ_TAIL, 16 bits (R86, 03). -/
  cqTail : Nat := 0
  /-- PHASE, 1 bit (R86, 03). Reset 1. -/
  phase : Bool := true
  /-- Fetch credits granted whose descriptor has not arrived (R113, 04). -/
  credits : Nat := 0
  /-- Home cluster (R118, 04). -/
  home : Option Nat := none
  /-- Completions written since the vector last fired (R98, 03). -/
  unsignalled : Nat := 0
  /-- A coalescing timer of the pigeonhole is on delay list 3, with its due tick (R98, R130, 04). -/
  timer : Option Nat := none
  /-- MAX_DEPTH, 16 bits (04, observability). -/
  maxDepth : BitVec 16 := 0
  /-- Resume state while QUIESCED (R442, 13). -/
  resume : ResumeState := .ready
  /-- SQ_TAIL recorded while QUIESCED (R443, 13). -/
  recTail : Option Nat := none
  /-- CQ_HEAD recorded while QUIESCED (R443, 13). -/
  recHead : Option Nat := none
  deriving DecidableEq, Repr

/-- What a command does to the module's stored state when it commits (R108, R297). -/
inductive Effect where
  /-- A counter entry, by index in the table, counts one use (R297). -/
  | ctrUse (index : Nat)
  /-- A counter entry is allocated with this limit and allocation number (R294). -/
  | ctrAlloc (index : Nat) (limit gen : BitVec 32)
  /-- A slot is created with these fields (R440). -/
  | slotCreate (slot : Nat) (fields : SlotFields)
  /-- A curve entry is installed (R250). -/
  | curve (index : Nat) (entry : Octets)
  /-- EXT_CFG is replaced (R533). -/
  | extCfg (v : BitVec 16)
  /-- The conditioner mode is replaced (R351). -/
  | rngMode (v : BitVec 8)
  /-- A quiesced slot is resumed (R443). -/
  | slotResume (slot : Nat)
  /-- A saved slot is restored (R452). -/
  | slotRestore (slot : Nat) (fields : SlotFields) (header body : Octets)
  deriving DecidableEq, Repr

/-- Where a fetched command stands (chapter 04, stages and delay lists). -/
inductive Stage where
  /-- In the command table, pending placement (R120, R121). -/
  | pending
  /-- On the ready list that `list` names. -/
  | ready
  /-- Pre-selected for core k (R126). -/
  | preselected (k : Nat)
  /-- Running on core k (R128). -/
  | running (k : Nat)
  /-- On delay list l with its due tick (R130). -/
  | delayed (l : Nat) (due : Nat)
  /-- Handed off; its commit waits for the partner or the journal (R498, R470). -/
  | commitWait
  /-- Handed off and released; its completion write is due (R86). -/
  | done
  deriving DecidableEq, Repr

/-- What the module does once a completion has been written (R47, R536, R544, R547). -/
inductive AfterWrite where
  | nothing
  /-- A failed dry-fire of a monitor raises its alarm. -/
  | dryFail (monitor : Nat)
  /-- The erase of MODULE_RETIRE is due. -/
  | retire
  /-- The warm reset of UNLOCK is due. -/
  | unlock
  /-- The warm reset of DIAG_EXIT follows. -/
  | diagExit
  deriving DecidableEq, Repr

/-- One entry of the command table (chapter 04). -/
structure Cmd where
  /-- Function that submitted it. -/
  fn : Fn := {}
  /-- Pigeonhole index within the function. -/
  idx : Nat := 0
  /-- Global pigeonhole number (R111). -/
  ph : Nat := 0
  /-- Slot, 0 to 511, or 512 and 513 for PF0 (R112). -/
  slot : Nat := 0
  /-- The descriptor (R89). -/
  d : Descriptor := {}
  /-- Arrival, dispatch and completion Postmarks (R21). -/
  arrival : Postmark := {}
  dispatch : Postmark := {}
  completion : Postmark := {}
  /-- A core has accepted the command at least once (R142). -/
  dispatched : Bool := false
  /-- Level fixed at placement (R122). -/
  level : Nat := 0
  /-- Ready list that holds its place (R115). -/
  list : Option Nat := none
  stage : Stage := .pending
  /-- Its ready-list entry is eligible (R123). -/
  eligible : Bool := false
  /-- Its place in fetch order on the pigeonhole, and in placement order (R103, R125). -/
  fetchNo : Nat := 0
  order : Nat := 0
  /-- TURN (R390). -/
  turn : Nat := 0
  /-- Its own program deferred it on list 2 and it has not been dispatched since (R133, R138). -/
  deferred : Bool := false
  /-- Input octets, once they have landed (R390). -/
  input : Octets := []
  landed : Bool := false
  /-- The service has produced its result (status, output). -/
  served : Bool := false
  status : Code := 0
  /-- Service output, franking trailer included. -/
  output : Octets := []
  /-- Output length of the completion (R97). -/
  outLen : Nat := 0
  /-- FRANKED and PARTIAL (R96). -/
  franked : Bool := false
  isPartial : Bool := false
  /-- Output octets already written to host memory (R71). -/
  written : Nat := 0
  /-- The service is state-changing (R108), journalled, keeps a replay record (R606). -/
  stateChanging : Bool := false
  journalled : Bool := false
  /-- What it does at its commit. -/
  effects : List Effect := []
  /-- Its completion Postmark has been stamped (R21). -/
  stamped : Bool := false
  /-- Due tick of the wait for randomness, fixed at the command's first waiting answer (R340). -/
  waitDue : Option Nat := none
  /-- A request of this turn was answered "waiting": the write to SO_DEFER puts the command on delay
  list 0 (R340). -/
  waiting : Bool := false
  /-- Instance that its waiting request named (R340). -/
  waitInst : Nat := 0
  /-- Counter entries on which it holds a reservation (R296). -/
  reserved : List Nat := []
  /-- Officers counted by the grant it consumed (R542). -/
  officers : BitVec 16 := 0
  /-- It has consumed its grant (R542). -/
  granted : Bool := false
  /-- What follows its completion write. -/
  after : AfterWrite := .nothing
  /-- MSEQ of its COMMIT that awaits an acknowledgement (R498). -/
  commitSeq : Option Nat := none
  /-- The port was reset after it was dispatched: its writes are discarded (R73). -/
  discarded : Bool := false
  /-- The program is a custom service (R397). -/
  custom : Bool := false
  /-- Core cycles of the turns that have ended (R399). -/
  cycles : Nat := 0
  /-- A CLOSE that passed its checks (R105). -/
  closes : Bool := false
  /-- Keeps a replay record at its commit (R606). -/
  keepsReplay : Bool := false
  /-- Mirrored to the partner at its commit (R498, R606). -/
  mirrors : Bool := false
  /-- Completes with REPLAYED, whatever the status of the original (R108). -/
  replay : Bool := false
  deriving DecidableEq, Repr

/-- One replay record (R108). -/
structure Replay where
  /-- Key: slot, global pigeonhole, command ID. -/
  slot : Nat := 0
  ph : Nat := 0
  cmdId : BitVec 64 := 0
  /-- Opcode, status, completion Postmark, output, FRANKED of the original. -/
  opcode : Code := 0
  status : Code := 0
  pm : Postmark := {}
  output : Octets := []
  franked : Bool := false
  deriving DecidableEq, Repr

/-- Deficit round robin state of one slot at one level of one list (R124). -/
structure DrrEntry where
  slot : Nat
  deficit : Nat
  /-- The visit's quantum has been added. -/
  visited : Bool
  deriving DecidableEq, Repr

/-- Tables of SCHED_TABLES in force (R134, 04). -/
structure Sched where
  /-- TICK_100NS, 10 bits (04, SCHED_TABLES). Reset 10. -/
  tick100ns : Nat := 10
  /-- SPILL_DEPTH (R119, 04). Reset 768. -/
  spillDepth : Nat := 768
  /-- PH_INFLIGHT (R113, 04). Reset 128. -/
  phInflight : Nat := 128
  /-- PF0_RESERVE (R113, 04). Reset 1,024. -/
  pf0Reserve : Nat := 1024
  /-- QUANTUM (R124, 04). Reset 64. -/
  quantum : Nat := 64
  /-- COST by group, 17 values (R124, 04). Reset the default COST row. -/
  cost : List Nat := [8, 300, 388, 331, 250, 625, 1250, 256, 5000, 16, 12500, 64, 64, 64, 64, 1000, 1000]
  /-- AFFINITY by slot, default 0xFF (R118, 04). -/
  affinity : Tab (BitVec 8) := []
  deriving DecidableEq, Repr

/-- The Sorting Office (chapter 04). -/
structure Sorting where
  /-- Pigeonholes by global number, 4,096 (R111, 04). -/
  phs : Tab Ph := []
  /-- Command table, 16,384 entries; an absent entry is free (R113, 04). -/
  cmds : List (Nat × Cmd) := []
  /-- Rotation of the slots at a level of a list, key 8 × cluster + level (R124, 04). -/
  drr : Tab (List DrrEntry) := []
  /-- Next placement order and fetch order numbers: the model's own counters (R125, R103, 04). -/
  nextOrder : Nat := 0
  nextFetch : Nat := 0
  /-- Supervisor timers on delay list 3: due tick and identity (R132, 04). -/
  timers : List (Nat × Nat) := []
  /-- Level-0 internal work placed through ENQ (R122, 04). -/
  internal : List (BitVec 32) := []
  /-- FETCHED, COMPLETED, CANCELLED by slot (04, observability). -/
  fetched : Tab Stat := []
  completed : Tab Stat := []
  cancelled : Tab Stat := []
  /-- Histogram buckets, key 128 × cluster + 16 × level + bucket (R142, 04). -/
  hist : Tab Stat := []
  /-- DSTALL by gate (R128, 04). -/
  dstall : Tab Stat := []
  /-- Fetch rotation of the slots at a level of a port, key 8 × port + level (R117, 04). -/
  fetchDrr : Tab (List DrrEntry) := []
  /-- Pigeonhole of a slot that was granted a credit last, plus one (R117, 04). -/
  lastPh : Tab Nat := []
  /-- Logical clusters that have left service, 8 bits (R137, 04). -/
  clusterOut : BitVec 8 := 0
  /-- SO_EVENTS.RESTEER (R137, 04). -/
  resteer : Bool := false
  /-- SO_EVENTS.DL3_FULL (R132, 04). -/
  dl3Full : Bool := false
  /-- Tables in force (R134, 04). -/
  sched : Sched := {}
  /-- Replay records, newest first (R108, 03). -/
  replays : List Replay := []
  deriving DecidableEq, Repr

/-! ### Timebase and journal -/

/-- Timebase (R456 to R460). -/
structure Timebase where
  /-- LOCAL, 64 bits (R456, 14; log entry 4). -/
  timeLocal : BitVec 64 := 0
  /-- OFFSET, 64 bits (R456, 14). -/
  offset : BitVec 64 := 0
  /-- PTM_EN (R458, 14). -/
  ptmEn : Bool := false
  /-- PTM_PORT (R458, 14). -/
  ptmPort : Bool := false
  /-- STEP_OK (R458, 14). -/
  stepOk : Bool := false
  /-- PERIOD_MS, 10 bits (R458, 14). Reset 100. -/
  periodMs : BitVec 10 := 100
  /-- ALIGNED (R458, 14). -/
  aligned : Bool := false
  /-- SLEWING (R458, 14). -/
  slewing : Bool := false
  /-- ADOPTED (R459, 14). -/
  adopted : Bool := false
  /-- REFUSED (R458, 14). -/
  refused : Bool := false
  /-- PTM_FAIL (R458, 14). -/
  ptmFail : Bool := false
  /-- SLEW_LEFT, 64 bits, two's complement (R458, 14). -/
  slewLeft : BitVec 64 := 0
  /-- LAST_PTM, 64 bits (14, timebase registers). -/
  lastPtm : BitVec 64 := 0
  /-- T_m, greatest Postmark time received from the partner, 64 bits (R460, 14). -/
  tm : BitVec 64 := 0
  /-- The Postmark sources (R462, 14). -/
  sources : Tab PmSource := []
  deriving DecidableEq, Repr

/-- One journal entry (R465). -/
structure JEntry where
  jseq : BitVec 64 := 0
  pm : Postmark := {}
  type : BitVec 16 := 0
  origin : BitVec 8 := 0
  cls : BitVec 8 := 0
  slot : BitVec 16 := 0xFFFF
  ph : BitVec 16 := 0xFFFF
  opcode : Code := 0
  status : Code := 0
  cmdId : BitVec 64 := 0
  dispatch : Postmark := {}
  seg : BitVec 32 := 0
  detail : Octets := []
  chain : Octets := []
  sig : Octets := []
  frankId : Octets := []
  deriving DecidableEq, Repr

/-- Audit journal (R465 to R471). -/
structure Journal where
  /-- The ring, oldest first, at most 262,144 entries (14, audit journal). -/
  ring : List JEntry := []
  /-- NEXT_SEQ, 64 bits (14, journal registers). -/
  next : BitVec 64 := 0
  /-- SEG, 32 bits (14, journal registers). -/
  seg : BitVec 32 := 0
  /-- H of the last entry, 48 octets (R466, 14). Reset 48 zero octets. -/
  chain : Octets := List.replicate 48 0
  /-- STREAM_EN (R471, 14). -/
  streamEn : Bool := false
  /-- FULL_POLICY: OVERWRITE (R470, 14). -/
  overwrite : Bool := false
  /-- VEC, 3 bits (R471, 14). -/
  vec : BitVec 3 := 0
  /-- STREAM_BASE, 64 bits (R471, 14). -/
  streamBase : BitVec 64 := 0
  /-- STREAM_LOG2, 5 bits (R471, 14). Reset 8. -/
  streamLog2 : BitVec 5 := 8
  /-- START_SEQ, 64 bits (R471, 14). -/
  startSeq : BitVec 64 := 0
  /-- HEAD, 64 bits (R471, 14). -/
  head : BitVec 64 := 0
  /-- TAIL, 64 bits (R471, 14). -/
  tail : BitVec 64 := 0
  /-- LOST, 48 bits and OVF (R470, 14). -/
  lost : Stat := {}
  /-- START_LOST (R471, 14). -/
  startLost : Bool := false
  /-- Port whose registers were written last: where the stream goes (R471, 14). -/
  port : Bool := false
  /-- Entries that wait under STALL, oldest first (R470, 14). -/
  waiting : List JEntry := []
  /-- Entries lost that no LOST entry has recorded yet (R470, 14). -/
  unrecorded : Nat := 0
  deriving DecidableEq, Repr

/-! ### Alarms and the warden -/

/-- One monitor of R519 (R548). -/
structure Monitor where
  /-- Condition holds (the monitor's raw level). -/
  tripped : Bool := false
  /-- Not running: monitors 5 and 13 to 17 before boot step 5 (R521). -/
  armed : Bool := false
  /-- TRIPS, 16 bits (R548, 16). -/
  trips : BitVec 16 := 0
  deriving DecidableEq, Repr

/-- A dry-fire in progress (R535). -/
structure DryFire where
  monitor : Nat
  /-- Command-table entry of the DRY_FIRE. -/
  cmd : Nat
  deriving DecidableEq, Repr

/-- An open challenge (R538). -/
structure Challenge where
  id : BitVec 32
  opcode : Code
  cmdId : BitVec 64
  digest : Octets
  /-- The 168 octets of the challenge. -/
  text : Octets
  needVendor : Bool
  deriving DecidableEq, Repr

/-- A grant held (R540). -/
structure Grant where
  portB : Bool
  opcode : Code
  cmdId : BitVec 64
  digest : Octets
  officers : BitVec 16
  deriving DecidableEq, Repr

/-- Alarm controller and supervisor's quorum registers (chapter 16). -/
structure Alarms where
  /-- LAST_CAUSE, 16 bits (R548, 16). -/
  lastCause : Code := 0
  /-- ALARM_EVENTS.E, .L, .F, .N (R548, 16). -/
  evE : Bool := false
  /-- ALARM_EVENTS.L (R548, 16). -/
  evL : Bool := false
  /-- ALARM_EVENTS.F (R548, 16). -/
  evF : Bool := false
  /-- ALARM_EVENTS.N (R548, 16). -/
  evN : Bool := false
  /-- VEC, 3 bits (R548, 16). -/
  vec : BitVec 3 := 0
  /-- F_IRQ (R548, 16). Reset 1. -/
  fIrq : Bool := true
  /-- N_IRQ (R548, 16). -/
  nIrq : Bool := false
  /-- ALARM_STATUS.VBAT_LOW (R548, 16). -/
  vbatLow : Bool := false
  /-- The 18 monitors (R519, R548, 16). -/
  monitors : Tab Monitor := []
  /-- VBAT_MV, 16 bits (R548, 16; log entry 2). -/
  vbatMv : BitVec 16 := 0
  /-- TJ_DC, 16 bits (R548, 16; log entry 2). -/
  tjDc : BitVec 16 := 0
  /-- TW_DC, 16 bits (R548, 16; log entry 2). -/
  twDc : BitVec 16 := 0
  /-- MESH_DEV, 16 bits (R548, 16; log entry 2). -/
  meshDev : BitVec 16 := 0
  /-- Mesh drive sequences of the four nets, 32 bits each (R520, 16; log entry 2). -/
  mesh : List (BitVec 32) := [0, 0, 0, 0]
  /-- Suppression window (R535, 16). -/
  dryFire : Option DryFire := none
  /-- Open challenges, at most 4 (R538, 16). -/
  challenges : List Challenge := []
  /-- Next CHALLENGE_ID, 32 bits (R538, 16; log entry 2). -/
  nextChallenge : BitVec 32 := 0
  /-- Grants held (R540, 16). -/
  grants : List Grant := []
  /-- A VBAT_LOW notice has been logged in this boot (R530, 16). -/
  vbatLogged : Bool := false
  deriving DecidableEq, Repr

/-- One battery log entry (R529). -/
structure BlogEntry where
  rtcS : BitVec 32 := 0
  rtcTicks : BitVec 16 := 0
  cause : Code := 0
  cls : BitVec 8 := 0
  flags : BitVec 8 := 0
  vbatMv : BitVec 16 := 0
  twDc : BitVec 16 := 0
  unit : BitVec 16 := 0
  seq : BitVec 32 := 0
  value : BitVec 32 := 0
  deriving DecidableEq, Repr

/-- Life-cycle state (R54). -/
inductive LifeCycle where
  | manufacture | issued | commissioned | retired
  deriving DecidableEq, Repr

/-- A DR entry of the warden whose STATE is 1 or 2 (09, warden storage). -/
structure DomainRoot where
  /-- Root, 256 bits (09). -/
  root : Octets := []
  /-- DR check value, 64 bits (R317, 09). -/
  check : Octets := []
  /-- STATE 2: installed LEGACY (R320, 09). -/
  legacy : Bool := false
  /-- M and N (R320, 09). -/
  m : Nat := 0
  n : Nat := 0
  deriving DecidableEq, Repr

/-- What the battery-backed warden die holds. -/
structure Warden where
  /-- Life-cycle state, 2 bits (R54, 02; log entry 5). -/
  lc : LifeCycle := .issued
  /-- ID_SERIAL, 64 bits (R2, 00; log entry 5). -/
  serial : BitVec 64 := 0
  /-- Mask key K_m, 128 bits (R314, 09; log entry 5). -/
  km : Option Octets := some (List.replicate 16 0)
  /-- Mask of the warden SRAM now in force: rotations so far (R315, 09; log entry 5). -/
  maskEpoch : Nat := 0
  /-- Module root MR, 256 bits (R324, 09; log entry 5). -/
  mr : Option Octets := some (List.replicate 32 0)
  /-- Domain roots DR0 to DR15 that are installed (09, warden storage). -/
  roots : List (Nat × DomainRoot) := []
  /-- Identity private key (R323, 09; log entry 5). -/
  identity : Option Octets := some (List.replicate 48 0)
  /-- Recorded officer-set digest, with M and N (R40, 02). -/
  officers : Option (Octets × Nat × Nat) := none
  /-- Firmware floor SEC_VER, 16 bits (R35, 02; log entry 5). -/
  secFloor : BitVec 16 := 0
  /-- Highest IMAGE_SEQ applied, 32 bits (R43, 02; log entry 5). -/
  imageSeq : BitVec 32 := 0
  /-- EXT_CFG, 16 bits (R533, 16). At MANUFACTURE every input is disabled: 0. -/
  extCfg : BitVec 16 := 0
  /-- Lock record set (R543, 16; log entry 5). -/
  lockRec : Bool := false
  /-- LOCK_SEQ, 32 bits (R548, 16; log entry 5). -/
  lockSeq : BitVec 32 := 0
  /-- Lock Postmark, 96 bits (R548, 16; log entry 5). -/
  lockPm : Postmark := {}
  /-- LOCK_CAUSE, 16 bits (R548, 16; log entry 5). -/
  lockCause : Code := 0
  /-- Battery log, oldest first, at most 64 entries (R529, 16). -/
  blog : List BlogEntry := []
  /-- Index of the newest entry (R531, 16). -/
  blogNewest : Nat := 0
  /-- BLOG_DROPPED, 16 bits (R530, 16). -/
  blogDropped : BitVec 16 := 0
  /-- SEQ of the next entry, 32 bits (R529, 16; log entry 5). -/
  blogSeq : BitVec 32 := 0
  /-- RTC_S, 32 bits (R456, 14; log entry 5). -/
  rtcS : BitVec 32 := 0
  /-- RTC_TICKS, 16 bits (R456, 14; log entry 5). -/
  rtcTicks : BitVec 16 := 0
  /-- Part of the present tick that has passed, in 10^-9 of it per 32,768 (R456, 14; model's own). -/
  rtcPhase : Nat := 0
  /-- The RTC counts SOSC in place of XB (R554, 17). -/
  rtcOnSosc : Bool := false
  /-- Transit cell connected (R589, 18; log entry 5). -/
  transitCell : Bool := true
  /-- Retirement masks: lanes, hash lanes, cells, clusters, channels (R477, 15). -/
  retLanes : BitVec 64 := 0
  /-- Hash lanes retired, 16 bits (R477, 15). -/
  retHash : BitVec 16 := 0
  /-- Noise cells retired, 64 bits (R477, 15). -/
  retCells : BitVec 64 := 0
  /-- Clusters retired, 9 bits (R477, 15). -/
  retClusters : BitVec 9 := 0
  /-- Memory channels retired, 8 bits (R477, 15). -/
  retChannels : BitVec 8 := 0
  /-- FOSC_TRIM, 8 bits (R553, 17; log entry 5). -/
  foscTrim : BitVec 8 := 0
  deriving DecidableEq, Repr

/-! ### Modes, boot and the image path -/

/-- MODE (02, mode registers). -/
inductive Mode where
  | battery | boot | staged | service | standby | maintenance | locked | erased | diagnostic
  deriving DecidableEq, Repr

/-- IMG_STATE (02, mode registers). -/
inductive ImgState where
  | idle | fetching | verifying | applying | done | refused
  deriving DecidableEq, Repr

/-- Mode, boot and image registers (PF0 BAR0 0x0100). -/
structure Boot where
  /-- MODE, 4 bits (R54, 02). Reset 0x1 BOOT. -/
  mode : Mode := .boot
  /-- BOOT_STEP, 8 bits (R59, 02). -/
  step : Nat := 0
  /-- BOOT_FAIL, 16 bits (R60, 02). -/
  fail : Code := 0
  /-- RNG_READY (R343, 02). -/
  rngReady : Bool := false
  /-- UNSEALED (R55, 02). -/
  unsealed : Bool := false
  /-- APPLIED (02, mode registers). -/
  applied : Bool := false
  /-- T_RNG_US, 32 bits (R343, 02). -/
  tRng : BitVec 32 := 0
  /-- T_ROLE_US, 32 bits (02, mode registers). -/
  tRole : BitVec 32 := 0
  /-- Boot runs after a warm reset rather than cold (R64, 02). -/
  warm : Bool := false
  /-- The warm reset has not been released yet (R583, 18). -/
  inReset : Bool := false
  /-- TIME at PWR_GOOD or reset release, at the end of the image transfer (02; model's own). -/
  tStart : BitVec 64 := 0
  /-- TIME at the last image octet (02; model's own). -/
  tImage : BitVec 64 := 0
  /-- IMG_ADDR, 64 bits (R44, 02). -/
  imgAddr : BitVec 64 := 0
  /-- IMG_LEN, 32 bits (R44, 02). -/
  imgLen : BitVec 32 := 0
  /-- IMG_STATUS, 16 bits (R44, 02). -/
  imgStatus : Code := 0
  /-- IMG_STATE, 3 bits (R44, 02). -/
  imgState : ImgState := .idle
  /-- IMG_FAULT_OFF, 32 bits (R603, 02). -/
  imgFaultOff : BitVec 32 := 0
  /-- IMG_SEQ, 32 bits (02, mode registers). -/
  imgSeq : BitVec 32 := 0
  /-- IMAGE_REAPPLY arming: length and digest (R48, 02). -/
  armed : Option (BitVec 32 × Octets) := none
  /-- Length and digest that the transfer in progress must meet (R48, 02). -/
  expect : Option (BitVec 32 × Octets) := none
  /-- The transfer in progress came over MCTP (R601, 18). -/
  byMctp : Bool := false
  /-- Image octets received so far (R601, 02). -/
  data : Octets := []
  /-- Length announced by START or IMAGE_BEGIN (R44, R601). -/
  dataLen : Nat := 0
  /-- Program image copy: the applied image (R46, 02). -/
  image : Octets := []
  /-- SHA-384 of the applied image (R473, 14). -/
  imageHash : Octets := []
  /-- FW_BUILD, 32 bits (00, identity). -/
  fwBuild : BitVec 32 := 0
  /-- MIRROR_MAX, 8 bits (00, identity). -/
  mirrorMax : BitVec 8 := 0
  /-- Role of each logical cluster: public-key (R36, 02). -/
  pubKey : BitVec 8 := 0
  /-- LANE_MASK of the 64 lanes (R36, 02). Reset all lanes. -/
  laneMask : BitVec 64 := BitVec.allOnes 64
  /-- CLUSTER_ROLES.SPARE (02). -/
  spare : Bool := false
  /-- PD_EN in force (R37, 02). -/
  pdEn : BitVec 32 := 0x01FBFFFF
  /-- ILV_SHIFT (R38, 02). Reset 12. -/
  ilvShift : Nat := 12
  /-- CTR_CH, RULE_CH, PROG_CH, JRNL_CH pairs (R38, 02; log entry 2). -/
  channels : Octets := [0, 4, 0, 4, 0, 4, 0, 4]
  /-- SLOTS_A, SLOTS_B, PH_POOL, CACHE_POOL, CTR_POOL (R39, 02). -/
  slotsA : Nat := 0
  /-- SLOTS_B in force (R39, 02). -/
  slotsB : Nat := 0
  /-- PH_POOL (R39, 02). -/
  phPool : Nat := 0
  /-- CACHE_POOL (R39, 02). -/
  cachePool : Nat := 0
  /-- CTR_POOL (R39, 02). -/
  ctrPool : Nat := 0
  /-- OFFICERS body of the applied image (R40, 02). -/
  officers : Octets := []
  /-- BASE_RULES record body of the applied image, if it has one (R416, 12). -/
  baseRules : Option Octets := none
  /-- POLICY record body of the applied image (R312, 09). -/
  policy : Octets := []
  /-- CUSTOM_SERVICE record bodies by INSTANCE (R397, 11). -/
  custom : List (Nat × Octets) := []
  /-- POLICY and CUSTOM_SERVICE that come into force at MAINT_EXIT (R51, 02). -/
  policyNext : Option (Octets × List (Nat × Octets)) := none
  /-- I-SRAM words written at layout, by NEAR address (R364, R398, 11). -/
  isram : Tab W36 := []
  /-- Cluster-shared memory words written at layout, by NEAR address (R363, R398, 11). -/
  shared : Tab (BitVec 32) := []
  /-- Curve table entries 6 to 15 (R247, 08). -/
  curves : List (Nat × Octets) := []
  /-- Boot step 12 waits, and the 100 ms retry runs (R494, 15). -/
  pairWait : Bool := false
  /-- Tenant fetching is stopped since a MAINT_ENTER from SERVICE (R50, 02). -/
  tenantStop : Bool := false
  /-- A MAINT_ENTER drain is in progress for this command-table entry (R50, 02). -/
  maintDrain : Option Nat := none
  /-- A MAINT_EXIT waits for its role for this command-table entry (R47, 02). -/
  exitBy : Option Nat := none
  /-- A MODULE_RETIRE erase is due (R47, 02). -/
  retireDue : Bool := false
  /-- An UNLOCK warm reset is due (R544, 16). -/
  unlockDue : Bool := false
  deriving DecidableEq, Repr

/-! ### What leaves the module -/

/-- A thing the module has issued to the outside: the model's own record, never read back. -/
inductive Emit where
  /-- A gate's answer to a request of a master: 0 forwarded to the target, 1 RETRY, 6 refusal, 7
  integrity error (R404, R432). -/
  | gate (n master code : Nat)
  /-- A write to host memory on a port. -/
  | hostWrite (portB : Bool) (addr : BitVec 64) (data : Octets)
  /-- An MSI-X message of a function. -/
  | msix (fn : Fn) (vector : Nat)
  /-- Descriptor reads of a pigeonhole. -/
  | fetch (ph : Nat) (index : Nat)
  /-- A page request of a function (R71). -/
  | pageRequest (fn : Fn)
  /-- An MCTP message body, with its message type (R599, R600). -/
  | mctp (type : BitVec 8) (data : Octets)
  /-- The answer to an I3C common command code (R595). -/
  | ccc (data : Octets)
  /-- A Hot-Join request (R597). -/
  | hotJoin
  /-- A mirror-link message as class and clear text (MSEQ, then the payload), or a relay message as its 64
  octets (R492, R493, R508; log entry 7). -/
  | mirror (relay : Bool) (type : BitVec 8) (body : Octets)
  /-- A mirror-link frame sent again, or an idle frame (R489). -/
  | frame (seq : Nat) (idle : Bool)
  /-- A far access issued to the interconnect (R365). -/
  | far (k : Nat) (addr : Nat) (write : Bool) (data : Octets)
  /-- Bits shifted out of the test access port (R545). -/
  | tdo (data : Octets)
  deriving DecidableEq, Repr

/-- PAIR_STATUS.ROLE (R488, 15). -/
inductive Role where
  | lone | active | standby | joining | detached
  deriving DecidableEq, Repr

/-- Why a module is taking the Crown: alone or in the pair decision with a new pair epoch, on lease
expiry, in a ROLE_SWAP, by PAIR_FORCE, by reclaiming, or again after it backed off (R494, R503, R504, R505,
R512, R515). -/
inductive TakeKind where
  | alone | lease | swap | force | reclaim | again
  deriving DecidableEq, Repr

/-- A mirror-link session (R491). -/
structure Session where
  /-- The partner's HELLO. -/
  peer : HelloMsg := {}
  /-- The 512 bits derived: direction from the lower serial, then from the higher (R491, 15). -/
  key : Octets := []
  /-- KEY_CONFIRM has been accepted (R491, 15). -/
  confirmed : Bool := false
  deriving DecidableEq, Repr

/-- A ROLE_SWAP in progress (R515). -/
structure Swap where
  /-- Command-table entry of the ROLE_SWAP. -/
  cmd : Nat
  /-- SQ_TAIL of each tenant pigeonhole as step 1 recorded it. -/
  tails : List (Nat × Nat)
  /-- Step 3: the Crown is dropped and HANDOVER is sent. -/
  handed : Bool
  deriving DecidableEq, Repr

/-- Pairing with the partner module (chapter 15). -/
structure Pair where
  /-- ROLE, 3 bits (15, pair registers). -/
  role : Role := .lone
  /-- LINK_UP (R489, 15). -/
  linkUp : Bool := false
  /-- Mirror lanes retired until the next cold boot, 4 bits: ML_RETIRED (R477, R490, 15). -/
  lanesOut : BitVec 4 := 0
  /-- TIME of the uncorrectable codewords of each lane, newest first (R490, 15). -/
  laneErrors : Tab (List Nat) := []
  /-- TIME of the losses of lock of each lane, newest first (R490, 15). -/
  laneLosses : Tab (List Nat) := []
  /-- CROWN_OUT pin (R504, R505, 15). -/
  crownOut : Bool := false
  /-- PEER_CROWN_IN as last sampled (R505, 15). -/
  peerIn : Bool := false
  /-- INTERLOCK_HELD (R503, 15). -/
  interlockHeld : Bool := false
  /-- VER_REFUSED (R495, 15). -/
  verRefused : Bool := false
  /-- DOMAIN_REFUSED (R491, R495, 15). -/
  domainRefused : Bool := false
  /-- DRILL_OVERDUE (R516, 15). -/
  drillOverdue : Bool := false
  /-- MIRROR_VER, 8 bits (R507, 15). -/
  mirrorVer : BitVec 8 := 0
  /-- LEASE_US, 10 bits (R501, 15). Reset 200. -/
  leaseUs : BitVec 10 := 200
  /-- RELAY_EN (R508, 15). Reset 1. -/
  relayEn : Bool := true
  /-- VEC, 3 bits (15, pair registers). -/
  vec : BitVec 3 := 0
  /-- Local E_a of a holder of the Crown, or E_s of a standby, as a value of LOCAL (R501, R502, R503, 15). -/
  expiry : Option (BitVec 64) := none
  /-- L in force, in µs (R501, 15; model's own). -/
  leaseL : Nat := 200
  /-- Renewal number sent last, 32 bits (R492, 15). -/
  renewal : BitVec 32 := 0
  /-- Renewals sent and not acknowledged: number, LOCAL at the send, and L (R502, 15). -/
  renewals : List (BitVec 32 × BitVec 64 × Nat) := []
  /-- Completions are held: the lease is in its guard, or the Crown is lost (R502, R504, 15). -/
  holding : Bool := false
  /-- The take window is open (R503, 15). -/
  window : Bool := false
  /-- CROWN_OUT was raised to take the Crown and awaits the second sample (R505, 15). -/
  taking : Option TakeKind := none
  /-- The Crown was dropped after an interlock conflict, and this take is due again (R505, 15). -/
  backedOff : Option TakeKind := none
  /-- MIRROR_REPLAYS, 48 bits and OVF (R489, 15). -/
  replays : Stat := {}
  /-- RELAY_MSGS, 48 bits and OVF (R508, 15). -/
  relayMsgs : Stat := {}
  /-- RELAY_OUT_SEQ, 32 bits (R508, 15). -/
  relayOutSeq : BitVec 32 := 0
  /-- RELAY_IN, 8 words of 64 bits (15, pair registers). -/
  relayIn : List (BitVec 64) := List.replicate 8 0
  /-- RELAY_OUT, 64 octets (15, pair registers). -/
  relayOut : Octets := List.replicate 64 0
  /-- Session with the partner (R491, 15). -/
  session : Option Session := none
  /-- This module's ephemeral key and nonce of its HELLO (R491, 15). -/
  helloPriv : Octets := []
  helloNonce : Octets := []
  /-- Messages for a joined partner that wait for the link, oldest first, as class and payload (R510, 15). -/
  unsent : List (BitVec 8 × Octets) := []
  /-- Last MSEQ sent and accepted on the link, and on the relay (R492, R493, 15). -/
  mseqTx : Nat := 0
  mseqRx : Nat := 0
  relayTx : Nat := 0
  relayRx : Nat := 0
  /-- Times that each unacknowledged frame has been replayed (R489, 15). -/
  frames : Tab Nat := []
  /-- A partner has joined: MODE.PAIRED (02; R494, 15). -/
  joined : Bool := false
  /-- The active module mirrors its commits to the joined partner (R496, R498, 15). -/
  mirroring : Bool := false
  /-- The bulk copy to the joining partner is in progress (R496, R497, 15). -/
  copying : Bool := false
  /-- A DETACH has been sent and its answer is awaited (R510, 15). -/
  detaching : Bool := false
  /-- ROLE_SWAP in progress (R515, 15). -/
  swap : Option Swap := none
  /-- Postmark of this module's last take of the Crown: LAST_TAKE (R487, 15). -/
  lastTake : Postmark := {}
  /-- TIME of the last take by either module, from which DRILL_AGE_S counts (R516, 15). -/
  drillFrom : BitVec 64 := 0
  deriving DecidableEq, Repr
/-- A resolved key and its checked attributes (R299, R306). -/
structure KeyVal where
  /-- ALG (R278). -/
  alg : Nat := 0
  /-- CLASS (R277). -/
  cls : Nat := 0
  /-- USAGE and MODE and EXPORT, ASCII (R276, R280). -/
  usage : Octets := []
  mode : Octet := 0
  exp : Octet := 0
  /-- Envelope FLAGS; zero for a label key (R287). -/
  flags : Octet := 0
  /-- 0 label, 1 Envelope v3, 2 Envelope v1 (R306). -/
  source : Nat := 0
  /-- LEN: key octets, 0 for EC and RSA (R280). -/
  len : Nat := 0
  /-- KTYPE (R280). -/
  ktype : Nat := 1
  /-- USAGE_MASK (R280). -/
  mask : Nat := 0
  /-- KEY_VERSION (R280). -/
  version : Octets := []
  /-- The key, the seed or the raw scalar (R281). -/
  bytes : Octets := []
  /-- USE_LIMIT, CNUM, CTR_GEN and PAIR_EPOCH of a counted Envelope (R280). -/
  limit : Nat := 0
  cnum : Nat := 0
  gen : Nat := 0
  epoch : Octets := []
  /-- RGEN (R276). -/
  rgen : Nat := 0
  deriving DecidableEq, Repr

/-- One key-cache entry, 256 octets enciphered under the cache key (R299). -/
structure CacheEntry where
  slot : Nat
  /-- Reference body, the input of the lookup tag (R299, 09). -/
  body : Octets
  key : KeyVal
  deriving DecidableEq, Repr

/-- One allocated counter-table entry (R292). -/
structure CtrEntry where
  /-- COUNT, 32 bits (R292, 09). -/
  count : BitVec 32 := 0
  /-- LIMIT, 32 bits (R292, 09). -/
  limit : BitVec 32 := 0
  /-- CTR_GEN, 32 bits (R292, 09). -/
  gen : BitVec 32 := 0
  /-- EPOCH_SEL: 0 the current pair epoch, 1 or 2 an alias (R292, 09). -/
  epochSel : Nat := 0
  /-- EXHAUSTED (R292, R298, 09). -/
  exhausted : Bool := false
  deriving DecidableEq, Repr

/-- A domain-root ceremony that is open (R317 to R321). -/
structure Ceremony where
  /-- CEREMONY_ID, 16 octets (09, ceremony). -/
  id : Octets := []
  /-- DR index, ACTION load, M, N, LEGACY, expected check value (09, ceremony). -/
  index : Nat := 0
  isLoad : Bool := false
  m : Nat := 0
  n : Nat := 0
  legacy : Bool := false
  expect : Octets := []
  /-- Ceremony key pair (R317, 09). -/
  priv : Octets := []
  pub : Octets := []
  /-- Drawn root (R319, 09). -/
  root : Octets := []
  /-- Shares: x, value and the check value inside it (R318, 09). -/
  shares : List (Nat × Octets × Octets) := []
  /-- x of the shares exported (R319, 09). -/
  exported : List Nat := []
  deriving DecidableEq, Repr

/-- Result area of one core's key-unit request port (R306). -/
structure KeyResult where
  /-- The request still runs (R304, 09). -/
  busy : Bool := false
  /-- KSTATUS, 16 bits (R306, 09). -/
  status : Code := 0
  /-- Attributes of the resolved key (R306, 09). -/
  key : KeyVal := {}
  /-- DONE: octets written to DST (R306, 09). -/
  done : Nat := 0
  /-- KCV, 5 octets (R306, 09). -/
  kcv : Octets := []
  deriving DecidableEq, Repr

/-- A lane or hash key register that holds a key (R214). -/
structure LaneKey where
  alg : Nat
  bytes : Octets
  deriving DecidableEq, Repr

/-- The key unit (chapter 09). -/
structure KeyUnit where
  /-- Franking private key, absent while the module holds none (R324, 09). -/
  frankPriv : Option Octets := none
  /-- Franking public point, 97 octets (R472, 14). -/
  frankPub : Octets := []
  /-- Certification of the Franking key: the first 224 octets of FRANK_CERT (R473, 14). -/
  frankCert : Octets := []
  /-- Cache key, 256 bits, absent while erased (R299, R302, 09). -/
  cacheKey : Option Octets := none
  /-- Index key, 256 bits, absent while erased (R299, R302, 09). -/
  indexKey : Option Octets := none
  /-- Key cache, most recently used first, at most 4,194,304 entries (09, key cache). -/
  cache : List CacheEntry := []
  /-- Write sequence of the cache entries, 64 bits, per boot (R299, 09). -/
  cacheSeq : BitVec 64 := 0
  /-- Tenant-root file: tenant root and Envelope KEK by slot, 514 entries (R274, 09). -/
  rootFile : List (Nat × Octets × Octets) := []
  /-- Pair epoch, 64 bits, absent while the module holds none (R290, 09). -/
  pairEpoch : Option Octets := none
  /-- Accepted-epoch list of each slot, at most two, newest first (R293, 09). -/
  aliases : List (Nat × List Octets) := []
  /-- Allocated counter-table entries of 65,536 (R292, 09). -/
  counters : List (Nat × CtrEntry) := []
  /-- Allocation number of the next counter entry, 1 to 2^32 (R294, 09). Reset 1. -/
  nextGen : Nat := 1
  /-- Open ceremony (R321, 09). -/
  ceremony : Option Ceremony := none
  /-- Result areas by core (R306, 09). -/
  results : List (Nat × KeyResult) := []
  /-- 256-bit seed registers by core, with the algorithm that the seed is for (R304, 09). -/
  seeds : List (Nat × LaneKey) := []
  /-- Register mask in force, redrawn every 1 ms (R334, 10; log entry 2). -/
  regMask : Octets := List.replicate 32 0
  /-- Label entries of the active partner's cache, most recently used first (R303, 09). -/
  peerLabels : List (Nat × Octets) := []
  deriving DecidableEq, Repr

/-- One DRBG instance that is instantiated (R333 to R337). -/
structure Drbg where
  /-- V, 16 octets (R333, 10; R449, 13). -/
  v : Octets := []
  /-- Key, 32 octets (R333, 10; R449, 13). -/
  key : Octets := []
  /-- Generate requests since the last seed (R335, 10). -/
  requests : Nat := 0
  /-- TIME of the last seed (R335, 10). -/
  seeded : BitVec 64 := 0
  /-- Due for a reseed before its next output, whatever its age (R336, R348, R351, 10). -/
  due : Bool := false
  deriving DecidableEq, Repr

/-- Result area of one core's entropy request port (R350). -/
structure RandResult where
  /-- The request still runs (10, registers). -/
  busy : Bool := false
  /-- RSTATUS, 16 bits (10, registers). -/
  status : BitVec 16 := 0
  /-- DONE, 32 bits (10, registers). -/
  done : Nat := 0
  /-- Data at 0x0110 (10, registers). -/
  data : Octets := []
  /-- The output of a request that runs, and its DST (10, registers; model's own). -/
  out : Octets := []
  dst : Nat := 0
  deriving DecidableEq, Repr

/-- The entropy unit (chapter 10). -/
structure Entropy where
  /-- Index of the residue check prime in force, 8 bits (R243, 08; log entry 2). -/
  wmuIndex : BitVec 8 := 0
  /-- COND_MODE, 8 bits (R328, 10). Reset 0x04. -/
  condMode : BitVec 8 := 4
  /-- QUAR_MASK, 64 bits (10, registers). -/
  quarMask : BitVec 64 := 0
  /-- Cells that have passed a start-up test in this boot, 64 bits (R331, 10). -/
  passed : BitVec 64 := 0
  /-- TIME of the failures of each cell, newest first (R332, 10). -/
  cellFails : Tab (List Nat) := []
  /-- Conditioned bits in the pool (R331, R333, 10; log entry 28). -/
  pool : Nat := 0
  /-- Failures of each DRBG lane that have not passed again: bits 0 to 3 the derivation-function KAT, 4 to
  7 the expander KAT, 8 to 11 a parity error, by lane (R345, 10). -/
  laneFail : BitVec 12 := 0
  /-- FAIL_CAUSE, 4 bits (R345, 10). -/
  failCause : BitVec 4 := 0
  /-- FAILED (R346, 10). -/
  failed : Bool := false
  /-- TIME at which the failure began (R348, 10). -/
  failSince : BitVec 64 := 0
  /-- OFFLINE (R350, R351, 10). -/
  offline : Bool := false
  /-- Entry whose RNG_SELFTEST or RNG_CONFIG holds the unit offline (10; model's own). -/
  offlineBy : Option Nat := none
  /-- RESEEDS, 48 bits and OVF (R335, 10). -/
  reseeds : Stat := {}
  /-- HEALTH_FAILS, 48 bits and OVF (10, registers). -/
  healthFails : Stat := {}
  /-- FAILURES, 48 bits and OVF (10, registers). -/
  failures : Stat := {}
  /-- Instances: I0 to I7 at 0, M0 to M15 at 8, T0 to T511 at 24 (R334, 10). -/
  insts : List (Nat × Drbg) := []
  /-- Result areas by core (10, registers). -/
  results : List (Nat × RandResult) := []
  deriving DecidableEq, Repr

/-- A cipher or hash job that a core has submitted and that has not ended (R217, R221). -/
structure LaneJob where
  core : Nat
  /-- Hash job rather than cipher job. -/
  hash : Bool
  tag : Nat
  /-- CIPHER and MODE of a cipher job; ALG of a hash job. -/
  cipher : Nat
  mode : Nat
  /-- CTL. -/
  ctl : Nat
  /-- KEY register. -/
  key : Nat
  len : Nat
  src : Nat
  dst : Nat
  aux : Nat
  iv : Octets
  inlineData : Octets
  /-- PRIOR of a hash job. -/
  prior : Nat
  /-- Parity errors it has met (R229). -/
  parity : Nat
  deriving DecidableEq, Repr

/-- A result area of cipher or hash control (R218). -/
structure JobResult where
  /-- JSTATUS, 16 bits (R218, 07). -/
  status : BitVec 16 := 0
  /-- DONE, 32 bits (R218, 07). -/
  done : Nat := 0
  /-- OUT or digest (R218, R221, 07). -/
  out : Octets := []
  deriving DecidableEq, Repr

/-- One lane: its test and parity record (R232). -/
structure Lane where
  /-- LANE_STATE 2, testing (07, registers). -/
  testing : Bool := false
  /-- TIME of its parity errors, newest first: RECENT is those of the last 24 h (R232, 07). -/
  errors : List Nat := []
  /-- PARITY, 16 bits (07, registers). -/
  parity : BitVec 16 := 0
  deriving DecidableEq, Repr

/-- The cipher and hash arrays (chapter 07). -/
structure Arrays where
  /-- Lane key registers: key 16 × core + register, 4 each (R214, 07). -/
  laneKeys : List (Nat × LaneKey) := []
  /-- Hash key registers: key 16 × core + register, 4 each (R214, 07). -/
  hashKeys : List (Nat × LaneKey) := []
  /-- Jobs queued or running, in acceptance order (R213, 07). -/
  jobs : List LaneJob := []
  /-- Cipher result areas, key 4 × core + tag (R218, 07). -/
  results : List (Nat × JobResult) := []
  /-- Hash result areas, key 4 × core + tag (R221, 07). -/
  hashResults : List (Nat × JobResult) := []
  /-- Hash states saved under a tag: ALG and octets hashed so far, key 4 × core + tag (R222, 07). -/
  hashStates : List (Nat × Nat × Octets) := []
  /-- ARRAY_MODE.MODE pooled (07, registers). Reset 1. -/
  pooled : Bool := true
  /-- ARRAY_MODE.CAUSES, 5 bits (R223, 07). Reset 0x01. -/
  causes : BitVec 5 := 1
  /-- A switch is in progress (R226, 07). -/
  switching : Bool := false
  /-- Cipher lanes L0 to L63 (07, registers). -/
  lanes : Tab Lane := []
  /-- Hash lanes H0 to H15 (07, registers). -/
  hashLanes : Tab Lane := []
  /-- Entry of the ARRAY_SELFTEST that runs (R236, 07; model's own). -/
  selftestBy : Option Nat := none
  deriving DecidableEq, Repr

/-- State of a rule set (R410). -/
inductive SetState where
  | free | armed | active | draining
  deriving DecidableEq, Repr

/-- One rule set of a master at a gate (R410, R411). -/
structure RuleSet where
  /-- SET_STATE, 2 bits (12, registers). -/
  st : SetState := .free
  /-- SET_EPOCH, 8 bits (R410, R419, 12). -/
  epoch : BitVec 8 := 0
  /-- Used entries: index 0 to 15 and region descriptor (R406, R411, 12). -/
  entries : List (Nat × BitVec 64) := []
  /-- Host windows of a core's set at G26 or G27: offset in the HS window, length, writable (R413, 12). -/
  windows : List (Nat × Nat × Bool) := []
  /-- Requests admitted under the set and not yet answered; DRAIN shows it saturated (R422, 12). -/
  drain : Nat := 0
  /-- Command-table entry that an armed set of a core is ready for (R420, 12). -/
  forCmd : Option Nat := none
  deriving DecidableEq, Repr

/-- Health and counters of one gate (12, registers). -/
structure GateHealth where
  /-- BYPASSED (R427, 12). -/
  bypassed : Bool := false
  /-- CAUSE, 2 bits (R426, 12). -/
  cause : BitVec 2 := 0
  /-- SEAL_ERR, 16 bits (R432, 12). -/
  sealErr : BitVec 16 := 0
  /-- REFUSED, 48 bits and OVF (R405, 12). -/
  refused : Stat := {}
  /-- Millisecond of TIME of the last refusal notice (R405, 12). -/
  noticed : Option Nat := none
  deriving DecidableEq, Repr

/-- Gates and the central table that shadows them (chapter 12). -/
structure Gates where
  /-- Rule sets, key 2 × (128 × gate + master) + set; the central table holds the same (R410, R425, 12). -/
  sets : List (Nat × RuleSet) := []
  /-- Epoch tag of each master, 8 bits (R419, 12; log entry 2). -/
  tags : Tab (BitVec 8) := []
  /-- Cores whose rule-table read has not returned (R420, 12). -/
  reads : List Nat := []
  /-- Cores whose stalled dispatch has been counted (R128, 04). -/
  stalled : List Nat := []
  /-- Health of G0 to G28 (12, registers). -/
  health : Tab GateHealth := []
  /-- Paths, 128 × gate + initiator, with a mismatch that awaits its second sending (R432, 12). -/
  retried : List Nat := []
  /-- TIME of the Seal mismatches of each path, newest first (R433, 12). -/
  mismatches : Tab (List Nat) := []
  /-- RULE_SEL.MASTER, 7 bits (12, registers). -/
  selMaster : BitVec 7 := 0
  /-- RULE_SEL.GATE, 8 bits (12, registers). -/
  selGate : BitVec 8 := 0
  /-- RULE_SEL.SET (12, registers). -/
  selSet : Bool := false
  /-- REGION staging, 16 entries of 64 bits (12, registers). -/
  staging : List (BitVec 64) := List.replicate 16 0
  /-- ARM_STATUS, 3 bits (R408, 12). -/
  armStatus : BitVec 3 := 0
  deriving DecidableEq, Repr
/-- Slot state (R437). -/
inductive SlotState where
  | active | quiescing | quiesced | destroying
  deriving DecidableEq, Repr
/-- One allocated tenant slot (R437). -/
structure Slot where
  /-- TENANT, DOMAIN, POLICY_ID, PH_BASE, PH_COUNT, MAX_PRIO, WEIGHT, DATA_LOG2, DATA_BASE, CACHE_SHARE,
  CTR_BASE, CTR_COUNT (R437, 13). -/
  f : SlotFields := {}
  /-- STATE, 2 bits (R437, 13). -/
  state : SlotState := .active
  /-- DIRTY_EN (R447, 13). -/
  dirtyEn : Bool := false
  /-- IOVA_BASE, 64 bits (R447, 13). -/
  dirtyBase : BitVec 64 := 0
  /-- PAGES, 32 bits (R447, 13). -/
  dirtyPages : Nat := 0
  /-- DIRTY_OVF (R446, 13). -/
  dirtyOvf : Bool := false
  /-- Pages whose bit the module has set in the active bitmap (R446, 13). -/
  dirtyBits : List Nat := []
  /-- DIRTY_SEL: bitmap B is active (R447, 13). -/
  dirtySel : Bool := false
  /-- BITMAP_A and BITMAP_B, 64 bits each (R447, 13). -/
  bitmapA : BitVec 64 := 0
  /-- BITMAP_B, 64 bits (R447, 13). -/
  bitmapB : BitVec 64 := 0
  /-- Command-table entry of the SLOT_QUIESCE that waits for the drain (R442, 13). -/
  quiesceBy : Option Nat := none
  /-- Command-table entry of the SLOT_DESTROY that waits for the cleanup (R444, 13). -/
  destroyBy : Option Nat := none
  deriving DecidableEq, Repr
/-- The tenant slots (chapter 13). -/
structure Slots where
  /-- Allocated slots by number (R437, 13). -/
  table : List (Nat × Slot) := []
  deriving DecidableEq, Repr
/-- What one clock monitor shows (R561, R562). -/
structure ClkMon where
  /-- LAST, 8 bits (17, registers). -/
  last : BitVec 8 := 0
  /-- MIN, 8 bits (17, registers). Reset 0xFF. -/
  min : BitVec 8 := 0xFF
  /-- MAX, 8 bits (17, registers). -/
  max : BitVec 8 := 0
  /-- MASKED (R562, 17). Reset 1. -/
  masked : Bool := true
  deriving DecidableEq, Repr

/-- Clocks and power domains (chapter 17). -/
structure Clocks where
  /-- FOSC_TRIMMED (R553, 17). -/
  foscTrimmed : Bool := false
  /-- XA_QUAL (R556, 17). -/
  xaQual : Bool := false
  /-- PLL_LOCK, 5 bits: TIME, FAB, MEM, CORE, LANE (R557, 17). -/
  pllLock : BitVec 5 := 0
  /-- TB_ON_FOSC (R558, 17). Reset 1. -/
  onFosc : Bool := true
  /-- XSTART, 3 bits, as sampled when PWR_GOOD rose (R555, 17; log entry 2). -/
  xstart : BitVec 3 := 0
  /-- QUAL_TRIES, 4 bits (R556, 17). -/
  qualTries : BitVec 4 := 0
  /-- Attempts of step 3 that have failed in this boot (R556, R62, 17; model's own). -/
  qualFails : Nat := 0
  /-- The first window of the attempt was good (R556, 17). -/
  goodWindow : Bool := false
  /-- CLK_GATE_STATE, 28 bits (R563, 17). -/
  gates : BitVec 28 := 0
  /-- CLK_GATE_RESULT.CODE, 3 bits (R564, 17). -/
  gateCode : BitVec 3 := 0
  /-- CLK_GATE_RESULT.GATE, 5 bits (R564, 17). -/
  gateNum : BitVec 5 := 0
  /-- PD_STATE, 26 bits (R565, 17). Reset 0x0000007. -/
  pd : BitVec 26 := 7
  /-- PD_RESULT.CODE, 3 bits (R566, 17). -/
  pdCode : BitVec 3 := 0
  /-- PD_RESULT.PD, 5 bits (R566, 17). -/
  pdNum : BitVec 5 := 0
  /-- Power-domain switch in progress: domain, and whether it switches on (R567, 17). -/
  switching : Option (Nat × Bool) := none
  /-- Clock monitors: 0 XA, 1 TIME, 2 FAB, 3 MEM, 4 CORE, 5 LANE (R561, 17). -/
  mons : Tab ClkMon := []
  /-- PWR_GOOD fell less than 2 ms ago, and its rise is ignored (R582, 18). -/
  holdoff : Bool := false
  deriving DecidableEq, Repr

/-- The management port (chapter 18, R595 to R601), with the MIPI and DMTF defaults (log entry 32). -/
structure Mgmt where
  /-- Dynamic address, 7 bits (R597, 18). -/
  addr : Option (BitVec 7) := none
  /-- CHAIN_IN as last seen (R597, 18). -/
  chainIn : Bool := false
  /-- Target events enabled by ENEC and DISEC, 8 bits: bit 0 interrupts, bit 3 Hot-Join (R595, 18; log entry
  32). -/
  events : BitVec 8 := 0xFF
  /-- Maximum write length, 16 bits (R595, 18). Reset 69. -/
  mwl : BitVec 16 := 69
  /-- Maximum read length, 16 bits (R595, 18). Reset 69. -/
  mrl : BitVec 16 := 69
  /-- MCTP endpoint ID, 8 bits (R599, 18; log entry 32). -/
  eid : BitVec 8 := 0
  /-- Boundary register of the test access port (R545, 16; log entry 2). -/
  boundary : Octets := []
  deriving DecidableEq, Repr
/-- Physical clusters, the spare, poisoned pages and channel errors (chapter 15, spare cluster and
working-memory channels). -/
structure Units where
  /-- LOGICAL of C0 to C7 and CS: logical number, 0xFE spare, 0xFF retired (R487, 15). Reset: Ck is k, CS retired
  from use (no spare before a layout). -/
  logical : List Nat := [0, 1, 2, 3, 4, 5, 6, 7, 0xFF]
  /-- SPARE_STATE: 0 ready, 1 under test, 2 quarantined, 3 none (R487, 15). Reset 3. -/
  spareState : Nat := 3
  /-- Logical clusters whose replacement by the spare is in progress (R479, 15). -/
  replacing : List Nat := []
  /-- TIME of the lockstep mismatches of each physical cluster, newest first (R481, R487, 15). -/
  mismatches : Tab (List Nat) := []
  /-- TIME of the failed test cycles of the spare, newest first (R478, 15). -/
  spareFails : List Nat := []
  /-- Poisoned 4 KiB pages, until the next reset (R483, 15). -/
  poisoned : List Nat := []
  /-- TIME of the uncorrectable events of each channel, newest first (R485, 15). -/
  channelErrors : Tab (List Nat) := []
  /-- Reserve pages in use of each copy of a critical table, key 2 × table + copy: counters, rules, image,
  journal (R484, 15). -/
  reserve : Tab Nat := []
  /-- Critical-table copies that are lost and not yet rebuilt, 2 × table + copy (R485, 15). -/
  lostCopies : List Nat := []
  deriving DecidableEq, Repr

/-- Output pins that follow the module's state; CROWN_OUT is held with the pair (R573). -/
structure Pins where
  /-- ALERT_N is pulled low (R576, 18). -/
  alertLow : Bool := false
  /-- CHAIN_OUT is high (R597, 18). -/
  chainOut : Bool := false
  deriving DecidableEq, Repr

/-! ### The module -/

/-- One PRK-3680 module. -/
structure State where
  /-- Commands waiting, first in first out: the model's own queue. -/
  pending : List Instr := []
  /-- Draws of free values so far: the model's own counter (log entry 3). -/
  free : Nat := 0
  /-- What the module has issued to the outside, newest first: the model's own (log entry 7). -/
  outbox : List Emit := []
  /-- PWR_GOOD pin (R582, 18). -/
  pwrGood : Bool := false
  pins : Pins := {}
  boot : Boot := {}
  warden : Warden := {}
  alarms : Alarms := {}
  clocks : Clocks := {}
  mgmt : Mgmt := {}
  portA : Port := {}
  portB : Port := {}
  /-- MSI-X vectors, key 64 × function index + vector (R99, 03). -/
  msix : Tab MsixVec := []
  so : Sorting := {}
  /-- The 64 logical cores, 8 × k + c (R19, 01). -/
  cores : Tab Core := []
  /-- Working memory, octets by FAR address (R15, 01; log entry 8). -/
  wmem : Tab Octet := []
  arrays : Arrays := {}
  keys : KeyUnit := {}
  entropy : Entropy := {}
  gates : Gates := {}
  slots : Slots := {}
  tb : Timebase := {}
  journal : Journal := {}
  pair : Pair := {}
  units : Units := {}
  deriving DecidableEq, Repr

/-- The machine right after reset: every field at its reset value (see the fields' docstrings). -/
def State.reset : State := {}

/-- Stops of a step.  No meaning of this model ends in one: an access the manual calls unmapped is
answered by the manual's own decode error (R16), and an event that cannot occur in a state leaves
the state as it is. -/
inductive Fault where
  /-- Raised by nothing in this model; kept so that the type says a step may fault.  Safe. -/
  | none
  deriving DecidableEq, Repr

/-- Refusals of a step. -/
inductive Refusal where
  /-- The command has no meaning in this model yet: raised by its arm of exec.  Safe. -/
  | notModelled (mnemonic : String)
  deriving DecidableEq, Repr

end Sys2Proof.Machine
end

