-- ==== Sys2Proof/Machine/Ops.lean ====
section
/-! DEFINITION. The named operations over the state that the meanings share: sparse tables, octet
strings, free values, Postmarks, messages to the host, the journal, and access to the parts of the
state that are kept by number. -/

namespace Sys2Proof.Machine

open Host

/-! ### Lists by key and sparse tables -/

/-- The value listed at a key. -/
def lookup {α : Type} : List (Nat × α) → Nat → Option α
  | [], _ => none
  | (k, v) :: t, n => if n = k then some v else lookup t n

/-- Put a value at a key, keeping the keys in rising order. -/
def insertAt {α : Type} : List (Nat × α) → Nat → α → List (Nat × α)
  | [], n, v => [(n, v)]
  | (k, w) :: t, n, v =>
    if n < k then (n, v) :: (k, w) :: t
    else if n = k then (n, v) :: t
    else (k, w) :: insertAt t n v

/-- Take a key out. -/
def removeAt {α : Type} : List (Nat × α) → Nat → List (Nat × α)
  | [], _ => []
  | (k, w) :: t, n => if n = k then removeAt t n else (k, w) :: removeAt t n

/-- The value of a sparse table at a key, `d` where none is listed. -/
def tget {α : Type} (d : α) (t : Tab α) (n : Nat) : α := (lookup t n).getD d

/-- A sparse table with a value put at a key; the default value is not listed. -/
def tset {α : Type} [DecidableEq α] (d : α) (t : Tab α) (n : Nat) (v : α) : Tab α :=
  if v = d then removeAt t n else insertAt t n v

/-- Keys strictly rising above a bound. -/
def risingFrom {α : Type} : Nat → List (Nat × α) → Bool
  | _, [] => true
  | b, (k, _) :: t => decide (b ≤ k) && risingFrom (k + 1) t

/-- The canonical form of a sparse table: keys strictly rising, no default value listed. -/
def tabWf {α : Type} [DecidableEq α] (d : α) (t : Tab α) : Bool :=
  risingFrom 0 t && t.all (fun e => decide (e.2 ≠ d))

/-- The canonical form of an octet memory, in which an unlisted octet reads as zero (log entry 8). -/
def Memory.wf (m : Tab Octet) : Bool := tabWf 0 m

/-! ### Octet strings and numbers -/

/-- n octets of a number, least significant first (R4). -/
def le : Nat → Nat → Octets
  | 0, _ => []
  | n + 1, v => BitVec.ofNat 8 v :: le n (v / 256)

/-- n octets of a number, most significant first (R5). -/
def be (n v : Nat) : Octets := (le n v).reverse

/-- The number of a little-endian octet string. -/
def leNat : Octets → Nat
  | [] => 0
  | o :: t => o.toNat + 256 * leNat t

/-- The number of a big-endian octet string. -/
def beNat (o : Octets) : Nat := leNat o.reverse

/-- `n` zero octets. -/
def zeros (n : Nat) : Octets := List.replicate n 0

/-- Cut or zero-fill to exactly n octets. -/
def fit (n : Nat) (o : Octets) : Octets := (o ++ zeros n).take n

/-- n octets from an offset, zero-filled past the end. -/
def slice (o : Octets) (off n : Nat) : Octets := fit n (o.drop off)

/-- Little-endian fields of an octet string (R4). -/
def u8 (o : Octets) (off : Nat) : Nat := leNat (slice o off 1)
def u16 (o : Octets) (off : Nat) : Nat := leNat (slice o off 2)
def u32 (o : Octets) (off : Nat) : Nat := leNat (slice o off 4)
def u64 (o : Octets) (off : Nat) : Nat := leNat (slice o off 8)

/-- Are n octets from an offset all zero? (R8) -/
def zeroAt (o : Octets) (off n : Nat) : Bool := (slice o off n).all (· == 0)

/-- Octets of an ASCII text. -/
def ascii (t : String) : Octets := t.toList.map (fun c => BitVec.ofNat 8 c.toNat)

/-- Exclusive or of two octet strings, to the shorter length. -/
def xorO (a b : Octets) : Octets := List.zipWith (· ^^^ ·) a b

/-- Sign extension of a field to a wider one. -/
def sext {n : Nat} (m : Nat) (x : BitVec n) : BitVec m := x.signExtend m

/-- Ceiling division. -/
def ceilDiv (a b : Nat) : Nat := (a + b - 1) / b

/-- Bit i of a number. -/
def bitOf (n i : Nat) : Bool := n.testBit i

/-- How many of the low `w` bits of a number are set. -/
def popCount : Nat → Nat → Nat
  | 0, _ => 0
  | w + 1, n => n % 2 + popCount w (n / 2)

/-- SHA-2 of an octet string, with the digest length fixed. -/
def sha (len : Nat) (o : Octets) : Octets := fit len (Primitive.sha2 len o)

/-- HMAC with the SHA-2 hash of that digest length (FIPS 198-1). -/
def hmac (len : Nat) (key o : Octets) : Octets :=
  let b := if len = 32 then 64 else 128
  let k := fit b (if key.length > b then sha len key else key)
  sha len (k.map (· ^^^ 0x5C) ++ sha len (k.map (· ^^^ 0x36) ++ o))

/-! ### Free values -/

/-- Draw a free number. -/
def drawNat (s : State) : Nat × State := (Config.freeNat s.free, { s with free := s.free + 1 })

/-- n free octets from a draw number on. -/
def freeOctets : Nat → Nat → Octets
  | 0, _ => []
  | n + 1, i => Config.freeOctet i :: freeOctets n (i + 1)

/-- Draw n free octets. -/
def drawOctets (s : State) (n : Nat) : Octets × State :=
  (freeOctets n s.free, { s with free := s.free + n })

/-! ### Counters -/

/-- Count one in a statistics counter (R474): it saturates and sets OVF. -/
def Stat.inc (c : Stat) : Stat :=
  if c.count = BitVec.allOnes 48 then { c with ovf := true } else { c with count := c.count + 1 }

/-- Count one in a counter that saturates without an overflow bit (R474). -/
def satInc {n : Nat} (c : BitVec n) : BitVec n := if c = BitVec.allOnes n then c else c + 1

/-- A number saturated to n bits (R22). -/
def satNat (n v : Nat) : BitVec n := if v < 2 ^ n then BitVec.ofNat n v else BitVec.allOnes n

/-! ### Parts of the state kept by number -/

def State.core (s : State) (k : Nat) : Core := tget {} s.cores k
def State.setCore (s : State) (k : Nat) (c : Core) : State := { s with cores := tset {} s.cores k c }
def State.ph (s : State) (n : Nat) : Ph := tget {} s.so.phs n
def State.setPh (s : State) (n : Nat) (p : Ph) : State :=
  { s with so := { s.so with phs := tset {} s.so.phs n p } }
def State.cmd (s : State) (e : Nat) : Option Cmd := lookup s.so.cmds e
def State.setCmd (s : State) (e : Nat) (c : Cmd) : State :=
  { s with so := { s.so with cmds := insertAt s.so.cmds e c } }
def State.delCmd (s : State) (e : Nat) : State :=
  { s with so := { s.so with cmds := removeAt s.so.cmds e } }
def State.port (s : State) (b : Bool) : Port := if b then s.portB else s.portA
def State.setPort (s : State) (b : Bool) (p : Port) : State :=
  if b then { s with portB := p } else { s with portA := p }
def State.monitor (s : State) (n : Nat) : Monitor := tget {} s.alarms.monitors n
def State.setMonitor (s : State) (n : Nat) (m : Monitor) : State :=
  { s with alarms := { s.alarms with monitors := tset {} s.alarms.monitors n m } }

/-- Staging and scratch area of command-table entry e (R412). -/
def stagingAddr (e : Nat) : Nat := 0x78000000 + 0x1000 * e
def scratchAddr (e : Nat) : Nat := 0x7C000000 + 0x200 * e

/-- Offset of the input and output windows of a command on global core m (R413), and what the output
window is long. -/
def hsIn (m : Nat) (c : Cmd) : Nat := m * 2 ^ 30 + 2 ^ 29 + c.d.inAddr.toNat % 2 ^ 24
def hsOut (m : Nat) (c : Cmd) : Nat := m * 2 ^ 30 + c.d.outAddr.toNat % 2 ^ 24
def hsOutLen (c : Cmd) : Nat := min c.d.outCap.toNat (2 ^ 28)

/-- Apply a change to every command of the command table. -/
def State.mapCmds (s : State) (f : Nat → Cmd → Cmd) : State :=
  { s with so := { s.so with cmds := s.so.cmds.map (fun x => (x.1, f x.1 x.2)) } }

/-- The core numbers 0 to 63. -/
def coreNums : List Nat := List.range 64

/-- Issue something to the outside. -/
def emit (s : State) (m : Emit) : State := { s with outbox := m :: s.outbox }

/-- Key of an MSI-X vector: function index × 64 + vector. -/
def msixKey (fn : Fn) (v : Nat) : Nat := ((if fn.portB then 257 else 0) + fn.vf.toNat) * 64 + v

/-- Send the message of a vector, or set its pending bit while it is masked (R99). -/
def msixSend (s : State) (fn : Fn) (v : Nat) : State :=
  let m := tget {} s.msix (msixKey fn v)
  if m.masked then { s with msix := tset {} s.msix (msixKey fn v) { m with pending := true } }
  else emit s (.msix fn v)

/-- Signal a module-event vector on both PF0s (R524). -/
def msixBoth (s : State) (v : Nat) : State := msixSend (msixSend s ⟨false, 0⟩ v) ⟨true, 0⟩ v

/-! ### Timebase and Postmarks -/

/-- TIME: LOCAL + OFFSET modulo 2^64 (R456). -/
def State.time (s : State) : BitVec 64 := s.tb.timeLocal + s.tb.offset

/-- Stamp a Postmark at a source, no earlier than `least` and than the source's last (R462, R464).
Sampling is 0 to 3 ns late: a free value (R463, R560). -/
def stampFrom (s : State) (src : Nat) (least : BitVec 64) : Postmark × State :=
  let (late, s) := drawNat s
  let p := tget {} s.tb.sources src
  let seen := s.time + BitVec.ofNat 64 (late % 4)
  let t := max (max seen.toNat least.toNat) p.last.toNat
  let t := if t = p.last.toNat && p.same ≥ 64 then t + 1 else t
  let same := if t = p.last.toNat then p.same + 1 else 1
  let q : PmSource := { seq := p.seq + 1, last := BitVec.ofNat 64 t, same := same }
  ({ time := BitVec.ofNat 64 t, src := BitVec.ofNat 16 src, seq := q.seq },
   { s with tb := { s.tb with sources := tset {} s.tb.sources src q } })

def stamp (s : State) (src : Nat) : Postmark × State := stampFrom s src 0

/-- A Postmark as 12 octets, little-endian (R96). -/
def Postmark.octets (p : Postmark) : Octets :=
  le 2 p.seq.toNat ++ le 2 p.src.toNat ++ le 8 p.time.toNat

/-- Source IDs of R461. -/
def srcCore (k : Nat) : Nat := 0x1000 + k
def srcEntropy : Nat := 0x1300
def srcKeyUnit : Nat := 0x1400
def srcAlarm : Nat := 0x1500
def srcSupervisor : Nat := 0x1600
def srcMirror : Nat := 0x1700
def srcPort (b : Bool) : Nat := if b then 0x1801 else 0x1800

/-! ### Journal -/

/-- Octets 0x00 to 0x4F of an entry (R465). -/
def JEntry.head (j : JEntry) : Octets :=
  le 8 j.jseq.toNat ++ j.pm.octets ++ le 2 j.type.toNat ++ [j.origin, j.cls] ++ le 2 j.slot.toNat ++
  le 2 j.ph.toNat ++ le 2 j.opcode.toNat ++ le 2 j.status.toNat ++ le 8 j.cmdId.toNat ++
  j.dispatch.octets ++ le 4 j.seg.toNat ++ fit 24 j.detail

/-- The 256 octets of an entry (R465). -/
def JEntry.octets (j : JEntry) : Octets :=
  j.head ++ fit 48 j.chain ++ fit 96 j.sig ++ fit 8 j.frankId ++ zeros 24

/-- A Postmark read back from its octets. -/
def Postmark.ofOctets (o : Octets) : Postmark :=
  { seq := BitVec.ofNat 16 (u16 o 0), src := BitVec.ofNat 16 (u16 o 2), time := BitVec.ofNat 64 (u64 o 4) }

/-- An entry read back from its 256 octets (R465). -/
def JEntry.ofOctets (o : Octets) : JEntry :=
  { jseq := BitVec.ofNat 64 (u64 o 0), pm := Postmark.ofOctets (slice o 8 12), type := BitVec.ofNat 16 (u16 o 0x14),
    origin := BitVec.ofNat 8 (u8 o 0x16), cls := BitVec.ofNat 8 (u8 o 0x17), slot := BitVec.ofNat 16 (u16 o 0x18),
    ph := BitVec.ofNat 16 (u16 o 0x1A), opcode := BitVec.ofNat 16 (u16 o 0x1C), status := BitVec.ofNat 16 (u16 o 0x1E),
    cmdId := BitVec.ofNat 64 (u64 o 0x20), dispatch := Postmark.ofOctets (slice o 0x28 12),
    seg := BitVec.ofNat 32 (u32 o 0x34), detail := slice o 0x38 24, chain := slice o 0x50 48,
    sig := if zeroAt o 0x80 96 then [] else slice o 0x80 96, frankId := if zeroAt o 0xE0 8 then [] else slice o 0xE0 8 }

/-- Capacity of the journal ring. -/
def journalCap : Nat := 262144

/-- An entry of the current segment that HEAD has not passed (R470; closed segments: log entry 35). -/
def Journal.unstreamed (j : Journal) (e : JEntry) : Bool := e.seg == j.seg && decide (j.head.toNat ≤ e.jseq.toNat)

/-- Unstreamed entries fill the ring (R470). -/
def Journal.full (j : Journal) : Bool :=
  decide (j.ring.length ≥ journalCap) && (match j.ring with | [] => false | e :: _ => j.unstreamed e)

/-- Types that never wait under STALL (R470). -/
def neverWaits (t : BitVec 16) : Bool := t == 1 || t == 3 || t == 4 || t == 5

/-- Put an entry at the end of the ring, numbered and chained (R465, R466); the oldest entry of a
full ring is overwritten, and counted in LOST where it was unstreamed (R470). -/
def Journal.put (j : Journal) (e : JEntry) : Journal :=
  let e := { e with jseq := j.next, seg := j.seg }
  let h := sha 48 (j.chain ++ e.head)
  let e := { e with chain := h }
  let lose := j.full
  let old := if j.ring.length ≥ journalCap then j.ring.drop 1 else j.ring
  { j with ring := old ++ [e], next := j.next + 1, chain := h,
           lost := if lose then j.lost.inc else j.lost,
           unrecorded := if lose then j.unrecorded + 1 else j.unrecorded }

/-- Append an entry, or let it wait under STALL (R470).  The entry that the waits give way to
comes from `journalRelease`. -/
def Journal.append (j : Journal) (e : JEntry) : Journal :=
  if j.full && !j.overwrite && !neverWaits e.type then { j with waiting := j.waiting ++ [e] }
  else j.put e

/-- The link is up and its session is confirmed (R489, R491). -/
def linkLive (s : State) : Bool := s.pair.linkUp && ((s.pair.session.map (·.confirmed)).getD false)

/-- Send a message of a class on the mirror link, with the next MSEQ (R492, R493); while the link is down a
message for a joined partner waits (R510). -/
def sendLink (s : State) (cls : BitVec 8) (payload : Octets) : State :=
  if linkLive s then
    let n := s.pair.mseqTx + 1
    emit { s with pair := { s.pair with mseqTx := n } } (.mirror false cls (le 8 n ++ payload))
  else if s.pair.joined then { s with pair := { s.pair with unsent := s.pair.unsent ++ [(cls, payload)] } }
  else s

/-- Append an entry to the ring of this module only. -/
def journalHere (s : State) (e : JEntry) : State := { s with journal := s.journal.append e }

/-- Journal an event: a standby sends it to the active module, which mirrors what it appends (R469). -/
def journal (s : State) (e : JEntry) : State :=
  if s.pair.role = .standby ∨ s.pair.role = .joining then sendLink s 0x31 e.octets
  else
    let t := journalHere s e
    if s.pair.mirroring ∧ t.journal.next ≠ s.journal.next then
      sendLink t 0x30 (((t.journal.ring.getLast?).map JEntry.octets).getD [] ++ le 8 t.journal.head.toNat)
    else t

/-- Append a journal entry of a type, stamped by the supervisor. -/
def journalNow (s : State) (type : BitVec 16) (detail : Octets) : State :=
  let (p, s) := stamp s srcSupervisor
  journal s { pm := p, type := type, detail := detail }

/-! ### Status codes (R106) -/

def stOk : Code := 0x0000
def badOpcode : Code := 0x0101
def badVersion : Code := 0x0102
def badLength : Code := 0x0103
def badField : Code := 0x0104
def badAlignment : Code := 0x0105
def keyNotFound : Code := 0x0201
def keyEnvelopeInvalid : Code := 0x0202
def keyUsageDenied : Code := 0x0203
def keyUsesExhausted : Code := 0x0204
def keyExpired : Code := 0x0205
def keyDomainMismatch : Code := 0x0206
def keyLegacyRefused : Code := 0x0207
def verifyFailed : Code := 0x0301
def sigInvalid : Code := 0x0302
def pinFormatError : Code := 0x0303
def badScalar : Code := 0x0311
def badCoordinate : Code := 0x0312
def notOnCurve : Code := 0x0313
def pointAtInfinity : Code := 0x0314
def curveCheckFailed : Code := 0x0315
def invariantFailed : Code := 0x0316
def inputRange : Code := 0x0317
def busyRetry : Code := 0x0401
def channelRetired : Code := 0x0402
def slotQuiesced : Code := 0x0403
def cancelledSt : Code := 0x0404
def replayedSt : Code := 0x0405
def hostFault : Code := 0x0406
def countersExhausted : Code := 0x0407
def slotPoolExhausted : Code := 0x0408
def policyDenied : Code := 0x0501
def quorumRequired : Code := 0x0502
def authFailed : Code := 0x0503
def modeRefused : Code := 0x0504
def entropyNotReady : Code := 0x0601
def entropyFailed : Code := 0x0602
def notActive : Code := 0x0701
def lockedSt : Code := 0x0702
def erasedSt : Code := 0x0703
def internalFault : Code := 0x0801
def integrityFault : Code := 0x0802
def programFault : Code := 0x0803

/-! ### Output pins (R573, R576, R597) -/

/-- The alarm block holds ALERT_N low (R576). -/
def alertLow (s : State) : Bool :=
  s.boot.mode == .locked || s.boot.mode == .erased || s.alarms.evE || s.alarms.evL || s.alarms.vbatLow

/-- Boot step 1 is reached, or the module has been reset warm: the outputs follow the module (R573, R576). -/
def outputsOn (s : State) : Bool := s.pwrGood && (decide (1 ≤ s.boot.step) || s.boot.warm)

/-- Every output pin at the level that the module gives it. -/
def drivePins (s : State) : State :=
  { s with pins := { alertLow := outputsOn s && alertLow s, chainOut := s.pwrGood && s.mgmt.addr.isSome } }

/-- The next state of a command, with the output pins driven. -/
def answer (s : State) : Outcome State Fault Refusal := .next (drivePins s)

/-! ### Modes -/

/-- MODE as its register shows it (02, mode registers). -/
def Mode.code : Mode → Nat
  | .battery => 0 | .boot => 1 | .staged => 2 | .service => 3 | .standby => 4
  | .maintenance => 5 | .locked => 6 | .erased => 7 | .diagnostic => 8

/-- LC as its register shows it. -/
def LifeCycle.code : LifeCycle → Nat
  | .manufacture => 0 | .issued => 1 | .commissioned => 2 | .retired => 3

/-- Is the main power on? -/
def Mode.powered (m : Mode) : Bool := m != .battery

/-- Enter a mode and journal the change with its trigger (R468, R549). -/
def setMode (s : State) (m : Mode) (trigger : Code) : State :=
  if s.boot.mode = m then s
  else
    journalNow { s with boot := { s.boot with mode := m } } 5
      ([BitVec.ofNat 8 s.boot.mode.code, BitVec.ofNat 8 m.code] ++ le 2 trigger.toNat)

/-- Change the life-cycle state and journal the change (R468). -/
def setLifeCycle (s : State) (l : LifeCycle) (trigger : Code) : State :=
  if s.warden.lc = l then s
  else
    journalNow { s with warden := { s.warden with lc := l } } 5
      ([BitVec.ofNat 8 s.warden.lc.code, BitVec.ofNat 8 l.code] ++ le 2 trigger.toNat)

end Sys2Proof.Machine
end

