-- ==== Sys2Proof/Machine/Crypto.lean ====
section
/-! DEFINITION. The constructions that the manual builds from the block ciphers and hashes: TDEA, CBC,
counter mode, MACs, check values and the key derivation functions. -/

namespace Sys2Proof.Machine

/-! ### Blocks -/

def aesEnc (k b : Octets) : Octets := fit 16 (Primitive.aesEnc k b)
def aesDec (k b : Octets) : Octets := fit 16 (Primitive.aesDec k b)
def desEnc (k b : Octets) : Octets := fit 8 (Primitive.desEnc k b)
def desDec (k b : Octets) : Octets := fit 8 (Primitive.desDec k b)

/-- Part i of a TDEA key; a double-length key uses its first part again as the third. -/
def tdesPart (k : Octets) (i : Nat) : Octets := slice k (if k.length ≤ 16 && i == 2 then 0 else 8 * i) 8

def tdesEnc (k b : Octets) : Octets := desEnc (tdesPart k 2) (desDec (tdesPart k 1) (desEnc (tdesPart k 0) b))
def tdesDec (k b : Octets) : Octets := desDec (tdesPart k 0) (desEnc (tdesPart k 1) (desDec (tdesPart k 2) b))

/-- Is ALG a TDEA key, an AES key? (R278) -/
def isTdea (alg : Nat) : Bool := alg == 1 || alg == 2
def isAes (alg : Nat) : Bool := alg == 3 || alg == 4 || alg == 5

/-- Key octets of ALG (R278): HMAC keys named by label have 32, seeds 32. -/
def algLen (alg : Nat) : Nat := if alg = 1 then 16 else if alg = 2 then 24 else if alg = 3 then 16 else if alg = 4 then 24 else 32

def blockLen (alg : Nat) : Nat := if isTdea alg then 8 else 16
def blockEnc (alg : Nat) (k b : Octets) : Octets := if isTdea alg then tdesEnc k b else aesEnc k b
def blockDec (alg : Nat) (k b : Octets) : Octets := if isTdea alg then tdesDec k b else aesDec k b

/-- Cut into blocks of n octets; the last may be short.  Fuel is the length. -/
def chunks (n : Nat) : Nat → Octets → List Octets
  | 0, _ => []
  | _ + 1, [] => []
  | f + 1, o => o.take n :: chunks n f (o.drop n)

def blocks (n : Nat) (o : Octets) : List Octets := chunks n o.length o

/-! ### Modes -/

/-- CBC: enciphered blocks from a chaining value. -/
def cbcEncBlocks (enc : Octets → Octets) : Octets → List Octets → List Octets
  | _, [] => []
  | v, b :: t => let c := enc (xorO v b); c :: cbcEncBlocks enc c t
def cbcDecBlocks (dec : Octets → Octets) : Octets → List Octets → List Octets
  | _, [] => []
  | v, b :: t => xorO v (dec b) :: cbcDecBlocks dec b t

def cbcEnc (alg : Nat) (k iv o : Octets) : Octets :=
  (cbcEncBlocks (blockEnc alg k) (fit (blockLen alg) iv) (blocks (blockLen alg) o)).flatten
def cbcDec (alg : Nat) (k iv o : Octets) : Octets :=
  (cbcDecBlocks (blockDec alg k) (fit (blockLen alg) iv) (blocks (blockLen alg) o)).flatten

/-- Counter mode over the whole 128-bit block as a big-endian integer modulo 2^128 (R204). -/
def ctrBlocks (k : Octets) : Nat → List Octets → List Octets
  | _, [] => []
  | c, b :: t => xorO b (aesEnc k (be 16 (c % 2 ^ 128))) :: ctrBlocks k (c + 1) t
def ctrCrypt (k iv o : Octets) : Octets := (ctrBlocks k (beNat (fit 16 iv)) (blocks 16 o)).flatten

/-- The last block of a CBC pass, the chaining value when there is none. -/
def cbcMac (enc : Octets → Octets) (v : Octets) (o : Octets) (n : Nat) : Octets :=
  (cbcEncBlocks enc v (blocks n o)).getLastD v

/-! ### MACs -/

/-- Zero-fill to a multiple of n octets. -/
def padTo (n : Nat) (o : Octets) : Octets := o ++ zeros ((n - o.length % n) % n)

/-- ISO 9797-1 padding methods 1 and 2, 8-octet blocks. -/
def isoPad (method : Nat) (o : Octets) : Octets := if method = 2 then padTo 8 (o ++ [0x80]) else padTo 8 o

/-- ISO 9797-1 algorithm 1 with TDEA. -/
def macAlg1 (k : Octets) (method : Nat) (o : Octets) : Octets := cbcMac (tdesEnc k) (zeros 8) (isoPad method o) 8

/-- ISO 9797-1 algorithm 3: single DES under KA, then decipher under KB and encipher under KA. -/
def macAlg3 (k : Octets) (method : Nat) (o : Octets) : Octets :=
  let h := cbcMac (desEnc (slice k 0 8)) (zeros 8) (isoPad method o) 8
  desEnc (slice k 0 8) (desDec (slice k 8 8) h)

/-- Doubling in GF(2^64) or GF(2^128), big-endian blocks of n octets (SP 800-38B). -/
def dbl (n : Nat) (b : Octets) : Octets :=
  let v := 2 * beNat b
  be n (if v ≥ 2 ^ (8 * n) then (v - 2 ^ (8 * n)) ^^^ (if n = 8 then 0x1B else 0x87) else v)

/-- CMAC under an AES or TDEA key (SP 800-38B). -/
def cmac (alg : Nat) (k o : Octets) : Octets :=
  let n := blockLen alg
  let k1 := dbl n (blockEnc alg k (zeros n))
  let full := o.length ≠ 0 ∧ o.length % n = 0
  let cut := if full then o.length - n else o.length - o.length % n
  let last := if full then xorO (o.drop cut) k1 else xorO (fit n (o.drop cut ++ [0x80])) (dbl n k1)
  cbcMac (blockEnc alg k) (zeros n) (o.take cut ++ last) n

/-! ### Authenticated modes -/

/-- Product in the field of GHASH (SP 800-38D), bit 0 leftmost. -/
def gmul (x y : Nat) : Nat :=
  ((List.range 128).foldl (fun (acc : Nat × Nat) i =>
    (if x.testBit (127 - i) then acc.1 ^^^ acc.2 else acc.1,
     if acc.2 % 2 = 1 then acc.2 / 2 ^^^ (0xE1 * 2 ^ 120) else acc.2 / 2)) (0, y)).1

/-- GHASH of blocks under a hash key. -/
def ghash (h : Nat) (o : Octets) : Nat := (blocks 16 o).foldl (fun y b => gmul (y ^^^ beNat b) h) 0

/-- GCTR: the low 32 bits of the counter block count. -/
def gctr (k : Octets) (j : Nat) (o : Octets) : Octets :=
  ((blocks 16 o).zipIdx.map (fun (b, i) =>
    xorO b (aesEnc k (be 16 (j / 2 ^ 32 * 2 ^ 32 + (j + i) % 2 ^ 32))))).flatten

/-- GCM tag over AAD and ciphertext from J0. -/
def gcmTag (k : Octets) (j0 : Nat) (aad ct : Octets) : Octets :=
  let h := beNat (aesEnc k (zeros 16))
  let s := ghash h (padTo 16 aad ++ padTo 16 ct ++ be 8 (8 * aad.length) ++ be 8 (8 * ct.length))
  xorO (aesEnc k (be 16 j0)) (be 16 s)

/-- J0 of a 12-octet IV. -/
def gcmJ0 (iv : Octets) : Nat := beNat (fit 12 iv) * 2 ^ 32 + 1

/-- GCM from J0: ciphertext and tag; and the reverse, plaintext and the tag computed. -/
def gcmEnc (k : Octets) (j0 : Nat) (aad o : Octets) : Octets × Octets :=
  let ct := gctr k (j0 / 2 ^ 32 * 2 ^ 32 + (j0 + 1) % 2 ^ 32) o
  (ct, gcmTag k j0 aad ct)
def gcmDec (k : Octets) (j0 : Nat) (aad o : Octets) : Octets × Octets :=
  (gctr k (j0 / 2 ^ 32 * 2 ^ 32 + (j0 + 1) % 2 ^ 32) o, gcmTag k j0 aad o)

/-- S2V of RFC 5297 over the associated-data strings and the text. -/
def s2v (k : Octets) (ad : List Octets) (p : Octets) : Octets :=
  let d := ad.foldl (fun d a => xorO (dbl 16 d) (cmac 5 k a)) (cmac 5 k (zeros 16))
  if p.length ≥ 16 then
    let cut := p.length - 16
    cmac 5 k (p.take cut ++ xorO (p.drop cut) d)
  else cmac 5 k (xorO (dbl 16 d) (fit 16 (p ++ [0x80])))

/-- Counter block of SIV: the top bits of its two low words cleared. -/
def sivCtr (v : Octets) : Octets :=
  v.take 8 ++ [(slice v 8 1).headD 0 &&& 0x7F] ++ slice v 9 3 ++ [(slice v 12 1).headD 0 &&& 0x7F] ++ slice v 13 3

/-- AES-256-SIV: 64-octet key, S2V key first (R275, R282). -/
def sivEnc (k : Octets) (ad : List Octets) (p : Octets) : Octets :=
  let v := s2v (k.take 32) ad p
  v ++ ctrCrypt (slice k 32 32) (sivCtr v) p
def sivDec (k : Octets) (ad : List Octets) (o : Octets) : Option Octets :=
  let v := o.take 16
  let p := ctrCrypt (slice k 32 32) (sivCtr v) (o.drop 16)
  if s2v (k.take 32) ad p == v then some p else none

/-! ### FF1 (SP 800-38G) -/

def numRadix (radix : Nat) (x : List Nat) : Nat := x.foldl (fun a d => a * radix + d) 0
def strRadix (radix m v : Nat) : List Nat := (List.range m).map (fun i => v / radix ^ (m - 1 - i) % radix)

/-- The round function's value y for round i over half-string `b`. -/
def ff1Y (k : Octets) (radix : Nat) (tweak : Octets) (n i : Nat) (b : List Nat) : Nat :=
  let u := n / 2
  let v := n - u
  let bb := ceilDiv (Nat.log2 (radix ^ v - 1) + 1) 8
  let d := 4 * ceilDiv bb 4 + 4
  let p : Octets := [1, 2, 1] ++ be 3 radix ++ [10, BitVec.ofNat 8 (u % 256)] ++ be 4 n ++ be 4 tweak.length
  let q := tweak ++ zeros ((32 * 16 - tweak.length - bb - 1) % 16) ++ [BitVec.ofNat 8 i] ++ be bb (numRadix radix b)
  let r := cbcMac (aesEnc k) (zeros 16) (p ++ q) 16
  let s := (r :: (List.range (ceilDiv d 16 - 1)).map (fun j => aesEnc k (xorO r (be 16 (j + 1))))).flatten
  beNat (s.take d)

/-- Ten rounds, enciphering or deciphering. -/
def ff1 (enc : Bool) (k : Octets) (radix : Nat) (tweak : Octets) (x : List Nat) : List Nat :=
  let n := x.length
  let u := n / 2
  let go := (if enc then List.range 10 else (List.range 10).reverse).foldl (fun (ab : List Nat × List Nat) i =>
    let m := if i % 2 = 0 then u else n - u
    if enc then
      let c := (numRadix radix ab.1 + ff1Y k radix tweak n i ab.2) % radix ^ m
      (ab.2, strRadix radix m c)
    else
      let y := ff1Y k radix tweak n i ab.1 % radix ^ m
      let c := (numRadix radix ab.2 + radix ^ m - y) % radix ^ m
      (strRadix radix m c, ab.1)) (x.take u, x.drop u)
  go.1 ++ go.2

/-! ### X9.143 wrapping (log entry 20) -/

/-- Derived key of a KBPK: purpose 0 encryption, 1 MAC. -/
def x9Derive (alg : Nat) (kbpk : Octets) (purpose : Nat) : Octets :=
  let n := algLen alg
  let ind := if isTdea alg then alg - 1 else alg - 1
  ((List.range (ceilDiv n (blockLen alg))).map (fun i =>
    cmac alg kbpk ([BitVec.ofNat 8 (i + 1)] ++ be 2 purpose ++ [0] ++ be 2 ind ++ be 2 (8 * n)))).flatten.take n

/-- Characters of hexadecimal. -/
def hexDigit (n : Nat) : Octet := BitVec.ofNat 8 (if n < 10 then 0x30 + n else 0x37 + n)

/-- Odd parity in each octet (R182, R272): the low bit makes the count of ones odd. -/
def oddParity (o : Octets) : Octets :=
  o.map (fun b => if popCount 7 (b.toNat / 2) % 2 = 0 then b ||| 1 else b &&& 0xFE)

/-- Key check value (R201), left-aligned in 5 octets; zero for EC and RSA. -/
def kcvOf (alg : Nat) (k : Octets) : Octets :=
  if isTdea alg then fit 5 ((tdesEnc k (zeros 8)).take 3)
  else if isAes alg then (cmac alg k (zeros 16)).take 5
  else if alg = 6 then (hmac 32 k (zeros 16)).take 5
  else zeros 5

/-! ### Key derivation -/

/-- kdf(K, X, L) of R270, L in bits. -/
def kdf (k x : Octets) (bits : Nat) : Octets :=
  (((List.range (ceilDiv bits 128)).map (fun i => fit 16 (cmac 5 k (be 4 (i + 1) ++ x ++ [0] ++ be 4 bits)))).flatten).take (bits / 8)

/-- NIST SP 800-56C one-step KDF with SHA-384 (R200, R261, R317): n octets. -/
def oneStep (z info : Octets) (n : Nat) : Octets :=
  (((List.range (ceilDiv n 48)).map (fun i => sha 48 (be 4 (i + 1) ++ z ++ info))).flatten).take n

/-! ### Decimal digits -/

/-- Nibbles of an octet string, most significant first. -/
def nibbles : Octets → List Nat
  | [] => []
  | o :: t => o.toNat / 16 :: o.toNat % 16 :: nibbles t

/-- Octets of an even count of nibbles. -/
def packNibbles : List Nat → Octets
  | a :: b :: t => BitVec.ofNat 8 (16 * (a % 16) + b % 16) :: packNibbles t
  | [a] => [BitVec.ofNat 8 (16 * (a % 16))]
  | [] => []

/-- Left-aligned digits filled with 0xF to n octets. -/
def packF (n : Nat) (d : List Nat) : Octets := packNibbles ((d ++ List.replicate (2 * n) 15).take (2 * n))

/-- Decimalisation of R160 step 3: the decimal nibbles, then the others minus 10. -/
def decimalise (o : Octets) : List Nat :=
  (nibbles o).filter (· < 10) ++ ((nibbles o).filter (· ≥ 10)).map (· - 10)

end Sys2Proof.Machine
end

