-- ==== Sys2Proof/Machine/Ec.lean ====
section
/-! DEFINITION. Public-key arithmetic: modular powers, curve points, ECDSA with the nonce rule of R260,
RSA and its encodings, and the checks of a curve entry (R247 to R262). -/

namespace Sys2Proof.Machine

/-! ### Modular arithmetic -/

/-- a^e mod n by squaring, over the bits of e from the top. -/
def powMod (a e n : Nat) : Nat :=
  (List.range (e.log2 + 1)).foldr (fun i r => let q := r * r % n; if e.testBit i then q * a % n else q) (1 % n)

/-- Inverse modulo a prime by Fermat. -/
def invPrime (a p : Nat) : Nat := powMod (a % p) (p - 2) p

/-- Extended Euclid with fuel: remainders r0, r1 and coefficients t0, t1. -/
def euclid : Nat → Nat → Nat → Int → Int → Int
  | 0, _, _, t0, _ => t0
  | f + 1, r0, r1, t0, t1 => if r1 = 0 then t0 else euclid f r1 (r0 % r1) t1 (t0 - (r0 / r1 : Nat) * t1)

/-- Inverse of a modulo m where they share no factor. -/
def invMod (a m : Nat) : Nat := ((euclid (2 * (m.log2 + 2)) m (a % m) 0 1) % (m : Int)).toNat

/-- One Miller–Rabin round of n with a base. -/
def mrRound (n base : Nat) : Bool :=
  let s := ((List.range (n.log2 + 1)).find? (fun i => (n - 1).testBit i)).getD 0
  let x := powMod base ((n - 1) / 2 ^ s) n
  x == 1 || ((List.range s).foldl (fun (acc : Nat × Bool) _ => (acc.1 * acc.1 % n, acc.2 || acc.1 == n - 1)) (x, false)).2

/-! ### Curves (R247, R248) -/

/-- A curve entry, read. -/
structure Curve where
  index : Nat
  h : Nat
  fieldBits : Nat
  orderBits : Nat
  p : Nat
  a : Nat
  b : Nat
  gx : Nat
  gy : Nat
  n : Nat
  /-- Octets 0x018 to 0x1C7, the input of h_c (R253). -/
  values : Octets
  deriving DecidableEq, Repr

def Curve.fo (c : Curve) : Nat := ceilDiv c.fieldBits 8
def Curve.no (c : Curve) : Nat := ceilDiv c.orderBits 8

/-- Read the 512 octets of an entry. -/
def curveOf (o : Octets) : Curve :=
  { index := u8 o 0, h := u8 o 1, fieldBits := u16 o 2, orderBits := u16 o 4, p := beNat (slice o 0x18 72),
    a := beNat (slice o 0x60 72), b := beNat (slice o 0xA8 72), gx := beNat (slice o 0xF0 72),
    gy := beNat (slice o 0x138 72), n := beNat (slice o 0x180 72), values := slice o 0x18 0x1B0 }

/-- Curve-table entry i: boot ROM for 0 to 5, else what an image or CURVE_LOAD has put there. -/
def curveEntry (s : State) (i : Nat) : Option Curve :=
  if i < 6 then some { curveOf (fit 512 (Primitive.curveRom i)) with index := i }
  else (lookup s.boot.curves i).map curveOf

/-- Affine points; none is the point at infinity. -/
abbrev Point := Option (Nat × Nat)

def onCurve (c : Curve) (x y : Nat) : Bool := y * y % c.p == (x * x * x + c.a * x + c.b) % c.p

def ecAdd (c : Curve) (u v : Point) : Point :=
  match u, v with
  | none, _ => v
  | _, none => u
  | some (x1, y1), some (x2, y2) =>
    if x1 = x2 ∧ (y1 + y2) % c.p = 0 then none
    else
      let l := if x1 = x2 then (3 * x1 * x1 + c.a) * invPrime (2 * y1) c.p % c.p
               else (y2 + c.p - y1) * invPrime (x2 + c.p - x1) c.p % c.p
      let x3 := (l * l + 2 * c.p - x1 - x2) % c.p
      some (x3, (l * (x1 + c.p - x3) + c.p - y1) % c.p)

/-- k·P, over the bits of k from the top. -/
def ecMul (c : Curve) (k : Nat) (u : Point) : Point :=
  (List.range (k.log2 + 1)).foldr (fun i r => let d := ecAdd c r r; if k.testBit i then ecAdd c d u else d) none

def basePoint (c : Curve) : Point := some (c.gx, c.gy)

/-- Public point encoding (R256). -/
def encodePoint (c : Curve) (u : Point) : Octets :=
  match u with
  | some (x, y) => [4] ++ be c.fo x ++ be c.fo y
  | none => zeros (1 + 2 * c.fo)

/-- Decode and check a peer or public point in the order of R256 and R262. -/
def decodePoint (c : Curve) (o : Octets) : Except Code Point :=
  let x := beNat (slice o 1 c.fo)
  let y := beNat (slice o (1 + c.fo) c.fo)
  let pre := u8 o 0
  if pre = 0 then (if o.all (· == 0) then .error pointAtInfinity else .error badField)
  else if pre ≠ 4 then .error badField
  else if x ≥ c.p ∨ y ≥ c.p then .error badCoordinate
  else if !(onCurve c x y) || (c.h > 1 && (ecMul c c.n (some (x, y))).isSome) then .error notOnCurve
  else .ok (some (x, y))

/-- Scalar of a seed (R253); `entry` is the entry's index as one octet (log entry 21). -/
def expandSeed (c : Curve) (seed : Octets) : Nat :=
  let t := kdf seed (ascii "PRK-EC" ++ [BitVec.ofNat 8 c.index] ++ sha 48 c.values) (8 * (c.no + 8))
  beNat t % (c.n - 1) + 1

/-! ### ECDSA (R260) -/

/-- A digest as an integer, cut to ORDER_BITS. -/
def digestInt (c : Curve) (d : Octets) : Nat :=
  let v := beNat d
  if 8 * d.length > c.orderBits then v / 2 ^ (8 * d.length - c.orderBits) else v

/-- The HMAC_DRBG of RFC 6979, steps a to g, with k' in the seed material: n octets in one pass. -/
def nonceBytes (h : Nat) (seed : Octets) (n : Nat) : Octets :=
  let v := List.replicate h (1 : Octet)
  let k := hmac h (zeros h) (v ++ [0] ++ seed)
  let v := hmac h k v
  let k := hmac h k (v ++ [1] ++ seed)
  let v := hmac h k v
  ((List.range (ceilDiv n h)).foldl (fun (acc : Octets × Octets) _ =>
    let w := hmac h k acc.1; (w, acc.2 ++ w)) (v, [])).2.take n

/-- k of R260: (T mod (n − 1)) + 1, T of NO + 8 octets. -/
def ecdsaNonce (c : Curve) (h : Nat) (d : Nat) (digest kp : Octets) : Nat :=
  let seed := be c.no d ++ be c.no (digestInt c digest % c.n) ++ kp
  beNat (nonceBytes h seed (c.no + 8)) % (c.n - 1) + 1

/-- Signature (r, s); none where r or s is zero (R265). -/
def ecdsaSign (c : Curve) (h : Nat) (d : Nat) (digest kp : Octets) : Option (Nat × Nat) :=
  let k := ecdsaNonce c h d digest kp
  match ecMul c k (basePoint c) with
  | none => none
  | some (x, _) =>
    let r := x % c.n
    let sv := invPrime k c.n * (digestInt c digest + r * d) % c.n
    if r = 0 ∨ sv = 0 then none else some (r, sv)

/-- The verify equation of FIPS 186-5; r and s out of range fail. -/
def ecdsaVerify (c : Curve) (q : Point) (digest : Octets) (r sv : Nat) : Bool :=
  if r = 0 ∨ sv = 0 ∨ r ≥ c.n ∨ sv ≥ c.n then false
  else
    let w := invPrime sv c.n
    match ecAdd c (ecMul c (digestInt c digest * w % c.n) (basePoint c)) (ecMul c (r * w % c.n) q) with
    | none => false
    | some (x, _) => x % c.n == r

/-- brainpoolP384r1, entry 1 of the table (R247). -/
def p384 : Curve := { curveOf (fit 512 (Primitive.curveRom 1)) with index := 1, fieldBits := 384, orderBits := 384 }

/-- Signature of the module on its own account: brainpoolP384r1, SHA-384 digest (R260): r ‖ s. -/
def signP384 (priv digest kp : Octets) : Octets :=
  match ecdsaSign p384 48 (beNat priv) digest kp with
  | some (r, sv) => be 48 r ++ be 48 sv
  | none => zeros 96

/-- A signature over brainpoolP384r1 by a public point x ‖ y. -/
def verifyP384 (pub digest sig : Octets) : Bool :=
  let x := beNat (slice pub 0 48)
  let y := beNat (slice pub 48 48)
  decide (x < p384.p ∧ y < p384.p) && onCurve p384 x y &&
  ecdsaVerify p384 (some (x, y)) digest (beNat (slice sig 0 48)) (beNat (slice sig 48 48))

/-- Public point of a private key on brainpoolP384r1, encoded as R256 gives. -/
def publicP384 (priv : Octets) : Octets := encodePoint p384 (ecMul p384 (beNat priv) (basePoint p384))

/-! ### RSA (R254) and its encodings (PKCS #1) -/

def rsaE : Nat := 65537

/-- A private key: n and d. -/
structure RsaKey where
  n : Nat
  d : Nat
  p : Nat
  q : Nat
  deriving DecidableEq, Repr

/-- Jacobi symbol of a over an odd n, with fuel: twos are taken out of a, then the symbol is turned round. -/
def jacobi : Nat → Nat → Nat → Int
  | 0, _, _ => 0
  | f + 1, a, n =>
    let a := a % n
    if a = 0 then (if n = 1 then 1 else 0)
    else if a % 2 = 0 then (if n % 8 = 3 ∨ n % 8 = 5 then -1 else 1) * jacobi f (a / 2) n
    else (if a % 4 = 3 ∧ n % 4 = 3 then -1 else 1) * jacobi f n a

/-- Integer square root by Newton's steps from x, an upper bound, with fuel. -/
def sqrtFrom : Nat → Nat → Nat → Nat
  | 0, _, x => x
  | f + 1, n, x => if (x + n / x) / 2 < x then sqrtFrom f n ((x + n / x) / 2) else x

/-- Half of x modulo an odd n. -/
def halfMod (x n : Nat) : Nat := (if x % 2 = 0 then x / 2 else (x + n) / 2) % n

/-- The sequence 5, −7, 9, −11, … modulo n. -/
def lucasD (n i : Nat) : Nat := if i % 2 = 0 then (2 * i + 5) % n else (n - (2 * i + 5) % n) % n

/-- The Lucas test of an odd n (FIPS 186-5, B.3.3). -/
def lucasTest (n : Nat) : Bool :=
  let sq := sqrtFrom (n.log2 + 2) n (2 ^ (n.log2 / 2 + 1))
  if sq * sq = n then false
  else
    match (List.range 256).find? (fun i => jacobi (4 * (n.log2 + 2)) (lucasD n i) n != 1) with
    | none => false
    | some i =>
      let d := lucasD n i
      let k := n + 1
      if jacobi (4 * (n.log2 + 2)) d n = 0 then false
      else
        ((List.range k.log2).foldr (fun j (uv : Nat × Nat) =>
          let u := uv.1 * uv.2 % n
          let v := halfMod (uv.2 * uv.2 + d * (uv.1 * uv.1 % n)) n
          if k.testBit j then (halfMod (u + v) n, halfMod (v + d * u) n) else (u, v)) (1, 1)).1 == 0

/-- Candidate i for a prime of a modulus of B bits (R254; log entry 49). -/
def rsaCandidate (seed : Octets) (bits i : Nat) : Nat :=
  beNat (kdf seed (ascii "PRK-RSA" ++ Config.rsaLabel bits i) (bits / 2)) ||| 3 <<< (bits / 2 - 2) ||| 1

/-- The tests of a candidate (R254). -/
def rsaPasses (bits c : Nat) : Bool :=
  Nat.gcd (c - 1) rsaE == 1 && (List.range (Config.millerRounds bits)).all (fun j => mrRound c (Config.millerBase c j)) &&
    lucasTest c

/-- Search from candidate i on, with fuel; `found` is the first prime, once there is one. -/
def rsaSearch (seed : Octets) (bits : Nat) : Nat → Nat → Option Nat → Option (Nat × Nat)
  | 0, _, _ => none
  | f + 1, i, found =>
    let c := rsaCandidate seed bits i
    if !rsaPasses bits c then rsaSearch seed bits f (i + 1) found
    else
      match found with
      | none => rsaSearch seed bits f (i + 1) (some c)
      | some p =>
        if p - c + (c - p) > 2 ^ (bits / 2 - 100) then some (p, c) else rsaSearch seed bits f (i + 1) found

/-- The primes of a seed, within 8,192 candidates (R254; log entry 49). -/
@[irreducible] def rsaPrimes (seed : Octets) (bits : Nat) : Option (Nat × Nat) := rsaSearch seed bits 8192 0 none

/-- Expand a seed to a key of B bits; none where no prime is found. -/
def expandRsa (seed : Octets) (bits : Nat) : Option RsaKey :=
  (rsaPrimes seed bits).map (fun (p, q) =>
    { n := p * q, d := invMod rsaE (Nat.lcm (p - 1) (q - 1)), p := p, q := q })

/-- MGF1 with a SHA-2 hash. -/
def mgf1 (h : Nat) (seed : Octets) (n : Nat) : Octets :=
  (((List.range (ceilDiv n h)).map (fun i => sha h (seed ++ be 4 i))).flatten).take n

/-- DigestInfo prefixes of the SHA-2 hashes. -/
def digestInfo (h : Nat) : Octets :=
  [0x30, BitVec.ofNat 8 (h + 17), 0x30, 0x0D, 0x06, 0x09, 0x60, 0x86, 0x48, 0x01, 0x65, 0x03, 0x04, 0x02,
   if h = 32 then 1 else if h = 48 then 2 else 3, 0x05, 0x00, 0x04, BitVec.ofNat 8 h]

/-- EMSA-PKCS1-v1_5 encoding of a digest. -/
def pkcs1Encode (len : Nat) (digest : Octets) : Octets :=
  let t := digestInfo digest.length ++ digest
  [0, 1] ++ List.replicate (len - 3 - t.length) 0xFF ++ [0] ++ t

/-- EMSA-PSS encoding for a modulus of 8·len bits, with a salt. -/
def pssEncode (len : Nat) (digest salt : Octets) : Octets :=
  let h := digest.length
  let hh := sha h (zeros 8 ++ digest ++ salt)
  let db := zeros (len - salt.length - h - 2) ++ [1] ++ salt
  let m := xorO db (mgf1 h hh (len - h - 1))
  [m.headD 0 &&& 0x7F] ++ m.drop 1 ++ hh ++ [0xBC]

/-- EMSA-PSS check, salt as long as the digest. -/
def pssOk (digest em : Octets) : Bool :=
  let h := digest.length
  let len := em.length
  let m := em.take (len - h - 1)
  let hh := slice em (len - h - 1) h
  let db0 := xorO m (mgf1 h hh (len - h - 1))
  let db := [db0.headD 0 &&& 0x7F] ++ db0.drop 1
  let salt := db.drop (db.length - h)
  u8 em (len - 1) == 0xBC && (m.headD 0).toNat < 128 && zeroAt db 0 (len - 2 * h - 2) && u8 db (len - 2 * h - 2) == 1 &&
  sha h (zeros 8 ++ digest ++ salt) == hh

/-- RSAES-OAEP with SHA-256 and an empty label: encoding with a seed, and decoding. -/
def oaepEncode (len : Nat) (seed m : Octets) : Octets :=
  let db := sha 32 [] ++ zeros (len - m.length - 66) ++ [1] ++ m
  let mdb := xorO db (mgf1 32 seed (len - 33))
  [0] ++ xorO (fit 32 seed) (mgf1 32 mdb 32) ++ mdb
def oaepDecode (em : Octets) : Option Octets :=
  let mdb := em.drop 33
  let seed := xorO (slice em 1 32) (mgf1 32 mdb 32)
  let db := xorO mdb (mgf1 32 seed mdb.length)
  let rest := (db.drop 32).dropWhile (· == 0)
  if u8 em 0 = 0 && db.take 32 == sha 32 [] && rest.headD 0 == 1 then some (rest.drop 1) else none

/-! ### Checks of a curve entry (R249) -/

/-- Has the number exactly so many bits? -/
def exactBits (v bits : Nat) : Bool := decide (v < 2 ^ bits) && decide (2 ^ bits ≤ 2 * v)

/-- Checks 1 and 2. -/
def curveFieldsOk (o : Octets) : Bool :=
  let c := curveOf o
  let left (off : Nat) : Bool := zeroAt o off (72 - c.fo)
  decide (6 ≤ c.index ∧ c.index ≤ 15) && decide (1 ≤ c.h ∧ c.h ≤ 4) && decide (160 ≤ c.fieldBits ∧ c.fieldBits ≤ 576) &&
  zeroAt o 6 2 && zeroAt o 0x1C8 56 && exactBits c.p c.fieldBits && exactBits c.n c.orderBits &&
  left 0x18 && left 0x60 && left 0xA8 && left 0xF0 && left 0x138 && left 0x180

/-- Checks 3 to 10, with the 128 drawn Miller–Rabin bases, 72 octets each. -/
def curveMathOk (c : Curve) (bases : Octets) : Bool :=
  let base (i m : Nat) : Nat := 2 + beNat (slice bases (72 * i) 72) % (m - 3)
  let prime (m from_ : Nat) : Bool := decide (m > 3) && (List.range 64).all (fun i => mrRound m (base (from_ + i) m))
  let hn : Int := c.h * c.n
  let gap : Int := hn - (c.p + 1)
  prime c.p 0 && decide (c.a < c.p ∧ c.b < c.p ∧ c.gx < c.p ∧ c.gy < c.p) &&
  (4 * c.a ^ 3 + 27 * c.b ^ 2) % c.p != 0 && onCurve c c.gx c.gy && prime c.n 64 && c.n != c.p &&
  (ecMul c c.n (basePoint c)).isNone && decide (gap * gap ≤ 4 * c.p) &&
  (List.range 20).all (fun i => powMod c.p (i + 1) c.n != 1)

/-- The status of a curve entry: OK, BAD_FIELD or CURVE_CHECK_FAILED. -/
def curveStatus (o bases : Octets) : Code :=
  if !(curveFieldsOk o) then badField else if curveMathOk (curveOf o) bases then stOk else curveCheckFailed

end Sys2Proof.Machine
end

