-- ==== Sys2Proof/Machine/Operands.lean ====
section
/-! DEFINITION. Register views: the words of ring configuration and the parts of a slot record, laid out as the
register tables give them, and how such a word is read back (03, 09, 13). -/

namespace Sys2Proof.Machine

/-- PH_STATE.STATE codes (03, ring configuration). -/
def PhState.code : PhState → Nat
  | .disabled => 0 | .ready => 1 | .opened => 2 | .closing => 3 | .quiesced => 4 | .error => 5

def PhState.ofCode (n : Nat) : PhState :=
  match n with | 1 => .ready | 2 => .opened | 3 => .closing | 4 => .quiesced | 5 => .error | _ => .disabled

/-- The ring-configuration words at 0x10, 0x14 and 0x18 of a pigeonhole. -/
def Ph.cfgWord (p : Ph) : Nat := p.depthLog2.toNat + 2 ^ 8 * p.vector.toNat + (if p.enable then 2 ^ 16 else 0)
def Ph.trigWord (p : Ph) : Nat := p.count.toNat + 2 ^ 8 * p.timeUs.toNat
def Ph.stateWord (p : Ph) : Nat :=
  p.state.code + 2 ^ 4 * p.version.toNat + (if p.ordered then 2 ^ 6 else 0) + (if p.serial then 2 ^ 7 else 0) +
    2 ^ 8 * p.defaultPrio.toNat + 2 ^ 16 * p.error.toNat

/-- A pigeonhole record of a saved slot, 64 octets (R449); RESUME_STATE has the PH_STATE codes (log entry
33). -/
def Ph.record (p : Ph) : Octets :=
  le 8 p.sqBase.toNat ++ le 8 p.cqBase.toNat ++ le 4 p.cfgWord ++ le 4 p.trigWord ++ le 4 p.stateWord ++
  le 2 p.sqHead ++ le 2 (p.recTail.getD p.sqTail) ++ le 2 (p.recHead.getD p.cqHead) ++ le 2 p.cqTail ++
  le 1 (if p.phase then 1 else 0) ++
  le 1 (if p.state = .quiesced then (if p.resume = .opened then 2 else 1) else 0) ++ zeros 26

/-- A pigeonhole as a record restores it; a doorbell value out of range waits for the check at resume
(R443, R453; log entry 33). -/
def Ph.ofRecord (o : Octets) : Ph :=
  let cfg := u32 o 0x10
  let trig := u32 o 0x14
  let st := u32 o 0x18
  let depth := 2 ^ (cfg % 32)
  let tail := u16 o 0x1E
  let head := u16 o 0x20
  { sqBase := BitVec.ofNat 64 (u64 o 0), cqBase := BitVec.ofNat 64 (u64 o 8), depthLog2 := BitVec.ofNat 5 cfg,
    vector := BitVec.ofNat 6 (cfg / 2 ^ 8), enable := cfg.testBit 16, count := BitVec.ofNat 8 trig,
    timeUs := BitVec.ofNat 10 (trig / 2 ^ 8), state := PhState.ofCode (st % 8), version := BitVec.ofNat 2 (st / 2 ^ 4),
    ordered := st.testBit 6, serial := st.testBit 7, defaultPrio := BitVec.ofNat 3 (st / 2 ^ 8),
    error := BitVec.ofNat 16 (st / 2 ^ 16), sqHead := u16 o 0x1C,
    sqTail := if tail < depth then tail else u16 o 0x1C, recTail := if tail < depth then none else some tail,
    cqHead := if head < depth then head else 0, recHead := if head < depth then none else some head,
    cqTail := u16 o 0x22, phase := u8 o 0x24 == 1, resume := if u8 o 0x25 = 2 then .opened else .ready }

/-- The VF MSI-X table of a function as 64 entries of 16 octets, and its pending bits as 8 octets (R449). -/
def msixOctets (s : State) (fn : Fn) : Octets :=
  (List.range 64).flatMap (fun v =>
    let m := tget ({} : MsixVec) s.msix (msixKey fn v)
    le 8 m.addr.toNat ++ le 4 m.data.toNat ++ le 4 (if m.masked then 1 else 0))
def msixPending (s : State) (fn : Fn) : Octets :=
  le 8 ((List.range 64).foldl (fun n v => if (tget ({} : MsixVec) s.msix (msixKey fn v)).pending then n + 2 ^ v else n) 0)

/-- Restore the MSI-X table and pending bits of a function from a record's two parts. -/
def restoreMsix (s : State) (fn : Fn) (table pend : Octets) : State :=
  (List.range 64).foldl (fun s v =>
    let o := slice table (16 * v) 16
    let m : MsixVec :=
      { addr := BitVec.ofNat 64 (u64 o 0), data := BitVec.ofNat 32 (u32 o 8), masked := u32 o 12 % 2 == 1,
        pending := (leNat pend).testBit v }
    { s with msix := tset ({} : MsixVec) s.msix (msixKey fn v) m }) s

/-- A counter-table entry, 16 octets (R292); a free one is zero. -/
def ctrOctets (x : Option CtrEntry) : Octets :=
  match x with
  | none => zeros 16
  | some c => le 4 c.count.toNat ++ le 4 c.limit.toNat ++ le 4 c.gen.toNat ++ [0, 0] ++ le 1 c.epochSel ++
      le 1 (1 + if c.exhausted then 2 else 0)

/-- An entry read back, none where ALLOCATED is clear. -/
def ctrOfOctets (o : Octets) : Option CtrEntry :=
  let f := u8 o 15
  if f % 2 = 0 then none
  else some { count := BitVec.ofNat 32 (u32 o 0), limit := BitVec.ofNat 32 (u32 o 4), gen := BitVec.ofNat 32 (u32 o 8),
              epochSel := u8 o 14, exhausted := f.testBit 1 }

/-- SlotState codes (13, slot table window). -/
def SlotState.code : SlotState → Nat
  | .active => 0 | .quiescing => 1 | .quiesced => 2 | .destroying => 3
def SlotState.ofCode (n : Nat) : SlotState :=
  match n with | 1 => .quiescing | 2 => .quiesced | 3 => .destroying | _ => .active

end Sys2Proof.Machine
end

