-- ==== Sys2Proof/Machine/Notice.lean ====
section
/-! DEFINITION. Logging an alarm: its event bits, journal and battery log entries and messages
(R524, R530). -/

namespace Sys2Proof.Machine

open Host

/-- Alarm class codes of R465 and R529. -/
def clsN : Nat := 1
def clsF : Nat := 2
def clsL : Nat := 3
def clsE : Nat := 4

/-- What an alarm carries: cause, class, UNIT, VALUE, FLAGS and ACTIONS (R549, R605). -/
structure AlarmInfo where
  cause : Code
  cls : Nat
  unit : Nat := 0
  value : BitVec 32 := 0
  deferred : Bool := false
  dryfire : Bool := false
  /-- ACTIONS of R549. -/
  actions : Nat := 0
  /-- An N-class notice whose chapter has it journalled. -/
  named : Bool := false
  deriving DecidableEq, Repr

/-- DETAIL of a journal ALARM entry (R549). -/
def AlarmInfo.detail (a : AlarmInfo) (battery : Bool) : Octets :=
  le 2 a.cause.toNat ++
  [BitVec.ofNat 8 ((if a.dryfire then 1 else 0) + (if battery then 2 else 0) + (if a.deferred then 4 else 0)), 0] ++
  le 2 a.unit ++ [0, 0] ++ le 4 a.value.toNat ++ le 4 a.actions ++ zeros 8

/-- Write a battery log entry (R529, R530): the oldest entry not of class E gives way when all 64
are in use; with every entry of class E the new one is dropped and counted. -/
def blogWrite (s : State) (b : BlogEntry) : State :=
  let w := s.warden
  let b := { b with rtcS := w.rtcS, rtcTicks := w.rtcTicks, seq := w.blogSeq,
                    vbatMv := s.alarms.vbatMv, twDc := s.alarms.twDc }
  if w.blog.length < 64 then
    { s with warden := { w with blog := w.blog ++ [b], blogNewest := w.blog.length, blogSeq := satInc w.blogSeq } }
  else
    match w.blog.findIdx? (fun x => x.cls.toNat ≠ clsE) with
    | some i => { s with warden := { w with blog := w.blog.eraseIdx i ++ [b], blogNewest := 63, blogSeq := satInc w.blogSeq } }
    | none => { s with warden := { w with blogDropped := satInc w.blogDropped } }

/-- A record in the battery log that carries a service's opcode (R530). -/
def blogRecord (s : State) (opcode : Code) : State := blogWrite s { cause := opcode }

/-- Set the event bit of a class (R524). -/
def setEvent (a : Alarms) (cls : Nat) : Alarms :=
  if cls = clsE then { a with evE := true } else if cls = clsL then { a with evL := true }
  else if cls = clsF then { a with evF := true } else { a with evN := true }

/-- Does the class signal the alarm vector? (R524) -/
def signals (a : Alarms) (cls : Nat) : Bool :=
  decide (cls ≥ clsL) || (cls == clsF && a.fIrq) || (cls == clsN && a.nIrq)

/-- Log an alarm of any class: event bit, LAST_CAUSE, TRIPS of its monitor, journal ALARM entry,
message (R524, R468, R548).  A dry-fire counts no trip and only writes its journal entry (R535). -/
def logAlarm (s : State) (a : AlarmInfo) : State :=
  let (p, s) := stamp s srcAlarm
  let s := if a.dryfire then s else
    { s with alarms := { setEvent s.alarms a.cls with lastCause := a.cause } }
  let n := a.cause.toNat - 0x0100
  let s := if a.cause.toNat / 256 = 1 && !a.dryfire then
      s.setMonitor n { s.monitor n with trips := satInc (s.monitor n).trips }
    else s
  let s := if a.cls ≥ clsF || a.named || a.dryfire then
      journal s { pm := p, type := 3, cls := BitVec.ofNat 8 a.cls, detail := a.detail (!s.boot.mode.powered) }
    else s
  if signals s.alarms a.cls && !a.dryfire then msixBoth s (32 + s.alarms.vec.toNat) else s

/-- Raise an N-class notice; `named` where its chapter has it journalled. -/
def notice (s : State) (cause : Code) (unit : Nat) (value : BitVec 32) (named : Bool) : State :=
  logAlarm s { cause := cause, cls := clsN, unit := unit, value := value, named := named }

/-- Raise an F-class event (R522). -/
def eventF (s : State) (cause : Code) (unit : Nat) (value : BitVec 32) (actions : Nat) : State :=
  logAlarm s { cause := cause, cls := clsF, unit := unit, value := value, actions := actions }

/-- Units that retire: lanes, cells, clusters, channels, gates (R465, TYPE 0x0004), mirror-link lanes (R490). -/
inductive UnitKind where
  | lane | hashLane | cell | cluster | channel | gate | mirrorLane
  deriving DecidableEq, Repr

def UnitKind.number : UnitKind → Nat
  | .lane => 0 | .hashLane => 1 | .cell => 2 | .cluster => 3 | .channel => 4 | .gate => 5 | .mirrorLane => 6

/-- A retirement journal entry; the codes of kind and cause are not stated (log entry 24). -/
def journalRetire (s : State) (kind : UnitKind) (unit : Nat) : State :=
  journalNow s 4 (le 1 (Config.unitKind kind.number) ++ le 2 unit ++ le 1 (Config.retireCause kind.number))

/-- How many of these times lie within the last 24 h. -/
def within24h (s : State) (l : List Nat) : Nat := (l.filter (fun t => decide (s.time.toNat - t < 86400000000000))).length

end Sys2Proof.Machine
end

