-- ==== Sys2Proof/Machine/Keys.lean ====
section
/-! DEFINITION. The key hierarchy: tenant roots, context labels, Envelopes, counters, the key cache and
the resolution of a key reference (R270 to R302). -/

namespace Sys2Proof.Machine

/-! ### Tenants and their policy -/

/-- Tenant number and domain index of a slot; 0xFFFF and 0 for a PF0 (R273). -/
def tenantOf (s : State) (slot : Nat) : Nat × Nat :=
  match lookup s.slots.table slot with
  | some x => if slot < 512 then (x.f.tenant.toNat, x.f.domain.toNat) else (0xFFFF, 0)
  | none => (0xFFFF, 0)

/-- The policy entry of a slot: the one SLOT_CREATE named, entry 0 for a PF0 (R312). -/
def policyEntry (s : State) (slot : Nat) : Octets :=
  let id := if slot ≥ 512 then 0 else ((lookup s.slots.table slot).map (fun x => x.f.policyId.toNat)).getD 0
  let n := u8 s.boot.policy 0
  (((List.range n).map (fun i => slice s.boot.policy (8 + 64 * i) 64)).find? (fun e => u8 e 0 == id)).getD (zeros 64)

/-- A two-bit switch of SWITCHES: 0b01 off, 0b10 on, else the default (R312). -/
def policySwitch (s : State) (slot i : Nat) (dflt : Bool) : Bool :=
  let v := u16 (policyEntry s slot) 2 / 4 ^ i % 4
  if v = 1 then false else if v = 2 then true else dflt

def polPinToFmt1 (s : State) (slot : Nat) : Bool := policySwitch s slot 0 false
def polPinAesToTdea (s : State) (slot : Nat) : Bool := policySwitch s slot 1 false
def polPinPanChange (s : State) (slot : Nat) : Bool := policySwitch s slot 2 false
def polExportDerived (s : State) (slot : Nat) : Bool := policySwitch s slot 3 false
def polExportWeaker (s : State) (slot : Nat) : Bool := policySwitch s slot 4 false
def polKbImportB (s : State) (slot : Nat) : Bool := policySwitch s slot 5 true
def polEcdhRawZ (s : State) (slot : Nat) : Bool := policySwitch s slot 6 false
def polV1Accept (s : State) (slot : Nat) : Bool := policySwitch s slot 7 false

/-- An octet of the policy entry, or its default when zero (R312). -/
def policyByte (s : State) (slot off dflt : Nat) : Nat :=
  let v := u8 (policyEntry s slot) off
  if v = 0 then dflt else v
def polPinMin (s : State) (slot : Nat) : Nat := policyByte s slot 4 4
def polPinMax (s : State) (slot : Nat) : Nat := policyByte s slot 5 12
def polMacMin (s : State) (slot : Nat) : Nat := policyByte s slot 6 4
def polLegacyDr (s : State) (slot : Nat) : Nat := u8 (policyEntry s slot) 7
def polRgenMin (s : State) (slot : Nat) : Nat := u16 (policyEntry s slot) 8
def polRgenCur (s : State) (slot : Nat) : Nat := u16 (policyEntry s slot) 10

/-- A decimalisation table of the policy: present, with each digit at least once (R162). -/
def decTable (s : State) (slot i : Nat) : Option (List Nat) :=
  let o := slice (policyEntry s slot) (16 + 8 * i) 8
  let d := nibbles o
  if o.all (· == 0) || !((List.range 10).all (fun v => d.contains v)) then none else some d

/-! ### Tenant roots (R273 to R275) -/

/-- The 64-octet tenant label. -/
def tenantLabel (t d : Nat) : Octets := fit 16 (ascii "PRK3680-TENANT") ++ be 2 t ++ [BitVec.ofNat 8 d] ++ zeros 45

/-- Tenant root and Envelope KEK for a tenant number and domain. -/
def deriveRoots (s : State) (t d : Nat) : Option (Octets × Octets) :=
  (lookup s.warden.roots d).map (fun r =>
    let tr := kdf r.root (tenantLabel t d) 256
    (tr, kdf tr (ascii "ENV") 512))

/-- A slot's tenant root and KEK: from the tenant-root file, or derived at the first use. -/
def rootsOf (s : State) (slot : Nat) : Option (Octets × Octets) :=
  match lookup s.keys.rootFile slot with
  | some r => some r
  | none => deriveRoots s (tenantOf s slot).1 (tenantOf s slot).2

/-- Hold a slot's tenant root in the tenant-root file (R274). -/
def holdRoots (s : State) (slot : Nat) : State :=
  match rootsOf s slot with
  | some r => { s with keys := { s.keys with rootFile := insertAt s.keys.rootFile slot r } }
  | none => s

/-! ### Attributes of labels and Envelopes -/

/-- X9.143 modes of use (log entry 16). -/
def modeOk (m : Octet) : Bool := (ascii "BCDEGNSTVXY").contains m
def exportOk (x : Octet) : Bool := (ascii "ESN").contains x

/-- Usages that a class allows (R277). -/
def classUsage (cls : Nat) (u : Octets) : Bool :=
  match cls with
  | 1 => ["P0", "M0", "M1", "M3", "M6", "M7", "C0", "V1", "V2", "D0"].any (fun t => ascii t == u)
  | 2 => ["K0", "K1"].any (fun t => ascii t == u)
  | 3 => ["B0", "B1", "E0", "E1", "E2"].any (fun t => ascii t == u)
  | 4 => ["S0", "K3", "D1"].any (fun t => ascii t == u)
  | _ => false

/-- Algorithms that a class allows (R277). -/
def classAlg (cls alg : Nat) : Bool :=
  match cls with
  | 1 => decide (1 ≤ alg ∧ alg ≤ 6)
  | 2 => decide (1 ≤ alg ∧ alg ≤ 5)
  | 3 => decide (1 ≤ alg ∧ alg ≤ 5)
  | 4 => decide (0x10 ≤ alg ∧ alg ≤ 0x28)
  | _ => false

/-- Every bit that USAGE_MASK may hold (R280). -/
def fullMask : Nat := 0x87FE

/-- The mask bit of a service group: g for 1 to 10, 15 for custom services (R280). -/
def groupBit (group : Nat) : Nat := if group = 15 then 15 else group

/-- Attributes that a context label names, unless a field is wrong (R276, R279). -/
def labelKey (o : Octets) : Option KeyVal :=
  let cls := u8 o 4
  let alg := u8 o 7
  let usage := slice o 5 2
  let mode := slice o 12 1 |>.headD 0
  let exp := slice o 13 1 |>.headD 0
  if classUsage cls usage && classAlg cls alg && modeOk mode && exportOk exp && zeroAt o 14 2 then
    some { alg := alg, cls := cls, usage := usage, mode := mode, exp := exp, source := 0,
           len := if cls = 4 then 0 else algLen alg, ktype := if cls = 4 then 2 else 1, mask := fullMask,
           rgen := beNat (slice o 2 2) % 4096 }
  else none

/-- Does KTYPE suit CLASS, ALG and LEN? (R280, R610) -/
def ktypeOk (ktype cls alg len : Nat) (raw : Bool) : Bool :=
  if cls = 4 then ktype == 2 || (raw && ktype == 3 && decide (alg < 0x20))
  else if alg = 6 && decide (len > 48) then ktype == 2
  else ktype == 1

/-- Does LEN agree with ALG? (R278) -/
def lenOk (cls alg len : Nat) : Bool :=
  if cls = 4 then len == 0 else if alg = 6 then decide (16 ≤ len ∧ len ≤ 64) else len == algLen alg

/-- Header fields of an Envelope v3 or a template (R280). -/
def headerKey (o : Octets) : KeyVal :=
  { alg := u8 o 2, cls := u8 o 3, usage := slice o 8 2, mode := (slice o 10 1).headD 0,
    exp := (slice o 11 1).headD 0, flags := (slice o 14 1).headD 0, source := 1, len := u16 o 4,
    ktype := u8 o 1, mask := u16 o 6, version := slice o 12 2, limit := u32 o 16, cnum := u16 o 20,
    gen := u32 o 28, epoch := slice o 32 8, rgen := u16 o 24 % 4096 }

/-- Structural checks of a header: FORMAT, KTYPE, ALG, CLASS, LEN, USAGE_MASK and reserved fields. -/
def headerOk (o : Octets) (raw : Bool) : Bool :=
  let h := headerKey o
  u8 o 0 == 3 && classAlg h.cls h.alg && lenOk h.cls h.alg h.len && ktypeOk h.ktype h.cls h.alg h.len raw &&
  (h.mask &&& fullMask) == h.mask && h.flags.toNat < 16 && zeroAt o 15 1 && zeroAt o 26 2 && zeroAt o 45 19

/-- The attribute checks of R610 that give KEY_USAGE_DENIED. -/
def templateUsageOk (o : Octets) : Bool :=
  let h := headerKey o
  classUsage h.cls h.usage && modeOk h.mode && exportOk h.exp

/-! ### Key references (R148, R149) -/

/-- One parsed key reference. -/
structure KeyRef where
  kind : Nat
  keytype : Nat
  ksn : Octets
  body : Octets
  /-- Octets the reference takes. -/
  size : Nat
  deriving DecidableEq, Repr

def isDukptKind (k : Nat) : Bool := decide (0x11 ≤ k ∧ k ≤ 0x14)
def envelopeKind (k : Nat) : Bool := k == 2 || k == 3 || k == 0x13 || k == 0x14
def aesDukptKind (k : Nat) : Bool := k == 0x12 || k == 0x14

/-- Length of the reference that starts with these octets. -/
def krefLen (o : Octets) : Nat := if envelopeKind (u8 o 0) then 144 else 80

/-- The KSN counter that the DUKPT standard permits (R174); zero only for an initial-key export. -/
def ksnOk (aes ikExport : Bool) (ksn : Octets) : Bool :=
  if aes then
    let c := beNat (slice ksn 8 4)
    if ikExport then c == 0 else c != 0 && decide (popCount 32 c ≤ 16)
  else
    let c := beNat (slice ksn 7 3) % 2 ^ 21
    if ikExport then c == 0 else c != 0 && decide (popCount 21 c ≤ 10)

/-- Field checks of a key reference (R149). -/
def krefCheck (s : State) (slot version : Nat) (ikExport : Bool) (o : Octets) : Except Code KeyRef :=
  let kind := u8 o 0
  let r : KeyRef := { kind := kind, keytype := u8 o 1, ksn := slice o 4 12, body := slice o 16 (krefLen o - 16),
                      size := krefLen o }
  if !(kind == 1 || kind == 2 || kind == 3 || isDukptKind kind) || !zeroAt o 2 2 then .error badField
  else if !(aesDukptKind kind) && r.keytype ≠ 0 then .error badField
  else if aesDukptKind kind && r.keytype > 4 then .error badField
  else if !(isDukptKind kind) && !(zeroAt o 4 12) then .error badField
  else if isDukptKind kind && !(aesDukptKind kind) && !(zeroAt o 14 2) then .error badField
  else if isDukptKind kind && !(ksnOk (aesDukptKind kind) ikExport r.ksn) then .error badField
  else if kind = 3 then
    if version ≠ 1 || !(polV1Accept s slot) then .error keyLegacyRefused else .ok r
  else if version = 1 && !(kind == 1 || kind == 0x11) then .error badVersion
  else .ok r

/-! ### Counters (R292 to R298) -/

/-- Index in the counter table of a slot's CNUM, if it lies in the slot's range. -/
def ctrIndex (s : State) (slot cnum : Nat) : Option Nat :=
  match lookup s.slots.table slot with
  | some x => if cnum < x.f.ctrCount && slot < 512 then some (x.f.ctrBase + cnum) else none
  | none => none

/-- Commands other than e in flight that hold a reservation on an entry (R296). -/
def reservations (s : State) (e i : Nat) : Nat :=
  (s.so.cmds.filter (fun x => x.1 != e && x.2.reserved.contains i && x.2.stage != .done)).length

/-- Which epoch a PAIR_EPOCH matches: 0 the module's, 1 or 2 an alias (R293). -/
def epochMatch (s : State) (slot : Nat) (pe : Octets) : Option Nat :=
  if s.keys.pairEpoch == some pe then some 0
  else match ((lookup s.keys.aliases slot).getD []).findIdx? (· == pe) with
    | some i => if i < 2 then some (i + 1) else none
    | none => none

/-- Steps 6 and 7 of R284 for an Envelope: its epoch, and the counter entry of a counted one. -/
def checkCounter (s : State) (slot e : Nat) (held : List Nat) (h : KeyVal) : Except Code (Option Nat) :=
  if h.flags.getLsbD 0 then
    match epochMatch s slot h.epoch with
    | none => .error keyExpired
    | some ep =>
      if h.limit = 0 then .ok none
      else match ctrIndex s slot h.cnum with
        | none => .error keyExpired
        | some i =>
          match lookup s.keys.counters i with
          | none => .error keyExpired
          | some x =>
            if x.gen.toNat ≠ h.gen || x.epochSel ≠ ep then .error keyExpired
            else if x.count = x.limit then .error keyUsesExhausted
            else if !(held.contains i) && x.count.toNat + reservations s e i ≥ x.limit.toNat then .error busyRetry
            else .ok (some i)
  else .ok none

/-- The lowest CNUM of the slot that no entry and no command in flight has taken (R294). -/
def freeCnum (s : State) (slot : Nat) : Option Nat :=
  match lookup s.slots.table slot with
  | none => none
  | some x =>
    let taken (i : Nat) : Bool :=
      (lookup s.keys.counters i).isSome ||
      s.so.cmds.any (fun y => y.2.effects.any (fun f => match f with | .ctrAlloc j _ _ => j == i | _ => false))
    (List.range x.f.ctrCount).find? (fun n => !(taken (x.f.ctrBase + n)))

/-! ### The key cache (R299 to R302) -/

/-- Key-cache share of a slot; PF0 has none (log entry 17). -/
def cacheShare (s : State) (slot : Nat) : Nat := ((lookup s.slots.table slot).map (·.f.cacheShare)).getD 0

/-- The entry of a reference, while a cache key is held. -/
def cacheHit (s : State) (slot : Nat) (body : Octets) : Option KeyVal :=
  if s.keys.cacheKey.isNone then none
  else (s.keys.cache.find? (fun x => x.slot == slot && x.body == body)).map (·.key)

/-- Keep the newest n entries of a slot. -/
def keepNewest (slot : Nat) : Nat → List CacheEntry → List CacheEntry
  | _, [] => []
  | n, x :: t => if x.slot == slot then (if n = 0 then keepNewest slot 0 t else x :: keepNewest slot (n - 1) t)
                 else x :: keepNewest slot n t

/-- Put a resolved key at the front of the cache, within its slot's share (R300). -/
def cachePut (s : State) (slot : Nat) (body : Octets) (key : KeyVal) : State :=
  if s.keys.cacheKey.isNone || cacheShare s slot = 0 then s
  else
    let hit := (cacheHit s slot body).isSome
    let rest := s.keys.cache.filter (fun x => !(x.slot == slot && x.body == body))
    { s with keys := { s.keys with
        cache := keepNewest slot (cacheShare s slot) ({ slot := slot, body := body, key := key } :: rest),
        cacheSeq := if hit then s.keys.cacheSeq else s.keys.cacheSeq + 1 } }

/-! ### Resolution (R284) -/

/-- Is the domain root installed? -/
def drInstalled (s : State) (d : Nat) : Bool := (lookup s.warden.roots d).isSome

/-- Resolve a context label. -/
def resolveLabel (s : State) (slot : Nat) (body : Octets) : Except Code KeyVal :=
  match labelKey body with
  | none => .error badField
  | some h =>
    let (t, d) := tenantOf s slot
    if beNat (slice body 0 2) ≠ t || beNat (slice body 2 2) / 4096 ≠ d then .error keyDomainMismatch
    else
      match cacheHit s slot body with
      | some x => if h.rgen < polRgenMin s slot then .error keyExpired else .ok x
      | none =>
        if !(drInstalled s d) then .error keyNotFound
        else if h.rgen < polRgenMin s slot then .error keyExpired
        else match rootsOf s slot with
          | none => .error keyNotFound
          | some (tr, _) =>
            let k := kdf tr body (8 * algLen h.alg)
            .ok { h with bytes := if isTdea h.alg then oddParity k else k }

/-- Octets of the key field that a KTYPE uses (R281); the scalar's length is that of its curve, so
every octet may be used. -/
def keyFieldLen (h : KeyVal) : Nat := if h.ktype = 1 then h.len else if h.ktype = 2 then 32 else 48

/-- Resolve an Envelope v3 for command e. -/
def resolveEnvelope (s : State) (slot e : Nat) (held : List Nat) (group : Nat) (body : Octets) :
    Except Code (KeyVal × Option Nat) :=
  let h := headerKey body
  let (t, d) := tenantOf s slot
  if !(headerOk body true) then .error keyEnvelopeInvalid
  else if u16 body 22 ≠ t || u16 body 24 / 4096 ≠ d then .error keyDomainMismatch
  else
    let hit := cacheHit s slot body
    if hit.isNone && !(drInstalled s d) then .error keyNotFound
    else if h.rgen < polRgenMin s slot then .error keyExpired
    else
      let opened : Option KeyVal :=
        match hit with
        | some x => some x
        | none =>
          match rootsOf s slot with
          | none => none
          | some (_, kek) =>
            match sivDec kek [body.take 64] (slice body 64 64) with
            | some p => if zeroAt p (keyFieldLen h) (48 - keyFieldLen h) then
                some { h with bytes := p.take (keyFieldLen h) } else none
            | none => none
      match opened with
      | none => .error keyEnvelopeInvalid
      | some x =>
        match checkCounter s slot e held h with
        | .error st => .error st
        | .ok i => if h.mask.testBit (groupBit group) then .ok (x, i) else .error keyUsageDenied

/-- The usage rows of R310: first bit, usage, modes of the first, the second and both bits. -/
def v1Rows : List (Nat × Nat × String × Nat × Nat × Nat) :=
  [(0, 1, "P0", 0x45, 0x44, 0x42), (2, 3, "M3", 0x47, 0x56, 0x43), (4, 5, "D0", 0x45, 0x44, 0x42),
   (6, 7, "K1", 0x45, 0x44, 0x42), (8, 8, "C0", 0x43, 0x43, 0x43), (9, 9, "V2", 0x43, 0x43, 0x43),
   (10, 10, "V1", 0x43, 0x43, 0x43), (11, 11, "B0", 0x58, 0x58, 0x58), (12, 12, "E0", 0x58, 0x58, 0x58)]

/-- Usage and mode of an ATTR, if exactly one row has bits set and bits 14 and 15 are clear (R310). -/
def v1Attr (a : Nat) : Option (Octets × Octet) :=
  let rows := v1Rows.filter (fun r => a.testBit r.1 || a.testBit r.2.1)
  if a ≥ 0x4000 then none
  else match rows with
    | [r] =>
      let m := if r.1 = r.2.1 then r.2.2.2.1
               else if a.testBit r.1 && a.testBit r.2.1 then r.2.2.2.2.2
               else if a.testBit r.1 then r.2.2.2.1 else r.2.2.2.2.1
      some (ascii r.2.2.1, BitVec.ofNat 8 m)
    | _ => none

/-- Class of a usage (R277). -/
def usageClass (u : Octets) : Nat := ([1, 2, 3, 4].find? (fun c => classUsage c u)).getD 1

/-- Resolve an Envelope v1 (R309, R310). -/
def resolveV1 (s : State) (slot : Nat) (body : Octets) : Except Code KeyVal :=
  match lookup s.warden.roots (polLegacyDr s slot) with
  | none => .error keyLegacyRefused
  | some r =>
    if !r.legacy then .error keyLegacyRefused
    else
      let ks := r.root.take 24
      let ke := ks.map (· ^^^ 0x45)
      let km := ks.map (· ^^^ 0x4D)
      let alg := u8 body 1
      let n := algLen alg
      if u8 body 0 ≠ 1 || !(isTdea alg) || !(zeroAt body 4 4) || !(zeroAt body 11 5) || !(zeroAt body 48 16) ||
         !(zeroAt body 64 64) then .error keyEnvelopeInvalid
      else match v1Attr (u16 body 2) with
        | none => .error keyEnvelopeInvalid
        | some (usage, mode) =>
          if cmac 2 km (body.take 40) != slice body 40 8 then .error keyEnvelopeInvalid
          else
            let p := cbcDec 2 ke (body.take 8) (slice body 16 24)
            let k := p.take n
            if !(zeroAt p n (24 - n)) || (kcvOf alg k).take 3 != slice body 8 3 then .error keyEnvelopeInvalid
            else .ok { alg := alg, cls := usageClass usage, usage := usage, mode := mode,
                       exp := if (u16 body 2).testBit 13 then 0x45 else 0x4E, source := 2, len := n, ktype := 1,
                       mask := fullMask, version := ascii "00", bytes := k }

/-- An HMAC key of 49 to 64 octets is expanded from its seed (R281). -/
def KeyVal.expanded (k : KeyVal) : KeyVal :=
  if k.alg = 6 ∧ k.ktype = 2 then { k with bytes := kdf k.bytes (ascii "PRK-HMAC") (8 * k.len) } else k

/-- Resolve a key reference for command e: the key and the counter entry it must reserve. -/
def resolve (s : State) (slot e : Nat) (held : List Nat) (group : Nat) (r : KeyRef) :
    Except Code (KeyVal × Option Nat) :=
  if r.kind = 3 then (resolveV1 s slot r.body).map (fun k => (k, none))
  else if envelopeKind r.kind then resolveEnvelope s slot e held group r.body
  else (resolveLabel s slot r.body).map (fun k => (k, none))

/-! ### Writing Envelopes (R282, R283) -/

/-- An Envelope v3 of a key under a template, with the fields the module sets. -/
def makeEnvelope (s : State) (slot : Nat) (tmpl : Octets) (k : Octets) (cnum gen : Nat) : Octets :=
  let h := headerKey tmpl
  let (t, d) := tenantOf s slot
  let counted := h.limit ≠ 0
  let kcv := if h.cls = 4 then zeros 5
             else kcvOf h.alg (if h.alg = 6 ∧ h.ktype = 2 then kdf k (ascii "PRK-HMAC") (8 * h.len) else k)
  let head := tmpl.take 20 ++ le 2 (if counted then cnum else 0) ++ le 2 t ++
    le 2 (d * 4096 + polRgenCur s slot) ++ [0, 0] ++ le 4 (if counted then gen else 0) ++
    (if h.flags.getLsbD 0 then fit 8 (s.keys.pairEpoch.getD []) else zeros 8) ++ kcv ++ zeros 19
  let kek := ((rootsOf s slot).map (·.2)).getD []
  head ++ fit 64 (sivEnc kek [head] (fit 48 k))

/-- The 16-octet check-value field of a key (R196, R201). -/
def kcvField (alg : Nat) (k : Octets) : Octets := fit 16 (kcvOf alg k)

/-- A template's own header for a key that a service makes without one (R197, R199, R202, R191). -/
def headerFor (ktype alg cls len mask : Nat) (usage : Octets) (mode exp : Octet) (version : Octets)
    (flags : Octet) : Octets :=
  [3, BitVec.ofNat 8 ktype, BitVec.ofNat 8 alg, BitVec.ofNat 8 cls] ++ le 2 len ++ le 2 mask ++
  fit 2 usage ++ [mode, exp] ++ fit 2 version ++ [flags, 0] ++ zeros 48

end Sys2Proof.Machine
end

