-- ==== Sys2Proof/Machine/Random.lean ====
section
/-! DEFINITION. Draws from the entropy unit's instances (R334 to R342). -/

namespace Sys2Proof.Machine

/-- Instance numbers: I0 to I7 are 0 to 7, M0 to M15 are 8 to 23, T0 to T511 are 24 to 535 (R334). -/
def instInternal (i : Nat) : Nat := i
def instOf (slot idx : Nat) : Nat :=
  if slot ≥ 512 then 8 + 8 * (slot - 512) + idx % 8 else 24 + slot

/-- Cells in service: neither quarantined nor retired, and past their start-up test (R332). -/
def healthyMask (s : State) : BitVec 64 := s.entropy.passed &&& ~~~s.entropy.quarMask &&& ~~~s.warden.retCells
def healthyCells (s : State) : Nat := popCount 64 (healthyMask s).toNat

/-- Is the instance due for a reseed? (R335) -/
def Drbg.isDue (d : Drbg) (now : BitVec 64) : Bool :=
  d.due || decide (d.requests ≥ 2 ^ 20) || decide ((now - d.seeded).toNat ≥ 1000000000)

/-- Conditioned bits per seed of a mode, ceil(384 / H) (R327). -/
def seedBits (mode : BitVec 8) : Nat :=
  match mode.toNat with
  | 2 => 768 | 3 => 549 | 4 => 452 | 5 => 427 | 6 => 413 | 7 => 405 | 8 => 396 | _ => 405

/-- Can the instance serve now, a request with PR? (R340, R342) -/
def canServe (s : State) (i : Nat) (pr : Bool := false) : Bool :=
  s.boot.rngReady && !s.entropy.offline && !s.entropy.failed &&
  (match lookup s.entropy.insts i with
   | none => false
   | some d => !(pr || d.isDue s.time) || decide (s.entropy.pool ≥ seedBits s.entropy.condMode))

/-! ### CTR_DRBG with AES-256 and the derivation function (R333, SP 800-90A; log entries 23 and 50) -/

/-- The block after V. -/
def drbgNext (v : Octets) (n : Nat) : Octets := be 16 ((beNat v + n) % 2 ^ 128)

/-- The state update with 48 octets. -/
def Drbg.update (d : Drbg) (data : Octets) : Drbg :=
  let t := xorO (ctrCrypt d.key (drbgNext d.v 1) (zeros 48)) data
  { d with key := t.take 32, v := t.drop 32 }

/-- The derivation function: 48 octets of an input. -/
def drbgDf (input : Octets) : Octets :=
  let key : Octets := (List.range 32).map (BitVec.ofNat 8)
  let s := padTo 16 (be 4 input.length ++ be 4 48 ++ input ++ [0x80])
  let t := (List.range 3).flatMap (fun i => cbcMac (aesEnc key) (zeros 16) (be 4 i ++ zeros 12 ++ s) 16)
  let x := aesEnc (t.take 32) (slice t 32 16)
  let y := aesEnc (t.take 32) x
  x ++ y ++ aesEnc (t.take 32) y

/-- Seed an instance with entropy input and a string (instantiation: from a zero state). -/
def Drbg.seed (d : Drbg) (now : BitVec 64) (input : Octets) : Drbg :=
  { d.update (drbgDf input) with requests := 0, seeded := now, due := false }

/-- Generate n octets with additional input: they, and the state after. -/
def Drbg.output (d : Drbg) (n : Nat) (add : Octets) : Octets × Drbg :=
  let a := if add.isEmpty then zeros 48 else drbgDf add
  let d := if add.isEmpty then d else d.update a
  (ctrCrypt d.key (drbgNext d.v 1) (zeros n),
   { ({ d with v := drbgNext d.v (ceilDiv n 16) } : Drbg).update a with requests := d.requests + 1 })

/-- Take a seed's conditioned bits from the pool: they are free octets. -/
def takeSeed (s : State) : Octets × State :=
  let n := seedBits s.entropy.condMode
  let s := { s with entropy := { s.entropy with pool := s.entropy.pool - n } }
  drawOctets s (ceilDiv n 8)

/-- One generate request of n octets from an instance, with additional input; a due instance, and a request with PR,
reseeds first, and the additional input then goes into the seed (R335, R353). -/
def generate (s : State) (i n : Nat) (pr : Bool) (add : Octets := []) : Octets × State :=
  let d := (lookup s.entropy.insts i).getD {}
  if pr || d.isDue s.time then
    let t := takeSeed s
    let r := (d.seed s.time (t.1 ++ add)).output n []
    (r.1, { t.2 with entropy := { t.2.entropy with reseeds := t.2.entropy.reseeds.inc, insts := insertAt t.2.entropy.insts i r.2 } })
  else
    let r := d.output n add
    (r.1, { s with entropy := { s.entropy with insts := insertAt s.entropy.insts i r.2 } })

/-- The personalisation string of instance i (R333; log entry 50). -/
def personal (s : State) (i tenant : Nat) (pm : Postmark) : Octets :=
  let (cls, idx) : Nat × Nat := if i < 8 then (1, i) else if i < 24 then (2, i - 8) else (3, i - 24)
  [BitVec.ofNat 8 cls] ++ be 2 idx ++ be 2 tenant ++ zeros 3 ++ le 8 s.warden.serial.toNat ++ pm.octets ++ zeros 4

/-- Instantiate an instance (R333). -/
def instantiate (s : State) (i : Nat) (tenant : Nat := 0) : State :=
  let (pm, s) := stamp s srcEntropy
  let (o, s) := takeSeed s
  let d := ({ v := zeros 16, key := zeros 32 } : Drbg).seed s.time (o ++ personal s i tenant pm)
  { s with entropy := { s.entropy with insts := insertAt s.entropy.insts i d } }

/-- Can an instance be instantiated now (R333, R440)? -/
def canInstantiate (s : State) : Bool :=
  s.boot.rngReady && !s.entropy.offline && !s.entropy.failed && decide (s.entropy.pool ≥ seedBits s.entropy.condMode)

/-- Zeroise an instance (R337). -/
def zeroise (s : State) (i : Nat) : State :=
  { s with entropy := { s.entropy with insts := removeAt s.entropy.insts i } }

/-! ### Cache keys and the key unit's other module keys -/

/-- Erase the cache key and the index key, and with them the cache; draw new ones from I6 while it
can serve (R302, R347). -/
def redrawCache (s : State) : State :=
  let s := { s with keys := { s.keys with cacheKey := none, indexKey := none, cache := [] } }
  if canServe s 6 then
    let (a, s) := generate s 6 32 false
    let (b, s) := generate s 6 32 false
    { s with keys := { s.keys with cacheKey := some a, indexKey := some b } }
  else s

end Sys2Proof.Machine
end

