-- ==== Sys2Proof/Machine/SlotOps.lean ====
section
/-! DEFINITION. What a slot takes when it is installed, what it keeps when it is restored, and what it
gives back when it is freed (R438, R441, R444, R453). -/

namespace Sys2Proof.Machine

/-- n octets of working memory from an address become zero. -/
def zeroMem (s : State) (a n : Nat) : State :=
  { s with wmem := s.wmem.filter (fun x => decide (x.1 < a ∨ a + n ≤ x.1)) }

/-- A slot's data area becomes zero (R438). -/
def zeroData (s : State) (f : SlotFields) : State :=
  if f.dataLog2 = 0 then s else zeroMem s f.dataBase (2 ^ f.dataLog2)

/-- Entries of the counter table outside a slot's range. -/
def freeCounters (s : State) (f : SlotFields) : State :=
  { s with keys := { s.keys with
      counters := s.keys.counters.filter (fun x => decide (x.1 < f.ctrBase ∨ f.ctrBase + f.ctrCount ≤ x.1)) } }

/-- The pigeonholes of a run return to DISABLED. -/
def resetPhs (s : State) (f : SlotFields) : State :=
  (List.range f.phCount).foldl (fun s i => s.setPh (f.phBase + i) {}) s

/-- Replace a slot's entry of the slot table. -/
def State.setSlot (s : State) (n : Nat) (x : Slot) : State :=
  { s with slots := { s.slots with table := insertAt s.slots.table n x } }

/-- Install a slot in a state: its counter range and data area zero, its pigeonholes DISABLED, its roots
derived, its accepted-epoch list empty (R441). -/
def installSlot (s : State) (n : Nat) (f : SlotFields) (st : SlotState) : State :=
  let s := resetPhs (zeroData (freeCounters s f) f) f
  let s := { s with keys := { s.keys with aliases := removeAt s.keys.aliases n, rootFile := removeAt s.keys.rootFile n } }
  holdRoots (s.setSlot n { f := f, state := st }) n

/-- The accepted-epoch list that a blob gives a slot (R453). -/
def blobAliases (own epoch alias1 : Octets) : List Octets :=
  let a := if alias1.all (· == 0) then [] else [alias1]
  if epoch == own then a else epoch :: a

/-- EPOCH_SEL of a restored counter entry; none where it is restored as free (R453). -/
def mapEpoch (same : Bool) (sel : Nat) : Option Nat :=
  match sel with
  | 0 => some (if same then 0 else 1)
  | 1 => some (if same then 1 else 2)
  | _ => none

/-- Counter entries of a range from their octets (R453). -/
def restoreCounters (s : State) (f : SlotFields) (same : Bool) (o : Octets) : State :=
  (List.range f.ctrCount).foldl (fun s i =>
    match ctrOfOctets (slice o (16 * i) 16) with
    | none => s
    | some c => match mapEpoch same c.epochSel with
      | none => s
      | some sel => { s with keys := { s.keys with counters := insertAt s.keys.counters (f.ctrBase + i) { c with epochSel := sel } } }) s

/-- Install a saved slot as QUIESCED from the header and the body of its blob (R453).  The DRBG instance
loads the blob's state and reseeds before its first output (R336). -/
def restoreSlot (s : State) (n : Nat) (f : SlotFields) (header body : Octets) : State :=
  let s := installSlot s n f .quiesced
  let own := s.keys.pairEpoch.getD []
  let epoch := slice header 0x30 8
  let s := { s with keys := { s.keys with
      aliases := insertAt s.keys.aliases n (blobAliases own epoch (slice header 0x38 8)) } }
  let s := restoreCounters s f (epoch == own) (body.drop (0x480 + 64 * f.phCount))
  let s := (List.range f.phCount).foldl (fun s i =>
    s.setPh (f.phBase + i) (Ph.ofRecord (slice body (0x480 + 64 * i) 64))) s
  let fn : Fn := { portB := decide (n ≥ 256), vf := BitVec.ofNat 9 (n % 256 + 1) }
  let s := restoreMsix s fn (slice body 0x40 1024) (slice body 0x440 8)
  { s with entropy := { s.entropy with
      insts := insertAt s.entropy.insts (24 + n)
        { v := slice body 0 16, key := slice body 0x10 32, requests := u64 body 0x30 - 1, seeded := s.time, due := true } } }

/-! ### Pigeonholes: doorbell values, ERROR, and the return from QUIESCED (R72, R80, R81, R101, R443) -/

/-- Entries of a ring. -/
def Ph.depth (p : Ph) : Nat := 2 ^ p.depthLog2.toNat

/-- Take the values of OPEN out of force (R101). -/
def Ph.unforce (p : Ph) : Ph :=
  { p with version := 0, ordered := false, serial := false, defaultPrio := 0, home := none }

/-- A pigeonhole enters ERROR with a status (R72, R78, R80, R81). -/
def Ph.fail (p : Ph) (st : Code) : Ph := { p.unforce with state := .error, error := st, credits := 0 }

/-- An SQ_TAIL value acts: range check, overrun check (R80, R81). -/
def actTail (s : State) (n : Nat) (p : Ph) (v : Nat) : State :=
  if v ≥ p.depth then s.setPh n (p.fail badField)
  else if (v + p.depth - p.sqHead) % p.depth < (p.sqTail + p.depth - p.sqHead) % p.depth then
    s.setPh n (p.fail badLength)
  else s.setPh n { p with sqTail := v }

/-- A CQ_HEAD value acts: range check (R80). -/
def actHead (s : State) (n : Nat) (p : Ph) (v : Nat) : State :=
  if v ≥ p.depth then s.setPh n (p.fail badField) else s.setPh n { p with cqHead := v }

/-- Pigeonhole n of a resumed slot: it returns to its resume state, and the recorded doorbells are checked
and act (R443). -/
def resumePh (s : State) (n : Nat) : State :=
  let p := s.ph n
  if p.state ≠ .quiesced || p.draining then s
  else
    let q := { p with state := (if p.resume = .opened then PhState.opened else PhState.ready), recTail := none, recHead := none }
    let s := s.setPh n q
    let s := match p.recHead with | some v => actHead s n (s.ph n) v | none => s
    match p.recTail with
    | some v => if (s.ph n).state = .error then s else actTail s n (s.ph n) v
    | none => s

/-- A QUIESCED slot becomes ACTIVE (R443). -/
def resumeSlot (s : State) (n : Nat) : State :=
  match lookup s.slots.table n with
  | none => s
  | some x =>
    (List.range x.f.phCount).foldl (fun s i => resumePh s (x.f.phBase + i)) (s.setSlot n { x with state := .active })

/-- Free a slot: everything it held goes back or is erased (R444). -/
def releaseSlot (s : State) (n : Nat) : State :=
  match lookup s.slots.table n with
  | none => s
  | some x =>
    let s := resetPhs (zeroData (freeCounters s x.f) x.f) x.f
    let s := zeroise s (24 + n)
    { s with
      slots := { s.slots with table := removeAt s.slots.table n },
      so := { s.so with replays := s.so.replays.filter (fun r => r.slot ≠ n), cmds := s.so.cmds.filter (fun c => c.2.slot ≠ n) },
      keys := { s.keys with
        cache := s.keys.cache.filter (fun e => e.slot ≠ n), rootFile := removeAt s.keys.rootFile n,
        aliases := removeAt s.keys.aliases n } }

end Sys2Proof.Machine
end

