-- ==== Sys2Proof/Machine/Effects.lean ====
section
/-! DEFINITION. What a committing command does to the stored state of the module. -/

namespace Sys2Proof.Machine

/-- The slot whose counter range holds a table index, and the CNUM there. -/
def ctrOwner (s : State) (i : Nat) : Option (Nat × Nat) :=
  (s.slots.table.find? (fun x => decide (x.2.f.ctrBase ≤ i ∧ i < x.2.f.ctrBase + x.2.f.ctrCount))).map
    (fun x => (x.1, i - x.2.f.ctrBase))

/-- One use of a counter entry is committed (R297); at the limit the entry is EXHAUSTED, and the
event is journalled and raised as an N-class notice that names the slot and CNUM (R298). -/
def commitUse (s : State) (i : Nat) : State :=
  match lookup s.keys.counters i with
  | none => s
  | some x =>
    if x.count.toNat ≥ x.limit.toNat then s
    else
      let y := { x with count := x.count + 1 }
      let full := y.count == y.limit
      let s := { s with keys := { s.keys with counters := insertAt s.keys.counters i { y with exhausted := full } } }
      if full then
        let (slot, cnum) := (ctrOwner s i).getD (0, 0)
        let (p, s) := stamp s srcSupervisor
        let s := journal s { pm := p, type := 0x000B, slot := BitVec.ofNat 16 slot, detail := le 2 cnum }
        notice s 0x0405 slot (BitVec.ofNat 32 cnum) false
      else s

/-- Carry out one commit effect. -/
def applyEffect (s : State) (f : Effect) : State :=
  match f with
  | .ctrUse i => commitUse s i
  | .ctrAlloc i limit gen =>
    { s with keys := { s.keys with counters := insertAt s.keys.counters i { limit := limit, gen := gen } } }
  | .curve i o => { s with boot := { s.boot with curves := insertAt s.boot.curves i o } }
  | .rngMode v =>
    { s with entropy := { s.entropy with condMode := v, insts := s.entropy.insts.map (fun x => (x.1, { x.2 with due := true })) } }
  | .extCfg v => { s with warden := { s.warden with extCfg := v } }
  | .slotCreate n f => installSlot s n f .active
  | .slotResume n => resumeSlot s n
  | .slotRestore n f header body => restoreSlot s n f header body

def applyEffects (s : State) (l : List Effect) : State := l.foldl applyEffect s

end Sys2Proof.Machine
end

