-- ==== Sys2Proof/Machine/Turn.lean ====
section
/-! DEFINITION. The end of a turn on a core, the hand-off of a completion, franking, the commit of a
state-changing command and its replay record. -/

namespace Sys2Proof.Machine

open Host

/-! ### Scrubs and the end of a turn -/

/-- Begin a scrub (R245); a trigger during a scrub does not extend it (R246). -/
def Wmu.scrub (w : Wmu) : Wmu := if w.scrubbing then w else { scrubbing := true }

/-- Erase every WMU at once (R245). -/
def scrubAll (s : State) : State :=
  coreNums.foldl (fun s k => s.setCore k { s.core k with wmu := (s.core k).wmu.scrub }) s

/-- Erase what a core left in the units that serve it: lane and hash key registers, result areas and
saved hash states (R216, R222), the key unit's result area and seed register (R306), the entropy
unit's result area; its jobs are gone with them. -/
def eraseCoreKeys (s : State) (k : Nat) : State :=
  { s with
    arrays := { s.arrays with
      laneKeys := s.arrays.laneKeys.filter (fun e => e.1 / 16 ≠ k),
      hashKeys := s.arrays.hashKeys.filter (fun e => e.1 / 16 ≠ k),
      jobs := s.arrays.jobs.filter (fun j => j.core ≠ k),
      results := s.arrays.results.filter (fun e => e.1 / 4 ≠ k),
      hashResults := s.arrays.hashResults.filter (fun e => e.1 / 4 ≠ k),
      hashStates := s.arrays.hashStates.filter (fun e => e.1 / 4 ≠ k) },
    keys := { s.keys with results := removeAt s.keys.results k, seeds := removeAt s.keys.seeds k },
    entropy := { s.entropy with results := removeAt s.entropy.results k } }

/-- What the end of every turn leaves of a core (R393): registers zero, written D-SRAM blocks
zeroed, the WMU scrubbed if USED is set, no command. -/
def Core.ended (c : Core) : Core :=
  { lastSlot := c.lastSlot, pre := c.pre, wmuFaults := c.wmuFaults, wmuLost := c.wmuLost,
    dsram := c.dsram.filter (fun e => !(c.dirty.contains (e.1 / 512))),
    clearing := c.clearing || !c.dirty.isEmpty,
    wmu := if c.wmu.used then c.wmu.scrub else c.wmu,
    busy1ms := c.busy1ms, busy1s := c.busy1s }

/-- End the turn of core k (R393); the offline window of an RNG service ends with it (R350, R351; log
entry 29). -/
def endTurn (s : State) (k : Nat) : State :=
  let s := if s.entropy.offlineBy.isSome && s.entropy.offlineBy == (s.core k).cmd then
      { s with entropy := { s.entropy with offline := false, offlineBy := none } }
    else s
  eraseCoreKeys (s.setCore k (s.core k).ended) k

/-- May the Sorting Office dispatch to the core? (R246, R393) -/
def Core.free (c : Core) : Bool := c.cmd.isNone && !c.clearing && !c.wmu.scrubbing

/-! ### Franking (R472) -/

/-- FRANK_ID: leftmost 8 octets of the SHA-384 of the Franking public point. -/
def frankId (s : State) : Octets := (sha 48 s.keys.frankPub).take 8

/-- Does the descriptor ask for franking? (R93) -/
def wantsFrank (d : Descriptor) : Bool := d.flags.getLsbD 1
def isInline (d : Descriptor) : Bool := d.flags.getLsbD 0
def isCritical (d : Descriptor) : Bool := d.flags.getLsbD 5
def prioField (d : Descriptor) : Nat := d.flags.toNat / 4 % 8

/-- Statuses that carry a trailer (R472). -/
def frankable (st : Code) : Bool := st == stOk || st == verifyFailed || st == sigInvalid

/-- Tenant number and domain index of a slot; 0xFFFF on PF0 (R472; domain 0 there: log entry 9). -/
def frankTenant (s : State) (slot : Nat) : Nat × Nat :=
  match lookup s.slots.table slot with
  | some x => (x.f.tenant.toNat, x.f.domain.toNat)
  | none => (0xFFFF, 0)

/-- The instance that serves a Franking nonce: that of the signing core's cluster pair, and I7 for the supervisor (R334,
R339; log entry 50). -/
def frankInst (src : Nat) : Nat := if 0x1000 ≤ src ∧ src < 0x1040 then (src - 0x1000) / 16 else 7

/-- The franking trailer of a result, stamped by source `src`, and the state after it (R347, R472). -/
def frankTrailer (s : State) (src : Nat) (c : Cmd) : Octets × State :=
  let (p, s) := stamp s src
  let (nonce, s) := if s.entropy.failed then ([], s) else generate s (frankInst src) 48 false
  let (t, dom) := frankTenant s c.slot
  let headO := frankId s ++ p.octets ++ le 2 c.d.opcode.toNat ++ le 2 c.status.toNat ++
    le 8 c.d.cmdId.toNat ++ le 2 t ++ le 1 dom ++ [0] ++ le 4 c.output.length ++ zeros 8
  let digest := sha 48 (ascii "PRK3680-FRANK" ++ headO ++ c.output)
  (headO ++ signP384 (s.keys.frankPriv.getD []) digest nonce, s)

/-! ### Replay store (R108) -/

/-- Units of 64 octets of the output area that a record takes. -/
def Replay.units (r : Replay) : Nat := ceilDiv r.output.length 64

/-- Keep the newest records within the index and the output area. -/
def trimReplays : Nat → Nat → List Replay → List Replay
  | _, _, [] => []
  | n, u, r :: t => if n = 0 || u < r.units then [] else r :: trimReplays (n - 1) (u - r.units) t

/-- Record slots and output units of the store. -/
def replaySlots : Nat := 1048576
def replayUnits : Nat := 2097152

/-- Keep a record, dropping the oldest that no longer fit. -/
def addReplay (s : State) (r : Replay) : State :=
  { s with so := { s.so with replays := trimReplays replaySlots replayUnits (r :: s.so.replays) } }

/-- The record with a key. -/
def findReplay (s : State) (slot ph : Nat) (id : BitVec 64) : Option Replay :=
  s.so.replays.find? (fun r => decide (r.slot = slot ∧ r.ph = ph ∧ r.cmdId = id))

/-! ### Commit -/

/-- Service time of a completion (R22). -/
def serviceTime (c : Cmd) : BitVec 32 := satNat 32 (c.completion.time.toNat - c.arrival.time.toNat)

/-- The journal entry of a command (R465, R468). -/
def commandEntry (c : Cmd) : JEntry :=
  { pm := c.completion, type := 2, slot := BitVec.ofNat 16 c.slot, ph := BitVec.ofNat 16 c.ph,
    opcode := c.d.opcode, status := c.status, cmdId := c.d.cmdId, dispatch := c.dispatch,
    detail := le 4 (serviceTime c).toNat ++ (sha 48 c.output).take 20 }

/-- The port stamps the completion Postmark, not before the dispatch Postmark (R21, R464). -/
def stampCompletion (s : State) (c : Cmd) : Cmd × State :=
  let (p, s) := stampFrom s (srcPort c.fn.portB) (max c.dispatch.time.toNat c.arrival.time.toNat |> BitVec.ofNat 64)
  ({ c with completion := p }, s)

/-- Commit a command on this module: stamp, effects, replay record, journal entry (R108, R297,
R468). -/
def commitNow (s : State) (e : Nat) (c : Cmd) : State :=
  let (c, s) := stampCompletion s c
  let s := applyEffects s c.effects
  let c := { c with stamped := true, stage := .done, effects := [], commitSeq := none }
  let s := if c.keepsReplay then
      addReplay s { slot := c.slot, ph := c.ph, cmdId := c.d.cmdId, opcode := c.d.opcode,
                    status := c.status, pm := c.completion, output := c.output, franked := c.franked }
    else s
  let s := if !c.journalled then s
    else if s.pair.mirroring && c.mirrors then journalHere s (commandEntry c)
    else journal s (commandEntry c)
  s.setCmd e c

/-- Would a commit have to wait for room in the journal? (R470) -/
def commitStalls (s : State) (c : Cmd) : Bool :=
  c.journalled && s.journal.full && !s.journal.overwrite

/-- A table write as a COMMIT carries it (R498); the layout is the record's own (log entry 7). -/
def Effect.octets : Effect → Octets
  | .ctrUse i => le 1 0 ++ le 4 i
  | .ctrAlloc i limit gen => le 1 1 ++ le 4 i ++ le 4 limit.toNat ++ le 4 gen.toNat
  | .slotCreate n f => le 1 2 ++ le 2 n ++ le 2 f.tenant.toNat ++ le 1 f.domain.toNat ++ le 1 f.policyId.toNat ++ le 2 f.phBase ++
      le 1 f.phCount ++ le 1 f.maxPrio ++ le 1 f.weight ++ le 1 f.dataLog2 ++ le 4 f.dataBase ++ le 4 f.cacheShare ++
      le 4 f.ctrBase ++ le 4 f.ctrCount
  | .slotResume n => le 1 3 ++ le 2 n
  | .slotRestore n _ header body => le 1 4 ++ le 2 n ++ header ++ body
  | _ => []

/-- The body of a COMMIT message: what the partner needs to hold the same commit (R498). -/
def commitBody (c : Cmd) : Octets :=
  le 2 c.slot ++ le 2 c.ph ++ le 2 c.d.opcode.toNat ++ le 2 c.status.toNat ++ le 8 c.d.cmdId.toNat ++
  c.dispatch.octets ++ le 4 c.output.length ++ c.output ++ c.effects.flatMap Effect.octets

/-- Send the COMMIT of a command that waits for the partner; while the link is down it goes out when the
link is back (R498, R510). -/
def sendCommit (s : State) (e : Nat) (c : Cmd) : State :=
  if linkLive s then
    let s := sendLink s 0x20 (commitBody c)
    s.setCmd e { c with stage := .commitWait, commitSeq := some s.pair.mseqTx }
  else s.setCmd e { c with stage := .commitWait, commitSeq := some 0 }

/-- Commit, or wait for the journal or for the partner's acknowledgement (R470, R498). -/
def commitOrWait (s : State) (e : Nat) (c : Cmd) : State :=
  if commitStalls s c then s.setCmd e { c with stage := .commitWait }
  else if s.pair.mirroring && c.mirrors then sendCommit s e c
  else commitNow s e c

/-! ### Hand-off -/

/-- Does the command commit a state change? (R106) -/
def commits (c : Cmd) : Bool := c.stateChanging && c.status == stOk && !c.replay

/-- A journalled service that commits nothing gets its entry when it ends, unless it failed in
class 0x01 (R97, R468; log entry 10). -/
def journalService (s : State) (e : Nat) (c : Cmd) : State :=
  if c.journalled && !c.stateChanging && c.status.toNat / 256 != 1 then
    let (c, s) := stampCompletion s c
    journal (s.setCmd e { c with stamped := true, stage := .done }) (commandEntry c)
  else s.setCmd e { c with stage := .done, effects := [] }

/-- Does the completion carry a trailer? (R472) -/
def franks (s : State) (c : Cmd) : Bool := wantsFrank c.d && frankable c.status && s.keys.frankPriv.isSome && !c.replay

/-- Hand a completion to the Sorting Office (R95, R97, R115): the ready-list place is released,
the trailer is written, and the output is held to the capacity; then the command commits, or waits
for its completion write. -/
def handOff (s : State) (src : Nat) (e : Nat) : State :=
  match s.cmd e with
  | none => s
  | some c =>
    let c := { c with list := none, eligible := false, served := true }
    let (c, s) :=
      if franks s c then
        let (t, s) := frankTrailer s src c
        ({ c with output := c.output ++ t, franked := true }, s)
      else (c, s)
    let need := c.output.length
    if need > c.d.outCap.toNat then
      -- R95: nothing written, nothing committed, the required length reported.
      s.setCmd e { c with status := badLength, output := [], outLen := need, effects := [],
                          franked := false, stage := .done }
    else
      let c := { c with outLen := if c.isPartial then c.outLen else need }
      if commits c then commitOrWait (s.setCmd e c) e c else journalService s e c

/-- Complete a command outside a core with a status and no output (R94, R97). -/
def completeWith (s : State) (e : Nat) (st : Code) : State :=
  match s.cmd e with
  | none => s
  | some c =>
    handOff (s.setCmd e { c with status := st, output := [], outLen := 0, effects := [],
                                 reserved := [], served := true }) srcSupervisor e

/-- End the turn of core k and hand its command's completion off (R395). -/
def finishOn (s : State) (k : Nat) : State :=
  match (s.core k).cmd with
  | none => s
  | some e => handOff (endTurn s k) (srcCore k) e

/-- Put a service's result into the running command of core k: status and output. -/
def serve (s : State) (k : Nat) (st : Code) (out : Octets) : State :=
  match (s.core k).cmd with
  | none => s
  | some e =>
    match s.cmd e with
    | none => s
    | some c => s.setCmd e { c with served := true, status := st, output := out }

/-- The running command of a core. -/
def running (s : State) (k : Nat) : Option (Nat × Cmd) :=
  match (s.core k).cmd with
  | none => none
  | some e => (s.cmd e).map (fun c => (e, c))

end Sys2Proof.Machine
end

