-- ==== Sys2Proof/Machine/Gates.lean ====
section
/-! DEFINITION. Access gates: regions, rule sets, readying the sets of a core, the swap, and the
decision on a request (R401 to R424). -/

namespace Sys2Proof.Machine

open Host

/-! ### Regions (R406 to R408) -/

/-- A region descriptor: BASE and SIZE_LOG2 with rights (R406). -/
def region (base log2 : Nat) (r w x : Bool) : BitVec 64 :=
  BitVec.ofNat 64 (base / 256 + 2 ^ 32 * log2 + (if r then 2 ^ 38 else 0) + (if w then 2 ^ 39 else 0) +
    (if x then 2 ^ 40 else 0))
def regBase (d : BitVec 64) : Nat := (d.extractLsb' 0 32).toNat * 256
def regLog2 (d : BitVec 64) : Nat := (d.extractLsb' 32 6).toNat
def regR (d : BitVec 64) : Bool := d.getLsbD 38
def regW (d : BitVec 64) : Bool := d.getLsbD 39
def regX (d : BitVec 64) : Bool := d.getLsbD 40
def regReserved (d : BitVec 64) : Bool := d.extractLsb' 41 23 != 0

/-- Does an address match a region? (R407) -/
def regMatch (d : BitVec 64) (a : Nat) : Bool :=
  decide (regLog2 d ≠ 0) && a / 2 ^ regLog2 d == regBase d / 2 ^ regLog2 d

/-- Does a region grant a kind: 0 read, 1 write, 2 fetch? (R407) -/
def regGrants (d : BitVec 64) (kind : Nat) : Bool :=
  if kind = 0 then regR d else if kind = 1 then regW d else if kind = 2 then regX d else false

/-- The check of one entry: status, 0 where it passes (R408). -/
def entryCheck (d : BitVec 64) : BitVec 3 :=
  let k := regLog2 d
  if (1 ≤ k ∧ k ≤ 7) ∨ k > 40 then 3
  else if regReserved d then 4
  else if k ≠ 0 ∧ regBase d % 2 ^ k ≠ 0 then 2
  else 0

/-- Do two used entries overlap? (R408) -/
def overlaps (a b : BitVec 64) : Bool :=
  let k := max (regLog2 a) (regLog2 b)
  decide (regLog2 a ≠ 0) && decide (regLog2 b ≠ 0) && regBase a / 2 ^ k == regBase b / 2 ^ k

/-- Does any pair of a list overlap? -/
def anyOverlap : List (BitVec 64) → Bool
  | [] => false
  | d :: t => t.any (overlaps d) || anyOverlap t

/-- ARM_STATUS of a list of descriptors: every entry in order, then every pair (R408). -/
def armCheck (l : List (BitVec 64)) : BitVec 3 :=
  match l.find? (fun d => entryCheck d != 0) with
  | some d => entryCheck d
  | none => if anyOverlap l then 1 else 0

/-! ### Rule sets (R410) -/

/-- Key of a set in the table. -/
def setKey (gate master set : Nat) : Nat := 2 * (128 * gate + master) + set

/-- What a set holds before anything is loaded: set A of master 0x00 is the one entry of R418. -/
def setDefault (master set : Nat) : RuleSet :=
  if master = 0 ∧ set = 0 then { st := .active, entries := [(0, region 0 40 true true true)] } else {}

def getSet (s : State) (gate master set : Nat) : RuleSet :=
  (lookup s.gates.sets (setKey gate master set)).getD (setDefault master set)
def putSet (s : State) (gate master set : Nat) (r : RuleSet) : State :=
  { s with gates := { s.gates with sets := insertAt s.gates.sets (setKey gate master set) r } }
def epochTag (s : State) (master : Nat) : BitVec 8 := tget 0 s.gates.tags master

/-- Master ID of logical core k (R19). -/
def coreMaster (k : Nat) : Nat := 0x40 + k
/-- The gates G0 to G28. -/
def gateNums : List Nat := List.range 29

/-- The set of a master in a state, at a gate. -/
def setIn (s : State) (gate master : Nat) (st : SetState) : Option Nat :=
  [0, 1].find? (fun n => (getSet s gate master n).st == st)

/-- The set that is not ACTIVE. -/
def inactiveSet (s : State) (gate master : Nat) : Nat :=
  if (getSet s gate master 0).st == .active then 1 else 0

/-! ### What a core's set holds (R411 to R417) -/

/-- Base entries of a gate in a BASE_RULES body (R416). -/
def baseBody (o : Octets) (gate : Nat) : List (Nat × BitVec 64) :=
  (List.range (u16 o 0)).filterMap (fun i =>
    let p := 8 + 16 * i
    if u8 o p = gate ∨ (u8 o p = 0xFF ∧ gate ≤ 7) then some (u8 o (p + 1), BitVec.ofNat 64 (u64 o (p + 8))) else none)

/-- Base entries of a gate without a BASE_RULES record (R415). -/
def baseDefault (gate : Nat) : List (Nat × BitVec 64) :=
  match gate with
  | 17 => [(0, region 0x0200000000 10 true true false)]
  | 18 => [(0, region 0x0210000000 9 true true false)]
  | 19 => [(0, region 0x0220000000 10 true true false)]
  | 20 => [(0, region 0x0230000000 10 true true false)]
  | 21 => [(0, region 0x0240000000 8 false true false)]
  | 25 => [(0, region 0x0280000000 12 true false false)]
  | _ => []

def baseEntries (s : State) (gate : Nat) : List (Nat × BitVec 64) :=
  match s.boot.baseRules with
  | some o => baseBody o gate
  | none => baseDefault gate

/-- Slot entries of a gate: the data area at G0 to G7 (R439); none for the PF0s (R417). -/
def slotEntries (s : State) (slot gate : Nat) : List (Nat × BitVec 64) :=
  match lookup s.slots.table slot with
  | some x => if gate ≤ 7 ∧ x.f.dataLog2 ≠ 0 then [(8, region x.f.dataBase x.f.dataLog2 true true false)] else []
  | none => []

/-- Command entries of a gate for command-table entry e (R412). -/
def commandEntries (e gate : Nat) : List (Nat × BitVec 64) :=
  if gate ≤ 7 then [(14, region (stagingAddr e) 12 true false false), (15, region (scratchAddr e) 9 true true false)]
  else []

/-- Host windows of a gate for a command on core k: input, then output (R413). -/
def hostWindows (k gate : Nat) (c : Cmd) : List (Nat × Nat × Bool) :=
  if gate = (if c.fn.portB then 27 else 26) then
    [(hsIn k c, (if isInline c.d then 0 else c.d.inLen.toNat), false), (hsOut k c, hsOutLen c, true)]
  else []

/-! ### Readying, freeing and swapping the sets of a core (R420 to R424) -/

/-- Ready the inactive set of core k for entry e at a gate, if it is FREE: load and arm (R420). A set
that fails its check stays FREE (R408). -/
def readyGate (s : State) (k e : Nat) (c : Cmd) (gate : Nat) : State :=
  let m := coreMaster k
  let i := inactiveSet s gate m
  let r := getSet s gate m i
  let entries := baseEntries s gate ++ slotEntries s c.slot gate ++ commandEntries e gate
  if r.st != .free || armCheck (entries.map (·.2)) != 0 then s
  else
    putSet s gate m i { st := .armed, epoch := epochTag s m + 1, entries := entries,
                        windows := hostWindows k gate c, drain := 0, forCmd := some e }

/-- Ready every gate for the command pre-selected for core k, unless its rule-table read is still out
(R420). -/
def readyAll (s : State) (k : Nat) : State :=
  match (s.core k).pre with
  | none => s
  | some e =>
    match s.cmd e with
    | none => s
    | some c => if s.gates.reads.contains k then s else gateNums.foldl (fun s g => readyGate s k e c g) s

/-- Does the pre-selection of a command of this slot need a rule-table read: the running command's
slot differs, or there is none? (R420) -/
def slotChanges (s : State) (k slot : Nat) : Bool :=
  match (s.core k).cmd with
  | some e => (match s.cmd e with | some c => c.slot != slot | none => true)
  | none => (s.core k).lastSlot != slot || (setIn s 0 (coreMaster k) .active).isNone

/-- Begin the readying that a pre-selection for core k starts (R420). -/
def beginReady (s : State) (k : Nat) : State :=
  match (s.core k).pre with
  | none => s
  | some e =>
    let slot := ((s.cmd e).map (·.slot)).getD 0
    if slotChanges s k slot then { s with gates := { s.gates with reads := k :: s.gates.reads.filter (· ≠ k) } }
    else readyAll s k

/-- The ARMED sets of a master are freed at every gate (R423). -/
def freeArmed (s : State) (master : Nat) : State :=
  { s with gates := { s.gates with
      sets := s.gates.sets.map (fun x =>
        if x.1 / 2 % 128 = master ∧ x.2.st = .armed then (x.1, ({} : RuleSet)) else x) } }

/-- Core k loses its pre-selection: displaced or cancelled (R127, R138, R423). -/
def dropPre (s : State) (k : Nat) : State :=
  let s := s.setCore k { s.core k with pre := none }
  freeArmed { s with gates := { s.gates with reads := s.gates.reads.filter (· ≠ k), stalled := s.gates.stalled.filter (· ≠ k) } }
    (coreMaster k)

/-- Is gate g READY for entry e on core k: its set ARMED for it? (R420) -/
def gateReady (s : State) (k e g : Nat) : Bool :=
  [0, 1].any (fun i => (getSet s g (coreMaster k) i).st == .armed && (getSet s g (coreMaster k) i).forCmd == some e)

/-- The gates that are not READY for entry e on core k. -/
def notReady (s : State) (k e : Nat) : List Nat := gateNums.filter (fun g => !gateReady s k e g)

/-- A set as the swap leaves it: ARMED becomes ACTIVE, ACTIVE becomes DRAINING, or FREE with nothing to
drain (R421, R422). -/
def RuleSet.swapped (r : RuleSet) : RuleSet :=
  match r.st with
  | .armed => { r with st := .active, forCmd := none }
  | .active => if r.drain = 0 then {} else { r with st := .draining }
  | _ => r

/-- The swap of a master at every gate, its tag advanced (R421). -/
def swapSets (s : State) (master : Nat) : State :=
  let s := gateNums.foldl (fun s g =>
    let a := (getSet s g master 0).swapped
    let b := (getSet s g master 1).swapped
    putSet (putSet s g master 0 a) g master 1 b) s
  { s with gates := { s.gates with tags := tset 0 s.gates.tags master (epochTag s master + 1) } }

/-- One request of a master under a tag has been answered: its set counts down, and a DRAINING set at
zero becomes FREE (R422). -/
def countDown (s : State) (gate master : Nat) (tag : BitVec 8) : State :=
  match [0, 1].find? (fun i => let r := getSet s gate master i
                               (r.st == .active || r.st == .draining) && r.epoch == tag) with
  | none => s
  | some i =>
    let r := getSet s gate master i
    putSet s gate master i
      (if r.st = .draining ∧ r.drain ≤ 1 then {} else { r with drain := r.drain - 1 })

/-! ### The gate of an address (R15) -/

/-- Gate of a FAR address; none where it is unmapped. -/
def gateOf (s : State) (a : Nat) : Option Nat :=
  if a < 0x80000000 then some (a / 2 ^ s.boot.ilvShift % 8)
  else if 0x0100000000 ≤ a ∧ a < 0x0108000000 then
    (if (a - 0x0100000000) % 0x01000000 < 0x200000 then some (8 + (a - 0x0100000000) / 0x01000000) else none)
  else if 0x0108000000 ≤ a ∧ a < 0x0108200000 then (if s.units.logical.contains 0xFE then some 16 else none)
  else if 0x0200000000 ≤ a ∧ a < 0x0290000000 then some (17 + (a - 0x0200000000) / 0x10000000)
  else if 0x1000000000 ≤ a ∧ a < 0x4000000000 then some (25 + a / 0x1000000000)
  else none

end Sys2Proof.Machine
end

