-- ==== Sys2Proof/Machine/Report.lean ====
section
/-! DEFINITION. Erasing, and the responses of the alarm classes E and L (R325, R522, R523). -/

namespace Sys2Proof.Machine

open Host

/-! ### Erasing and the classes E and L -/

/-- Erase working material (R325): the Franking key, the tenant-root file, the cache and index keys, lane
and hash key registers with what jobs left, DRBG states and ceremony state; entropy requests end
with RSTATUS 0x0005 (R356). -/
def eraseWorking (s : State) : State :=
  { s with
    keys := { s.keys with frankPriv := none, frankPub := [], frankCert := [], cacheKey := none, indexKey := none, cache := [],
                          rootFile := [], ceremony := none, results := [], seeds := [] },
    arrays := { s.arrays with laneKeys := [], hashKeys := [], jobs := [], results := [], hashResults := [],
                              hashStates := [] },
    entropy := { s.entropy with
      insts := [], offline := false, offlineBy := none,
      results := s.entropy.results.map (fun x => (x.1, { x.2 with
        busy := false, status := if x.2.busy then 5 else x.2.status, out := [], data := [] })) } }

/-- The counter table is lost (R325). -/
def eraseCounters (s : State) : State := { s with keys := { s.keys with counters := [] } }

/-- Every fetched command that has not completed completes with a status and no output, commits
nothing here, and leaves its core (R523). -/
def failAll (s : State) (st : Code) : State :=
  let s := coreNums.foldl (fun s k =>
    if (s.core k).cmd.isSome || (s.core k).pre.isSome then
      dropPre (endTurn s k) k
    else s) s
  s.mapCmds (fun _ c =>
    if c.stage = .done then c
    else { c with stage := .done, served := true, status := st, output := [], outLen := 0,
                  effects := [], list := none, eligible := false, reserved := [], commitSeq := none })

/-- Leave the pair: CROWN_OUT drops, and a standby tells its partner on the link, if it can (R510, R522). -/
def leavePair (s : State) : State :=
  let s := if (s.pair.role = .standby ∨ s.pair.role = .joining) ∧ linkLive s then sendLink s 0x72 (le 2 (Config.detachCause 0).toNat) else s
  { s with pair := { s.pair with role := .lone, crownOut := false, joined := false, mirroring := false, copying := false,
                                 detaching := false, holding := false, swap := none, taking := none, backedOff := none,
                                 window := false, expiry := none, renewals := [], unsent := [] } }

/-- Challenges and grants are erased (R542). -/
def eraseQuorum (s : State) : State :=
  { s with alarms := { s.alarms with challenges := [], grants := [] } }

/-- Clear the mask key and the roots: the warden's erase (R522, R325). -/
def eraseRoots (s : State) : State :=
  { s with warden := { s.warden with km := none, mr := none, roots := [], identity := none } }

/-- Abandon an image path in progress (R57; log entry 11). -/
def abandonImage (s : State) (st : Code) : State :=
  match s.boot.imgState with
  | .fetching | .verifying | .applying =>
    { s with boot := { s.boot with imgState := .refused, imgStatus := st, imgFaultOff := 0, data := [], expect := none } }
  | _ => s

/-- An E- or L-class alarm in ERASED is logged, in the battery log too, and does nothing else (R526, R530; log
entry 68). -/
def logErased (s : State) (a : AlarmInfo) : State :=
  blogWrite (logAlarm s a) { cause := a.cause, cls := BitVec.ofNat 8 a.cls, unit := BitVec.ofNat 16 a.unit,
                             value := a.value, flags := if a.deferred then 4 else 0 }

/-- The class L response (R522, R526). -/
def respondL (s : State) (a : AlarmInfo) : State :=
  match s.boot.mode with
  | .erased => logErased s a
  | .battery => logAlarm s a
  | .diagnostic => blogWrite (logAlarm (eraseWorking s) { a with actions := 2 })
      { cause := a.cause, cls := 3, unit := BitVec.ofNat 16 a.unit, value := a.value, flags := if a.deferred then 4 else 0 }
  | _ =>
    let s := logAlarm s { a with actions := 2 + 4 + 8 }
    let pm : Postmark := { time := (tget {} s.tb.sources srcAlarm).last, src := BitVec.ofNat 16 srcAlarm,
                           seq := (tget {} s.tb.sources srcAlarm).seq }
    let s := eraseQuorum (eraseWorking (scrubAll (leavePair s)))
    let s := abandonImage (failAll s lockedSt) lockedSt
    let s := { s with
      warden := { s.warden with lockRec := true, lockSeq := satInc s.warden.lockSeq,
                                lockCause := a.cause, lockPm := pm },
      boot := { s.boot with unsealed := false, maintDrain := none, armed := none },
      alarms := { s.alarms with dryFire := none } }
    let s := setMode s .locked a.cause
    blogWrite s { cause := a.cause, cls := 3, unit := BitVec.ofNat 16 a.unit, value := a.value,
                  flags := if a.deferred then 4 else 0 }

/-- The class E response (R522, R526, R527). -/
def respondE (s : State) (a : AlarmInfo) : State :=
  match s.boot.mode with
  | .erased => logErased s a
  | .battery =>
    -- R527: the warden alone acts, and the next boot finds the entry.
    let s := eraseRoots s
    blogWrite s { cause := a.cause, cls := 4, unit := BitVec.ofNat 16 a.unit, value := a.value, flags := 3 }
  | _ =>
    let s := logAlarm s { a with actions := 1 + 2 + 4 + 16 }
    let s := eraseQuorum (eraseCounters (eraseWorking (scrubAll (leavePair (eraseRoots s)))))
    let s := abandonImage (failAll s erasedSt) erasedSt
    let s := { s with boot := { s.boot with unsealed := false, maintDrain := none, armed := none },
                      alarms := { s.alarms with dryFire := none } }
    let s := setLifeCycle s .retired a.cause
    let s := setMode s .erased a.cause
    blogWrite s { cause := a.cause, cls := 4, unit := BitVec.ofNat 16 a.unit, value := a.value,
                  flags := BitVec.ofNat 8 (2 + if a.deferred then 4 else 0) }

/-- Raise an alarm of any class with the response of its class (R522). -/
def raiseAlarm (s : State) (a : AlarmInfo) : State :=
  if a.cls = clsE then respondE s a
  else if a.cls = clsL then respondL s a
  else logAlarm s a

end Sys2Proof.Machine
end

