-- ==== Sys2Proof/Machine/Exec36.lean ====
section
/-! DEFINITION. How a logical core carries out one instruction: the NEAR map, the load delay slot,
repeats and events (chapter 11).  The instructions' own effects stand in Cpu.lean, Far.lean and
Wmu.lean. -/

namespace Sys2Proof.Machine

open Host

/-! ### Registers -/

/-- Read a general register; g0 reads as zero (R357). -/
def Core.reg (c : Core) (n : Nat) : W36 := if n = 0 then 0 else tget 0 c.regs n

/-- Write a general register; a write to g0 is discarded (R357). -/
def Core.setReg (c : Core) (n : Nat) (v : W36) : Core :=
  if n = 0 then c else { c with regs := tset 0 c.regs n v }

/-- The low 32 bits of a word, guard bits dropped (R359). -/
def low32 (v : W36) : BitVec 32 := v.extractLsb' 0 32

/-- A 32-bit value as a word with zero guard bits. -/
def word32 (v : BitVec 32) : W36 := v.setWidth 36

/-- Guard bits [35:32]. -/
def guardBits (v : W36) : BitVec 4 := v.extractLsb' 32 4

/-- Low 24 bits: a NEAR address. -/
def near24 (v : W36) : Nat := v.toNat % 2 ^ 24

/-- st.C and st.NC, and st with them replaced (R358). -/
def stC (st : W36) : Nat := st.toNat % 2
def stNC (st : W36) : Nat := st.toNat / 2 % 32
def withC (st : W36) (b : Bool) : W36 := (st &&& ~~~(1 : W36)) ||| (if b then 1 else 0)
def withNC (st : W36) (n : Nat) : W36 := (st &&& ~~~(0x3E : W36)) ||| (BitVec.ofNat 36 (n % 32 * 2))
def withFF (st : W36) (n : Nat) : W36 := (st &&& ~~~(0x1C0 : W36)) ||| (BitVec.ofNat 36 (n % 8 * 64))

/-- Fields of ev (R358). -/
def evRpt (ev : W36) : Bool := ev.getLsbD 6
def evAct (ev : W36) : Bool := ev.getLsbD 7
def evEpc (ev : W36) : BitVec 25 := ev.extractLsb' 11 25
def mkEv (cause : Nat) (rpt act slot : Bool) (epc : BitVec 25) : W36 :=
  BitVec.ofNat 36 (cause % 64 + (if rpt then 64 else 0) + (if act then 128 else 0) +
    (if slot then 256 else 0) + epc.toNat * 2048)

/-- ctx.CUSTOM and ctx.PORT (R358). -/
def Core.custom (c : Core) : Bool := c.ctx.getLsbD 23
def Core.ctxPort (c : Core) : Nat := if c.ctx.getLsbD 22 then 1 else 0

/-! ### NEAR space (R362) -/

/-- What a NEAR word address reaches. -/
inductive NearArea where
  | program | dsram (i : Nat) | shared | opmem (i : Nat) | none
  deriving DecidableEq, Repr

def nearArea (a : Nat) : NearArea :=
  if a < 0x8000 then .program
  else if 0x10000 ≤ a ∧ a < 0x18000 then .dsram (a - 0x10000)
  else if 0x100000 ≤ a ∧ a < 0x180000 then .shared
  else if 0x200000 ≤ a ∧ a < 0x200800 then .opmem (a - 0x200000)
  else .none

/-- A word of I-SRAM: standard programs from the firmware, custom segments from the layout. -/
def iword (s : State) (a : Nat) : W36 :=
  match lookup s.boot.isram a with
  | some v => v
  | none => if a < 0x5000 then Config.stdProgram a else 0

/-- A word of cluster-shared memory. -/
def sharedWord (s : State) (a : Nat) : BitVec 32 :=
  match lookup s.boot.shared a with
  | some v => v
  | none => if a < 0x160000 then Config.stdConstant a else 0

/-- Load a NEAR word, or nothing where the map denies the load (R362); an operand-memory load
returns zero during a scrub (R245). -/
def nearLoad (s : State) (c : Core) (a : Nat) : Option W36 :=
  match nearArea a with
  | .program =>
    if c.custom && !(decide (c.segLo ≤ a) && decide (a < c.segHi)) then none else some (iword s a)
  | .dsram i => some (tget 0 c.dsram i)
  | .shared => some (word32 (sharedWord s a))
  | .opmem i => some (if c.wmu.scrubbing then 0 else tget 0 c.wmu.opmem i)
  | .none => none

/-- Does the map allow a store? -/
def nearStorable (a : Nat) : Bool :=
  match nearArea a with
  | .dsram _ => true
  | .opmem _ => true
  | _ => false

/-- Store a NEAR word where the map allows it: D-SRAM blocks written are noted (R393), a store to
operand memory sets USED, and has no effect during a scrub (R245). -/
def Core.nearStore (c : Core) (a : Nat) (v : W36) : Core :=
  match nearArea a with
  | .dsram i =>
    { c with dsram := tset 0 c.dsram i v,
             dirty := if c.dirty.contains (i / 512) then c.dirty else i / 512 :: c.dirty }
  | .opmem i =>
    if c.wmu.scrubbing then c
    else { c with wmu := { c.wmu with opmem := tset 0 c.wmu.opmem i v, used := true } }
  | _ => c

/-! ### Fetch rights (R362, R383 EXEC_BOUND) -/

/-- May an instruction start at a half address?  For custom code, library routines only after entry
through the entry table, and the table only at an entry's first half. -/
def fetchable (c : Core) (t : BitVec 25) : Bool :=
  let w := t.toNat / 2
  if c.custom then
    (decide (c.segLo ≤ w) && decide (w < c.segHi)) ||
    (decide (0x4F00 ≤ w) && decide (w < 0x5000) && t.toNat % 2 == 0) ||
    (decide (w < 0x4F00) && c.inLibrary)
  else decide (w < 0x8000)

/-- Does the second half of a long form at pc lie within the fetch rights (R371)?  In the entry table it ends the
instruction that an entry's first half begins. -/
def Core.spans (c : Core) : Bool :=
  let w := (c.pc + 1).toNat / 2
  if c.custom then
    (decide (c.segLo ≤ w) && decide (w < c.segHi)) || (decide (0x4F00 ≤ w) && decide (w < 0x5000)) ||
    (decide (w < 0x4F00) && c.inLibrary)
  else decide (w < 0x8000)

/-- Entering the table turns library rights on; the own segment turns them off. -/
def Core.arrive (c : Core) (t : BitVec 25) : Core :=
  let w := t.toNat / 2
  if c.custom then
    if 0x4F00 ≤ w ∧ w < 0x5000 then { c with pc := t, inLibrary := true }
    else if c.segLo ≤ w ∧ w < c.segHi then { c with pc := t, inLibrary := false }
    else { c with pc := t }
  else { c with pc := t }

/-! ### One instruction -/

/-- What an executed instruction does to its core, computed from the registers as it reads them. -/
structure Did where
  /-- General registers written. -/
  regs : List (Nat × W36) := []
  /-- st, repc, ev after it. -/
  st : Option W36 := none
  repc : Option W36 := none
  ev : Option W36 := none
  /-- NEAR words stored. -/
  stores : List (Nat × W36) := []
  /-- A NEAR load whose value arrives after the delay slot. -/
  load : Option (Nat × W36) := none
  /-- Target of a taken branch or jump. -/
  target : Option (BitVec 25) := none
  /-- The WMU after it, and a deferred WMU fault. -/
  wmu : Option Wmu := none
  wmuFault : Bool := false
  /-- A far access issued. -/
  far : Option FarOp := none
  /-- A repeat begun. -/
  rep : Option Repeat := none
  /-- Issue clocks (R375). -/
  clocks : Nat := 1
  deriving Repr

/-- The outcome of an instruction. -/
inductive Act where
  /-- It completes. -/
  | did (d : Did)
  /-- A terminal event with its CAUSE (R385). -/
  | terminal (cause : Nat)
  /-- A handled synchronous event: CAUSE, does EPC name the next instruction, effects kept (R384). -/
  | handled (cause : Nat) (epcNext : Bool) (d : Did)
  deriving Repr

/-- CAUSE codes (R383). -/
def evIllegal : Nat := 1
def evExecBound : Nat := 2
def evNearAccess : Nat := 3
def evGuard : Nat := 4
def evAlign : Nat := 5
def evFarFault : Nat := 6
def evWmuFault : Nat := 7
def evCycleLimit : Nat := 8
def evDouble : Nat := 9

/-- At the end of a turn: a WMU fault that its command has seen raises an F-class event and counts for this WMU, which is
scrubbed; a second within 24 h counts as a lockstep mismatch once that scrub has ended (R244; log entry 64). -/
def noteResidue (s : State) (k : Nat) : State :=
  let c := s.core k
  if !c.wmuSeen then s
  else
    let s := eventF s 0x0302 k 0 0
    let faults := s.time.toNat :: c.wmuFaults.take 3
    s.setCore k { c with wmuFaults := faults, wmuLost := c.wmuLost || decide (within24h s faults ≥ 2),
                         wmu := { c.wmu with used := true } }

/-- A terminal event (R385): the command completes with PROGRAM_FAULT, nothing commits, and an
F-class event names opcode, cause and half address. -/
def programFaultAt (s : State) (k : Nat) (cause : Nat) : State :=
  match (s.core k).cmd with
  | none => s
  | some e =>
    let pc := (s.core k).pc
    let op := match s.cmd e with | some c => c.d.opcode.toNat | none => 0
    let s := eventF s 0x0308 op (BitVec.ofNat 32 (cause * 2 ^ 25 + pc.toNat)) 0
    completeWith (endTurn (noteResidue s k) k) e programFault

/-- The half address `n` halves on. -/
def halfAdd (p : BitVec 25) (n : Nat) : BitVec 25 := p + BitVec.ofNat 25 n

/-- Complete the load in its delay slot, unless the slot instruction writes that register (R378). -/
def Core.landLoad (c : Core) (written : List (Nat × W36)) : Core :=
  match c.load with
  | none => c
  | some (r, v) =>
    if written.any (fun w => w.1 == r) then { c with load := none }
    else { (c.setReg r v) with load := none }

/-- Put an instruction's effects on its core: the old load lands, then its own writes.  A WMU fault notes where it arose,
for the ev that is written when it is taken (R358, R384; log entry 80). -/
def Core.apply (c : Core) (d : Did) : Core :=
  let first := d.wmuFault && !c.wmuPending
  let rpt := if first then c.rep.isSome else c.wmuRpt
  let slot := if first then c.load.isSome else c.wmuSlot
  let c := c.landLoad d.regs
  let c := d.regs.foldl (fun c w => c.setReg w.1 w.2) c
  let c := { c with st := d.st.getD c.st, repc := d.repc.getD c.repc, ev := d.ev.getD c.ev,
                    load := d.load, wmu := d.wmu.getD c.wmu, far := d.far,
                    wmuPending := c.wmuPending || d.wmuFault, wmuSeen := c.wmuSeen || d.wmuFault,
                    wmuRpt := rpt, wmuSlot := slot, cycles := c.cycles + d.clocks }
  d.stores.foldl (fun c w => c.nearStore w.1 w.2) c

/-- Enter the handler of a handled event (R384), or end by DOUBLE (R383). -/
def takeEvent (s : State) (k : Nat) (c : Core) (cause : Nat) (rpt slot : Bool) (epc : BitVec 25) : State :=
  match c.handler with
  | none => programFaultAt (s.setCore k c) k evDouble
  | some h =>
    if evAct c.ev && cause ≠ evWmuFault then programFaultAt (s.setCore k c) k evDouble
    else
      let c := c.landLoad []
      s.setCore k { c with ev := mkEv cause rpt true slot epc, pc := h, rep := none, resume := false,
                           cycles := c.cycles + 3 }

/-- After an instruction: step through the repeat, take a pending WMU fault, check the next fetch
(R371, R379, R384). -/
def settle (s : State) (k : Nat) (c : Core) (len : Nat) (target : Option (BitVec 25)) : State :=
  let (c, t) :=
    match c.rep with
    | none => (c, target.getD (halfAdd c.pc len))
    | some _ =>
      let left := c.repc.toNat % 4096 - 1
      let c := { c with repc := BitVec.ofNat 36 left }
      if left = 0 then ({ c with rep := none }, halfAdd c.pc len) else (c, c.pc)
  if !fetchable c t then programFaultAt (s.setCore k { c with pc := t }) k evExecBound
  else
    let c := c.arrive t
    if c.wmuPending && !evAct c.ev && c.rep.isNone then
      takeEvent s k { c with wmuPending := false } evWmuFault c.wmuRpt c.wmuSlot t
    else s.setCore k c

/-- Bring an instruction's outcome about on core k (R381, R384, R385). -/
def conclude (s : State) (k : Nat) (len : Nat) (a : Act) : State :=
  let c := s.core k
  match a with
  | .terminal cause => programFaultAt s k cause
  | .handled cause epcNext d =>
    let next := halfAdd c.pc len
    let epc := match c.rep with
      | none => if epcNext then next else c.pc
      | some r => if r.interruptible then r.prefixPc else next
    takeEvent s k { c.apply d with rep := none } cause c.rep.isSome c.load.isSome epc
  | .did d =>
    match d.far with
    | some op =>
      -- A far access stalls the core until it is answered; the load slot waits with it.
      s.setCore k { c with far := some op, resume := false, cycles := c.cycles + d.clocks }
    | none =>
      let c2 := { c.apply d with resume := false }
      match d.rep with
      | some r =>
        -- A prefix: the body is executed next, and counts down repc.
        if !fetchable c2 (halfAdd c.pc len) then programFaultAt (s.setCore k c2) k evExecBound
        else s.setCore k { c2.arrive (halfAdd c.pc len) with rep := some r }
      | none => settle s k c2 len d.target

/-- Can core k take an instruction: it runs a command and waits for no far answer. -/
def Core.ready (c : Core) : Bool := c.cmd.isSome && c.far.isNone

/-- Is an instruction of `len` halves fetched whole (R371)? -/
def Core.fetched (c : Core) (len : Nat) : Bool := len != 2 || c.spans

/-- Carry out one instruction of `len` halves on core k.  Nothing happens on a core that runs no
command or waits for a far answer (log entry 12); a fetch past the rights is EXEC_BOUND (R371). -/
def runInsn (s : State) (k : Nat) (len : Nat) (f : Core → Act) : State :=
  if (s.core k).ready then
    conclude s k len (if (s.core k).fetched len then f (s.core k) else .terminal evExecBound)
  else s

/-- An instruction that only writes registers. -/
def runAlu (s : State) (k : Nat) (len : Nat) (f : Core → List (Nat × W36)) : State :=
  runInsn s k len (fun c => .did { regs := f c })

end Sys2Proof.Machine
end

