-- ==== Sys2Proof/Machine/Far.lean ====
section
/-! DEFINITION. Far accesses and far-moves of a core, and their answers (R365 to R369). -/

namespace Sys2Proof.Machine

open Host

/-- FAR address of a core's access; nothing for SEG 5 to 7 (R365). -/
def farAddr (c : Core) (seg : Nat) (a : W36) : Option Nat :=
  if seg ≤ 3 then some (seg * 2 ^ 36 + a.toNat)
  else if seg = 4 then some ((1 + c.ctxPort) * 2 ^ 36 + a.toNat)
  else none

/-- Length of the next far-move piece (R368): the largest power of two that is at most 256, divides
the address and does not exceed the octets remaining. -/
def pieceLen (addr remaining : Nat) : Nat :=
  [256, 128, 64, 32, 16, 8, 4].find? (fun n => addr % n == 0 && decide (n ≤ remaining)) |>.getD 0

/-- Does an octet address lie in working memory? (R15) -/
def inWorkMem (a : Nat) : Bool := decide (a < 0x80000000)

/-- Read and write octets of working memory. -/
def wmemRead (s : State) (a n : Nat) : Octets := (List.range n).map (fun i => tget 0 s.wmem (a + i))
def wmemWrite : Tab Octet → Nat → Octets → Tab Octet
  | t, _, [] => t
  | t, a, o :: os => wmemWrite (tset 0 t a o) (a + 1) os

/-- The octets of NEAR words from an address: 4 per word, low first; nothing if a word has guard
bits (R361). -/
def nearOctets (s : State) (c : Core) : Nat → Nat → Option Octets
  | _, 0 => some []
  | a, n + 1 =>
    match nearLoad s c a with
    | none => none
    | some v => if guardBits v ≠ 0 then none else (nearOctets s c (a + 1) n).map (le 4 (low32 v).toNat ++ ·)

/-- Put octets read into NEAR words, zero-extended (R361, R367). -/
def landOctets : Core → Nat → Octets → Nat → Core
  | c, _, _, 0 => c
  | c, a, o, n + 1 => landOctets (c.nearStore a (BitVec.ofNat 36 (leNat (o.take 4)))) (a + 1) (o.drop 4) n

/-- NEAR range of a far-move lies wholly in one admitted area (R367). -/
def moveRange (read : Bool) (near words : Nat) : Bool :=
  let lo := near
  let hi := near + words
  (decide (0x10000 ≤ lo) && decide (hi ≤ 0x18000)) || (decide (0x200000 ≤ lo) && decide (hi ≤ 0x200800)) ||
  (!read && decide (0x100000 ≤ lo) && decide (hi ≤ 0x180000))

/-- Put octets at an offset of an octet string. -/
def writeAt (o : Octets) (off : Nat) (d : Octets) : Octets :=
  fit off o ++ d ++ o.drop (off + d.length)

/-- Effect of an accepted far write: working memory takes it; a write into the command's output
buffer is part of its output (R391). -/
def farWrite (s : State) (k : Nat) (addr : Nat) (d : Octets) : State :=
  if inWorkMem addr then { s with wmem := wmemWrite s.wmem addr d }
  else
    match running s k with
    | none => s
    | some (e, c) =>
      let base := (1 + (s.core k).ctxPort) * 2 ^ 36 + hsOut k c
      if base ≤ addr ∧ addr + d.length ≤ base + hsOutLen c then
        s.setCmd e { c with output := writeAt c.output (addr - base) d }
      else s

/-- Issue the next piece of a far-move, or stop it before a piece with guard bits (R361, R368). -/
def issuePiece (s : State) (k : Nat) (read : Bool) (b near far total done : Nat) : State :=
  let c := s.core k
  let n := pieceLen (far + done) (total - done)
  if read then
    emit (s.setCore k { c with far := some (.move read b near far total done) }) (.far k (far + done) false [])
  else
    match nearOctets s c (near + done / 4) (n / 4) with
    | some o =>
      emit (s.setCore k { c with far := some (.move read b near far total done) }) (.far k (far + done) true o)
    | none =>
      let s := s.setCore k { c with far := none }
      conclude s k 2 (.handled evGuard true { regs := [(b, BitVec.ofNat 36 done)] })

/-- FLD d, [SEG: a + off10] (R365, R366). -/
def execFld (k : CoreId) (seg : BitVec 3) (d a : BitVec 5) (off : BitVec 10) (s : State) :
    Outcome State Fault Refusal :=
  answer (
    let c := s.core k.toNat
    match farAddr c seg.toNat (c.reg a.toNat + off.signExtend 36) with
    | none => runInsn s k.toNat 2 (fun _ => .terminal evIllegal)
    | some x =>
      if x % 4 ≠ 0 then runInsn s k.toNat 2 (fun _ => .handled evAlign false {})
      else
        let t := runInsn s k.toNat 2 (fun _ => .did { far := some (.load d.toNat x) })
        if c.ready && c.spans then emit t (.far k.toNat x false []) else t)

/-- FST s, [SEG: a + off10] (R365, R366); guard bits are GUARD_NONZERO (R361). -/
def execFst (k : CoreId) (seg : BitVec 3) (v a : BitVec 5) (off : BitVec 10) (s : State) :
    Outcome State Fault Refusal :=
  answer (
    let c := s.core k.toNat
    match farAddr c seg.toNat (c.reg a.toNat + off.signExtend 36) with
    | none => runInsn s k.toNat 2 (fun _ => .terminal evIllegal)
    | some x =>
      if x % 4 ≠ 0 then runInsn s k.toNat 2 (fun _ => .handled evAlign false {})
      else if guardBits (c.reg v.toNat) ≠ 0 then runInsn s k.toNat 2 (fun _ => .handled evGuard false {})
      else
        let w := low32 (c.reg v.toNat)
        let t := runInsn s k.toNat 2 (fun _ => .did { far := some (.store x w) })
        if c.ready && c.spans then emit t (.far k.toNat x true (le 4 w.toNat)) else t)

/-- Start a far-move: its checks, then its first piece (R367, R368). -/
def startMove (s : State) (k : Nat) (read : Bool) (seg d a b : Nat) : State :=
  let c := s.core k
  if !c.ready then s
  else if !c.spans then conclude s k 2 (.terminal evExecBound)
  else
    match farAddr c seg (c.reg a) with
    | none => conclude s k 2 (.terminal evIllegal)
    | some x =>
      let n := (c.reg b).toNat
      if x % 4 ≠ 0 ∨ n % 4 ≠ 0 ∨ n < 4 ∨ n > 65536 then conclude s k 2 (.handled evAlign false {})
      else if !moveRange read (near24 (c.reg d)) (n / 4) then conclude s k 2 (.terminal evNearAccess)
      else
        let s := s.setCore k { c with cycles := c.cycles + 1 }
        issuePiece s k read b (near24 (c.reg d)) x n 0

/-- FMR d, a, b: b octets from FAR to NEAR (R367). -/
def execFmr (k : CoreId) (seg : BitVec 3) (d a b : BitVec 5) (s : State) : Outcome State Fault Refusal :=
  answer (startMove s k.toNat true seg.toNat d.toNat a.toNat b.toNat)

/-- FMW d, a, b: b octets from NEAR to FAR (R367). -/
def execFmw (k : CoreId) (seg : BitVec 3) (d a b : BitVec 5) (s : State) : Outcome State Fault Refusal :=
  answer (startMove s k.toNat false seg.toNat d.toNat a.toNat b.toNat)

/-- The octets an accepted read returns: working memory holds its own; another unit's answer
brings them. -/
def farData (s : State) (addr n : Nat) (o : Octets) : Octets :=
  if inWorkMem addr then wmemRead s addr n else fit n o

/-- FAR address of the piece that an access waits for. -/
def FarOp.addr : FarOp → Nat
  | .load _ a => a
  | .store a _ => a
  | .move _ _ _ far _ done => far + done

/-- A request of core k has been answered at its gate (R422). -/
def answered (s : State) (k addr : Nat) : State :=
  match gateOf s addr with
  | some g => countDown s g (coreMaster k) (epochTag s (coreMaster k))
  | none => s

/-- FAR_ANSWER: an access or a piece is answered; the core resumes, the next piece is issued, or the
refusal raises FAR_FAULT with st.FF (R366, R368, R369). -/
def execFarAnswer (k : CoreId) (r : FarReply) (s : State) : Outcome State Fault Refusal :=
  answer (
    let k := k.toNat
    let c := s.core k
    let s := match c.far with
      | some op => answered s k op.addr
      | none => s
    let back := s.setCore k { c with far := none }
    match c.cmd, c.far with
    | some _, some (.load d x) =>
      (match r with
       | .ok o => conclude back k 2 (.did { regs := [(d, BitVec.ofNat 36 (leNat (farData s x 4 o)))], clocks := 0 })
       | .refused ff => conclude back k 2 (.handled evFarFault true { st := some (withFF c.st ff.toNat), clocks := 0 }))
    | some _, some (.store x v) =>
      (match r with
       | .ok _ => conclude (farWrite back k x (le 4 v.toNat)) k 2 (.did { clocks := 0 })
       | .refused ff => conclude back k 2 (.handled evFarFault true { st := some (withFF c.st ff.toNat), clocks := 0 }))
    | some _, some (.move read b near far total done) =>
      let n := pieceLen (far + done) (total - done)
      (match r with
       | .refused ff =>
         conclude back k 2 (.handled evFarFault true
           { st := some (withFF c.st ff.toNat), regs := [(b, BitVec.ofNat 36 done)], clocks := 0 })
       | .ok o =>
         let t :=
           if read then
             back.setCore k (landOctets (back.core k) (near + done / 4) (farData s (far + done) n o) (n / 4))
           else
             farWrite back k (far + done) ((nearOctets s c (near + done / 4) (n / 4)).getD [])
         if done + n ≥ total then conclude t k 2 (.did { regs := [(b, BitVec.ofNat 36 total)], clocks := 0 })
         else issuePiece t k read b near far total (done + n))
    | _, _ => s)

end Sys2Proof.Machine
end

