-- ==== Sys2Proof/Machine/Reset.lean ====
section
/-! DEFINITION. Loss of power, warm reset, a stopped boot and module faults: what each leaves of the module
(R54, R60, R63, R325, R486, R568, R582). -/

namespace Sys2Proof.Machine

open Host

/-- Disarm or arm the monitors that run only with main power: 5 and 13 to 17 (R521). -/
def armMain (s : State) (on : Bool) : State :=
  [5, 13, 14, 15, 16, 17].foldl (fun s n => s.setMonitor n { s.monitor n with armed := on, tripped := false }) s

/-- A module without main power: the warden is all that keeps its contents (R54, R325, R568, R582). -/
def unpowered (s : State) : State :=
  { pending := s.pending, free := s.free, outbox := s.outbox, warden := s.warden,
    boot := { mode := .battery }, clocks := { pd := 1, holdoff := true, xstart := s.clocks.xstart } }

/-- What a warm reset leaves: the warden, LOCAL and OFFSET with the stamps of every source, the journal
ring, the management port's address, the retirement and fault records, the power domains that only a loss of
power or POWER_PLAN switches off, and the values that hold since power-good or cold boot (R63, R456, R565, R595,
R597, R599, R477).  The module is in reset until RESET_RELEASE. -/
def afterReset (s : State) : State :=
  { pending := s.pending, free := s.free, outbox := s.outbox, pwrGood := s.pwrGood, warden := s.warden,
    tb := { timeLocal := s.tb.timeLocal, offset := s.tb.offset, tm := s.tb.tm, sources := s.tb.sources },
    journal := { ring := s.journal.ring, next := s.journal.next, seg := s.journal.seg, chain := s.journal.chain },
    mgmt := { s.mgmt with boundary := [] },
    clocks := { foscTrimmed := s.clocks.foscTrimmed, xstart := s.clocks.xstart, qualTries := s.clocks.qualTries,
                pd := s.clocks.pd &&& ~~~(0x2000000), gates := s.clocks.gates &&& ~~~(0x8000000),
                mons := s.clocks.mons.map (fun x => (x.1, { x.2 with masked := true })) },
    boot := { warm := true, inReset := true },
    alarms := { monitors := s.alarms.monitors, vbatMv := s.alarms.vbatMv, tjDc := s.alarms.tjDc,
                twDc := s.alarms.twDc, meshDev := s.alarms.meshDev, mesh := s.alarms.mesh,
                vbatLow := s.alarms.vbatLow, vbatLogged := s.alarms.vbatLogged },
    portA := { perst := s.portA.perst }, portB := { perst := s.portB.perst },
    pair := { lanesOut := s.pair.lanesOut, laneErrors := s.pair.laneErrors, laneLosses := s.pair.laneLosses,
              peerIn := s.pair.peerIn, lastTake := s.pair.lastTake, drillFrom := s.pair.drillFrom },
    units := { mismatches := s.units.mismatches, spareFails := s.units.spareFails,
               channelErrors := s.units.channelErrors } }

/-- A warm reset (R63): CROWN_OUT drops, the mode becomes BOOT, and the main die starts again.  Commands in
flight receive no completion. -/
def warmReset (s : State) (trigger : Code) : State :=
  afterReset (setMode (leavePair s) .boot trigger)

/-- Boot stops: BOOT_FAIL holds the status of the step that failed, and the module enters LOCKED (R60). -/
def bootStop (s : State) (st : Code) : State :=
  let s := eraseWorking { s with boot := { s.boot with fail := st } }
  setMode s .locked (Config.modeTrigger 3)

/-- A module fault (R486): the Crown is dropped, nothing more completes, and a warm reset follows. -/
def moduleFault (s : State) : State :=
  match s.boot.mode with
  | .battery | .locked | .erased | .boot => s
  | _ => warmReset s (Config.modeTrigger 2)

/-- MODULE_FAULT (R486). -/
def execModuleFault (s : State) : Outcome State Fault Refusal := answer (moduleFault s)

end Sys2Proof.Machine
end

