-- ==== Sys2Proof/Machine/Place.lean ====
section
/-! DEFINITION. Pigeonholes by function and slot, levels, and placement on the ready lists (R92,
R111 to R122). -/

namespace Sys2Proof.Machine

open Host

/-- Slot of a function: 512 and 513 are the PF0s (R67, R112). -/
def slotOfFn (fn : Fn) : Nat :=
  if fn.vf = 0 then 512 + (if fn.portB then 1 else 0)
  else 256 * (if fn.portB then 1 else 0) + fn.vf.toNat - 1

/-- Can the host reach the function? A virtual function needs VF Enable (R67, R74). -/
def fnReachable (s : State) (fn : Fn) : Bool :=
  let p := s.port fn.portB
  p.linkUp && (fn.vf == 0 || (p.vfEnable && decide (fn.vf.toNat ≤ p.numVfs.toNat)))

/-- Global number of pigeonhole i of a function, if it has one (R76, R111). -/
def globalPh (s : State) (fn : Fn) (i : Nat) : Option Nat :=
  if fn.vf = 0 then (if i < 32 then some (32 * (if fn.portB then 1 else 0) + i) else none)
  else
    match lookup s.slots.table (slotOfFn fn) with
    | some x => if i < x.f.phCount then some (x.f.phBase + i) else none
    | none => none

/-- Function of a slot. -/
def fnOfSlot (slot : Nat) : Fn :=
  if slot ≥ 512 then { portB := slot == 513, vf := 0 }
  else { portB := decide (slot ≥ 256), vf := BitVec.ofNat 9 (slot % 256 + 1) }

/-- Slot and index within it of a global pigeonhole number (R111). -/
def phOwner (s : State) (n : Nat) : Option (Nat × Nat) :=
  if n < 64 then some (512 + n / 32, n % 32)
  else
    (s.slots.table.find? (fun x => decide (x.2.f.phBase ≤ n ∧ n < x.2.f.phBase + x.2.f.phCount))).map
      (fun x => (x.1, n - x.2.f.phBase))

/-- Weight and MAX_PRIO of a slot (R112, R437). -/
def slotWeight (s : State) (slot : Nat) : Nat :=
  if slot ≥ 512 then 64 else ((lookup s.slots.table slot).map (·.f.weight)).getD 1
def slotMaxPrio (s : State) (slot : Nat) : Nat :=
  if slot ≥ 512 then 0 else ((lookup s.slots.table slot).map (·.f.maxPrio)).getD 7

/-- Are the values of OPEN in force? (R101) -/
def Ph.inForce (p : Ph) : Bool :=
  match p.state with
  | .opened => true
  | .closing => true
  | .quiesced => p.resume == .opened || p.version != 0
  | _ => false

/-- Level of a pigeonhole for fetching: DEFAULT_PRIO in force, else MAX_PRIO (R117). -/
def fetchLevel (s : State) (p : Ph) (slot : Nat) : Nat :=
  if p.inForce then p.defaultPrio.toNat else slotMaxPrio s slot

/-- Level of a command (R92, R122). -/
def cmdLevel (s : State) (c : Cmd) : Nat :=
  let f := c.d.flags.toNat / 4 % 8
  max (if f = 0 then fetchLevel s (s.ph c.ph) c.slot else f) (slotMaxPrio s c.slot)

/-- Public-key class (chapter 04, placement). -/
def isPubKey (op : Code) : Bool := op.toNat / 256 == 0x08 || op.toNat / 256 == 0x0A

/-- The logical clusters in service, by role (R36, R137). -/
def clustersOf (s : State) (pub : Bool) : List Nat :=
  (List.range 8).filter (fun k => !s.so.clusterOut.getLsbD k && s.boot.pubKey.getLsbD k == pub)

/-- AFFINITY of a slot (R118). -/
def affinity (s : State) (slot : Nat) (k : Nat) : Bool := (tget 0xFF s.so.sched.affinity slot).getLsbD k

/-- First element of a list with the least value. -/
def argMin (f : Nat → Nat) : List Nat → Option Nat
  | [] => none
  | x :: t => match argMin f t with
    | none => some x
    | some y => if f x ≤ f y then some x else some y

/-- Entries of ready list k: places held (R115). -/
def readyCount (s : State) (k : Nat) : Nat := (s.so.cmds.filter (fun x => x.2.list == some k)).length

/-- OPEN pigeonholes homed on cluster k (R118). -/
def homedCount (s : State) (k : Nat) : Nat :=
  (s.so.phs.filter (fun x => x.2.home == some k && x.2.inForce)).length

/-- The home cluster that R118 chooses for a slot. -/
def homeFor (s : State) (slot : Nat) : Option Nat :=
  match argMin (homedCount s) ((clustersOf s false).filter (affinity s slot)) with
  | some k => some k
  | none => argMin (homedCount s) (clustersOf s false)

/-- The ready list that R119 chooses for a command. -/
def targetList (s : State) (c : Cmd) : Option Nat :=
  let home := match (s.ph c.ph).home with | some k => some k | none => homeFor s c.slot
  let below (k : Nat) : Bool := decide (readyCount s k < s.so.sched.spillDepth)
  let general : Option Nat :=
    match home with
    | some h =>
      if below h then some h
      else
        match argMin (readyCount s) ((clustersOf s false).filter (fun k => affinity s c.slot k && below k)) with
        | some k => some k
        | none =>
          match argMin (readyCount s) ((clustersOf s true).filter (fun k => affinity s c.slot k && below k)) with
          | some k => some k
          | none => some h
    | none => argMin (readyCount s) (clustersOf s true)
  if isPubKey c.d.opcode then
    match argMin (readyCount s) (clustersOf s true) with
    | some k => some k
    | none => home
  else general

/-- An earlier command of the pigeonhole is still in the module (R103, R104, R105). -/
def earlierOn (s : State) (c : Cmd) : Bool :=
  s.so.cmds.any (fun x => x.2.ph == c.ph && decide (x.2.fetchNo < c.fetchNo))

/-- The scratch area of an entry reads zero (R392). -/
def clearScratch (s : State) (e : Nat) : State :=
  let a := scratchAddr e
  { s with wmem := s.wmem.filter (fun x => decide (x.1 < a ∨ a + 512 ≤ x.1)) }

/-- Place a command, or leave it pending: its list is full (R120), or its SERIAL pigeonhole has an
earlier command (R121). -/
def place (s : State) (e : Nat) (c : Cmd) : State :=
  let c := { c with level := cmdLevel s c }
  let waits := (s.ph c.ph).serial && earlierOn s c
  match targetList s c with
  | some k =>
    if waits || decide (readyCount s k ≥ 1024) then s.setCmd e { c with stage := .pending, list := none }
    else
      let s := if c.turn = 0 then clearScratch s e else s
      let s := { s with so := { s.so with nextOrder := s.so.nextOrder + 1 } }
      s.setCmd e { c with stage := .ready, list := some k, order := s.so.nextOrder, eligible := c.landed }
  | none => s.setCmd e { c with stage := .pending, list := none }

/-- Could the pending command be placed now? -/
def placeable (s : State) (c : Cmd) : Bool :=
  c.stage == .pending && !((s.ph c.ph).serial && earlierOn s c) &&
    (match targetList s c with | some k => decide (readyCount s k < 1024) | none => false)

/-- Of the pending commands that can be placed, the first by level, then arrival Postmark (R120). -/
def nextPending (s : State) : Option (Nat × Cmd) :=
  (s.so.cmds.filter (fun x => placeable s x.2)).foldl (fun best x =>
    match best with
    | none => some x
    | some b =>
      if cmdLevel s x.2 < cmdLevel s b.2 ∨
         (cmdLevel s x.2 = cmdLevel s b.2 ∧ x.2.arrival.time.toNat < b.2.arrival.time.toNat)
      then some x else best) none

/-! ### Deficit round robin (R117, R124) -/

/-- Keep the rotation to the slots that have work, and put new ones at its end; a slot without
work leaves, its deficit set to zero (R124). -/
def drrRefresh (rot : List DrrEntry) (active : List Nat) : List DrrEntry :=
  rot.filter (fun r => active.contains r.slot) ++
    ((active.filter (fun n => !(rot.any (fun r => r.slot == n)))).map (fun n => ⟨n, 0, false⟩))

/-- One visit at the pointer: the quantum is added once; the slot dispatches while its deficit is at
least the cost; else the pointer moves on.  Fuel bounds the visits. -/
def drrPick (quantum cost : Nat → Nat) : Nat → List DrrEntry → Option (Nat × List DrrEntry)
  | 0, _ => none
  | _ + 1, [] => none
  | f + 1, r :: t =>
    let d := if r.visited then r.deficit else r.deficit + quantum r.slot
    if d ≥ cost r.slot then some (r.slot, { r with deficit := d - cost r.slot, visited := true } :: t)
    else drrPick quantum cost f (t ++ [{ r with deficit := d, visited := false }])

/-- Visits that always suffice: the largest cost over the least quantum, for every slot. -/
def drrFuel (quantum cost : Nat → Nat) (slots : List Nat) : Nat :=
  (slots.foldl (fun m n => max m (ceilDiv (cost n) (max 1 (quantum n)))) 0 + 2) * (slots.length + 1)

/-- The page numbers within the span that a write of n octets touches, and whether one lies outside (R446). -/
def spanPages (x : Slot) (addr : BitVec 64) (n : Nat) : List Nat × Bool :=
  let lo := addr.toNat / 4096
  let hi := (addr.toNat + n - 1) / 4096
  let base := x.dirtyBase.toNat / 4096
  let pages := (List.range (hi - lo + 1)).map (· + lo)
  let inside := (pages.filter (fun q => decide (base ≤ q ∧ q < base + x.dirtyPages))).map (· - base)
  (inside, decide (inside.length < pages.length))

/-- The u64 of a bitmap that holds page j, with the bits that the module has set in it (R446). -/
def bitmapWord (bits : List Nat) (j : Nat) : Nat :=
  (bits.filter (fun q => q / 64 == j / 64)).foldl (fun w q => w + 2 ^ (q % 64)) 0

/-- Note the 4 KiB host pages written for a slot whose dirty log is enabled: the bit is set in the active
bitmap; a page outside the span sets DIRTY_OVF (R446). -/
def noteDirty (s : State) (slot : Nat) (addr : BitVec 64) (n : Nat) : State :=
  match lookup s.slots.table slot with
  | none => s
  | some x =>
    if !x.dirtyEn || n = 0 then s
    else
      let (inside, out) := spanPages x addr n
      let fresh := inside.filter (fun q => !(x.dirtyBits.contains q))
      let x := { x with dirtyBits := x.dirtyBits ++ fresh, dirtyOvf := x.dirtyOvf || out }
      let map := if x.dirtySel then x.bitmapB else x.bitmapA
      fresh.foldl (fun s j =>
        emit s (.hostWrite (decide (slot ≥ 256)) (map + BitVec.ofNat 64 (8 * (j / 64))) (le 8 (bitmapWord x.dirtyBits j))))
        (s.setSlot slot x)

/-- Distinct numbers of a list, in order of first appearance. -/
def distinct : List Nat → List Nat
  | [] => []
  | x :: t => x :: (distinct t).filter (· ≠ x)

end Sys2Proof.Machine
end

