-- ==== Sys2Proof/Machine/Ports.lean ====
section
/-! DEFINITION. Port reset, links, function resets and SR-IOV (R66 to R75, R445). -/

namespace Sys2Proof.Machine

open Host

/-- Pigeonholes of a slot, by global number. -/
def slotPhs (s : State) (slot : Nat) : List Nat :=
  if slot ≥ 512 then (List.range 32).map (fun i => 32 * (slot - 512) + i)
  else match lookup s.slots.table slot with
    | some x => (List.range x.f.phCount).map (fun i => x.f.phBase + i)
    | none => []

/-- Slots of a port that are allocated. -/
def portSlots (s : State) (b : Bool) : List Nat :=
  (s.slots.table.map (·.1)).filter (fun n => decide (n ≥ 256) == b)

/-- A pigeonhole as a port or function reset leaves it: DISABLED, its registers at reset (R73). -/
def resetPh (s : State) (n : Nat) : State := s.setPh n {}

/-- Take a core's pre-selection of an entry away. -/
def unselect (s : State) (e : Nat) : State :=
  coreNums.foldl (fun s k =>
    if (s.core k).pre == some e then dropPre s k else s) s

/-- Does the command count as dispatched for R138 and R140: running, handed off, or deferred by its
own program? -/
def countsDispatched (c : Cmd) : Bool :=
  match c.stage with
  | .running _ => true
  | .commitWait => true
  | .done => true
  | .delayed 2 _ => true
  | .ready => c.deferred
  | .preselected _ => c.deferred
  | _ => false

/-- Discard the commands of these slots as R73 gives: undispatched ones leave without running, and
the writes of the others are discarded. -/
def discardCmds (s : State) (slots : List Nat) : State :=
  let gone := s.so.cmds.filter (fun x => slots.contains x.2.slot && !x.2.dispatched)
  let s := gone.foldl (fun s x => unselect s x.1) s
  let done := s.so.cmds.filter (fun x => slots.contains x.2.slot && x.2.dispatched && x.2.stage == .done)
  { s with so := { s.so with
      cmds := ((s.so.cmds.filter (fun x => !(gone.any (·.1 == x.1)) && !(done.any (·.1 == x.1)))).map
        (fun x => if slots.contains x.2.slot then (x.1, { x.2 with discarded := true }) else x)) } }

/-- MSI-X vectors of the functions of a port return to reset. -/
def resetMsix (s : State) (keep : Nat → Bool) : State :=
  { s with msix := s.msix.filter (fun x => keep (x.1 / 64)) }

/-- Reset of one port (R73): fetching stops, pigeonholes return to DISABLED, undispatched commands
are discarded, configuration space and selectors return to reset, VF Enable is cleared.  The port
registers survive (03, port registers). -/
def portReset (s : State) (b : Bool) : State :=
  let slots := (512 + (if b then 1 else 0)) :: portSlots s b
  let s := discardCmds s slots
  let s := (slots.flatMap (slotPhs s)).foldl resetPh s
  let s := resetMsix s (fun f => decide (f ≥ 257) != b)
  let p := s.port b
  s.setPort b { p with vfEnable := false, numVfs := 0, priEnable := false, d3hot := false,
                       phSel := 0, snapDepth := 0, snapMax := 0, slotSel := 0, snapFetched := {},
                       snapCompleted := {}, snapCancelled := {}, coreSel := 0, histCluster := 0,
                       histLevel := 0, snapHist := [], slotTabSel := 0, snapSlot := [] }

/-- PERST_ASSERT: PERST_N of a port is asserted (R73). -/
def execPerstAssert (portB : Bool) (s : State) : Outcome State Fault Refusal :=
  answer (
    let s := portReset s portB
    let p := s.port portB
    s.setPort portB { p with perst := true, linkDown := p.linkDown || p.linkUp, linkUp := false })

/-- PORT_LINK_DOWN: the link goes down and the port is reset (R73). -/
def execPortLinkDown (portB : Bool) (s : State) : Outcome State Fault Refusal :=
  answer (
    if !(s.port portB).linkUp then s
    else
      let s := portReset s portB
      s.setPort portB { s.port portB with linkUp := false, linkDown := true })

/-- PERST_RELEASE: PERST_N is released and training begins (R579); LINK_TRAINED reports its end. -/
def execPerstRelease (portB : Bool) (s : State) : Outcome State Fault Refusal :=
  answer (s.setPort portB { s.port portB with perst := false })

/-- Degraded rate or width (R68, PORT_STATUS.DEGRADED). -/
def Port.degraded (p : Port) : Bool := decide (p.rate.toNat < 6) || decide (p.width.toNat < 16)

/-- LINK_TRAINED: the link operates at the trained rate and width (R66, R68); a degraded link sets
its events and logs an N-class notice.  A held PERST_N, no boot ROM yet, or a domain that is off
keep the link from training (R59 step 5, R579). -/
def execLinkTrained (portB : Bool) (rate : BitVec 3) (width : BitVec 5) (s : State) :
    Outcome State Fault Refusal :=
  answer (
    let p := s.port portB
    if p.perst || !(s.boot.pdEn.getLsbD (if portB then 7 else 6)) || decide (s.boot.step < 5) then s
    else
      let q := { p with linkUp := true, rate := rate, width := width,
                        rateChange := p.rateChange || (p.rate != rate && (p.linkUp || decide (rate.toNat < 6))),
                        widthChange := p.widthChange || (p.width != width && (p.linkUp || decide (width.toNat < 16))) }
      let s := s.setPort portB q
      if q.degraded then notice s 0x0404 (if portB then 1 else 0) 0 false else s)

/-- VF_ENABLE: SR-IOV VF Enable and NumVFs are written; NumVFs above TotalVFs leaves the write
without effect (R67; log entry 14). -/
def execVfEnable (portB : Bool) (enable : Bool) (numVfs : BitVec 16) (s : State) :
    Outcome State Fault Refusal :=
  answer (
    let total := if portB then s.boot.slotsB else s.boot.slotsA
    if s.boot.mode = .diagnostic || !(s.port portB).linkUp || numVfs.toNat > total then s
    else s.setPort portB { s.port portB with vfEnable := enable, numVfs := numVfs })

/-- FLR_VF: the slot's pigeonholes and registers reset; its state, keys, counters and replay records
stay (R75, R445). -/
def execFlrVf (fn : Fn) (s : State) : Outcome State Fault Refusal :=
  answer (
    if fn.vf = 0 || !fnReachable s fn then s
    else
      let slot := slotOfFn fn
      let s := discardCmds s [slot]
      let s := (slotPhs s slot).foldl resetPh s
      resetMsix s (fun f => f != msixKey fn 0 / 64))

/-- FLR_PF0: the port's PF0 pigeonholes act as on a port reset; mode, image and slots stay (R75). -/
def execFlrPf0 (portB : Bool) (s : State) : Outcome State Fault Refusal :=
  answer (
    if !(s.port portB).linkUp then s
    else
      let slot := 512 + (if portB then 1 else 0)
      let s := discardCmds s [slot]
      let s := (slotPhs s slot).foldl resetPh s
      resetMsix s (fun f => f != msixKey ⟨portB, 0⟩ 0 / 64))

/-- MSIX_UNMASK: a vector whose pending bit is set sends its message (R99). -/
def execMsixUnmask (fn : Fn) (vector : BitVec 6) (s : State) : Outcome State Fault Refusal :=
  answer (
    let n := msixKey fn vector.toNat
    let m := tget {} s.msix n
    if fn.vf = 0 && decide (vector.toNat ≥ 40) then s
    else
      let s := { s with msix := tset {} s.msix n { m with masked := false, pending := false } }
      if m.pending then emit s (.msix fn vector.toNat) else s)

end Sys2Proof.Machine
end

