-- ==== Sys2Proof/Machine/Select.lean ====
section
/-! DEFINITION. Choosing and pre-selecting commands for the cores: strict levels, deficit round robin,
pre-selection, displacement and take-over (R123 to R129). -/

namespace Sys2Proof.Machine

open Host

/-- COST of an opcode's group (R124, 04 SCHED_TABLES). -/
def costOf (s : State) (op : Code) : Nat :=
  let g := op.toNat / 256
  s.so.sched.cost.getD (if g ≥ 0x80 then 16 else g) 64

/-- Eligible entries of ready list cl that no core holds. -/
def eligibleOn (s : State) (cl : Nat) : List (Nat × Cmd) :=
  s.so.cmds.filter (fun x => x.2.list == some cl && x.2.stage == .ready && x.2.eligible)

/-- The entry placed first among some. -/
def firstPlaced : List (Nat × Cmd) → Option (Nat × Cmd)
  | [] => none
  | x :: t => match firstPlaced t with
    | none => some x
    | some y => if x.2.order ≤ y.2.order then some x else some y

/-- Rotation of list cl at a level, brought up to the slots that have an eligible entry there (R124). -/
def refreshDrr (s : State) (cl level : Nat) : State :=
  let slots := distinct ((eligibleOn s cl).filter (fun x => x.2.level == level) |>.map (·.2.slot))
  let key := 8 * cl + level
  { s with so := { s.so with drr := tset [] s.so.drr key (drrRefresh (tget [] s.so.drr key) slots) } }

/-- What list cl would dispatch next: the highest eligible level, deficit round robin among its slots, the
slot's oldest entry; with the rotation after it (R123, R124, R125). -/
def choose (s : State) (cl : Nat) : Option (Nat × Cmd × State) :=
  let l := eligibleOn s cl
  match argMin id (l.map (·.2.level)) with
  | none => none
  | some lv =>
    let at_ := l.filter (fun x => x.2.level == lv)
    let slots := distinct (at_.map (·.2.slot))
    let key := 8 * cl + lv
    let oldest := fun slot => firstPlaced (at_.filter (fun x => x.2.slot == slot))
    let cost := fun slot => ((oldest slot).map (fun x => costOf s x.2.d.opcode)).getD 1
    let quantum := fun slot => slotWeight s slot * s.so.sched.quantum
    match drrPick quantum cost (drrFuel quantum cost slots) (drrRefresh (tget [] s.so.drr key) slots) with
    | none => none
    | some (slot, rot) =>
      (oldest slot).map (fun x => (x.1, x.2, { s with so := { s.so with drr := tset [] s.so.drr key rot } }))

/-- Give a command the place of pre-selected command of core k and ready the gates for it (R126, R420). -/
def preselect (s : State) (k e : Nat) (c : Cmd) : State :=
  let s := s.setCmd e { c with stage := .preselected k }
  let s := s.setCore k { s.core k with pre := some e }
  beginReady (match c.list with | some cl => refreshDrr s cl c.level | none => s) k

/-- Core k pre-selects the next command of its cluster, if any is eligible (R126). -/
def preselectNext (s : State) (k : Nat) : State :=
  match choose s (k / 8) with
  | some (e, c, t) => preselect t k e c
  | none => s

/-- The charge of a command's dispatch is given back to its slot (R127, R136). -/
def giveBack (s : State) (c : Cmd) : State :=
  match c.list with
  | none => s
  | some cl =>
    let key := 8 * cl + c.level
    let rot := (tget [] s.so.drr key).map (fun r =>
      if r.slot = c.slot then { r with deficit := r.deficit + costOf s c.d.opcode } else r)
    { s with so := { s.so with drr := tset [] s.so.drr key rot } }

/-- Return a command to the head of its slot's queue at its level (R127, R136). -/
def toHead (s : State) (e : Nat) (c : Cmd) : State :=
  let s := s.mapCmds (fun _ x => { x with order := x.order + 1 })
  let s := { s with so := { s.so with nextOrder := s.so.nextOrder + 1 } }
  giveBack (s.setCmd e { c with stage := .ready, eligible := c.landed, order := 0 }) c

/-- The cores of a cluster. -/
def clusterCores (cl : Nat) : List Nat := (List.range 8).map (fun c => 8 * cl + c)

/-- The pre-selections of a cluster: core and level. -/
def preLevels (s : State) (cl : Nat) : List (Nat × Nat) :=
  (clusterCores cl).filterMap (fun k => match (s.core k).pre with
    | some e => (s.cmd e).map (fun c => (k, c.level))
    | none => none)

/-- The pre-selection of the lowest priority, at the highest-numbered core among equals (R127). -/
def lowestPre : List (Nat × Nat) → Option (Nat × Nat)
  | [] => none
  | x :: t => match lowestPre t with
    | none => some x
    | some y => if x.2 > y.2 ∨ (x.2 = y.2 ∧ x.1 > y.1) then some x else some y

/-- The pre-selection of the highest priority, at the lowest-numbered core among equals (R129). -/
def highestPre : List (Nat × Nat) → Option (Nat × Nat)
  | [] => none
  | x :: t => match highestPre t with
    | none => some x
    | some y => if x.2 < y.2 ∨ (x.2 = y.2 ∧ x.1 < y.1) then some x else some y

/-- Core k gives its pre-selection up, and the command returns to the head of its queue (R127). -/
def displace (s : State) (k : Nat) : State :=
  match (s.core k).pre with
  | none => s
  | some e =>
    let s := dropPre s k
    match s.cmd e with
    | some c => toHead s e c
    | none => s

/-- An entry of list cl at this level has become eligible: a free core takes it at its dispatch, or a busy
core without a pre-selection pre-selects it, or it displaces a lower one (R126, R127). -/
def noteEligible (s : State) (cl level : Nat) : State :=
  let s := refreshDrr s cl level
  let cores := clusterCores cl
  if cores.any (fun k => (s.core k).free && (s.core k).pre.isNone) then s
  else
    match cores.find? (fun k => (s.core k).cmd.isSome && (s.core k).pre.isNone) with
    | some k => preselectNext s k
    | none =>
      match lowestPre (preLevels s cl) with
      | some (k, lv) => if level < lv then preselectNext (displace s k) k else s
      | none => s

/-- `noteEligible` for a command-table entry. -/
def noteEntry (s : State) (e : Nat) : State :=
  match s.cmd e with
  | some c =>
    if c.stage == .ready && c.eligible then
      (match c.list with | some cl => noteEligible s cl c.level | none => s)
    else s
  | none => s

/-- PENDING_PLACEMENT: as a place frees, the first pending command is placed (R120). -/
def execPendingPlacement (s : State) : Outcome State Fault Refusal :=
  answer (match nextPending s with
    | some (e, c) => noteEntry (place s e c) e
    | none => s)

end Sys2Proof.Machine
end

