-- ==== Sys2Proof/Machine/Rings.lean ====
section
/-! DEFINITION. Rings: enabling a pigeonhole, doorbells, fetch credits, completion writes, MSI-X
coalescing, host access faults (R71, R72, R78 to R88, R96 to R99, R113, R117). -/

namespace Sys2Proof.Machine

open Host

/-- Act on a pigeonhole register of a function that the host can reach (R76). -/
def onPh (s : State) (fn : Fn) (i : Nat) (f : Nat → Ph → State) : State :=
  if !fnReachable s fn then s
  else match globalPh s fn i with
    | some n => f n (s.ph n)
    | none => s

/-- State of the slot of a function; ACTIVE for PF0. -/
def slotStateOf (s : State) (slot : Nat) : SlotState := ((lookup s.slots.table slot).map (·.state)).getD .active

/-- ENABLE written 1 with DEPTH_LOG2 and VECTOR of the same write (R78): the configuration is
checked, and the pigeonhole enters READY or ERROR.  During a drain, and while ENABLE is 1, nothing
happens (R79).  In a quiescing or quiesced slot a pigeonhole whose checks pass enters QUIESCED
(R443); in a slot that is DESTROYING nothing happens (R444). -/
def execEnable (fn : Fn) (ph : BitVec 6) (depthLog2 : BitVec 5) (vector : BitVec 6) (s : State) :
    Outcome State Fault Refusal :=
  answer (onPh s fn ph.toNat (fun n p =>
    let st := slotStateOf s (slotOfFn fn)
    if p.enable || p.draining || st == .destroying then s
    else
      let p := { p with enable := true, depthLog2 := depthLog2, vector := vector }
      if depthLog2.toNat < 6 ∨ depthLog2.toNat > 16 ∨ p.sqBase.toNat % 4096 ≠ 0 ∨ p.cqBase.toNat % 4096 ≠ 0 ∨
         (fn.vf = 0 ∧ vector.toNat > 31) then
        s.setPh n (p.fail badField)
      else
        s.setPh n { p with sqHead := 0, sqTail := 0, cqHead := 0, cqTail := 0, phase := true,
                           state := if st = .active then .ready else .quiesced, resume := .ready,
                           recTail := none, recHead := none, error := 0, credits := 0 }))

/-- ENABLE_OFF: ENABLE written 0; fetching stops and the drain begins (R79). -/
def execEnableOff (fn : Fn) (ph : BitVec 6) (s : State) : Outcome State Fault Refusal :=
  answer (onPh s fn ph.toNat (fun n p =>
    if !p.enable || p.draining || slotStateOf s (slotOfFn fn) == .destroying then s
    else s.setPh n { p with enable := false, draining := true, credits := 0 }))

/-- RING_DRAIN_END: the last completion of a draining pigeonhole is written and it enters DISABLED
(R79). -/
def execRingDrainEnd (ph : BitVec 12) (s : State) : Outcome State Fault Refusal :=
  answer (
    let p := s.ph ph.toNat
    if p.draining && !(s.so.cmds.any (fun x => x.2.ph == ph.toNat)) then
      s.setPh ph.toNat { p.unforce with state := .disabled, draining := false, error := 0, timer := none,
                                        unsignalled := 0 }
    else s)

/-- SQ_TAIL doorbell, by the pigeonhole's state (R608). -/
def execSqTail (fn : Fn) (ph : BitVec 6) (value : BitVec 16) (s : State) : Outcome State Fault Refusal :=
  answer (onPh s fn ph.toNat (fun n p =>
    if p.draining || slotStateOf s (slotOfFn fn) == .destroying then s
    else match p.state with
      | .ready | .opened | .closing => actTail s n p value.toNat
      | .quiesced => s.setPh n { p with recTail := some value.toNat }
      | _ => s))

/-- CQ_HEAD doorbell, by the pigeonhole's state (R608). -/
def execCqHead (fn : Fn) (ph : BitVec 6) (value : BitVec 16) (s : State) : Outcome State Fault Refusal :=
  answer (onPh s fn ph.toNat (fun n p =>
    if p.draining || p.state == .error || slotStateOf s (slotOfFn fn) == .destroying then
      if value.toNat < p.depth then s.setPh n { p with cqHead := value.toNat } else s
    else match p.state with
      | .ready | .opened | .closing => actHead s n p value.toNat
      | .quiesced => s.setPh n { p with recHead := some value.toNat }
      | _ => s))

/-! ### Fetch credits -/

/-- Commands of a pigeonhole between fetch and completion write. -/
def phDepth (s : State) (n : Nat) : Nat := (s.so.cmds.filter (fun x => x.2.ph == n)).length

/-- Entries of the command table that are free, credits in flight counted as taken (R113; log
entry 15). -/
def tableFree (s : State) : Nat :=
  16384 - s.so.cmds.length - (s.so.phs.map (fun x => x.2.credits)).sum

/-- The tail up to which descriptors are fetched: the recorded one during a ROLE_SWAP (R515). -/
def admitted (s : State) (n : Nat) (p : Ph) : Nat := (s.pair.swap.bind (fun w => lookup w.tails n)).getD p.sqTail

/-- May the pigeonhole be granted a credit? (R113, R114) -/
def creditable (s : State) (n : Nat) (p : Ph) (slot : Nat) : Bool :=
  (p.state == .ready || p.state == .opened) && !p.draining && slotStateOf s slot == .active &&
  decide ((admitted s n p + p.depth - p.sqHead) % p.depth > p.credits) &&
  decide (phDepth s n + p.credits < min (min s.so.sched.phInflight (p.depth - 1)) (if p.ordered then 257 else 1000000)) &&
  (if slot ≥ 512 then decide (tableFree s > 0)
   else decide (tableFree s > s.so.sched.pf0Reserve) && !s.boot.tenantStop)

/-- Pigeonholes of a port that may be granted a credit, with slot and level. -/
def creditList (s : State) (b : Bool) : List (Nat × Nat × Nat) :=
  s.so.phs.filterMap (fun x =>
    match phOwner s x.1 with
    | some (slot, _) =>
      if (slotOfPort slot == b) && creditable s x.1 x.2 slot then some (x.1, slot, fetchLevel s x.2 slot) else none
    | none => none)
where
  /-- Is the slot on port B? -/
  slotOfPort (slot : Nat) : Bool := if slot ≥ 512 then slot == 513 else decide (slot ≥ 256)

/-- FETCH_CREDIT: a pigeonhole of the port is granted a credit and its descriptor is requested:
strict by level, deficit round robin among slots with cost one, rotation within a slot (R83, R113,
R117). -/
def execFetchCredit (portB : Bool) (s : State) : Outcome State Fault Refusal :=
  answer (
    let l := creditList s portB
    match argMin id (l.map (fun x => x.2.2)) with
    | none => s
    | some lv =>
      let at_ := l.filter (fun x => x.2.2 == lv)
      let slots := distinct (at_.map (fun x => x.2.1))
      let key := (if portB then 8 else 0) + lv
      let rot := drrRefresh (tget [] s.so.fetchDrr key) slots
      match drrPick (slotWeight s) (fun _ => 1) (drrFuel (slotWeight s) (fun _ => 1) slots) rot with
      | none => s
      | some (slot, rot) =>
        let phs := (at_.filter (fun x => x.2.1 == slot)).map (·.1)
        let last := tget 0 s.so.lastPh slot
        match (phs.filter (fun n => decide (n ≥ last)) ++ phs).head? with
        | none => s
        | some n =>
          let p := s.ph n
          let s := { s with so := { s.so with fetchDrr := tset [] s.so.fetchDrr key rot,
                                              lastPh := tset 0 s.so.lastPh slot (n + 1) } }
          emit (s.setPh n { p with credits := p.credits + 1 }) (.fetch n ((p.sqHead + p.credits) % p.depth)))

/-! ### Completion -/

/-- A completion entry (R96). -/
def completionOctets (c : Cmd) (phase : Bool) (pm : Postmark) (svc : BitVec 32) : Octets :=
  le 8 c.d.cmdId.toNat ++ le 2 c.status.toNat ++
  [BitVec.ofNat 8 ((if phase then 1 else 0) + (if c.franked then 2 else 0) + (if c.isPartial then 4 else 0)), 0] ++
  le 4 c.outLen ++ pm.octets ++ le 4 svc.toNat

/-- Has the CQ room? (R87) -/
def cqRoom (p : Ph) : Bool := (p.cqTail + 1) % p.depth != p.cqHead

/-- May the completion be written: handed off, in order where order is asked, room in the CQ, and
the module may release it (R86, R87, R103, R105, R115, R504). -/
def writable (s : State) (c : Cmd) : Bool :=
  let p := s.ph c.ph
  c.stage == .done && cqRoom p && !(p.ordered && earlierOn s c) &&
  !(c.closes && earlierOn s c) &&
  !s.pair.holding

/-- Count a written completion and fire the pigeonhole's vector when its count is reached (R98). -/
def countCompletion (s : State) (n : Nat) (fn : Fn) : State :=
  let p := s.ph n
  let p := { p with unsignalled := p.unsignalled + 1 }
  if p.unsignalled ≥ max 1 p.count.toNat then fire s n p fn
  else
    let tick := s.time.toNat / (s.so.sched.tick100ns * 100)
    let p := if p.timer.isNone && p.timeUs ≠ 0 then
        { p with timer := some (tick + ceilDiv (p.timeUs.toNat * 10) s.so.sched.tick100ns + 1) } else p
    s.setPh n p
where
  /-- Send the vector's message and clear the counts of every pigeonhole mapped to it. -/
  fire (s : State) (n : Nat) (p : Ph) (fn : Fn) : State :=
    let s := s.setPh n p
    let own := slotPhs s (slotOfFn fn)
    let s := own.foldl (fun s m =>
      if (s.ph m).vector = p.vector then s.setPh m { s.ph m with unsignalled := 0, timer := none } else s) s
    msixSend s fn p.vector.toNat

/-- Release the pages or places of a finished command and note it in the slot's counters. -/
def retireCmd (s : State) (e : Nat) (c : Cmd) : State :=
  let s := s.delCmd e
  if c.status = cancelledSt then
    { s with so := { s.so with cancelled := tset {} s.so.cancelled c.slot (tget {} s.so.cancelled c.slot).inc } }
  else
    { s with so := { s.so with completed := tset {} s.so.completed c.slot (tget {} s.so.completed c.slot).inc } }

/-- Write a completion: output writes, then the completion entry at CQ_TAIL with the current phase;
the vector's count; CQ_TAIL advances (R21, R22, R23, R86, R96, R98). -/
def writeCompletion (s : State) (e : Nat) : State :=
    match s.cmd e with
    | none => s
    | some c =>
      if c.discarded then (if c.stage == .done then s.delCmd e else s)
      else if !writable s c then s
      else
        let (c, s) := if c.stamped then (c, s) else stampCompletion s c
        let p := s.ph c.ph
        let rest := c.output.drop c.written
        let s := if rest.isEmpty then s
          else emit s (.hostWrite c.fn.portB (c.d.outAddr + BitVec.ofNat 64 c.written) rest)
        let s := dirtyWrite s c.slot c.d.outAddr c.output.length
        let s := emit s (.hostWrite c.fn.portB (p.cqBase + BitVec.ofNat 64 (32 * p.cqTail))
          (completionOctets c p.phase c.completion (serviceTime c)))
        let s := dirtyWrite s c.slot (p.cqBase + BitVec.ofNat 64 (32 * p.cqTail)) 32
        let t := (p.cqTail + 1) % p.depth
        let s := s.setPh c.ph { p with cqTail := t, phase := if t = 0 then !p.phase else p.phase }
        let s := retireCmd s e c
        let s := countCompletion s c.ph c.fn
        afterWrite s c
where
  /-- Note host pages written for a slot whose dirty log is enabled (R446). -/
  dirtyWrite (s : State) (slot : Nat) (addr : BitVec 64) (n : Nat) : State := noteDirty s slot addr n
  /-- What follows some completions: the end of CLOSE (R105), of MODULE_RETIRE, UNLOCK and
  DIAG_EXIT, whose resets and erases are due after the write. -/
  afterWrite (s : State) (c : Cmd) : State :=
    let s := match c.after with
      | .nothing => s
      | .dryFail n =>
        if n = 13 || n = 17 then eventF s 0x030A n 0 0
        else raiseAlarm s { cause := 0x0204, cls := clsL, unit := n }
      | .retire => { s with boot := { s.boot with retireDue := true } }
      | .unlock => { s with boot := { s.boot with unlockDue := true } }
      | .diagExit => warmReset s 0x8015
    let p := s.ph c.ph
    if !c.closes then s
    else if p.state == .closing then s.setPh c.ph { p.unforce with state := .ready }
    else if p.state == .quiesced then s.setPh c.ph p.unforce
    else s

/-- COMPLETION_WRITE (R86, R96). -/
def execCompletionWrite (e : Nat) (s : State) : Outcome State Fault Refusal := answer (writeCompletion s e)

/-- COALESCE_TIMER: a TIME_US timer on delay list 3 expires: the vector's message is sent if
completions are counted (R98, R130). -/
def execCoalesceTimer (ph : BitVec 12) (s : State) : Outcome State Fault Refusal :=
  answer (
    let p := s.ph ph.toNat
    match p.timer, phOwner s ph.toNat with
    | some _, some (slot, _) =>
      if p.unsignalled > 0 then countCompletion.fire s ph.toNat { p with timer := none } (fnOfSlot slot)
      else s.setPh ph.toNat { p with timer := none }
    | _, _ => s)

/-! ### Host access faults -/

/-- Count a fault of the port (HOST_FAULTS). -/
def countHostFault (s : State) (b : Bool) : State :=
  s.setPort b { s.port b with hostFaults := (s.port b).hostFaults.inc }

/-- A command fails with HOST_FAULT: it leaves its list or core, its output length reports the
octets written, nothing commits (R71). -/
def failHost (s : State) (e : Nat) (c : Cmd) (written : Nat) : State :=
  let s := countHostFault s c.fn.portB
  let s := match c.stage with
    | .running k => endTurn s k
    | .preselected k => dropPre s k
    | _ => s
  s.setCmd e { c with stage := .done, list := none, eligible := false, served := true,
                      status := hostFault, output := [], outLen := written, written := 0,
                      isPartial := decide (written > 0), effects := [], reserved := [] }

/-- A wait of d ticks from now: its due tick (R130). -/
def dueTick (s : State) (d : Nat) : Nat := s.time.toNat / (s.so.sched.tick100ns * 100) + d + 1

/-- HOST_ACCESS_FAULT: an access for a command's input or output fails: a translation fault with
PRI enabled is held on delay list 1 for up to 10 ms, anything else fails the command (R71, R370). -/
def execHostAccessFault (e : Nat) (translation : Bool) (written : Nat) (s : State) :
    Outcome State Fault Refusal :=
  answer (
    match s.cmd e with
    | none => s
    | some c =>
      if c.stage == .done || c.stage == .commitWait then s
      else if translation && (s.port c.fn.portB).priEnable then
        let (s, c) := match c.stage with
          | .running k => (endTurn (noteResidue s k) k, { c with turn := c.turn + 1, cycles := (s.core k).cycles })
          | .preselected k => (dropPre s k, c)
          | _ => (s, c)
        let d := ceilDiv 100000 s.so.sched.tick100ns
        emit (s.setCmd e { c with stage := .delayed 1 (dueTick s d), eligible := false })
          (.pageRequest c.fn)
      else failHost s e c (min written c.d.outCap.toNat))

/-- RING_ACCESS_FAULT: an access to a ring fails and the pigeonhole enters ERROR with HOST_FAULT
(R72). -/
def execRingAccessFault (ph : BitVec 12) (s : State) : Outcome State Fault Refusal :=
  answer (
    match phOwner s ph.toNat with
    | none => s
    | some (slot, _) =>
      let p := s.ph ph.toNat
      if p.state == .disabled || p.state == .error then s
      else (countHostFault s (fnOfSlot slot).portB).setPh ph.toNat (p.fail hostFault))

/-- A held command returns to the tail of its queue on its ready list (R71, R133). -/
def requeue (s : State) (e : Nat) (c : Cmd) : State :=
  let s := { s with so := { s.so with nextOrder := s.so.nextOrder + 1 } }
  let s := s.setCmd e { c with stage := .ready, eligible := c.landed, order := s.so.nextOrder }
  match c.list with
  | some _ => noteEntry s e
  | none => noteEntry (place s e c) e

/-- PAGE_GRANT: the page is granted and the held command returns to its ready list (R71). -/
def execPageGrant (e : Nat) (s : State) : Outcome State Fault Refusal :=
  answer (
    match s.cmd e with
    | none => s
    | some c => match c.stage with
      | .delayed 1 _ => requeue s e c
      | _ => s)

/-- PAGE_WAIT_EXPIRY: the entry on delay list 1 expires: HOST_FAULT (R71, R370). -/
def execPageWaitExpiry (e : Nat) (s : State) : Outcome State Fault Refusal :=
  answer (
    match s.cmd e with
    | none => s
    | some c => match c.stage with
      | .delayed 1 _ => failHost s e c c.written
      | _ => s)

/-- REPLAY_EXPIRY: a replay record's window ends (R108). -/
def execReplayExpiry (slot : Nat) (ph : BitVec 12) (cmdId : BitVec 64) (s : State) :
    Outcome State Fault Refusal :=
  answer { s with so := { s.so with
    replays := s.so.replays.filter (fun r => !(decide (r.slot = slot ∧ r.ph = ph.toNat ∧ r.cmdId = cmdId))) } }

end Sys2Proof.Machine
end

