-- ==== Sys2Proof/Machine/Service.lean ====
section
/-! DEFINITION. How a standard service runs on a core: its checks in order, its draws, the keys it
resolves, and what it leaves for the completion (R94 step 9, R95, R156, R296, R340). -/

namespace Sys2Proof.Machine

open Host

/-- Why a service stops before its result. -/
inductive Stop where
  /-- Complete with this status and no output. -/
  | fail (st : Code)
  /-- The output of this length exceeds the capacity (R95). -/
  | short (n : Nat)
  /-- The service has begun and completes later: it keeps its core. -/
  | hold
  /-- Randomness of an instance is not ready: wait on delay list 0 (R340). -/
  | wait (inst : Nat)
  deriving DecidableEq, Repr

/-- What a service works on: the module, its command-table entry and its command. -/
structure Sv where
  s : State
  e : Nat
  c : Cmd
  deriving DecidableEq, Repr

abbrev Svc := ExceptT Stop (StateM Sv)

def fail {α : Type} (st : Code) : Svc α := throw (.fail st)
def need (b : Bool) (st : Code) : Svc Unit := if b then pure () else throw (.fail st)
def getS : Svc State := do return (← get).s
def getC : Svc Cmd := do return (← get).c
def getIn : Svc Octets := do return (← get).c.input
def modS (f : State → State) : Svc Unit := modify (fun v => { v with s := f v.s })
def modC (f : Cmd → Cmd) : Svc Unit := modify (fun v => { v with c := f v.c })
def liftE {α : Type} (x : Except Code α) : Svc α :=
  match x with | .ok a => pure a | .error st => throw (.fail st)

/-- Octets the franking trailer will add to an OK result (R472). -/
def trailerLen (s : State) (c : Cmd) : Nat := if wantsFrank c.d && s.keys.frankPriv.isSome then 144 else 0

/-- Step 5 of R156: the output, trailer included, fits the capacity (R95). -/
def capacity (n : Nat) : Svc Unit := do
  let v ← get
  if n + trailerLen v.s v.c > v.c.d.outCap.toNat then throw (.short n) else pure ()

/-- Draw n octets from the command's own instance (R334, R339): ENTROPY_FAILED in entropy failure,
a wait while the instance cannot serve. -/
def random (n : Nat) (pr : Bool := false) (add : Octets := []) : Svc Octets := do
  let v ← get
  let i := instOf v.c.slot v.c.idx
  if v.s.entropy.failed then throw (.fail entropyFailed)
  else if !(canServe v.s i pr) then throw (.wait i)
  else
    let (o, s) := generate v.s i n pr add
    set { v with s := s }
    pure o

/-- Draw n octets from an instance of the module itself (R334, R340). -/
def randomFrom (i n : Nat) : Svc Octets := do
  let v ← get
  if v.s.entropy.failed then throw (.fail entropyFailed)
  else if !(canServe v.s i) then throw (.wait i)
  else
    let (o, s) := generate v.s i n false
    set { v with s := s }
    pure o

/-- The service is journalled (R468). -/
def journalled : Svc Unit := modC (fun c => { c with journalled := true })

/-- Digest that a quorum's grant binds: opcode, inline octets, input (R538). -/
def quorumDigest (c : Cmd) : Octets := sha 48 (le 2 c.d.opcode.toNat ++ fit 24 c.d.params ++ c.input)

/-- A command of R537's table consumes its grant before any other check; the QUORUM entry names the counted
officers (R542). -/
def needGrant : Svc Unit := do
  let v ← get
  let c := v.c
  if c.granted then pure ()
  else
    let dg := quorumDigest c
    let hit (g : Grant) : Bool :=
      g.portB == c.fn.portB && g.opcode == c.d.opcode && g.cmdId == c.d.cmdId && g.digest == dg
    match v.s.alarms.grants.find? hit with
    | none => throw (.fail quorumRequired)
    | some g =>
      let s := { v.s with alarms := { v.s.alarms with grants := v.s.alarms.grants.filter (fun x => !hit x) } }
      let s := journalNow s 7 (le 2 g.officers.toNat ++ le 2 c.d.opcode.toNat)
      set { v with s := s, c := { c with granted := true, officers := g.officers } }

/-- The service acts in these modes only (R54). -/
def inModes (l : List Mode) : Svc Unit := do
  let st ← getS
  need (l.any (fun m => m == st.boot.mode)) modeRefused

/-- Opcode group of the command. -/
def opGroup (c : Cmd) : Nat := c.d.opcode.toNat / 256

/-- Resolve a key reference (R284): take its reservation, keep the key in the cache. -/
def resolveKey (r : KeyRef) : Svc KeyVal := do
  let v ← get
  let (k, ctr) ← liftE (resolve v.s v.c.slot v.e v.c.reserved (opGroup v.c) r)
  let s := holdRoots (if r.kind = 3 then v.s else cachePut v.s v.c.slot r.body k) v.c.slot
  let held := match ctr with
    | some i => if v.c.reserved.contains i then v.c.reserved else v.c.reserved ++ [i]
    | none => v.c.reserved
  set { v with s := s, c := { v.c with reserved := held } }
  pure k.expanded

/-- Charge the counted keys of a command that completes with OK (R297): it is then state-changing. -/
def chargeCounters (c : Cmd) : Cmd :=
  if c.reserved.isEmpty then c
  else { c with effects := c.effects ++ c.reserved.map Effect.ctrUse, stateChanging := true, journalled := true,
                keepsReplay := true, mirrors := true }

/-- An identical command is in flight (R109). -/
def twinInFlight (s : State) (e : Nat) (c : Cmd) : Bool :=
  s.so.cmds.any (fun x => x.1 != e && x.2.slot == c.slot && x.2.ph == c.ph && x.2.d.cmdId == c.d.cmdId &&
    decide (x.2.fetchNo < c.fetchNo))

/-- End the turn of core k and put its command on delay list 0, with the remaining wait (R340). -/
def waitRandom (s : State) (k e : Nat) (c : Cmd) (inst limitUs : Nat) : State :=
  let due := c.waitDue.getD (dueTick s (ceilDiv (limitUs * 10) s.so.sched.tick100ns))
  (endTurn (noteResidue s k) k).setCmd e { c with stage := .delayed 0 due, waitDue := some due, waitInst := inst, eligible := false,
                                                  turn := c.turn + 1, cycles := (s.core k).cycles }

/-- Run a service on the command of core k: it acts on a landed command of its own opcode that has
no result yet. -/
def runService (s : State) (k : Nat) (op : Code) (charge : Bool) (waitUs : Nat) (body : Svc Octets) : State :=
  match running s k with
  | none => s
  | some (e, c) =>
    if c.d.opcode != op || c.custom || c.served || !c.landed then s
    else
      let (r, v) := (body.run).run { s := s, e := e, c := c }
      let done (st : Code) (out : Octets) (c : Cmd) : State :=
        v.s.setCmd e { c with served := true, status := st, output := out }
      match r with
      | .ok out =>
        let c2 := if charge then chargeCounters v.c else v.c
        if c2.stateChanging && !c.stateChanging && twinInFlight v.s e c2 then
          done busyRetry [] { v.c with effects := [] }
        else done stOk out c2
      | .error (.fail st) => done st [] { v.c with effects := [] }
      | .error (.short n) => done stOk (zeros n) { v.c with effects := [], stateChanging := false }
      | .error .hold => v.s.setCmd e v.c
      | .error (.wait i) => waitRandom v.s k e { v.c with effects := [] } i waitUs

/-- The wait limit of every service but RANDOM_BYTES, in µs (R341). -/
def defaultWait : Nat := 10000

/-- The key references at offset `off`, n of them, and what follows them. -/
def takeRefs (ikExport : Bool) : Nat → Octets → Svc (List KeyRef × Octets)
  | 0, o => pure ([], o)
  | n + 1, o => do
    let v ← get
    let r ← liftE (krefCheck v.s v.c.slot v.c.d.version.toNat ikExport o)
    let (rs, rest) ← takeRefs ikExport n (o.drop r.size)
    pure (r :: rs, rest)

/-- Octets that n key references from the start of a string take. -/
def refsLen : Nat → Octets → Nat
  | 0, _ => 0
  | n + 1, o => krefLen o + refsLen n (o.drop (krefLen o))

/-- Usage, mode and algorithm of a key against a row of R150 or R178. -/
def keyIs (k : KeyVal) (usages : List String) (modes : String) (alg : Nat → Bool) : Bool :=
  usages.any (fun u => ascii u == k.usage) && (ascii modes).contains k.mode && alg k.alg

/-- Under version 1 a key that is no TDEA key is BAD_FIELD in place of the algorithm check. -/
def needKey (k : KeyVal) (usages : List String) (modes : String) (alg : Nat → Bool) : Svc Unit := do
  let c ← getC
  if c.d.version = 1 && !(isTdea k.alg) then fail badField
  else need (keyIs k usages modes alg) keyUsageDenied

end Sys2Proof.Machine
end

