-- ==== Sys2Proof/Machine/Arrays.lean ====
section
/-! DEFINITION. Cipher and hash arrays: jobs, results, parity, lane tests, pooled mode (R209 to R237). -/

namespace Sys2Proof.Machine

open Host

/-! ### Registers and results -/

def State.setArrays (s : State) (f : Arrays → Arrays) : State := { s with arrays := f s.arrays }

/-- Put a result into a result area of core k. -/
def setJobResult (s : State) (hash : Bool) (k tag : Nat) (r : JobResult) : State :=
  s.setArrays (fun a => if hash then { a with hashResults := insertAt a.hashResults (4 * k + tag) r }
                        else { a with results := insertAt a.results (4 * k + tag) r })

/-- The job of a tag that has not ended. -/
def findJob (s : State) (hash : Bool) (k tag : Nat) : Option LaneJob :=
  s.arrays.jobs.find? (fun j => j.core == k && j.hash == hash && j.tag == tag)

/-- The job leaves its lane with a result. -/
def endJob (s : State) (j : LaneJob) (r : JobResult) : State :=
  setJobResult (s.setArrays (fun a => { a with
    jobs := a.jobs.filter (fun x => !(x.core == j.core && x.hash == j.hash && x.tag == j.tag)) })) j.hash j.core j.tag r

/-- Does a job of the core that has not ended name this key register? (R216) -/
def keyInUse (s : State) (hash : Bool) (k reg : Nat) : Bool :=
  s.arrays.jobs.any (fun j => j.core == k && j.hash == hash && j.key == reg)

def laneKey (s : State) (k reg : Nat) : Option LaneKey := lookup s.arrays.laneKeys (16 * k + reg)
def hashKey (s : State) (k reg : Nat) : Option LaneKey := lookup s.arrays.hashKeys (16 * k + reg)
def setLaneKey (s : State) (k reg : Nat) (v : LaneKey) : State :=
  s.setArrays (fun a => { a with laneKeys := insertAt a.laneKeys (16 * k + reg) v })
def setHashKey (s : State) (k reg : Nat) (v : LaneKey) : State :=
  s.setArrays (fun a => { a with hashKeys := insertAt a.hashKeys (16 * k + reg) v })

/-! ### Submission (R217, R221) -/

/-- Block length of a cipher code. -/
def cipherBlock (cipher : Nat) : Nat := if cipher = 1 then 16 else 8

/-- Field checks of a cipher descriptor in a mode. -/
def cipherFieldsOk (mode : Nat) (j : CipherJob) : Bool :=
  let c := j.cipher.toNat
  let n := j.len.toNat
  let bl := cipherBlock c
  decide (1 ≤ c ∧ c ≤ 3) && (mode == 0 || mode == 1 || mode == 3 || mode == 7 || (mode == 4 && c != 2) ||
    ((mode == 2 || mode == 5) && c == 1)) &&
  j.ctl.toNat < 64 && (j.ctl.toNat / 8 % 4 == 0 || (c == 2 && j.ctl.toNat / 8 % 4 ≤ 2)) &&
  (!(j.ctl.getLsbD 5) || (mode == 3 && c == 2)) && j.key.toNat ≤ 3 &&
  (if j.src = 0 then decide (1 ≤ n ∧ n ≤ 16) else decide (1 ≤ n ∧ n ≤ 16777216)) &&
  (mode == 2 || mode == 4 || mode == 5 || n % bl == 0) && j.src.toNat % 16 == 0 && j.dst.toNat % 16 == 0 &&
  (mode == 5 || mode == 7 || j.aux == 0) && j.reserved == 0 && (c == 1 || zeroAt j.iv 8 8) &&
  zeroAt j.inlineData n (16 - n)

/-- Does the key suit the cipher? -/
def laneAlgOk (cipher alg : Nat) : Bool := if cipher = 1 then isAes alg else isTdea alg

/-- A cipher job that the core's command submits. A descriptor for a tag whose job has not ended is
held on the interconnect: nothing happens yet (R218). -/
def submitCipher (s : State) (k mode : Nat) (j : CipherJob) : State :=
  let tag := j.ctl.toNat / 2 % 4
  if (s.core k).cmd.isNone || (findJob s false k tag).isSome then s
  else if !(cipherFieldsOk mode j) then setJobResult s false k tag { status := 1 }
  else
    match laneKey s k j.key.toNat with
    | none => setJobResult s false k tag { status := 3 }
    | some key =>
      if !(laneAlgOk j.cipher.toNat key.alg) then setJobResult s false k tag { status := 3 }
      else s.setArrays (fun a => { a with jobs := a.jobs ++ [
        { core := k, hash := false, tag := tag, cipher := j.cipher.toNat, mode := mode, ctl := j.ctl.toNat,
          key := j.key.toNat, len := j.len.toNat, src := j.src.toNat, dst := j.dst.toNat, aux := j.aux.toNat,
          iv := fit 16 j.iv, inlineData := fit 16 j.inlineData, prior := 0, parity := 0 }] })

/-- ECB: a cipher job in ECB mode (R217). -/
def execEcb (k : CoreId) (j : CipherJob) (s : State) : Outcome State Fault Refusal := answer (submitCipher s k.toNat 0 j)
/-- CBC: a cipher job in CBC mode (R217). -/
def execCbc (k : CoreId) (j : CipherJob) (s : State) : Outcome State Fault Refusal := answer (submitCipher s k.toNat 1 j)
/-- CTR: a cipher job in CTR mode (R217). -/
def execCtr (k : CoreId) (j : CipherJob) (s : State) : Outcome State Fault Refusal := answer (submitCipher s k.toNat 2 j)
/-- CBC_MAC: a CBC-MAC job, with FINAL3 the output transform (R210, R217). -/
def execCbcMac (k : CoreId) (j : CipherJob) (s : State) : Outcome State Fault Refusal := answer (submitCipher s k.toNat 3 j)
/-- CMAC: a CMAC job (R217). -/
def execCmac (k : CoreId) (j : CipherJob) (s : State) : Outcome State Fault Refusal := answer (submitCipher s k.toNat 4 j)
/-- GCM: a GCM job (R217). -/
def execGcm (k : CoreId) (j : CipherJob) (s : State) : Outcome State Fault Refusal := answer (submitCipher s k.toNat 5 j)

/-- The mask of R189 that AUX[3:0] selects: 0 none, then the rows of the table in order (log entry 25). -/
def keychainMask (i : Nat) : Octets :=
  let rows : List Octets := [zeros 8, [0, 0, 0, 0, 0, 0, 0, 0xFF], [0, 0, 0, 0, 0, 0, 0xFF, 0],
    [0, 0, 0, 0, 0xFF, 0, 0, 0], [0, 0, 0, 0, 0, 0xFF, 0, 0], [0, 0, 0xFF, 0, 0, 0, 0, 0]]
  rows.getD i (zeros 8)

/-- KEYCHAIN (R219): from the key unit, it enciphers the derivation block under lane key register KEY,
applies mask and parity, and puts the result into a half of the target register; from a logical
core it is refused with JSTATUS 0x0001. -/
def execKeychain (k : CoreId) (byCore : Bool) (j : CipherJob) (s : State) : Outcome State Fault Refusal :=
  answer (
    let k := k.toNat
    let tag := j.ctl.toNat / 2 % 4
    let n := j.len.toNat
    if (s.core k).cmd.isNone then s
    else if byCore then setJobResult s false k tag { status := 1 }
    else
      match laneKey s k (j.key.toNat % 4) with
      | none => s
      | some key =>
        let target := j.aux.toNat / 64 % 4
        if keyInUse s false k target || !(laneAlgOk j.cipher.toNat key.alg) || !(n == 8 || n == 16) then s
        else
          let blk := j.inlineData.take n
          let e := if j.cipher = 1 then aesEnc key.bytes (fit 16 blk)
                   else ((blocks 8 blk).map (tdesEnc key.bytes)).flatten
          let m := keychainMask (j.aux.toNat % 16)
          let x := xorO e (m ++ m)
          let x := if j.aux.getLsbD 4 then oddParity x else x
          let old := ((laneKey s k target).map (·.bytes)).getD (zeros 16)
          let half := if j.aux.getLsbD 5 then 1 else 0
          let new := if x.length ≥ 16 then x else (if half = 0 then x ++ slice old 8 8 else old.take 8 ++ x)
          setLaneKey s k target { alg := if j.cipher = 1 then 3 else 1, bytes := new })

/-- Hash block of a digest length. -/
def hashBlock (len : Nat) : Nat := if len = 32 then 64 else 128
def hashLenOf (alg : Nat) : Nat := if alg = 1 then 32 else if alg = 2 then 48 else 64

/-- Field checks of a hash descriptor (R221). -/
def hashFieldsOk (j : HashJob) : Bool :=
  let final := j.ctl.getLsbD 0
  let n := j.len.toNat
  decide (1 ≤ j.alg.toNat ∧ j.alg.toNat ≤ 3) && j.ctl.toNat < 32 && j.key.toNat ≤ 3 &&
  (j.ctl.getLsbD 2 || j.key == 0) && j.reserved == 0 &&
  (if j.src = 0 then decide (n ≤ 32) else decide (n ≤ 16777216)) &&
  (final || n % hashBlock (hashLenOf j.alg.toNat) == 0) && j.src.toNat % 16 == 0 &&
  (j.ctl.getLsbD 1 || j.prior == 0) && j.reserved2.all (· == 0) && zeroAt j.inlineData n (32 - n)

/-- HASH_JOB (R221, R222). -/
def execHashJob (k : CoreId) (j : HashJob) (s : State) : Outcome State Fault Refusal :=
  answer (
    let k := k.toNat
    let tag := j.ctl.toNat / 8 % 4
    if (s.core k).cmd.isNone || (findJob s true k tag).isSome then s
    else if !(hashFieldsOk j) then setJobResult s true k tag { status := 1 }
    else if j.ctl.getLsbD 1 && (lookup s.arrays.hashStates (4 * k + tag)).isNone then setJobResult s true k tag { status := 1 }
    else if j.ctl.getLsbD 2 && (hashKey s k j.key.toNat).isNone then setJobResult s true k tag { status := 3 }
    else s.setArrays (fun a => { a with jobs := a.jobs ++ [
      { core := k, hash := true, tag := tag, cipher := j.alg.toNat, mode := 0, ctl := j.ctl.toNat,
        key := j.key.toNat, len := j.len.toNat, src := j.src.toNat, dst := 0, aux := 0, iv := [],
        inlineData := fit 32 j.inlineData, prior := j.prior.toNat, parity := 0 }] }))

/-! ### The end of a job (R218 to R222) -/

/-- The octets a job reads: INLINE, working memory, or what another place answered. -/
def jobInput (s : State) (j : LaneJob) (o : Octets) : Octets :=
  let n := j.len + (if j.mode = 5 && !j.hash then j.aux else 0)
  if j.src = 0 then j.inlineData.take n else farData s j.src n o

/-- Output and last value of a cipher job over its input. -/
def cipherResult (j : LaneJob) (key : LaneKey) (o : Octets) : Octets × Octets :=
  let dec := j.ctl % 2 == 1
  let kp := slice key.bytes (if key.alg = 1 && j.ctl / 8 % 4 == 2 then 0 else 8 * (j.ctl / 8 % 4)) 8
  let e : Octets → Octets := if j.cipher = 1 then aesEnc key.bytes else if j.cipher = 2 then desEnc kp else tdesEnc key.bytes
  let d : Octets → Octets := if j.cipher = 1 then aesDec key.bytes else if j.cipher = 2 then desDec kp else tdesDec key.bytes
  let bl := cipherBlock j.cipher
  match j.mode with
  | 0 => let r := ((blocks bl o).map (if dec then d else e)).flatten; (r, r.drop (r.length - bl))
  | 1 =>
    let r := (if dec then cbcDecBlocks d (j.iv.take bl) (blocks bl o) else cbcEncBlocks e (j.iv.take bl) (blocks bl o)).flatten
    (r, (if dec then o else r).drop (o.length - bl))
  | 2 => let r := ctrCrypt key.bytes j.iv o; (r, be 16 ((beNat j.iv + ceilDiv o.length 16) % 2 ^ 128))
  | 3 =>
    let h := cbcMac e (j.iv.take bl) o bl
    let m := if j.ctl / 32 % 2 = 1 then desEnc (slice key.bytes 0 8) (desDec (slice key.bytes 8 8) h) else h
    ([], m)
  | 4 => ([], cmac (if j.cipher = 1 then key.alg else 2) key.bytes o)
  | 5 =>
    let aad := o.take j.aux
    if dec then gcmDec key.bytes (beNat j.iv) aad (o.drop j.aux) else gcmEnc key.bytes (beNat j.iv) aad (o.drop j.aux)
  | _ => ([], [])

/-- JOB_END: the job of a tag ends. The answer holds the octets read from outside working memory, or
the octets done before the first refused piece (R220). -/
def execJobEnd (k : CoreId) (hash : Bool) (tag : BitVec 2) (r : JobReply) (s : State) :
    Outcome State Fault Refusal :=
  answer (
    let k := k.toNat
    match findJob s hash k tag.toNat with
    | none => s
    | some j =>
      match r with
      | .refused done => endJob s j { status := 2, done := done }
      | .ok o =>
        let data := jobInput s j o
        if hash then
          let len := hashLenOf j.cipher
          let i := 4 * k + tag.toNat
          let before := if j.ctl / 2 % 2 = 1 then ((lookup s.arrays.hashStates i).map (·.2)).getD [] else []
          let all := before ++ data
          if j.ctl % 2 = 1 then
            let dg := if j.ctl / 4 % 2 = 1 then hmac len (((hashKey s k j.key).map (·.bytes)).getD []) all else sha len all
            endJob (s.setArrays (fun a => { a with hashStates := removeAt a.hashStates i })) j { out := dg }
          else endJob (s.setArrays (fun a => { a with hashStates := insertAt a.hashStates i (j.cipher, all) })) j {}
        else
          match laneKey s k j.key with
          | none => endJob s j { status := 3 }
          | some key =>
            let (out, last) := cipherResult j key data
            if j.dst = 0 then endJob s j { out := fit 16 (if out.isEmpty || j.mode = 5 then last else out) }
            else endJob (farWrite s k j.dst out) j { done := out.length, out := fit 16 last })

/-! ### Lanes in service, short groups and pooled mode (R212, R223, R224) -/

/-- Is cipher lane n in service or testing? -/
def laneCounted (s : State) (n : Nat) : Bool := s.boot.laneMask.getLsbD n && !(s.warden.retLanes.getLsbD n)
def hashCounted (s : State) (n : Nat) : Bool := !(s.warden.retHash.getLsbD n)

/-- Is group k short? -/
def groupShort (s : State) (k : Nat) : Bool :=
  decide (((List.range 8).filter (fun i => laneCounted s (8 * k + i))).length < 2) ||
  !((List.range 2).any (fun i => hashCounted s (2 * k + i)))

/-- Causes that follow from the state: SHORT_GROUP (bit 3) and NO_SPARE (bit 4). -/
def derivedCauses (s : State) : BitVec 5 :=
  let inService := (List.range 8).filter (fun k => !s.so.clusterOut.getLsbD k)
  (if inService.any (groupShort s) then 8 else 0) ||| (if s.so.clusterOut ≠ 0 then 16 else 0)

/-- Set or clear a cause, and bring the derived ones up to date. -/
def setCause (s : State) (bit : Nat) (on : Bool) : State :=
  let c := s.arrays.causes
  let m : BitVec 5 := BitVec.ofNat 5 (2 ^ bit)
  let c := if on then c ||| m else c &&& ~~~m
  s.setArrays (fun a => { a with causes := (c &&& 7) ||| derivedCauses s })

def refreshCauses (s : State) : State := s.setArrays (fun a => { a with causes := (a.causes &&& 7) ||| derivedCauses s })

/-- ARRAY_SWITCH: the switch that the set of causes calls for (R226, R227); nothing where the array
is in the mode the causes call for.  Jobs go on from where they stood. -/
def execArraySwitch (s : State) : Outcome State Fault Refusal :=
  answer (s.setArrays (fun a => { a with pooled := a.causes != 0 }))

/-- REBUILD_END: the key-cache rebuild ends or 50 ms have passed (R223). -/
def execRebuildEnd (s : State) : Outcome State Fault Refusal :=
  answer (
    let s := setCause s 2 false
    { s with keys := { s.keys with peerLabels := [] } })

/-! ### Parity and retirement (R228 to R235) -/

def getLane (s : State) (hash : Bool) (n : Nat) : Lane := tget {} (if hash then s.arrays.hashLanes else s.arrays.lanes) n
def putLane (s : State) (hash : Bool) (n : Nat) (l : Lane) : State :=
  s.setArrays (fun a => if hash then { a with hashLanes := tset {} a.hashLanes n l } else { a with lanes := tset {} a.lanes n l })

/-- Retire a lane: the warden keeps the mask, and the retirement is journalled (R232, R233). -/
def retireLane (s : State) (hash : Bool) (n : Nat) : State :=
  let s := { s with warden := if hash then { s.warden with retHash := s.warden.retHash ||| BitVec.ofNat 16 (2 ^ n) }
                              else { s.warden with retLanes := s.warden.retLanes ||| BitVec.ofNat 64 (2 ^ n) } }
  refreshCauses (journalRetire s (if hash then .hashLane else .lane) n)

/-- The victim of a parity error restarts; at its third error it ends with JSTATUS 0x0004 (R228,
R229). -/
def hurtJob (s : State) (hash : Bool) (k tag : Nat) : State :=
  match findJob s hash k tag with
  | none => s
  | some j =>
    if j.parity ≥ 2 then endJob s j { status := 4 }
    else s.setArrays (fun a => { a with jobs := a.jobs.map (fun x =>
      if x.core == k && x.hash == hash && x.tag == tag then { x with parity := x.parity + 1 } else x) })

/-- LANE_PARITY: a lane, or a key-file entry, has a parity error (R228, R229, R232). -/
def execLaneParity (hash : Bool) (at_ : ParityAt) (s : State) : Outcome State Fault Refusal :=
  answer (
    match at_ with
    | .lane n victim =>
      let n := if hash then n.toNat % 16 else n.toNat
      let l := getLane s hash n
      let s := putLane s hash n { l with testing := true, errors := s.time.toNat :: l.errors.take 3, parity := satInc l.parity }
      let s := eventF s 0x0303 n 0 64
      match victim with
      | some (k, tag) => hurtJob s hash k.toNat tag.toNat
      | none => s
    | .keyFile k reg =>
      let i := 16 * k.toNat + reg.toNat
      let s := s.setArrays (fun a => if hash then { a with hashKeys := removeAt a.hashKeys i }
                                     else { a with laneKeys := removeAt a.laneKeys i })
      let hit := s.arrays.jobs.filter (fun j => j.core == k.toNat && j.hash == hash && j.key == reg.toNat &&
        (!hash || j.ctl / 4 % 2 == 1))
      hit.foldl (fun s j => endJob s j { status := 3 }) s)

/-- LANE_KAT_END: a faulted lane's tests end; a third error within 24 h or a failed test retires it
(R232). -/
def execLaneKatEnd (hash : Bool) (lane : BitVec 6) (pass : Bool) (s : State) : Outcome State Fault Refusal :=
  answer (
    let n := if hash then lane.toNat % 16 else lane.toNat
    let l := getLane s hash n
    if !l.testing then s
    else
      let s := putLane s hash n { l with testing := false }
      if !pass || within24h s l.errors ≥ 3 then retireLane s hash n else s)

/-! ### ARRAY_SELFTEST (R236) -/

/-- 64-bit and 16-bit masks of the lanes that were tested and passed. -/
def testable (s : State) : BitVec 64 := s.boot.laneMask &&& ~~~s.warden.retLanes

/-- ARRAY_SELFTEST (0x8030): every lane in service runs its tests; those that fail are retired. -/
def svcArraySelftest (failLanes : BitVec 64) (failHash : BitVec 16) : Svc Octets := do
    let st ← getS
    need (st.boot.mode == .staged || st.boot.mode == .service || st.boot.mode == .standby || st.boot.mode == .maintenance)
      modeRefused
    let lanes := testable st
    let hash := ~~~st.warden.retHash
    capacity 16
    modS (fun s => (List.range 64).foldl (fun s n =>
      if lanes.getLsbD n && failLanes.getLsbD n then retireLane s false n else s) s)
    modS (fun s => (List.range 16).foldl (fun s n =>
      if hash.getLsbD n && failHash.getLsbD n then retireLane s true n else s) s)
    pure (le 8 (lanes &&& ~~~failLanes).toNat ++ le 2 (hash &&& ~~~failHash).toNat ++ zeros 6)
/-- ARRAY_SELFTEST (0x8030) on core k. -/
def execArraySelftest (k : CoreId) (failLanes : BitVec 64) (failHash : BitVec 16) (s : State) :
    Outcome State Fault Refusal :=
  answer (runService s k.toNat 0x8030 false defaultWait (svcArraySelftest failLanes failHash))

end Sys2Proof.Machine
end

