-- ==== Sys2Proof/Machine/EntropyOps.lean ====
section
/-! DEFINITION. The entropy unit: cells, DRBG lanes, entropy failure, the request port, waiting, and the
RNG services (R327 to R356). -/

namespace Sys2Proof.Machine

open Host

def State.setEntropy (s : State) (f : Entropy → Entropy) : State := { s with entropy := f s.entropy }

/-! ### Entropy failure (R345 to R349) -/

/-- Causes now in force: fewer than 24 healthy cells, and the failures of the DRBG lanes (R345). -/
def failCauses (s : State) : BitVec 4 :=
  let l := s.entropy.laneFail
  (if healthyCells s < 24 then 1 else 0) ||| (if l.extractLsb' 0 4 ≠ 0 then 2 else 0) |||
  (if l.extractLsb' 4 4 ≠ 0 then 4 else 0) ||| (if l.extractLsb' 8 4 ≠ 0 then 8 else 0)

/-- Commands on delay list 0. -/
def waitingEntries (s : State) : List Nat :=
  (s.so.cmds.filter (fun x => match x.2.stage with | .delayed 0 _ => true | _ => false)).map (·.1)

/-- Entropy failure begins (R346): every waiting command completes with ENTROPY_FAILED, but for one that has its
result and goes on with a deterministic Franking nonce (R347); requests in progress end with RSTATUS 0x0004, and the
module raises and journals an F-class event. -/
def beginFailure (s : State) : State :=
  let s := s.setEntropy (fun n => { n with
    failed := true, failSince := s.time, failures := n.failures.inc,
    results := n.results.map (fun x => (x.1, if x.2.busy then { x.2 with busy := false, status := 4, out := [] } else x.2)) })
  let s := (waitingEntries s).foldl (fun s e => match s.cmd e with
    | some c => if c.served then requeue s e { c with waiting := false } else completeWith s e entropyFailed
    | none => s) s
  eventF s 0x0309 0 0 0

/-- Entropy failure ends (R348): every instance reseeds before its next output, the recovery is
journalled as a record whose VALUE is the duration in microseconds, and erased cache keys are drawn
(R347). -/
def endFailure (s : State) : State :=
  let us := min ((s.time - s.entropy.failSince).toNat / 1000) 0x7FFFFFFF
  let s := s.setEntropy (fun n => { n with failed := false, insts := n.insts.map (fun x => (x.1, { x.2 with due := true })) })
  let (p, s) := stamp s srcEntropy
  let a : AlarmInfo := { cause := 0x0501, cls := 0, value := BitVec.ofNat 32 us }
  let s := journal s { pm := p, type := 3, cls := 0, detail := a.detail false }
  if s.keys.cacheKey.isNone && s.boot.unsealed then redrawCache s else s

/-- Bring FAIL_CAUSE up to date; failure begins or ends with it (R345, R346, R348).  Before RNG_READY the
start-up judges instead (R344). -/
def reviewCauses (s : State) : State :=
  if !s.boot.rngReady then s
  else
    let c := failCauses s
    let s := s.setEntropy (fun n => { n with failCause := c })
    if c ≠ 0 && !s.entropy.failed then beginFailure s
    else if c = 0 && s.entropy.failed then endFailure s
    else s

/-- A cell fails (R332): it is quarantined, an F-class event is raised, and a second failure within 24 h
retires it. -/
def failCell (s : State) (n : Nat) (counted : Bool) : State :=
  let m : BitVec 64 := BitVec.ofNat 64 (2 ^ n)
  let times := s.time.toNat :: (tget [] s.entropy.cellFails n).take 3
  let s := s.setEntropy (fun u => { u with quarMask := u.quarMask ||| m, cellFails := tset [] u.cellFails n times,
                                           healthFails := if counted then u.healthFails.inc else u.healthFails })
  let s := eventF s 0x0304 n 0 0
  if within24h s times ≥ 2 then
    let s := { s with warden := { s.warden with retCells := s.warden.retCells ||| m } }
    journalRetire (s.setEntropy (fun u => { u with quarMask := u.quarMask &&& ~~~m })) .cell n
  else s

/-- APT_WINDOW_CLOSE: the window's 1,024 bits enter the pool, or a cell whose RCT or APT has failed is
quarantined and the bits are discarded (R329 to R332). Only a healthy cell's bits are taken. -/
def execAptWindowClose (cell : BitVec 6) (failed : Bool) (s : State) : Outcome State Fault Refusal :=
  answer (
    if !((healthyMask s).getLsbD cell.toNat) then s
    else if failed then reviewCauses (failCell s cell.toNat true)
    else s.setEntropy (fun u => { u with pool := u.pool + 1024 }))

/-- CELL_RETEST: a quarantined cell has run its start-up test again (R332); a failed retest counts as a
failure (R332). -/
def execCellRetest (cell : BitVec 6) (pass : Bool) (s : State) : Outcome State Fault Refusal :=
  answer (
    let n := cell.toNat
    if !(s.entropy.quarMask.getLsbD n) then s
    else
      let m : BitVec 64 := BitVec.ofNat 64 (2 ^ n)
      reviewCauses (
        if pass then s.setEntropy (fun u => { u with quarMask := u.quarMask &&& ~~~m, passed := u.passed ||| m })
        else failCell s n true))

/-- ENTROPY_FAIL_DEADLINE: one second of failure that has not ended raises an L-class alarm (R349). -/
def execEntropyFailDeadline (s : State) : Outcome State Fault Refusal :=
  answer (if s.entropy.failed then raiseAlarm s { cause := 0x0203, cls := clsL } else s)

/-- Set or clear a failure of a DRBG lane: kind 0 derivation function, 1 expander, 2 parity. -/
def setLaneFail (s : State) (kind lane : Nat) (on : Bool) : State :=
  let m : BitVec 12 := BitVec.ofNat 12 (2 ^ (4 * kind + lane))
  s.setEntropy (fun u => { u with laneFail := if on then u.laneFail ||| m else u.laneFail &&& ~~~m })

/-- The derivation-function and expander KATs of a lane have run: their outcomes stand, and a parity
error is cleared when both pass (R345). -/
def katDone (s : State) (lane : Nat) (df ex : Bool) : State :=
  let s := setLaneFail (setLaneFail s 0 lane (!df)) 1 lane (!ex)
  if df && ex then setLaneFail s 2 lane false else s

/-- DRBG_KAT: the periodic KATs of a DRBG lane (R345). -/
def execDrbgKat (lane : BitVec 2) (df expander : Bool) (s : State) : Outcome State Fault Refusal :=
  answer (reviewCauses (katDone s lane.toNat df expander))

/-- DRBG_LANE_PARITY: a parity error sets cause 3 until the lane's KATs pass again (R345). -/
def execDrbgLaneParity (lane : BitVec 2) (s : State) : Outcome State Fault Refusal :=
  answer (reviewCauses (setLaneFail s 2 lane.toNat true))

/-- KU_MASK_REDRAW: the key unit's register masks are drawn from I5 every 1 ms; during entropy failure
the last mask is kept (R334, R347). -/
def execKuMaskRedraw (s : State) : Outcome State Fault Refusal :=
  answer (
    if canServe s 5 then
      let (o, s) := generate s 5 32 false
      { s with keys := { s.keys with regMask := o } }
    else s)

/-! ### The request port (R339, R350) -/

def setRandResult (s : State) (k : Nat) (r : RandResult) : State :=
  s.setEntropy (fun u => { u with results := insertAt u.results k r })

/-- May the command make a class 1 request? (R339) -/
def classOneOk (c : Cmd) : Bool :=
  !c.custom && (c.d.opcode.toNat / 256 == 0x08 || c.d.opcode.toNat / 256 == 0x0A || wantsFrank c.d)

/-- The wait limit of a command in µs (R341). -/
def waitLimitUs (c : Cmd) : Nat :=
  if c.d.opcode = 0x0901 ∧ u32 c.d.params 4 ≠ 0 then u32 c.d.params 4 else defaultWait

/-- RANDOM_REQUEST: a request of core k. One that comes while an earlier one runs is held: nothing happens
yet. -/
def execRandomRequest (k : CoreId) (req : RandReq) (s : State) : Outcome State Fault Refusal :=
  answer (
    let k := k.toNat
    match running s k with
    | none => s
    | some (e, c) =>
      if ((lookup s.entropy.results k).getD {}).busy then s
      else
        let n := req.len.toNat
        let ok := decide (req.cls.toNat ≤ 1) && (req.cls == 0 || classOneOk c) && decide (req.flags.toNat ≤ 1) && req.reserved == 0 &&
          decide (1 ≤ n ∧ n ≤ 65536) && req.dst.toNat % 16 == 0 && (req.dst != 0 || decide (n ≤ 64))
        let i := if req.cls = 0 then instOf c.slot c.idx else k / 16
        let pr := req.flags.getLsbD 0
        if !ok then setRandResult s k { busy := true, status := 1 }
        else if s.entropy.failed then setRandResult s k { busy := true, status := 4 }
        else if !(canServe s i pr) then
          let due := c.waitDue.getD (dueTick s (ceilDiv (waitLimitUs c * 10) s.so.sched.tick100ns))
          setRandResult (s.setCmd e { c with waitDue := some due, waiting := true, waitInst := i }) k { busy := true, status := 3 }
        else
          let (o, s) := generate s i n pr
          setRandResult s k { busy := true, out := o, dst := req.dst.toNat })

/-- RANDOM_REQUEST_END: the generate has ended; its output is written under the requester, and RSTATUS
stands (R350). A DST that the core's rule set does not allow is an access fault. -/
def execRandomRequestEnd (k : CoreId) (s : State) : Outcome State Fault Refusal :=
  answer (
    let k := k.toNat
    match lookup s.entropy.results k with
    | none => s
    | some r =>
      if !r.busy then s
      else if r.out.isEmpty then setRandResult s k { r with busy := false }
      else if r.dst = 0 then setRandResult s k { busy := false, status := 0, done := r.out.length, data := fit 64 r.out }
      else
        match running s k with
        | none => setRandResult s k { busy := false, status := 2 }
        | some (e, c) =>
          let base := (1 + (s.core k).ctxPort) * 2 ^ 36 + hsOut k c
          let st := stagingAddr e
          let sc := scratchAddr e
          let n := r.out.length
          if (decide (st ≤ r.dst) && decide (r.dst + n ≤ st + 4096)) || (decide (sc ≤ r.dst) && decide (r.dst + n ≤ sc + 512)) ||
             (decide (base ≤ r.dst) && decide (r.dst + n ≤ base + hsOutLen c)) then
            setRandResult (farWrite s k r.dst r.out) k { busy := false, status := 0, done := n }
          else setRandResult s k { busy := false, status := 2 })

/-! ### Waiting on delay list 0 (R340) -/

/-- Can the instance that a command waits for serve it: an instance in being, or the instantiation of a
tenant's (R340, R440)? -/
def waitOver (s : State) (i : Nat) : Bool :=
  if (lookup s.entropy.insts i).isNone ∧ i ≥ 24 then canInstantiate s else canServe s i

/-- ENTROPY_RELEASE: the instance of a waiting command can serve, and the command returns to its ready
list (R133, R340). -/
def execEntropyRelease (e : Nat) (s : State) : Outcome State Fault Refusal :=
  answer (
    match s.cmd e with
    | none => s
    | some c => match c.stage with
      | .delayed 0 _ => if waitOver s c.waitInst then requeue s e { c with waiting := false } else s
      | _ => s)

/-- ENTROPY_WAIT_EXPIRY: the wait limit ends: ENTROPY_NOT_READY; a release at the same time wins (R340,
R356). -/
def execEntropyWaitExpiry (e : Nat) (s : State) : Outcome State Fault Refusal :=
  answer (
    match s.cmd e with
    | none => s
    | some c => match c.stage with
      | .delayed 0 _ => if waitOver s c.waitInst then requeue s e { c with waiting := false } else completeWith s e entropyNotReady
      | _ => s)

/-! ### RNG services (R350 to R352) -/

/-- Begin an offline window for the command; another window gives BUSY_RETRY (R356). -/
def goOffline : Svc Unit := do
  let v ← get
  need (!v.s.entropy.offline) busyRetry
  modS (fun s => s.setEntropy (fun u => { u with offline := true, offlineBy := some v.e }))

/-- RNG_SELFTEST (0x8060): every conditioner KAT and the KATs of the DRBG lanes run again. -/
def svcRngSelftest (condPass : BitVec 64) (dfPass expPass : BitVec 4) : Svc Octets := do
    inModes [.staged, .service, .standby, .maintenance]
    capacity 16
    goOffline
    let st ← getS
    let live := ~~~st.warden.retCells
    let bad := live &&& ~~~condPass &&& ~~~st.entropy.quarMask
    modS (fun s => (List.range 64).foldl (fun s n => if bad.getLsbD n then failCell s n false else s) s)
    modS (fun s => (List.range 4).foldl (fun s j => katDone s j (dfPass.getLsbD j) (expPass.getLsbD j)) s)
    modS reviewCauses
    pure (le 8 (live &&& condPass).toNat ++ le 1 dfPass.toNat ++ le 1 expPass.toNat ++ zeros 6)
/-- RNG_SELFTEST (0x8060) on core k. -/
def execRngSelftest (k : CoreId) (condPass : BitVec 64) (dfPass expPass : BitVec 4) (s : State) :
    Outcome State Fault Refusal :=
  answer (runService s k.toNat 0x8060 false defaultWait (svcRngSelftest condPass dfPass expPass))

/-- The 56 octets at offsets 0x1000 to 0x1037 (10, registers). -/
def rngRegisters (s : State) : Octets :=
  let u := s.entropy
  [BitVec.ofNat 8 (healthyCells s), BitVec.ofNat 8 (popCount 64 u.quarMask.toNat),
   BitVec.ofNat 8 (popCount 64 s.warden.retCells.toNat),
   BitVec.ofNat 8 ((if u.failed then 1 else 0) + (if u.offline then 2 else 0))] ++
  le 4 u.condMode.toNat ++ le 8 u.quarMask.toNat ++ le 8 s.warden.retCells.toNat ++ le 4 u.failCause.toNat ++ zeros 4 ++
  stat8 u.reseeds ++ stat8 u.healthFails ++ stat8 u.failures
where
  stat8 (c : Stat) : Octets := le 6 c.count.toNat ++ [if c.ovf then 1 else 0, 0]

/-- RNG_STATUS (0x8061): a snapshot of the status registers. -/
def svcRngStatus : Svc Octets := do
    capacity 56
    let st ← getS
    pure (rngRegisters st)
/-- RNG_STATUS (0x8061) on core k. -/
def execRngStatus (k : CoreId) (s : State) : Outcome State Fault Refusal :=
  answer (runService s k.toNat 0x8061 false defaultWait svcRngStatus)

/-- The mode codes of R327. -/
def condModes : List Nat := [2, 3, 4, 5, 6, 7, 8, 0x10]

/-- RNG_CONFIG (0x8062): a new conditioner mode, after a start-up test of every cell not retired. With
fewer than 24 passes the mode does not change (log entry 30). -/
def svcRngConfig (passed : BitVec 64) : Svc Octets := do
    inModes [.maintenance, .diagnostic]
    let c ← getC
    need (condModes.contains (u8 c.d.params 0) && zeroAt c.d.params 1 23) badField
    capacity 0
    goOffline
    let st ← getS
    let live := ~~~st.warden.retCells
    let bad := live &&& ~~~passed &&& ~~~st.entropy.quarMask
    modS (fun s => (List.range 64).foldl (fun s n => if bad.getLsbD n then failCell s n true else s) s)
    modS reviewCauses
    let st ← getS
    need (decide (popCount 64 (live &&& passed).toNat ≥ 24) && !st.entropy.failed) entropyFailed
    let mode : BitVec 8 := BitVec.ofNat 8 (u8 c.d.params 0)
    modC (fun c => { c with effects := c.effects ++ [Effect.rngMode mode], stateChanging := true, journalled := true,
                            keepsReplay := true })
    pure []
/-- RNG_CONFIG (0x8062) on core k. -/
def execRngConfig (k : CoreId) (passed : BitVec 64) (s : State) : Outcome State Fault Refusal :=
  answer (runService s k.toNat 0x8062 false defaultWait (svcRngConfig passed))

/-- RNG_RAW_READ (0x8063): a cell's raw bits, in DIAGNOSTIC. -/
def svcRngRawRead : Svc Octets := do
    inModes [.diagnostic]
    let c ← getC
    let p := c.d.params
    let n := u32 p 4
    need (decide (u8 p 0 ≤ 63) && zeroAt p 1 3 && decide (1 ≤ n ∧ n ≤ 65536) && zeroAt p 8 16) badField
    capacity n
    let v ← get
    let (o, t) := drawOctets v.s n
    set { v with s := t }
    pure o
/-- RNG_RAW_READ (0x8063) on core k. -/
def execRngRawRead (k : CoreId) (s : State) : Outcome State Fault Refusal :=
  answer (runService s k.toNat 0x8063 false defaultWait svcRngRawRead)

end Sys2Proof.Machine
end

