-- ==== Sys2Proof/Machine/Alarm.lean ====
section
/-! DEFINITION. Monitors and their alarms, dry-fires, the battery log, the officer quorum and UNLOCK (R519 to
R551, R605). -/

namespace Sys2Proof.Machine

open Host

/-! ### Monitors (R519, R521, R533) -/

/-- Class code that EXT_CFG gives input n: 0 disabled, 1 N, 2 L, 3 E (R533). -/
def extClass (cfg : BitVec 16) (n : Nat) : Nat := (cfg.extractLsb' (4 * n) 2).toNat
/-- Active level of input n: high? (R533) -/
def extHigh (cfg : BitVec 16) (n : Nat) : Bool := cfg.getLsbD (4 * n + 2)

/-- Class of monitor n: clsN to clsE (R519, R548). -/
def monClass (s : State) (n : Nat) : Nat :=
  if n ≤ 7 ∨ n = 12 then clsE
  else if n ≤ 11 then (match extClass s.warden.extCfg (n - 8) with | 3 => clsE | 2 => clsL | _ => clsN)
  else if n = 13 then (if s.alarms.vbatMv.toNat < 2300 then clsF else clsN)
  else if n ≤ 16 then clsL
  else clsN

/-- Does monitor n run now? (R519, R521) -/
def monRuns (s : State) (n : Nat) : Bool :=
  let powered := s.boot.mode.powered
  if n ≤ 4 ∨ n = 6 ∨ n = 7 then true
  else if n = 12 then !powered
  else if 8 ≤ n ∧ n ≤ 11 then
    (match extClass s.warden.extCfg (n - 8) with | 0 => false | 3 => true | _ => powered)
  else (s.monitor n).armed

/-- Is monitor n in its dry-fire window? (R535) -/
def inWindow (s : State) (n : Nat) : Bool := (s.alarms.dryFire.map (·.monitor)) == some n

/-- A qualified condition of monitor n raises its alarm, but in its own dry-fire window it is only seen at the
end (R520, R535, R551, R605). -/
def tripMonitor (s : State) (n unit : Nat) (value : BitVec 32) : State :=
  if !monRuns s n then s
  else
    let s := s.setMonitor n { s.monitor n with tripped := true }
    if inWindow s n then s
    else raiseAlarm s { cause := BitVec.ofNat 16 (0x0100 + n), cls := monClass s n, unit := unit, value := value }

/-- MESH_OPEN (monitor 0). -/
def execMeshOpen (net : BitVec 2) (s : State) : Outcome State Fault Refusal := answer (tripMonitor s 0 net.toNat 0)
/-- MESH_SHORT (monitor 1). -/
def execMeshShort (net : BitVec 2) (s : State) : Outcome State Fault Refusal := answer (tripMonitor s 1 net.toNat 0)
/-- MESH_DRIFT (monitor 2): the deviation in 0.01%. -/
def execMeshDrift (net : BitVec 2) (dev : BitVec 16) (s : State) : Outcome State Fault Refusal :=
  answer (tripMonitor { s with alarms := { s.alarms with meshDev := dev } } 2 net.toNat (dev.signExtend 32))
/-- LID (monitor 3). -/
def execLid (contact : BitVec 2) (s : State) : Outcome State Fault Refusal := answer (tripMonitor s 3 contact.toNat 0)
/-- LIGHT (monitor 4). -/
def execLight (sensor : BitVec 8) (s : State) : Outcome State Fault Refusal := answer (tripMonitor s 4 sensor.toNat 0)
/-- TJ_EXTREME (monitor 5): the reading in 0.1 °C. -/
def execTjExtreme (sensor : BitVec 8) (dc : BitVec 16) (s : State) : Outcome State Fault Refusal :=
  answer (tripMonitor { s with alarms := { s.alarms with tjDc := dc } } 5 sensor.toNat (dc.signExtend 32))
/-- TW_EXTREME (monitor 6). -/
def execTwExtreme (dc : BitVec 16) (s : State) : Outcome State Fault Refusal :=
  answer (tripMonitor { s with alarms := { s.alarms with twDc := dc } } 6 0 (dc.signExtend 32))
/-- ZEROIZE (monitor 7): ZEROIZE_N low for 10 µs (R532). -/
def execZeroize (s : State) : Outcome State Fault Refusal := answer (tripMonitor s 7 0 0)
/-- TAMPER_EXT (monitors 8 to 11), of the class that EXT_CFG gives the input (R533). -/
def execTamperExt (n : BitVec 2) (s : State) : Outcome State Fault Refusal := answer (tripMonitor s (8 + n.toNat) n.toNat 0)
/-- VBAT_CRIT (monitor 12): VBAT below 2.3 V on battery; while the transit cell is connected, only with both
sources absent, which the event itself means (R528, R589). -/
def execVbatCrit (mv : BitVec 16) (s : State) : Outcome State Fault Refusal :=
  answer (if mv.toNat ≥ 2300 then s
    else tripMonitor { s with alarms := { s.alarms with vbatMv := mv } } 12 0 (mv.setWidth 32))
/-- VBAT_LOW (monitor 13): N below 2.5 V, F below 2.3 V; the first notice of a boot is logged in the battery log
(R519, R530). -/
def execVbatLow (mv : BitVec 16) (s : State) : Outcome State Fault Refusal :=
  answer (
    if mv.toNat ≥ 2500 || !(monRuns s 13) then s
    else
      let s := { s with alarms := { s.alarms with vbatMv := mv, vbatLow := true } }
      let s := if monClass s 13 = clsN && !s.alarms.vbatLogged && !inWindow s 13 then
          blogWrite { s with alarms := { s.alarms with vbatLogged := true } }
            { cause := 0x010D, cls := 1, value := mv.setWidth 32 }
        else s
      tripMonitor s 13 0 (mv.setWidth 32))
/-- VBAT_LOW_CLEAR: VBAT is back at 2.5 V or more (R548, R576). -/
def execVbatLowClear (mv : BitVec 16) (s : State) : Outcome State Fault Refusal :=
  answer (
    if mv.toNat < 2500 then s
    else
      let s := { s with alarms := { s.alarms with vbatMv := mv, vbatLow := false } }
      s.setMonitor 13 { s.monitor 13 with tripped := false })
/-- SUPPLY (monitor 14): the rail's level in mV. -/
def execSupply (rail : BitVec 3) (mv : BitVec 16) (s : State) : Outcome State Fault Refusal :=
  answer (if rail.toNat > 6 then s else tripMonitor s 14 rail.toNat (mv.setWidth 32))
/-- TJ_LIMIT (monitor 16). -/
def execTjLimit (sensor : BitVec 8) (dc : BitVec 16) (s : State) : Outcome State Fault Refusal :=
  answer (tripMonitor { s with alarms := { s.alarms with tjDc := dc } } 16 sensor.toNat (dc.signExtend 32))
/-- TJ_WARN (monitor 17). -/
def execTjWarn (sensor : BitVec 8) (dc : BitVec 16) (s : State) : Outcome State Fault Refusal :=
  answer (tripMonitor { s with alarms := { s.alarms with tjDc := dc } } 17 sensor.toNat (dc.signExtend 32))

/-- New drive sequences of the mesh, from the warden's own noise generator: free values (R520). -/
def drawMesh (s : State) : State :=
  let (o, s) := drawOctets s 16
  { s with alarms := { s.alarms with mesh := (List.range 4).map (fun i => BitVec.ofNat 32 (u32 o (4 * i))) } }

/-- MESH_REDRAW (R520). -/
def execMeshRedraw (s : State) : Outcome State Fault Refusal := answer (drawMesh s)

/-- MASK_ROTATION: a new K_m, and the SRAM re-encrypted under it; nothing once K_m is cleared (R315, R326). -/
def execMaskRotation (s : State) : Outcome State Fault Refusal :=
  answer (
    if s.warden.km.isNone then s
    else
      let (o, s) := drawOctets s 16
      { s with warden := { s.warden with km := some o, maskEpoch := s.warden.maskEpoch + 1 } })

/-! ### Battery log (R529, R531) -/

/-- The 32 octets of an entry. -/
def BlogEntry.octets (b : BlogEntry) : Octets :=
  le 4 b.rtcS.toNat ++ le 2 b.rtcTicks.toNat ++ le 2 b.cause.toNat ++ [b.cls, b.flags] ++ le 2 b.vbatMv.toNat ++
  le 2 b.twDc.toNat ++ le 2 b.unit.toNat ++ le 4 b.seq.toNat ++ le 4 b.value.toNat ++ zeros 8

/-- The 2,064 octets of the battery log. -/
def batteryLogOctets (s : State) : Octets :=
  let w := s.warden
  fit 2064 (le 1 w.blog.length ++ le 1 w.blogNewest ++ le 2 w.blogDropped.toNat ++ le 4 w.rtcS.toNat ++ zeros 8 ++
    w.blog.flatMap BlogEntry.octets)

/-- BATTERY_LOG (0x8095). -/
def svcBatteryLog : Svc Octets := do
    capacity 2064
    let st ← getS
    pure (batteryLogOctets st)
/-- BATTERY_LOG (0x8095) on core k. -/
def execBatteryLog (k : CoreId) (s : State) : Outcome State Fault Refusal :=
  answer (runService s k.toNat 0x8095 false defaultWait svcBatteryLog)

/-! ### TAMPER_CONFIG and dry-fire (R533 to R536) -/

/-- TAMPER_CONFIG (0x8094): a new EXT_CFG in MAINTENANCE; `levels` are the inputs' levels now. -/
def svcTamperConfig (levels : BitVec 4) : Svc Octets := do
    needGrant
    inModes [.maintenance]
    let c ← getC
    let v : BitVec 16 := BitVec.ofNat 16 (u16 c.d.params 0)
    need ((List.range 4).all (fun n => !v.getLsbD (4 * n + 3))) badField
    need ((List.range 4).all (fun n => !(decide (extClass v n ≥ 2) && levels.getLsbD n == extHigh v n))) policyDenied
    capacity 0
    modC (fun c => { c with effects := c.effects ++ [Effect.extCfg v] })
    pure []
/-- TAMPER_CONFIG (0x8094) on core k. -/
def execTamperConfig (k : CoreId) (levels : BitVec 4) (s : State) : Outcome State Fault Refusal :=
  answer (runService s k.toNat 0x8094 false defaultWait (svcTamperConfig levels))

/-- DRY_FIRE (0x8093): opens the suppression window of one monitor; `raw` is its raw condition now.  The
command completes when the window ends. -/
def svcDryFire (raw : Bool) : Svc Octets := do
    journalled
    let v ← get
    match v.s.alarms.dryFire with
    | some d => if d.cmd = v.e then throw .hold else pure ()
    | none => pure ()
    inModes [.staged, .service, .standby, .maintenance]
    let n := u8 v.c.d.params 0
    need (decide (n ≤ 17) && monRuns v.s n) badField
    need (!raw) policyDenied
    need v.s.alarms.dryFire.isNone busyRetry
    capacity 16
    modS (fun s => { s with alarms := { s.alarms with dryFire := some { monitor := n, cmd := v.e } } })
    throw .hold
/-- DRY_FIRE (0x8093) on core k. -/
def execDryFire (k : CoreId) (raw : Bool) (s : State) : Outcome State Fault Refusal :=
  answer (runService s k.toNat 0x8093 false defaultWait (svcDryFire raw))

/-- The core on which a command-table entry runs. -/
def coreOf (s : State) (e : Nat) : Option Nat := coreNums.find? (fun k => (s.core k).cmd == some e)

/-- Complete a held service with a status and an output (R395). -/
def finishHeld (s : State) (e : Nat) (st : Code) (out : Octets) : State :=
  match s.cmd e with
  | none => s
  | some c =>
    if c.stage = .done then s
    else
      let need := out.length + trailerLen s c
      let c := if need > c.d.outCap.toNat then { c with served := true, status := st, output := zeros out.length, stateChanging := false, effects := [] }
               else { c with served := true, status := st, output := out }
      match coreOf s e with
      | some k => handOff (endTurn (s.setCmd e c) k) (srcCore k) e
      | none => handOff (s.setCmd e c) srcSupervisor e

/-- DRYFIRE_WINDOW_END: the window closes; the journal entry carries DRYFIRE; a condition that holds then raises
its alarm with DEFERRED; the command completes, and a failed result raises its alarm after the completion
write (R535, R536). -/
def execDryfireWindowEnd (detected cleared : Bool) (detectNs windowNs : BitVec 32) (raw : Bool) (unit : BitVec 16)
    (value : BitVec 32) (s : State) : Outcome State Fault Refusal :=
  answer (
    match s.alarms.dryFire with
    | none => s
    | some d =>
      let n := d.monitor
      let result := if !detected then 1 else if !cleared then 2 else 0
      let s := logAlarm s { cause := BitVec.ofNat 16 (0x0100 + n), cls := monClass s n, unit := unit.toNat, value := value, dryfire := true }
      let s := { s with alarms := { s.alarms with dryFire := none } }
      let s := s.setMonitor n { s.monitor n with tripped := raw }
      let s := if raw then
          raiseAlarm s { cause := BitVec.ofNat 16 (0x0100 + n), cls := monClass s n, unit := unit.toNat, value := value, deferred := true }
        else s
      let out := le 1 n ++ le 1 result ++ zeros 2 ++ le 4 detectNs.toNat ++ le 4 windowNs.toNat ++ zeros 4
      let s := match s.cmd d.cmd with
        | some c => if result ≠ 0 then s.setCmd d.cmd { c with after := .dryFail n } else s
        | none => s
      finishHeld s d.cmd stOk out)

/-! ### Officer quorum (R537 to R542) -/

/-- ROLE_MASK bit of an opcode of R537. -/
def quorumBit (op : Nat) : Option Nat :=
  if op = 0x8010 ∨ op = 0x8011 ∨ op = 0x8012 then some 0
  else if 0x8050 ≤ op ∧ op ≤ 0x8054 then some 1
  else if op = 0x8092 then some 2
  else if op = 0x8013 ∨ op = 0x8014 then some 3
  else if op = 0x8094 ∨ op = 0x8082 then some 4
  else none

/-- Modes in which the quorum services act (R538). -/
def quorumModes : List Mode := [.staged, .service, .standby, .maintenance, .locked, .diagnostic]

/-- QUORUM_CHALLENGE (0x8090). -/
def svcQuorumChallenge : Svc Octets := do
    journalled
    inModes quorumModes
    let i ← getIn
    need ((quorumBit (u16 i 0)).isSome && zeroAt i 2 6) badField
    let st ← getS
    need (decide (st.alarms.challenges.length < 4)) busyRetry
    capacity 168
    let nonce ← (if st.boot.mode == .locked || st.boot.mode == .diagnostic then do
        let v ← get
        let (o, t) := drawOctets v.s 32
        set { v with s := t }
        pure o
      else randomFrom 7 32)
    let st ← getS
    let vendor := st.warden.officers.isNone || u16 i 0 == 0x8014
    let (dg, m, n) := st.warden.officers.getD (zeros 48, 0, 0)
    let text := le 4 st.alarms.nextChallenge.toNat ++ slice i 0 2 ++ le 1 m ++ le 1 n ++ le 8 st.warden.serial.toNat ++
      nonce ++ le 8 (st.time.toNat + 600000000000) ++ le 1 st.boot.mode.code ++ le 1 st.warden.lc.code ++
      [if vendor then 1 else 0] ++ zeros 5 ++ fit 48 dg ++ slice i 8 8 ++ slice i 16 48
    let ch : Challenge :=
      { id := st.alarms.nextChallenge, opcode := BitVec.ofNat 16 (u16 i 0), cmdId := BitVec.ofNat 64 (u64 i 8),
        digest := slice i 16 48, text := text, needVendor := vendor }
    modS (fun s => { s with alarms := { s.alarms with
      nextChallenge := s.alarms.nextChallenge + 1, challenges := s.alarms.challenges ++ [ch] } })
    pure text
/-- QUORUM_CHALLENGE (0x8090) on core k. -/
def execQuorumChallenge (k : CoreId) (s : State) : Outcome State Fault Refusal :=
  answer (runService s k.toNat 0x8090 false defaultWait svcQuorumChallenge)

/-- Digest of an OFFICERS body with PREV_DIGEST zero (R40). -/
def officerDigest (body : Octets) : Octets := sha 48 (body.take 8 ++ zeros 48 ++ body.drop 0x38)

/-- ROLE_MASK and public key x ‖ y of officer i of an OFFICERS body. -/
def officerMask (body : Octets) (i : Nat) : Nat := u8 body (0x38 + 104 * i + 1)
def officerKey (body : Octets) (i : Nat) : Octets := slice body (0x38 + 104 * i + 8) 96

/-- An officers' mask as a list of indices. -/
def maskOf (l : List Nat) : BitVec 16 := BitVec.ofNat 16 (l.foldl (fun m i => m + 2 ^ i) 0)

/-- QUORUM_GRANT (0x8091): the checks of R540 in their order. -/
def svcQuorumGrant : Svc Octets := do
    journalled
    inModes quorumModes
    let i ← getIn
    let st ← getS
    let c ← getC
    let count := u8 i 4
    let (dg, m, n) := st.warden.officers.getD (zeros 48, 0, 0)
    let carried := !st.boot.applied && st.warden.officers.isSome
    let entry := fun (j : Nat) => slice i (8 + 104 * j) 104
    need (decide (1 ≤ count ∧ count ≤ 17) && zeroAt i 5 3 && (List.range count).all (fun j => zeroAt (entry j) 1 7)) badField
    need (i.length == 8 + 104 * count + (if carried then 0x38 + 104 * n else 0)) badLength
    let ch ← (match st.alarms.challenges.find? (fun x => x.id.toNat == u32 i 0) with
      | some ch => pure ch
      | none => fail authFailed)
    modS (fun s => { s with alarms := { s.alarms with challenges := s.alarms.challenges.filter (fun x => x.id ≠ ch.id) } })
    let body := if carried then i.drop (8 + 104 * count) else st.boot.officers
    need (!carried || officerDigest body == dg) authFailed
    let ids := (List.range count).map (fun j => u8 (entry j) 0)
    need ((distinct ids).length == ids.length && ids.all (fun x => x == 0xFF || decide (x < n))) badField
    let msg := sha 48 (ascii "PRK3680-QUORUM" ++ ch.text)
    need ((List.range count).all (fun j =>
      let x := u8 (entry j) 0
      verifyP384 (if x = 0xFF then Config.fieldAccessKey else officerKey body x) msg (slice (entry j) 8 96))) authFailed
    let bit := (quorumBit ch.opcode.toNat).getD 0
    let counted := ids.filter (fun x => x != 0xFF && (officerMask body x).testBit bit)
    let officersNeeded := st.warden.officers.isSome && (ch.opcode != 0x8014 || st.warden.lc == .commissioned)
    need ((!ch.needVendor || ids.contains 0xFF) && (!officersNeeded || decide (counted.length ≥ m))) quorumRequired
    capacity 0
    let g : Grant :=
      { portB := c.fn.portB, opcode := ch.opcode, cmdId := ch.cmdId, digest := ch.digest, officers := maskOf counted }
    modS (fun s => { s with alarms := { s.alarms with grants := s.alarms.grants ++ [g] } })
    pure []
/-- QUORUM_GRANT (0x8091) on core k. -/
def execQuorumGrant (k : CoreId) (s : State) : Outcome State Fault Refusal :=
  answer (runService s k.toNat 0x8091 false defaultWait svcQuorumGrant)

/-- CHALLENGE_EXPIRY: a challenge lapses (R538). -/
def execChallengeExpiry (id : BitVec 32) (s : State) : Outcome State Fault Refusal :=
  answer { s with alarms := { s.alarms with challenges := s.alarms.challenges.filter (fun x => x.id ≠ id) } }

/-- GRANT_EXPIRY: a grant lapses unconsumed (R540). -/
def execGrantExpiry (portB : Bool) (opcode : Code) (cmdId : BitVec 64) (s : State) : Outcome State Fault Refusal :=
  answer { s with alarms := { s.alarms with
    grants := s.alarms.grants.filter (fun g => !(g.portB == portB && g.opcode == opcode && g.cmdId == cmdId)) } }

/-! ### UNLOCK (R543, R544) -/

/-- Journal a mode change that a reset makes later, and log the service in the battery log (R530, R544, R546). -/
def modeRecord (s : State) (next : Mode) (op : Code) : State :=
  journalNow (blogRecord s op) 5 ([BitVec.ofNat 8 s.boot.mode.code, BitVec.ofNat 8 next.code] ++ le 2 op.toNat)

/-- UNLOCK (0x8092). -/
def svcUnlock : Svc Octets := do
    needGrant
    inModes [.locked]
    let i ← getIn
    let st ← getS
    let w := st.warden
    need (u32 i 0 == w.lockSeq.toNat && u16 i 4 == w.lockCause.toNat && zeroAt i 6 2 && slice i 8 12 == w.lockPm.octets &&
      zeroAt i 0x14 44) badField
    capacity 0
    modS (fun s => modeRecord { s with warden := { s.warden with lockRec := false } } .boot 0x8092)
    modC (fun c => { c with after := .unlock })
    pure []
/-- UNLOCK (0x8092) on core k. -/
def execUnlock (k : CoreId) (s : State) : Outcome State Fault Refusal :=
  answer (runService s k.toNat 0x8092 false defaultWait svcUnlock)

/-- UNLOCK_RESET: the warm reset that follows UNLOCK's completion; its MODE entry is already journalled
(R544). -/
def execUnlockReset (s : State) : Outcome State Fault Refusal :=
  answer (
    if !s.boot.unlockDue then s
    else warmReset { s with boot := { s.boot with mode := .boot } } 0x8092)

end Sys2Proof.Machine
end

