-- ==== Sys2Proof/Machine/Slots.lean ====
section
/-! DEFINITION. Tenant slots: creation, quiescing, resuming, destruction, dirty-page logging, save and restore
(R435 to R455, R604). -/

namespace Sys2Proof.Machine

open Host

/-! ### Pools (R437) -/

/-- Slots that a command in flight is about to install. -/
def pendingSlots (s : State) : List (Nat × SlotFields) :=
  s.so.cmds.flatMap (fun x => x.2.effects.filterMap (fun f =>
    match f with
    | .slotCreate n g => some (n, g)
    | .slotRestore n g _ _ => some (n, g)
    | _ => none))

/-- Every slot that takes from the pools. -/
def heldSlots (s : State) : List (Nat × SlotFields) := s.slots.table.map (fun x => (x.1, x.2.f)) ++ pendingSlots s

/-- The lowest position, a multiple of `align`, at which n units fit between lo and hi beside the runs taken
(R437). -/
def lowestRun (lo hi n align : Nat) (runs : List (Nat × Nat)) : Option Nat :=
  let starts := lo :: runs.map (fun r => ceilDiv (r.1 + r.2) align * align)
  let fits (a : Nat) : Bool :=
    decide (lo ≤ a) && decide (a + n ≤ hi) && runs.all (fun r => decide (a + n ≤ r.1 ∨ r.1 + r.2 ≤ a))
  argMin id (starts.filter fits)

/-- Octets of a data area. -/
def dataSize (log2 : Nat) : Nat := if log2 = 0 then 0 else 2 ^ log2

/-- The fields completed with what the pools give, unless one cannot supply the slot (R437, R440 step 4). -/
def takeFromPools (s : State) (f : SlotFields) : Option SlotFields :=
  let l := (heldSlots s).map (·.2)
  let phs := lowestRun 64 (64 + s.boot.phPool) f.phCount 1 (l.map (fun g => (g.phBase, g.phCount)))
  let ctrs := if f.ctrCount = 0 then some 0
    else lowestRun 0 s.boot.ctrPool f.ctrCount 1 ((l.filter (fun g => decide (g.ctrCount > 0))).map (fun g => (g.ctrBase, g.ctrCount)))
  let data := if f.dataLog2 = 0 then some 0
    else lowestRun 0x70000000 0x78000000 (2 ^ f.dataLog2) (2 ^ f.dataLog2)
      ((l.filter (fun g => decide (g.dataLog2 > 0))).map (fun g => (g.dataBase, 2 ^ g.dataLog2)))
  let cacheOk := decide ((l.map (·.cacheShare)).sum + f.cacheShare ≤ s.boot.cachePool)
  match phs, ctrs, data with
  | some p, some c, some d => if cacheOk then some { f with phBase := p, ctrBase := c, dataBase := d } else none
  | _, _, _ => none

/-! ### The checks of R440 -/

/-- Is the slot number a VF of its port under the SLOTS value in force? (R39, R67) -/
def slotNumberOk (s : State) (n : Nat) : Bool :=
  if n < 256 then decide (n < s.boot.slotsA) else decide (n < 512 ∧ n - 256 < s.boot.slotsB)

/-- The policy entry with an ID, if the POLICY record has it. -/
def policyById (s : State) (id : Nat) : Option Octets :=
  ((List.range (u8 s.boot.policy 0)).map (fun i => slice s.boot.policy (8 + 64 * i) 64)).find? (fun e => u8 e 0 == id)

/-- CMDSET_MASK of a slot with a policy entry (R439). -/
def maskOfPolicy (s : State) (id : Nat) : Nat :=
  12 + (if u16 ((policyById s id).getD []) 2 / 4 ^ 7 % 4 = 2 then 2 else 0)

/-- Ranges of the fields that both services take (R437, R440 step 1). -/
def slotRangesOk (s : State) (n : Nat) (f : SlotFields) (policy : Nat) : Bool :=
  slotNumberOk s n && decide (policy < 64) && (policyById s policy).isSome && decide (1 ≤ f.maxPrio ∧ f.maxPrio ≤ 7) &&
  decide (1 ≤ f.weight ∧ f.weight ≤ 64) && decide (f.dataLog2 = 0 ∨ (16 ≤ f.dataLog2 ∧ f.dataLog2 ≤ 26)) &&
  decide (8 ≤ f.cacheShare ∧ f.cacheShare ≤ 4194304) && decide (1 ≤ f.phCount ∧ f.phCount ≤ 64) && decide (f.ctrCount ≤ 65536)

/-- Step 2 of R440: the slot is taken, or another slot holds its tenant number and domain. -/
def slotTaken (s : State) (n : Nat) (f : SlotFields) : Bool :=
  (heldSlots s).any (fun x => x.1 == n || (x.2.tenant == f.tenant && x.2.domain == f.domain))

/-- Step 5 of R440: the slot's entry would fail arming together with the base and command entries. -/
def slotArmFails (s : State) (e : Nat) (f : SlotFields) : Bool :=
  f.dataLog2 != 0 && (List.range 8).any (fun g =>
    armCheck ((baseEntries s g).map (·.2) ++ region f.dataBase f.dataLog2 true true false :: (commandEntries e g).map (·.2)) != 0)

/-- Steps 4 to 6 of R440: the pools, the rule-table entry, and the tenant's DRBG instance. -/
def takeSlot (n : Nat) (f : SlotFields) : Svc SlotFields := do
  let v ← get
  let f ← (match takeFromPools v.s f with | some g => pure g | none => fail slotPoolExhausted)
  need (!slotArmFails v.s v.e f) badField
  need (!v.s.entropy.failed) entropyFailed
  if !canInstantiate v.s then throw (.wait (24 + n)) else pure ()
  capacity 16
  modS (fun s => instantiate s (24 + n) f.tenant.toNat)
  pure f

/-- Output of SLOT_CREATE and SLOT_RESTORE. -/
def slotOutput (f : SlotFields) (mask : Nat) : Octets :=
  le 2 f.phBase ++ le 2 f.ctrBase ++ le 4 f.dataBase ++ le 1 mask ++ zeros 7

/-- SLOT_CREATE (0x8070): the checks of R440; the slot is installed at the commit (R441). -/
def svcSlotCreate : Svc Octets := do
    inModes [.service]
    let i ← getIn
    let st ← getS
    let n := u16 i 0
    let f : SlotFields :=
      { tenant := BitVec.ofNat 16 (u16 i 2), domain := BitVec.ofNat 4 (u8 i 4), policyId := BitVec.ofNat 6 (u8 i 5),
        phCount := if u8 i 6 = 0 then 8 else u8 i 6, maxPrio := u8 i 7, weight := u16 i 8, dataLog2 := u8 i 10,
        cacheShare := u32 i 12, ctrCount := u32 i 16 }
    need (slotRangesOk st n f (u8 i 5) && decide (u16 i 2 ≠ 0xFFFF) && decide (u8 i 4 < 16) && zeroAt i 11 1 && zeroAt i 0x14 44)
      badField
    need (!slotTaken st n f) policyDenied
    need (drInstalled st f.domain.toNat) keyNotFound
    let f ← takeSlot n f
    modC (fun c => { c with effects := c.effects ++ [Effect.slotCreate n f] })
    pure (slotOutput f (maskOfPolicy st (u8 i 5)))
/-- SLOT_CREATE (0x8070) on core k. -/
def execSlotCreate (k : CoreId) (s : State) : Outcome State Fault Refusal :=
  answer (runService s k.toNat 0x8070 false defaultWait svcSlotCreate)

/-! ### Quiescing, resuming, destroying (R442 to R444, R604) -/

/-- The slot that the inline parameters name: allocated, or BAD_FIELD (R604). -/
def namedSlot (n : Nat) : Svc Slot := do
  let st ← getS
  match lookup st.slots.table n with
  | some x => if n < 512 then pure x else fail badField
  | none => fail badField

/-- A pigeonhole as SLOT_QUIESCE leaves it: no credit, its resume state recorded (R442). -/
def quiescePh (s : State) (n : Nat) : State :=
  let p := { s.ph n with credits := 0 }
  match p.state with
  | .ready => s.setPh n { p with state := .quiesced, resume := .ready, recTail := none, recHead := none }
  | .closing => s.setPh n { p with state := .quiesced, resume := .ready, recTail := none, recHead := none }
  | .opened => s.setPh n { p with state := .quiesced, resume := .opened, recTail := none, recHead := none }
  | _ => s.setPh n p

/-- SLOT_QUIESCE (0x8072): the slot enters QUIESCING, and the command completes when the drain ends. -/
def svcSlotQuiesce : Svc Octets := do
    inModes [.service]
    let v ← get
    let n := u16 v.c.d.params 0
    let x ← namedSlot n
    match x.state with
    | .active =>
      capacity 0
      modS (fun s => (slotPhs s n).foldl quiescePh (s.setSlot n { x with state := .quiescing, quiesceBy := some v.e }))
      throw .hold
    | .destroying => fail cancelledSt
    | _ => if x.quiesceBy = some v.e then throw .hold else fail slotQuiesced
/-- SLOT_QUIESCE (0x8072) on core k. -/
def execSlotQuiesce (k : CoreId) (s : State) : Outcome State Fault Refusal :=
  answer (runService s k.toNat 0x8072 false defaultWait svcSlotQuiesce)

/-- Has the slot a command between fetch and completion write? -/
def slotBusy (s : State) (n : Nat) : Bool := s.so.cmds.any (fun x => x.2.slot == n)

/-- QUIESCE_DRAIN_END: no command of a quiescing slot is left, so it enters QUIESCED and its SLOT_QUIESCE
completes (R442). -/
def execQuiesceDrainEnd (slot : Nat) (s : State) : Outcome State Fault Refusal :=
  answer (
    match lookup s.slots.table slot with
    | none => s
    | some x =>
      if x.state ≠ .quiescing || slotBusy s slot then s
      else
        let s := s.setSlot slot { x with state := .quiesced, quiesceBy := none }
        match x.quiesceBy with
        | some e => finishHeld s e stOk []
        | none => s)

/-- SLOT_RESUME (0x8073): acts on a QUIESCED slot at its commit (R443). -/
def svcSlotResume : Svc Octets := do
    inModes [.service]
    let c ← getC
    let n := u16 c.d.params 0
    let x ← namedSlot n
    capacity 0
    match x.state with
    | .active => pure []
    | .quiescing => fail busyRetry
    | .destroying => fail cancelledSt
    | .quiesced =>
      modC (fun c => { c with effects := c.effects ++ [Effect.slotResume n] })
      pure []
/-- SLOT_RESUME (0x8073) on core k. -/
def execSlotResume (k : CoreId) (s : State) : Outcome State Fault Refusal :=
  answer (runService s k.toNat 0x8073 false defaultWait svcSlotResume)

/-- Commands in placement order: those never placed come last, in fetch order (R125, R138). -/
def placedOrder : List (Nat × Cmd) → List (Nat × Cmd)
  | [] => []
  | x :: t => ins x (placedOrder t)
where
  /-- Rank of a command. -/
  rank (c : Cmd) : Nat × Nat := (if c.stage = .pending then 1 else 0, if c.stage = .pending then c.fetchNo else c.order)
  /-- Put a command among ordered ones. -/
  ins (x : Nat × Cmd) : List (Nat × Cmd) → List (Nat × Cmd)
    | [] => [x]
    | y :: t =>
      let a := rank x.2
      let b := rank y.2
      if a.1 < b.1 ∨ (a.1 = b.1 ∧ a.2 ≤ b.2) then x :: y :: t else y :: ins x t

/-- Complete every command of a kind that is not dispatched in the sense of R138, in placement order
(R138, R140). -/
def endUndispatched (s : State) (which : Cmd → Bool) (st : Code) : State :=
  let l := s.so.cmds.filter (fun x => which x.2 && !countsDispatched x.2)
  (placedOrder l).foldl (fun s x => completeWith (unselect s x.1) x.1 st) s

/-- SLOT_DESTROY acts: undispatched commands are CANCELLED, a SLOT_QUIESCE that waits is CANCELLED, and the
slot fetches nothing (R138, R444, R455). -/
def beginDestroy (s : State) (n e : Nat) (x : Slot) : State :=
  let s := s.setSlot n { x with state := .destroying, quiesceBy := none, destroyBy := some e }
  let s := (slotPhs s n).foldl (fun s m => s.setPh m { s.ph m with credits := 0 }) s
  let s := endUndispatched s (fun c => c.slot == n) cancelledSt
  match x.quiesceBy with
  | some q => finishHeld s q cancelledSt []
  | none => s

/-- SLOT_DESTROY (0x8071). -/
def svcSlotDestroy : Svc Octets := do
    inModes [.service]
    let v ← get
    let n := u16 v.c.d.params 0
    let x ← namedSlot n
    if x.state = .destroying then (if x.destroyBy = some v.e then throw .hold else fail busyRetry)
    else
      capacity 0
      modS (fun s => beginDestroy s n v.e x)
      throw .hold
/-- SLOT_DESTROY (0x8071) on core k. -/
def execSlotDestroy (k : CoreId) (s : State) : Outcome State Fault Refusal :=
  answer (runService s k.toNat 0x8071 false defaultWait svcSlotDestroy)

/-- SLOT_CLEANUP_END: the last dispatched command of a destroyed slot has completed; the slot is freed and its
SLOT_DESTROY completes (R444). -/
def execSlotCleanupEnd (slot : Nat) (s : State) : Outcome State Fault Refusal :=
  answer (
    match lookup s.slots.table slot with
    | none => s
    | some x =>
      if x.state ≠ .destroying || s.so.cmds.any (fun c => c.2.slot == slot && c.2.status != cancelledSt) then s
      else
        let s := releaseSlot s slot
        match x.destroyBy with
        | some e => finishHeld s e stOk []
        | none => s)

/-! ### Dirty-page logging (R446 to R448) -/

/-- Output of DIRTY_LOG. -/
def dirtyOutput (active ovf : Bool) (setBits : Nat) : Octets :=
  [if active then 1 else 0, if ovf then 1 else 0] ++ zeros 6 ++ le 4 setBits ++ zeros 4

/-- The checks that the actions of DIRTY_LOG share, then the action's own part (R447). -/
def svcDirty (body : Octets → Nat → Slot → Svc Octets) : Svc Octets := do
    inModes [.service]
    let i ← getIn
    let n := u16 i 0
    let a := u8 i 2
    need (decide (1 ≤ a ∧ a ≤ 3) && zeroAt i 3 1 && zeroAt i 0x20 32) badField
    let x ← namedSlot n
    if a = 1 then
      need (decide (1 ≤ u32 i 4 ∧ u32 i 4 ≤ 2 ^ 28) && [8, 16, 24].all (fun o => decide (u64 i o % 4096 = 0))) badField
    else need (zeroAt i 4 28) badField
    need (decide (x.state ≠ .destroying)) cancelledSt
    need (x.dirtyEn == decide (a ≠ 1)) badField
    capacity 16
    body i n x

/-- Run DIRTY_LOG for the actions that a row covers. -/
def runDirty (s : State) (k : Nat) (covers : Nat → Bool) (body : Octets → Nat → Slot → Svc Octets) : State :=
  match running s k with
  | none => s
  | some (_, c) =>
    if !covers (u8 c.input 2) then s
    else runService s k 0x8076 false defaultWait (svcDirty body)

/-- LOG_ENABLE: DIRTY_LOG with ACTION 1 starts logging into BITMAP_A; an ACTION that is none fails here
(R447). -/
def svcLogEnable (i : Octets) (n : Nat) (x : Slot) : Svc Octets := do
    let y := { x with dirtyEn := true, dirtyBase := BitVec.ofNat 64 (u64 i 8), dirtyPages := u32 i 4, dirtyOvf := false,
                      dirtyBits := [], dirtySel := false, bitmapA := BitVec.ofNat 64 (u64 i 16),
                      bitmapB := BitVec.ofNat 64 (u64 i 24) }
    modS (fun s => s.setSlot n y)
    pure (dirtyOutput false false 0)
/-- LOG_ENABLE on core k. -/
def execLogEnable (k : CoreId) (s : State) : Outcome State Fault Refusal :=
  answer (runDirty s k.toNat (fun a => a != 2 && a != 3) svcLogEnable)

/-- HARVEST: DIRTY_LOG with ACTION 2 switches to the other bitmap and reports the one retired (R447). -/
def svcHarvest (_i : Octets) (n : Nat) (x : Slot) : Svc Octets := do
    modS (fun s => s.setSlot n { x with dirtySel := !x.dirtySel, dirtyBits := [], dirtyOvf := false })
    pure (dirtyOutput (!x.dirtySel) x.dirtyOvf x.dirtyBits.length)
/-- HARVEST on core k. -/
def execHarvest (k : CoreId) (s : State) : Outcome State Fault Refusal :=
  answer (runDirty s k.toNat (fun a => a == 2) svcHarvest)

/-- LOG_DISABLE: DIRTY_LOG with ACTION 3 ends logging (R447). -/
def svcLogDisable (_i : Octets) (n : Nat) (x : Slot) : Svc Octets := do
    modS (fun s => s.setSlot n { x with dirtyEn := false, dirtyBits := [] })
    pure (dirtyOutput x.dirtySel x.dirtyOvf 0)
/-- LOG_DISABLE on core k. -/
def execLogDisable (k : CoreId) (s : State) : Outcome State Fault Refusal :=
  answer (runDirty s k.toNat (fun a => a == 3) svcLogDisable)

/-! ### SLOT_SAVE and SLOT_RESTORE (R449 to R453) -/

/-- Key of a blob (R450). -/
def blobKey (root : Octets) (tenant domain : Nat) (salt : Octets) : Octets :=
  kdf root (ascii "PRK3680-SLOTBLOB" ++ be 2 tenant ++ be 1 domain ++ salt) 256

/-- BODY_LEN (R449). -/
def blobBodyLen (phCount ctrCount : Nat) : Nat := 1152 + 64 * phCount + 16 * ctrCount

/-- Body of a blob (R449). -/
def blobBody (s : State) (n : Nat) (x : Slot) : Octets :=
  let d := (lookup s.entropy.insts (24 + n)).getD {}
  let fn := fnOfSlot n
  fit 16 d.v ++ fit 32 d.key ++ le 8 (d.requests + 1) ++ zeros 8 ++ msixOctets s fn ++ msixPending s fn ++ zeros 56 ++
  (List.range x.f.phCount).flatMap (fun i => (s.ph (x.f.phBase + i)).record) ++
  (List.range x.f.ctrCount).flatMap (fun i => ctrOctets (lookup s.keys.counters (x.f.ctrBase + i)))

/-- Header of a blob. -/
def blobHeader (s : State) (n : Nat) (x : Slot) (check : Octets) (pm : Postmark) (salt : Octets) : Octets :=
  let body := blobBodyLen x.f.phCount x.f.ctrCount
  le 4 0x51075A7E ++ le 2 1 ++ zeros 2 ++ le 4 (128 + body + 16) ++ le 2 x.f.tenant.toNat ++ le 1 x.f.domain.toNat ++
  le 1 x.f.phCount ++ fit 8 check ++ le 8 s.warden.serial.toNat ++ pm.octets ++ le 4 x.f.ctrCount ++
  fit 8 (s.keys.pairEpoch.getD []) ++ fit 8 (((lookup s.keys.aliases n).getD []).headD []) ++ fit 32 salt ++ le 4 body ++
  zeros 28

/-- SLOT_SAVE (0x8074). -/
def svcSlotSave : Svc Octets := do
    journalled
    inModes [.service]
    let c ← getC
    let n := u16 c.d.params 0
    let x ← namedSlot n
    match x.state with
    | .active => fail policyDenied
    | .quiescing => fail busyRetry
    | .destroying => fail cancelledSt
    | .quiesced =>
      capacity (144 + blobBodyLen x.f.phCount x.f.ctrCount)
      let salt ← random 32
      let v ← get
      let (pm, s) := stamp v.s srcSupervisor
      set { v with s := s }
      let r := (lookup s.warden.roots x.f.domain.toNat).getD {}
      let head := blobHeader s n x r.check pm salt
      let (ct, tag) := gcmEnc (blobKey r.root x.f.tenant.toNat x.f.domain.toNat salt) (gcmJ0 (zeros 12)) head (blobBody s n x)
      pure (head ++ ct ++ tag)
/-- SLOT_SAVE (0x8074) on core k. -/
def execSlotSave (k : CoreId) (s : State) : Outcome State Fault Refusal :=
  answer (runService s k.toNat 0x8074 false defaultWait svcSlotSave)

/-- SLOT_RESTORE (0x8075): the checks of R452; the slot is installed at the commit (R453). -/
def svcSlotRestore : Svc Octets := do
    inModes [.service]
    let i ← getIn
    let st ← getS
    let n := u16 i 0
    let head := slice i 64 128
    let f : SlotFields :=
      { tenant := BitVec.ofNat 16 (u16 head 0x0C), domain := BitVec.ofNat 4 (u8 head 0x0E), policyId := BitVec.ofNat 6 (u8 i 2),
        phCount := u8 head 0x0F, maxPrio := u8 i 3, weight := u16 i 4, dataLog2 := u8 i 6, cacheShare := u32 i 8,
        ctrCount := u32 head 0x2C }
    need (slotRangesOk st n f (u8 i 2) && zeroAt i 7 1 && zeroAt i 12 52 && u32 head 0 == 0x51075A7E && u16 head 4 == 1 &&
      zeroAt head 6 2 && zeroAt head 0x64 28 && decide (u16 head 0x0C ≠ 0xFFFF) && decide (u8 head 0x0E < 16)) badField
    let len := blobBodyLen f.phCount f.ctrCount
    need (decide (u32 head 0x60 = len ∧ u32 head 8 = 128 + len + 16 ∧ i.length = 64 + 128 + len + 16)) badLength
    need (!slotTaken st n f) policyDenied
    let r ← (match lookup st.warden.roots f.domain.toNat with | some r => pure r | none => fail keyNotFound)
    need (fit 8 r.check == slice head 0x10 8) keyDomainMismatch
    let (body, tag) := gcmDec (blobKey r.root f.tenant.toNat f.domain.toNat (slice head 0x40 32)) (gcmJ0 (zeros 12)) head
      (slice i 192 len)
    need (tag == slice i (192 + len) 16) authFailed
    let mask := maskOfPolicy st (u8 i 2)
    need ((List.range f.phCount).all (fun j =>
      let v := (Ph.ofRecord (slice body (0x480 + 64 * j) 64)).version.toNat
      v == 0 || mask.testBit v)) badVersion
    let f ← takeSlot n f
    modC (fun c => { c with effects := c.effects ++ [Effect.slotRestore n f head body] })
    pure (slotOutput f mask)
/-- SLOT_RESTORE (0x8075) on core k. -/
def execSlotRestore (k : CoreId) (s : State) : Outcome State Fault Refusal :=
  answer (runService s k.toNat 0x8075 false defaultWait svcSlotRestore)

/-! ### Slot table window -/

/-- The words at 0x2004 to 0x202C for a slot; an unallocated one reads zero. -/
def slotWords (s : State) (n : Nat) : Octets :=
  match (if n < 512 then lookup s.slots.table n else none) with
  | none => zeros 44
  | some x =>
    let f := x.f
    let flag (b : Bool) (i : Nat) : Nat := if b then 2 ^ i else 0
    le 4 (1 + 2 * x.state.code + flag x.dirtyEn 3 + flag x.dirtySel 4 + flag x.dirtyOvf 5) ++
    le 4 (f.tenant.toNat + 2 ^ 16 * f.domain.toNat + 2 ^ 20 * f.policyId.toNat) ++
    le 4 (f.phBase + 2 ^ 12 * f.phCount + 2 ^ 19 * f.maxPrio) ++ le 4 (f.weight + 2 ^ 8 * f.dataLog2) ++ le 4 f.dataBase ++
    le 4 f.cacheShare ++ le 4 (s.keys.cache.filter (fun e => e.slot == n)).length ++ le 4 f.ctrBase ++ le 4 f.ctrCount ++
    le 4 (s.keys.counters.filter (fun e => decide (f.ctrBase ≤ e.1 ∧ e.1 < f.ctrBase + f.ctrCount))).length ++
    le 4 (s.so.cmds.filter (fun c => c.2.slot == n)).length

/-- SLOT_TAB_SEL: a write copies the selected slot's fields (R437). -/
def execSlotTabSel (portB : Bool) (value : BitVec 10) (s : State) : Outcome State Fault Refusal :=
  answer (s.setPort portB { s.port portB with slotTabSel := value, snapSlot := slotWords s value.toNat })

/-- COUNTER_READ (0x8040): one counter-table entry (R298). -/
def svcCounterRead : Svc Octets := do
    let c ← getC
    let st ← getS
    let x ← namedSlot (u16 c.d.params 0)
    let cnum := u16 c.d.params 2
    need (decide (cnum < x.f.ctrCount)) badField
    capacity 16
    pure (ctrOctets (lookup st.keys.counters (x.f.ctrBase + cnum)))
/-- COUNTER_READ (0x8040) on core k. -/
def execCounterRead (k : CoreId) (s : State) : Outcome State Fault Refusal :=
  answer (runService s k.toNat 0x8040 false defaultWait svcCounterRead)

end Sys2Proof.Machine
end

