-- ==== Sys2Proof/Machine/Ceremony.lean ====
section
/-! DEFINITION. The domain-root ceremony (R317 to R322). -/

namespace Sys2Proof.Machine

open Host

/-! ### Shamir's scheme over GF(2^8) (R318) -/

/-- Product modulo x^8 + x^4 + x^3 + x + 1, over the low n bits of b. -/
def gfMulN : Nat → Nat → Nat → Nat
  | 0, _, _ => 0
  | n + 1, a, b =>
    let d := 2 * a
    (if b % 2 = 1 then a else 0) ^^^ gfMulN n (if d ≥ 256 then d ^^^ 0x11B else d) (b / 2)
def gfMul (a b : Nat) : Nat := gfMulN 8 a b

/-- Inverse: the power 254. -/
def gfInv (a : Nat) : Nat := (List.range 253).foldl (fun r _ => gfMul r a) a

/-- A polynomial at x, constant term first. -/
def gfEval (x : Nat) : List Nat → Nat
  | [] => 0
  | c :: t => c ^^^ gfMul x (gfEval x t)

/-- The share value of x: each root octet with its own coefficients, `coef` holding M − 1 rows of 32. -/
def shareValue (root : Octets) (coef : Octets) (m x : Nat) : Octets :=
  (List.range 32).map (fun j =>
    BitVec.ofNat 8 (gfEval x (u8 root j :: (List.range (m - 1)).map (fun i => u8 coef (32 * i + j)))))

/-- Lagrange weight at 0 of x among the x's of a set. -/
def gfWeight (xs : List Nat) (x : Nat) : Nat :=
  (xs.filter (· ≠ x)).foldl (fun w y => gfMul w (gfMul y (gfInv (x ^^^ y)))) 1

/-- The root that shares (x, value) give by interpolation at 0. -/
def combineShares (l : List (Nat × Octets)) : Octets :=
  let xs := l.map (·.1)
  (List.range 32).map (fun j =>
    BitVec.ofNat 8 (l.foldl (fun a s => a ^^^ gfMul (gfWeight xs s.1) (u8 s.2 j)) 0))

/-! ### Objects of the ceremony (R317) -/

/-- DR check value. -/
def drCheck (root : Octets) : Octets := kdf root (ascii "PRK3680-DR-CHECK") 64

/-- Share plaintext, 48 octets. -/
def sharePlain (x index m n : Nat) (value check : Octets) : Octets :=
  le 1 x ++ le 1 index ++ le 1 m ++ le 1 n ++ zeros 4 ++ fit 32 value ++ fit 8 check

/-- SIV key of a wrapped share, from a private scalar and the peer's point. -/
def shareKey (priv : Nat) (peer : Point) (sender receiver : Octets) : Octets :=
  oneStep ((encodePoint p384 (ecMul p384 priv peer)).drop 1 |>.take 48) (ascii "PRK-SHARE" ++ sender ++ receiver) 64

/-- A private scalar on brainpoolP384r1 from a draw of 56 octets. -/
def scalarDraw (o : Octets) : Nat := beNat o % (p384.n - 1) + 1

/-- Sign with the identity key, the nonce hedged from the cluster's instance, or deterministic in entropy
failure (R260, R323, R339, R347). -/
def identitySign (k : Nat) (msg : Octets) : Svc Octets := do
  let st ← getS
  let kp ← (if st.entropy.failed then pure [] else randomFrom (k / 16) 48)
  pure (signP384 (st.warden.identity.getD []) (sha 48 msg) kp)

/-- The open ceremony, or MODE_REFUSED (R321). -/
def openCeremony : Svc Ceremony := do
  let st ← getS
  match st.keys.ceremony with
  | some c => pure c
  | none => fail modeRefused

def setCeremony (c : Ceremony) : Svc Unit := modS (fun s => { s with keys := { s.keys with ceremony := some c } })

/-- Key x ‖ y of officer i of the applied set; BAD_FIELD for one that it has not (log entry 34). -/
def officerOf (i : Nat) : Svc Octets := do
  let st ← getS
  need (decide (i < u8 st.boot.officers 0)) badField
  pure (officerKey st.boot.officers i)

/-- What every ceremony service begins with: its grant, its journal entry, MAINTENANCE. -/
def ceremonyStart : Svc Unit := do
  needGrant
  journalled
  inModes [.maintenance]

/-- CEREMONY_BEGIN (0x8050): the refusals of R319; a generating ceremony draws the root and computes the
shares at once. -/
def svcCeremonyBegin (k : CoreId) : Svc Octets := do
    ceremonyStart
    let i ← getIn
    let st ← getS
    let idx := u8 i 0
    let load := u8 i 1 == 2
    let m := u8 i 2
    let n := u8 i 3
    let legacy := (u8 i 4).testBit 0
    need (decide (idx < 16 ∧ (u8 i 1 = 1 ∨ u8 i 1 = 2) ∧ u8 i 4 < 2) && zeroAt i 5 3 && (load || zeroAt i 8 8)) badField
    need (!drInstalled st idx) policyDenied
    let officers := (st.warden.officers.map (fun x => x.2.2)).getD 0
    need (decide (2 ≤ m ∧ m ≤ n ∧ n ≤ 16 ∧ n ≤ officers)) badField
    need (load || !legacy) badField
    need st.keys.ceremony.isNone busyRetry
    capacity 224
    let id ← randomFrom 6 16
    let d ← randomFrom 6 56
    let root ← (if load then pure [] else randomFrom 6 32)
    let coef ← (if load then pure [] else randomFrom 6 (32 * (m - 1)))
    let priv := scalarDraw d
    let pub := publicP384 (be 48 priv)
    let check := drCheck root
    let shares := if load then [] else (List.range n).map (fun j => (j + 1, shareValue root coef m (j + 1), check))
    let text := id ++ pub ++ zeros 15
    let sig ← identitySign k.toNat text
    setCeremony { id := id, index := idx, isLoad := load, m := m, n := n, legacy := legacy, expect := slice i 8 8,
                  priv := be 48 priv, pub := pub, root := root, shares := shares }
    pure (text ++ sig)
/-- CEREMONY_BEGIN (0x8050) on core k. -/
def execCeremonyBegin (k : CoreId) (s : State) : Outcome State Fault Refusal :=
  answer (runService s k.toNat 0x8050 false defaultWait (svcCeremonyBegin k))

/-- SHARE_EXPORT (0x8051): each share once, wrapped to the point of the officer who signs for it (R319). -/
def svcShareExport : Svc Octets := do
    ceremonyStart
    let c ← openCeremony
    let i ← getIn
    let idx := u8 i 0
    need (zeroAt i 1 7 && !c.isLoad && decide (idx < c.n) && !c.exported.contains (idx + 1)) badField
    let key ← officerOf idx
    let point := slice i 8 97
    need (verifyP384 key (sha 48 (c.id ++ point)) (slice i 105 96)) authFailed
    let peer ← liftE (decodePoint p384 point)
    capacity 161
    let d ← randomFrom 6 56
    let eph := publicP384 (be 48 (scalarDraw d))
    match c.shares.find? (fun x => x.1 == idx + 1) with
    | none => fail badField
    | some (x, v, chk) =>
      let wrapped := sivEnc (shareKey (scalarDraw d) peer eph point) [] (sharePlain x c.index c.m c.n v chk)
      setCeremony { c with exported := c.exported ++ [x] }
      pure (eph ++ wrapped)
/-- SHARE_EXPORT (0x8051) on core k. -/
def execShareExport (k : CoreId) (s : State) : Outcome State Fault Refusal :=
  answer (runService s k.toNat 0x8051 false defaultWait svcShareExport)

/-- SHARE_SUBMIT (0x8052): a share that agrees with the ceremony, each x once (R319). -/
def svcShareSubmit : Svc Octets := do
    ceremonyStart
    let c ← openCeremony
    let i ← getIn
    let idx := u8 i 0
    need (zeroAt i 1 7 && c.isLoad) badField
    let key ← officerOf idx
    let point := slice i 8 97
    let wrapped := slice i 105 64
    need (verifyP384 key (sha 48 (c.id ++ point ++ wrapped)) (slice i 169 96)) authFailed
    let peer ← liftE (decodePoint p384 point)
    match sivDec (shareKey (beNat c.priv) peer point c.pub) [] wrapped with
    | none => fail badField
    | some p =>
      let x := u8 p 0
      need (decide (u8 p 1 = c.index ∧ u8 p 2 = c.m ∧ u8 p 3 = c.n ∧ 1 ≤ x ∧ x ≤ c.n) && zeroAt p 4 4 &&
        !(c.shares.any (fun y => y.1 == x))) badField
      capacity 0
      setCeremony { c with shares := c.shares ++ [(x, slice p 8 32, slice p 40 8)] }
      pure []
/-- SHARE_SUBMIT (0x8052) on core k. -/
def execShareSubmit (k : CoreId) (s : State) : Outcome State Fault Refusal :=
  answer (runService s k.toNat 0x8052 false defaultWait svcShareSubmit)

/-- Install a domain root; the first on an ISSUED module makes it COMMISSIONED (R54, R320). -/
def installRoot (s : State) (c : Ceremony) (root check : Octets) : State :=
  let r : DomainRoot := { root := root, check := check, legacy := c.legacy, m := c.m, n := c.n }
  let s := { s with warden := { s.warden with roots := insertAt s.warden.roots c.index r },
                    keys := { s.keys with ceremony := none } }
  if s.warden.lc = .issued then setLifeCycle s .commissioned 0x8053 else s

/-- CEREMONY_COMMIT (0x8053) (R320). -/
def svcCeremonyCommit : Svc Octets := do
    ceremonyStart
    let c ← openCeremony
    if c.isLoad then
      need (decide (c.shares.length ≥ c.m)) Config.sharesMissing
      let root := combineShares ((c.shares.take c.m).map (fun x => (x.1, x.2.1)))
      let check := drCheck root
      need (check == c.expect && c.shares.all (fun x => x.2.2 == check)) verifyFailed
      capacity 8
      modS (fun s => installRoot s c root check)
      pure check
    else
      need (decide (c.exported.length = c.n)) Config.sharesMissing
      capacity 8
      modS (fun s => installRoot s c c.root (drCheck c.root))
      pure (drCheck c.root)
/-- CEREMONY_COMMIT (0x8053) on core k. -/
def execCeremonyCommit (k : CoreId) (s : State) : Outcome State Fault Refusal :=
  answer (runService s k.toNat 0x8053 false defaultWait svcCeremonyCommit)

/-- CEREMONY_TIMEOUT: one hour after CEREMONY_BEGIN the ceremony's state is erased (R321). -/
def execCeremonyTimeout (s : State) : Outcome State Fault Refusal :=
  answer { s with keys := { s.keys with ceremony := none } }

/-- DR_ERASE (0x8054): refused while a slot of the domain exists; the tenant roots of the PF0s that came from
it go with it (R322, R325). -/
def svcDrErase : Svc Octets := do
    ceremonyStart
    let i ← getIn
    let st ← getS
    let d := u8 i 0
    need (decide (d < 16)) badField
    need (!(st.slots.table.any (fun x => x.2.f.domain.toNat == d))) policyDenied
    capacity 0
    modS (fun s => { s with
      warden := { s.warden with roots := removeAt s.warden.roots d },
      keys := { s.keys with rootFile := if d = 0 then s.keys.rootFile.filter (fun x => decide (x.1 < 512)) else s.keys.rootFile } })
    pure []
/-- DR_ERASE (0x8054) on core k. -/
def execDrErase (k : CoreId) (s : State) : Outcome State Fault Refusal :=
  answer (runService s k.toNat 0x8054 false defaultWait svcDrErase)

end Sys2Proof.Machine
end

