-- ==== Sys2Proof/Machine/Journal.lean ====
section
/-! DEFINITION. The journal's checkpoints and stream, the alignment of the timebase, and the attestation services
(R457 to R473). -/

namespace Sys2Proof.Machine

open Host

/-! ### Checkpoints (R467) -/

/-- An entry that is a checkpoint (R467). -/
def JEntry.isCheckpoint (e : JEntry) : Bool := e.jseq.toNat % 4096 == 4095

/-- CHECKPOINT_SIGN: the oldest checkpoint of the segment that has no signature is signed by the Franking key;
nothing without one, and while I7 cannot serve the nonce it waits (R341, R467; log entry 50). -/
def execCheckpointSign (s : State) : Outcome State Fault Refusal :=
  answer (
    match s.keys.frankPriv, s.journal.ring.findIdx? (fun e => e.seg == s.journal.seg && e.isCheckpoint && e.sig.isEmpty) with
    | some priv, some i =>
      let e := s.journal.ring.getD i {}
      if !s.entropy.failed && !canServe s 7 then s
      else
        let (kp, s) := if s.entropy.failed then ([], s) else generate s 7 48 false
        let sig := signP384 priv (sha 48 (e.octets.take 0x80)) kp
        { s with journal := { s.journal with ring := s.journal.ring.set i { e with sig := sig, frankId := frankId s } } }
    | _, _ => s)

/-! ### Streaming (R470, R471) -/

/-- The entry of the current segment with a JSEQ, if the ring has it. -/
def Journal.entryAt (j : Journal) (n : Nat) : Option JEntry :=
  j.ring.find? (fun e => e.seg == j.seg && e.jseq.toNat == n)

/-- May entry n be streamed: within the host buffer, in the ring, signed if it is a checkpoint that can be. -/
def streamable (s : State) (n : Nat) : Option JEntry :=
  let j := s.journal
  if n ≥ j.head.toNat + 2 ^ j.streamLog2.toNat then none
  else (j.entryAt n).filter (fun e => !e.isCheckpoint || !e.sig.isEmpty || s.keys.frankPriv.isNone)

/-- Stream up to n entries from TAIL on. -/
def streamN : Nat → State → State
  | 0, s => s
  | n + 1, s =>
    let j := s.journal
    match streamable s j.tail.toNat with
    | none => s
    | some e =>
      let at_ := j.streamBase + BitVec.ofNat 64 (256 * (j.tail.toNat % 2 ^ j.streamLog2.toNat))
      streamN n { emit s (.hostWrite j.port at_ e.octets) with journal := { j with tail := j.tail + 1 } }

/-- JOURNAL_STREAM: entries go to the host buffer, at most 64 for one message of vector 32 + VEC (R471). -/
def execJournalStream (s : State) : Outcome State Fault Refusal :=
  answer (
    if !s.journal.streamEn then s
    else
      let t := streamN 64 s
      if t.journal.tail = s.journal.tail then s else msixSend t ⟨t.journal.port, 0⟩ (32 + t.journal.vec.toNat))

/-- STREAM_EN: the stream starts at START_SEQ, or at the oldest entry of the segment (R471). -/
def execStreamEn (portB on : Bool) (s : State) : Outcome State Fault Refusal :=
  answer (
    let j := { s.journal with port := portB }
    if !on then { s with journal := { j with streamEn := false } }
    else if j.streamEn then { s with journal := j }
    else
      match j.ring.find? (fun e => e.seg == j.seg) with
      | some e =>
        if j.startSeq.toNat < e.jseq.toNat then
          { s with journal := { j with streamEn := true, tail := e.jseq, startLost := true } }
        else { s with journal := { j with streamEn := true, tail := j.startSeq } }
      | none => { s with journal := { j with streamEn := true, tail := j.startSeq } })

/-- Append what waits under STALL while there is room, then the LOST entry that is due (R470). -/
def releaseWaiting : Nat → State → State
  | 0, s => s
  | n + 1, s =>
    if s.journal.full && !s.journal.overwrite then s
    else if s.journal.unrecorded > 0 && !s.journal.full then
      releaseWaiting n (journalNow { s with journal := { s.journal with unrecorded := 0 } } 0x000A (le 8 s.journal.unrecorded))
    else
      match s.journal.waiting with
      | [] => s
      | e :: t => releaseWaiting n (journal { s with journal := { s.journal with waiting := t } } e)

/-- Commits that waited for room go on (R470). -/
def releaseStalled (s : State) : State :=
  s.so.cmds.foldl (fun s x =>
    match s.cmd x.1 with
    | some c => if c.stage = .commitWait ∧ c.commitSeq = none then commitOrWait s x.1 c else s
    | none => s) s

/-- HEAD: the manager has consumed entries; a value below the old HEAD or above TAIL is ignored (R471).  HEAD is
mirrored. -/
def execJournalHead (portB : Bool) (value : BitVec 64) (s : State) : Outcome State Fault Refusal :=
  answer (
    let s := { s with journal := { s.journal with port := portB } }
    if value.toNat < s.journal.head.toNat ∨ value.toNat > s.journal.tail.toNat then s
    else
      let s := { s with journal := { s.journal with head := value } }
      let s := if s.pair.mirroring then sendLink s 0x30 (le 8 value.toNat) else s
      releaseStalled (releaseWaiting (s.journal.waiting.length + 2) s))

/-! ### Alignment of the timebase (R457, R458) -/

/-- A TIME entry: D and its cause, whose code is not stated (R465; log entry 24). -/
def timeEntry (s : State) (d : Int) (cause : Nat) : State :=
  journalNow s 9 (le 8 (BitVec.ofInt 64 d).toNat ++ [Config.timeCause cause])

/-- PTM_EXCHANGE: one exchange with the host; none is an exchange that failed (R458). -/
def execPtmExchange (host : Option (BitVec 64)) (s : State) : Outcome State Fault Refusal :=
  answer (
    let t := s.tb
    if !t.ptmEn || t.adopted || !(s.boot.mode == .service || s.boot.mode == .maintenance) then s
    else
      match host with
      | none => { s with tb := { t with ptmFail := true } }
      | some h =>
        let d : Int := (h - s.time).toInt
        let s := { s with tb := { t with lastPtm := h } }
        if d.natAbs ≤ 1000 then { s with tb := { s.tb with aligned := true } }
        else if d > 1000 ∧ t.stepOk then
          timeEntry { s with tb := { s.tb with offset := s.tb.offset + BitVec.ofInt 64 d, slewing := false, slewLeft := 0 } } d 0
        else if d.natAbs ≤ 1000000000 then
          timeEntry { s with tb := { s.tb with slewing := true, slewLeft := BitVec.ofInt 64 d } } d 1
        else
          notice (timeEntry { s with tb := { s.tb with refused := true } } d 2) 0x0407 0 0 false)

/-- One nanosecond of a slew: OFFSET moves towards its goal (R457). -/
def slewStep (t : Timebase) : Timebase :=
  if !t.slewing || t.slewLeft = 0 then t
  else if t.slewLeft.toInt > 0 then { t with offset := t.offset + 1, slewLeft := t.slewLeft - 1 }
  else { t with offset := t.offset - 1, slewLeft := t.slewLeft + 1 }

/-- SLEW_END: SLEW_LEFT has reached zero (R458). -/
def execSlewEnd (s : State) : Outcome State Fault Refusal :=
  answer (if s.tb.slewing ∧ s.tb.slewLeft = 0 then { s with tb := { s.tb with slewing := false } } else s)

/-! ### Attestation (R473) -/

/-- ATTEST (0x0A01). -/
def svcAttest (k : CoreId) : Svc Octets := do
    let nonce ← getIn
    capacity 288
    let v ← get
    let (pm, s) := stamp v.s (srcCore k.toNat)
    set { v with s := s }
    let text := le 8 s.warden.serial.toNat ++ le 2 0x3680 ++ le 2 0x0A01 ++ le 4 s.boot.fwBuild.toNat ++
      le 4 s.boot.imgSeq.toNat ++ le 1 s.boot.mode.code ++ le 1 s.warden.lc.code ++ zeros 2 ++ pm.octets ++ zeros 4 ++
      fit 48 ((s.warden.officers.map (·.1)).getD []) ++ fit 48 s.boot.imageHash ++ fit 32 nonce ++ frankId s ++ zeros 16
    let sig ← identitySign k.toNat text
    pure (text ++ sig)
/-- ATTEST (0x0A01) on core k. -/
def execAttest (k : CoreId) (s : State) : Outcome State Fault Refusal :=
  answer (runService s k.toNat 0x0A01 false defaultWait (svcAttest k))

/-- FRANK_CERT (0x0A02). -/
def svcFrankCert : Svc Octets := do
    let cert := Config.identityCert.take 640
    capacity (232 + cert.length)
    let st ← getS
    pure (fit 224 st.keys.frankCert ++ le 2 cert.length ++ zeros 6 ++ cert)
/-- FRANK_CERT (0x0A02) on core k. -/
def execFrankCert (k : CoreId) (s : State) : Outcome State Fault Refusal :=
  answer (runService s k.toNat 0x0A02 false defaultWait svcFrankCert)

end Sys2Proof.Machine
end

