-- ==== Sys2Proof/Machine/Dukpt.lean ====
section
/-! DEFINITION. Derived unique keys per transaction (R188, R189; the non-reversible generation of
ANSI X9.24-1 is log entry 18). -/

namespace Sys2Proof.Machine

/-! ### AES DUKPT (R188) -/

/-- Algorithm indicator and key bits of an AES algorithm code. -/
def aesIndicator (alg : Nat) : Nat := alg - 1
def aesBits (alg : Nat) : Nat := 8 * algLen alg

/-- Derived key octets from derivation data with a usage, algorithm, length and tail. -/
def dukptDerive (key : Octets) (usage alg bits : Nat) (tail : Octets) : Octets :=
  (((List.range (ceilDiv bits 128)).map (fun i =>
    aesEnc key ([0x01, BitVec.ofNat 8 (i + 1)] ++ be 2 usage ++ be 2 alg ++ be 2 bits ++ tail))).flatten).take (bits / 8)

/-- The chain over the counter's set bits, from bit n − 1 down. -/
def aesChain (alg : Nat) (ikId : Octets) (ctr : Nat) : Nat → Octets → Nat → Octets
  | 0, k, _ => k
  | n + 1, k, c =>
    if ctr.testBit n then
      let c := c + 2 ^ n
      aesChain alg ikId ctr n (dukptDerive k 0x8000 (aesIndicator alg) (aesBits alg) (ikId.drop 4 ++ be 4 c)) c
    else aesChain alg ikId ctr n k c

/-- Usage indicator for a function (1 data, 2 MAC, 3 PIN) and direction. -/
def dukptUsage (func dir : Nat) : Nat :=
  if func = 3 then 0x1000 else if func = 2 then 0x2000 + dir else 0x3000 + dir

/-- Algorithm code, indicator and bits of a KEYTYPE (R148). -/
def keytypeAlg (kt : Nat) : Nat := if kt ≤ 2 then 3 + kt else kt - 2
def keytypeIndicator (kt : Nat) : Nat := if kt ≤ 2 then 2 + kt else kt - 3

/-- Initial key of an AES BDK. -/
def aesIk (bdk : KeyVal) (ksn : Octets) : Octets :=
  dukptDerive bdk.bytes 0x8001 (aesIndicator bdk.alg) (aesBits bdk.alg) (ksn.take 8)

/-- Working key from an AES initial key. -/
def aesWorking (alg : Nat) (ik ksn : Octets) (func dir kt : Nat) : Octets :=
  let ctr := beNat (slice ksn 8 4)
  let k := aesChain alg (ksn.take 8) ctr 32 ik 0
  dukptDerive k (dukptUsage func dir) (keytypeIndicator kt) (8 * algLen (keytypeAlg kt)) (slice ksn 4 4 ++ be 4 ctr)

/-! ### TDEA DUKPT (R189) -/

/-- The mask of X9.24-1 on each half. -/
def c0Mask : Octets := [0xC0, 0xC0, 0xC0, 0xC0, 0, 0, 0, 0, 0xC0, 0xC0, 0xC0, 0xC0, 0, 0, 0, 0]

/-- Initial key from the BDK and the leftmost 59 bits of the KSN. -/
def tdesIk (bdk : Octets) (ksn : Octets) : Octets :=
  let id := ksn.take 7 ++ [(slice ksn 7 1).headD 0 &&& 0xE0]
  tdesEnc bdk id ++ tdesEnc (xorO bdk c0Mask) id

/-- One half of the non-reversible generation. -/
def nonRev (key reg : Octets) : Octets :=
  xorO (desEnc (slice key 0 8) (xorO reg (slice key 8 8))) (slice key 8 8)

/-- The chain over the set bits of the 21-bit counter, from bit n − 1 down; `reg` is the low 8 octets
of the KSN as a number with the bits taken so far. -/
def tdesChain (ctr : Nat) : Nat → Octets → Nat → Octets
  | 0, k, _ => k
  | n + 1, k, reg =>
    if ctr.testBit n then
      let reg := reg + 2 ^ n
      tdesChain ctr n (nonRev (xorO k c0Mask) (be 8 reg) ++ nonRev k (be 8 reg)) reg
    else tdesChain ctr n k reg

/-- The variant of each half (R189). -/
def tdesVariant (func dir : Nat) : Octets :=
  let half : Octets :=
    if func = 3 then [0, 0, 0, 0, 0, 0, 0, 0xFF]
    else if func = 2 then (if dir = 0 then [0, 0, 0, 0, 0, 0, 0xFF, 0] else [0, 0, 0, 0, 0xFF, 0, 0, 0])
    else (if dir = 0 then [0, 0, 0, 0, 0, 0xFF, 0, 0] else [0, 0, 0xFF, 0, 0, 0, 0, 0])
  half ++ half

/-- Working key from a TDEA initial key. -/
def tdesWorking (ik ksn : Octets) (func dir : Nat) : Octets :=
  let ctr := beNat (slice ksn 7 3) % 2 ^ 21
  let reg := beNat (slice ksn 2 8) / 2 ^ 21 * 2 ^ 21
  let k := xorO (tdesChain ctr 21 ik reg) (tdesVariant func dir)
  if func = 1 then tdesEnc k (slice k 0 8) ++ tdesEnc k (slice k 8 8) else k

/-! ### The working key of a DUKPT reference -/

/-- ALG and octets of the working key that a DUKPT reference gives for a function and direction. -/
def dukptKey (r : KeyRef) (bdk : KeyVal) (func dir kt : Nat) : KeyVal :=
  if aesDukptKind r.kind then
    let k := aesWorking bdk.alg (aesIk bdk r.ksn) r.ksn func dir kt
    { alg := keytypeAlg kt, cls := 1, len := algLen (keytypeAlg kt), bytes := k }
  else { alg := 1, cls := 1, len := 16, bytes := tdesWorking (tdesIk bdk.bytes r.ksn) r.ksn func dir }

/-- May the BDK serve the kind? (R150, R178) -/
def bdkAlg (kind alg : Nat) : Bool := if aesDukptKind kind then isAes alg else alg == 1

end Sys2Proof.Machine
end

