-- ==== Sys2Proof/Machine/KeyBlock.lean ====
section
/-! DEFINITION. X9.143 key blocks, and what the services that make or export keys share (R197, R198,
R288, R289, R294; the block's layout is the standard's, log entry 20). -/

namespace Sys2Proof.Machine

/-! ### Blocks -/

/-- Upper-case hexadecimal of an octet string. -/
def hexOf (o : Octets) : Octets := (nibbles o).map hexDigit
/-- Value of a hexadecimal or decimal character. -/
def hexVal (c : Octet) : Option Nat :=
  let n := c.toNat
  if 0x30 ≤ n ∧ n ≤ 0x39 then some (n - 0x30) else if 0x41 ≤ n ∧ n ≤ 0x46 then some (n - 0x37) else none
/-- A number read from characters in a base. -/
def digitsVal (base : Nat) : Octets → Option Nat
  | [] => some 0
  | c :: t => do
    let d ← hexVal c
    let r ← digitsVal base t
    if d < base then some (d * base ^ t.length + r) else none
/-- Octets of hexadecimal characters. -/
def unhex : Octets → Option Octets
  | [] => some []
  | [_] => none
  | a :: b :: t => do
    let x ← hexVal a
    let y ← hexVal b
    let r ← unhex t
    some (BitVec.ofNat 8 (16 * x + y) :: r)
/-- n decimal characters of a number. -/
def decText (n v : Nat) : Octets := (List.range n).map (fun i => BitVec.ofNat 8 (0x30 + v / 10 ^ (n - 1 - i) % 10))

/-- X9.143 algorithm letter of ALG (R278). -/
def algLetter (alg : Nat) : Octet := if isTdea alg then 0x54 else if isAes alg then 0x41 else if alg = 6 then 0x48 else if alg < 0x20 then 0x45 else 0x52

/-- The header of an exported block: 16 octets, the KC block, padding to the KBPK's block. -/
def blockHeader (verD : Bool) (k : KeyVal) (usage : Octets) (mode exp : Octet) (version : Octets) : Octets :=
  let bl := if verD then 16 else 8
  let kcv := (kcvOf k.alg k.bytes).take (if isTdea k.alg then 3 else 5)
  let kc := ascii "KC" ++ hexOf [BitVec.ofNat 8 (6 + 2 * kcv.length)] ++ (if isTdea k.alg then ascii "00" else ascii "01") ++ hexOf kcv
  let short := (bl - (16 + kc.length) % bl) % bl
  let pbLen := if short = 0 then 0 else if short < 4 then short + bl else short
  let pb := if pbLen = 0 then [] else ascii "PB" ++ hexOf [BitVec.ofNat 8 pbLen] ++ List.replicate (pbLen - 4) 0x30
  let fieldLen := let n := 2 + (if isAes k.alg then 32 else 24); n + (bl - n % bl) % bl
  let total := 16 + kc.length + pb.length + 2 * fieldLen + 2 * bl
  [if verD then 0x44 else 0x42] ++ decText 4 total ++ fit 2 usage ++ [algLetter k.alg, mode] ++ fit 2 version ++
  [exp] ++ decText 2 (if pbLen = 0 then 1 else 2) ++ ascii "00" ++ kc ++ pb

/-- Length of an exported block. -/
def blockTotal (verD : Bool) (k : KeyVal) : Nat :=
  let h := blockHeader verD k [] 0 0 []
  let bl := if verD then 16 else 8
  let n := 2 + (if isAes k.alg then 32 else 24)
  h.length + 2 * (n + (bl - n % bl) % bl) + 2 * bl

/-- ALG of a KBPK by its version and length. -/
def kbpkAlgOf (verD : Bool) (kbpk : Octets) : Nat :=
  if verD then (if kbpk.length ≤ 16 then 3 else if kbpk.length ≤ 24 then 4 else 5) else if kbpk.length ≤ 16 then 1 else 2

/-- A key block of a key under a KBPK, its field filled with drawn octets (R198). -/
def keyBlock (verD : Bool) (k : KeyVal) (usage : Octets) (mode exp : Octet) (version kbpk fill : Octets) : Octets :=
  let h := blockHeader verD k usage mode exp version
  let alg := kbpkAlgOf verD kbpk
  let bl := blockLen alg
  let n := 2 + (if isAes k.alg then 32 else 24)
  let field := fit (n + (bl - n % bl) % bl) (be 2 (8 * k.bytes.length) ++ k.bytes ++ fill)
  let mac := cmac alg (x9Derive alg kbpk 1) (h ++ field)
  h ++ hexOf (cbcEnc alg (x9Derive alg kbpk 0) mac field) ++ hexOf mac

/-- Open a key block of a header length under a KBPK: the key, if the MAC agrees and the length field
lies within the field. -/
def openBlock (verD : Bool) (kbpk blk : Octets) (hdr : Nat) : Option Octets := do
  let alg := kbpkAlgOf verD kbpk
  let bl := blockLen alg
  let body ← unhex (blk.drop hdr)
  if body.length < 2 * bl ∨ body.length % bl ≠ 0 then none
  else
    let mac := body.drop (body.length - bl)
    let field := cbcDec alg (x9Derive alg kbpk 0) mac (body.take (body.length - bl))
    let bits := beNat (field.take 2)
    if cmac alg (x9Derive alg kbpk 1) (blk.take hdr ++ field) == mac && bits % 8 == 0 &&
       decide (bits / 8 ≤ field.length - 2) then some (slice field 2 (bits / 8)) else none

/-- Strength order of R179. -/
def strength (alg : Nat) : Nat := alg

/-- Exportability of a key under R288 for a block of a version and a KBPK. -/
def exportable (k : KeyVal) (verD : Bool) (kbpkAlg : Nat) : Bool :=
  k.exp == 0x45 || (k.exp == 0x53 && verD && kbpkAlg == 5)

/-- The KBPK row of R178. -/
def needKbpk (k : KeyVal) (exporting : Bool) : Svc Unit :=
  needKey k ["K1"] (if exporting then "BE" else "BD") (fun a => isTdea a || isAes a)

/-- Is a key of a kind that export services take: TDEA or AES (R179). -/
def plainKey (k : KeyVal) : Bool := isTdea k.alg || isAes k.alg

/-! ### Attributes never widen (R196, R289) -/

/-- The single modes that a mode contains. -/
def modeHas (src m : Octet) : Bool :=
  src == m || (src == 0x42 && (m == 0x44 || m == 0x45)) || (src == 0x43 && (m == 0x47 || m == 0x56)) ||
  (src == 0x54 && (m == 0x53 || m == 0x44))

def exportRank (x : Octet) : Nat := if x = 0x4E then 0 else if x = 0x53 then 1 else 2

/-- Does a template grant nothing that a source lacks? -/
def grantsWithin (src tmpl : KeyVal) : Bool :=
  tmpl.usage == src.usage && modeHas src.mode tmpl.mode && decide (exportRank tmpl.exp ≤ exportRank src.exp) &&
  (tmpl.mask &&& src.mask) == tmpl.mask && tmpl.alg == src.alg && tmpl.len == src.len && tmpl.ktype == src.ktype

/-! ### Templates and allocation -/

/-- Step 1 of a template (R610, R196). -/
def needTemplate (t : Octets) : Svc Unit := do
  need (headerOk t false) badField
  need ((headerKey t).limit == 0 || (headerKey t).flags.getLsbD 0) badField

/-- Allocate a counter entry for a counted template (R177, R294): CNUM and CTR_GEN. -/
def allocate (limit : Nat) : Svc (Nat × Nat) := do
  if limit = 0 then pure (0, 0)
  else
    let v ← get
    match freeCnum v.s v.c.slot with
    | none => fail countersExhausted
    | some n =>
      if v.s.keys.nextGen ≥ 2 ^ 32 || v.c.slot ≥ 512 then fail countersExhausted
      else
        let g := v.s.keys.nextGen
        let i := (ctrIndex v.s v.c.slot n).getD 0
        set { v with
          s := { v.s with keys := { v.s.keys with nextGen := g + 1 } },
          c := { v.c with effects := v.c.effects ++ [Effect.ctrAlloc i (BitVec.ofNat 32 limit) (BitVec.ofNat 32 g)],
                          stateChanging := true, journalled := true, keepsReplay := true, mirrors := true } }
        pure (n, g)

/-- The Envelope and its check-value field, 144 octets (R196). -/
def envelopeOut (tmpl key : Octets) (cnum gen : Nat) : Svc Octets := do
  let s ← getS; let c ← getC
  need (rootsOf s c.slot).isSome keyNotFound
  let h := headerKey tmpl
  let plain := if h.alg = 6 ∧ h.ktype = 2 then kdf key (ascii "PRK-HMAC") (8 * h.len) else key
  pure (makeEnvelope s c.slot tmpl key cnum gen ++ (if h.cls = 4 then zeros 16 else kcvField h.alg plain))

/-- A template for a key that a service makes without one: the attributes the manual does not state
are those of `Config.madeAttrs`. -/
def madeTemplate (opcode variant alg len : Nat) : Octets :=
  let a := fit 9 (Config.madeAttrs opcode variant)
  headerFor 1 alg (u8 a 0) len (u16 a 1) (slice a 3 2) ((slice a 5 1).headD 0) ((slice a 6 1).headD 0) (slice a 7 2) 0

end Sys2Proof.Machine
end

