-- ==== Sys2Proof/Machine/Pin.lean ====
section
/-! DEFINITION. PIN and card verification services (R144 to R170). -/

namespace Sys2Proof.Machine

open Host

/-! ### PAN and PIN blocks -/

/-- PAN digits of a 10-octet field. -/
def panDigits (n : Nat) (o : Octets) : List Nat := (nibbles o).take n

/-- R147: 12 to 19 decimal digits, then 0xF; with a count of 0, all 0xFF. -/
def panOk (n : Nat) (o : Octets) (zeroAllowed : Bool) : Bool :=
  if n = 0 then zeroAllowed && o.all (· == 0xFF)
  else decide (12 ≤ n ∧ n ≤ 19) && (panDigits n o).all (· < 10) && ((nibbles o).drop n).all (· == 15)

/-- The rightmost n digits without the check digit, left-padded with zeros. -/
def panRight (n : Nat) (d : List Nat) : List Nat :=
  let t := d.dropLast
  List.replicate (n - t.length) 0 ++ t.drop (t.length - n)

def isFmt (f : Nat) : Bool := f == 0 || f == 1 || f == 3 || f == 4
/-- Format allowed under the command-set version (R150). -/
def fmtOk (ver f : Nat) : Bool := isFmt f && !(ver == 1 && f == 4)

/-- The PAN field F of a format (R152). -/
def panField (f : Nat) (pan : List Nat) : Octets :=
  if f = 1 then zeros 8
  else if f = 4 then packNibbles (((pan.length - 12) :: pan) ++ List.replicate (31 - pan.length) 0)
  else packNibbles (List.replicate 4 0 ++ panRight 12 pan)

/-- Block of a format. -/
def fmtLen (f : Nat) : Nat := if f = 4 then 16 else 8

/-- The plain PIN field P (R152), with drawn fill (R154). -/
def pinField (f : Nat) (pin : List Nat) (fill : Octets) : Octets :=
  let headN := [f, pin.length] ++ pin
  if f = 4 then packNibbles (headN ++ List.replicate (14 - pin.length) 10) ++ fit 8 fill
  else if f = 1 then packNibbles ((headN ++ nibbles (fit 8 fill)).take 16)
  else if f = 3 then packNibbles ((headN ++ fill.map (fun (u : Octet) => 10 + 6 * u.toNat / 256)).take 16)
  else packNibbles (headN ++ List.replicate (14 - pin.length) 15)

/-- Octets of fill that one block of the format draws. -/
def fillLen (f : Nat) : Nat := if f = 0 then 0 else if f = 1 then 7 else if f = 3 then 10 else 8

/-- Encipher and decipher a PIN block (R152). -/
def pinEnc (f alg : Nat) (k : Octets) (pan : List Nat) (p : Octets) : Octets :=
  let e := blockEnc alg k
  if f = 1 then e p else if f = 4 then e (xorO (e p) (panField 4 pan)) else e (xorO p (panField f pan))
def pinDec (f alg : Nat) (k : Octets) (pan : List Nat) (c : Octets) : Octets :=
  let d := blockDec alg k
  if f = 1 then d c else if f = 4 then d (xorO (d c) (panField 4 pan)) else xorO (d c) (panField f pan)

/-- R153: the PIN of a plain field, if every test passes. -/
def pinOf (f lo hi : Nat) (p : Octets) : Option (List Nat) :=
  let d := nibbles p
  let n := d.getD 1 0
  let pin := (d.drop 2).take n
  let fill := ((d.take 16).drop (2 + n))
  if d.headD 99 = f && decide (4 ≤ n ∧ n ≤ 12) && pin.all (· < 10) &&
     fill.all (fun x => if f = 0 then x == 15 else if f = 3 then decide (10 ≤ x) else if f = 4 then x == 10 else true) &&
     decide (lo ≤ n ∧ n ≤ hi) then some pin else none

/-! ### PIN keys (R150) -/

def fmtAlg (f alg : Nat) : Bool := if f = 4 then isAes alg else isTdea alg

/-- Resolve the PIN key of a reference for a format and side; checks of step 3 are made afterwards. -/
def checkPinKey (r : KeyRef) (k : KeyVal) (f : Nat) (inSide : Bool) : Svc KeyVal := do
  if isDukptKind r.kind then
    needKey k ["B0"] "X" (bdkAlg r.kind)
    let w := dukptKey r k 3 0 r.keytype
    need (fmtAlg f w.alg) keyUsageDenied
    pure w
  else
    needKey k ["P0"] (if inSide then "DB" else "EB") (fmtAlg f)
    pure k

/-- A PIN block field: 16 octets, the last 8 zero for the short formats. -/
def blockFieldOk (f : Nat) (o : Octets) : Bool := f == 4 || zeroAt o 8 8

/-! ### PIN_TRANSLATE (R159) -/

/-- PAN counts that suit the formats (R155). -/
def translatePans (fi fo n m : Nat) : Bool :=
  let ok (x : Nat) : Bool := decide (12 ≤ x ∧ x ≤ 19)
  if fi ≠ 1 then (if fo ≠ 1 then ok n && (m == 0 || ok m) else ok n && m == 0)
  else if fo ≠ 1 then (n == 0 || ok n) && (m == 0 || ok m) && !(n == 0 && m == 0)
  else n == 0 && m == 0

def pinTranslate : Svc Octets := do
  let s ← getS; let c ← getC; let i ← getIn
  let fi := u8 i 0; let fo := u8 i 1; let n := u8 i 2; let m := u8 i 3
  need (i.length == 64 + refsLen 2 (i.drop 64)) badLength
  need (fmtOk c.d.version.toNat fi && fmtOk c.d.version.toNat fo && zeroAt i 4 4 && zeroAt i 28 4 && zeroAt i 48 16) badField
  need (translatePans fi fo n m && panOk n (slice i 8 10) true && panOk m (slice i 18 10) true &&
        blockFieldOk fi (slice i 32 16)) badField
  let (rs, _) ← takeRefs false 2 (i.drop 64)
  match rs with
  | [ri, ro] =>
    need (!(isDukptKind ro.kind)) badField
    let ki ← resolveKey ri
    let ko ← resolveKey ro
    let wi ← checkPinKey ri ki fi true
    let wo ← checkPinKey ro ko fo false
    let pan := panDigits n (slice i 8 10)
    let outPan := if m = 0 then pan else panDigits m (slice i 18 10)
    need (!(fi != 1 && fo == 1 && !(polPinToFmt1 s c.slot))) policyDenied
    need (!(fi == 4 && fo != 4 && !(polPinAesToTdea s c.slot))) policyDenied
    need (!(n != 0 && m != 0 && pan != outPan && !(polPinPanChange s c.slot))) policyDenied
    capacity (fmtLen fo)
    let fill ← (if fo = 0 then pure [] else random (fillLen fo))
    match pinOf fi (polPinMin s c.slot) (polPinMax s c.slot)
        (pinDec fi wi.alg wi.bytes pan (slice i 32 (fmtLen fi))) with
    | none => fail pinFormatError
    | some pin => pure (pinEnc fo wo.alg wo.bytes outPan (pinField fo pin fill))
  | _ => fail badField

/-- PIN_TRANSLATE (0x0101): R155, R156, R159. -/
def execPinTranslate (k : CoreId) (s : State) : Outcome State Fault Refusal :=
  answer (runService s k.toNat 0x0101 true defaultWait pinTranslate)

/-! ### Verification methods -/

/-- PVV of R160. -/
def pvv (pvk : Octets) (pan : List Nat) (pvki : Nat) (pin : List Nat) : List Nat :=
  (decimalise (tdesEnc pvk (packNibbles (panRight 11 pan ++ [pvki] ++ pin.take 4)))).take 4

/-- The 16 natural digits of R161. -/
def naturalDigits (pvk validation : Octets) (table : List Nat) : List Nat :=
  (nibbles (tdesEnc pvk (fit 8 validation))).map (fun v => table.getD v 0)

/-- Offset of R161: the leftmost n digits. -/
def offsetOf (pin natural : List Nat) (n : Nat) : List Nat :=
  (List.zipWith (fun p q => (p + 10 - q) % 10) pin natural).take n

/-- REF of exactly n decimal digits, filled with 0xF (R163). -/
def refOk (n : Nat) (o : Octets) : Bool :=
  ((nibbles o).take n).all (· < 10) && ((nibbles o).drop n).all (· == 15)

/-- Fields that PIN_VERIFY, PIN_REF_GENERATE and PIN_CHANGE share, offsets 0x00 to 0x2F (R164, R167). -/
def verifyHeaderOk (ver : Nat) (i : Octets) (genRef : Bool) : Bool :=
  let m := u8 i 1
  fmtOk ver (u8 i 0) && (m == 1 || m == 2) && panOk (u8 i 2) (slice i 8 10) false &&
  (if m = 1 then u8 i 3 == 4 else decide (4 ≤ u8 i 3 ∧ u8 i 3 ≤ 12)) &&
  (if m = 1 then decide (u8 i 4 ≤ 9) else u8 i 4 == 0) &&
  (if m = 2 then decide (u8 i 5 ≤ 3) else u8 i 5 == 0) &&
  zeroAt i 6 2 && zeroAt i 18 6 && zeroAt i 40 8 &&
  (if genRef then zeroAt i 24 8 else refOk (u8 i 3) (slice i 24 8)) && (m == 2 || zeroAt i 32 8)

/-- The PVK's row of R150, for the method. -/
def needPvk (k : KeyVal) (method : Nat) (modes : String) : Svc Unit :=
  needKey k [if method = 1 then "V2" else "V1"] modes (· == 1)

/-- The reference digits of a PIN under a method (R160, R161): none for a PIN shorter than CHECK_LEN. -/
def refDigits (pvk : Octets) (i : Octets) (table : List Nat) (pin : List Nat) : Option (List Nat) :=
  if u8 i 1 = 1 then some (pvv pvk (panDigits (u8 i 2) (slice i 8 10)) (u8 i 4) pin)
  else if pin.length < u8 i 3 then none
  else some (offsetOf pin (naturalDigits pvk (slice i 32 8) table) (u8 i 3))

/-- The decimalisation table of method 0x02, or POLICY_DENIED (R162). -/
def needTable (method i : Nat) : Svc (List Nat) := do
  let s ← getS; let c ← getC
  if method = 2 then
    match decTable s c.slot i with
    | some t => pure t
    | none => fail policyDenied
  else pure []

/-- Resolve and check the PIN key and the PVK of a verification service. -/
def verifyKeys (i : Octets) (hdr : Nat) (pvkModes : String) : Svc (KeyVal × KeyVal) := do
  let (rs, _) ← takeRefs false 2 (i.drop hdr)
  match rs with
  | [rp, rv] =>
    need (!(isDukptKind rv.kind)) badField
    let kp ← resolveKey rp
    let kv ← resolveKey rv
    let wp ← checkPinKey rp kp (u8 i 0) true
    needPvk kv (u8 i 1) pvkModes
    pure (wp, kv)
  | _ => fail badField

/-- Decipher a block of the header's format and read its PIN. -/
def readPin (i : Octets) (k : KeyVal) (off : Nat) : Svc (List Nat) := do
  let s ← getS; let c ← getC
  match pinOf (u8 i 0) (polPinMin s c.slot) (polPinMax s c.slot)
      (pinDec (u8 i 0) k.alg k.bytes (panDigits (u8 i 2) (slice i 8 10)) (slice i off (fmtLen (u8 i 0)))) with
  | some p => pure p
  | none => fail pinFormatError

def pinVerify : Svc Octets := do
  let c ← getC; let i ← getIn
  need (i.length == 64 + refsLen 2 (i.drop 64)) badLength
  need (verifyHeaderOk c.d.version.toNat i false && blockFieldOk (u8 i 0) (slice i 48 16)) badField
  let (kp, kv) ← verifyKeys i 64 "VC"
  let t ← needTable (u8 i 1) (u8 i 5)
  capacity 0
  let pin ← readPin i kp 48
  need (refDigits kv.bytes i t pin == some ((nibbles (slice i 24 8)).take (u8 i 3))) verifyFailed
  pure []

/-- PIN_VERIFY (0x0102): R160 to R164. -/
def execPinVerify (k : CoreId) (s : State) : Outcome State Fault Refusal :=
  answer (runService s k.toNat 0x0102 true defaultWait pinVerify)

def pinRefGenerate : Svc Octets := do
  let c ← getC; let i ← getIn
  need (i.length == 64 + refsLen 2 (i.drop 64)) badLength
  need (verifyHeaderOk c.d.version.toNat i true && blockFieldOk (u8 i 0) (slice i 48 16)) badField
  let (kp, kv) ← verifyKeys i 64 "GC"
  let t ← needTable (u8 i 1) (u8 i 5)
  capacity 8
  let pin ← readPin i kp 48
  match refDigits kv.bytes i t pin with
  | some d => pure (packF 8 d)
  | none => fail policyDenied

/-- PIN_REF_GENERATE (0x0203): R164. -/
def execPinRefGenerate (k : CoreId) (s : State) : Outcome State Fault Refusal :=
  answer (runService s k.toNat 0x0203 true defaultWait pinRefGenerate)

def pinChange : Svc Octets := do
  let c ← getC; let i ← getIn
  need (i.length == 96 + refsLen 2 (i.drop 96)) badLength
  need (verifyHeaderOk c.d.version.toNat i false && blockFieldOk (u8 i 0) (slice i 48 16) &&
        blockFieldOk (u8 i 0) (slice i 64 16) && zeroAt i 80 16) badField
  let (kp, kv) ← verifyKeys i 96 "C"
  let t ← needTable (u8 i 1) (u8 i 5)
  capacity 8
  let old ← readPin i kp 48
  let new ← readPin i kp 64
  need (refDigits kv.bytes i t old == some ((nibbles (slice i 24 8)).take (u8 i 3))) verifyFailed
  match refDigits kv.bytes i t new with
  | some d => pure (packF 8 d)
  | none => fail policyDenied

/-- PIN_CHANGE (0x0104): R167. -/
def execPinChange (k : CoreId) (s : State) : Outcome State Fault Refusal :=
  answer (runService s k.toNat 0x0104 true defaultWait pinChange)

/-! ### PIN_GENERATE (R165, R166) -/

/-- Digits (r mod 10) of n fresh 64-bit values. -/
def drawnDigits : Nat → Octets → List Nat
  | 0, _ => []
  | n + 1, o => beNat (o.take 8) % 10 :: drawnDigits n (o.drop 8)

def pinGenerate : Svc Octets := do
  let s ← getS; let c ← getC; let i ← getIn
  let f := u8 i 0; let m := u8 i 1; let n := u8 i 2; let len := u8 i 3
  let refs := if m = 0 then 1 else 2
  need (i.length == 64 + refsLen refs (i.drop 64)) badLength
  need (fmtOk c.d.version.toNat f && decide (m ≤ 2) && panOk n (slice i 8 10) (f == 1 && m == 0)) badField
  need ((if m = 1 then decide (u8 i 4 ≤ 9) else u8 i 4 == 0) && (if m = 2 then decide (u8 i 5 ≤ 3) else u8 i 5 == 0) &&
        zeroAt i 6 2 && zeroAt i 18 14 && (m == 2 || zeroAt i 32 8) && zeroAt i 40 24) badField
  let (rs, _) ← takeRefs false refs (i.drop 64)
  let rp := rs.headD ⟨1, 0, [], [], 0⟩
  need (!(isDukptKind rp.kind)) badField
  need (m == 0 || !((rs.drop 1).any (fun r => isDukptKind r.kind))) badField
  let kp ← resolveKey rp
  let kv ← (match rs.drop 1 with
    | rv :: _ => do
      let x ← resolveKey rv
      pure (some x)
    | [] => pure none)
  let wp ← checkPinKey rp kp f false
  match kv with
  | some x => needPvk x m "GC"
  | none => pure ()
  let t ← needTable m (u8 i 5)
  need (decide (polPinMin s c.slot ≤ len ∧ len ≤ polPinMax s c.slot)) policyDenied
  capacity 24
  let want := (if m = 2 then 0 else 8 * len) + fillLen f
  let r ← (if want = 0 then pure [] else random want)
  let pvk := (kv.map (·.bytes)).getD []
  let pin := if m = 2 then (naturalDigits pvk (slice i 32 8) t).take len else drawnDigits len r
  let pan := panDigits n (slice i 8 10)
  let block := pinEnc f wp.alg wp.bytes pan (pinField f pin (r.drop (if m = 2 then 0 else 8 * len)))
  let ref := if m = 1 then packF 8 (pvv pvk pan (u8 i 4) pin)
             else if m = 2 then packF 8 (List.replicate len 0) else List.replicate 8 0xFF
  pure (fit 16 block ++ ref)

/-- PIN_GENERATE (0x0103): R165, R166. -/
def execPinGenerate (k : CoreId) (s : State) : Outcome State Fault Refusal :=
  answer (runService s k.toNat 0x0103 true defaultWait pinGenerate)

/-! ### Card verification codes (R168, R169) -/

/-- The code of R169, n digits. -/
def cvcOf (key : Octets) (pan expiry service : List Nat) (n : Nat) : List Nat :=
  let d := ((pan ++ expiry ++ service) ++ List.replicate 32 0).take 32
  let ka := slice key 0 8
  let kb := slice key 8 8
  let x := xorO (desEnc ka (packNibbles (d.take 16))) (packNibbles (d.drop 16))
  (decimalise (desEnc ka (desDec kb (desEnc ka x)))).take n

/-- The header of R168 and the key of a CVC service, then its code. -/
def cvcCode (gen : Bool) : Svc (List Nat) := do
  let i ← getIn
  let n := u8 i 0
  need (i.length == 32 + refsLen 1 (i.drop 32)) badLength
  need ((n == 3 || n == 4) && panOk (u8 i 1) (slice i 8 10) false && zeroAt i 2 2 &&
        (nibbles (slice i 4 2)).all (· < 10) && ((nibbles (slice i 6 2)).take 3).all (· < 10) &&
        (nibbles (slice i 6 2)).getD 3 0 == 15 && zeroAt i 20 12) badField
  need (if gen then zeroAt i 18 2
        else ((nibbles (slice i 18 2)).take n).all (· < 10) && ((nibbles (slice i 18 2)).drop n).all (· == 15)) badField
  let (rs, _) ← takeRefs false 1 (i.drop 32)
  match rs with
  | [r] =>
    need (!(isDukptKind r.kind)) badField
    let k ← resolveKey r
    needKey k ["C0"] (if gen then "GC" else "VC") (· == 1)
    capacity (if gen then 2 else 0)
    pure (cvcOf k.bytes (panDigits (u8 i 1) (slice i 8 10)) (nibbles (slice i 4 2)) ((nibbles (slice i 6 2)).take 3) n)
  | _ => fail badField

/-- CVC_GENERATE (0x0201): R168, R169. -/
def svcCvcGenerate : Svc Octets := do
    let code ← cvcCode true
    pure (packF 2 code)
/-- CVC_GENERATE (0x0201) on core k. -/
def execCvcGenerate (k : CoreId) (s : State) : Outcome State Fault Refusal :=
  answer (runService s k.toNat 0x0201 true defaultWait svcCvcGenerate)

/-- CVC_VERIFY (0x0202): R168, R169. -/
def svcCvcVerify : Svc Octets := do
    let code ← cvcCode false
    let i ← getIn
    need (code == (nibbles (slice i 18 2)).take (u8 i 0)) verifyFailed
    pure []
/-- CVC_VERIFY (0x0202) on core k. -/
def execCvcVerify (k : CoreId) (s : State) : Outcome State Fault Refusal :=
  answer (runService s k.toNat 0x0202 true defaultWait svcCvcVerify)

end Sys2Proof.Machine
end

