-- ==== Sys2Proof/Machine/CardKeys.lean ====
section
/-! DEFINITION. EMV and DUKPT services (R172 to R192). -/

namespace Sys2Proof.Machine

open Host

/-! ### EMV (R181 to R186) -/

/-- Y of R182. -/
def emvY (pan : List Nat) (psn : Octet) : Octets :=
  let d := pan ++ nibbles [psn]
  packNibbles (List.replicate (16 - d.length) 0 ++ d.drop (d.length - 16))

/-- Card master key of R182 from an issuer master key. -/
def emvMk (tdea : Bool) (imk y : Octets) : Octets :=
  if tdea then oddParity (tdesEnc imk y ++ tdesEnc imk (y.map (~~~ ·))) else aesEnc imk (zeros 8 ++ y)

/-- Session key of R182. -/
def emvSk (tdea : Bool) (mk atc : Octets) (skMode : Nat) : Octets :=
  if skMode = 1 then mk
  else if tdea then tdesEnc mk (atc ++ [0xF0] ++ zeros 5) ++ tdesEnc mk (atc ++ [0x0F] ++ zeros 5)
  else aesEnc mk (atc ++ [0xF0] ++ zeros 13)

/-- The cryptogram function of R182, at full length. -/
def emvMac (tdea : Bool) (sk o : Octets) : Octets := if tdea then macAlg3 sk 2 o else cmac 3 sk o

/-- The ARPC of R183. -/
def emvArpc (tdea : Bool) (sk i : Octets) : Octets :=
  let arqc := slice i 24 8
  if (slice i 1 1).headD 0 |>.getLsbD 1 then
    (emvMac tdea sk (arqc ++ slice i 20 4 ++ (slice i 32 8).take (u8 i 19))).take 4
  else
    let x := xorO arqc (slice i 6 2 ++ zeros 6)
    if tdea then tdesEnc sk x else (aesEnc sk (x ++ zeros 8)).take 8

/-- Roles of the EMV services. -/
inductive EmvRole where
  | arqcVerify | arpcGenerate | scriptMac | scriptEncrypt | sessionKey
  deriving DecidableEq, Repr

/-- Field rules of the EMV header (R181). -/
def emvHeaderOk (ver : Nat) (r : EmvRole) (i : Octets) : Bool :=
  let alg := u8 i 0
  let fl := u8 i 1
  let direct := fl.testBit 2
  let m2 := fl.testBit 1
  let n := u32 i 40
  (alg == 1 || (alg == 2 && ver != 1)) && decide (fl < 8) && (!(fl.testBit 0) || r == .arqcVerify) &&
  (if direct then u8 i 2 == 0 && u8 i 3 == 0 && panOk 0 (slice i 8 10) true
   else panOk (u8 i 2) (slice i 8 10) false && (nibbles (slice i 3 1)).all (· < 10)) &&
  (!m2 || zeroAt i 6 2) &&
  (if r == .scriptMac then decide (4 ≤ u8 i 18 ∧ u8 i 18 ≤ (if alg = 1 then 8 else 16)) else u8 i 18 == 0) &&
  (if m2 then decide (u8 i 19 ≤ 8) else u8 i 19 == 0) && (m2 || (zeroAt i 20 4 && zeroAt i 32 8)) &&
  zeroAt (slice i 32 8) (u8 i 19) (8 - u8 i 19) &&
  (r == .arqcVerify || r == .arpcGenerate || zeroAt i 24 8) &&
  (match r with
   | .arqcVerify => decide (1 ≤ n ∧ n ≤ 1024)
   | .scriptMac => decide (1 ≤ n ∧ n ≤ 4096)
   | .scriptEncrypt => decide (1 ≤ n ∧ n ≤ 4096)
   | _ => n == 0) &&
  decide (u8 i 44 ≤ 1) && zeroAt i 45 19

/-- Usages of the issuer key for a role (R178). -/
def emvUsage : EmvRole → List String
  | .scriptMac => ["E2"]
  | .scriptEncrypt => ["E1"]
  | .sessionKey => ["E0", "E1", "E2"]
  | _ => ["E0"]

/-- The key of an EMV command: usage checks, then MK and SK (R178, R182). -/
def emvKey (r : EmvRole) (i : Octets) (k : KeyVal) : Svc Octets := do
  let tdea := u8 i 0 == 1
  let direct := (u8 i 1).testBit 2
  needKey k (emvUsage r) (if direct then "CGB" else "X") (fun a => if tdea then a == 1 else a == 3)
  let mk := if direct then k.bytes else emvMk tdea k.bytes (emvY (panDigits (u8 i 2) (slice i 8 10)) ((slice i 3 1).headD 0))
  pure (emvSk tdea mk (slice i 4 2) (u8 i 44))

/-- Header, references and lengths of an EMV command: its references and its data. -/
def emvParts (r : EmvRole) (refs : Nat) : Svc (List KeyRef × Octets) := do
  let c ← getC; let i ← getIn
  let n := u32 i 40
  need (i.length == 64 + refsLen refs (i.drop 64) + n) badLength
  need (emvHeaderOk c.d.version.toNat r i) badField
  let bl := if u8 i 0 = 1 then 8 else 16
  need (!(r == .scriptEncrypt && n % bl != 0 && decide (n > 255))) badLength
  let (rs, rest) ← takeRefs false refs (i.drop 64)
  need (!(rs.any (fun x => isDukptKind x.kind))) badField
  pure (rs, rest)

def noRef : KeyRef := ⟨1, 0, [], [], 0⟩

def emvArqcVerify : Svc Octets := do
  let i ← getIn
  let (rs, data) ← emvParts .arqcVerify 1
  let k ← resolveKey (rs.headD noRef)
  let sk ← emvKey .arqcVerify i k
  let tdea := u8 i 0 == 1
  let out := if (u8 i 1).testBit 0 then emvArpc tdea sk i else []
  capacity out.length
  need ((emvMac tdea sk data).take 8 == slice i 24 8) verifyFailed
  pure out

/-- EMV_ARQC_VERIFY (0x0301): R184. -/
def execEmvArqcVerify (k : CoreId) (s : State) : Outcome State Fault Refusal :=
  answer (runService s k.toNat 0x0301 true defaultWait emvArqcVerify)

/-- EMV_ARPC_GENERATE (0x0302): R183, R184. -/
def svcEmvArpcGenerate : Svc Octets := do
    let i ← getIn
    let (rs, _) ← emvParts .arpcGenerate 1
    let key ← resolveKey (rs.headD noRef)
    let sk ← emvKey .arpcGenerate i key
    let out := emvArpc (u8 i 0 == 1) sk i
    capacity out.length
    pure out
/-- EMV_ARPC_GENERATE (0x0302) on core k. -/
def execEmvArpcGenerate (k : CoreId) (s : State) : Outcome State Fault Refusal :=
  answer (runService s k.toNat 0x0302 true defaultWait svcEmvArpcGenerate)

/-- EMV_SCRIPT_MAC (0x0303): R185. -/
def svcEmvScriptMac : Svc Octets := do
    let i ← getIn
    let (rs, data) ← emvParts .scriptMac 1
    let key ← resolveKey (rs.headD noRef)
    let sk ← emvKey .scriptMac i key
    capacity (u8 i 18)
    pure ((emvMac (u8 i 0 == 1) sk data).take (u8 i 18))
/-- EMV_SCRIPT_MAC (0x0303) on core k. -/
def execEmvScriptMac (k : CoreId) (s : State) : Outcome State Fault Refusal :=
  answer (runService s k.toNat 0x0303 true defaultWait svcEmvScriptMac)

/-- EMV_SCRIPT_ENCRYPT (0x0304): R185. -/
def svcEmvScriptEncrypt : Svc Octets := do
    let i ← getIn
    let (rs, data) ← emvParts .scriptEncrypt 1
    let key ← resolveKey (rs.headD noRef)
    let sk ← emvKey .scriptEncrypt i key
    let bl := if u8 i 0 = 1 then 8 else 16
    let plain := if data.length % bl = 0 then data
                 else padTo bl ([BitVec.ofNat 8 data.length] ++ data ++ [0x80])
    capacity plain.length
    pure (cbcEnc (if u8 i 0 = 1 then 1 else 3) sk (zeros bl) plain)
/-- EMV_SCRIPT_ENCRYPT (0x0304) on core k. -/
def execEmvScriptEncrypt (k : CoreId) (s : State) : Outcome State Fault Refusal :=
  answer (runService s k.toNat 0x0304 true defaultWait svcEmvScriptEncrypt)

/-- EMV_SESSION_KEY (0x0305): R186; the block is version 'D' under an AES KBPK and 'B' under TDEA. -/
def svcEmvSessionKey : Svc Octets := do
    let i ← getIn
    let (rs, _) ← emvParts .sessionKey 2
    match rs with
    | [ri, rk] =>
      let key ← resolveKey ri
      let kb ← resolveKey rk
      let sk ← emvKey .sessionKey i key
      needKbpk kb true
      let verD := isAes kb.alg
      let st ← getS; let c ← getC
      -- R288 governs only where the key exported is the referenced key itself.
      need (!((u8 i 1).testBit 2 && u8 i 44 == 1) || exportable key verD kb.alg) keyUsageDenied
      let sv : KeyVal := { key with alg := if u8 i 0 = 1 then 1 else 3, len := 16, bytes := sk }
      need (decide (strength kb.alg ≥ strength sv.alg) || polExportWeaker st c.slot) policyDenied
      capacity (blockTotal verD sv)
      let fill ← random 32
      let a := fit 9 (Config.madeAttrs 0x0305 0)
      pure (keyBlock verD sv key.usage 0x47 ((slice a 6 1).headD 0) (slice a 7 2) kb.bytes fill)
    | _ => fail badField
/-- EMV_SESSION_KEY (0x0305) on core k. -/
def execEmvSessionKey (k : CoreId) (s : State) : Outcome State Fault Refusal :=
  answer (runService s k.toNat 0x0305 false defaultWait svcEmvSessionKey)

/-! ### DUKPT services (R187 to R191) -/

/-- Roles of the DUKPT services. -/
inductive DukptRole where
  | ikExport | terminalKey | decrypt | encrypt | macVerify | macGenerate
  deriving DecidableEq, Repr

def DukptRole.isData (r : DukptRole) : Bool := r == .decrypt || r == .encrypt
def DukptRole.isMac (r : DukptRole) : Bool := r == .macVerify || r == .macGenerate

/-- Field rules of the DUKPT header (R187), but for those that wait for the working key's algorithm. -/
def dukptHeaderOk (r : DukptRole) (i : Octets) : Bool :=
  let func := u8 i 0
  let n := u32 i 4
  (if r.isData then func == 1 else if r.isMac then func == 2
   else if r == .terminalKey then decide (1 ≤ func ∧ func ≤ 3) else func == 1 || func == 2) &&
  decide (u8 i 1 ≤ 2) && zeroAt i 3 1 &&
  (if r.isData || r.isMac then decide (1 ≤ n ∧ n ≤ 65536) else n == 0) &&
  (r.isData || zeroAt i 8 16) && (r == .macVerify || zeroAt i 24 16) &&
  (r == .terminalKey || (zeroAt i 40 12 && u8 i 52 == 0)) && decide (u8 i 52 ≤ 4) && zeroAt i 53 11

/-- Rules that depend on whether the working key is TDEA (R187): MAC_LEN, block multiple, IV, MAC. -/
def dukptSizesOk (r : DukptRole) (i : Octets) (tdea : Bool) : Bool :=
  (if r.isMac then decide (4 ≤ u8 i 2 ∧ u8 i 2 ≤ (if tdea then 8 else 16)) else u8 i 2 == 0) &&
  (!r.isData || (u32 i 4 % (if tdea then 8 else 16) == 0 && (!tdea || zeroAt i 16 8))) &&
  (!(r == .macVerify) || zeroAt (slice i 24 16) (u8 i 2) (16 - u8 i 2))

/-- Header, references and data of a DUKPT command. -/
def dukptParts (r : DukptRole) (refs : Nat) : Svc (List KeyRef × Octets) := do
  let i ← getIn
  let n := if r.isData || r.isMac then u32 i 4 else 0
  need (i.length == 64 + refsLen refs (i.drop 64) + n) badLength
  need (dukptHeaderOk r i) badField
  let (rs, rest) ← takeRefs (r == .ikExport) refs (i.drop 64)
  pure (rs, rest)

/-- The working key of a data or MAC service: checks of steps 1 to 3, then the chain. -/
def dukptWork (r : DukptRole) : Svc (KeyVal × Octets) := do
  let i ← getIn
  let (rs, data) ← dukptParts r 1
  let ref := rs.headD noRef
  need (isDukptKind ref.kind) badField
  let kt := if aesDukptKind ref.kind then keytypeAlg ref.keytype else 1
  need (dukptSizesOk r i (isTdea kt) && !(u8 i 1 == 2 && !(aesDukptKind ref.kind))) badField
  let bdk ← resolveKey ref
  needKey bdk ["B0"] "X" (bdkAlg ref.kind)
  pure (dukptKey ref bdk (u8 i 0) (u8 i 1) ref.keytype, data)

/-- The MAC of R190. -/
def dukptMac (w : KeyVal) (data : Octets) : Octets :=
  if isTdea w.alg then macAlg3 w.bytes 1 data else cmac w.alg w.bytes data

/-- DUKPT_IK_EXPORT (0x0401): R191. -/
def svcDukptIkExport : Svc Octets := do
    let i ← getIn
    let (rs, _) ← dukptParts .ikExport 2
    match rs with
    | [rb, rk] =>
      need (isDukptKind rb.kind && !(isDukptKind rk.kind) && dukptSizesOk .ikExport i false &&
            !(u8 i 1 == 2 && !(aesDukptKind rb.kind))) badField
      let bdk ← resolveKey rb
      let kb ← resolveKey rk
      needKey bdk ["B0"] "X" (bdkAlg rb.kind)
      needKbpk kb true
      let verD := isAes kb.alg
      let st ← getS; let c ← getC
      need (decide (strength kb.alg ≥ strength bdk.alg) || polExportWeaker st c.slot) policyDenied
      let ik : KeyVal := { bdk with bytes := if aesDukptKind rb.kind then aesIk bdk rb.ksn else tdesIk bdk.bytes rb.ksn }
      capacity (blockTotal verD ik)
      let fill ← random 32
      let a := fit 9 (Config.madeAttrs 0x0401 0)
      pure (keyBlock verD ik (ascii "B1") 0x58 ((slice a 6 1).headD 0) (slice a 7 2) kb.bytes fill)
    | _ => fail badField
/-- DUKPT_IK_EXPORT (0x0401) on core k. -/
def execDukptIkExport (k : CoreId) (s : State) : Outcome State Fault Refusal :=
  answer (runService s k.toNat 0x0401 false defaultWait svcDukptIkExport)

/-- DUKPT_TERMINAL_KEY (0x0402): R191. -/
def svcDukptTerminalKey : Svc Octets := do
    let i ← getIn
    let (rs, _) ← dukptParts .terminalKey 1
    let ref := rs.headD noRef
    need (!(isDukptKind ref.kind) && dukptSizesOk .terminalKey i false) badField
    let ik ← resolveKey ref
    needKey ik ["B1"] "X" (fun a => a == 1 || isAes a)
    let aes := isAes ik.alg
    let ksn := slice i 40 12
    need (ksnOk aes false ksn && (aes || (zeroAt ksn 10 2 && u8 i 52 == 0 && u8 i 1 != 2))) badField
    let w : KeyVal :=
      if aes then
        { alg := keytypeAlg (u8 i 52), len := algLen (keytypeAlg (u8 i 52)),
          bytes := aesWorking ik.alg ik.bytes ksn (u8 i 0) (u8 i 1) (u8 i 52) }
      else { alg := 1, len := 16, bytes := tdesWorking ik.bytes ksn (u8 i 0) (u8 i 1) }
    capacity 144
    envelopeOut (madeTemplate 0x0402 (u8 i 0) w.alg w.len) w.bytes 0 0
/-- DUKPT_TERMINAL_KEY (0x0402) on core k. -/
def execDukptTerminalKey (k : CoreId) (s : State) : Outcome State Fault Refusal :=
  answer (runService s k.toNat 0x0402 true defaultWait svcDukptTerminalKey)

/-- DUKPT_DECRYPT (0x0403): R190. -/
def svcDukptDecrypt : Svc Octets := do
    let i ← getIn
    let (w, data) ← dukptWork .decrypt
    capacity data.length
    pure (cbcDec w.alg w.bytes (slice i 8 16) data)
/-- DUKPT_DECRYPT (0x0403) on core k. -/
def execDukptDecrypt (k : CoreId) (s : State) : Outcome State Fault Refusal :=
  answer (runService s k.toNat 0x0403 false defaultWait svcDukptDecrypt)

/-- DUKPT_ENCRYPT (0x0404): R190. -/
def svcDukptEncrypt : Svc Octets := do
    let i ← getIn
    let (w, data) ← dukptWork .encrypt
    capacity data.length
    pure (cbcEnc w.alg w.bytes (slice i 8 16) data)
/-- DUKPT_ENCRYPT (0x0404) on core k. -/
def execDukptEncrypt (k : CoreId) (s : State) : Outcome State Fault Refusal :=
  answer (runService s k.toNat 0x0404 false defaultWait svcDukptEncrypt)

/-- DUKPT_MAC_VERIFY (0x0405): R190. -/
def svcDukptMacVerify : Svc Octets := do
    let i ← getIn
    let (w, data) ← dukptWork .macVerify
    capacity 0
    need ((dukptMac w data).take (u8 i 2) == (slice i 24 16).take (u8 i 2)) verifyFailed
    pure []
/-- DUKPT_MAC_VERIFY (0x0405) on core k. -/
def execDukptMacVerify (k : CoreId) (s : State) : Outcome State Fault Refusal :=
  answer (runService s k.toNat 0x0405 false defaultWait svcDukptMacVerify)

/-- DUKPT_MAC_GENERATE (0x0406): R190. -/
def svcDukptMacGenerate : Svc Octets := do
    let i ← getIn
    let (w, data) ← dukptWork .macGenerate
    capacity (u8 i 2)
    pure ((dukptMac w data).take (u8 i 2))
/-- DUKPT_MAC_GENERATE (0x0406) on core k. -/
def execDukptMacGenerate (k : CoreId) (s : State) : Outcome State Fault Refusal :=
  answer (runService s k.toNat 0x0406 false defaultWait svcDukptMacGenerate)

end Sys2Proof.Machine
end

