-- ==== Sys2Proof/Machine/MacBulk.lean ====
section
/-! DEFINITION. MAC, bulk cipher and tokenisation services (R193, R194, R203 to R206), and
RANDOM_BYTES (R353). -/

namespace Sys2Proof.Machine

open Host

/-! ### MAC (R193, R194) -/

/-- Largest and least MAC_LEN that the algorithm itself allows. -/
def macRange (alg n : Nat) : Bool :=
  if alg = 5 then decide (n ≤ 16) else if alg = 7 then decide (16 ≤ n ∧ n ≤ 32)
  else if alg = 8 then decide (24 ≤ n ∧ n ≤ 48) else decide (n ≤ 8)

/-- Field rules of the MAC header. -/
def macHeaderOk (ver : Nat) (i : Octets) (verify : Bool) : Bool :=
  let alg := u8 i 0
  let iso := alg == 1 || alg == 3
  (iso || (ver != 1 && decide (5 ≤ alg ∧ alg ≤ 8))) &&
  (if iso then u8 i 1 == 1 || u8 i 1 == 2 else u8 i 1 == 0) && macRange alg (u8 i 2) && zeroAt i 3 1 &&
  !(iso && u8 i 1 == 1 && u32 i 4 == 0) &&
  (if verify then zeroAt (slice i 8 48) (u8 i 2) (48 - u8 i 2) else zeroAt i 8 48) && zeroAt i 56 8

/-- Usage row of R178 for a MAC algorithm. -/
def macUsages (alg : Nat) : List String :=
  if alg = 1 then ["M0", "M1"] else if alg = 3 then ["M3"] else if alg ≤ 6 then ["M6"] else ["M7"]
def macAlgOk (alg a : Nat) : Bool :=
  if alg = 1 then isTdea a else if alg = 3 then a == 1 else if alg = 5 then isAes a else if alg = 6 then isTdea a else a == 6

/-- The MAC of a command over its data, at full length. -/
def macOf (alg pad : Nat) (k : KeyVal) (o : Octets) : Octets :=
  if alg = 1 then macAlg1 k.bytes pad o else if alg = 3 then macAlg3 k.bytes pad o
  else if alg = 7 then hmac 32 k.bytes o else if alg = 8 then hmac 48 k.bytes o else cmac k.alg k.bytes o

/-- The steps that MAC_GENERATE and MAC_VERIFY share: the leftmost MAC_LEN octets. -/
def macCommand (verify : Bool) : Svc Octets := do
  let c ← getC; let i ← getIn
  let alg := u8 i 0
  need (i.length == 64 + refsLen 1 (i.drop 64) + u32 i 4) badLength
  need (macHeaderOk c.d.version.toNat i verify) badField
  let (rs, data) ← takeRefs false 1 (i.drop 64)
  let ref := rs.headD noRef
  need (!(isDukptKind ref.kind)) badField
  let k ← resolveKey ref
  needKey k (macUsages alg) (if verify then "VC" else "GC") (macAlgOk alg)
  let s ← getS
  need (decide (alg ≥ 7) || decide (u8 i 2 ≥ polMacMin s c.slot)) policyDenied
  capacity (if verify then 0 else u8 i 2)
  pure ((macOf alg (u8 i 1) k data).take (u8 i 2))

/-- MAC_GENERATE (0x0501): R193, R194. -/
def execMacGenerate (k : CoreId) (s : State) : Outcome State Fault Refusal :=
  answer (runService s k.toNat 0x0501 true defaultWait (macCommand false))

/-- MAC_VERIFY (0x0502): R193, R194. -/
def svcMacVerify : Svc Octets := do
    let m ← macCommand true
    let i ← getIn
    need (m == (slice i 8 48).take (u8 i 2)) verifyFailed
    pure []
/-- MAC_VERIFY (0x0502) on core k. -/
def execMacVerify (k : CoreId) (s : State) : Outcome State Fault Refusal :=
  answer (runService s k.toNat 0x0502 true defaultWait svcMacVerify)

/-! ### Bulk (R203 to R206) -/

/-- Roles of the bulk services. -/
inductive BulkRole where
  | gcmEncrypt | gcmDecrypt | cbcEncrypt | cbcDecrypt | ctr | ff1Encrypt | ff1Decrypt
  deriving DecidableEq, Repr

def BulkRole.isGcm (r : BulkRole) : Bool := r == .gcmEncrypt || r == .gcmDecrypt
def BulkRole.isFf1 (r : BulkRole) : Bool := r == .ff1Encrypt || r == .ff1Decrypt
def BulkRole.isCbc (r : BulkRole) : Bool := r == .cbcEncrypt || r == .cbcDecrypt
/-- Does the service encipher? -/
def BulkRole.enciphers (r : BulkRole) : Bool := r == .gcmEncrypt || r == .cbcEncrypt || r == .ff1Encrypt

/-- Field rules of the BULK header (R203). -/
def bulkHeaderOk (r : BulkRole) (i : Octets) : Bool :=
  let gen := (u8 i 0).testBit 0
  let n := u32 i 4
  decide (u8 i 0 ≤ 1) && (!gen || r == .gcmEncrypt || r == .cbcEncrypt || r == .ctr) &&
  (if r.isGcm then decide (12 ≤ u8 i 1 ∧ u8 i 1 ≤ 16) else u8 i 1 == 0) &&
  (if r.isFf1 then decide (2 ≤ u16 i 2 ∧ u16 i 2 ≤ 256) else u16 i 2 == 0) &&
  (if r.isFf1 then decide (2 ≤ n ∧ n ≤ 56) else if r.isCbc then n % 16 == 0 else true) &&
  (if r.isGcm then decide (u32 i 8 ≤ 65536) else if r.isFf1 then decide (u32 i 8 ≤ 32) else u32 i 8 == 0) &&
  zeroAt i 12 4 && (if gen || r.isFf1 then zeroAt i 16 16 else if r.isGcm then zeroAt i 28 4 else true) &&
  (if r == .gcmDecrypt then zeroAt (slice i 32 16) (u8 i 1) (16 - u8 i 1) else zeroAt i 32 16) && zeroAt i 48 16

/-- Header, key and parts of a bulk command: key, AAD or tweak, data, IV. -/
def bulkParts (r : BulkRole) : Svc (KeyVal × Octets × Octets × Octets) := do
  let i ← getIn
  let n := u32 i 4
  let aux := u32 i 8
  need (i.length == 64 + refsLen 1 (i.drop 64) + aux + n) badLength
  need (bulkHeaderOk r i) badField
  let (rs, rest) ← takeRefs false 1 (i.drop 64)
  let data := rest.drop aux
  need (!r.isFf1 || (decide (u16 i 2 ^ n ≥ 1000000) && data.all (fun o => decide (o.toNat < u16 i 2)))) badField
  let ref := rs.headD noRef
  need (!(isDukptKind ref.kind)) badField
  let k ← resolveKey ref
  -- CTR_CRYPT enciphers and deciphers alike, so either side's modes allow it.
  needKey k ["D0"] (if r == .ctr then "EDB" else if r.enciphers then "EB" else "DB") isAes
  let gen := (u8 i 0).testBit 0
  let ivLen := if r.isGcm then 12 else 16
  capacity (n + (if r == .gcmEncrypt then u8 i 1 else 0) + (if gen then ivLen else 0))
  let iv ← (if gen then random ivLen else pure (slice i 16 ivLen))
  pure (k, rest.take aux, data, iv)

/-- The drawn IV is appended to the output (R204). -/
def withIv (i iv out : Octets) : Octets := if (u8 i 0).testBit 0 then out ++ iv else out

/-- GCM_ENCRYPT (0x0701): R203, R204. -/
def svcGcmEncrypt : Svc Octets := do
    let i ← getIn
    let (key, aad, data, iv) ← bulkParts .gcmEncrypt
    let (ct, tag) := gcmEnc key.bytes (gcmJ0 iv) aad data
    pure (withIv i iv (fit data.length ct ++ (fit 16 tag).take (u8 i 1)))
/-- GCM_ENCRYPT (0x0701) on core k. -/
def execGcmEncrypt (k : CoreId) (s : State) : Outcome State Fault Refusal :=
  answer (runService s k.toNat 0x0701 false defaultWait svcGcmEncrypt)

/-- GCM_DECRYPT (0x0702): R205; on a tag mismatch every octet written is overwritten with zero. -/
def svcGcmDecrypt : Svc Octets := do
    let i ← getIn
    let (key, aad, data, iv) ← bulkParts .gcmDecrypt
    let (pt, tag) := gcmDec key.bytes (gcmJ0 iv) aad data
    if (fit 16 tag).take (u8 i 1) == (slice i 32 16).take (u8 i 1) then pure (fit data.length pt)
    else
      let c ← getC
      modS (fun st => if data.isEmpty then st else emit st (.hostWrite c.fn.portB c.d.outAddr (zeros data.length)))
      fail verifyFailed
/-- GCM_DECRYPT (0x0702) on core k. -/
def execGcmDecrypt (k : CoreId) (s : State) : Outcome State Fault Refusal :=
  answer (runService s k.toNat 0x0702 false defaultWait svcGcmDecrypt)

/-- CBC_ENCRYPT (0x0703): R203, R204. -/
def svcCbcEncrypt : Svc Octets := do
    let i ← getIn
    let (key, _, data, iv) ← bulkParts .cbcEncrypt
    pure (withIv i iv (cbcEnc key.alg key.bytes iv data))
/-- CBC_ENCRYPT (0x0703) on core k. -/
def execCbcEncrypt (k : CoreId) (s : State) : Outcome State Fault Refusal :=
  answer (runService s k.toNat 0x0703 false defaultWait svcCbcEncrypt)

/-- CBC_DECRYPT (0x0704): R203. -/
def svcCbcDecrypt : Svc Octets := do
    let (key, _, data, iv) ← bulkParts .cbcDecrypt
    pure (cbcDec key.alg key.bytes iv data)
/-- CBC_DECRYPT (0x0704) on core k. -/
def execCbcDecrypt (k : CoreId) (s : State) : Outcome State Fault Refusal :=
  answer (runService s k.toNat 0x0704 false defaultWait svcCbcDecrypt)

/-- CTR_CRYPT (0x0705): R203, R204. -/
def svcCtrCrypt : Svc Octets := do
    let i ← getIn
    let (key, _, data, iv) ← bulkParts .ctr
    pure (withIv i iv (ctrCrypt key.bytes iv data))
/-- CTR_CRYPT (0x0705) on core k. -/
def execCtrCrypt (k : CoreId) (s : State) : Outcome State Fault Refusal :=
  answer (runService s k.toNat 0x0705 false defaultWait svcCtrCrypt)

/-- The symbols of an FF1 result. -/
def ff1Run (enc : Bool) (i key tweak data : Octets) : Octets :=
  fit data.length ((ff1 enc key (u16 i 2) tweak (data.map (·.toNat))).map (BitVec.ofNat 8))

/-- FF1_ENCRYPT (0x0706): R206. -/
def svcFf1Encrypt : Svc Octets := do
    let i ← getIn
    let (key, tweak, data, _) ← bulkParts .ff1Encrypt
    pure (ff1Run true i key.bytes tweak data)
/-- FF1_ENCRYPT (0x0706) on core k. -/
def execFf1Encrypt (k : CoreId) (s : State) : Outcome State Fault Refusal :=
  answer (runService s k.toNat 0x0706 false defaultWait svcFf1Encrypt)

/-- FF1_DECRYPT (0x0707): R206. -/
def svcFf1Decrypt : Svc Octets := do
    let i ← getIn
    let (key, tweak, data, _) ← bulkParts .ff1Decrypt
    pure (ff1Run false i key.bytes tweak data)
/-- FF1_DECRYPT (0x0707) on core k. -/
def execFf1Decrypt (k : CoreId) (s : State) : Outcome State Fault Refusal :=
  answer (runService s k.toNat 0x0707 false defaultWait svcFf1Decrypt)

/-! ### RANDOM_BYTES (R353, R354) -/

/-- Inline parameters of RANDOM_BYTES under a command-set version. -/
def randomParamsOk (ver : Nat) (p : Octets) : Bool :=
  decide (1 ≤ u32 p 0 ∧ u32 p 0 ≤ (if ver = 1 then 4096 else 65536)) &&
  (u32 p 4 == 0 || decide (100 ≤ u32 p 4 ∧ u32 p 4 ≤ 100000)) &&
  (if ver = 1 then u8 p 8 == 0 else decide (u8 p 8 ≤ 1)) && zeroAt p 9 15

/-- RANDOM_BYTES (0x0901): LEN octets from one generate request of the slot's instance, with the input as additional
input. -/
def svcRandomBytes : Svc Octets := do
    let c ← getC
    capacity (u32 c.d.params 0)
    random (u32 c.d.params 0) ((u8 c.d.params 8).testBit 0) c.input
/-- The wait limit in µs that RANDOM_BYTES names, 10 ms by default (R341, R353). -/
def randomWait (s : State) (k : Nat) : Nat :=
  let us := match running s k with | some (_, c) => u32 c.d.params 4 | none => 0
  if us = 0 then defaultWait else us
/-- RANDOM_BYTES (0x0901) on core k. -/
def execRandomBytes (k : CoreId) (s : State) : Outcome State Fault Refusal :=
  answer (runService s k.toNat 0x0901 false (randomWait s k.toNat) svcRandomBytes)

end Sys2Proof.Machine
end

