-- ==== Sys2Proof/Machine/Fetch.lean ====
section
/-! DEFINITION. Fetching a descriptor: the catalogue of services, the checks of R94, the replay lookup,
placement, the landing of the input, and the channel-control services (R89 to R109, R390). -/

namespace Sys2Proof.Machine

open Host

/-! ### The catalogue (R94 step 3) -/

/-- Tenant services defined under versions 1, 2 and 3, and under 2 and 3 only. -/
def opsAll : List Nat :=
  [0x0001, 0x0002, 0x0003, 0x0004, 0x0101, 0x0102, 0x0201, 0x0202, 0x0301, 0x0302, 0x0303, 0x0304,
   0x0403, 0x0404, 0x0405, 0x0501, 0x0502, 0x0609, 0x0901]
def ops23 : List Nat :=
  [0x0103, 0x0104, 0x0203, 0x0305, 0x0401, 0x0402, 0x0406, 0x0601, 0x0602, 0x0603, 0x0604, 0x0605, 0x0606,
   0x0607, 0x0701, 0x0702, 0x0703, 0x0704, 0x0705, 0x0706, 0x0707, 0x0801, 0x0802, 0x0803, 0x0804, 0x0811,
   0x0812, 0x0813, 0x0814, 0x0A01, 0x0A02]
/-- PF0 management services. -/
def opsPf0 : List Nat :=
  [0x8010, 0x8011, 0x8012, 0x8013, 0x8014, 0x8015, 0x8020, 0x8030, 0x8040, 0x8050, 0x8051, 0x8052, 0x8053,
   0x8054, 0x8060, 0x8061, 0x8062, 0x8063, 0x8070, 0x8071, 0x8072, 0x8073, 0x8074, 0x8075, 0x8076, 0x8080,
   0x8081, 0x8082, 0x8090, 0x8091, 0x8092, 0x8093, 0x8094, 0x8095]

/-- Does the applied image define the custom service? -/
def customBody (s : State) (op : Code) : Option Octets :=
  if op.toNat / 256 = 0x0F then lookup s.boot.custom (op.toNat % 256) else none

/-- Is the opcode defined under a version, and allowed on the function? (R94 step 3) -/
def opDefined (s : State) (fn : Fn) (op : Code) (ver : Nat) : Bool :=
  let n := op.toNat
  opsAll.contains n || (ops23.contains n && decide (ver ≥ 2)) || (n == 0x0608 && ver == 1) ||
  (opsPf0.contains n && fn.vf == 0) || (customBody s op).isSome

/-- The input length that a service fixes; none where it depends on the input (R90). -/
def fixedLen (op : Code) : Option Nat :=
  let n := op.toNat
  if [0x0001, 0x0002, 0x0003, 0x0004, 0x0A02, 0x8010, 0x8011, 0x8013, 0x8014, 0x8015, 0x8030, 0x8040, 0x8053,
      0x8060, 0x8061, 0x8062, 0x8063, 0x8071, 0x8072, 0x8073, 0x8074, 0x8080, 0x8081, 0x8082, 0x8093, 0x8094,
      0x8095].contains n then some 0
  else if [0x8012, 0x8070, 0x8076, 0x8090, 0x8092].contains n then some 64
  else if n = 0x8020 then some 512
  else if n = 0x0A01 then some 32
  else if n = 0x8050 then some 16
  else if n = 0x8051 then some 201
  else if n = 0x8052 then some 265
  else if n = 0x8054 then some 1
  else none

/-- How many octets of inline parameters a service defines (R90). -/
def inlineUsed (op : Code) : Nat :=
  match op.toNat with
  | 0x0001 => 3 | 0x0901 => 9 | 0x8013 => 8 | 0x8040 => 4 | 0x8062 => 1 | 0x8063 => 8 | 0x8071 => 2
  | 0x8072 => 2 | 0x8073 => 2 | 0x8074 => 2 | 0x8080 => 1 | 0x8093 => 1 | 0x8094 => 2
  | n => if n / 256 = 0x0F then 24 else 0

/-- Services that may take their input inline. -/
def mayInline (op : Code) : Bool :=
  op == 0x0002 || op == 0x0003 || op == 0x0004 || (decide (0x8050 ≤ op.toNat) && decide (op.toNat ≤ 0x8054)) ||
  decide (op.toNat / 256 = 0x0F)

/-- Services that are always state-changing, with the kind of record: mirrored or kept on this module
(R172, R257, R436, R606). -/
def alwaysMirrored (s : State) (op : Code) : Bool :=
  [0x0601, 0x0603, 0x0605, 0x0804, 0x0814, 0x8070, 0x8071, 0x8072, 0x8073, 0x8075].contains op.toNat ||
  (match customBody s op with | some b => (u8 b 0).testBit 0 | none => false)
def alwaysLocal (op : Code) : Bool := op == 0x8020 || op == 0x8094 || op == 0x8062
def alwaysState (s : State) (op : Code) : Bool := alwaysMirrored s op || alwaysLocal op

/-- Services whose commands the replay store is searched for: those that may be state-changing (R94 step
8, R146). -/
def mayCommit (s : State) (op : Code) : Bool :=
  alwaysState s op ||
  [0x0101, 0x0102, 0x0103, 0x0104, 0x0201, 0x0202, 0x0203, 0x0301, 0x0302, 0x0303, 0x0304, 0x0402, 0x0501,
   0x0502, 0x0602, 0x0607, 0x0801, 0x0803, 0x0811, 0x0813].contains op.toNat

/-! ### R94 -/

/-- Status of R58 in a mode other than SERVICE. -/
def modeStatus (m : Mode) : Code :=
  match m with | .locked => lockedSt | .erased => erasedSt | _ => notActive

/-- Step 1: module mode (R58, R523; R50 during a MAINT_ENTER drain). -/
def checkMode (s : State) (c : Cmd) : Option Code :=
  let op := c.d.opcode.toNat
  let out := s.boot.mode != .service
  if c.slot < 512 then (if out || s.boot.tenantStop then some (modeStatus s.boot.mode) else none)
  else if op < 0x0100 then none
  else if op < 0x1000 then (if out then some (modeStatus s.boot.mode) else none)
  else if s.boot.mode = .erased ∧ op ≠ 0x8081 ∧ op ≠ 0x8095 then some erasedSt
  else none

/-- Step 2: version byte. -/
def versionOk (p : Ph) (d : Descriptor) : Bool :=
  let v := p.version.toNat
  if d.opcode = 0x0001 then !p.inForce && d.version == 0
  else if !p.inForce then d.opcode == 0x0004 && d.version == 0
  else d.version.toNat == v || (d.opcode == 0x0004 && d.version == 0)

/-- Steps 4 to 7. -/
def checkFields (s : State) (c : Cmd) (ver : Nat) : Option Code :=
  let d := c.d
  let n := d.inLen.toNat
  if d.flags.extractLsb' 6 2 ≠ 0 ∨ (ver < 3 ∧ (wantsFrank d ∨ isCritical d)) ∨ d.reserved ≠ 0 then some badField
  else if wantsFrank d ∧ s.keys.frankPriv.isNone then some modeRefused
  else if n > 16777216 ∨ (isInline d ∧ n > 24) ∨ ((fixedLen d.opcode).getD n ≠ n) ∨
      (d.opcode = 0x0901 ∧ n > (if ver = 1 then 0 else 256)) then some badLength
  else if d.inAddr.toNat % 8 ≠ 0 ∨ d.outAddr.toNat % 8 ≠ 0 then some badAlignment
  else if (isInline d ∧ !(mayInline d.opcode && zeroAt d.params n (24 - n))) ∨
      (!isInline d ∧ !zeroAt d.params (inlineUsed d.opcode) (24 - inlineUsed d.opcode)) ∨
      (d.opcode = 0x0901 ∧ !randomParamsOk ver d.params) ∨
      ((isInline d ∨ n = 0) ∧ d.inAddr ≠ 0) ∨ (d.outCap = 0 ∧ d.outAddr ≠ 0) then some badField
  else none

/-- Steps 1 to 7 of R94: the first failure. -/
def fetchCheck (s : State) (c : Cmd) : Option Code :=
  let p := s.ph c.ph
  match checkMode s c with
  | some st => some st
  | none =>
    if !versionOk p c.d then some badVersion
    else if !opDefined s c.fn c.d.opcode (if p.inForce then p.version.toNat else 3) then some badOpcode
    else checkFields s c (if c.d.version = 0 then 0 else p.version.toNat)

/-- The 24-octet header of a replayed output (R108). -/
def replayOutput (r : Replay) : Octets :=
  le 2 r.status.toNat ++ [0, 0] ++ le 4 r.output.length ++ r.pm.octets ++ zeros 4 ++ r.output

/-- Complete a command with REPLAYED (R108): the record's result, its trailer inside. -/
def completeReplayed (s : State) (e : Nat) (c : Cmd) (r : Replay) : State :=
  handOff (s.setCmd e { c with status := replayedSt, output := replayOutput r, franked := r.franked, replay := true,
                               served := true, effects := [] }) srcSupervisor e

/-- What follows the checks: replay lookup, twin, placement (R94 step 8, R109, R119). -/
def takeIn (s : State) (e : Nat) (c : Cmd) : State :=
  let op := c.d.opcode
  let found := if mayCommit s op then findReplay s c.slot c.ph c.d.cmdId else none
  match found with
  | some r => if r.opcode ≠ op then completeWith s e badField else completeReplayed s e c r
  | none =>
    if alwaysState s op ∧ twinInFlight s e c then completeWith s e busyRetry
    else
      let c := if alwaysState s op then
          { c with stateChanging := true, journalled := true, keepsReplay := true, mirrors := alwaysMirrored s op }
        else c
      let c := { c with custom := (customBody s op).isSome }
      if op = 0x0002 then
        let s := s.setPh c.ph { s.ph c.ph with state := .closing, credits := 0 }
        place s e { c with closes := true }
      else place s e c

/-- Pages of working memory that are not to be used: poisoned, or of a retired channel (R484, R485). -/
def badPage (s : State) (a : Nat) : Bool :=
  s.units.poisoned.contains (a / 4096) || s.warden.retChannels.getLsbD (a / 2 ^ s.boot.ilvShift % 8)

/-- A command-table entry withheld from use (R484, R485). -/
def withheld (s : State) (e : Nat) : Bool := badPage s (stagingAddr e) || badPage s (scratchAddr e)

/-- The first free entry of the command table from e on, of n entries. -/
def freeFrom (s : State) : Nat → Nat → Option Nat
  | 0, _ => none
  | n + 1, e => if (s.cmd e).isNone && !withheld s e then some e else freeFrom s n (e + 1)

/-- The lowest free entry of the command table. -/
def freeEntry (s : State) : Option Nat := freeFrom s 16384 0

/-- DESCRIPTOR_FETCH: a descriptor arrives for a pigeonhole that holds a credit; it is stamped, checked
in R94's order, and completed or placed.  On a pigeonhole that fetches no more, the read is dropped
(R105, R442). -/
def execDescriptorFetch (ph : BitVec 12) (d : Descriptor) (s : State) : Outcome State Fault Refusal :=
  answer (
    let n := ph.toNat
    let p := s.ph n
    match phOwner s n, freeEntry s with
    | some (slot, idx), some e =>
      if p.credits = 0 then s
      else if !(p.state == .ready || p.state == .opened) || p.draining then s.setPh n { p with credits := p.credits - 1 }
      else
        let (pm, s) := stamp s n
        let depth := phDepth s n + 1
        let s := s.setPh n { p with credits := p.credits - 1, sqHead := (p.sqHead + 1) % p.depth,
                                    maxDepth := if depth > p.maxDepth.toNat then BitVec.ofNat 16 depth else p.maxDepth }
        let s := { s with so := { s.so with
          fetched := tset ({} : Stat) s.so.fetched slot (tget ({} : Stat) s.so.fetched slot).inc, nextFetch := s.so.nextFetch + 1 } }
        let c : Cmd := { fn := fnOfSlot slot, idx := idx, ph := n, slot := slot, d := d, arrival := pm,
                         fetchNo := s.so.nextFetch }
        let s := s.setCmd e c
        (match fetchCheck s c with
         | some st => completeWith s e st
         | none => takeIn s e c)
    | _, _ => s)

/-! ### Landing of the input (R390) -/

/-- The 64 octets of a descriptor (R89). -/
def descOctets (d : Descriptor) : Octets :=
  le 2 d.opcode.toNat ++ [d.version, d.flags] ++ le 4 d.inLen.toNat ++ le 8 d.cmdId.toNat ++ le 8 d.inAddr.toNat ++
  le 8 d.outAddr.toNat ++ le 4 d.outCap.toNat ++ le 4 d.reserved.toNat ++ fit 24 d.params

/-- Octets of input that are staged: none for opcode group 0x07 (R390). -/
def stagedLen (d : Descriptor) : Nat := if d.opcode.toNat / 256 = 7 then 0 else min d.inLen.toNat 4032

/-- INPUT_LANDED: the input has landed, the descriptor and its start are staged, and the ready-list entry
becomes eligible (R126, R390). -/
def execInputLanded (e : Nat) (data : Octets) (s : State) : Outcome State Fault Refusal :=
  answer (
    match s.cmd e with
    | none => s
    | some c =>
      if c.landed || !(c.stage == .ready || c.stage == .pending) then s
      else
        let n := c.d.inLen.toNat
        let input := if isInline c.d then c.d.params.take n else fit n data
        let s := { s with wmem := wmemWrite s.wmem (stagingAddr e) (descOctets c.d ++ input.take (stagedLen c.d)) }
        noteEntry (s.setCmd e { c with landed := true, input := input, eligible := decide (c.stage = Stage.ready) }) e)

/-! ### Channel control (R100 to R105) -/

/-- CMDSET_MASK of a slot (R77, R100, R439). -/
def cmdsetMask (s : State) (slot : Nat) : Nat :=
  if slot ≥ 512 then 14 else 12 + (if polV1Accept s slot then 2 else 0)

/-- The highest version common to two masks. -/
def commonVersion (a b : Nat) : Option Nat := [3, 2, 1].find? (fun v => a.testBit v && b.testBit v)

/-- May an OPEN act: a READY pigeonhole, or a QUIESCED one whose resume state is READY (R94, R442). -/
def canOpen (p : Ph) : Bool := !p.inForce && (p.state == .ready || p.state == .quiesced)

/-- OPEN (0x0001): negotiation; the pigeonhole moves to OPEN with a home cluster (R100, R101, R118). -/
def svcOpenCh : Svc Octets := do
    let st ← getS; let c ← getC
    let p := st.ph c.ph
    let q := c.d.params
    need (canOpen p) badVersion
    need (decide (u8 q 0 % 2 = 0 ∧ u8 q 0 < 16 ∧ u8 q 1 < 4 ∧ u8 q 2 ≤ 7) && (decide (c.slot ≥ 512) || decide (u8 q 2 ≥ 1)) &&
      zeroAt q 3 21) badField
    let v ← (match commonVersion (u8 q 0) (cmdsetMask st c.slot) with
      | some v => pure v
      | none => fail badVersion)
    need (!((u8 q 1).testBit 0 && decide (v < 3))) badVersion
    capacity 16
    let maxp := slotMaxPrio st c.slot
    let prio := max (u8 q 2) maxp
    modS (fun s => s.setPh c.ph { p with
      state := if p.state == .ready then .opened else .quiesced, resume := .opened,
      version := BitVec.ofNat 2 v, ordered := (u8 q 1).testBit 0, serial := (u8 q 1).testBit 1,
      defaultPrio := BitVec.ofNat 3 prio, home := homeFor s c.slot })
    pure (le 1 v ++ le 1 (u8 q 1) ++ le 1 prio ++ le 1 maxp ++ le 2 c.idx ++ le 2 c.slot ++
      le 4 st.boot.fwBuild.toNat ++ zeros 4)
/-- OPEN (0x0001) on core k. -/
def execOpenCh (k : CoreId) (s : State) : Outcome State Fault Refusal :=
  answer (runService s k.toNat 0x0001 false defaultWait svcOpenCh)

/-- CLOSE (0x0002): its checks were made at the fetch; it completes with no output (R105). -/
def svcCloseCh : Svc Octets := do capacity 0; pure []
/-- CLOSE (0x0002) on core k. -/
def execCloseCh (k : CoreId) (s : State) : Outcome State Fault Refusal :=
  answer (runService s k.toNat 0x0002 false defaultWait svcCloseCh)

/-- NOP (0x0003): OK and no output (R105). -/
def svcNop : Svc Octets := do capacity 0; pure []
/-- NOP (0x0003) on core k. -/
def execNop (k : CoreId) (s : State) : Outcome State Fault Refusal :=
  answer (runService s k.toNat 0x0003 false defaultWait svcNop)

/-- VERSION (0x0004): the 16-octet version record (R105). -/
def svcVersion : Svc Octets := do
    capacity 16
    let st ← getS; let c ← getC
    pure (le 1 (cmdsetMask st c.slot) ++ [3, 2, st.boot.mirrorMax] ++ le 4 st.boot.fwBuild.toNat ++
      le 2 0x3680 ++ le 2 0x0A01 ++ zeros 4)
/-- VERSION (0x0004) on core k. -/
def execVersion (k : CoreId) (s : State) : Outcome State Fault Refusal :=
  answer (runService s k.toNat 0x0004 false defaultWait svcVersion)

/-- CLOSE_COMPLETE: every earlier command has completed, so CLOSE's completion is written and the
pigeonhole enters READY (R105). -/
def execCloseComplete (ph : BitVec 12) (s : State) : Outcome State Fault Refusal :=
  answer (
    match s.so.cmds.find? (fun x => x.2.ph == ph.toNat && x.2.closes) with
    | some x => writeCompletion s x.1
    | none => s)

end Sys2Proof.Machine
end

