-- ==== Sys2Proof/Machine/Redundancy.lean ====
section
/-! DEFINITION. Loss of a cluster, the spare, and the working-memory channels (R136, R137, R244, R478 to
R485). -/

namespace Sys2Proof.Machine

open Host

/-! ### Physical clusters -/

/-- LOGICAL of physical cluster j. -/
def logicalOf (s : State) (j : Nat) : Nat := s.units.logical.getD j 0xFF
def setLogical (s : State) (j v : Nat) : State :=
  { s with units := { s.units with logical := s.units.logical.set j v } }

/-- Physical cluster that stands at a value of LOGICAL. -/
def unitAt (s : State) (v : Nat) : Option Nat := (List.range 9).find? (fun j => logicalOf s j == v)

/-- Marks of LOGICAL: the spare, a failed cluster under test (shown as a spare under test), retired. -/
def spareMark : Nat := 0xFE
def testMark : Nat := 0xFD
def retiredMark : Nat := 0xFF

/-- A physical cluster takes logical number cl; the replacement lasts until CLUSTER_REPLACED (R479, R482). -/
def takeNumber (s : State) (j cl : Nat) : State :=
  let s := setLogical s j cl
  { s with units := { s.units with spareState := if (unitAt s testMark).isSome then 1 else 3,
                                   replacing := s.units.replacing ++ [cl] } }

/-- A logical cluster that is out of service. -/
def outCluster (s : State) : Option Nat := (List.range 8).find? (fun cl => s.so.clusterOut.getLsbD cl && !s.units.replacing.contains cl)

/-- A physical cluster becomes the spare, or takes a number that is out of service at once (R481, R482). -/
def becomeSpare (s : State) (j : Nat) : State :=
  match outCluster s with
  | some cl => takeNumber s j cl
  | none =>
    let s := setLogical s j spareMark
    { s with units := { s.units with spareState := 0 } }

/-- A physical cluster is retired: the warden keeps it, its domain and its clock gate go off (R477, R481). -/
def retireCluster (s : State) (j : Nat) : State :=
  let s := setLogical s j retiredMark
  let s := { s with
    warden := { s.warden with retClusters := s.warden.retClusters ||| BitVec.ofNat 9 (2 ^ j) },
    clocks := { s.clocks with pd := s.clocks.pd &&& ~~~(BitVec.ofNat 26 (2 ^ (10 + j))),
                              gates := s.clocks.gates &&& ~~~(BitVec.ofNat 28 (2 ^ (1 + j))) },
    units := { s.units with spareState :=
      if (unitAt s spareMark).isSome then s.units.spareState
      else if (unitAt s testMark).isSome then 1 else 3 } }
  journalRetire s .cluster j

/-! ### Loss of a cluster (R136, R137, R231, R244, R479) -/

/-- A command as its re-run finds it: from the start, with TURN 0 (R136, R389). -/
def Cmd.rerun (c : Cmd) (always : Bool) : Cmd :=
  { c with turn := 0, deferred := false, served := false, status := 0, output := [], outLen := 0, isPartial := false, franked := false,
           effects := [], waiting := false, waitDue := none, stateChanging := always, journalled := always,
           keepsReplay := c.keepsReplay && always, mirrors := c.mirrors && always, cycles := 0 }

/-- The commands that run on a cluster or are pre-selected there, the one placed last first. -/
def lostCommands (s : State) (cl : Nat) : List Nat :=
  let held := (clusterCores cl).flatMap (fun k => (s.core k).cmd.toList ++ (s.core k).pre.toList)
  ((s.so.cmds.filter (fun x => held.contains x.1)).mergeSort (fun x y => decide (x.2.order ≥ y.2.order))).map (·.1)

/-- A core of a lost cluster: its turn is over, its WMU scrubs, its ACTIVE sets drain (R245, R434, R479). -/
def loseCore (s : State) (k : Nat) : State :=
  let s := endTurn (dropPre s k) k
  let s := s.setCore k { wmu := (s.core k).wmu.scrub, wmuFaults := (s.core k).wmuFaults,
                         busy1ms := (s.core k).busy1ms, busy1s := (s.core k).busy1s }
  { s with gates := { s.gates with
      sets := s.gates.sets.map (fun x =>
        if x.1 / 2 % 128 = coreMaster k ∧ x.2.st = .active then (x.1, x.2.swapped) else x) } }

/-- A lost command returns to the head of its slot's queue (R136). -/
def returnLost (s : State) (e : Nat) : State :=
  match s.cmd e with
  | none => s
  | some c => toHead (clearScratch s e) e (c.rerun (alwaysState s c.d.opcode))

/-- Re-place one entry of a list that has left service (R137): its stage stays, or it waits as pending
placement. -/
def replaceEntry (s : State) (e : Nat) : State :=
  match s.cmd e with
  | none => s
  | some c =>
    match targetList s c with
    | some k =>
      if readyCount s k ≥ 1024 then
        s.setCmd e (match c.stage with | .ready => { c with stage := .pending, list := none, eligible := false } | _ => { c with list := none })
      else
        let s := { s with so := { s.so with nextOrder := s.so.nextOrder + 1 } }
        noteEntry (s.setCmd e { c with list := some k, order := s.so.nextOrder }) e
    | none => s.setCmd e { c with stage := (match c.stage with | .ready => .pending | st => st), list := none, eligible := false }

/-- Logical cluster cl leaves service: its entries are re-placed in order of level, then arrival, and its
pigeonholes re-homed (R137). -/
def resteer (s : State) (cl : Nat) : State :=
  let s := { s with so := { s.so with clusterOut := s.so.clusterOut ||| BitVec.ofNat 8 (2 ^ cl), resteer := true } }
  let homed := (s.so.phs.filter (fun x => x.2.home == some cl)).map (·.1)
  let s := homed.foldl (fun s n =>
    match phOwner s n with
    | some (slot, _) =>
      let s := s.setPh n { s.ph n with home := none }
      s.setPh n { s.ph n with home := homeFor s slot }
    | none => s) s
  let l := (s.so.cmds.filter (fun x => x.2.list == some cl)).mergeSort (fun x y =>
    decide (x.2.level < y.2.level) || (x.2.level == y.2.level && decide (x.2.arrival.time.toNat ≤ y.2.arrival.time.toNat)))
  refreshCauses ((l.map (·.1)).foldl replaceEntry s)

/-- A lockstep mismatch of logical cluster cl (R136, R137, R479, R481, R482): its work returns to its
queues, and the spare takes its number or it leaves service; the failed cluster goes to test. -/
def clusterLost (s : State) (cl : Nat) : State :=
  match unitAt s cl with
  | none => s
  | some j =>
    if s.units.replacing.contains cl || s.so.clusterOut.getLsbD cl then s
    else
      let s := { s with units := { s.units with
        mismatches := tset [] s.units.mismatches j (s.time.toNat :: tget [] s.units.mismatches j) } }
      let s := eventF s 0x0301 j 0 0
      let lost := lostCommands s cl
      let s := (clusterCores cl).foldl loseCore s
      let s := lost.foldl returnLost s
      let spare := if s.units.spareState = 0 then unitAt s spareMark else none
      let s := setLogical s j testMark
      match spare with
      | some i => takeNumber s i cl
      | none => resteer { s with units := { s.units with spareState := 1 } } cl

/-- LOCKSTEP_MISMATCH: a pair of core k disagrees (R389, R479). -/
def execLockstepMismatch (k : CoreId) (s : State) : Outcome State Fault Refusal :=
  answer (clusterLost s (k.toNat / 8))

/-- CLUSTER_REPLACED: the replacement of logical cluster cl ends, and its cores may be dispatched to (R479,
R482). -/
def execClusterReplaced (cluster : BitVec 3) (s : State) : Outcome State Fault Refusal :=
  answer (
    let cl := cluster.toNat
    if !s.units.replacing.contains cl then s
    else
      let s := { s with
        units := { s.units with replacing := s.units.replacing.filter (· ≠ cl) },
        so := { s.so with clusterOut := s.so.clusterOut &&& ~~~(BitVec.ofNat 8 (2 ^ cl)) } }
      refreshCauses s)

/-- FAILED_CLUSTER_TEST: the failed cluster's test cycle ends (R481). -/
def execFailedClusterTest (unit : BitVec 4) (pass : Bool) (s : State) : Outcome State Fault Refusal :=
  answer (
    let j := unit.toNat
    if j > 8 ∨ logicalOf s j ≠ testMark then s
    else if pass && within24h s (tget [] s.units.mismatches j) ≤ 1 then becomeSpare s j
    else retireCluster s j)

/-- SPARE_TEST: a test cycle of the spare ends: a failure quarantines it, a second within 24 h retires it,
and a quarantined spare that passes is ready again (R478, R482). -/
def execSpareTest (pass : Bool) (s : State) : Outcome State Fault Refusal :=
  answer (
    match unitAt s spareMark with
    | none => s
    | some j =>
      if pass then becomeSpare s j
      else
        let s := { s with units := { s.units with spareState := 2, spareFails := s.time.toNat :: s.units.spareFails.take 3 } }
        if within24h s s.units.spareFails ≥ 2 then retireCluster s j else s)

/-! ### Working-memory channels (R483 to R485) -/

/-- Channel of a working-memory address (R38). -/
def channelOf (s : State) (a : Nat) : Nat := a / 2 ^ s.boot.ilvShift % 8

/-- A command ends with a status and commits nothing, wherever it stands. -/
def failCmd (s : State) (e : Nat) (st : Code) : State :=
  match s.cmd e with
  | none => s
  | some c =>
    match c.stage with
    | .done => s
    | .running k => completeWith (endTurn s k) e st
    | .preselected k => completeWith (dropPre s k) e st
    | _ => completeWith s e st

/-- Commands whose staging or scratch area meets a condition. -/
def holders (s : State) (bad : Nat → Bool) : List Nat :=
  (s.so.cmds.filter (fun x => x.2.stage != .done && (bad (stagingAddr x.1) || bad (scratchAddr x.1)))).map (·.1)

/-- Critical-table copies that lie in a channel: 2 × table + copy (R38). -/
def copiesIn (s : State) (ch : Nat) : List Nat := (List.range 8).filter (fun i => (s.boot.channels.getD i 0).toNat == ch)

/-- A copy of a critical table is lost; with both lost, the module has a fault (R485, R486). -/
def loseCopy (s : State) (i : Nat) : State :=
  if s.units.lostCopies.contains i then s
  else
    let s := { s with units := { s.units with lostCopies := s.units.lostCopies ++ [i] } }
    if s.units.lostCopies.contains (if i % 2 = 0 then i + 1 else i - 1) then moduleFault s else s

/-- Retire a channel (R485). -/
def retireChannel (s : State) (ch : Nat) : State :=
  let s := { s with warden := { s.warden with retChannels := s.warden.retChannels ||| BitVec.ofNat 8 (2 ^ ch) } }
  let s := journalRetire s .channel ch
  let s := (holders s (fun a => channelOf s a == ch)).foldl (fun s e => failCmd s e channelRetired) s
  (copiesIn s ch).foldl loseCopy s

/-- Drop key-cache entries, named by their place in the cache, as misses (R301, R484, R485). -/
def dropCached (s : State) (l : List Nat) : State :=
  { s with keys := { s.keys with cache := (s.keys.cache.zipIdx.filter (fun x => !l.contains x.2)).map (·.1) } }

/-- MEMORY_ERROR: an uncorrectable read in working memory.  `cached` names the key-cache entries that lie in
the page, or in the channel where it retires; `table` the critical table whose copy in this channel holds the
page (R483, R484, R485). -/
def execMemoryError (addr : BitVec 31) (retryOk : Bool) (cached : List Nat) (table : Option (BitVec 2)) (s : State) :
    Outcome State Fault Refusal :=
  answer (
    let a := addr.toNat
    let ch := channelOf s a
    if s.warden.retChannels.getLsbD ch then s
    else
      let times := s.time.toNat :: tget [] s.units.channelErrors ch
      let recent := times.filter (fun t => decide (s.time.toNat - t < 3600000000000))
      let s := { s with units := { s.units with channelErrors := tset [] s.units.channelErrors ch recent } }
      let s := eventF s 0x0306 ch 0 (if recent.length > 16 then 32 else 64)
      if recent.length > 16 then retireChannel (dropCached s cached) ch
      else if retryOk then s
      else
        let page := a / 4096
        let s := { s with units := { s.units with poisoned := page :: s.units.poisoned.filter (· ≠ page) } }
        let s := dropCached s cached
        let s := (holders s (fun x => x / 4096 == page)).foldl (fun s e => failCmd s e integrityFault) s
        match table with
        | none => s
        | some t =>
          let i := if (s.boot.channels.getD (2 * t.toNat) 0).toNat = ch then 2 * t.toNat else 2 * t.toNat + 1
          if tget 0 s.units.reserve i ≥ 16 then loseCopy s i else s)

/-- NEW_SECOND_COPY: a page of a critical-table copy is written into a reserve page, or a new second copy of
the table is complete in the lowest-numbered healthy channel of the group, else of the other group (R484,
R485). -/
def execNewSecondCopy (table : BitVec 2) (copy page : Bool) (s : State) : Outcome State Fault Refusal :=
  answer (
    let i := 2 * table.toNat + (if copy then 1 else 0)
    if page then
      if tget 0 s.units.reserve i < 16 then
        { s with units := { s.units with reserve := tset 0 s.units.reserve i (tget 0 s.units.reserve i + 1) } }
      else s
    else if !s.units.lostCopies.contains i then s
    else
      let old := (s.boot.channels.getD i 0).toNat
      let healthy := fun c => !s.warden.retChannels.getLsbD c
      let group := (List.range 4).map (fun c => 4 * (old / 4) + c)
      let other := (List.range 4).map (fun c => 4 * (1 - old / 4) + c)
      let place := fun (s : State) (c : Nat) => { s with
        boot := { s.boot with channels := s.boot.channels.set i (BitVec.ofNat 8 c) },
        units := { s.units with lostCopies := s.units.lostCopies.filter (· ≠ i), reserve := tset 0 s.units.reserve i 0 } }
      match group.find? healthy with
      | some c => place s c
      | none =>
        match other.find? healthy with
        | some c => eventF (place s c) 0x0306 old 0 0
        | none => s)

end Sys2Proof.Machine
end

