-- ==== Sys2Proof/Machine/Boot.lean ====
section
/-! DEFINITION. Power-good, cold boot to STAGED, and the resets (R54, R59 to R65, R343, R344, R553 to R558,
R568, R582, R583, R589). -/

namespace Sys2Proof.Machine

open Host

/-! ### Power-good and the warden's report -/

/-- The warden has an E-class entry in its battery log (R54, R530). -/
def eLogged (s : State) : Bool := s.warden.blog.any (fun b => b.cls.toNat == clsE)

/-- The warden's report of boot step 1: to ERASED after an erase, to LOCKED with a lock record (R54, R543). -/
def wardenReport (s : State) : State :=
  if s.warden.lc = .retired || eLogged s then
    setMode (setLifeCycle s .retired (Config.modeTrigger 4)) .erased (Config.modeTrigger 4)
  else if s.warden.lockRec then bootStop s lockedSt
  else s

/-- LOCAL as the battery RTC gives it (R456). -/
def rtcLocal (w : Warden) : BitVec 64 :=
  BitVec.ofNat 64 (w.rtcS.toNat * 1000000000 + w.rtcTicks.toNat * 1000000000 / 32768)

/-- Cold boot begins: only the warden keeps anything.  Step 1 applies the FOSC trim, samples XSTART, loads LOCAL,
and disconnects the transit cell at a VBAT of 2.5 V or more (R456, R553, R555, R589).  The ports are still in
reset (R579). -/
def coldBoot (s : State) (vbatMv : BitVec 16) (xstart : BitVec 3) : State :=
  let w := { s.warden with rtcOnSosc := false, transitCell := s.warden.transitCell && decide (vbatMv.toNat < 2500) }
  let now := rtcLocal w
  wardenReport (drawMesh
    { pending := s.pending, free := s.free, outbox := s.outbox, pwrGood := true, warden := w,
      boot := { step := 1, tStart := now }, tb := { timeLocal := now },
      clocks := { foscTrimmed := true, xstart := xstart }, alarms := { vbatMv := vbatMv },
      portA := { perst := true }, portB := { perst := true }, pair := { drillFrom := now } })

/-- PWR_GOOD_RISE: ignored within 2 ms of a fall (R582). -/
def execPwrGoodRise (vbatMv : BitVec 16) (xstart : BitVec 3) (s : State) : Outcome State Fault Refusal :=
  answer (if s.pwrGood || s.clocks.holdoff then s else coldBoot s vbatMv xstart)

/-- PWR_GOOD_FALL: CROWN_OUT drops, the mode becomes BATTERY, and every domain but PD0 loses power (R568,
R582). -/
def execPwrGoodFall (s : State) : Outcome State Fault Refusal := answer (if s.pwrGood then unpowered s else s)

/-- PWR_GOOD_HOLDOFF: the 2 ms after a fall end, and PWR_GOOD is sampled again (R582). -/
def execPwrGoodHoldoff (level : Bool) (vbatMv : BitVec 16) (xstart : BitVec 3) (s : State) : Outcome State Fault Refusal :=
  answer (
    if !s.clocks.holdoff then s
    else
      let s := { s with clocks := { s.clocks with holdoff := false } }
      if level then coldBoot s vbatMv xstart else s)

/-! ### Resets (R63, R64, R583) -/

/-- RESET_N_ASSERT: ignored in LOCKED and without power (R543, R583). -/
def execResetNAssert (s : State) : Outcome State Fault Refusal :=
  answer (if !s.pwrGood || s.boot.mode == .locked then s else warmReset s (Config.modeTrigger 1))

/-- WARM: a RESET_CTRL write acts only with KEY 0x5A, and not in LOCKED (R63, R543). -/
def execWarm (key : BitVec 8) (s : State) : Outcome State Fault Refusal :=
  answer (if key ≠ 0x5A || !s.pwrGood || s.boot.mode == .locked || decide (s.boot.step < 5) then s
    else warmReset s (Config.modeTrigger 1))

/-- RESET_RELEASE: boot goes on with step 3, or with step 2 where XA did not run throughout (R64); the warden's
record of an erase still holds (R54). -/
def execResetRelease (xaRan : Bool) (s : State) : Outcome State Fault Refusal :=
  answer (
    if !s.boot.inReset then s
    else wardenReport { s with boot := { s.boot with inReset := false, step := if xaRan then 2 else 1, tStart := s.time } })

/-! ### Steps 2 to 6 (R59) -/

/-- A boot step that the hardware takes whatever the mode: also in LOCKED and ERASED, so that PF0 can be served
(R523; log entry 37). -/
def bootAt (s : State) (n : Nat) : Bool :=
  s.pwrGood && !s.boot.inReset && s.boot.step == n &&
  (s.boot.mode == .boot || s.boot.mode == .locked || s.boot.mode == .erased)

def setStep (s : State) (n : Nat) : State := { s with boot := { s.boot with step := n } }

/-- XA_DELAY_END: t_X is over (step 2). -/
def execXaDelayEnd (s : State) : Outcome State Fault Refusal := answer (if bootAt s 1 then setStep s 2 else s)

/-- A clock monitor runs unmasked, or not (R562). -/
def maskMon (s : State) (i : Nat) (on : Bool) : State :=
  { s with clocks := { s.clocks with mons := tset {} s.clocks.mons i { tget {} s.clocks.mons i with masked := on } } }

/-- XA_QUALIFY: one window of 2,500 XA cycles ends.  Two good windows in a row qualify XA; a bad one fails the
attempt, and the third failure stops boot (R62, R556). -/
def execXaQualify (count : Nat) (s : State) : Outcome State Fault Refusal :=
  answer (
    if !(bootAt s 2) || decide (s.clocks.qualFails ≥ 3) then s
    else
      let c := s.clocks
      let c := if c.goodWindow then c else { c with qualTries := satInc c.qualTries }
      if 9700 ≤ count ∧ count ≤ 10300 then
        if c.goodWindow then
          maskMon (setStep { s with clocks := { c with goodWindow := false, xaQual := true } } 3) 0 false
        else { s with clocks := { c with goodWindow := true } }
      else
        let s := { s with clocks := { c with goodWindow := false, qualFails := c.qualFails + 1 } }
        if s.clocks.qualFails ≥ 3 then bootStop s (Config.bootStatus 3) else s)

/-- PLL_LOCK: PLL i locks (TIME, FAB, MEM, CORE, LANE), each after the one before it (R557); LOCAL leaves FOSC
with PLL_TIME (R558). -/
def execPllLock (i : Nat) (s : State) : Outcome State Fault Refusal :=
  answer (
    if !(bootAt s 3) || decide (i ≥ 5) || decide (s.clocks.pllLock.toNat + 1 ≠ 2 ^ i) then s
    else
      let s := { s with clocks := { s.clocks with
        pllLock := s.clocks.pllLock ||| BitVec.ofNat 5 (2 ^ i), onFosc := if i = 0 then false else s.clocks.onFosc } }
      let s := maskMon s (i + 1) false
      if i = 4 then setStep s 4 else s)

/-- Domains of step 5: PD0 to PD7 and PD9 to PD24, but the clusters that are retired (R477, R565). -/
def bootDomains (w : Warden) : BitVec 26 := 0x1FFFEFF &&& ~~~((w.retClusters.setWidth 26) <<< 10)
/-- Gates of those domains: all but MIRR and test access (R563). -/
def bootGates (w : Warden) : BitVec 28 := 0x3FFFFFF &&& ~~~((w.retClusters.setWidth 28) <<< 1)

/-- BOOT_ROM: the power domains are on, monitors 5 and 13 to 17 are armed, and the links may train; a failed
check of the warden link stops boot (R59, R521, R565). -/
def execBootRom (linkOk : Bool) (s : State) : Outcome State Fault Refusal :=
  answer (
    if !(bootAt s 4) then s
    else
      let s := setStep { s with clocks := { s.clocks with
        pd := s.clocks.pd ||| bootDomains s.warden, gates := s.clocks.gates ||| bootGates s.warden } } 5
      let s := armMain s true
      if linkOk || s.boot.mode != .boot then s else bootStop s (Config.bootStatus 5))

/-- Logical numbers before an application: cluster j has number j unless it is retired, and the number of a
retired one is out of service; CS has none, or is the spare (R477, R480). -/
def layClusters (s : State) (spare : Bool) : State :=
  let ret := s.warden.retClusters
  let kept := spare && !ret.getLsbD 8
  let num (j : Nat) : Nat := if j < 8 then (if ret.getLsbD j then 0xFF else j) else (if kept then 0xFE else 0xFF)
  { s with
    units := { s.units with logical := (List.range 9).map num, spareState := if kept then 0 else 3, replacing := [] },
    so := { s.so with clusterOut := ret.setWidth 8 } }

/-- Too few lanes remain in service for boot to go on: fewer than 8 cipher lanes or 2 hash lanes (R234). -/
def lanesShort (s : State) : Bool :=
  decide (popCount 64 (testable s).toNat < 8) || decide (popCount 16 (~~~s.warden.retHash).toNat < 2)

/-- BOOT_SELFTEST: the units that failed are retired; a unit without a spare, or too few lanes, stops boot (R59, R60,
R234, R536). -/
def execBootSelftest (r : SelfTest) (s : State) : Outcome State Fault Refusal :=
  answer (
    if !(bootAt s 5) then s
    else match r.fatal with
      | some st => if s.boot.mode == .boot then bootStop s st else s
      | none =>
        let w := s.warden
        let lanes := r.lanes &&& ~~~w.retLanes
        let hash := r.hash &&& ~~~w.retHash
        let chans := r.channels &&& ~~~w.retChannels
        let cls := r.clusters &&& ~~~w.retClusters
        let s := { s with warden := { w with retLanes := w.retLanes ||| lanes, retHash := w.retHash ||| hash,
                                             retChannels := w.retChannels ||| chans } }
        let s := (List.range 64).foldl (fun s n => if lanes.getLsbD n then journalRetire s .lane n else s) s
        let s := (List.range 16).foldl (fun s n => if hash.getLsbD n then journalRetire s .hashLane n else s) s
        let s := (List.range 8).foldl (fun s n => if chans.getLsbD n then journalRetire s .channel n else s) s
        let s := (List.range 9).foldl (fun s n => if cls.getLsbD n then retireCluster s n else s) s
        if lanesShort s && s.boot.mode == .boot then bootStop s (Config.bootStatus 6)
        else setStep (layClusters s false) 6)

/-! ### Steps 7 and 8: entropy start-up (R343, R344) -/

/-- A segment starts: SEGMENT_START is its entry 0 (R465, R466). -/
def startSegment (s : State) : State :=
  let j := s.journal
  let s := { s with journal := { j with next := 0, seg := s.warden.rtcS, chain := zeros 48 } }
  journalNow s 1 (le 8 s.warden.serial.toNat ++ le 8 (j.next.toNat - 1) ++ j.chain.take 8)

/-- The Franking key certified by the identity key, with a nonce from I7: the first 224 octets of FRANK_CERT
(R343, R473). -/
def certify (s : State) : State :=
  let (pm, s) := stamp s srcKeyUnit
  let (kp, s) := generate s 7 48 false
  let text := fit 97 s.keys.frankPub ++ zeros 7 ++ frankId s ++ pm.octets ++ zeros 4
  let sig := signP384 (s.warden.identity.getD []) (sha 48 text) kp
  { s with keys := { s.keys with frankCert := text ++ sig } }

/-- Steps 8.2 to 8.4: the check-prime index, the cache and index keys and the Franking key are drawn, the key
store is unsealed, the Franking key is certified, and M0 to M15 are instantiated. -/
def drawModuleKeys (s : State) : State :=
  let (o, s) := generate s 4 1 false
  let s := { s with entropy := { s.entropy with wmuIndex := o.headD 0 } }
  let s := redrawCache s
  let (o, s) := generate s 6 56 false
  let priv := be 48 (scalarDraw o)
  let s := { s with keys := { s.keys with frankPriv := some priv, frankPub := publicP384 priv },
                    boot := { s.boot with unsealed := true } }
  (List.range 16).foldl (fun s i => instantiate s (8 + i)) (certify s)

/-- Enter DIAGNOSTIC: PD25 and its gate come on, and no virtual function is enabled (R56, R58, R546). -/
def enterDiagnostic (s : State) (trigger : Code) : State :=
  let s := { s with
    clocks := { s.clocks with pd := s.clocks.pd ||| 0x2000000, gates := s.clocks.gates ||| 0x8000000 },
    portA := { s.portA with vfEnable := false }, portB := { s.portB with vfEnable := false },
    boot := { s.boot with unsealed := false } }
  setMode s .diagnostic trigger

/-- Cells of a mask. -/
def cellCount (m : BitVec 64) : Nat := popCount 64 m.toNat

/-- Start-up tests have ended: the cells of `good` are in service, and every other one has failed (R332, R344). -/
def startCells (s : State) (passed good : BitVec 64) : State :=
  let bad := ~~~s.warden.retCells &&& ~~~good
  let s := s.setEntropy (fun u => { u with passed := good })
  (List.range 64).foldl (fun s n => if bad.getLsbD n then failCell s n (!passed.getLsbD n) else s) s

/-- Steps 7.4 and 8.1: the start-up bits enter the pool, I0 to I7 are instantiated, and RNG_READY is set. -/
def startRandom (s : State) (cells : Nat) : State :=
  let s := s.setEntropy (fun u => { u with pool := u.pool + 1024 * cells })
  let s := (List.range 8).foldl instantiate s
  let us := (s.time.toNat - s.boot.tStart.toNat) / 1000
  { s with boot := { s.boot with step := 8, rngReady := true, tRng := satNat 32 us } }

/-- ENTROPY_STARTUP: `passed` are the cells that passed the start-up test, `condPass` those whose conditioner
passed its KAT, `katOk` that every DRBG lane passed both KATs (R343, R344). -/
def execEntropyStartup (passed condPass : BitVec 64) (katOk : Bool) (s : State) : Outcome State Fault Refusal :=
  answer (
    if !(bootAt s 6) || s.boot.mode != .boot then s
    else
      let live := ~~~s.warden.retCells
      let good := passed &&& condPass &&& live
      let t := startCells s passed good
      if decide (cellCount (passed &&& live) < 24) || !katOk then bootStop t entropyFailed
      else
        let t := startRandom t (cellCount good)
        if t.warden.lc = .manufacture then reviewCauses (enterDiagnostic t (Config.modeTrigger 0))
        else reviewCauses (setMode (startSegment (drawModuleKeys t)) .staged (Config.modeTrigger 0)))

end Sys2Proof.Machine
end

