-- ==== Sys2Proof/Machine/Clocks.lean ====
section
/-! DEFINITION. Clocks, clock gates, power domains and the passing of time (R456, R554 to R569). -/

namespace Sys2Proof.Machine

open Host

/-! ### Clock monitors (R561, R562) -/

/-- Is clock i in being: 0 XA, 1 to 5 the PLLs (R556, R557)? -/
def clockRuns (s : State) (i : Nat) : Bool :=
  if i = 0 then s.clocks.xaQual else decide (i ≤ 5) && s.clocks.pllLock.getLsbD (i - 1)

/-- Gates that stand in a power domain, with the roots in PD1 (R563, R565; log entry 36). -/
def gateDomain (g : Nat) : Nat :=
  if 1 ≤ g ∧ g ≤ 9 then 9 + g
  else [1, 0, 0, 0, 0, 0, 0, 0, 0, 0, 1, 19, 20, 21, 3, 1, 5, 9, 4, 3, 1, 22, 23, 1, 6, 7, 8, 25].getD g 1

/-- The gates of a domain as a mask. -/
def domainGates (d : Nat) : BitVec 28 :=
  (List.range 28).foldl (fun m g => if gateDomain g = d then m ||| BitVec.ofNat 28 (2 ^ g) else m) 0

/-- A host port or the mirror link as the loss of its domain leaves it (R73, R565). -/
def loseUnit (s : State) (d : Nat) : State :=
  if d = 6 ∨ d = 7 then
    let b := d == 7
    let t := portReset s b
    t.setPort b { t.port b with linkUp := false, linkDown := (t.port b).linkDown || (t.port b).linkUp }
  else if d = 8 then { s with pair := { s.pair with linkUp := false } }
  else s

/-- A domain is off: its gates are off, and its unit is lost (R567). -/
def domainOff (s : State) (d : Nat) : State :=
  let t := if s.clocks.pd.getLsbD d then loseUnit s d else s
  { t with clocks := { t.clocks with pd := t.clocks.pd &&& ~~~(BitVec.ofNat 26 (2 ^ d)), gates := t.clocks.gates &&& ~~~(domainGates d) } }

/-- A domain is on, with its clock gates (R567). -/
def domainOn (s : State) (d : Nat) : State :=
  { s with clocks := { s.clocks with pd := s.clocks.pd ||| BitVec.ofNat 26 (2 ^ d), gates := s.clocks.gates ||| domainGates d } }

/-- The sequence of a power-domain switch stops with the domain off (R569). -/
def stopSwitch (s : State) : State :=
  match s.clocks.switching with
  | some (d, _) => domainOff { s with clocks := { s.clocks with switching := none } } d
  | none => s

/-- MONITOR_WINDOW: a window of clock i ends with its count of FOSC edges, 110 where it timed out (R561).  A bad
window of an unmasked monitor raises the CLOCK alarm, and XA or PLL_TIME leave LOCAL on FOSC (R558). -/
def execMonitorWindow (i : BitVec 3) (count : BitVec 8) (s : State) : Outcome State Fault Refusal :=
  answer (
    let i := i.toNat
    if !clockRuns s i then s
    else
      let m := tget {} s.clocks.mons i
      let v : BitVec 8 := if count.toNat > 110 then 110 else count
      let m := { m with last := v }
      let m := if m.masked then m
        else { m with min := if v.toNat < m.min.toNat then v else m.min, max := if v.toNat > m.max.toNat then v else m.max }
      let s := { s with clocks := { s.clocks with mons := tset {} s.clocks.mons i m } }
      if m.masked || (decide (97 ≤ v.toNat) && decide (v.toNat ≤ 103)) then s
      else
        let s := if i ≤ 1 ∧ !inWindow s 15 then { s with clocks := { s.clocks with onFosc := true } } else s
        let s := if monRuns s 15 && !inWindow s 15 then stopSwitch s else s
        tripMonitor s 15 i (v.setWidth 32))

/-- XB_CHECK: edges of XB in one SOSC-timed second (R554). -/
def execXbCheck (edges : Nat) (s : State) : Outcome State Fault Refusal :=
  answer (if edges < 16384 ∨ edges > 49152 then { s with warden := { s.warden with rtcOnSosc := true } } else s)

/-! ### Clock gates (R563, R564) -/

def gateParent (g : Nat) : Option Nat :=
  if 1 ≤ g ∧ g ≤ 9 then some 0 else if 11 ≤ g ∧ g ≤ 14 then some 10 else if 16 ≤ g ∧ g ≤ 19 then some 15
  else if g = 21 ∨ g = 22 then some 20 else none

/-- Marked "required", or the gate of a cluster that holds a logical number (R563, R564). -/
def gateRequired (s : State) (g : Nat) : Bool :=
  (decide (10 ≤ g) && decide (g ≤ 23)) || (decide (1 ≤ g ∧ g ≤ 9) && decide (logicalOf s (g - 1) < 8))

/-- Outcome of a CLK_GATE_CTRL write, in the order of log entry 36. -/
def gateResult (s : State) (g : Nat) (on : Bool) : Nat :=
  let c := s.clocks
  let up (n : Nat) : Bool := c.gates.getLsbD n
  if g > 27 then 3
  else if (c.switching.map (·.1)) = some (gateDomain g) then 5
  else if up g == on then 0
  else if on then
    if ((gateParent g).map (fun p => !up p)).getD false then 2 else if !c.pd.getLsbD (gateDomain g) then 4 else 0
  else if (List.range 28).any (fun n => gateParent n == some g && up n) then 1
  else if gateRequired s g then 3 else 0

/-- The supervisor runs: boot step 5 is done (R59). -/
def supervisorUp (s : State) : Bool := s.pwrGood && decide (s.boot.step ≥ 5)

/-- CLK_GATE_CTRL: only the supervisor, master 0, has a rule at G23 (R564).  The CORE monitor is masked while CG0 is
off (R562). -/
def execClkGateCtrl (master : BitVec 7) (gate : BitVec 5) (on : Bool) (s : State) : Outcome State Fault Refusal :=
  answer (
    if master ≠ 0 || !supervisorUp s then s
    else
      let g := gate.toNat
      let r := gateResult s g on
      let m := BitVec.ofNat 28 (2 ^ g)
      let c := { s.clocks with gateCode := BitVec.ofNat 3 r, gateNum := gate }
      if r ≠ 0 then { s with clocks := c }
      else
        let s := { s with clocks := { c with gates := if on then c.gates ||| m else c.gates &&& ~~~m } }
        if g = 0 then maskMon s 4 (!on) else s)

/-! ### Power domains (R565 to R567) -/

/-- May a domain be on in the present state (R565)? -/
def mayBeOn (s : State) (d : Nat) : Bool :=
  if d ≤ 5 ∨ d = 9 ∨ (19 ≤ d ∧ d ≤ 24) then true
  else if d = 6 ∨ d = 7 then s.boot.pdEn.getLsbD d
  else if d = 8 then s.boot.pdEn.getLsbD 8 && decide (s.boot.step ≥ 11)
  else if d ≤ 17 then !s.warden.retClusters.getLsbD (d - 10)
  else if d = 18 then !s.warden.retClusters.getLsbD 8 && (s.boot.pdEn.getLsbD 18 || decide (s.boot.step < 11))
  else s.boot.mode == .diagnostic

/-- PD_CTRL: a domain is switched as R565 allows; the switch ends with PD_SWITCH_END (R566, R567). -/
def execPdCtrl (master : BitVec 7) (pd : BitVec 5) (on : Bool) (s : State) : Outcome State Fault Refusal :=
  answer (
    if master ≠ 0 || !supervisorUp s then s
    else
      let d := pd.toNat
      let done (code : BitVec 3) : State := { s with clocks := { s.clocks with pdCode := code, pdNum := pd } }
      if d > 25 then done 3
      else if s.clocks.switching.isSome then done 5
      else if s.clocks.pd.getLsbD d == on then done 0
      else if mayBeOn s d != on then done 3
      else { s with clocks := { s.clocks with switching := some (d, on) } })

/-- PD_SWITCH_END: the sequence of R567 ends, and PD_RESULT reads DONE. -/
def execPdSwitchEnd (s : State) : Outcome State Fault Refusal :=
  answer (
    match s.clocks.switching with
    | none => s
    | some (d, on) =>
      let s := { s with clocks := { s.clocks with switching := none, pdCode := 0, pdNum := BitVec.ofNat 5 d } }
      if on then domainOn s d else domainOff s d)

/-! ### Time (R456 to R458, R558) -/

/-- The battery RTC after n ns: 32,768 ticks a second (R456; on SOSC: log entry 4). -/
def rtcAfter (w : Warden) (n : Nat) : Warden :=
  let p := w.rtcPhase + 32768 * n
  if p < 1000000000 then { w with rtcPhase := p }
  else if w.rtcTicks.toNat < 32767 then { w with rtcPhase := p - 1000000000, rtcTicks := w.rtcTicks + 1 }
  else { w with rtcPhase := p - 1000000000, rtcTicks := 0, rtcS := w.rtcS + 1 }

/-- LOCAL after n ns, n at most 10, with the slew's step at each 5,000 ns (R457, R458). -/
def localAfter (t : Timebase) (n : Nat) : Timebase :=
  let now := t.timeLocal + BitVec.ofNat 64 n
  let u := { t with timeLocal := now }
  if now.toNat / 5000 = t.timeLocal.toNat / 5000 then u else slewStep u

/-- One count of LOCAL: 10 ns while it counts FOSC, else 1 ns (R558).  Without main power only the RTC counts.
What step does on an empty queue (log entry 4). -/
def tick (s : State) : State :=
  let n := if s.pwrGood && s.clocks.onFosc then 10 else 1
  let s := { s with warden := rtcAfter s.warden n }
  if s.pwrGood then { s with tb := localAfter s.tb n } else s

end Sys2Proof.Machine
end

