-- ==== Sys2Proof/Machine/Cpu.lean ====
section
/-! DEFINITION. The Cilapol-36 instructions that stay within the core (R359, R360, R373). -/

namespace Sys2Proof.Machine

open Host

/-! ### The operations of the short forms, shared with ALU -/

def fromNat36 (n : Nat) : W36 := BitVec.ofNat 36 n

/-- ADDC: 32-bit sum with carry; result and carry out. -/
def addcOp (a b : W36) (c : Nat) : W36 × Bool :=
  let t := (low32 a).toNat + (low32 b).toNat + c
  (fromNat36 (t % 2 ^ 32), decide (t ≥ 2 ^ 32))

/-- SUBB: 32-bit difference with borrow; result and borrow out. -/
def subbOp (a b : W36) (c : Nat) : W36 × Bool :=
  let x := (low32 a).toNat
  let y := (low32 b).toNat + c
  (fromNat36 ((x + 2 ^ 32 + 2 ^ 32 - y) % 2 ^ 32), decide (x < y))

/-- Shifts by b[5:0]; zero from 36 on. -/
def shlOp (a b : W36) : W36 := if b.toNat % 64 ≥ 36 then 0 else a <<< (b.toNat % 64)
def shrOp (a b : W36) : W36 := if b.toNat % 64 ≥ 36 then 0 else a >>> (b.toNat % 64)
def sltuOp (a b : W36) : W36 := if a.toNat < b.toNat then 1 else 0
def mulOp (a b : W36) : W36 := fromNat36 ((low32 a).toNat * (low32 b).toNat % 2 ^ 32)
def mulhuOp (a b : W36) : W36 := fromNat36 ((low32 a).toNat * (low32 b).toNat / 2 ^ 32)
def ggetOp (a : W36) : W36 := (guardBits a).setWidth 36
def gclrOp (a : W36) : W36 := word32 (low32 a)

/-- NORM: value and next NC (R360); t = a + NC. -/
def normOp (a : W36) (nc : Nat) : W36 × Nat :=
  (fromNat36 ((a.toNat + nc) % 2 ^ 32), (a.toNat + nc) / 2 ^ 32)

/-- The operation of an SOP 0x01 to 0x10 on register numbers (R373): the ALU long form names the
same operations. -/
def sopAct (op d a b : Nat) (c : Core) : Act :=
  let x := c.reg a
  let y := c.reg b
  let wr (v : W36) : Act := .did { regs := [(d, v)] }
  match op with
  | 0x01 => wr x
  | 0x02 => wr (x + y)
  | 0x03 => wr (x - y)
  | 0x04 => wr (x &&& y)
  | 0x05 => wr (x ||| y)
  | 0x06 => wr (x ^^^ y)
  | 0x07 => .did { regs := [(d, (addcOp x y (stC c.st)).1)], st := some (withC c.st (addcOp x y (stC c.st)).2) }
  | 0x08 => .did { regs := [(d, (subbOp x y (stC c.st)).1)], st := some (withC c.st (subbOp x y (stC c.st)).2) }
  | 0x09 => wr (shlOp x y)
  | 0x0A => wr (shrOp x y)
  | 0x0B => wr (sltuOp x y)
  | 0x0C => wr (mulOp x y)
  | 0x0D => wr (mulhuOp x y)
  | 0x0E => .did { regs := [(d, (normOp x (stNC c.st)).1)], st := some (withNC c.st (normOp x (stNC c.st)).2) }
  | 0x0F => wr (ggetOp x)
  | 0x10 => wr (gclrOp x)
  | _ => .terminal evIllegal

/-! ### Short forms -/

/-- NOP: the all-zero half does nothing (R373). -/
def execNopInsn (k : CoreId) (s : State) : Outcome State Fault Refusal :=
  answer (runInsn s k.toNat 1 (fun _ => .did {}))

/-- MOV: d := a (R373). -/
def execMov (k : CoreId) (d a : BitVec 4) (s : State) : Outcome State Fault Refusal :=
  answer (runInsn s k.toNat 1 (sopAct 0x01 d.toNat a.toNat 0))

/-- ADD: d := a + b modulo 2^36 (R373). -/
def execAddInsn (k : CoreId) (d a b : BitVec 4) (s : State) : Outcome State Fault Refusal :=
  answer (runInsn s k.toNat 1 (sopAct 0x02 d.toNat a.toNat b.toNat))

/-- SUB: d := a − b modulo 2^36 (R373). -/
def execSubInsn (k : CoreId) (d a b : BitVec 4) (s : State) : Outcome State Fault Refusal :=
  answer (runInsn s k.toNat 1 (sopAct 0x03 d.toNat a.toNat b.toNat))

/-- AND: bitwise (R373). -/
def execAndInsn (k : CoreId) (d a b : BitVec 4) (s : State) : Outcome State Fault Refusal :=
  answer (runInsn s k.toNat 1 (sopAct 0x04 d.toNat a.toNat b.toNat))

/-- OR: bitwise (R373). -/
def execOrInsn (k : CoreId) (d a b : BitVec 4) (s : State) : Outcome State Fault Refusal :=
  answer (runInsn s k.toNat 1 (sopAct 0x05 d.toNat a.toNat b.toNat))

/-- XOR: bitwise (R373). -/
def execXorInsn (k : CoreId) (d a b : BitVec 4) (s : State) : Outcome State Fault Refusal :=
  answer (runInsn s k.toNat 1 (sopAct 0x06 d.toNat a.toNat b.toNat))

/-- ADDC: 32-bit sum with C; C := carry (R373). -/
def execAddcInsn (k : CoreId) (d a b : BitVec 4) (s : State) : Outcome State Fault Refusal :=
  answer (runInsn s k.toNat 1 (sopAct 0x07 d.toNat a.toNat b.toNat))

/-- SUBB: 32-bit difference with C; C := borrow (R373). -/
def execSubbInsn (k : CoreId) (d a b : BitVec 4) (s : State) : Outcome State Fault Refusal :=
  answer (runInsn s k.toNat 1 (sopAct 0x08 d.toNat a.toNat b.toNat))

/-- SHL by b[5:0] (R373). -/
def execShlInsn (k : CoreId) (d a b : BitVec 4) (s : State) : Outcome State Fault Refusal :=
  answer (runInsn s k.toNat 1 (sopAct 0x09 d.toNat a.toNat b.toNat))

/-- SHR by b[5:0], logical (R373). -/
def execShrInsn (k : CoreId) (d a b : BitVec 4) (s : State) : Outcome State Fault Refusal :=
  answer (runInsn s k.toNat 1 (sopAct 0x0A d.toNat a.toNat b.toNat))

/-- SLTU: d := 1 if a < b (R373). -/
def execSltuInsn (k : CoreId) (d a b : BitVec 4) (s : State) : Outcome State Fault Refusal :=
  answer (runInsn s k.toNat 1 (sopAct 0x0B d.toNat a.toNat b.toNat))

/-- MUL: low 32 bits of the product (R373). -/
def execMulInsn (k : CoreId) (d a b : BitVec 4) (s : State) : Outcome State Fault Refusal :=
  answer (runInsn s k.toNat 1 (sopAct 0x0C d.toNat a.toNat b.toNat))

/-- MULHU: high 32 bits of the product (R373). -/
def execMulhuInsn (k : CoreId) (d a b : BitVec 4) (s : State) : Outcome State Fault Refusal :=
  answer (runInsn s k.toNat 1 (sopAct 0x0D d.toNat a.toNat b.toNat))

/-- NORM: propagate the guard carry; R360 (R373). -/
def execNorm (k : CoreId) (d a : BitVec 4) (s : State) : Outcome State Fault Refusal :=
  answer (runInsn s k.toNat 1 (sopAct 0x0E d.toNat a.toNat 0))

/-- GGET: d := guard bits of a (R373). -/
def execGget (k : CoreId) (d a : BitVec 4) (s : State) : Outcome State Fault Refusal :=
  answer (runInsn s k.toNat 1 (sopAct 0x0F d.toNat a.toNat 0))

/-- GCLR: d := a[31:0] (R373). -/
def execGclr (k : CoreId) (d a : BitVec 4) (s : State) : Outcome State Fault Refusal :=
  answer (runInsn s k.toNat 1 (sopAct 0x10 d.toNat a.toNat 0))

/-- LI: d := imm8, zero-extended (R373). -/
def execLi (k : CoreId) (d : BitVec 4) (imm : BitVec 8) (s : State) : Outcome State Fault Refusal :=
  answer (runAlu s k.toNat 1 (fun _ => [(d.toNat, imm.setWidth 36)]))

/-- ADDI: d := d + sext(imm8) (R373). -/
def execAddi (k : CoreId) (d : BitVec 4) (imm : BitVec 8) (s : State) : Outcome State Fault Refusal :=
  answer (runAlu s k.toNat 1 (fun c => [(d.toNat, c.reg d.toNat + imm.signExtend 36)]))

/-- A shift by an immediate from 0 to 35; another immediate is ILLEGAL (R373). -/
def shiftImm (left : Bool) (d a imm : Nat) (c : Core) : Act :=
  if imm ≥ 36 then .terminal evIllegal
  else .did { regs := [(d, if left then c.reg a <<< imm else c.reg a >>> imm)] }

/-- SHLI: d := d << imm8 (R373). -/
def execShli (k : CoreId) (d : BitVec 4) (imm : BitVec 8) (s : State) : Outcome State Fault Refusal :=
  answer (runInsn s k.toNat 1 (shiftImm true d.toNat d.toNat imm.toNat))

/-- SHRI: d := d >> imm8 (R373). -/
def execShri (k : CoreId) (d : BitVec 4) (imm : BitVec 8) (s : State) : Outcome State Fault Refusal :=
  answer (runInsn s k.toNat 1 (shiftImm false d.toNat d.toNat imm.toNat))

/-- A NEAR load: the value arrives after the delay slot (R377); a denied load is NEAR_ACCESS
(R362). -/
def loadAct (s : State) (d addr : Nat) (c : Core) : Act :=
  match nearLoad s c addr with
  | some v => .did { load := some (d, v) }
  | none => .terminal evNearAccess

/-- A NEAR store (R361, R362). -/
def storeAct (v addr : Nat) (c : Core) : Act :=
  if nearStorable addr then .did { stores := [(addr, c.reg v)] } else .terminal evNearAccess

/-- LD d, [a + u4] (R377). -/
def execLd (k : CoreId) (d a u : BitVec 4) (s : State) : Outcome State Fault Refusal :=
  answer (runInsn s k.toNat 1 (fun c => loadAct s d.toNat ((near24 (c.reg a.toNat) + u.toNat) % 2 ^ 24) c))

/-- ST s, [a + u4] (R373). -/
def execSt (k : CoreId) (v a u : BitVec 4) (s : State) : Outcome State Fault Refusal :=
  answer (runInsn s k.toNat 1 (fun c => storeAct v.toNat ((near24 (c.reg a.toNat) + u.toNat) % 2 ^ 24) c))

/-- NORMS a: NORM of the NEAR word at a, in place; then a := a + 1 (R360). -/
def execNorms (k : CoreId) (a : BitVec 4) (s : State) : Outcome State Fault Refusal :=
  answer (runInsn s k.toNat 1 (fun c =>
    let addr := near24 (c.reg a.toNat)
    match nearStorable addr, nearLoad s c addr with
    | true, some v =>
      .did { stores := [(addr, (normOp v (stNC c.st)).1)], st := some (withNC c.st (normOp v (stNC c.st)).2),
             regs := [(a.toNat, c.reg a.toNat + 1)] }
    | _, _ => .terminal evNearAccess))

/-- ZEROS a: NEAR word at a := 0; then a := a + 1 (R373). -/
def execZeros (k : CoreId) (a : BitVec 4) (s : State) : Outcome State Fault Refusal :=
  answer (runInsn s k.toNat 1 (fun c =>
    let addr := near24 (c.reg a.toNat)
    if nearStorable addr then .did { stores := [(addr, 0)], regs := [(a.toNat, c.reg a.toNat + 1)] }
    else .terminal evNearAccess))

/-- A branch relative to the half address of its first half; a taken one costs 2 clocks (R375). -/
def branchAct (taken : Bool) (off : BitVec 25) (c : Core) : Act :=
  if taken then .did { target := some (c.pc + off), clocks := 2 } else .did {}

/-- BEQZ a, off8 (R373). -/
def execBeqz (k : CoreId) (a : BitVec 4) (off : BitVec 8) (s : State) : Outcome State Fault Refusal :=
  answer (runInsn s k.toNat 1 (fun c => branchAct (c.reg a.toNat == 0) (off.signExtend 25) c))

/-- BNEZ a, off8 (R373). -/
def execBnez (k : CoreId) (a : BitVec 4) (off : BitVec 8) (s : State) : Outcome State Fault Refusal :=
  answer (runInsn s k.toNat 1 (fun c => branchAct (c.reg a.toNat != 0) (off.signExtend 25) c))

/-- JR a: pc := a[24:0] (R373). -/
def execJr (k : CoreId) (a : BitVec 4) (s : State) : Outcome State Fault Refusal :=
  answer (runInsn s k.toNat 1 (fun c => .did { target := some ((c.reg a.toNat).extractLsb' 0 25), clocks := 2 }))

/-- JALR a: g31 := pc + 1; then pc := a[24:0] (R357, R373). -/
def execJalr (k : CoreId) (a : BitVec 4) (s : State) : Outcome State Fault Refusal :=
  answer (runInsn s k.toNat 1 (fun c =>
    .did { regs := [(31, (c.pc + 1).setWidth 36)], target := some ((c.reg a.toNat).extractLsb' 0 25), clocks := 2 }))

/-! ### Repeats -/

/-- Is the instruction whose first half is bits [35:18] of the next two halves a long form? -/
def bodyIsLong (body : W36) : Bool := body.toNat / 2 ^ 34 == 3

/-- May the instruction be the body of a repeat? (R380) -/
def bodyLegal (body : W36) : Bool :=
  if bodyIsLong body then
    let lop := body.toNat / 2 ^ 28 % 64
    !(decide (0x0D ≤ lop) && decide (lop ≤ 0x11))
  else
    let half := body.toNat / 2 ^ 18
    let sop := half / 2 ^ 12
    !((decide (0x19 ≤ sop) && decide (sop ≤ 0x1F)) || (sop == 0x22 && half % 16 == 2))

def bodyHalves (body : W36) : Nat := if bodyIsLong body then 2 else 1

/-- REP n: repeat the next instruction n times, uninterruptibly (R379, R380). -/
def execRep (k : CoreId) (n : BitVec 6) (body : BitVec 36) (s : State) : Outcome State Fault Refusal :=
  answer (runInsn s k.toNat 1 (fun c =>
    if bodyLegal body then
      .did { repc := some (fromNat36 (n.toNat + 1)),
             rep := some { interruptible := false, prefixPc := c.pc, bodyLen := bodyHalves body } }
    else .terminal evIllegal))

/-- REPI n: the interruptible repeat; after RFE to it with ev.RPT set it resumes with repc and
ignores its own count (R381). -/
def execRepi (k : CoreId) (n : BitVec 12) (body : BitVec 36) (s : State) : Outcome State Fault Refusal :=
  answer (runInsn s k.toNat 1 (fun c =>
    if n = 0 || !bodyLegal body then .terminal evIllegal
    else
      let left := if c.resume then c.repc.toNat % 4096 else n.toNat
      if left = 0 then .did { target := some (halfAdd c.pc (1 + bodyHalves body)) }
      else .did { repc := some (fromNat36 left),
                  rep := some { interruptible := true, prefixPc := c.pc, bodyLen := bodyHalves body } }))

/-! ### System instructions -/

/-- RFE: clear ACT, pc := EPC (R386); ILLEGAL with ACT 0 (R383).  A WMU fault held under ACT is
taken then (R384). -/
def execRfe (k : CoreId) (s : State) : Outcome State Fault Refusal :=
  answer (
    let c := s.core k.toNat
    let t := runInsn s k.toNat 1 (fun c =>
      if evAct c.ev then .did { ev := some (c.ev &&& ~~~(0x80 : W36)), target := some (evEpc c.ev), clocks := 2 }
      else .terminal evIllegal)
    let d := t.core k.toNat
    if d.cmd.isSome && c.cmd.isSome && c.far.isNone && evAct c.ev && evRpt c.ev && !evAct d.ev then
      t.setCore k.toNat { d with resume := true }
    else t)

/-- CYC d: core cycles of the command so far; the stalls since the last reading are a free value
(R373, R376; log entry 3). -/
def execCyc (k : CoreId) (d : BitVec 4) (s : State) : Outcome State Fault Refusal :=
  answer (
    let (stall, s) := drawNat s
    let c := s.core k.toNat
    let s := if c.cmd.isSome && c.far.isNone then s.setCore k.toNat { c with cycles := c.cycles + stall } else s
    runAlu s k.toNat 1 (fun c => [(d.toNat, fromNat36 c.cycles)]))

/-- MOVS d, sp: 0 pc of this instruction, 1 st, 2 repc, 3 ev, 4 ctx (R373). -/
def execMovs (k : CoreId) (d sp : BitVec 4) (s : State) : Outcome State Fault Refusal :=
  answer (runInsn s k.toNat 1 (fun c =>
    match sp.toNat with
    | 0 => .did { regs := [(d.toNat, c.pc.setWidth 36)] }
    | 1 => .did { regs := [(d.toNat, c.st)] }
    | 2 => .did { regs := [(d.toNat, c.repc)] }
    | 3 => .did { regs := [(d.toNat, c.ev)] }
    | 4 => .did { regs := [(d.toNat, c.ctx)] }
    | _ => .terminal evIllegal))

/-- MOVT sp, a: only st, repc and ev; read-only fields keep their values (R358, R373). -/
def execMovt (k : CoreId) (sp a : BitVec 4) (s : State) : Outcome State Fault Refusal :=
  answer (runInsn s k.toNat 1 (fun c =>
    let v := c.reg a.toNat
    match sp.toNat with
    | 1 => .did { st := some (v &&& 0x1FF) }
    | 2 => .did { repc := some (v &&& 0xFFF) }
    | 3 => .did { ev := some ((v &&& 0xFFFFFF83F) ||| (c.ev &&& 0x7C0)) }
    | _ => .terminal evIllegal))

/-! ### Long forms -/

/-- ALU d, a, b: the operation of SOP 0x01 to 0x10 on g0 to g31 (R373). -/
def execAlu (k : CoreId) (op d a b : BitVec 5) (s : State) : Outcome State Fault Refusal :=
  answer (runInsn s k.toNat 2 (sopAct op.toNat d.toNat a.toNat b.toNat))

/-- SEL d, a, b, c: d := a if c ≠ 0, else b (R373). -/
def execSel (k : CoreId) (d a b c : BitVec 5) (s : State) : Outcome State Fault Refusal :=
  answer (runAlu s k.toNat 2 (fun x => [(d.toNat, if x.reg c.toNat ≠ 0 then x.reg a.toNat else x.reg b.toNat)]))

/-- ADDI d, a, imm18: sign-extended (R373). -/
def execAddiLong (k : CoreId) (d a : BitVec 5) (imm : BitVec 18) (s : State) : Outcome State Fault Refusal :=
  answer (runAlu s k.toNat 2 (fun c => [(d.toNat, c.reg a.toNat + imm.signExtend 36)]))

/-- ANDI d, a, imm18: zero-extended (R373). -/
def execAndi (k : CoreId) (d a : BitVec 5) (imm : BitVec 18) (s : State) : Outcome State Fault Refusal :=
  answer (runAlu s k.toNat 2 (fun c => [(d.toNat, c.reg a.toNat &&& imm.setWidth 36)]))

/-- ORI d, a, imm18 (R373). -/
def execOri (k : CoreId) (d a : BitVec 5) (imm : BitVec 18) (s : State) : Outcome State Fault Refusal :=
  answer (runAlu s k.toNat 2 (fun c => [(d.toNat, c.reg a.toNat ||| imm.setWidth 36)]))

/-- XORI d, a, imm18 (R373). -/
def execXori (k : CoreId) (d a : BitVec 5) (imm : BitVec 18) (s : State) : Outcome State Fault Refusal :=
  answer (runAlu s k.toNat 2 (fun c => [(d.toNat, c.reg a.toNat ^^^ imm.setWidth 36)]))

/-- MOVI d, imm18: zero-extended (R373). -/
def execMovi (k : CoreId) (d : BitVec 5) (imm : BitVec 18) (s : State) : Outcome State Fault Refusal :=
  answer (runAlu s k.toNat 2 (fun _ => [(d.toNat, imm.setWidth 36)]))

/-- LUI d, imm18: imm18 × 2^18 (R373). -/
def execLui (k : CoreId) (d : BitVec 5) (imm : BitVec 18) (s : State) : Outcome State Fault Refusal :=
  answer (runAlu s k.toNat 2 (fun _ => [(d.toNat, imm.setWidth 36 <<< 18)]))

/-- SHLI d, a, imm: 0 to 35 (R373). -/
def execShliLong (k : CoreId) (d a : BitVec 5) (imm : BitVec 18) (s : State) : Outcome State Fault Refusal :=
  answer (runInsn s k.toNat 2 (shiftImm true d.toNat a.toNat imm.toNat))

/-- SHRI d, a, imm: 0 to 35 (R373). -/
def execShriLong (k : CoreId) (d a : BitVec 5) (imm : BitVec 18) (s : State) : Outcome State Fault Refusal :=
  answer (runInsn s k.toNat 2 (shiftImm false d.toNat a.toNat imm.toNat))

/-- LD d, [a + off18] (R377). -/
def execLdLong (k : CoreId) (d a : BitVec 5) (off : BitVec 18) (s : State) : Outcome State Fault Refusal :=
  answer (runInsn s k.toNat 2 (fun c => loadAct s d.toNat (near24 (c.reg a.toNat + off.signExtend 36)) c))

/-- ST s, [a + off18] (R373). -/
def execStLong (k : CoreId) (v a : BitVec 5) (off : BitVec 18) (s : State) : Outcome State Fault Refusal :=
  answer (runInsn s k.toNat 2 (fun c => storeAct v.toNat (near24 (c.reg a.toNat + off.signExtend 36)) c))

/-- BEQ: branch on equality (R373). -/
def execBeq (k : CoreId) (a b : BitVec 5) (off : BitVec 18) (s : State) : Outcome State Fault Refusal :=
  answer (runInsn s k.toNat 2 (fun c => branchAct (c.reg a.toNat == c.reg b.toNat) (off.signExtend 25) c))

/-- BNE: branch on inequality (R373). -/
def execBne (k : CoreId) (a b : BitVec 5) (off : BitVec 18) (s : State) : Outcome State Fault Refusal :=
  answer (runInsn s k.toNat 2 (fun c => branchAct (c.reg a.toNat != c.reg b.toNat) (off.signExtend 25) c))

/-- BLTU: branch if a < b unsigned (R373). -/
def execBltu (k : CoreId) (a b : BitVec 5) (off : BitVec 18) (s : State) : Outcome State Fault Refusal :=
  answer (runInsn s k.toNat 2 (fun c => branchAct (decide ((c.reg a.toNat).toNat < (c.reg b.toNat).toNat)) (off.signExtend 25) c))

/-- BGEU: branch if a ≥ b unsigned (R373). -/
def execBgeu (k : CoreId) (a b : BitVec 5) (off : BitVec 18) (s : State) : Outcome State Fault Refusal :=
  answer (runInsn s k.toNat 2 (fun c => branchAct (decide ((c.reg b.toNat).toNat ≤ (c.reg a.toNat).toNat)) (off.signExtend 25) c))

/-- JAL off18: g31 := pc + 2; pc := pc + sext(off18) (R357, R373). -/
def execJal (k : CoreId) (off : BitVec 18) (s : State) : Outcome State Fault Refusal :=
  answer (runInsn s k.toNat 2 (fun c =>
    .did { regs := [(31, (c.pc + 2).setWidth 36)], target := some (c.pc + off.signExtend 25), clocks := 2 }))

/-- CYCLE_LIMIT: the cycles of a custom command reach MAX_CYCLES; a terminal event, which waits for the end of a REP
(R399, R383). -/
def execCycleLimit (k : CoreId) (s : State) : Outcome State Fault Refusal :=
  answer (
    let c := s.core k.toNat
    match c.maxCycles with
    | none => s
    | some m =>
      if c.rep.any (fun r => !r.interruptible) then s else
      -- R245: the WMU is scrubbed whatever USED says.
      programFaultAt (s.setCore k.toNat { c with cycles := m, wmu := { c.wmu with used := true } }) k.toNat evCycleLimit)

end Sys2Proof.Machine
end

