-- ==== Sys2Proof/Machine/Crown.lean ====
section
/-! DEFINITION. The Crown: the pair decision, the lease, the interlock, and what taking or losing the Crown does
(R290, R291, R460, R494, R501 to R506, R512, R513). -/

namespace Sys2Proof.Machine

open Host

/-! ### Small parts -/

/-- The mirror link's domain is enabled: the module may have a partner (R37, R494). -/
def pairable (s : State) : Bool := s.boot.pdEn.getLsbD 8

/-- The pair vector fires (15, pair registers). -/
def pairVector (s : State) : State := msixBoth s (32 + s.pair.vec.toNat)

/-- Guard G of a lease of l µs, in ns (R501). -/
def guardNs (l : Nat) : Nat := 10000 + l / 5
/-- Reclaim wait W, in ns (R504). -/
def reclaimNs (l : Nat) : Nat := 2 * guardNs l + 60000

/-- A new pair epoch: the counter table and every accepted-epoch list are cleared (R290, R291). -/
def newEpoch (s : State) : State :=
  let (o, s) := generate s 6 8 false
  { s with keys := { s.keys with pairEpoch := some o, counters := [], aliases := [] } }

/-- Commits that waited for the partner are made without mirroring (R504, R510). -/
def commitAlone (s : State) : State :=
  let s := { s with pair := { s.pair with mirroring := false, copying := false } }
  releaseStalled (s.mapCmds (fun _ c => if c.stage = .commitWait then { c with commitSeq := none } else c))

/-- A ROLE_SWAP that can no longer change the roles completes (R515; log entry 41). -/
def abortSwap (s : State) (st : Code) : State :=
  match s.pair.swap with
  | some w => finishHeld { s with pair := { s.pair with swap := none } } w.cmd st []
  | none => s

/-- The partner is gone: the module runs alone (R504, R510).  A swap that has handed the Crown over still waits for
the reclaim. -/
def runAlone (s : State) : State :=
  let s := if ((s.pair.swap.map (·.handed)).getD false) then s else abortSwap s busyRetry
  commitAlone { s with pair := { s.pair with role := .lone, joined := false, detaching := false, renewals := [],
                                             unsent := [] } }

/-! ### HELLO (R491, R492) -/

/-- Check values of the domain roots that are installed. -/
def ownChecks (s : State) : List (Nat × Octets) := s.warden.roots.map (fun x => (x.1, fit 8 x.2.check))

/-- ROLE as its register shows it. -/
def Role.code : Role → Nat
  | .lone => 0 | .active => 1 | .standby => 2 | .joining => 3 | .detached => 4

/-- What a HELLO of this module says, up to its signature. -/
def helloText (s : State) : Octets :=
  le 8 s.warden.serial.toNat ++ le 1 s.boot.mirrorMax.toNat ++ le 1 s.boot.mode.code ++ le 1 s.pair.role.code ++
  le 1 (if s.keys.pairEpoch.isSome then 1 else 0) ++ fit 8 (s.keys.pairEpoch.getD []) ++
  fit 48 ((s.warden.officers.map (·.1)).getD []) ++ slice s.boot.officers 8 48 ++
  (ownChecks s).flatMap (fun x => le 1 x.1 ++ x.2) ++ Config.identityCert ++ publicP384 s.pair.helloPriv ++
  fit 32 s.pair.helloNonce

/-- Send a HELLO: an ephemeral key pair and a nonce are drawn from I6, and the identity key signs (R491).  A module
without a mirror protocol version, or that cannot draw, sends none (R347, R507). -/
def sendHello (s : State) : State :=
  if !(s.pair.linkUp && canServe s 6 && canServe s 7) || s.boot.mirrorMax = 0 then s
  else
    let (d, s) := generate s 6 56 false
    let (n, s) := generate s 6 32 false
    let (kp, s) := generate s 7 48 false
    let s := { s with pair := { s.pair with helloPriv := be 48 (scalarDraw d), helloNonce := n } }
    let text := helloText s
    emit s (.mirror false 0x01 (text ++ signP384 (s.warden.identity.getD []) (sha 48 text) kp))

/-- A new session tells the partner of a change that it must decide on: a Crown taken or lost with no partner
joined, or a wish to join (R494; log entry 39). -/
def announce (s : State) : State := if pairable s then sendHello s else s

/-! ### Entering a role -/

/-- Enter SERVICE or STANDBY: boot step 13, T_ROLE_US, and the end of a MAINT_EXIT (R47, R59, R61).  An image path
that is still busy is abandoned (R44; log entry 44). -/
def enterRole (s : State) (m : Mode) (trigger : Code) : State :=
  let us := (s.time.toNat - s.boot.tImage.toNat) / 1000
  let b := s.boot
  let busy := b.imgState == .fetching || b.imgState == .verifying || b.imgState == .applying
  let s := { s with boot := { b with step := 13, tRole := if b.step < 13 then satNat 32 us else b.tRole,
                                     pairWait := false, tenantStop := false, exitBy := none,
                                     imgState := if busy then .idle else b.imgState, data := if busy then [] else b.data } }
  let s := setMode s m trigger
  match b.exitBy with
  | some e => finishHeld s e stOk []
  | none => s

/-- Trigger of the MODE entry: MAINT_EXIT where it waits, else no service's (R549). -/
def roleTrigger (s : State) : Code := if s.boot.exitBy.isSome then 0x8011 else Config.modeTrigger 6

/-- TIME of a module that takes the Crown from its partner: max(TIME, T_m + 1); the step (R460). -/
def takeTime (s : State) : Nat × State :=
  let d := (s.tb.tm.toNat + 1) - s.time.toNat
  (d, { s with tb := { s.tb with offset := s.tb.offset + BitVec.ofNat 64 d, adopted := false, aligned := false,
                                 slewing := false, slewLeft := 0 } })

/-- The label entries of the partner's list are derived into the key cache (R303). -/
def rebuildCache (s : State) : State :=
  s.keys.peerLabels.foldr (fun x s =>
    match resolveLabel s x.1 x.2 with
    | .ok k => cachePut s x.1 x.2 k
    | .error _ => s) s

/-- Steps 2 to 4 of R513: TIME, SERVICE with TAKEOVER, the pair vector, and the rebuild. -/
def takeOver (s : State) (trigger : Code) : State :=
  let (d, s) := takeTime s
  let s := enterRole s .service trigger
  let s := journalNow (pairVector s) 8 (le 8 s.tb.tm.toNat ++ le 8 d)
  setCause (rebuildCache s) 2 true

/-- The Crown is held: the lease runs from now on the timer that counts TIME's clock, and the take is noted (R501,
R502, R516). -/
def noteTake (s : State) : State :=
  let (p, s) := stamp s srcMirror
  { s with pair := { s.pair with
      crownOut := true, taking := none, window := false, holding := false, backedOff := none, renewals := [], lastTake := p,
      drillFrom := s.time, drillOverdue := false, leaseL := s.pair.leaseUs.toNat,
      expiry := some (s.tb.timeLocal + BitVec.ofNat 64 (1000 * s.pair.leaseUs.toNat)) } }

/-- The Crown is taken alone: a new pair epoch where the module comes from STAGED or holds none (R290, R494). -/
def serveAlone (s : State) : State :=
  let s := if s.boot.mode == .staged || s.keys.pairEpoch.isNone then newEpoch s else s
  enterRole { s with pair := { s.pair with role := .lone } } .service (roleTrigger s)

/-- The take of a kind is complete (R494, R504, R505, R512, R513, R515). -/
def crownTaken (s : State) (k : TakeKind) : State :=
  let s := noteTake s
  match k with
  | .alone => announce (serveAlone s)
  | .lease => announce (takeOver { s with pair := { s.pair with role := .lone, joined := false, mirroring := false, unsent := [] } } (Config.modeTrigger 6))
  | .swap =>
    let s := { s with pair := { s.pair with role := .active, joined := true, mirroring := true } }
    sendLink (takeOver s (Config.modeTrigger 6)) 0x71 []
  | .force =>
    let s := newEpoch { s with pair := { s.pair with role := .lone, joined := false, mirroring := false, unsent := [] } }
    announce (setCause (rebuildCache (enterRole (pairVector s) .service 0x8082)) 2 true)
  | .reclaim => runAlone (abortSwap s busyRetry)
  | .again => if s.boot.mode == .service then s else announce (serveAlone s)

/-- Raise CROWN_OUT to take the Crown; the second sample follows (R505). -/
def beginTake (s : State) (k : TakeKind) : State :=
  { s with pair := { s.pair with crownOut := true, taking := some k, backedOff := none } }

/-- Take the Crown alone: at once without a mirror link, else under the interlock.  The draw of a pair epoch waits
while the entropy unit cannot serve (R347, R494, R505). -/
def takeAlone (s : State) (peerIn : Bool) : State :=
  let wait (s : State) : State := { s with boot := { s.boot with pairWait := true } }
  if (s.boot.mode == .staged || s.keys.pairEpoch.isNone) && !canServe s 6 then wait s
  else if !pairable s then crownTaken s .alone
  else if peerIn then wait s
  else beginTake s .alone

/-! ### Losing the Crown (R504) -/

/-- A command that becomes NOT_ACTIVE when the Crown is lost: every held completion, and every later one of the
services that run only in SERVICE (R504, R58). -/
def failsWithCrown (c : Cmd) : Bool :=
  c.stage == .done || c.stage == .commitWait || decide (c.slot < 512) || decide (c.d.opcode.toNat / 256 ≠ 0x80)

/-- Held and later completions become NOT_ACTIVE; unacknowledged COMMITs are discarded (R504). -/
def dropHeld (s : State) : State :=
  let gone (e : Nat) : Bool := ((s.cmd e).map failsWithCrown).getD false
  let s := coreNums.foldl (fun s k =>
    let s := if ((s.core k).pre.map gone).getD false then dropPre s k else s
    if ((s.core k).cmd.map gone).getD false then endTurn s k else s) s
  s.mapCmds (fun _ c =>
    if failsWithCrown c then
      { c with stage := .done, served := true, status := notActive, output := [], outLen := 0, effects := [], list := none,
               eligible := false, reserved := [], commitSeq := none, franked := false }
    else c)

/-- Every slot's dirty logging ends (R448). -/
def endDirty (s : State) : State :=
  { s with slots := { s.slots with table := s.slots.table.map (fun x => (x.1, { x.2 with dirtyEn := false, dirtyBits := [] })) } }

/-- SERVICE is left for STANDBY: CROWN_OUT is low, the key cache is emptied, dirty logging ends (R54, R302,
R448). -/
def leaveService (s : State) (role : Role) (trigger : Code) : State :=
  let s := redrawCache (endDirty s)
  let s := { s with pair := { s.pair with
    role := role, crownOut := false, taking := none, backedOff := none, holding := false, expiry := none, renewals := [],
    swap := none, mirroring := false, copying := false, detaching := false } }
  setMode s .standby trigger

/-- The Crown is lost to the partner: STANDBY, and the module must join again (R504). -/
def loseCrown (s : State) : State :=
  let s := leaveService (dropHeld (abortSwap s notActive)) .lone (Config.modeTrigger 6)
  announce { s with pair := { s.pair with joined := false, unsent := [] } }

/-- CROWN_OUT is dropped after a conflict, completions are held, and the take is due again (R505). -/
def backOff (s : State) (k : TakeKind) : State :=
  { s with pair := { s.pair with crownOut := false, taking := none, holding := true, backedOff := some k } }

/-- A standby that may not take: detached, with INTERLOCK_HELD (R503, R518). -/
def missWindow (s : State) : State :=
  { s with pair := { s.pair with role := .detached, window := false, interlockHeld := true, expiry := none, joined := false,
                                 unsent := [] } }

/-- PEER_CROWN_IN_RISE (R503, R504, R505, R506, R518). -/
def execPeerCrownInRise (s : State) : Outcome State Fault Refusal :=
  answer (
    if !pairable s || !s.pwrGood then s
    else
      let s := { s with pair := { s.pair with peerIn := true } }
      match s.pair.taking with
      | some k => backOff s k
      | none =>
        if s.boot.mode = .maintenance then { s with pair := { s.pair with crownOut := false, expiry := none } }
        else if s.boot.mode = .service then
          (if s.pair.holding then loseCrown s else if s.pair.crownOut then backOff s .again else s)
        else if s.pair.window then missWindow s
        else s)

/-- CROWN_RECHECK: the second sample, 2 µs after CROWN_OUT was raised (R505). -/
def execCrownRecheck (peerIn : Bool) (s : State) : Outcome State Fault Refusal :=
  answer (
    match s.pair.taking with
    | none => s
    | some k =>
      let s := { s with pair := { s.pair with peerIn := peerIn } }
      if peerIn then backOff s k else crownTaken s k)

/-- RETAKE: after the drawn delay the take is made again if PEER_CROWN_IN is low (R505); else the partner has the
Crown (R503, R504). -/
def execRetake (peerIn : Bool) (s : State) : Outcome State Fault Refusal :=
  answer (
    match s.pair.backedOff with
    | none => s
    | some k =>
      let s := { s with pair := { s.pair with peerIn := peerIn } }
      if !peerIn then beginTake s k
      else if s.boot.mode = .service then loseCrown s
      else
        let s := { s with pair := { s.pair with backedOff := none, holding := false } }
        if s.boot.mode = .standby then missWindow s else { s with boot := { s.boot with pairWait := true } })

/-! ### The lease (R501 to R504) -/

/-- LEASE_GUARD: at local E_a − G the active module stops releasing completions (R502). -/
def execLeaseGuard (s : State) : Outcome State Fault Refusal :=
  answer (
    match s.pair.expiry with
    | some x =>
      if s.pair.crownOut && s.boot.mode == .service && s.pair.taking.isNone &&
          decide (x.toNat ≤ s.tb.timeLocal.toNat + guardNs s.pair.leaseL) then
        { s with pair := { s.pair with holding := true } }
      else s
    | none => s)

/-- LEASE_EXPIRY: at local E_a the lease timer drops CROWN_OUT (R502). -/
def execLeaseExpiry (s : State) : Outcome State Fault Refusal :=
  answer (
    match s.pair.expiry with
    | some x =>
      if s.pair.crownOut && s.pair.taking.isNone && decide (x.toNat ≤ s.tb.timeLocal.toNat) then
        { s with pair := { s.pair with crownOut := false, holding := s.pair.holding || s.boot.mode == .service } }
      else s
    | none => s)

/-- RECLAIM: at local E_a + W (R504); with PEER_CROWN_IN high the module enters STANDBY (R518). -/
def execReclaim (peerIn : Bool) (s : State) : Outcome State Fault Refusal :=
  answer (
    match s.pair.expiry with
    | some x =>
      if s.boot.mode == .service && s.pair.holding && !s.pair.crownOut && s.pair.backedOff.isNone &&
          decide (x.toNat + reclaimNs s.pair.leaseL ≤ s.tb.timeLocal.toNat) then
        let s := { s with pair := { s.pair with peerIn := peerIn && pairable s } }
        if s.pair.peerIn then loseCrown s else beginTake s .reclaim
      else s
    | none => s)

/-- TAKE_WINDOW: from E_s + G a synchronised standby may take the Crown, if PEER_CROWN_IN has read low for 1 µs
(R497, R503). -/
def execTakeWindow (peerIn : Bool) (s : State) : Outcome State Fault Refusal :=
  answer (
    match s.pair.expiry with
    | some x =>
      if s.boot.mode == .standby && s.pair.role == .standby && s.pair.taking.isNone && s.pair.backedOff.isNone &&
          decide (x.toNat + guardNs s.pair.leaseL ≤ s.tb.timeLocal.toNat) then
        let s := { s with pair := { s.pair with peerIn := peerIn, window := true } }
        if peerIn then s else beginTake s .lease
      else s
    | none => s)

/-- TAKE_WINDOW_MISS: the window closes unused (R503). -/
def execTakeWindowMiss (s : State) : Outcome State Fault Refusal :=
  answer (if s.pair.window && s.pair.taking.isNone && s.pair.backedOff.isNone then missWindow s else s)

/-! ### The pair decision (R53, R494, R495) -/

/-- Officer sets of the two modules satisfy R53. -/
def officersAgree (s : State) (h : HelloMsg) : Bool :=
  let own := (s.warden.officers.map (·.1)).getD []
  let prev := slice s.boot.officers 8 48
  own == h.officers || h.officers == prev || h.prev == own

/-- Every domain root of the active module is on the joining one, with an equal check value (R495). -/
def rootsCover (active joining : List (Nat × Octets)) : Bool := active.all (fun x => lookup joining x.1 == some x.2)

/-- Entries of the current segment that HEAD has not passed go to the active module (R469). -/
def sendClosed (s : State) : State :=
  (s.journal.ring.filter s.journal.unstreamed).foldl (fun s e => sendLink s 0x31 e.octets) s

/-- Join as standby: the active module's TIME and pair epoch are adopted, and mirroring is live; the state that
the bulk copy brings replaces this module's own (R459, R469, R496, R497). -/
def joinAsStandby (s : State) (h : HelloMsg) : State :=
  let s := sendClosed s
  let s := { s with
    tb := { s.tb with offset := h.time - s.tb.timeLocal, adopted := true, slewing := false, slewLeft := 0 },
    keys := { s.keys with pairEpoch := h.epoch, counters := [], aliases := [], peerLabels := [] },
    slots := {}, so := { s.so with replays := [] },
    pair := { s.pair with role := .joining, joined := true, expiry := none, crownOut := false } }
  announce (enterRole s .standby (roleTrigger s))

/-- Join the partner that is in SERVICE, unless R495 forbids it. -/
def tryJoin (s : State) (h : HelloMsg) : State :=
  if officersAgree s h && rootsCover h.checks (ownChecks s) then joinAsStandby s h
  else { s with pair := { s.pair with domainRefused := true } }

/-- The session with the partner, once it is confirmed and the link is up. -/
def livePeer (s : State) : Option HelloMsg :=
  match s.pair.session with
  | some x => if x.confirmed && s.pair.linkUp then some x.peer else none
  | none => none

/-- The decision of R494. -/
def pairDecide (s : State) (peerIn : Bool) : State :=
  let s := { s with pair := { s.pair with peerIn := peerIn && pairable s } }
  let wait : State := { s with boot := { s.boot with pairWait := true } }
  if !pairable s then takeAlone s false
  else match livePeer s with
    | none => s
    | some h =>
      if h.mode = 3 then tryJoin s h
      else if s.pair.role = .standby then (if peerIn then wait else beginTake s .lease)
      else if h.role = 2 then wait
      else if s.warden.serial.toNat < h.serial.toNat then takeAlone s peerIn
      else wait

/-- Where the module decides: STAGED with the layout applied, STANDBY with no partner, or a MAINT_EXIT that
waits (R494). -/
def decides (s : State) : Bool :=
  s.pair.taking.isNone && s.pair.backedOff.isNone &&
  ((s.boot.mode == .staged && decide (11 ≤ s.boot.step) && s.warden.lc == .commissioned) ||
   (s.boot.mode == .standby && !s.pair.joined) || (s.boot.mode == .maintenance && s.boot.exitBy.isSome))

/-- PAIR_DECISION (R494). -/
def execPairDecision (peerIn : Bool) (s : State) : Outcome State Fault Refusal :=
  answer (if decides s then pairDecide s peerIn else s)

/-- The link has stayed down: take the Crown alone where PEER_CROWN_IN is low, else retry (R494).  A standby waits
for its partner. -/
def decideDown (s : State) (peerIn : Bool) : State :=
  if s.boot.mode == .standby then s
  else takeAlone { s with pair := { s.pair with peerIn := peerIn && pairable s } } peerIn

/-- PAIR_WAIT_EXPIRY: 80 ms without a link (R494). -/
def execPairWaitExpiry (peerIn : Bool) (s : State) : Outcome State Fault Refusal :=
  answer (if !decides s || s.pair.linkUp then s else decideDown s peerIn)

/-- PAIR_RETRY: the decision is made again after 100 ms (R494). -/
def execPairRetry (peerIn : Bool) (s : State) : Outcome State Fault Refusal :=
  answer (
    if !decides s || !s.boot.pairWait then s
    else if s.pair.linkUp || !pairable s then pairDecide s peerIn
    else decideDown s peerIn)

/-! ### PAIR_FORCE and drills (R512, R516) -/

/-- PAIR_FORCE (0x8082): a detached standby takes the Crown with a new pair epoch (R512). -/
def svcPairForce (peerIn : Bool) : Svc Octets := do
    needGrant
    let st ← getS
    need (st.boot.mode == .standby && st.pair.role == .detached && !peerIn) modeRefused
    need (!st.entropy.failed) entropyFailed
    if !canServe st 6 then throw (.wait 6) else pure ()
    capacity 0
    modS (fun s => beginTake s .force)
    pure []
/-- PAIR_FORCE (0x8082) on core k. -/
def execPairForce (k : CoreId) (peerIn : Bool) (s : State) : Outcome State Fault Refusal :=
  answer (runService s k.toNat 0x8082 false defaultWait (svcPairForce peerIn))

/-- DRILL_OVERDUE: DRILL_AGE_S passes 86,400 (R516). -/
def execDrillOverdue (s : State) : Outcome State Fault Refusal :=
  answer (
    if !s.pair.joined || s.pair.drillOverdue || s.time.toNat - s.pair.drillFrom.toNat ≤ 86400 * 1000000000 then s
    else notice { s with pair := { s.pair with drillOverdue := true } } 0x0408 0 0 false)

end Sys2Proof.Machine
end

