-- ==== Sys2Proof/Machine/GateOps.lean ====
section
/-! DEFINITION. Requests at a gate, Seals, the G22 commands of the fixed masters, and the self-check of a
gate (R401 to R433). -/

namespace Sys2Proof.Machine

open Host

/-- The Seal of 640 bits: the 24-bit CRC of R430, from bit `n - 1` down to bit 0. -/
def sealFrom (msg : BitVec 640) : Nat → BitVec 24 → BitVec 24
  | 0, crc => crc
  | n + 1, crc =>
    let fb := crc.getLsbD 23 ^^ msg.getLsbD n
    let c := crc <<< 1
    sealFrom msg n (if fb then c ^^^ 0x5D6DCB else c)
def sealOf (msg : BitVec 640) : BitVec 24 := sealFrom msg 640 0xFFFFFF

/-- Fields of a beat (R429). -/
def beatAddr (m : BitVec 640) : Nat := (m.extractLsb' 600 40).toNat
def beatMaster (m : BitVec 640) : Nat := (m.extractLsb' 593 7).toNat
def beatTag (m : BitVec 640) : BitVec 8 := m.extractLsb' 585 8
def beatKind (m : BitVec 640) : Nat := (m.extractLsb' 582 3).toNat

/-- Is a transaction's shape the one R401 gives? -/
def shapeOk (addr len : Nat) : Bool :=
  [1, 2, 4, 8, 16, 32, 64, 128, 256].contains len && addr % len == 0

def gateHealth (s : State) (g : Nat) : GateHealth := tget {} s.gates.health g
def setHealth (s : State) (g : Nat) (h : GateHealth) : State :=
  { s with gates := { s.gates with health := tset {} s.gates.health g h } }

/-- How many entries and windows of a set match a request, and how many of those grant it (R407, R413). -/
def setMatches (r : RuleSet) (gate addr len kind : Nat) : Nat × Nat :=
  let off := addr - (gate - 25) * 2 ^ 36
  let regs := r.entries.filter (fun e => regMatch e.2 addr)
  let wins := r.windows.filter (fun w => decide (w.1 ≤ off ∧ off + len ≤ w.1 + w.2.1))
  (regs.length + wins.length,
   (regs.filter (fun e => regGrants e.2 kind)).length + (wins.filter (fun w => kind = 0 || (kind = 1 && w.2.2))).length)

/-- The set that decides a request: the master's ACTIVE or DRAINING set whose epoch equals the tag
(R419). -/
def decidingSet (s : State) (g master : Nat) (tag : BitVec 8) : Option Nat :=
  [0, 1].find? (fun i => let r := getSet s g master i
                         (r.st == .active || r.st == .draining) && r.epoch == tag)

/-- Is it a master ID that has sets? (R19, R410) -/
def liveMaster (m : Nat) : Bool := decide (m < 8) || decide (0x40 ≤ m)

/-- Refuse a request: REFUSED counts, and the first refusal of a millisecond raises a notice (R404,
R405). -/
def refuse (s : State) (g master : Nat) (msg : BitVec 640) : State :=
  let h := gateHealth s g
  let ms := s.time.toNat / 1000000
  let s := setHealth s g { h with refused := h.refused.inc, noticed := some ms }
  let s := if h.noticed = some ms then s
    else notice s 0x0402 g (Config.refusalValue master (beatTag msg).toNat (beatAddr msg) (beatKind msg)) false
  emit s (.gate g master 6)

/-- A Seal mismatch at a gate (R432, R433). -/
def sealMismatch (s : State) (g init : Nat) : State :=
  let path := 128 * g + init
  let h := gateHealth s g
  let s := setHealth s g { h with sealErr := satInc h.sealErr }
  let s := notice s 0x0403 g (BitVec.ofNat 32 init) false
  let times := s.time.toNat :: ((tget [] s.gates.mismatches path).filter (fun t => decide (s.time.toNat - t < 1000000000))).take 3
  let again := s.gates.retried.contains path
  let s := { s with gates := { s.gates with
    mismatches := tset [] s.gates.mismatches path times,
    retried := if again then s.gates.retried.filter (· ≠ path) else path :: s.gates.retried } }
  let s := emit s (.gate g init (if again then 7 else 1))
  if times.length ≥ 4 then raiseAlarm s { cause := 0x0200, cls := clsL, unit := g } else s

/-- The gate, or the central table in its place, decides a request whose Seal is good (R402, R403, R407,
R409, R419). -/
def decideRequest (s : State) (g len : Nat) (msg : BitVec 640) : State :=
  let m := beatMaster msg
  if !shapeOk (beatAddr msg) len then
    eventF (refuse s g m msg) (Config.gateEvent 0) g 0 0
  else if !liveMaster m then refuse s g m msg
  else
    match decidingSet s g m (beatTag msg) with
    | none => eventF (refuse s g m msg) (Config.gateEvent 1) g 0 0
    | some i =>
      let r := getSet s g m i
      let (hit, grants) := setMatches r g (beatAddr msg) len (beatKind msg)
      if hit > 1 then raiseAlarm (refuse s g m msg) { cause := 0x0201, cls := clsL, unit := g }
      else if hit = 1 ∧ grants = 1 then
        emit (putSet s g m i { r with drain := r.drain + 1 }) (.gate g m 0)
      else refuse s g m msg

/-- GATE_REQUEST: the first beat of a transaction of `len` octets that an initiator sends meets the gate of
its address; an unmapped address has none (R16, R407, R431). -/
def execGateRequest (init : BitVec 7) (len : Nat) (msg : BitVec 640) (sl : BitVec 24) (s : State) :
    Outcome State Fault Refusal :=
  answer (
    match gateOf s (beatAddr msg) with
    | none => notice s 0x0401 init.toNat (BitVec.ofNat 32 (beatAddr msg)) false
    | some g =>
      if sealOf msg ≠ sl then sealMismatch s g init.toNat
      else
        let path := 128 * g + init.toNat
        decideRequest { s with gates := { s.gates with retried := s.gates.retried.filter (· ≠ path) } } g len msg)

/-- SET_FREE: the last request of a DRAINING set is answered and the set becomes FREE; a readying that
waits on it goes on (R420, R422, R434). -/
def execSetFree (gate : BitVec 5) (master : BitVec 7) (s : State) : Outcome State Fault Refusal :=
  answer (
    let g := gate.toNat
    let m := master.toNat
    match setIn s g m .draining with
    | none => s
    | some i =>
      let s := putSet s g m i {}
      if m < 0x40 then s
      else
        let k := m - 0x40
        match (s.core k).pre with
        | none => s
        | some e =>
          match s.cmd e with
          | none => s
          | some c => if s.gates.reads.contains k then s else readyGate s k e c g)

/-! ### G22: the sets of the fixed masters (R418, chapter 12 registers) -/

/-- The gates that RULE_SEL.GATE names. -/
def selGates (gate : BitVec 8) : List Nat :=
  if gate = 0xFF then List.range 8 else if gate.toNat < 29 then [gate.toNat] else []

/-- Write RULE_SEL. -/
def selectSet (s : State) (master : BitVec 7) (gate : BitVec 8) (set : Bool) : State :=
  { s with gates := { s.gates with selMaster := master, selGate := gate, selSet := set } }

/-- LOAD: the staging descriptors are copied into the selected set, if FREE (12, registers). -/
def execLoadSet (master : BitVec 7) (gate : BitVec 8) (set : Bool) (regions : List (BitVec 64)) (s : State) :
    Outcome State Fault Refusal :=
  answer (
    let st := (regions ++ List.replicate 16 0).take 16
    let s := selectSet { s with gates := { s.gates with staging := st } } master gate set
    let i := if set then 1 else 0
    let m := master.toNat
    if m ≥ 8 then s
    else (selGates gate).foldl (fun s g =>
      let r := getSet s g m i
      if r.st = .free then
        putSet s g m i { r with entries := ((List.range 16).zip st).filter (fun e => e.2 ≠ 0) }
      else s) s)

/-- ARM: the selected set is checked and armed for the master's next epoch (R408, R419). -/
def execArmSet (master : BitVec 7) (gate : BitVec 8) (set : Bool) (s : State) : Outcome State Fault Refusal :=
  answer (
    let s := selectSet s master gate set
    let i := if set then 1 else 0
    let m := master.toNat
    let gs := (selGates gate).filter (fun g => (getSet s g m i).st == .free)
    if m ≥ 8 ∨ gs = [] then s
    else
      let st := fun g => armCheck ((getSet s g m i).entries.map (·.2))
      let code := ((gs.find? (fun g => st g != 0)).map st).getD 0
      let s := { s with gates := { s.gates with armStatus := code } }
      gs.foldl (fun s g =>
        if st g = 0 then putSet s g m i { getSet s g m i with st := .armed, epoch := epochTag s m + 1 } else s) s)

/-- SWAP: acts when the master's inactive set is ARMED at all 29 gates (R421). -/
def execSwapSet (master : BitVec 7) (s : State) : Outcome State Fault Refusal :=
  answer (
    let s := { s with gates := { s.gates with selMaster := master } }
    let m := master.toNat
    if m < 8 ∧ gateNums.all (fun g => (setIn s g m .armed).isSome) then swapSets s m else s)

/-- FREE: the selected set is freed, if ARMED (12, registers). -/
def execFreeSet (master : BitVec 7) (gate : BitVec 8) (set : Bool) (s : State) : Outcome State Fault Refusal :=
  answer (
    let s := selectSet s master gate set
    let i := if set then 1 else 0
    let m := master.toNat
    if m ≥ 8 then s
    else (selGates gate).foldl (fun s g => if (getSet s g m i).st = .armed then putSet s g m i {} else s) s)

/-! ### Self-check (R426 to R428) -/

/-- A gate is bypassed: its central-table shadow decides from here on (R427). -/
def bypassGate (s : State) (g : Nat) (cause : BitVec 2) : State :=
  setHealth s g { gateHealth s g with bypassed := true, cause := cause }

/-- GATE_SELF_CHECK: a failure bypasses the gate, raises an F-class event and is journalled; a failure of
the central table raises an L-class alarm (R426, R427, R428). -/
def execGateSelfCheck (gate : BitVec 5) (cause : BitVec 2) (central : Bool) (s : State) : Outcome State Fault Refusal :=
  answer (
    let g := gate.toNat
    let s := if cause = 0 ∨ g ≥ 29 ∨ (gateHealth s g).bypassed then s
      else journalRetire (eventF (bypassGate s g cause) 0x0305 g 0 0) .gate g
    if central then raiseAlarm s { cause := 0x0202, cls := clsL } else s)

end Sys2Proof.Machine
end

