-- ==== Sys2Proof/Machine/Sched.lean ====
section
/-! DEFINITION. Dispatch to a core, the rule-table read, deferral and the delay lists, and the
observability registers (R126 to R143, R390, R420, R424). -/

namespace Sys2Proof.Machine

open Host

/-! ### What a dispatch gives the core (R390) -/

/-- Fields of a CUSTOM_SERVICE body (02, R397). -/
def customFlags (b : Octets) : Nat := u8 b 0
def customMaxCycles (b : Octets) : Nat := u32 b 4
def customCodeWords (b : Octets) : Nat := u32 b 16
def customConstWords (b : Octets) : Nat := u32 b 20
def customEntry (b : Octets) : Nat := u32 b 24
def customHandler (b : Octets) : Nat := u32 b 28

/-- NEAR bases of the segment and of the constants of a custom service: the objects stand in ascending
INSTANCE order (R398). -/
def customBases : List (Nat × Octets) → Nat → Nat → Nat → Nat × Nat
  | [], _, seg, const => (seg, const)
  | (i, b) :: t, n, seg, const =>
    if i = n then (seg, const) else customBases t n (seg + customCodeWords b) (const + customConstWords b)

/-- ctx of a command on a core (R358). -/
def ctxOf (k : Nat) (c : Cmd) : W36 :=
  BitVec.ofNat 36 (c.slot + 2 ^ 10 * c.ph + (if c.fn.portB then 2 ^ 22 else 0) + (if c.custom then 2 ^ 23 else 0) +
    2 ^ 24 * (c.level % 8) + 2 ^ 27 * k + (if c.stateChanging then 2 ^ 33 else 0))

/-- The registers at dispatch (R390). -/
def entryRegs (k e : Nat) (c : Cmd) (constBase : Nat) : Tab W36 :=
  let w := fun (n : Nat) => BitVec.ofNat 36 n
  [(1, w (stagingAddr e)), (2, w c.d.inLen.toNat), (3, w (stagedLen c.d)),
   (4, w (if isInline c.d ∨ c.d.inLen = 0 then 0 else hsIn k c)), (5, w (hsOut k c)), (6, w c.d.outCap.toNat),
   (7, w (scratchAddr e)), (8, w c.turn),
   (9, w (c.d.opcode.toNat + 2 ^ 16 * c.d.flags.toNat + 2 ^ 24 * c.d.version.toNat)),
   (10, w constBase)].filter (fun x => x.2 ≠ 0)

/-- The core as a dispatch starts it: entry, registers, special registers zero (R358, R390). -/
def startCore (s : State) (k e : Nat) (c : Cmd) : Core :=
  let old := s.core k
  let blank : Core := { cmd := some e, lastSlot := c.slot, wmuFaults := old.wmuFaults, wmu := old.wmu, dsram := old.dsram,
                        busy1ms := old.busy1ms, busy1s := old.busy1s, ctx := ctxOf k c, cycles := c.cycles }
  match customBody s c.d.opcode with
  | some b =>
    let (seg, const) := customBases s.boot.custom (c.d.opcode.toNat % 256) 0x5000 0x160000
    { blank with
      regs := entryRegs k e c (if customConstWords b = 0 then 0 else const),
      pc := BitVec.ofNat 25 (2 * seg + customEntry b),
      handler := if customHandler b = 0xFFFFFFFF then none else some (BitVec.ofNat 25 (2 * seg + customHandler b)),
      segLo := seg, segHi := seg + customCodeWords b, maxCycles := some (customMaxCycles b) }
  | none =>
    { blank with regs := entryRegs k e c 0, pc := Config.stdEntry c.d.opcode, handler := some (Config.stdHandler c.d.opcode) }

/-- Histogram bucket of a waiting time in ns (R142). -/
def waitBucket (w : Nat) : Nat :=
  match (List.range 15).find? (fun b => decide (w < 1000 * 2 ^ b)) with
  | some b => b
  | none => 15

/-- Count a first dispatch in the histogram of its cluster and level (R142). -/
def countWait (s : State) (cl : Nat) (c : Cmd) (now : BitVec 64) : State :=
  if c.dispatched then s
  else
    let i := 128 * cl + 16 * c.level + waitBucket (now.toNat - c.arrival.time.toNat)
    { s with so := { s.so with hist := tset {} s.so.hist i (tget ({} : Stat) s.so.hist i).inc } }

/-- Does the command need randomness, by its custom service's flag? (R399) -/
def needsRandom (s : State) (c : Cmd) : Bool :=
  match customBody s c.d.opcode with | some b => (customFlags b).testBit 1 | none => false

/-- Dispatch the pre-selected command e to core k: the sets swap, the core stamps the dispatch Postmark
and starts, and its next command is chosen (R21, R126, R128, R421). -/
def startCommand (s : State) (k e : Nat) (c : Cmd) : State :=
  if s.entropy.failed && needsRandom s c then
    preselectNext (completeWith (dropPre s k) e entropyFailed) k
  else
    let s := swapSets s (coreMaster k)
    let s := { s with gates := { s.gates with stalled := s.gates.stalled.filter (· ≠ k) } }
    let (pm, s) := stampFrom s (srcCore k) c.arrival.time
    let s := countWait s (k / 8) c pm.time
    let s := s.setCore k (startCore s k e c)
    let s := s.setCmd e { c with
      stage := .running k, dispatch := pm, dispatched := true, deferred := false, eligible := false, waiting := false }
    preselectNext s k

/-- Dispatch to core k if every gate is READY; a stall counts once at each gate that is not (R128). -/
def tryDispatch (s : State) (k : Nat) : State :=
  match (s.core k).pre with
  | none => s
  | some e =>
    match s.cmd e with
    | none => s
    | some c =>
      let late := notReady s k e
      if late = [] then startCommand s k e c
      else if s.gates.stalled.contains k then s
      else
        { s with
          so := { s.so with dstall := late.foldl (fun t g => tset {} t g (tget ({} : Stat) t g).inc) s.so.dstall },
          gates := { s.gates with stalled := k :: s.gates.stalled } }

/-- The free core that takes a command: one whose last slot was the command's, then the lowest (R129). -/
def preferredCore (s : State) (cl slot : Nat) : Option Nat :=
  let l := (clusterCores cl).filter (fun k => (s.core k).free && (s.core k).pre.isNone)
  match l.find? (fun k => (s.core k).lastSlot == slot) with
  | some k => some k
  | none => l.head?

/-- A free core without a pre-selection receives one: the next of its cluster, or that of a busy core
(R129). -/
def takeWork (s : State) (k : Nat) : State :=
  match choose s (k / 8) with
  | some (e, c, t) => if preferredCore s (k / 8) c.slot = some k then preselect t k e c else s
  | none =>
    match highestPre ((preLevels s (k / 8)).filter (fun x => (s.core x.1).cmd.isSome)) with
    | some (j, _) =>
      (match (s.core j).pre with
       | none => s
       | some e =>
         let s := dropPre s j
         match s.cmd e with
         | some c => preselect s k e c
         | none => s)
    | none => s

/-- Is the cluster of core k in service, and not being replaced? (R137, R479) -/
def clusterUp (s : State) (k : Nat) : Bool := !s.so.clusterOut.getLsbD (k / 8) && !s.units.replacing.contains (k / 8)

/-- DISPATCH: a free core receives its command, once every gate is ready (R128, R129). -/
def execDispatch (k : CoreId) (s : State) : Outcome State Fault Refusal :=
  answer (
    let k := k.toNat
    if !clusterUp s k || !(s.core k).free then s
    else tryDispatch (if (s.core k).pre.isNone then takeWork s k else s) k)

/-- RULE_TABLE_RETURN: the rule-table read of core k's pre-selection returns, from the primary channel or
the secondary; with neither copy usable the command completes with INTEGRITY_FAULT (R420, R424). -/
def execRuleTableReturn (k : CoreId) (primary secondary : Bool) (s : State) : Outcome State Fault Refusal :=
  answer (
    let k := k.toNat
    if !s.gates.reads.contains k then s
    else if primary || secondary then
      readyAll { s with gates := { s.gates with reads := s.gates.reads.filter (· ≠ k) } } k
    else
      match (s.core k).pre with
      | none => s
      | some e =>
        let s := eventF (completeWith (dropPre s k) e integrityFault) (Config.gateEvent 2) k 0 0
        preselectNext s k)

/-! ### Deferral (R133, R340, R370) -/

/-- A field of a command's stage: a delay list and its due tick. -/
def deferTo (s : State) (k e : Nat) (c : Cmd) (list due : Nat) : State :=
  (endTurn s k).setCmd e { c with stage := .delayed list due, eligible := false, turn := c.turn + 1, waiting := false,
                                  deferred := decide (list = 2),
                                  cycles := (s.core k).cycles }

/-- SO_DEFER: the write ends the turn of core k; a command that was told to wait for randomness or for a
page waits on list 0 or 1, another on list 2 (R133, R340, R370).  A residue fault that the turn saw counts
(R244). -/
def execSoDefer (k : CoreId) (ticks : BitVec 16) (s : State) : Outcome State Fault Refusal :=
  answer (
    let k := k.toNat
    match running s k with
    | none => s
    | some (e, c) =>
      if ticks = 0 then s
      else
        let s := noteResidue s k
        if c.waiting then deferTo s k e c 0 (c.waitDue.getD (dueTick s 1))
        else if (s.core k).st.extractLsb' 6 3 = 4 then
          deferTo s k e c 1 (dueTick s (ceilDiv 100000 s.so.sched.tick100ns))
        else deferTo s k e c 2 (dueTick s ticks.toNat))

/-- DEFER_EXPIRY: an entry of list 2 expires, and the command returns to the tail of its queue (R133). -/
def execDeferExpiry (e : Nat) (s : State) : Outcome State Fault Refusal :=
  answer (
    match s.cmd e with
    | none => s
    | some c => match c.stage with
      | .delayed 2 _ => requeue s e c
      | _ => s)

/-- ENQ: the supervisor places level-0 internal work; another master's write has no effect (R122, R415). -/
def execEnq (master : BitVec 7) (value : BitVec 32) (s : State) : Outcome State Fault Refusal :=
  answer (if master = 0 then { s with so := { s.so with internal := s.so.internal ++ [value] } } else s)

/-- Is delay list 3 full: coalescing timers and supervisor timers? (R132) -/
def list3Full (s : State) : Bool :=
  decide (16384 ≤ s.so.timers.length + (s.so.phs.filter (fun x => x.2.timer.isSome)).length)

/-- SUPERVISOR_TIMER: with `insert`, the supervisor inserts a timer of 1 to 2^24 ticks, which a full list 3 refuses;
without, the supervisor timer with the earliest due tick expires, and its event is raised as internal work (R122, R130,
R132; log entry 79). -/
def execSupervisorTimer (insert : Option (BitVec 25 × BitVec 32)) (s : State) : Outcome State Fault Refusal :=
  answer (
    match insert with
    | some (ticks, id) =>
      if ticks.toNat = 0 ∨ ticks.toNat > 2 ^ 24 then s
      else if list3Full s then { s with so := { s.so with dl3Full := true } }
      else { s with so := { s.so with timers := s.so.timers ++ [(dueTick s ticks.toNat, id.toNat)] } }
    | none =>
      match firstTimer s.so.timers with
      | some (due, id) =>
        { s with so := { s.so with timers := s.so.timers.filter (fun x => x ≠ (due, id)),
                                   internal := s.so.internal ++ [BitVec.ofNat 32 id] } }
      | none => s)
where
  /-- The timer due first. -/
  firstTimer : List (Nat × Nat) → Option (Nat × Nat)
    | [] => none
    | x :: t => match firstTimer t with
      | none => some x
      | some y => if x.1 ≤ y.1 then some x else some y

/-! ### Observability (R141 to R143) -/

/-- PH_SEL: a write takes a snapshot of the pigeonhole's DEPTH and MAX_DEPTH (R143). -/
def execPhSel (portB : Bool) (value : BitVec 12) (s : State) : Outcome State Fault Refusal :=
  answer (s.setPort portB { s.port portB with
    phSel := value, snapDepth := BitVec.ofNat 16 (phDepth s value.toNat), snapMax := (s.ph value.toNat).maxDepth })

/-- Copies of a slot's three counters. -/
def snapSlotOf (s : State) (p : Port) (n : Nat) : Port :=
  { p with snapFetched := if n ≤ 513 then tget {} s.so.fetched n else {},
           snapCompleted := if n ≤ 513 then tget {} s.so.completed n else {},
           snapCancelled := if n ≤ 513 then tget {} s.so.cancelled n else {} }

/-- SLOT_SEL: a write takes a snapshot of the slot's counters (R143). -/
def execSlotSel (portB : Bool) (value : BitVec 10) (s : State) : Outcome State Fault Refusal :=
  answer (s.setPort portB (snapSlotOf s { s.port portB with slotSel := value } value.toNat))

/-- The 16 buckets of a cluster and level. -/
def histOf (s : State) (cl lv : Nat) : Tab Stat :=
  (List.range 16).foldl (fun t b => tset {} t b (tget {} s.so.hist (128 * cl + 16 * lv + b))) []

/-- HIST_SEL: a write takes a snapshot of the histogram (R143). -/
def execHistSel (portB : Bool) (cluster level : BitVec 3) (s : State) : Outcome State Fault Refusal :=
  answer (s.setPort portB { s.port portB with
    histCluster := cluster, histLevel := level, snapHist := histOf s cluster.toNat level.toNat })

/-- CLR_MAX: MAX_DEPTH of the selected pigeonhole, and its snapshot, are cleared (R143). -/
def execClrMax (portB : Bool) (s : State) : Outcome State Fault Refusal :=
  answer (
    let p := s.port portB
    let s := s.setPh p.phSel.toNat { s.ph p.phSel.toNat with maxDepth := 0 }
    s.setPort portB { p with snapMax := 0 })

/-- CLR_SLOT: the three counters of the selected slot, and their snapshot, are cleared (R143). -/
def execClrSlot (portB : Bool) (s : State) : Outcome State Fault Refusal :=
  answer (
    let p := s.port portB
    let n := p.slotSel.toNat
    let s := { s with so := { s.so with fetched := tset {} s.so.fetched n {}, completed := tset {} s.so.completed n {},
                                        cancelled := tset {} s.so.cancelled n {} } }
    s.setPort portB { p with snapFetched := {}, snapCompleted := {}, snapCancelled := {} })

/-- CLR_HIST: the 16 buckets of the selected cluster and level, and their snapshot, are cleared (R143). -/
def execClrHist (portB : Bool) (s : State) : Outcome State Fault Refusal :=
  answer (
    let p := s.port portB
    let base := 128 * p.histCluster.toNat + 16 * p.histLevel.toNat
    let s := { s with so := { s.so with
      hist := (List.range 16).foldl (fun t b => tset ({} : Stat) t (base + b) {}) s.so.hist } }
    s.setPort portB { p with snapHist := [] })

/-- CLR_DSTALL: every DSTALL counter is cleared (R143). -/
def execClrDstall (s : State) : Outcome State Fault Refusal :=
  answer { s with so := { s.so with dstall := [] } }

/-- BUSY_WINDOW_END: a 1 ms or 1 s window ends and the core's busy fraction shows (R141). -/
def execBusyWindowEnd (second : Bool) (k : CoreId) (busy : BitVec 16) (s : State) : Outcome State Fault Refusal :=
  answer (
    let c := s.core k.toNat
    s.setCore k.toNat (if second then { c with busy1s := busy } else { c with busy1ms := busy }))

end Sys2Proof.Machine
end

