-- ==== Sys2Proof/Machine/Finish.lean ====
section
/-! DEFINITION. DONE: the hand-off of a completion by the program of a core (R244, R395, R396, R399). -/

namespace Sys2Proof.Machine

open Host

/-- The statuses that a custom service may give DONE (R396). -/
def customStatuses : List Nat :=
  [0x0000, 0x0101, 0x0102, 0x0103, 0x0104, 0x0105, 0x0201, 0x0202, 0x0203, 0x0204, 0x0205, 0x0206, 0x0207,
   0x0301, 0x0302, 0x0303, 0x0311, 0x0312, 0x0313, 0x0314, 0x0315, 0x0316, 0x0317, 0x0501, 0x0502, 0x0503, 0x0504,
   0x0601, 0x0602, 0x0401, 0x0406, 0x0407, 0x0801, 0x0802]

/-- What DONE waits for: jobs of the core, and its entropy request (R395). -/
def doneWaits (s : State) (k : Nat) : Bool :=
  s.arrays.jobs.any (fun j => j.core == k) || ((lookup s.entropy.results k).map (·.busy)).getD false

/-- The Franking nonce of a result cannot be served yet (R339, R340). -/
def nonceWaits (s : State) (k : Nat) (c : Cmd) : Bool := franks s c && !s.entropy.failed && !canServe s (k / 16)

/-- DONE of a custom service: status, PARTIAL and length come from the registers; the octets are those it wrote
to its output window (R395, R396, R399, R109). -/
def doneCustom (s : State) (k e : Nat) (c : Cmd) (a b : W36) : State :=
  let st : Code := a.extractLsb' 0 16
  let n := (b.extractLsb' 0 32).toNat
  let finish (s : State) (c : Cmd) : State := handOff (endTurn (s.setCmd e c) k) (srcCore k) e
  if !customStatuses.contains st.toNat then finish s { c with status := programFault, output := [], effects := [], served := true }
  else if st = stOk ∧ c.stateChanging ∧ n > 4096 then
    finish s { c with status := badLength, output := [], effects := [], served := true }
  else if n > c.d.outCap.toNat then
    (endTurn s k).setCmd e { c with status := badLength, output := [], outLen := n, effects := [], served := true,
                                    list := none, eligible := false, stage := .done }
  else
    let c0 := c
    let c := { c with status := st, output := fit n c.output, franked := a.getLsbD 16, isPartial := a.getLsbD 17,
                      outLen := n, served := true }
    let charged := if st = stOk then chargeCounters c else c
    if charged.stateChanging ∧ !c.stateChanging ∧ twinInFlight s e charged then
      finish s { c with status := busyRetry, output := [], effects := [] }
    else if nonceWaits s k charged then waitRandom s k e c0 (k / 16) defaultWait
    else finish s charged

/-- DONE of a standard service: the result that its service row produced, but INVARIANT_FAILED with no output
once its command has seen a residue fault (R244). -/
def doneStandard (s : State) (k e : Nat) (c : Cmd) (seen : Bool) : State :=
  let c := if seen then { c with status := invariantFailed, output := [], outLen := 0, effects := [] } else c
  if nonceWaits s k c then waitRandom s k e c (k / 16) defaultWait
  else handOff (endTurn (s.setCmd e c) k) (srcCore k) e

/-- DONE a, b (R395): it waits for the core's jobs and entropy request; operand bits outside R395's are
ILLEGAL in a custom service; a residue fault counts (R244). -/
def execDoneInsn (k : CoreId) (a b : BitVec 4) (s : State) : Outcome State Fault Refusal :=
  answer (
    let k := k.toNat
    let core := s.core k
    match running s k with
    | none => s
    | some (e, c) =>
      if core.far.isSome || doneWaits s k || (!c.custom && !c.served) then s
      else
        let x := core.reg a.toNat
        let y := core.reg b.toNat
        if c.custom && (x.extractLsb' 18 18 != 0 || y.extractLsb' 32 4 != 0) then programFaultAt s k evIllegal
        else
          let seen := core.wmuSeen
          let s := noteResidue s k
          if c.custom then doneCustom s k e c x y else doneStandard s k e c seen)

end Sys2Proof.Machine
end

