-- ==== Sys2Proof/Machine/Health.lean ====
section
/-! DEFINITION. The health report (R487). -/

namespace Sys2Proof.Machine

open Host

/-- DRILL_AGE_S: seconds since the last take of the Crown by either module (R516). -/
def drillAge (s : State) : BitVec 32 := satNat 32 ((s.time.toNat - s.pair.drillFrom.toNat) / 1000000000)

/-- LOGICAL as the report shows it: a cluster under test shows as the spare (R481, R487). -/
def shownLogical (s : State) (j : Nat) : Nat := let v := logicalOf s j; if v = testMark then spareMark else v

/-- The 128 octets of HEALTH_REPORT (R487). -/
def healthOctets (s : State) : Octets :=
  let spare := ((List.range 9).find? (fun j => shownLogical s j == spareMark)).getD 0xFF
  let width (p : Port) : Nat := if p.linkUp then p.width.toNat else 0
  let bypassed := gateNums.foldl (fun n g => if (tget ({} : GateHealth) s.gates.health g).bypassed then n + 2 ^ g else n) 0
  fit 128 (le 1 spare ++ le 1 s.units.spareState ++ le 2 s.warden.retClusters.toNat ++
    (List.range 9).flatMap (fun j => le 1 (shownLogical s j)) ++ le 1 s.warden.retChannels.toNat ++
    le 1 s.pair.lanesOut.toNat ++ zeros 1 ++ le 8 s.warden.retLanes.toNat ++ le 2 s.warden.retHash.toNat ++
    le 1 (width s.portA) ++ le 1 (width s.portB) ++ le 4 bypassed ++ le 8 s.warden.retCells.toNat ++
    le 4 s.units.poisoned.length ++
    (List.range 9).flatMap (fun j => le 1 (min 255 (within24h s (tget [] s.units.mismatches j)))) ++ zeros 3 ++
    le 4 (drillAge s).toNat ++ zeros 4 ++ s.pair.lastTake.octets)

/-- HEALTH_REPORT (0x8081). -/
def svcHealthReport : Svc Octets := do
    capacity 128
    let st ← getS
    pure (healthOctets st)
/-- HEALTH_REPORT (0x8081) on core k. -/
def execHealthReport (k : CoreId) (s : State) : Outcome State Fault Refusal :=
  answer (runService s k.toNat 0x8081 false defaultWait svcHealthReport)

end Sys2Proof.Machine
end

