-- ==== Sys2Proof/Machine/ImageCheck.lean ====
section
/-! DEFINITION. The checks of an image, in the order of R603, and what they find in it (R30 to R43, R134, R251, R312,
R313, R397, R398, R416, R603, R607). -/

namespace Sys2Proof.Machine

open Host

/-- One record of an image (R31). -/
structure Rec where
  /-- Offset of its header. -/
  off : Nat
  type : Nat
  rver : Nat
  inst : Nat
  reserved : Nat
  body : Octets
  /-- Its padding is zero. -/
  padOk : Bool
  deriving DecidableEq, Repr

/-- A refusal: status and IMG_FAULT_OFF (R603). -/
abbrev Refused := Code × Nat

/-- Refuse unless a condition holds. -/
def check (b : Bool) (st : Code) (off : Nat) : Except Refused Unit := if b then .ok () else .error (st, off)

/-- Octets to the next multiple of 8. -/
def padLen (n : Nat) : Nat := (8 - n % 8) % 8

/-- The records from an offset to the end of the image; none where their sum is not the length of the image (R31,
R33). -/
def recordsFrom : Nat → Octets → Nat → Option (List Rec)
  | 0, _, _ => none
  | f + 1, o, off =>
    if o.isEmpty then some []
    else
      let n := u32 o 4
      let size := 16 + n + padLen n
      if o.length < size then none
      else
        let r : Rec := { off := off, type := u16 o 0, rver := u16 o 2, inst := u32 o 8, reserved := u32 o 12,
                         body := slice o 16 n, padOk := zeroAt o (16 + n) (padLen n) }
        (recordsFrom f (o.drop size) (off + size)).map (fun l => r :: l)

/-- Step 3: the header, in field order (R30, R33). -/
def checkHeader (o : Octets) : Except Refused (List Rec) := do
  let bad (b : Bool) (st : Code) := check b st 0
  bad (decide (u32 o 0 = 0x6D493680)) badField
  bad (decide (u16 o 4 = 2)) badVersion
  bad (decide (u16 o 6 = 0x40)) badField
  let l ← (match recordsFrom (o.length + 1) (o.drop 64) 64 with
    | some l => if u32 o 8 = o.length then .ok l else .error (badLength, 0)
    | none => .error (badLength, 0))
  bad (decide (1 ≤ u16 o 12 ∧ u16 o 12 ≤ 300)) badField
  bad (decide (u16 o 12 = l.length)) badLength
  bad (decide (u16 o 14 = 0x3680)) badField
  bad (zeroAt o 20 4) badField
  pure l

/-- The record types of R32, and those required. -/
def recordTypes : List Nat := [1, 2, 3, 4, 5, 6, 7, 8, 9, 10, 11, 0xFF]
def requiredTypes : List Nat := [1, 2, 4, 5, 9, 10, 0xFF]

/-- Step 4 for one record: its header, and its place after the one before (R31 to R33). -/
def checkRecord (prev : Option Rec) (r : Rec) : Except Refused Unit := do
  check (recordTypes.contains r.type) badField r.off
  check (decide (r.rver = 1)) badVersion r.off
  check (decide (r.reserved = 0) && decide (r.inst ≤ if r.type = 11 then 255 else 0)) badField r.off
  check (match prev with
    | none => true
    | some p => decide (p.type < r.type) || (decide (p.type = 11 ∧ r.type = 11) && decide (p.inst < r.inst))) badField r.off

/-- Step 4 over all records. -/
def checkRecords : Option Rec → List Rec → Except Refused Unit
  | _, [] => .ok ()
  | p, r :: t => do
    checkRecord p r
    checkRecords (some r) t

/-- The body of a record type. -/
def bodyOf (l : List Rec) (type : Nat) : Option Octets := (l.find? (fun r => r.type == type)).map (·.body)
def recOff (l : List Rec) (type : Nat) : Nat := ((l.find? (fun r => r.type == type)).map (·.off)).getD 0

/-! ### Contents of the records (step 5) -/

/-- General clusters of a CLUSTER_ROLES body, and its SPARE. -/
def generalMask (o : Octets) : Nat := (List.range 8).foldl (fun m k => if u8 o (4 * k) = 0 then m + 2 ^ k else m) 0
def rolesSpare (o : Octets) : Bool := u8 o 0x20 == 1

/-- CLUSTER_ROLES (R36). -/
def rolesOk (o : Octets) : Bool :=
  (List.range 8).all (fun k => decide (u8 o (4 * k) ≤ 1) && decide (2 ≤ popCount 8 (u8 o (4 * k + 1))) && zeroAt o (4 * k + 2) 2) &&
  decide (u8 o 0x20 ≤ 1) && zeroAt o 0x21 3 && decide (generalMask o ≠ 0)

/-- PD_EN without a POWER_PLAN record (R37). -/
def defaultPdEn (spare : Bool) : Nat := 0x01FBFFFF + (if spare then 0x40000 else 0)

/-- POWER_PLAN (R37). -/
def powerOk (o : Octets) (spare : Bool) : Bool :=
  let p := u32 o 0
  (List.range 32).all (fun n =>
    if n = 6 ∨ n = 7 ∨ n = 8 then true else if n = 18 then p.testBit 18 == spare else p.testBit n == decide (n ≤ 24)) &&
  (p.testBit 6 || p.testBit 7) && zeroAt o 4 4

/-- MEMORY_PLAN (R38). -/
def memoryOk (o : Octets) : Bool :=
  decide (12 ≤ u8 o 0 ∧ u8 o 0 ≤ 16) && zeroAt o 1 7 &&
  (List.range 4).all (fun i =>
    let a := u8 o (8 + 2 * i)
    let b := u8 o (9 + 2 * i)
    decide (a < 8 ∧ b < 8) && decide (a / 4 ≠ b / 4))

/-- TENANT_POOL. -/
def poolOk (o : Octets) : Bool :=
  decide (u16 o 0 ≤ 256 ∧ u16 o 2 ≤ 256 ∧ u16 o 4 ≤ 4032 ∧ u32 o 8 ≤ 4194304 ∧ u32 o 12 ≤ 65536) && zeroAt o 6 2

/-- SCHED_TABLES (R134). -/
def schedOk (o : Octets) (general : Nat) : Bool :=
  let within (off lo hi : Nat) : Bool := decide (lo ≤ u16 o off ∧ u16 o off ≤ hi)
  within 0 1 1000 && within 2 256 1024 && within 4 1 512 && within 6 256 4096 && within 8 16 4096 && zeroAt o 0x0A 6 &&
  (List.range 17).all (fun g => within (0x10 + 2 * g) 1 65535) && zeroAt o 0x32 14 &&
  (List.range 514).all (fun s => decide (u8 o (0x40 + s) &&& general ≠ 0)) && zeroAt o 0x242 6

/-- Is an entry of BASE_RULES at a gate? -/
def baseNames (o : Octets) (i g : Nat) : Bool := u8 o (8 + 16 * i) == g || (u8 o (8 + 16 * i) == 0xFF && decide (g ≤ 7))

/-- BASE_RULES but its signature (R416). -/
def baseRulesOk (o : Octets) : Bool :=
  let n := u16 o 0
  zeroAt o 2 6 &&
  (List.range n).all (fun i =>
    (decide (u8 o (8 + 16 * i) ≤ 28) || u8 o (8 + 16 * i) == 0xFF) && decide (u8 o (9 + 16 * i) ≤ 7) && zeroAt o (10 + 16 * i) 6) &&
  gateNums.all (fun g =>
    let l := baseBody o g
    (distinct (l.map (·.1))).length == l.length && armCheck (l.map (·.2)) == 0 &&
    (decide (g > 7) || l.all (fun e =>
      let d := e.2.toNat
      let lo := d % 2 ^ 32 * 256
      let size := d / 2 ^ 32 % 64
      decide (size = 0) || decide (lo + 2 ^ size ≤ 0x78000000) || decide (0x7C800000 ≤ lo))))

/-- OFFICERS (R607). -/
def officersOk (o : Octets) : Bool :=
  let n := u8 o 0
  decide (2 ≤ n ∧ n ≤ 16) && decide (2 ≤ u8 o 1 ∧ u8 o 1 ≤ n) && zeroAt o 2 6 && o.length == 0x38 + 104 * n &&
  (List.range n).all (fun i =>
    let e := slice o (0x38 + 104 * i) 104
    decide (u8 e 0 = i) && decide (u8 e 1 < 32) && zeroAt e 2 6 &&
    (match decodePoint p384 ([4] ++ slice e 8 96) with | .ok _ => true | .error _ => false))

/-- One POLICY entry (R312, R313). -/
def policyEntryOk (e : Octets) : Bool :=
  let low := if u8 e 4 = 0 then 4 else u8 e 4
  decide (u8 e 0 ≤ 63) && zeroAt e 1 1 && (List.range 8).all (fun i => decide (u16 e 2 / 4 ^ i % 4 ≠ 3)) &&
  decide (u8 e 4 = 0 ∨ (4 ≤ u8 e 4 ∧ u8 e 4 ≤ 12)) && decide (u8 e 5 = 0 ∨ (low ≤ u8 e 5 ∧ u8 e 5 ≤ 12)) &&
  decide (u8 e 6 = 0 ∨ (4 ≤ u8 e 6 ∧ u8 e 6 ≤ 8)) && decide (u8 e 7 ≤ 15 ∨ u8 e 7 = 0xFF) &&
  decide (u16 e 8 ≤ 4095) && decide (u16 e 8 ≤ u16 e 10 ∧ u16 e 10 ≤ 4095) && zeroAt e 12 4 &&
  (List.range 4).all (fun t => (nibbles (slice e (0x10 + 8 * t) 8)).all (fun x => decide (x ≤ 9))) && zeroAt e 0x30 16

/-- Numbers strictly rising. -/
def rising : List Nat → Bool
  | a :: b :: t => decide (a < b) && rising (b :: t)
  | _ => true

/-- POLICY (R312, R313). -/
def policyOk (o : Octets) : Bool :=
  let l := (List.range (u8 o 0)).map (fun i => slice o (8 + 64 * i) 64)
  zeroAt o 1 7 && l.all policyEntryOk && rising (l.map (fun e => u8 e 0)) && decide (l.map (fun e => u8 e 0) |>.contains 0)

/-- A CUSTOM_SERVICE body but its length: fields, then words (R397, R398). -/
def customFieldsOk (o : Octets) : Bool :=
  decide (u8 o 0 < 4) && zeroAt o 1 3 && decide (1 ≤ u32 o 4 ∧ u32 o 4 ≤ 2 ^ 26) && decide (u32 o 8 = 0xC1360B1E) &&
  decide (u16 o 12 = 1) && zeroAt o 14 2 && zeroAt o 0x20 8 && decide (1 ≤ u32 o 16) &&
  decide (u32 o 24 < 2 * u32 o 16) && decide (u32 o 28 = 0xFFFFFFFF ∨ u32 o 28 < 2 * u32 o 16)

/-- Its words have bits [63:36] zero. -/
def customWordsOk (o : Octets) : Bool :=
  (List.range (u32 o 16 + u32 o 20)).all (fun i => decide (u64 o (0x28 + 8 * i) < 2 ^ 36))

/-- QUORUM_SIGNATURES but its signatures. -/
def signaturesOk (o : Octets) : Bool :=
  zeroAt o 1 7 && (List.range (u8 o 0)).all (fun i => decide (u8 o (8 + 104 * i) ≤ 1) && zeroAt o (10 + 104 * i) 6)

/-- BODY_LEN that a record's own fields give; a body too short to hold them has none. -/
def bodyLenOk (type : Nat) (o : Octets) : Bool :=
  let n := o.length
  match type with
  | 1 => decide (n = 16 + u32 o 8 + 96)
  | 2 => n == 36
  | 3 => n == 8
  | 4 => n == 16
  | 5 => n == 16
  | 6 => n == 584
  | 7 => decide (n = 8 + 16 * u16 o 0 + 96)
  | 8 => decide (n = 8 + 512 * u8 o 0)
  | 10 => decide (n = 8 + 64 * u8 o 0)
  | 0xFF => decide (n = 8 + 104 * u8 o 0)
  | _ => true

/-- The count that a record of entries carries. -/
def countOk (type : Nat) (o : Octets) : Bool :=
  match type with
  | 7 => decide (1 ≤ u16 o 0 ∧ u16 o 0 ≤ 232)
  | 8 => decide (1 ≤ u8 o 0 ∧ u8 o 0 ≤ 10)
  | 10 => decide (1 ≤ u8 o 0 ∧ u8 o 0 ≤ 64)
  | 0xFF => decide (1 ≤ u8 o 0 ∧ u8 o 0 ≤ 32)
  | _ => true

/-- The first failing entry of a CURVES body, with the bases drawn for its checks (R251). -/
def curvesStatus (o bases : Octets) : Code :=
  let n := u8 o 0
  let entry (i : Nat) : Octets := slice o (8 + 512 * i) 512
  if !(zeroAt o 1 7 && rising ((List.range n).map (fun i => u8 (entry i) 0))) then badField
  else ((List.range n).map (fun i => curveStatus (entry i) (slice bases (9216 * i) 9216))).find? (· != stOk) |>.getD stOk

/-- Status of a record's contents; `words` and `consts` are the sums over the custom services up to this record.
A BODY_LEN that disagrees has a status only for CUSTOM_SERVICE and OFFICERS (R398, R607; log entry 42). -/
def recordStatus (l : List Rec) (r : Rec) (words consts : Nat) (bases : Octets) : Code :=
  let o := r.body
  let roles := (bodyOf l 2).getD []
  let ok (b : Bool) : Code := if b then stOk else badField
  if !countOk r.type o || !r.padOk then badField
  else if !bodyLenOk r.type o then Config.recordLength
  else match r.type with
  | 1 => ok (zeroAt o 7 1 && zeroAt o 12 4)
  | 2 => ok (rolesOk o)
  | 3 => ok (powerOk o (rolesSpare roles))
  | 4 => ok (memoryOk o)
  | 5 => ok (poolOk o)
  | 6 => ok (schedOk o (generalMask roles))
  | 7 => if !verifyP384 Config.firmwareKey (sha 48 (o.take (o.length - 96))) (o.drop (o.length - 96)) then authFailed else ok (baseRulesOk o)
  | 8 => curvesStatus o bases
  | 9 => ok (officersOk o)
  | 10 => ok (policyOk o)
  | 11 =>
    if !customFieldsOk o then badField
    else if o.length ≠ 0x28 + 8 * (u32 o 16 + u32 o 20) ∨ words > 12288 ∨ consts > 131072 then badLength
    else ok (customWordsOk o)
  | _ => ok (signaturesOk o)

/-- Step 5, record by record in image order. -/
def checkContents (l : List Rec) (bases : Octets) : List Rec → Nat → Nat → Except Refused Unit
  | [], _, _ => .ok ()
  | r :: t, w, c =>
    let w := if r.type = 11 then w + u32 r.body 16 else w
    let c := if r.type = 11 then c + u32 r.body 20 else c
    let st := recordStatus l r w c bases
    if st = stOk then checkContents l bases t w c else .error (st, r.off)

/-! ### Signatures, floors and the comparison with the applied image (steps 6 to 10) -/

/-- Officers of a set, by their OFFICERS body, that have a valid entry (R41). -/
def validSigners (sigs digest body : Octets) (set : Nat) : List Nat :=
  let n := u8 body 0
  (List.range n).filter (fun i => (List.range (u8 sigs 0)).any (fun j =>
    let e := slice sigs (8 + 104 * j) 104
    decide (u8 e 0 = set ∧ u8 e 1 = i) && verifyP384 (officerKey body i) digest (slice e 8 96)))

/-- The OFFICERS body of the recorded set, where the module can know it: that of the applied image, or of the image
itself where its digest is the recorded one (R40; log entry 43). -/
def recordedBody (s : State) (own : Octets) (digest : Octets) : Option Octets :=
  if officerDigest own = digest then some own
  else if s.boot.applied && officerDigest s.boot.officers == digest then some s.boot.officers
  else none

/-- Step 7: the customer signatures (R41, R42). -/
def quorumOk (s : State) (image : Octets) (l : List Rec) : Bool :=
  let sigs := (bodyOf l 0xFF).getD []
  let own := (bodyOf l 9).getD []
  let digest := sha 48 (image.take (recOff l 0xFF))
  let enough (body : Octets) (set m : Nat) : Bool := decide (m ≤ (validSigners sigs digest body set).length)
  match s.warden.officers with
  | none => enough own 1 (u8 own 1)
  | some (dg, m, _) =>
    (match recordedBody s own dg with | some b => enough b 0 m | none => false) &&
    (officerDigest own == dg || (enough own 1 (u8 own 1) && slice own 8 48 == dg))

/-- Step 10: no limit of TENANT_POOL falls below what existing slots hold (R51). -/
def poolHolds (s : State) (o : Octets) (pdEn : Nat) : Bool :=
  let f := s.slots.table.map (·.2.f)
  let a := if pdEn.testBit 6 then u16 o 0 else 0
  let b := if pdEn.testBit 7 then u16 o 2 else 0
  s.slots.table.all (fun x => if x.1 < 256 then decide (x.1 < a) else decide (x.1 - 256 < b)) &&
  f.all (fun g => decide (g.phBase + g.phCount ≤ 64 + u16 o 4) && decide (g.ctrBase + g.ctrCount ≤ u32 o 12)) &&
  decide ((f.map (·.cacheShare)).sum ≤ u32 o 8)

/-- PD_EN that the records give. -/
def recordsPdEn (l : List Rec) : Nat :=
  match bodyOf l 3 with
  | some o => u32 o 0
  | none => defaultPdEn (rolesSpare ((bodyOf l 2).getD []))

/-- Every check of an image, in R603's order; `bases` are drawn for the curve checks, and `reapply` says that an
IMAGE_REAPPLY is in progress. -/
def checkImage (s : State) (image bases : Octets) (reapply : Bool) : Except Refused (List Rec) := do
  check (match s.boot.expect with | some (_, d) => sha 48 image == d | none => true) authFailed 0
  let l ← checkHeader image
  checkRecords none l
  check (requiredTypes.all (fun t => (bodyOf l t).isSome)) badField 0
  checkContents l bases l 0 0
  let fw := (bodyOf l 1).getD []
  check (verifyP384 Config.firmwareKey (sha 48 (fw.take (fw.length - 96))) (fw.drop (fw.length - 96))) authFailed (recOff l 1)
  check (quorumOk s image l) quorumRequired (recOff l 0xFF)
  check (decide (s.warden.secFloor.toNat ≤ u16 fw 4)) policyDenied (recOff l 1)
  check (decide (s.warden.imageSeq.toNat ≤ u32 image 0x10)) policyDenied 0
  check (!reapply || poolHolds s ((bodyOf l 5).getD []) (recordsPdEn l)) policyDenied (recOff l 5)
  pure l

/-- Entries of a CURVES record of an image whose header can be read, for the draw of their bases. -/
def curveCount (image : Octets) : Nat :=
  match checkHeader image with
  | .ok l => ((bodyOf l 8).map (fun o => min 10 (u8 o 0))).getD 0
  | .error _ => 0

end Sys2Proof.Machine
end

