-- ==== Sys2Proof/Machine/Mirror.lean ====
section
/-! DEFINITION. The mirror link and the relay: session, messages, bulk copy, ROLE_SWAP, detachment (R303, R469,
R488 to R493, R496 to R498, R501 to R503, R508 to R511, R515). -/

namespace Sys2Proof.Machine

open Host

/-! ### The relay path (R492, R508) -/

/-- This module has the lower ID_SERIAL. -/
def isLower (s : State) (x : Session) : Bool := decide (s.warden.serial.toNat < x.peer.serial.toNat)

/-- Key and IV of a relay message from the lower serial, or from the higher. -/
def relayKey (x : Session) (lower : Bool) : Octets := if lower then slice x.key 0 32 else slice x.key 32 32
def relayIv (lower : Bool) (mseq : Nat) : Octets := le 4 (if lower then 3 else 4) ++ le 8 mseq

/-- Header of a message (R492). -/
def msgHeader (s : State) (cls : BitVec 8) (len mseq : Nat) : Octets :=
  [cls, s.pair.mirrorVer] ++ le 2 len ++ zeros 4 ++ le 8 mseq

/-- Place a message in RELAY_OUT, with the next RELAY_OUT_SEQ, and raise the pair vector (R508). -/
def sendRelay (s : State) (cls : BitVec 8) (payload : Octets) : State :=
  match s.pair.session with
  | some x =>
    if s.pair.linkUp || !s.pair.relayEn || !x.confirmed then s
    else
      let n := s.pair.relayTx + 1
      let low := isLower s x
      let h := msgHeader s cls payload.length n
      let (ct, tag) := gcmEnc (relayKey x low) (gcmJ0 (relayIv low n)) h (fit 32 payload)
      let o := fit 64 (h ++ fit 32 ct ++ fit 16 tag)
      pairVector (emit { s with pair := { s.pair with relayTx := n, relayOut := o, relayOutSeq := s.pair.relayOutSeq + 1 } }
        (.mirror true cls o))
  | none => s

/-- Send on the link while it is live, else by relay. -/
def sendEither (s : State) (cls : BitVec 8) (payload : Octets) : State :=
  if linkLive s then sendLink s cls payload else sendRelay s cls payload

/-- Act on a message of a path if its tag verifies and its MSEQ is one above the last accepted (R493, R509). -/
def accept (s : State) (relay : Bool) (h : MsgHead) (act : State → State) : State :=
  let p := s.pair
  let ready := (p.session.map (·.confirmed)).getD false && (relay || p.linkUp)
  if !ready || !h.tagOk || h.mseq.toNat ≠ (if relay then p.relayRx else p.mseqRx) + 1 then s
  else act { s with pair := if relay then { p with relayRx := p.relayRx + 1, relayMsgs := p.relayMsgs.inc }
                            else { p with mseqRx := p.mseqRx + 1 } }

/-- Role standby or joining. -/
def follows (s : State) : Bool := s.pair.role == .standby || s.pair.role == .joining
/-- The module is active with a joined partner. -/
def leads (s : State) : Bool := s.boot.mode == .service && s.pair.joined && s.pair.role == .active

/-! ### Link layer (R489, R490) -/

/-- IDLE_FRAME. -/
def execIdleFrame (s : State) : Outcome State Fault Refusal :=
  answer (if s.pair.linkUp then emit s (.frame 0 true) else s)

/-- The link goes down; the session stays for the relay (R489, R508). -/
def linkDown (s : State) : State := { s with pair := { s.pair with linkUp := false, frames := [] } }

/-- FRAME_REPLAY: a frame is sent again; a frame replayed three times takes the link down. -/
def execFrameReplay (seq : Nat) (s : State) : Outcome State Fault Refusal :=
  answer (
    if !s.pair.linkUp then s
    else
      let n := tget 0 s.pair.frames seq + 1
      let s := emit { s with pair := { s.pair with replays := s.pair.replays.inc, frames := tset 0 s.pair.frames seq n } } (.frame seq false)
      if n ≥ 3 then linkDown s else s)

/-- MIRROR_LINK_DOWN. -/
def execMirrorLinkDown (s : State) : Outcome State Fault Refusal := answer (linkDown s)

/-- MIRROR_LINK_UP: the domain is on and a lane is left; a session starts with HELLO (R489, R491). -/
def execMirrorLinkUp (s : State) : Outcome State Fault Refusal :=
  answer (
    if s.pair.linkUp || !pairable s || !s.clocks.pd.getLsbD 8 || s.pair.lanesOut = 15 then s
    else
      let p := s.pair
      let old := p.session.map (fun x => { x with confirmed := false })
      sendHello { s with pair := { p with linkUp := true, frames := [], session := old } })

/-- MIRROR_LANE_ERROR: an uncorrectable codeword of a lane, or a loss of its lock; more than 16 codewords within
1 s, or three losses within 24 h, retire the lane (R490). -/
def execMirrorLaneError (lane : BitVec 2) (lock : Bool) (s : State) : Outcome State Fault Refusal :=
  answer (
    let i := lane.toNat
    if s.pair.lanesOut.getLsbD i || !pairable s then s
    else
      let now := s.time.toNat
      let span := if lock then 86400000000000 else 1000000000
      let old := tget [] (if lock then s.pair.laneLosses else s.pair.laneErrors) i
      let l := now :: old.filter (fun t => decide (now - t < span))
      let s := if lock then { s with pair := { s.pair with laneLosses := tset [] s.pair.laneLosses i l } }
               else { s with pair := { s.pair with laneErrors := tset [] s.pair.laneErrors i l } }
      if (lock && decide (l.length ≥ 3)) || (!lock && decide (l.length > 16)) then
        let s := { s with pair := { s.pair with lanesOut := s.pair.lanesOut ||| BitVec.ofNat 4 (2 ^ i) } }
        let s := journalRetire s .mirrorLane i
        if s.pair.lanesOut = 15 then linkDown s else s
      else s)

/-! ### Session (R491, R495, R507) -/

/-- The lowest domain-root index that both modules hold with equal check values. -/
def commonRoot (s : State) (h : HelloMsg) : Option Nat :=
  argMin id (((ownChecks s).filter (fun x => lookup h.checks x.1 == some x.2)).map (·.1))

/-- The 64 octets of session key: one-step KDF over Z (R491). -/
def sessionKey (s : State) (h : HelloMsg) (z : Octets) (d : Nat) : Octets :=
  let low := decide (s.warden.serial.toNat < h.serial.toNat)
  let ns := if low then s.pair.helloNonce ++ fit 32 h.nonce else fit 32 h.nonce ++ s.pair.helloNonce
  let own := le 8 s.warden.serial.toNat
  let peer := le 8 h.serial.toNat
  let root := ((lookup s.warden.roots d).map (·.root)).getD []
  let b := kdf root (ascii "PRK3680-PAIR" ++ ns) 256
  oneStep z (ascii "PRK-MIRROR" ++ (if low then own ++ peer else peer ++ own) ++ b) 64

/-- No session; a flag says why, if one does. -/
def endSession (s : State) (ver domain : Bool) : State :=
  { s with pair := { s.pair with
    session := none, mirrorVer := 0, helloPriv := [], verRefused := s.pair.verRefused || ver,
    domainRefused := s.pair.domainRefused || domain } }

/-- A session with the partner's HELLO and the derived key; every MSEQ starts again (R491, R492). -/
def startSession (s : State) (h : HelloMsg) (key : Octets) : State :=
  let v : BitVec 8 := BitVec.ofNat 8 (min s.boot.mirrorMax.toNat h.mirrorMax.toNat)
  emit { s with pair := { s.pair with
    session := some { peer := h, key := key, confirmed := false }, mirrorVer := v, helloPriv := [], helloNonce := [],
    mseqTx := 0, mseqRx := 0, relayTx := 0, relayRx := 0 } } (.mirror false 0x02 (ascii "PRK-MIRROR-OK"))

/-- HELLO: answered by a HELLO where this module has sent none; the session key is derived (R491, R495, R507). -/
def execHello (h : HelloMsg) (s : State) : Outcome State Fault Refusal :=
  answer (
    if !s.pair.linkUp || !pairable s then s
    else if s.boot.mirrorMax = 0 ∨ h.mirrorMax = 0 then endSession s true false
    else
      let s := if s.pair.helloPriv.isEmpty then sendHello s else s
      if s.pair.helloPriv.isEmpty then s
      else if !h.certOk then endSession s false false
      else match decodePoint p384 (fit 97 h.point) with
        | .error _ => endSession s false false
        | .ok q =>
          match commonRoot s h with
          | none => endSession s false true
          | some d =>
            match ecMul p384 (beNat s.pair.helloPriv) q with
            | none => endSession s false false
            | some (x, _) => startSession s h (sessionKey s h (be 48 x) d))

/-! ### The bulk copy (R496) -/

/-- A list in groups of n. -/
def groupsOf {α : Type} (n : Nat) : Nat → List α → List (List α)
  | 0, _ => []
  | _, [] => []
  | f + 1, l => l.take n :: groupsOf n f (l.drop n)

def groups {α : Type} (n : Nat) (l : List α) : List (List α) := groupsOf n l.length l

/-- A replay record as the copy carries it. -/
def Replay.octets (r : Replay) : Octets :=
  le 2 r.slot ++ le 2 r.ph ++ le 8 r.cmdId.toNat ++ le 2 r.opcode.toNat ++ le 2 r.status.toNat ++ r.pm.octets ++
  le 4 r.output.length ++ r.output

/-- A slot-table entry as the copy carries it. -/
def slotOctets (x : Nat × Slot) : Octets :=
  (Effect.slotCreate x.1 x.2.f).octets.drop 1 ++
    le 1 (match x.2.state with | .active => 0 | .quiescing => 1 | .quiesced => 2 | .destroying => 3)

/-- The chunks of the copy, each of at most 16 KiB, in R496's order: a kind octet, then the entries.  The rule
table follows from the slot table (log entry 40). -/
def bulkChunks (s : State) : List Octets :=
  let j := s.journal
  let labels := s.keys.cache.filter (fun c => c.key.source == 0)
  (groups 700 s.keys.counters).map (fun g => le 1 0 ++ le 4 s.keys.nextGen ++ g.flatMap (fun x => le 4 x.1 ++ ctrOctets (some x.2))) ++
  (groups 800 s.keys.aliases).map (fun g => le 1 1 ++ g.flatMap (fun x => le 2 x.1 ++ le 1 x.2.length ++ x.2.flatten)) ++
  (groups 400 s.slots.table).map (fun g => le 1 2 ++ g.flatMap slotOctets) ++
  (groups 3 s.so.replays).map (fun g => le 1 3 ++ g.flatMap Replay.octets) ++
  [le 1 4 ++ le 4 j.seg.toNat ++ le 8 j.next.toNat ++ fit 48 j.chain ++ le 8 j.head.toNat] ++
  (groups 200 labels).map (fun g => le 1 5 ++ g.flatMap (fun c => le 2 c.slot ++ fit 64 c.body))

/-- The active module begins the copy to a partner that joins; mirroring is live from now on (R496). -/
def startCopy (s : State) : State :=
  let s := { s with pair := { s.pair with role := .active, joined := true, mirroring := true, copying := true,
                                          detaching := false, unsent := [] } }
  (bulkChunks s).foldl (fun s o => sendLink s 0x60 o) s

/-- What waited for the link is sent again: COMMITs in their order, then the other messages (R510). -/
def resend (s : State) : State :=
  let l := (s.so.cmds.filter (fun x => x.2.stage == .commitWait && x.2.commitSeq.isSome)).mergeSort
    (fun x y => decide (x.2.commitSeq.getD 0 ≤ y.2.commitSeq.getD 0))
  let s := l.foldl (fun s x => sendCommit s x.1 x.2) s
  let w := s.pair.unsent
  w.foldl (fun s m => sendLink s m.1 m.2) { s with pair := { s.pair with unsent := [] } }

/-- The session is confirmed: the active module goes on with its standby, or begins the copy to a module that
joins; a standby whose partner has left SERVICE, or that is detached, has no partner (R494, R496, R510, R511). -/
def sessionReady (s : State) (h : HelloMsg) : State :=
  if s.boot.mode = .service then
    if !s.pair.crownOut then s
    else if h.mode = 4 ∧ h.role = 2 ∧ s.pair.mirroring then resend s
    else
      let s := if s.pair.mirroring then runAlone s else s
      if h.mode = 4 ∧ h.role = 3 ∧ officersAgree s h ∧ rootsCover (ownChecks s) h.checks then startCopy s else s
  else if s.boot.mode = .standby ∧ h.mode ≠ 3 then { s with pair := { s.pair with joined := false, unsent := [] } }
  else resend s

/-- KEY_CONFIRM (R491). -/
def execKeyConfirm (ok : Bool) (s : State) : Outcome State Fault Refusal :=
  answer (
    match s.pair.session with
    | none => s
    | some x =>
      if !s.pair.linkUp || x.confirmed then s
      else if !ok then endSession s false true
      else sessionReady { s with pair := { s.pair with session := some { x with confirmed := true } } } x.peer)

/-- The greatest Postmark time received from the partner (R460). -/
def seenTime (s : State) (t : BitVec 64) : State :=
  { s with tb := { s.tb with tm := if t.toNat > s.tb.tm.toNat then t else s.tb.tm } }

/-- An entry of the active module enters the standby's ring: segment, JSEQ and chain go on from it (R469). -/
def receiveEntry (s : State) (o : Octets) : State :=
  let e := JEntry.ofOctets o
  let j := s.journal
  let old := if j.ring.length ≥ journalCap then j.ring.drop 1 else j.ring
  seenTime { s with journal := { j with ring := old ++ [e], next := e.jseq + 1, seg := e.seg, chain := e.chain } } e.pm.time

/-- STATE of a mirrored slot. -/
def slotStateOfCode (c : BitVec 2) : SlotState :=
  if c = 0 then .active else if c = 1 then .quiescing else if c = 2 then .quiesced else .destroying

/-- A slot-table entry of the active module: one already held changes its STATE, a new one takes its pigeonholes
and roots and has its DRBG instance instantiated (R441, R496, R498; log entry 40). -/
def mirrorSlot (s : State) (n : Nat) (f : SlotFields) (c : BitVec 2) : State :=
  let st := slotStateOfCode c
  match lookup s.slots.table n with
  | some x =>
    if x.f = f then s.setSlot n { x with state := st }
    else holdRoots (s.setSlot n { f := f, state := st }) n
  | none =>
    let s := holdRoots ((resetPhs (zeroData s f) f).setSlot n { f := f, state := st }) n
    if canInstantiate s then instantiate s (24 + n) (tenantOf s n).1 else s

/-- One table write of a mirrored commit (R498). -/
def mirrorWrite (s : State) (w : MirrorWrite) : State :=
  match w with
  | .ctrUse i =>
    match lookup s.keys.counters i with
    | some x =>
      let y := { x with count := x.count + 1 }
      { s with keys := { s.keys with counters := insertAt s.keys.counters i { y with exhausted := y.count == y.limit } } }
    | none => s
  | .ctrAlloc i limit gen =>
    { s with keys := { s.keys with counters := insertAt s.keys.counters i { limit := limit, gen := gen }, nextGen := gen.toNat + 1 } }
  | .slot n f st => mirrorSlot s n f st
  | .slotFree n => releaseSlot s n

/-- The replay record that a message carries. -/
def recordOf (m : CommitMsg) : Replay :=
  { slot := m.slot, ph := m.ph, cmdId := m.cmdId, opcode := m.opcode, status := m.status,
    pm := (JEntry.ofOctets m.entry).pm, output := m.output, franked := m.franked }

/-- COMMIT: the replay record, the table writes and the journal entry are written, and COMMIT_ACK answers (R498). -/
def execCommitMsg (h : MsgHead) (m : CommitMsg) (s : State) : Outcome State Fault Refusal :=
  answer (accept s false h (fun s =>
    if !follows s then s
    else
      let s := m.writes.foldl mirrorWrite (addReplay s (recordOf m))
      sendLink (receiveEntry s m.entry) 0x21 (le 8 h.mseq.toNat)))

/-- COMMIT_ACK: the active module commits locally and releases the completion (R498). -/
def execCommitAck (h : MsgHead) (seq : Nat) (s : State) : Outcome State Fault Refusal :=
  answer (accept s false h (fun s =>
    match s.so.cmds.find? (fun x => x.2.stage == .commitWait && x.2.commitSeq == some seq) with
    | some x => if seq = 0 then s else commitNow s x.1 x.2
    | none => s))

/-- JOURNAL: the standby writes the entries and HEAD (R469). -/
def execJournalMsg (h : MsgHead) (entries : List Octets) (head : BitVec 64) (s : State) : Outcome State Fault Refusal :=
  answer (accept s false h (fun s =>
    if !follows s then s
    else
      let s := entries.foldl receiveEntry s
      { s with journal := { s.journal with head := head } }))

/-- STANDBY_EVENT: the active module journals it with ORIGIN 1 and the standby's Postmark (R469). -/
def execStandbyEvent (h : MsgHead) (entry : Octets) (s : State) : Outcome State Fault Refusal :=
  answer (accept s false h (fun s =>
    if s.boot.mode ≠ .service then s
    else
      let e := JEntry.ofOctets entry
      journal (seenTime s e.pm.time) { e with origin := 1, sig := [], frankId := [] }))

/-- CACHE_LIST_TIMER: the active module sends the label entries of its cache, most recently used first (R303). -/
def execCacheListTimer (s : State) : Outcome State Fault Refusal :=
  answer (
    if !leads s || !linkLive s then s
    else
      let labels := s.keys.cache.filter (fun c => c.key.source == 0)
      (groups 240 labels).foldl (fun s g => sendLink s 0x40 (g.flatMap (fun c => le 2 c.slot ++ fit 64 c.body))) s)

/-- CACHE_LIST (R303). -/
def execCacheList (h : MsgHead) (labels : List (Nat × Octets)) (s : State) : Outcome State Fault Refusal :=
  answer (accept s false h (fun s =>
    if follows s then { s with keys := { s.keys with peerLabels := labels } } else s))

/-- TIME_SYNC: the active module answers; the standby makes the exchange and slews by the skew it found (R459,
R493). -/
def execTimeSync (h : MsgHead) (skew : BitVec 64) (s : State) : Outcome State Fault Refusal :=
  answer (accept s false h (fun s =>
    if s.boot.mode = .service ∨ follows s then
      let s := sendLink s 0x50 (le 8 s.time.toNat ++ le 8 s.time.toNat)
      if follows s then { s with tb := { s.tb with slewing := decide (skew ≠ 0), slewLeft := skew } } else s
    else s))

/-- A chunk of the copy enters the standby's tables (R496). -/
def applyChunk (s : State) (c : BulkChunk) : State :=
  match c with
  | .counters l next =>
    { s with keys := { s.keys with nextGen := next, counters := l.foldl (fun t x =>
        insertAt t x.index { count := x.count, limit := x.limit, gen := x.gen, epochSel := x.epochSel, exhausted := x.exhausted }) s.keys.counters } }
  | .aliases l => { s with keys := { s.keys with aliases := l.foldl (fun t x => insertAt t x.1 x.2) s.keys.aliases } }
  | .slots l => l.foldl (fun s x => mirrorSlot s x.1 x.2.1 x.2.2) s
  | .replays l => l.foldl (fun s m => addReplay s (recordOf m)) s
  | .journal seg next chain head => { s with journal := { s.journal with seg := seg, next := next, chain := chain, head := head } }
  | .labels l => { s with keys := { s.keys with peerLabels := s.keys.peerLabels ++ l } }

/-- BULK: the chunk is applied and acknowledged; after the last the module is a synchronised standby (R496,
R497). -/
def execBulk (h : MsgHead) (chunk : BulkChunk) (last : Bool) (s : State) : Outcome State Fault Refusal :=
  answer (accept s false h (fun s =>
    if s.pair.role ≠ .joining then s
    else
      let s := sendLink (applyChunk s chunk) 0x61 (le 8 h.mseq.toNat)
      if last then pairVector { s with pair := { s.pair with role := .standby } } else s))

/-- BULK_ACK: the last one ends the copy (R497). -/
def execBulkAck (h : MsgHead) (last : Bool) (s : State) : Outcome State Fault Refusal :=
  answer (accept s false h (fun s =>
    if last && s.pair.copying then { s with pair := { s.pair with copying := false } } else s))

/-! ### Renewals (R501 to R504) -/

/-- LEASE_RENEW_TIMER: a lone holder renews its own timer; a paired one sends a renewal, by relay while the link is
down (R501, R502, R508). -/
def execLeaseRenewTimer (s : State) : Outcome State Fault Refusal :=
  answer (
    let p := s.pair
    let l := p.leaseUs.toNat
    let inTime := (p.expiry.map (fun x => decide (s.tb.timeLocal.toNat < x.toNat))).getD false
    if !(p.crownOut && (s.boot.mode == .service || s.boot.mode == .maintenance) && p.taking.isNone) then s
    else if !p.joined then
      if inTime then
        { s with pair := { p with leaseL := l, holding := false, expiry := some (s.tb.timeLocal + BitVec.ofNat 64 (1000 * l)) } }
      else s
    else
      let n := p.renewal + 1
      sendEither { s with pair := { p with renewal := n, renewals := p.renewals ++ [(n, s.tb.timeLocal, l)] } } 0x10
        (le 8 s.time.toNat ++ le 4 l ++ le 4 n.toNat))

/-- A renewal of the active module: accepted within 50 µs of its TIME and before the take window opens; E_s and the
answer follow (R503, R511, R518). -/
def takeRenewal (s : State) (sent : BitVec 64) (l n : Nat) : State :=
  if !follows s || s.pair.window || (s.time - sent).toInt > 50000 then s
  else
    sendEither { s with pair := { s.pair with leaseL := l, expiry := some (s.tb.timeLocal + BitVec.ofNat 64 (1000 * l)) } } 0x11 (le 4 n)

/-- LEASE_RENEW. -/
def execLeaseRenew (h : MsgHead) (sent : BitVec 64) (leaseUs n : BitVec 32) (s : State) : Outcome State Fault Refusal :=
  answer (accept s false h (fun s => takeRenewal s sent leaseUs.toNat n.toNat))

/-- A renewal is acknowledged: E_a is its send time plus L; held completions are released before the old E_a (R502,
R504). -/
def ackRenewal (s : State) (n : BitVec 32) : State :=
  match s.pair.renewals.find? (fun x => x.1 == n), s.pair.expiry with
  | some (_, sent, l), some old =>
    let p := s.pair
    if !p.crownOut || p.taking.isSome || decide (old.toNat ≤ s.tb.timeLocal.toNat) then s
    else
      { s with pair := { p with
        renewals := p.renewals.filter (fun x => decide (x.1.toNat > n.toNat)), leaseL := l,
        expiry := some (sent + BitVec.ofNat 64 (1000 * l)),
        holding := decide ((sent + BitVec.ofNat 64 (1000 * l)).toNat ≤ s.tb.timeLocal.toNat + guardNs l) } }
  | _, _ => s

/-- LEASE_ACK. -/
def execLeaseAck (h : MsgHead) (n : BitVec 32) (s : State) : Outcome State Fault Refusal :=
  answer (accept s false h (fun s => ackRenewal s n))

/-! ### Detachment (R510, R511) -/

/-- A standby becomes detached. -/
def becomeDetached (s : State) : State :=
  { s with pair := { s.pair with role := .detached, joined := false, expiry := none, window := false, unsent := [] } }

/-- A DETACH: a standby becomes detached, an active module runs alone, and DETACH_ACK answers. -/
def takeDetach (s : State) : State :=
  if follows s then
    let s := if linkLive s then sendLink s 0x73 [] else sendRelay s 0x73 []
    becomeDetached s
  else if leads s then
    let s := if linkLive s then sendLink s 0x73 [] else sendRelay s 0x73 []
    runAlone s
  else s

/-- A DETACH_ACK: the active module commits what waits and runs alone. -/
def takeDetachAck (s : State) : State := if leads s && s.pair.detaching then runAlone s else s

/-- DETACH. -/
def execDetach (relay : Bool) (h : MsgHead) (s : State) : Outcome State Fault Refusal :=
  answer (accept s relay h takeDetach)

/-- DETACH_ACK. -/
def execDetachAck (relay : Bool) (h : MsgHead) (s : State) : Outcome State Fault Refusal :=
  answer (accept s relay h takeDetachAck)

/-- DETACH_TIMEOUT: 1 ms of link loss; the active module sends DETACH by relay. -/
def execDetachTimeout (s : State) : Outcome State Fault Refusal :=
  answer (
    if !leads s || s.pair.linkUp || s.pair.detaching || !s.pair.relayEn then s
    else sendRelay { s with pair := { s.pair with detaching := true } } 0x72 (le 2 (Config.detachCause 1).toNat))

/-- SELF_DETACH: 10 ms of link loss. -/
def execSelfDetach (s : State) : Outcome State Fault Refusal :=
  answer (if follows s && !s.pair.linkUp then becomeDetached s else s)

/-- The message in RELAY_IN, decrypted: class and payload; none where its tag fails. -/
def relayOpen (s : State) (x : Session) (o : Octets) : Option (Nat × Octets) :=
  let low := !isLower s x
  let h := slice o 0 16
  let (pt, tag) := gcmDec (relayKey x low) (gcmJ0 (relayIv low (u64 h 8))) h (slice o 16 32)
  if fit 16 tag = slice o 48 16 then some (u8 h 0, pt) else none

/-- RELAY_IN: the last word is written, and the message acts (R508, R509). -/
def execRelayIn (value : BitVec 64) (s : State) : Outcome State Fault Refusal :=
  answer (
    let s := { s with pair := { s.pair with relayIn := s.pair.relayIn.set 7 value } }
    match s.pair.session with
    | none => s
    | some x =>
      let o := s.pair.relayIn.flatMap (fun w => le 8 w.toNat)
      match relayOpen s x o with
      | none => s
      | some (cls, pt) =>
        accept s true { mseq := BitVec.ofNat 64 (u64 o 8) } (fun s =>
          if cls = 0x10 then takeRenewal s (BitVec.ofNat 64 (u64 pt 0)) (u32 pt 8) (u32 pt 12)
          else if cls = 0x11 then ackRenewal s (BitVec.ofNat 32 (u32 pt 0))
          else if cls = 0x72 then takeDetach s
          else if cls = 0x73 then takeDetachAck s
          else s))

/-! ### ROLE_SWAP (R515) -/

/-- SQ_TAIL of every tenant pigeonhole. -/
def tenantTails (s : State) : List (Nat × Nat) :=
  s.so.phs.filterMap (fun x => match phOwner s x.1 with
    | some (slot, _) => if slot < 512 then some (x.1, x.2.sqTail) else none
    | none => none)

/-- A mode service is in progress: a MAINT_ENTER drain or a MAINT_EXIT that waits (R49, R515). -/
def modeBusy (s : State) : Bool := s.boot.maintDrain.isSome || s.boot.exitBy.isSome

/-- ROLE_SWAP (0x8080): admission stops at the recorded tails, and the command completes when the roles have
changed or the drain has failed. -/
def svcRoleSwap : Svc Octets := do
    let v ← get
    if (v.s.pair.swap.map (·.cmd)) = some v.e then throw .hold else pure ()
    need (zeroAt v.c.d.params 1 23 && decide (u8 v.c.d.params 0 ≤ 100)) badField
    need (leads v.s) modeRefused
    need (v.s.pair.mirroring && !v.s.pair.copying && v.s.pair.swap.isNone && !modeBusy v.s) busyRetry
    capacity 0
    modS (fun s => pairVector { s with pair := { s.pair with swap := some { cmd := v.e, tails := tenantTails s, handed := false } } })
    throw .hold
/-- ROLE_SWAP (0x8080) on core k. -/
def execRoleSwap (k : CoreId) (s : State) : Outcome State Fault Refusal :=
  answer (runService s k.toNat 0x8080 false defaultWait svcRoleSwap)

/-- The drain of step 2 has ended: what was fetched by then, and every descriptor below its recorded tail, has
completed. -/
def drained (s : State) (w : Swap) : Bool :=
  let no := ((s.cmd w.cmd).map (·.fetchNo)).getD 0
  s.so.cmds.all (fun x => x.1 == w.cmd || (decide (x.2.slot ≥ 512) && decide (x.2.fetchNo > no))) &&
  w.tails.all (fun t =>
    let p := s.ph t.1
    !(p.state == .ready || p.state == .opened) || decide (p.sqHead = t.2))

/-- ROLE_SWAP_DRAIN_END: steps 3's drop of the Crown and HANDOVER, or BUSY_RETRY after DRAIN_MS. -/
def execRoleSwapDrainEnd (inTime : Bool) (s : State) : Outcome State Fault Refusal :=
  answer (
    match s.pair.swap with
    | none => s
    | some w =>
      if w.handed then s
      else if !inTime then finishHeld { s with pair := { s.pair with swap := none } } w.cmd busyRetry []
      else if !drained s w then s
      else
        let j := s.journal
        let s := { s with pair := { s.pair with swap := some { w with handed := true }, crownOut := false, holding := true } }
        sendLink s 0x70 (le 8 s.tb.tm.toNat ++ le 8 s.pair.mseqTx ++ le 4 j.seg.toNat ++ le 8 j.next.toNat ++ fit 48 j.chain))

/-- HANDOVER: a synchronised standby takes the Crown (R505, R515). -/
def execHandover (h : MsgHead) (tm : BitVec 64) (peerIn : Bool) (s : State) : Outcome State Fault Refusal :=
  answer (accept s false h (fun s =>
    if s.pair.role ≠ .standby || s.boot.mode ≠ .standby then s
    else
      let s := seenTime { s with pair := { s.pair with peerIn := peerIn } } tm
      if peerIn || s.pair.taking.isSome then s else beginTake s .swap))

/-- HANDOVER_ACK: the old active module enters STANDBY, synchronised, and ROLE_SWAP completes (R515). -/
def execHandoverAck (h : MsgHead) (s : State) : Outcome State Fault Refusal :=
  answer (accept s false h (fun s =>
    match s.pair.swap with
    | some w => if w.handed then finishHeld (leaveService s .standby 0x8080) w.cmd stOk [] else s
    | none => s))

end Sys2Proof.Machine
end

