-- ==== Sys2Proof/Machine/Image.lean ====
section
/-! DEFINITION. Delivering, verifying and applying an image (R35, R39, R43 to R52, R59, R135, R252, R398). -/

namespace Sys2Proof.Machine

open Host

/-! ### Delivering (R44, R48, R601) -/

/-- An image is being fetched, verified or applied. -/
def imageBusy (s : State) : Bool :=
  s.boot.imgState == .fetching || s.boot.imgState == .verifying || s.boot.imgState == .applying

/-- The image is refused: IMG_STATE 5, the status, IMG_FAULT_OFF (R44, R45). -/
def refuseImage (s : State) (st : Code) (off : Nat) : State :=
  { s with boot := { s.boot with imgState := .refused, imgStatus := st, imgFaultOff := BitVec.ofNat 32 off, data := [],
                                 expect := none } }

/-- Does the image path act in the mode: STAGED, or MAINTENANCE with an arming (R44, R48)? -/
def imageAllowed (s : State) : Bool :=
  s.boot.mode == .staged || (s.boot.mode == .maintenance && s.boot.armed.isSome)

/-- The length checks of START and IMAGE_BEGIN (R44, R48). -/
def lengthOk (s : State) (n : Nat) : Bool :=
  decide (64 ≤ n ∧ n ≤ 0x4000000) && ((s.boot.armed.map (fun x => decide (x.1.toNat = n))).getD true)

/-- A transfer begins; an arming acts once (R48, R601). -/
def beginImage (s : State) (n : Nat) (mctp : Bool) : State :=
  { s with boot := { s.boot with imgState := .fetching, dataLen := n, data := [], byMctp := mctp, expect := s.boot.armed,
                                 armed := none } }

/-- START: written with ABORT clear (R44). -/
def execStart (_portB : Bool) (s : State) : Outcome State Fault Refusal :=
  answer (
    if !s.pwrGood then s
    else
      let b := s.boot
      let n := b.imgLen.toNat
      let show_ (st : Code) : State := { s with boot := { b with imgStatus := st } }
      if imageBusy s then show_ busyRetry
      else if !imageAllowed s then show_ modeRefused
      else if b.imgAddr.toNat % 64 ≠ 0 then refuseImage s badAlignment 0
      else if !lengthOk s n then refuseImage s badLength 0
      else beginImage s n false)

/-- A fetch or verification is abandoned; IMG_STATE is idle again (R44; log entry 44). -/
def abortImage (s : State) : State :=
  match s.boot.imgState with
  | .fetching | .verifying => { s with boot := { s.boot with imgState := .idle, data := [], expect := none } }
  | _ => s

/-- ABORT: ignored while the layout is applied. -/
def execAbort (s : State) : Outcome State Fault Refusal := answer (abortImage s)

/-- The last octet is in: boot step 9 ends, and verification begins (R59). -/
def imageIn (s : State) (o : Octets) : State :=
  { s with boot := { s.boot with imgState := .verifying, data := o, tImage := s.time,
                                 step := if s.boot.mode == .staged then 9 else s.boot.step } }

/-- IMAGE_RECEIVED: the fetch that START began ends.  A fetch that fails ends with HOST_FAULT, as R71 names a failed
host access (log entry 44). -/
def execImageReceived (r : HostRead) (s : State) : Outcome State Fault Refusal :=
  answer (
    if s.boot.imgState ≠ .fetching || s.boot.byMctp then s
    else match r with
      | .failed => refuseImage s hostFault 0
      | .data o => imageIn s (fit s.boot.dataLen o))

/-- IMAGE_ARM_LAPSE: no image arrived within 60 s (R48). -/
def execImageArmLapse (s : State) : Outcome State Fault Refusal := answer { s with boot := { s.boot with armed := none } }

/-- A journal IMAGE entry (R465, R468). -/
def imageEntry (s : State) (seq : Nat) (st : Code) : State := journalNow s 6 (le 4 seq ++ le 2 st.toNat)

/-- IMAGE_VERIFIED: the checks end; a refused image changes nothing but its registers (R45).  The bases of the
curve checks come from I4, and in an entropy failure there are none. -/
def execImageVerified (s : State) : Outcome State Fault Refusal :=
  answer (
    if s.boot.imgState ≠ .verifying then s
    else
      let o := s.boot.data
      let n := curveCount o
      let seq := u32 o 0x10
      if n > 0 && !s.entropy.failed && !canServe s 4 then s
      else
        let (bases, s) := if n = 0 || s.entropy.failed then ([], s) else generate s 4 (9216 * n) false
        match checkImage s o bases (s.boot.mode == .maintenance) with
        | .error (st, off) => imageEntry (refuseImage s st off) seq st
        | .ok l =>
          if n > 0 && s.entropy.failed then imageEntry (refuseImage s entropyFailed (recOff l 8)) seq entropyFailed
          else { s with boot := { s.boot with imgState := .applying, step := if s.boot.mode == .staged then 10 else s.boot.step } })

/-! ### Applying (R51, R59 step 11) -/

/-- FIRMWARE: the identity shows the new build (00, identity). -/
def applyFirmware (s : State) (o : Octets) : State :=
  { s with boot := { s.boot with fwBuild := BitVec.ofNat 32 (u32 o 0), mirrorMax := BitVec.ofNat 8 (u8 o 6) } }

/-- CLUSTER_ROLES: roles, lane masks and the spare; a spare that is kept takes a number that is out of service
(R36, R477, R482). -/
def applyRoles (s : State) (o : Octets) : State :=
  let lanes := (List.range 8).foldl (fun m k => m + u8 o (4 * k + 1) * 2 ^ (8 * k)) 0
  let s := { s with boot := { s.boot with pubKey := BitVec.ofNat 8 (255 - generalMask o), laneMask := BitVec.ofNat 64 lanes,
                                          spare := rolesSpare o } }
  let s := layClusters s (rolesSpare o)
  if s.units.spareState = 0 && (outCluster s).isSome then becomeSpare s 8 else s

/-- POWER_PLAN: domains 6, 7, 8 and 18 follow PD_EN (R37, R565). -/
def applyPower (s : State) (pdEn : Nat) : State :=
  let s := { s with boot := { s.boot with pdEn := BitVec.ofNat 32 pdEn } }
  [6, 7, 8, 18].foldl (fun s d =>
    if !pdEn.testBit d then domainOff s d
    else if s.clocks.pd.getLsbD d || (d == 18 && s.warden.retClusters.getLsbD 8) then s else domainOn s d) s

/-- MEMORY_PLAN: the channels of the critical tables (R38). -/
def applyMemory (s : State) (o : Octets) : State :=
  { s with boot := { s.boot with ilvShift := u8 o 0, channels := slice o 8 8 },
           units := { s.units with lostCopies := [], reserve := [] } }

/-- TENANT_POOL, with no slots on a port that is disabled (R39). -/
def applyPool (s : State) (o : Octets) : State :=
  let en := s.boot.pdEn
  { s with boot := { s.boot with
      slotsA := if en.getLsbD 6 then u16 o 0 else 0, slotsB := if en.getLsbD 7 then u16 o 2 else 0,
      phPool := u16 o 4, cachePool := u32 o 8, ctrPool := u32 o 12 } }

/-- The tables of a SCHED_TABLES body, or the defaults. -/
def schedOf (o : Option Octets) : Sched :=
  match o with
  | none => {}
  | some o =>
    { tick100ns := u16 o 0, spillDepth := u16 o 2, phInflight := u16 o 4, pf0Reserve := u16 o 6, quantum := u16 o 8,
      cost := (List.range 17).map (fun g => u16 o (0x10 + 2 * g)),
      affinity := (List.range 514).foldl (fun t i => tset 0xFF t i (BitVec.ofNat 8 (u8 o (0x40 + i)))) [] }

/-- SCHED_TABLES: timers of list 3 keep their due time in ns (R134, R135). -/
def applySched (s : State) (o : Option Octets) : State :=
  let new := schedOf o
  let due (d : Nat) : Nat := ceilDiv (d * s.so.sched.tick100ns) new.tick100ns
  { s with so := { s.so with
      sched := new, timers := s.so.timers.map (fun x => (due x.1, x.2)),
      phs := s.so.phs.map (fun x => (x.1, { x.2 with timer := x.2.timer.map due })) } }

/-- CURVES: entries 6 to 15 are those of the record (R51, R52, R251). -/
def applyCurves (s : State) (o : Option Octets) : State :=
  let l := match o with
    | some o => (List.range (u8 o 0)).map (fun i => slice o (8 + 512 * i) 512)
    | none => []
  { s with boot := { s.boot with curves := l.map (fun e => (u8 e 0, e)) } }

/-- OFFICERS: the recorded set; a change of it erases challenges and grants (R40, R542). -/
def applyOfficers (s : State) (o : Octets) : State :=
  let new := (officerDigest o, u8 o 1, u8 o 0)
  let s := if s.warden.officers = some new then s else eraseQuorum s
  { s with boot := { s.boot with officers := o }, warden := { s.warden with officers := some new } }

/-- Words of the custom services, placed in ascending INSTANCE order: code at NEAR 0x5000, constants at 0x160000
(R363, R364, R398). -/
def placeCustom (l : List (Nat × Octets)) : Tab W36 × Tab (BitVec 32) :=
  l.foldl (fun (t : Tab W36 × Tab (BitVec 32)) x =>
    let o := x.2
    let (seg, const) := customBases l x.1 0x5000 0x160000
    let code := u32 o 16
    ((List.range code).foldl (fun c i => tset 0 c (seg + i) (BitVec.ofNat 36 (u64 o (0x28 + 8 * i)))) t.1,
     (List.range (u32 o 20)).foldl (fun c i => tset 0 c (const + i) (BitVec.ofNat 32 (u64 o (0x28 + 8 * (code + i))))) t.2)) ([], [])

/-- POLICY and CUSTOM_SERVICE come into force. -/
def applyPolicy (s : State) (policy : Octets) (custom : List (Nat × Octets)) : State :=
  let (code, consts) := placeCustom custom
  { s with boot := { s.boot with policy := policy, custom := custom, isram := code, shared := consts, policyNext := none } }

/-- CUSTOM_SERVICE bodies of an image by INSTANCE. -/
def customOf (l : List Rec) : List (Nat × Octets) := (l.filter (fun r => r.type == 11)).map (fun r => (r.inst, r.body))

/-- The whole layout (boot step 11). -/
def applyAll (s : State) (l : List Rec) : State :=
  let body (t : Nat) : Octets := (bodyOf l t).getD []
  let s := applyRoles (applyFirmware s (body 1)) (body 2)
  let s := applyPool (applyMemory (applyPower s (recordsPdEn l)) (body 4)) (body 5)
  let s := { s with boot := { s.boot with baseRules := bodyOf l 7 } }
  let s := applyOfficers (applyCurves (applySched s (bodyOf l 6)) (bodyOf l 8)) (body 9)
  refreshCauses (setCause (applyPolicy s (body 10) (customOf l)) 0 false)

/-- Only the records that differ from the applied image's, with R51's effects. -/
def applyChanged (s : State) (l old : List Rec) : State :=
  let body (t : Nat) : Octets := (bodyOf l t).getD []
  let diff (t : Nat) : Bool := bodyOf l t != bodyOf old t
  let s := if diff 1 then redrawCache (applyFirmware s (body 1)) else s
  let s := if diff 2 then applyRoles s (body 2) else s
  let s := if diff 2 || diff 3 then applyPower s (recordsPdEn l) else s
  let s := if diff 4 then redrawCache (applyMemory s (body 4)) else s
  let s := applyPool s (body 5)
  let s := if diff 6 then applySched s (bodyOf l 6) else s
  let s := { s with boot := { s.boot with baseRules := bodyOf l 7 } }
  let s := if diff 8 then applyCurves s (bodyOf l 8) else s
  let s := if diff 9 then applyOfficers s (body 9) else s
  refreshCauses { s with boot := { s.boot with policyNext := some (body 10, customOf l) } }

/-- The records of an image that has been verified. -/
def recordsOf (image : Octets) : List Rec := (recordsFrom (image.length + 1) (image.drop 64) 64).getD []

/-- What follows the application of an image in STAGED: MAINTENANCE on an ISSUED module, the Crown at once on one
without a mirror link; else the pair decision (R54, R59, R494). -/
def afterLayout (s : State) : State :=
  if s.warden.lc = .issued then setMode s .maintenance (Config.modeTrigger 5)
  else if !pairable s then takeAlone s false
  else s

/-- LAYOUT_APPLIED: the application is complete; the warden floors and the recorded officer set follow it (R35, R40,
R43, R51, R59). -/
def execLayoutApplied (s : State) : Outcome State Fault Refusal :=
  answer (
    if s.boot.imgState ≠ .applying then s
    else
      let o := s.boot.data
      let l := recordsOf o
      let staged := s.boot.mode == .staged
      let whole := staged || !s.boot.applied
      let s := if whole then applyAll s l else applyChanged s l (recordsOf s.boot.image)
      let w := s.warden
      let sec := u16 ((bodyOf l 1).getD []) 4
      let s := { s with
        warden := { w with secFloor := BitVec.ofNat 16 (max w.secFloor.toNat sec), imageSeq := BitVec.ofNat 32 (u32 o 0x10) },
        boot := { s.boot with imgState := .done, imgStatus := stOk, imgFaultOff := 0, imgSeq := BitVec.ofNat 32 (u32 o 0x10),
                              image := o, imageHash := sha 48 o, data := [], expect := none, applied := true,
                              step := if whole then 11 else s.boot.step } }
      let s := imageEntry s (u32 o 0x10) stOk
      if staged then afterLayout s else s)

/-! ### The management port's path (R600, R601) -/

/-- Vendor ID of the vendor-defined messages, big-endian (R599). -/
def mctpVendor : Octets := [0x1D, 0x7E]

/-- The answer to a vendor command: COMMAND with bit 7 set, a status, and a payload (R600). -/
def mctpAnswer (s : State) (cmd : Nat) (st : Code) (payload : Octets) : State :=
  emit s (.mctp 0x7E (mctpVendor ++ le 1 (cmd + 0x80) ++ [0] ++ le 2 st.toNat ++ payload))

end Sys2Proof.Machine
end

