-- ==== Sys2Proof/Machine/KeySvc.lean ====
section
/-! DEFINITION. Key management services but for the two RKL services (R195 to R202, R609, R610). -/

namespace Sys2Proof.Machine

open Host

/-- Header of a key management command with its references and variable data (R173, R195, R609). -/
def keymgmtParts (outForm : List Nat) (flags fieldsZero : Bool) (refs : Nat) (dataLen : Nat → Bool) :
    Svc (List KeyRef × Octets) := do
  let i ← getIn
  need (i.length == 64 + refsLen refs (i.drop 64) + u32 i 4) badLength
  need (dataLen (u32 i 4)) badLength
  need (outForm.contains (u8 i 0) && (if flags then decide (u8 i 1 ≤ 1) else u8 i 1 == 0) && zeroAt i 2 2 &&
        (!fieldsZero || zeroAt i 8 56)) badField
  let (rs, rest) ← takeRefs false refs (i.drop 64)
  need (!(rs.any (fun r => isDukptKind r.kind))) badField
  pure (rs, rest)

/-- A drawn TDEA key takes odd parity (R196); halves that are equal are drawn again, so the draw of
this model is one whose halves differ: the second draw is used where they are equal. -/
def drawnKey (alg n : Nat) (o : Octets) : Octets :=
  if isTdea alg then
    let a := oddParity (o.take n)
    if slice a 0 8 == slice a 8 8 then oddParity (slice o n n) else a
  else o.take n

/-- Octets that a key of the template needs: a seed has 32. -/
def drawLen (h : KeyVal) : Nat := if h.ktype = 2 then 32 else h.len

/-- KEY_GENERATE (0x0601): R196. -/
def svcKeyGenerate : Svc Octets := do
    let (_, t) ← keymgmtParts [1] false true 0 (· == 64)
    needTemplate t
    need (templateUsageOk t) keyUsageDenied
    let h := headerKey t
    capacity 144
    let r ← random (2 * drawLen h)
    let (cnum, gen) ← allocate h.limit
    envelopeOut t (drawnKey (if h.ktype = 2 then 5 else h.alg) (drawLen h) r) cnum gen
/-- KEY_GENERATE (0x0601) on core k. -/
def execKeyGenerate (k : CoreId) (s : State) : Outcome State Fault Refusal :=
  answer (runService s k.toNat 0x0601 true defaultWait svcKeyGenerate)

/-- KEY_DERIVE (0x0602): kdf(parent, child label) under the template (R196, R271, R279). -/
def svcKeyDerive : Svc Octets := do
    let (rs, d) ← keymgmtParts [1] false true 1 (· == 128)
    let t := d.take 64
    let label := slice d 64 64
    needTemplate t
    let child ← (match labelKey label with | some x => pure x | none => fail badField)
    let parent ← resolveKey (rs.headD noRef)
    need (templateUsageOk t) keyUsageDenied
    let h := headerKey t
    let u := String.ofList (h.usage.map (fun o => Char.ofNat o.toNat))
    needKey parent [u, "K0"] "X" (· == 5)
    need (grantsWithin { child with exp := if exportRank parent.exp < exportRank child.exp then parent.exp else child.exp,
                                    mask := parent.mask } h) keyUsageDenied
    capacity 144
    let key := kdf parent.bytes label (8 * algLen h.alg)
    let (cnum, gen) ← allocate h.limit
    envelopeOut t (if isTdea h.alg then oddParity key else key) cnum gen
/-- KEY_DERIVE (0x0602) on core k. -/
def execKeyDerive (k : CoreId) (s : State) : Outcome State Fault Refusal :=
  answer (runService s k.toNat 0x0602 true defaultWait svcKeyDerive)

/-- ENVELOPE_MAKE (0x0607): R196, R289. -/
def svcEnvelopeMake : Svc Octets := do
    let (rs, t) ← keymgmtParts [1] false true 1 (· == 64)
    needTemplate t
    let src ← resolveKey (rs.headD noRef)
    need (templateUsageOk t) keyUsageDenied
    let h := headerKey t
    need (src.limit == 0) keyUsageDenied
    need (!(src.flags.getLsbD 0 && !(h.flags.getLsbD 0))) keyUsageDenied
    need (grantsWithin src h) keyUsageDenied
    capacity 144
    let (cnum, gen) ← allocate h.limit
    envelopeOut t src.bytes cnum gen
/-- ENVELOPE_MAKE (0x0607) on core k. -/
def execEnvelopeMake (k : CoreId) (s : State) : Outcome State Fault Refusal :=
  answer (runService s k.toNat 0x0607 true defaultWait svcEnvelopeMake)

/-! ### KEY_IMPORT (R197) -/

/-- Optional blocks: n of them from the octets; their ID and data, and what follows. -/
def optBlocks : Nat → Octets → Option (List (Octets × Octets) × Octets)
  | 0, o => some ([], o)
  | n + 1, o => do
    let len ← digitsVal 16 (slice o 2 2)
    if len < 4 ∨ len > o.length then none
    else
      let (t, rest) ← optBlocks n (o.drop len)
      some ((o.take 2, slice o 4 (len - 4)) :: t, rest)

/-- Algorithm code of an imported key by its letter and length (R278). -/
def importAlg (letter : Octet) (n : Nat) : Option Nat :=
  if letter = 0x54 then (if n = 16 then some 1 else if n = 24 then some 2 else none)
  else if letter = 0x41 then (if n = 16 then some 3 else if n = 24 then some 4 else if n = 32 then some 5 else none)
  else if letter = 0x48 then (if 16 ≤ n ∧ n ≤ 64 then some 6 else none)
  else none

/-- The header of a key block that R197 allows: optional blocks read. -/
def blockHeaderOf (o : Octets) : Option (List (Octets × Octets) × Nat) := do
  let len ← digitsVal 10 (slice o 1 4)
  let n ← digitsVal 10 (slice o 12 2)
  let (l, rest) ← optBlocks n (o.drop 16)
  let known := ["KS", "KC", "KP", "KV", "TS", "PB"]
  let usage := slice o 5 2
  if len = o.length && l.all (fun b => known.any (fun t => ascii t == b.1)) &&
     [1, 2, 3, 4].any (fun c => classUsage c usage) && modeOk ((slice o 8 1).headD 0) &&
     exportOk ((slice o 11 1).headD 0) && slice o 14 2 == ascii "00" &&
     ([0x54, 0x41, 0x48, 0x45] : List Octet).contains ((slice o 7 1).headD 0) then some (l, o.length - rest.length) else none

/-- The value that a KC or KP block carries, after its two method characters. -/
def checkBlock (l : List (Octets × Octets)) (id : String) : Option (Option Octets) :=
  (l.find? (fun b => b.1 == ascii id)).map (fun b => unhex (b.2.drop 2))

/-- The form checks of a key block: version letter, header, optional blocks. -/
def importForm (blk : Octets) : Svc (List (Octets × Octets) × Nat) := do
  need (([0x41, 0x42, 0x43, 0x44] : List Octet).contains (blk.headD 0)) badField
  match blockHeaderOf blk with | some l => pure l | none => fail badField

/-- The policy and algorithm checks of an import under a KBPK. -/
def importAllowed (blk : Octets) (kb : KeyVal) : Svc Unit := do
  let ver := blk.headD 0
  needKbpk kb false
  let st ← getS; let c ← getC
  need (ver == 0x44 || (ver == 0x42 && polKbImportB st c.slot)) policyDenied
  need (if ver = 0x44 then isAes kb.alg else isTdea kb.alg) badField

/-- Open a key block and make its Envelope (R197). -/
def importBlock (blk : Octets) (opts : List (Octets × Octets)) (hdr : Nat) (kb : KeyVal) : Svc Octets := do
  let key ← (match openBlock (blk.headD 0 == 0x44) kb.bytes blk hdr with | some x => pure x | none => fail keyEnvelopeInvalid)
  let letter := (slice blk 7 1).headD 0
  need (!(letter == 0x48 && decide (key.length > 48))) badField
  let usage := slice blk 5 2
  let st ← getS
  -- R253: a block of algorithm E brings a raw scalar; its curve is not stated (log entry 22).
  let ec := letter == 0x45
  let curve := Config.importCurve blk % 16
  let alg ← (if ec then
      match curveEntry st curve with
      | some cv => if cv.orderBits ≤ 384 ∧ key.length = cv.no then pure (0x10 + curve) else fail keyEnvelopeInvalid
      | none => fail badField
    else match importAlg letter key.length with | some a => pure a | none => fail keyEnvelopeInvalid)
  need (classAlg (usageClass usage) alg) badField
  let kcv := kcvOf alg key
  let agrees (v : Option (Option Octets)) : Bool :=
    match v with
    | none => true
    | some none => false
    | some (some x) => x == kcv.take x.length
  need (agrees (checkBlock opts "KC")) keyEnvelopeInvalid
  need (match checkBlock opts "KP" with
        | none => true
        | some none => false
        | some (some x) => x == (kcvOf kb.alg kb.bytes).take x.length) keyEnvelopeInvalid
  let mask := u16 (fit 9 (Config.madeAttrs 0x0603 (beNat usage))) 1 &&& fullMask
  envelopeOut (headerFor (if ec then 3 else 1) alg (usageClass usage) (if ec then 0 else key.length) mask usage ((slice blk 8 1).headD 0)
    ((slice blk 11 1).headD 0) (slice blk 9 2) 0) key 0 0

/-- KEY_IMPORT (0x0603). -/
def svcKeyImport : Svc Octets := do
    let (rs, blk) ← keymgmtParts [1] false true 1 (fun n => decide (16 ≤ n ∧ n ≤ 4096))
    let (opts, hdr) ← importForm blk
    let kb ← resolveKey (rs.headD noRef)
    importAllowed blk kb
    capacity 144
    importBlock blk opts hdr kb
/-- KEY_IMPORT (0x0603) on core k. -/
def execKeyImport (k : CoreId) (s : State) : Outcome State Fault Refusal :=
  answer (runService s k.toNat 0x0603 true defaultWait svcKeyImport)

/-- The checks of an export: KBPK, algorithm, exportability and policy (R198, R288). -/
def exportAllowed (verD : Bool) (key kb : KeyVal) : Svc Unit := do
  needKbpk kb true
  need (if verD then isAes kb.alg else isTdea kb.alg) badField
  need (plainKey key && exportable key verD kb.alg) keyUsageDenied
  let st ← getS; let c ← getC
  need (key.source != 0 || polExportDerived st c.slot) policyDenied
  need (decide (strength kb.alg ≥ strength key.alg) || polExportWeaker st c.slot) policyDenied

/-- KEY_EXPORT (0x0604): R198, R288. -/
def svcKeyExport : Svc Octets := do
    let i ← getIn
    let (rs, _) ← keymgmtParts [2, 3] false false 2 (· == 0)
    let exp := (slice i 8 1).headD 0
    need ((exp == 0x45 || exp == 0x4E) && zeroAt i 11 53) badField
    match rs with
    | [rk, rb] =>
      let key ← resolveKey rk
      let kb ← resolveKey rb
      let verD := u8 i 0 == 2
      exportAllowed verD key kb
      capacity (blockTotal verD key)
      let fill ← random 32
      pure (keyBlock verD key key.usage key.mode exp (slice i 9 2) kb.bytes fill)
    | _ => fail badField
/-- KEY_EXPORT (0x0604) on core k. -/
def execKeyExport (k : CoreId) (s : State) : Outcome State Fault Refusal :=
  answer (runService s k.toNat 0x0604 false defaultWait svcKeyExport)

/-! ### ENVELOPE_UPGRADE and KEY_CHECK_VALUE -/

/-- Groups that R150 and R178 allow for a v1 usage, and group 6 for the services that take any key
(R311). -/
def upgradeMask (u : Octets) : Nat :=
  let g : List Nat :=
    if u == ascii "P0" then [1, 2] else if u == ascii "M3" then [5] else if u == ascii "D0" then [7]
    else if u == ascii "K1" then [3, 4] else if u == ascii "C0" then [2]
    else if u == ascii "V1" || u == ascii "V2" then [1, 2]
    else if u == ascii "B0" then [1, 2, 4] else [3]
  (g.map (fun b => 2 ^ b)).sum + 2 ^ 6

/-- The Envelope v3 of a v1 key (R311). -/
def upgraded (key : KeyVal) : Svc Octets :=
  envelopeOut (headerFor 1 key.alg key.cls key.len (upgradeMask key.usage) key.usage key.mode key.exp (ascii "00") 8)
    key.bytes 0 0

/-- ENVELOPE_UPGRADE (0x0608): R202, R311. -/
def svcEnvelopeUpgrade : Svc Octets := do
    let (rs, _) ← keymgmtParts [1] false true 1 (· == 0)
    let ref := rs.headD noRef
    need (ref.kind == 3) badField
    let key ← resolveKey ref
    capacity 144
    upgraded key
/-- ENVELOPE_UPGRADE (0x0608) on core k. -/
def execEnvelopeUpgrade (k : CoreId) (s : State) : Outcome State Fault Refusal :=
  answer (runService s k.toNat 0x0608 false defaultWait svcEnvelopeUpgrade)

/-- KEY_CHECK_VALUE (0x0609): R201. -/
def svcKeyCheckValue : Svc Octets := do
    let (rs, _) ← keymgmtParts [0] false true 1 (· == 0)
    let key ← resolveKey (rs.headD noRef)
    let c ← getC
    need (!(c.d.version == 1 && !(isTdea key.alg))) badField
    capacity 16
    pure (if key.cls = 4 then zeros 16 else kcvField key.alg key.bytes)
/-- KEY_CHECK_VALUE (0x0609) on core k. -/
def execKeyCheckValue (k : CoreId) (s : State) : Outcome State Fault Refusal :=
  answer (runService s k.toNat 0x0609 false defaultWait svcKeyCheckValue)

end Sys2Proof.Machine
end

