-- ==== Sys2Proof/Machine/PubKey.lean ====
section
/-! DEFINITION. Public-key services, the two RKL services and CURVE_LOAD (R199, R200, R247 to R267). -/

namespace Sys2Proof.Machine

open Host

/-! ### Common parts -/

/-- Header fields of R258. -/
def pkHeaderOk (ec : Bool) (i : Octets) (scheme : Bool) (flags : Nat) : Bool :=
  (if ec then decide (u8 i 0 ≤ 15) && u16 i 8 == 0
   else u8 i 0 == 0xFF && u16 i 8 % 256 == 0 && decide (2048 ≤ u16 i 8 ∧ u16 i 8 ≤ 4096)) &&
  decide (u8 i 1 ≤ 3) && (if scheme then u8 i 2 == 1 || u8 i 2 == 2 else u8 i 2 == 0) &&
  (u8 i 3 &&& flags) == u8 i 3 && zeroAt i 10 54

/-- Is DATA_LEN a digest length where HASH is 0? -/
def hashLenOk (i : Octets) : Bool := u8 i 1 != 0 || u32 i 4 == 32 || u32 i 4 == 48 || u32 i 4 == 64

/-- The digest of a message, or the digest given (R258). -/
def digestOf (hash : Nat) (o : Octets) : Octets :=
  if hash = 1 then sha 32 o else if hash = 2 then sha 48 o else if hash = 3 then sha 64 o else o

/-- The curve that CURVE names; an empty entry is BAD_FIELD (R247). -/
def needCurve (i : Nat) : Svc Curve := do
  let s ← getS
  match curveEntry s i with
  | some c => pure c
  | none => fail badField

/-- Private scalar of a key: raw, checked, or expanded from its seed (R253, R262). -/
def scalarOf (c : Curve) (k : KeyVal) : Svc Nat :=
  if k.ktype = 3 then
    let d := beNat (k.bytes.take c.no)
    if d = 0 ∨ d ≥ c.n then fail badScalar else pure d
  else pure (expandSeed c k.bytes)

/-- RSA key of a seed (R254). -/
def rsaOf (k : KeyVal) (bits : Nat) : Svc RsaKey :=
  match expandRsa k.bytes bits with
  | some r => pure r
  | none => fail keyEnvelopeInvalid

/-- Draw from the internal instance of the core's cluster pair (R339). -/
def randomInternal (core n : Nat) : Svc Octets := do
  let v ← get
  let i := core / 16
  if v.s.entropy.failed then throw (.fail entropyFailed)
  else if !(canServe v.s i) then throw (.wait i)
  else
    let (o, s) := generate v.s i n false
    set { v with s := s }
    pure o

/-- A failed invariant: INVARIANT_FAILED and an F-class event (R265). -/
def invariantFail {α : Type} (core : Nat) : Svc α := do
  modS (fun s => eventF s 0x0302 core 0 0)
  fail invariantFailed

/-- References, curve point, signature and data of a command from offset 64 on. -/
def pkRefs (n : Nat) (rest : Octets) : Svc (List KeyRef × Octets) := do
  let (rs, r) ← takeRefs false n rest
  need (!(rs.any (fun x => isDukptKind x.kind))) badField
  pure (rs, r)

/-! ### EC services -/

/-- ECDSA_SIGN (0x0801): R259, R260. -/
def svcEcdsaSign (k : CoreId) : Svc Octets := do
    let i ← getIn
    need (i.length == 64 + refsLen 1 (i.drop 64) + u32 i 4) badLength
    need (pkHeaderOk true i false 0 && hashLenOk i) badField
    let cv ← needCurve (u8 i 0)
    let (rs, data) ← pkRefs 1 (i.drop 64)
    let key ← resolveKey (rs.headD noRef)
    needKey key ["S0"] "ST" (· == 0x10 + u8 i 0)
    capacity (2 * cv.no)
    let d ← scalarOf cv key
    let digest := digestOf (u8 i 1) data
    let st ← getS
    let kp ← (if st.entropy.failed && key.flags.getLsbD 1 then pure [] else randomInternal k.toNat cv.no)
    match ecdsaSign cv digest.length d digest kp with
    | some (r, sv) => pure (be cv.no r ++ be cv.no sv)
    | none => invariantFail k.toNat
/-- ECDSA_SIGN (0x0801) on core k. -/
def execEcdsaSign (k : CoreId) (s : State) : Outcome State Fault Refusal :=
  answer (runService s k.toNat 0x0801 true defaultWait (svcEcdsaSign k))

/-- ECDSA_VERIFY (0x0802): R258, R262. -/
def svcEcdsaVerify : Svc Octets := do
    let i ← getIn
    let pub := (u8 i 3).testBit 0
    need (decide (u8 i 0 ≤ 15)) badField
    let cv ← needCurve (u8 i 0)
    let refs := if pub then 0 else 1
    let ptLen := if pub then 1 + 2 * cv.fo else 0
    need (i.length == 64 + refsLen refs (i.drop 64) + ptLen + 2 * cv.no + u32 i 4) badLength
    need (pkHeaderOk true i false 1 && hashLenOk i) badField
    let (rs, rest) ← pkRefs refs (i.drop 64)
    let q ← (match rs with
      | r :: _ => do
        let key ← resolveKey r
        needKey key ["S0"] "VST" (· == 0x10 + u8 i 0)
        let d ← scalarOf cv key
        pure (ecMul cv d (basePoint cv))
      | [] => do
        need (rest.headD 0 == 4 || rest.headD 0 == 0) badField
        liftE (decodePoint cv (rest.take ptLen)))
    capacity 0
    let sig := rest.drop ptLen
    let digest := digestOf (u8 i 1) (sig.drop (2 * cv.no))
    need (ecdsaVerify cv q digest (beNat (slice sig 0 cv.no)) (beNat (slice sig cv.no cv.no))) sigInvalid
    pure []
/-- ECDSA_VERIFY (0x0802) on core k. -/
def execEcdsaVerify (k : CoreId) (s : State) : Outcome State Fault Refusal :=
  answer (runService s k.toNat 0x0802 false defaultWait svcEcdsaVerify)

/-- ECDH (0x0803): R261, R262. -/
def svcEcdh (k : CoreId) : Svc Octets := do
    let i ← getIn
    need (decide (u8 i 0 ≤ 15)) badField
    let cv ← needCurve (u8 i 0)
    let ptLen := 1 + 2 * cv.fo
    need (i.length == 64 + refsLen 1 (i.drop 64) + ptLen + 64 + u32 i 4) badLength
    let rawZ := (u8 i 3).testBit 1
    need (pkHeaderOk true i false 2 && u8 i 1 == 0 && decide (u32 i 4 ≤ 256)) badField
    let (rs, rest) ← pkRefs 1 (i.drop 64)
    let t := slice rest ptLen 64
    needTemplate t
    need (rest.headD 0 == 4 || (rest.take ptLen).all (· == 0)) badField
    let key ← resolveKey (rs.headD noRef)
    need (templateUsageOk t) keyUsageDenied
    needKey key ["K3"] "NX" (· == 0x10 + u8 i 0)
    let st ← getS; let c ← getC
    need (!rawZ || polEcdhRawZ st c.slot) policyDenied
    capacity (if rawZ then cv.fo else 144)
    let d ← scalarOf cv key
    let q ← liftE (decodePoint cv (rest.take ptLen))
    match ecMul cv (cv.h * d) q with
    | none => invariantFail k.toNat
    | some (z, _) =>
      if rawZ then pure (be cv.fo z)
      else
        let h := headerKey t
        let dk := oneStep (be cv.fo z) (rest.drop (ptLen + 64)) (drawLen h)
        let (cnum, gen) ← allocate h.limit
        envelopeOut t (if isTdea h.alg then oddParity dk else dk) cnum gen
/-- ECDH (0x0803) on core k. -/
def execEcdh (k : CoreId) (s : State) : Outcome State Fault Refusal :=
  answer (runService s k.toNat 0x0803 true defaultWait (svcEcdh k))

/-- A keygen template: seed class, the named algorithm, an admitted usage (R258, R259, R610). -/
def needKeygen (t : Octets) (alg : Nat) (usages : List String) : Svc Unit := do
  needTemplate t
  let h := headerKey t
  need (h.cls == 4 && h.alg == alg) badField
  need (templateUsageOk t && usages.any (fun u => ascii u == h.usage)) keyUsageDenied

/-- EC_KEYGEN (0x0804): the seed's Envelope, then the public point. -/
def svcEcKeygen : Svc Octets := do
    let i ← getIn
    need (i.length == 128) badLength
    need (pkHeaderOk true i false 0 && u8 i 1 == 0 && u32 i 4 == 0) badField
    let cv ← needCurve (u8 i 0)
    let t := slice i 64 64
    needKeygen t (0x10 + u8 i 0) ["S0", "K3"]
    capacity (129 + 2 * cv.fo)
    let seed ← random 32
    let h := headerKey t
    let (cnum, gen) ← allocate h.limit
    let env ← envelopeOut t seed cnum gen
    pure (env.take 128 ++ encodePoint cv (ecMul cv (expandSeed cv seed) (basePoint cv)))
/-- EC_KEYGEN (0x0804) on core k. -/
def execEcKeygen (k : CoreId) (s : State) : Outcome State Fault Refusal :=
  answer (runService s k.toNat 0x0804 true defaultWait svcEcKeygen)

/-! ### RSA services -/

/-- RSA_SIGN (0x0811): R258; the PSS salt is drawn. -/
def svcRsaSign : Svc Octets := do
    let i ← getIn
    let b := u16 i 8
    need (i.length == 64 + refsLen 1 (i.drop 64) + u32 i 4) badLength
    need (pkHeaderOk false i true 0 && hashLenOk i) badField
    let (rs, data) ← pkRefs 1 (i.drop 64)
    let key ← resolveKey (rs.headD noRef)
    needKey key ["S0"] "ST" (· == 0x20 + (b - 2048) / 256)
    capacity (b / 8)
    let rk ← rsaOf key b
    let digest := digestOf (u8 i 1) data
    let salt ← (if u8 i 2 = 2 then random digest.length else pure [])
    let em := if u8 i 2 = 1 then pkcs1Encode (b / 8) digest else pssEncode (b / 8) digest salt
    pure (be (b / 8) (powMod (beNat em) rk.d rk.n))
/-- RSA_SIGN (0x0811) on core k. -/
def execRsaSign (k : CoreId) (s : State) : Outcome State Fault Refusal :=
  answer (runService s k.toNat 0x0811 true defaultWait svcRsaSign)

/-- RSA_VERIFY (0x0812): R258, R262. -/
def svcRsaVerify : Svc Octets := do
    let i ← getIn
    let b := u16 i 8
    let pub := (u8 i 3).testBit 0
    let refs := if pub then 0 else 1
    let modLen := if pub then b / 8 else 0
    need (i.length == 64 + refsLen refs (i.drop 64) + modLen + b / 8 + u32 i 4) badLength
    need (pkHeaderOk false i true 1 && hashLenOk i) badField
    let (rs, rest) ← pkRefs refs (i.drop 64)
    let n ← (match rs with
      | r :: _ => do
        let key ← resolveKey r
        needKey key ["S0"] "VST" (· == 0x20 + (b - 2048) / 256)
        let rk ← rsaOf key b
        pure rk.n
      | [] => do
        let n := beNat (rest.take modLen)
        need (n % 2 == 1 && exactBits n b) badField
        pure n)
    capacity 0
    let sig := beNat (slice rest modLen (b / 8))
    let digest := digestOf (u8 i 1) (rest.drop (modLen + b / 8))
    let em := be (b / 8) (powMod sig rsaE n)
    need (decide (sig < n) && (if u8 i 2 = 1 then em == pkcs1Encode (b / 8) digest else pssOk digest em)) sigInvalid
    pure []
/-- RSA_VERIFY (0x0812) on core k. -/
def execRsaVerify (k : CoreId) (s : State) : Outcome State Fault Refusal :=
  answer (runService s k.toNat 0x0812 false defaultWait svcRsaVerify)

/-- RSA_DECRYPT (0x0813): RSAES-OAEP (R258, R262).  Its plaintext length is known only after decoding,
so its capacity is judged at the hand-off. -/
def svcRsaDecrypt : Svc Octets := do
    let i ← getIn
    let b := u16 i 8
    need (i.length == 64 + refsLen 1 (i.drop 64) + b / 8) badLength
    need (pkHeaderOk false i false 0 && u8 i 1 == 0 && u32 i 4 == 0) badField
    let (rs, ct) ← pkRefs 1 (i.drop 64)
    let key ← resolveKey (rs.headD noRef)
    needKey key ["D1"] "DT" (· == 0x20 + (b - 2048) / 256)
    let rk ← rsaOf key b
    let v := beNat ct
    need (decide (v < rk.n)) inputRange
    match oaepDecode (be (b / 8) (powMod v rk.d rk.n)) with
    | some m => do
      capacity m.length
      pure m
    | none => fail verifyFailed
/-- RSA_DECRYPT (0x0813) on core k. -/
def execRsaDecrypt (k : CoreId) (s : State) : Outcome State Fault Refusal :=
  answer (runService s k.toNat 0x0813 true defaultWait svcRsaDecrypt)

/-- RSA_KEYGEN (0x0814): the seed's Envelope, then the modulus. -/
def svcRsaKeygen : Svc Octets := do
    let i ← getIn
    let b := u16 i 8
    need (i.length == 128) badLength
    need (pkHeaderOk false i false 0 && u8 i 1 == 0 && u32 i 4 == 0) badField
    let t := slice i 64 64
    needKeygen t (0x20 + (b - 2048) / 256) ["S0", "D1"]
    capacity (128 + b / 8)
    let seed ← random 32
    match expandRsa seed b with
    | none => fail keyEnvelopeInvalid
    | some rk => do
      let (cnum, gen) ← allocate (headerKey t).limit
      let env ← envelopeOut t seed cnum gen
      pure (env.take 128 ++ be (b / 8) rk.n)
/-- RSA_KEYGEN (0x0814) on core k. -/
def execRsaKeygen (k : CoreId) (s : State) : Outcome State Fault Refusal :=
  answer (runService s k.toNat 0x0814 true defaultWait svcRsaKeygen)

/-! ### RKL services (R199, R200) -/

/-- RKL_RSA (0x0605). -/
def svcRklRsa : Svc Octets := do
    let i ← getIn
    let b := u16 i 8
    let (rs, m) ← keymgmtParts [1] true false 1 (fun n => n == b / 8)
    need (decide (2048 ≤ b ∧ b ≤ 4096) && b % 32 == 0 && decide (u8 i 10 ≤ 4) && zeroAt i 11 5 && zeroAt i 32 32) badField
    need (beNat m % 2 == 1 && exactBits (beNat m) b) badField
    let host ← resolveKey (rs.headD noRef)
    needKey host ["S0"] "S" (fun a => decide (a ≥ 0x20))
    let hb := 2048 + 256 * (host.alg - 0x20)
    let alg := keytypeAlg (u8 i 10)
    let n := algLen alg
    let eph := (u8 i 1).testBit 0
    capacity (b / 8 + hb / 8 + (if eph then 0 else 144))
    let r ← random (2 * n + 64)
    let kek := drawnKey alg n r
    let ct := be (b / 8) (powMod (beNat (oaepEncode (b / 8) (slice r (2 * n) 32) kek)) rsaE (beNat m))
    let rk ← rsaOf host hb
    let salt := r.drop (2 * n + 32)
    let digest := sha 32 (slice i 16 16 ++ ct)
    let sig := be (hb / 8) (powMod (beNat (pssEncode (hb / 8) digest salt)) rk.d rk.n)
    if eph then pure (ct ++ sig)
    else do
      let env ← envelopeOut (madeTemplate 0x0605 (u8 i 10) alg n) kek 0 0
      pure (ct ++ sig ++ env)
/-- RKL_RSA (0x0605) on core k. -/
def execRklRsa (k : CoreId) (s : State) : Outcome State Fault Refusal :=
  answer (runService s k.toNat 0x0605 true defaultWait svcRklRsa)

/-- RKL_ECDH (0x0606). -/
def svcRklEcdh (k : CoreId) : Svc Octets := do
    let i ← getIn
    need (decide (u8 i 8 ≤ 15)) badField
    let cv ← needCurve (u8 i 8)
    let (rs, pt) ← keymgmtParts [2] false false 1 (fun n => n == 2 * cv.fo)
    need (zeroAt i 9 7 && zeroAt i 32 32) badField
    let key ← resolveKey (rs.headD noRef)
    need (plainKey key && exportable key true 5) keyUsageDenied
    let st ← getS; let c ← getC
    need (key.source != 0 || polExportDerived st c.slot) policyDenied
    capacity (2 * cv.fo + blockTotal true key)
    let r ← random (cv.no + 8 + 32)
    let q ← liftE (decodePoint cv ([4] ++ pt))
    let d := beNat (r.take (cv.no + 8)) % (cv.n - 1) + 1
    let eph := (encodePoint cv (ecMul cv d (basePoint cv))).drop 1
    match ecMul cv (cv.h * d) q with
    | none => invariantFail k.toNat
    | some (z, _) =>
      let kbpk := oneStep (be cv.fo z) (ascii "PRK-RKL" ++ slice i 16 16 ++ eph) 32
      let a := fit 9 (Config.madeAttrs 0x0606 0)
      pure (eph ++ keyBlock true key key.usage key.mode ((slice a 6 1).headD 0) (slice a 7 2) kbpk (r.drop (cv.no + 8)))
/-- RKL_ECDH (0x0606) on core k. -/
def execRklEcdh (k : CoreId) (s : State) : Outcome State Fault Refusal :=
  answer (runService s k.toNat 0x0606 false defaultWait (svcRklEcdh k))

/-! ### CURVE_LOAD (R250, R252) -/

/-- CURVE_LOAD (0x8020): acts only in MAINTENANCE; the entry's checks draw their bases from I4. -/
def svcCurveLoad : Svc Octets := do
    let i ← getIn
    let st ← getS
    need (st.boot.mode == .maintenance) modeRefused
    need (i.length == 512) badLength
    capacity 0
    need (curveFieldsOk i) badField
    let bases ← (do
      let v ← get
      if v.s.entropy.failed then throw (.fail entropyFailed)
      else if !(canServe v.s 4) then throw (.wait 4)
      else
        let (o, t) := generate v.s 4 (128 * 72) false
        set { v with s := t }
        pure o)
    need (curveMathOk (curveOf i) bases) curveCheckFailed
    modC (fun c => { c with effects := c.effects ++ [Effect.curve (u8 i 0) i], stateChanging := true,
                            journalled := true, keepsReplay := true })
    pure []
/-- CURVE_LOAD (0x8020) on core k. -/
def execCurveLoad (k : CoreId) (s : State) : Outcome State Fault Refusal :=
  answer (runService s k.toNat 0x8020 false defaultWait svcCurveLoad)

end Sys2Proof.Machine
end

