-- ==== Sys2Proof/Machine/KeyRequests.lean ====
section
/-! DEFINITION. The key-unit request port of the logical cores (R304 to R308). -/

namespace Sys2Proof.Machine

open Host

/-- What a request leaves: the key whose attributes the result area shows, octets written to DST,
and a check value. -/
structure KeyDone where
  key : KeyVal := {}
  done : Nat := 0
  kcv : Octets := zeros 5

/-- Check value of a key as the result area gives it (R306). -/
def KeyVal.kcv (k : KeyVal) : Octets := if k.cls = 4 then zeros 5 else (kcvOf k.alg k.bytes).take 5

def doneKey (k : KeyVal) : KeyDone := { key := k, kcv := k.kcv }

/-- The result area of core k takes a result; it shows no key octet. -/
def setKeyResult (s : State) (k : Nat) (r : KeyResult) : State :=
  { s with keys := { s.keys with results := insertAt s.keys.results k r } }

/-- Lies the address range in the staging or the scratch area of entry e? (R307) -/
def inOwnArea (e addr n : Nat) : Bool :=
  let st := stagingAddr e
  let sc := scratchAddr e
  addr % 16 == 0 && ((decide (st ≤ addr) && decide (addr + n ≤ st + 4096)) ||
    (decide (sc ≤ addr) && decide (addr + n ≤ sc + 512)))

/-- Fields that every request must have zero or in range (R304). -/
def requestFieldsOk (r : KeyReq) (targetOk wordOk blockOk : Bool) : Bool :=
  targetOk && (wordOk || r.word == 0) && (blockOk || zeroAt r.block 0 64) && r.reserved1 == 0 && r.reserved2 == 0 &&
  r.reserved3 == 0 && decide (r.auxLen.toNat ≤ 4096)

/-- Carry out a request of core k for the command it runs.  A request while an earlier one of the core
runs is held on the interconnect: nothing happens yet (R304).  Its result stands when
KEY_REQUEST_END ends it. -/
def keyRequest (s : State) (k : Nat) (customMay fieldsOk : Bool) (body : Nat → Svc KeyDone) : State :=
  match running s k with
  | none => s
  | some (e, c) =>
    if ((lookup s.keys.results k).getD {}).busy then s
    else if c.custom && !customMay then setKeyResult s k { busy := true, status := policyDenied }
    else if !fieldsOk then setKeyResult s k { busy := true, status := badField }
    else
      let (r, v) := ((body e).run).run { s := s, e := e, c := c }
      let s := v.s.setCmd e v.c
      match r with
      | .ok d => setKeyResult s k { busy := true, status := stOk, key := { d.key with bytes := [] }, done := d.done, kcv := d.kcv }
      | .error (.fail st) => setKeyResult s k { busy := true, status := st }
      | .error (.short _) => setKeyResult s k { busy := true, status := badLength }
      | .error .hold => s
      | .error (.wait i) =>
        let c := v.c
        let due := c.waitDue.getD (dueTick s (ceilDiv (defaultWait * 10) s.so.sched.tick100ns))
        setKeyResult (s.setCmd e { c with waitDue := some due, waiting := true, waitInst := i }) k { busy := true, status := 0x00FF }

/-- Read a key reference at a FAR address, with the field checks of R149 (R305, R307). -/
def readRef (e : Nat) (ref : BitVec 64) : Svc KeyRef := do
  let s ← getS; let c ← getC
  let a := ref.toNat
  need (a != 0 && inOwnArea e a 80) badField
  let n := krefLen (wmemRead s a 80)
  need (inOwnArea e a n) badField
  liftE (krefCheck s c.slot c.d.version.toNat false (wmemRead s a n))

/-- Resolve the reference at a FAR address for the GROUP of the request (R284, R304). -/
def resolveAt (e : Nat) (ref : BitVec 64) (group : BitVec 8) : Svc KeyVal := do
  let r ← readRef e ref
  let v ← get
  let (k, ctr) ← liftE (resolve v.s v.c.slot v.e v.c.reserved group.toNat r)
  let s := holdRoots (if r.kind = 3 then v.s else cachePut v.s v.c.slot r.body k) v.c.slot
  let held := match ctr with
    | some i => if v.c.reserved.contains i then v.c.reserved else v.c.reserved ++ [i]
    | none => v.c.reserved
  set { v with s := s, c := { v.c with reserved := held } }
  pure k.expanded

/-- Write to DST under the core's master: HOST_FAULT on a host window that refuses it, INTERNAL_FAULT
elsewhere (R307). -/
def writeDst (k e : Nat) (dst : BitVec 64) (o : Octets) : Svc Unit := do
  let s ← getS; let c ← getC
  let a := dst.toNat
  need (a != 0 && a % 16 == 0) badField
  let base := (1 + (s.core k).ctxPort) * 2 ^ 36 + hsOut k c
  if inOwnArea e a o.length || (decide (base ≤ a) && decide (a + o.length ≤ base + hsOutLen c)) then do
    modS (fun s => farWrite s k a o)
    -- farWrite may have written the output kept in the command
    let s ← getS
    modC (fun c => { c with output := ((s.cmd e).map (·.output)).getD c.output })
  else fail (if a / 2 ^ 36 = 1 ∨ a / 2 ^ 36 = 2 then hostFault else internalFault)

/-- Put a key into lane key register TARGET. -/
def toLane (k reg : Nat) (alg : Nat) (o : Octets) : Svc Unit := modS (fun s => setLaneKey s k reg { alg := alg, bytes := o })

def laneTarget (r : KeyReq) : Bool := decide (r.target.toNat ≤ 3)
def seedTarget (r : KeyReq) : Bool := r.target == 0xFF

/-- A load into a register that a job of the core names waits until the job ends (R216): nothing happens
yet. -/
def waitsForJob (s : State) (hash : Bool) (k : Nat) (r : KeyReq) : Bool := laneTarget r && keyInUse s hash k r.target.toNat

/-- LOAD_LANE (OP 0x01). -/
def reqLoadLane (k : Nat) (req : KeyReq) (e : Nat) : Svc KeyDone := do
  let key ← resolveAt e req.ref req.group
  need (key.cls != 4) keyUsageDenied
  toLane k req.target.toNat key.alg key.bytes
  pure (doneKey key)

/-- LOAD_LANE of core k (R304). -/
def execLoadLane (k : CoreId) (req : KeyReq) (s : State) : Outcome State Fault Refusal :=
  answer (
    if waitsForJob s false k.toNat req then s
    else keyRequest s k.toNat true (requestFieldsOk req (laneTarget req) false false && zeroAt req.param 0 16) (reqLoadLane k.toNat req))

/-- LOAD_HASH (OP 0x02): ALG 0x06 only. -/
def reqLoadHash (k : Nat) (req : KeyReq) (e : Nat) : Svc KeyDone := do
  let key ← resolveAt e req.ref req.group
  need (key.alg == 6) keyUsageDenied
  modS (fun s => setHashKey s k req.target.toNat { alg := u8 req.param 0, bytes := key.bytes })
  pure (doneKey key)

/-- LOAD_HASH of core k (R304). -/
def execLoadHash (k : CoreId) (req : KeyReq) (s : State) : Outcome State Fault Refusal :=
  answer (
    if waitsForJob s true k.toNat req then s
    else keyRequest s k.toNat true (requestFieldsOk req (laneTarget req) false false && zeroAt req.param 1 15 &&
        (u8 req.param 0 == 1 || u8 req.param 0 == 2)) (reqLoadHash k.toNat req))

/-- 32-bit limbs of a number, low first, padded with zero limbs to a multiple of 18 words. -/
def limbsOf (octets v : Nat) : List W36 :=
  (List.range (18 * ceilDiv (ceilDiv octets 4) 18)).map (fun i => BitVec.ofNat 36 (v / 2 ^ (32 * i) % 2 ^ 32))

/-- Write words into operand memory from a word on: the range must lie in it; USED is set (R245). -/
def toOpmem (k word : Nat) (l : List W36) : Svc Unit := do
  need (decide (word + l.length ≤ 2048)) badField
  modS (fun s =>
    let c := s.core k
    if c.wmu.scrubbing then s
    else
      let o := (List.range l.length).foldl (fun t i => tset 0 t (word + i) (l.getD i 0)) c.wmu.opmem
      s.setCore k { c with wmu := { c.wmu with used := true, opmem := o } })

/-- Private values of a key into operand memory, and the public point or modulus to DST. -/
def loadPrivate (k e word : Nat) (dst : BitVec 64) (key : KeyVal) : Svc KeyDone := do
  if key.alg < 0x20 then
    let s ← getS
    match curveEntry s (key.alg - 0x10) with
    | none => fail badField
    | some cv =>
      let d ← scalarOf cv key
      toOpmem k word (limbsOf cv.no d)
      let pub := encodePoint cv (ecMul cv d (basePoint cv))
      writeDst k e dst pub
      pure { key := key, done := pub.length }
  else
    let bits := 2048 + 256 * (key.alg - 0x20)
    let r ← rsaOf key bits
    let n := bits / 16
    toOpmem k word (limbsOf n r.p ++ limbsOf n r.q ++ limbsOf n (r.d % (r.p - 1)) ++ limbsOf n (r.d % (r.q - 1)) ++
      limbsOf n (invMod r.q r.p))
    writeDst k e dst (be (bits / 8) r.n)
    pure { key := key, done := bits / 8 }

/-- A key whose private value is the scalar of a brainpoolP384r1 key. -/
def scalarKey (o : Octets) : KeyVal := { alg := 0x11, cls := 4, ktype := 3, bytes := fit 48 o }

/-- LOAD_PRIVATE (OP 0x03): REF, or REF 0 with PARAM[0] naming the Franking key (only while the core runs
a command with FRANK set), the seed register, or the identity key (only while it runs ATTEST). -/
def reqLoadPrivate (k : Nat) (req : KeyReq) (e : Nat) : Svc KeyDone := do
  let st ← getS; let c ← getC
  if req.ref = 0 then
    if u8 req.param 0 = 1 then
      need (wantsFrank c.d) policyDenied
      match st.keys.frankPriv with
      | some d => loadPrivate k e req.word.toNat req.dst (scalarKey d)
      | none => fail keyNotFound
    else if u8 req.param 0 = 2 then
      match lookup st.keys.seeds k with
      | some sd => loadPrivate k e req.word.toNat req.dst { alg := sd.alg, cls := 4, ktype := 2, bytes := sd.bytes }
      | none => fail badField
    else if u8 req.param 0 = 3 then
      need (c.d.opcode == 0x0A01) policyDenied
      match st.warden.identity with
      | some d => loadPrivate k e req.word.toNat req.dst (scalarKey d)
      | none => fail keyNotFound
    else fail badField
  else
    need (u8 req.param 0 == 0) badField
    let key ← resolveAt e req.ref req.group
    need (key.cls == 4) keyUsageDenied
    loadPrivate k e req.word.toNat req.dst key

/-- LOAD_PRIVATE of core k (R304). -/
def execLoadPrivate (k : CoreId) (req : KeyReq) (s : State) : Outcome State Fault Refusal :=
  answer (keyRequest s k.toNat false (requestFieldsOk req (req.target == 0) true false && zeroAt req.param 1 15) (reqLoadPrivate k.toNat req))

/-- DUKPT (OP 0x04): the working key of the reference's KSN into TARGET (R188, R189). -/
def reqDukpt (k : Nat) (req : KeyReq) (e : Nat) : Svc KeyDone := do
  let f := u8 req.param 0
  let d := u8 req.param 1
  let kt := u8 req.param 2
  let r ← readRef e req.ref
  need (isDukptKind r.kind) badField
  need (aesDukptKind r.kind || (kt == 0 && d != 2)) badField
  let bdk ← resolveAt e req.ref req.group
  need (bdkAlg r.kind bdk.alg) keyUsageDenied
  let wk := dukptKey r bdk f d kt
  toLane k req.target.toNat wk.alg wk.bytes
  pure (doneKey bdk)

/-- DUKPT of core k (R304). -/
def execDukpt (k : CoreId) (req : KeyReq) (s : State) : Outcome State Fault Refusal :=
  answer (
    if waitsForJob s false k.toNat req then s
    else
      let f := u8 req.param 0
      let d := u8 req.param 1
      let kt := u8 req.param 2
      keyRequest s k.toNat true (requestFieldsOk req (laneTarget req) false false && decide (1 ≤ f ∧ f ≤ 3 ∧ d ≤ 2 ∧ kt ≤ 4) &&
          zeroAt req.param 3 13) (reqDukpt k.toNat req))

/-- EMV (OP 0x05): the session key of R182 into TARGET. -/
def reqEmv (k : Nat) (req : KeyReq) (e : Nat) : Svc KeyDone := do
  let p := req.param
  let key ← resolveAt e req.ref req.group
  let tdea := u8 p 0 == 1
  need (if tdea then key.alg == 1 else key.alg == 3) keyUsageDenied
  let mk := if u8 p 1 = 4 then key.bytes else emvMk tdea key.bytes (slice p 4 8)
  let sk := emvSk tdea mk (slice p 12 2) (u8 p 2)
  toLane k req.target.toNat key.alg sk
  pure (doneKey key)

/-- EMV of core k (R304). -/
def execEmv (k : CoreId) (req : KeyReq) (s : State) : Outcome State Fault Refusal :=
  answer (
    if waitsForJob s false k.toNat req then s
    else
      let p := req.param
      keyRequest s k.toNat true (requestFieldsOk req (laneTarget req) false false && (u8 p 0 == 1 || u8 p 0 == 2) &&
          (u8 p 1 == 0 || u8 p 1 == 4) && decide (u8 p 2 ≤ 1) && zeroAt p 3 1 && zeroAt p 14 2) (reqEmv k.toNat req))

/-- Put a key or a seed where TARGET says. -/
def toTarget (k : Nat) (r : KeyReq) (alg : Nat) (o : Octets) : Svc Unit :=
  if seedTarget r then modS (fun s => { s with keys := { s.keys with seeds := insertAt s.keys.seeds k { alg := alg, bytes := o } } })
  else toLane k r.target.toNat alg o

/-- DERIVE (OP 0x06): kdf(parent, label) into TARGET; the parent is an AES-256 key (R271, R279). -/
def reqDerive (k : Nat) (req : KeyReq) (e : Nat) : Svc KeyDone := do
  match labelKey req.block with
  | none => fail badField
  | some child =>
    need ((child.cls == 4) == seedTarget req) badField
    let parent ← resolveAt e req.ref req.group
    need (parent.alg == 5) keyUsageDenied
    let o := kdf parent.bytes (fit 64 req.block) (8 * algLen child.alg)
    toTarget k req child.alg (if isTdea child.alg then oddParity o else o)
    pure (doneKey parent)

/-- DERIVE of core k (R304). -/
def execDerive (k : CoreId) (req : KeyReq) (s : State) : Outcome State Fault Refusal :=
  answer (
    if waitsForJob s false k.toNat req then s
    else keyRequest s k.toNat true (requestFieldsOk req (laneTarget req || seedTarget req) false true && zeroAt req.param 0 16) (reqDerive k.toNat req))

/-- GENERATE (OP 0x07): a drawn key into lane register TARGET, or a seed into the seed register (R308). -/
def reqGenerateKey (k : Nat) (req : KeyReq) (_ : Nat) : Svc KeyDone := do
  needTemplate req.block
  need (templateUsageOk req.block) keyUsageDenied
  let h := headerKey req.block
  need ((h.cls == 4) == seedTarget req) badField
  let o ← random (2 * drawLen h)
  toTarget k req h.alg (drawnKey (if h.ktype = 2 then 5 else h.alg) (drawLen h) o)
  pure {}

/-- GENERATE of core k (R304). -/
def execGenerateKey (k : CoreId) (req : KeyReq) (s : State) : Outcome State Fault Refusal :=
  answer (
    if waitsForJob s false k.toNat req then s
    else keyRequest s k.toNat false (requestFieldsOk req (laneTarget req || seedTarget req) false true && zeroAt req.param 0 16) (reqGenerateKey k.toNat req))

/-- WRAP (OP 0x08): the Envelope of the key or seed in TARGET, then its check-value field. -/
def reqWrap (k : Nat) (req : KeyReq) (e : Nat) : Svc KeyDone := do
  needTemplate req.block
  need (templateUsageOk req.block) keyUsageDenied
  let h := headerKey req.block
  let st ← getS
  let held := if seedTarget req then lookup st.keys.seeds k else laneKey st k req.target.toNat
  match held with
  | none => fail badField
  | some key =>
    need (key.alg == h.alg && key.bytes.length == drawLen h) badField
    let (cnum, gen) ← allocate h.limit
    let env ← envelopeOut req.block key.bytes cnum gen
    writeDst k e req.dst env
    pure { key := { h with bytes := key.bytes }, done := env.length, kcv := slice env 128 5 }

/-- WRAP of core k (R304). -/
def execWrap (k : CoreId) (req : KeyReq) (s : State) : Outcome State Fault Refusal :=
  answer (keyRequest s k.toNat false (requestFieldsOk req (laneTarget req || seedTarget req) false true && zeroAt req.param 0 16) (reqWrap k.toNat req))

/-- IMPORT_BLOCK (OP 0x09): R197. -/
def reqImportKeyBlock (k : Nat) (req : KeyReq) (e : Nat) : Svc KeyDone := do
  let n := req.auxLen.toNat
  need (inOwnArea e req.aux.toNat n) badField
  let st ← getS
  let blk := wmemRead st req.aux.toNat n
  let (opts, hdr) ← importForm blk
  let kb ← resolveAt e req.ref2 req.group
  importAllowed blk kb
  let env ← importBlock blk opts hdr kb
  writeDst k e req.dst env
  pure { key := headerKey env, done := env.length, kcv := slice env 128 5 }

/-- IMPORT_BLOCK of core k (R304). -/
def execImportKeyBlock (k : CoreId) (req : KeyReq) (s : State) : Outcome State Fault Refusal :=
  answer (keyRequest s k.toNat false (requestFieldsOk req (req.target == 0) false false && req.ref == 0 && zeroAt req.param 0 16 &&
      decide (16 ≤ req.auxLen.toNat)) (reqImportKeyBlock k.toNat req))

/-- The key that a lane key register holds, as a key made here: its attributes are not the register's
(log entry 27). -/
def laneVal (s : State) (k reg : Nat) : Svc KeyVal :=
  match laneKey s k reg with
  | none => fail badField
  | some x =>
    let a := fit 9 (Config.madeAttrs 0x000A x.alg)
    pure { alg := x.alg, cls := u8 a 0, usage := slice a 3 2, mode := (slice a 5 1).headD 0, exp := 0x45, source := 1,
           len := x.bytes.length, bytes := x.bytes }

/-- EXPORT_BLOCK (OP 0x0A): R198, R288. -/
def reqExportKeyBlock (k : Nat) (req : KeyReq) (e : Nat) : Svc KeyDone := do
  let p := req.param
  let st ← getS
  let key ← (if req.ref = 0 then laneVal st k req.target.toNat else resolveAt e req.ref req.group)
  let verD := u8 p 0 == 2
  let kb ← (if req.ref2 = 0 then do
      let x ← laneVal st k (u8 p 4)
      need (if verD then isAes x.alg else isTdea x.alg) badField
      need (plainKey key && exportable key verD x.alg) keyUsageDenied
      pure x
    else do
      let x ← resolveAt e req.ref2 req.group
      exportAllowed verD key x
      pure x)
  let fill ← random 32
  let blk := keyBlock verD key key.usage key.mode ((slice p 1 1).headD 0) (slice p 2 2) kb.bytes fill
  writeDst k e req.dst blk
  pure { doneKey key with done := blk.length }

/-- EXPORT_BLOCK of core k (R304). -/
def execExportKeyBlock (k : CoreId) (req : KeyReq) (s : State) : Outcome State Fault Refusal :=
  answer (
    let p := req.param
    keyRequest s k.toNat false (requestFieldsOk req (laneTarget req) false false && (u8 p 0 == 2 || u8 p 0 == 3) &&
        (u8 p 1 == 0x45 || u8 p 1 == 0x4E) && decide (u8 p 4 ≤ 3) && zeroAt p 5 11) (reqExportKeyBlock k.toNat req))

/-- SECRET (OP 0x0B): a key from the secret in BLOCK by the one-step KDF (R200, R261); the request keeps
no copy of the secret. -/
def reqSecret (k : Nat) (req : KeyReq) (e : Nat) : Svc KeyDone := do
  let alg := u8 req.param 0
  let len := u8 req.param 1
  let n := req.auxLen.toNat
  need (n == 0 || inOwnArea e req.aux.toNat n) badField
  let st ← getS
  let z := (fit 64 req.block).take (Config.secretLen req.block)
  let o := oneStep z (if n = 0 then [] else wmemRead st req.aux.toNat n) len
  toLane k req.target.toNat alg (if isTdea alg then oddParity o else o)
  pure {}

/-- SECRET of core k (R304). -/
def execSecret (k : CoreId) (req : KeyReq) (s : State) : Outcome State Fault Refusal :=
  answer (
    if waitsForJob s false k.toNat req then s
    else
      let alg := u8 req.param 0
      let len := u8 req.param 1
      keyRequest s k.toNat false (requestFieldsOk req (laneTarget req) false true && decide (1 ≤ alg ∧ alg ≤ 6) &&
          (if alg = 6 then decide (16 ≤ len ∧ len ≤ 64) else len == algLen alg) && zeroAt req.param 2 14 &&
          decide (req.auxLen.toNat ≤ 256)) (reqSecret k.toNat req))

/-- UPGRADE (OP 0x0C): R202. -/
def reqUpgrade (k : Nat) (req : KeyReq) (e : Nat) : Svc KeyDone := do
  let r ← readRef e req.ref
  need (r.kind == 3) badField
  let key ← resolveAt e req.ref req.group
  let env ← upgraded key
  writeDst k e req.dst env
  pure { doneKey key with done := env.length }

/-- UPGRADE of core k (R304). -/
def execUpgrade (k : CoreId) (req : KeyReq) (s : State) : Outcome State Fault Refusal :=
  answer (keyRequest s k.toNat false (requestFieldsOk req (req.target == 0) false false && zeroAt req.param 0 16) (reqUpgrade k.toNat req))

/-- OAEP_KEY (OP 0x0D): the OAEP encoding of the key in TARGET into operand memory (R199). -/
def reqOaepKey (k : Nat) (req : KeyReq) (_ : Nat) : Svc KeyDone := do
  let b := u16 req.param 0
  let st ← getS
  match laneKey st k req.target.toNat with
  | none => fail badField
  | some key =>
    let seed ← random 32
    let v := beNat (oaepEncode (b / 8) seed key.bytes)
    toOpmem k req.word.toNat ((List.range (b / 32)).map (fun i => BitVec.ofNat 36 (v / 2 ^ (32 * i) % 2 ^ 32)))
    pure {}

/-- OAEP_KEY of core k (R304). -/
def execOaepKey (k : CoreId) (req : KeyReq) (s : State) : Outcome State Fault Refusal :=
  answer (
    let b := u16 req.param 0
    keyRequest s k.toNat false (requestFieldsOk req (laneTarget req) true false && decide (2048 ≤ b ∧ b ≤ 4096) && b % 32 == 0 &&
        zeroAt req.param 2 14) (reqOaepKey k.toNat req))

/-- KEY_REQUEST_END: the request of a core ends; its result area may be read (R306). -/
def execKeyRequestEnd (k : CoreId) (s : State) : Outcome State Fault Refusal :=
  answer (
    match lookup s.keys.results k.toNat with
    | some r => setKeyResult s k.toNat { r with busy := false }
    | none => s)

end Sys2Proof.Machine
end

