-- ==== Sys2Proof/Machine/Mgmt.lean ====
section
/-! DEFINITION. The management port: I3C command codes, MCTP control messages and the vendor commands; and the test
access port (R545, R595 to R601). -/

namespace Sys2Proof.Machine

open Host

/-! ### I3C (R595 to R597) -/

/-- The target serves from cold boot step 1 on (R595). -/
def portServes (s : State) : Bool := s.pwrGood && decide (s.boot.step ≥ 1 ∨ s.boot.inReset)
/-- A message to the target's own address reaches it. -/
def addressed (s : State) : Bool := portServes s && s.mgmt.addr.isSome

/-- Change the management port. -/
def State.setMgmt (s : State) (f : Mgmt → Mgmt) : State := { s with mgmt := f s.mgmt }

/-- ENTDAA: the target takes part without an address and with CHAIN_IN high; `addr` is what it is assigned (R597). -/
def execEntdaa (chainIn : Bool) (addr : Option (BitVec 7)) (s : State) : Outcome State Fault Refusal :=
  answer (
    if !portServes s then s
    else
      let s := s.setMgmt (fun m => { m with chainIn := chainIn })
      if s.mgmt.addr.isNone && chainIn then s.setMgmt (fun m => { m with addr := addr }) else s)

/-- RSTDAA: CHAIN_OUT is low without an address (R597). -/
def execRstdaa (s : State) : Outcome State Fault Refusal :=
  answer (if portServes s then s.setMgmt (fun m => { m with addr := none }) else s)

/-- ENEC and DISEC (R595). -/
def execEnec (events : BitVec 8) (s : State) : Outcome State Fault Refusal :=
  answer (if portServes s then s.setMgmt (fun m => { m with events := m.events ||| events }) else s)
def execDisec (events : BitVec 8) (s : State) : Outcome State Fault Refusal :=
  answer (if portServes s then s.setMgmt (fun m => { m with events := m.events &&& ~~~events }) else s)

/-- A length that SETMWL and SETMRL may set (R595). -/
def maxLenOk (n : BitVec 16) : Bool := decide (69 ≤ n.toNat ∧ n.toNat ≤ 4096)

/-- SETMWL: a length outside 69 to 4,096 is not taken. -/
def execSetmwl (n : BitVec 16) (s : State) : Outcome State Fault Refusal :=
  answer (if portServes s && maxLenOk n then s.setMgmt (fun m => { m with mwl := n }) else s)
/-- SETMRL. -/
def execSetmrl (n : BitVec 16) (s : State) : Outcome State Fault Refusal :=
  answer (if portServes s && maxLenOk n then s.setMgmt (fun m => { m with mrl := n }) else s)

/-- Answer a command code. -/
def answerCcc (s : State) (o : Octets) : State := if addressed s then emit s (.ccc o) else s

/-- GETMWL. -/
def execGetmwl (s : State) : Outcome State Fault Refusal := answer (answerCcc s (be 2 s.mgmt.mwl.toNat))
/-- GETMRL: the third octet is the largest IBI payload, the mandatory octet (R595). -/
def execGetmrl (s : State) : Outcome State Fault Refusal := answer (answerCcc s (be 2 s.mgmt.mrl.toNat ++ [1]))
/-- GETPID (R596). -/
def execGetpid (s : State) : Outcome State Fault Refusal :=
  answer (answerCcc s (be 2 (0x574C * 2) ++ be 2 0x3680 ++ be 2 s.warden.serial.toNat))
/-- GETBCR (R596). -/
def execGetbcr (s : State) : Outcome State Fault Refusal := answer (answerCcc s [0x06])
/-- GETDCR (R596). -/
def execGetdcr (s : State) : Outcome State Fault Refusal := answer (answerCcc s [0x00])
/-- GETSTATUS: the manual states no contents: free values (log entry 32). -/
def execGetstatus (s : State) : Outcome State Fault Refusal :=
  answer (
    if !addressed s then s
    else
      let (o, s) := drawOctets s 2
      emit s (.ccc o))

/-- CHAIN_IN_RISE (R597). -/
def execChainInRise (s : State) : Outcome State Fault Refusal := answer (s.setMgmt (fun m => { m with chainIn := true }))

/-- HOT_JOIN: requested without an address, with CHAIN_IN high and Hot-Join enabled (R597). -/
def execHotJoin (s : State) : Outcome State Fault Refusal :=
  answer (if portServes s && s.mgmt.addr.isNone && s.mgmt.chainIn && s.mgmt.events.getLsbD 3 then emit s .hotJoin else s)

/-! ### MCTP control messages (R599; layouts of DSP0236: log entry 32) -/

/-- The answer to a control message: its command code, a completion code, and data. -/
def answerControl (s : State) (cmd cc : Nat) (o : Octets) : State :=
  if addressed s then emit s (.mctp 0x00 (le 1 cmd ++ le 1 cc ++ o)) else s

/-- SET_ENDPOINT_ID: operations 0 and 1 set an ID from 8 to 254; anything else is invalid data. -/
def execSetEndpointId (op : BitVec 2) (eid : BitVec 8) (s : State) : Outcome State Fault Refusal :=
  answer (
    if !addressed s then s
    else if op.toNat ≤ 1 ∧ 8 ≤ eid.toNat ∧ eid.toNat ≤ 254 then
      answerControl (s.setMgmt (fun m => { m with eid := eid })) 1 0 [0, eid, 0]
    else answerControl s 1 2 [])

/-- GET_ENDPOINT_ID: a simple endpoint with a dynamic ID. -/
def execGetEndpointId (s : State) : Outcome State Fault Refusal := answer (answerControl s 2 0 [s.mgmt.eid, 0, 0])

/-- GET_MCTP_VERSION_SUPPORT: for the base, control messages and the vendor type. -/
def execGetMctpVersionSupport (msgType : BitVec 8) (s : State) : Outcome State Fault Refusal :=
  answer (
    if msgType = 0xFF ∨ msgType = 0 ∨ msgType = 0x7E then answerControl s 4 0 (Config.mctpVersions msgType.toNat)
    else answerControl s 4 0x80 [])

/-- GET_MESSAGE_TYPE_SUPPORT: the two types of R599. -/
def execGetMessageTypeSupport (s : State) : Outcome State Fault Refusal := answer (answerControl s 5 0 [2, 0x00, 0x7E])

/-- GET_VENDOR_DEFINED_MESSAGE_SUPPORT: one vendor ID set, of PCI format (R599). -/
def execGetVendorDefinedMessageSupport (selector : BitVec 8) (s : State) : Outcome State Fault Refusal :=
  answer (if selector = 0 then answerControl s 6 0 ([0xFF, 0] ++ mctpVendor ++ Config.mctpVendorSet) else answerControl s 6 2 [])

/-! ### Vendor commands (R600, R601) -/

/-- Identity registers 0x0000 to 0x0017 (00). -/
def identityOctets (s : State) : Octets :=
  le 4 0x574C3680 ++ le 4 0x00000A01 ++ le 8 s.warden.serial.toNat ++ le 4 (0x00020300 + s.boot.mirrorMax.toNat) ++
  le 4 s.boot.fwBuild.toNat

/-- Mode registers 0x0100 to 0x010F (02). -/
def modeOctets (s : State) : Octets :=
  let b := s.boot
  let bit (x : Bool) (n : Nat) : Nat := if x then 2 ^ n else 0
  le 4 (b.mode.code + 16 * s.warden.lc.code + bit b.rngReady 6 + bit b.unsealed 7 + bit b.applied 8 + bit s.pair.joined 9) ++
  le 4 (b.step + 256 * b.fail.toNat) ++ le 4 b.tRng.toNat ++ le 4 b.tRole.toNat

/-- IMG_STATE as its register shows it. -/
def ImgState.code : ImgState → Nat
  | .idle => 0 | .fetching => 1 | .verifying => 2 | .applying => 3 | .done => 4 | .refused => 5

/-- Image registers 0x0130 to 0x013B (02). -/
def imageOctets (s : State) : Octets :=
  let b := s.boot
  le 4 (b.imgStatus.toNat + 65536 * b.imgState.code) ++ le 4 b.imgFaultOff.toNat ++ le 4 b.imgSeq.toNat

/-- Answer a vendor command that acts in every mode. -/
def answerVendor (s : State) (cmd : Nat) (o : Octets) : State := if addressed s then mctpAnswer s cmd stOk o else s

/-- GET_IDENTITY. -/
def execGetIdentity (s : State) : Outcome State Fault Refusal := answer (answerVendor s 0x01 (identityOctets s))
/-- GET_MODE. -/
def execGetMode (s : State) : Outcome State Fault Refusal := answer (answerVendor s 0x02 (modeOctets s))
/-- BATTERY_LOG over MCTP (R531). -/
def execMctpBatteryLog (s : State) : Outcome State Fault Refusal := answer (answerVendor s 0x04 (batteryLogOctets s))
/-- HEALTH_REPORT over MCTP (R487). -/
def execMctpHealthReport (s : State) : Outcome State Fault Refusal := answer (answerVendor s 0x05 (healthOctets s))
/-- IMAGE_STATUS. -/
def execImageStatus (s : State) : Outcome State Fault Refusal := answer (answerVendor s 0x13 (imageOctets s))

/-- IMAGE_BEGIN: as START, with the length it carries (R44, R601). -/
def execImageBegin (len : BitVec 32) (s : State) : Outcome State Fault Refusal :=
  answer (
    if !addressed s then s
    else if imageBusy s then mctpAnswer s 0x10 busyRetry []
    else if !imageAllowed s then mctpAnswer { s with boot := { s.boot with imgStatus := modeRefused } } 0x10 modeRefused []
    else if !lengthOk s len.toNat then mctpAnswer (refuseImage s badLength 0) 0x10 badLength []
    else mctpAnswer (beginImage s len.toNat true) 0x10 stOk [])

/-- A transfer over MCTP is in progress. -/
def mctpTransfer (s : State) : Bool := s.boot.imgState == .fetching && s.boot.byMctp

/-- IMAGE_DATA: 1 to 1,024 octets at the next offset (R600, R601; without a transfer: log entry 44). -/
def execImageData (off : BitVec 32) (data : Octets) (s : State) : Outcome State Fault Refusal :=
  answer (
    if !addressed s then s
    else
      let b := s.boot
      if mctpTransfer s && off.toNat == b.data.length && decide (1 ≤ data.length ∧ data.length ≤ 1024) &&
          decide (b.data.length + data.length ≤ b.dataLen) then
        mctpAnswer { s with boot := { b with data := b.data ++ data } } 0x11 stOk []
      else mctpAnswer s 0x11 badField [])

/-- IMAGE_END: verification begins once every octet has arrived (R601). -/
def execImageEnd (s : State) : Outcome State Fault Refusal :=
  answer (
    if !addressed s then s
    else if mctpTransfer s && s.boot.data.length == s.boot.dataLen then mctpAnswer (imageIn s s.boot.data) 0x12 stOk []
    else mctpAnswer s 0x12 badLength [])

/-- IMAGE_ABORT: as ABORT (R600). -/
def execImageAbort (s : State) : Outcome State Fault Refusal :=
  answer (if addressed s then mctpAnswer (abortImage s) 0x14 stOk [] else s)

/-- IMAGE_TRANSFER_TIMEOUT: 10 s without IMAGE_DATA (R601). -/
def execImageTransferTimeout (s : State) : Outcome State Fault Refusal :=
  answer (if mctpTransfer s then refuseImage s badLength 0 else s)

/-! ### Test access (R56, R545) -/

/-- BOUNDARY_SCAN: the port answers in DIAGNOSTIC alone; SAMPLE/PRELOAD and EXTEST act only in MANUFACTURE and
ISSUED, capture the pins, and load the boundary register. -/
def execBoundaryScan (ir : ScanIr) (tdi pins : Octets) (s : State) : Outcome State Fault Refusal :=
  answer (
    if s.boot.mode != .diagnostic || !s.clocks.pd.getLsbD 25 then s
    else match ir with
      | .bypass => emit s (.tdo (le tdi.length (2 * leNat tdi)))
      | .idcode => emit s (.tdo (le 4 0x1368056F))
      | .samplePreload | .extest =>
        if s.warden.lc == .manufacture || s.warden.lc == .issued then
          emit (s.setMgmt (fun m => { m with boundary := tdi })) (.tdo pins)
        else s)

end Sys2Proof.Machine
end

