-- ==== Sys2Proof/Machine/Modes.lean ====
section
/-! DEFINITION. The mode services: MAINT_ENTER, MAINT_EXIT, IMAGE_REAPPLY, MODULE_RETIRE, DIAG_ENTER and DIAG_EXIT
(R47 to R51, R54, R546, R547). -/

namespace Sys2Proof.Machine

open Host

/-- A ROLE_SWAP or another mode change is in progress: a drain, a MAINT_EXIT, a take of the Crown, or a layout that is
being applied (R49). -/
def changing (s : State) : Bool :=
  s.pair.swap.isSome || modeBusy s || (s.pair.taking.isSome && s.boot.mode != .service) || s.boot.imgState == .applying

/-- The checks that the mode services share: grant, modes, and no change in progress (R49, R54, R542). -/
def modeService (modes : List Mode) : Svc Unit := do
  needGrant
  let st ← getS
  need (!changing st) busyRetry
  inModes modes

/-- MAINT_ENTER from SERVICE: tenant fetching stops, and what is not dispatched ends with NOT_ACTIVE (R50). -/
def beginDrain (s : State) (e : Nat) : State :=
  endUndispatched { s with boot := { s.boot with tenantStop := true, maintDrain := some e } } (fun c => decide (c.slot < 512)) notActive

/-- MAINT_ENTER (0x8010). -/
def svcMaintEnter : Svc Octets := do
    let v ← get
    if v.s.boot.maintDrain = some v.e then throw .hold else pure ()
    modeService [.service, .standby, .staged]
    let st ← getS
    need (!(st.boot.mode == .service && st.pair.joined)) modeRefused
    capacity 0
    if st.boot.mode = .service then
      modS (fun s => beginDrain s v.e)
      throw .hold
    else
      modS (fun s => setMode (leavePair s) .maintenance 0x8010)
      pure []
/-- MAINT_ENTER (0x8010) on core k. -/
def execMaintEnter (k : CoreId) (s : State) : Outcome State Fault Refusal :=
  answer (runService s k.toNat 0x8010 false defaultWait svcMaintEnter)

/-- MAINT_DRAIN_END: every dispatched tenant command has completed (R50). -/
def execMaintDrainEnd (s : State) : Outcome State Fault Refusal :=
  answer (
    match s.boot.maintDrain with
    | none => s
    | some e =>
      if s.boot.mode ≠ .service || s.so.cmds.any (fun x => decide (x.2.slot < 512) && x.2.stage != .done) then s
      else finishHeld (setMode { s with boot := { s.boot with maintDrain := none } } .maintenance 0x8010) e stOk [])

/-- MAINT_EXIT begins: the ceremony is erased, the new policies are in force, and the role is open (R51, R321). -/
def leaveMaintenance (s : State) (e : Nat) : State :=
  let s := { s with keys := { s.keys with ceremony := none }, boot := { s.boot with exitBy := some e } }
  let s := match s.boot.policyNext with
    | some (p, c) => applyPolicy s p c
    | none => s
  announce s

/-- MAINT_EXIT (0x8011): completes once the module is in SERVICE or STANDBY (R47, R494). -/
def svcMaintExit : Svc Octets := do
    let v ← get
    if v.s.boot.exitBy = some v.e then throw .hold else pure ()
    modeService [.maintenance]
    let st ← getS
    need (st.warden.lc == .commissioned) modeRefused
    capacity 0
    modS (fun s => leaveMaintenance s v.e)
    throw .hold
/-- MAINT_EXIT (0x8011) on core k; without a partner in reach the module takes its role at once. -/
def execMaintExit (k : CoreId) (s : State) : Outcome State Fault Refusal :=
  answer (
    let t := runService s k.toNat 0x8011 false defaultWait svcMaintExit
    if s.boot.exitBy.isNone && t.boot.exitBy.isSome && !pairable t then takeAlone t false else t)

/-- IMAGE_REAPPLY (0x8012): arms the image path (R47, R48). -/
def svcImageReapply : Svc Octets := do
    modeService [.maintenance]
    let i ← getIn
    need (zeroAt i 4 4 && zeroAt i 0x38 8) badField
    need (decide (1 ≤ u32 i 0 ∧ u32 i 0 ≤ 0x4000000)) badLength
    capacity 0
    modS (fun s => { s with boot := { s.boot with armed := some (BitVec.ofNat 32 (u32 i 0), slice i 8 48) } })
    pure []
/-- IMAGE_REAPPLY (0x8012) on core k. -/
def execImageReapply (k : CoreId) (s : State) : Outcome State Fault Refusal :=
  answer (runService s k.toNat 0x8012 false defaultWait svcImageReapply)

/-- MODULE_RETIRE (0x8013): a battery log record now, the erase after the completion write (R47, R530). -/
def svcModuleRetire : Svc Octets := do
    modeService [.staged, .maintenance, .locked]
    let v ← get
    need (decide (u64 v.c.d.params 0 = v.s.warden.serial.toNat)) badField
    capacity 0
    modS (fun s => blogRecord s 0x8013)
    modC (fun c => { c with after := .retire })
    pure []
/-- MODULE_RETIRE (0x8013) on core k. -/
def execModuleRetire (k : CoreId) (s : State) : Outcome State Fault Refusal :=
  answer (runService s k.toNat 0x8013 false defaultWait svcModuleRetire)

/-- RETIRE_ERASE: roots, identity key and all working material go; life cycle RETIRED, mode ERASED (R54, R325). -/
def execRetireErase (s : State) : Outcome State Fault Refusal :=
  answer (
    if !s.boot.retireDue then s
    else
      let s := eraseQuorum (eraseCounters (eraseWorking (scrubAll (leavePair (eraseRoots s)))))
      let s := abandonImage (failAll s erasedSt) erasedSt
      let s := { s with boot := { s.boot with unsealed := false, retireDue := false, armed := none } }
      setMode (setLifeCycle s .retired 0x8013) .erased 0x8013)

/-- Step 2 of R546 on a COMMISSIONED module: back to ISSUED without roots, officers and IMAGE_SEQ. -/
def backToIssued (s : State) : State :=
  if s.warden.lc = .commissioned then
    let s := setLifeCycle { s with warden := { s.warden with roots := [] } } .issued 0x8014
    eraseQuorum { s with warden := { s.warden with officers := none, imageSeq := 0 } }
  else s

/-- The steps of DIAG_ENTER (R546). -/
def diagnose (s : State) : State :=
  let s := eraseCounters (eraseWorking (scrubAll (leavePair s)))
  let s := backToIssued (abandonImage s modeRefused)
  let s := { s with warden := { s.warden with lockRec := false }, boot := { s.boot with armed := none } }
  enterDiagnostic (blogRecord s 0x8014) 0x8014

/-- DIAG_ENTER (0x8014). -/
def svcDiagEnter : Svc Octets := do
    modeService [.staged, .maintenance, .locked]
    capacity 0
    modS diagnose
    pure []
/-- DIAG_ENTER (0x8014) on core k. -/
def execDiagEnter (k : CoreId) (s : State) : Outcome State Fault Refusal :=
  answer (runService s k.toNat 0x8014 false defaultWait svcDiagEnter)

/-- DIAG_EXIT (0x8015): PD25 goes off, and the warm reset follows the completion (R547). -/
def svcDiagExit : Svc Octets := do
    inModes [.diagnostic]
    capacity 0
    modS (fun s => { s with clocks := { s.clocks with pd := s.clocks.pd &&& ~~~(0x2000000), gates := s.clocks.gates &&& ~~~(0x8000000) } })
    modC (fun c => { c with after := .diagExit })
    pure []
/-- DIAG_EXIT (0x8015) on core k. -/
def execDiagExit (k : CoreId) (s : State) : Outcome State Fault Refusal :=
  answer (runService s k.toNat 0x8015 false defaultWait svcDiagExit)

end Sys2Proof.Machine
end

