-- ==== Sys2Proof/Machine/RegWrite.lean ====
section
/-! DEFINITION. REGISTER_WRITE: a host write to a 32-bit or 64-bit register of a function's BARs, field by field as
the register tables and their access codes give (R6, R7, R76, R79; the chapters' register tables).  A field that has
a row of its own acts as that row. -/

namespace Sys2Proof.Machine

open Host

/-- The state an outcome leaves; `s` where there is none. -/
def leave (o : Outcome State Fault Refusal) (s : State) : State :=
  match o with
  | .next t => t
  | _ => s

/-- A 64-bit register after a write of one 32-bit half. -/
def withHalf (high : Bool) (v : BitVec 32) (old : BitVec 64) : BitVec 64 :=
  if high then v ++ old.setWidth 32 else (old.extractLsb' 32 32) ++ v

/-- A write-one-to-clear bit (R6). -/
def w1c (old : Bool) (v : BitVec 32) (i : Nat) : Bool := old && !v.getLsbD i

/-- A field of a written word. -/
def fld (v : BitVec 32) (lo w : Nat) : BitVec w := v.extractLsb' lo w

/-! ### 64-bit registers -/

/-- SQ_BASE or CQ_BASE of pigeonhole i: ignored while ENABLE is 1 and during a drain (R79). -/
def writeBase (s : State) (fn : Fn) (i : Nat) (cq : Bool) (f : BitVec 64 → BitVec 64) : State :=
  onPh s fn i (fun n p =>
    if p.enable || p.draining then s
    else s.setPh n (if cq then { p with cqBase := f p.cqBase } else { p with sqBase := f p.sqBase }))

/-- A journal register write: the stream goes to the port written (R471). -/
def writeJournal (s : State) (portB : Bool) (g : Journal → Journal) : State :=
  { s with journal := { g s.journal with port := portB } }

/-- Base of the ring configuration in BAR0, and how many pigeonholes the function shows (03). -/
def cfgBase (fn : Fn) : Nat := if fn.vf = 0 then 0x1400 else 0x0800
def bellBase (fn : Fn) : Nat := if fn.vf = 0 then 0x1100 else 0x0100
def phShown (fn : Fn) : Nat := if fn.vf = 0 then 32 else 64

/-- Pigeonhole and offset within its block of `size` octets, where an offset falls in such a block. -/
def inBlock (base size count off : Nat) : Option (Nat × Nat) :=
  if base ≤ off ∧ off < base + size * count then some ((off - base) / size, (off - base) % size) else none

/-- A write to the 64-bit register at `off`, a multiple of 8: `f` gives its new value from the old one and `acts`
says that the upper half is written.  None where no 64-bit register stands there. -/
def writeLong (s : State) (fn : Fn) (off : Nat) (f : BitVec 64 → BitVec 64) (acts : Bool) : Option State :=
  match inBlock (cfgBase fn) 0x20 (phShown fn) off with
  | some (i, 0x00) => some (writeBase s fn i false f)
  | some (i, 0x08) => some (writeBase s fn i true f)
  | some _ => none
  | none =>
    if fn.vf ≠ 0 then none
    else match inBlock 0x0140 8 8 off with
      | some (7, _) =>
        let v := f (s.pair.relayIn.getD 7 0)
        some (if acts then leave (execRelayIn v s) s
          else { s with pair := { s.pair with relayIn := s.pair.relayIn.set 7 v } })
      | some (i, _) => some { s with pair := { s.pair with relayIn := s.pair.relayIn.set i (f (s.pair.relayIn.getD i 0)) } }
      | none =>
        if off = 0x4008 then some (writeJournal s fn.portB (fun j => { j with streamBase := f j.streamBase }))
        else if off = 0x4018 then some (writeJournal s fn.portB (fun j => { j with startSeq := f j.startSeq }))
        else if off = 0x4020 then some (leave (execJournalHead fn.portB (f s.journal.head) s) s)
        else none

/-! ### 32-bit registers -/

/-- Ring configuration from offset 0x10 (R78, R79, R98). -/
def writeConfig (s : State) (fn : Fn) (i off : Nat) (v : BitVec 32) : State :=
  if off = 0x10 then
    onPh s fn i (fun n p =>
      let ph := BitVec.ofNat 6 i
      if v.getLsbD 16 then leave (execEnable fn ph (fld v 0 5) (fld v 8 6) s) s
      else if p.enable then leave (execEnableOff fn ph s) s
      else if p.draining then s
      else s.setPh n { p with depthLog2 := fld v 0 5, vector := fld v 8 6 })
  else if off = 0x14 then onPh s fn i (fun n p => s.setPh n { p with count := fld v 0 8, timeUs := fld v 8 10 })
  else s

/-- A doorbell (R80, R81, R608). -/
def writeBell (s : State) (fn : Fn) (i off : Nat) (v : BitVec 32) : State :=
  if off = 0 then leave (execSqTail fn (BitVec.ofNat 6 i) (fld v 0 16) s) s
  else if off = 4 then leave (execCqHead fn (BitVec.ofNat 6 i) (fld v 0 16) s) s
  else s

/-- An MSI-X table entry: message address, data, and the mask bit (R99). -/
def writeMsix (s : State) (fn : Fn) (n off : Nat) (v : BitVec 32) : State :=
  let key := msixKey fn n
  let m := tget ({} : MsixVec) s.msix key
  let put (m : MsixVec) : State := { s with msix := tset {} s.msix key m }
  if off = 0 then put { m with addr := withHalf false v m.addr }
  else if off = 4 then put { m with addr := withHalf true v m.addr }
  else if off = 8 then put { m with data := v }
  else if v.getLsbD 0 then put { m with masked := true }
  else leave (execMsixUnmask fn (BitVec.ofNat 6 n) s) s

/-- Mode, reset and image registers (02). -/
def writeBoot (s : State) (portB : Bool) (off : Nat) (v : BitVec 32) : State :=
  if off = 0x0120 then { s with boot := { s.boot with imgAddr := withHalf false v s.boot.imgAddr } }
  else if off = 0x0124 then { s with boot := { s.boot with imgAddr := withHalf true v s.boot.imgAddr } }
  else if off = 0x0128 then { s with boot := { s.boot with imgLen := v } }
  else if off = 0x012C then
    if v.getLsbD 1 then leave (execAbort s) s
    else if v.getLsbD 0 then leave (execStart portB s) s
    else s
  else if off = 0x013C ∧ v.getLsbD 0 then leave (execWarm (fld v 8 8) s) s
  else s

/-- Pair registers (15). -/
def writePair (s : State) (off : Nat) (v : BitVec 32) : State :=
  let p := s.pair
  if off = 0x0180 then
    { s with pair := { p with interlockHeld := w1c p.interlockHeld v 10, verRefused := w1c p.verRefused v 11,
                              domainRefused := w1c p.domainRefused v 12 } }
  else if off = 0x0184 then
    let l := fld v 0 10
    { s with pair := { p with leaseUs := if 100 ≤ l.toNat ∧ l.toNat ≤ 1000 then l else p.leaseUs,
                              relayEn := v.getLsbD 10, vec := fld v 11 3 } }
  else s

/-- Alarm registers (16). -/
def writeAlarm (s : State) (off : Nat) (v : BitVec 32) : State :=
  let a := s.alarms
  if off = 0x0204 then
    { s with alarms := { a with evE := w1c a.evE v 0, evL := w1c a.evL v 1, evF := w1c a.evF v 2, evN := w1c a.evN v 3 } }
  else if off = 0x0208 then
    { s with alarms := { a with vec := fld v 0 3, fIrq := v.getLsbD 3, nIrq := v.getLsbD 4 } }
  else s

/-- The four clears of 0x0A50 (R143). -/
def writeClear (s : State) (portB : Bool) (v : BitVec 32) : State :=
  let s := if v.getLsbD 0 then leave (execClrMax portB s) s else s
  let s := if v.getLsbD 1 then leave (execClrSlot portB s) s else s
  let s := if v.getLsbD 2 then leave (execClrHist portB s) s else s
  if v.getLsbD 3 then leave (execClrDstall s) s else s

/-- Sorting Office observability (04). -/
def writeSorting (s : State) (portB : Bool) (off : Nat) (v : BitVec 32) : State :=
  if off = 0x0800 then leave (execPhSel portB (fld v 0 12) s) s
  else if off = 0x0810 then leave (execSlotSel portB (fld v 0 10) s) s
  else if off = 0x0830 then s.setPort portB { s.port portB with coreSel := fld v 0 7 }
  else if off = 0x0840 then leave (execHistSel portB (fld v 0 3) (fld v 3 3) s) s
  else if off = 0x0A40 then
    { s with so := { s.so with resteer := w1c s.so.resteer v 0, dl3Full := w1c s.so.dl3Full v 1 } }
  else if off = 0x0A50 then writeClear s portB v
  else s

/-- FULL_POLICY changes to OVERWRITE: what waited under STALL is appended (R470). -/
def writeStreamCtrl (s : State) (portB : Bool) (v : BitVec 32) : State :=
  let s := writeJournal s portB (fun j => { j with overwrite := v.getLsbD 1, vec := fld v 8 3 })
  let s := leave (execStreamEn portB (v.getLsbD 0) s) s
  if v.getLsbD 1 then releaseStalled (releaseWaiting (s.journal.waiting.length + 2) s) else s

/-- Journal and timebase registers (14). -/
def writeJournalWord (s : State) (portB : Bool) (off : Nat) (v : BitVec 32) : State :=
  if off = 0x4000 then writeStreamCtrl s portB v
  else if off = 0x4010 then writeJournal s portB (fun j => { j with streamLog2 := fld v 0 5 })
  else if off = 0x4048 then writeJournal s portB (fun j => { j with startLost := w1c j.startLost v 1 })
  else if off = 0x8018 then
    { s with tb := { s.tb with ptmEn := v.getLsbD 0, ptmPort := v.getLsbD 1, stepOk := v.getLsbD 2, periodMs := fld v 8 10 } }
  else if off = 0x801C then
    { s with tb := { s.tb with refused := w1c s.tb.refused v 3, ptmFail := w1c s.tb.ptmFail v 4 } }
  else s

/-- Port registers (03). -/
def writePort (s : State) (portB : Bool) (off : Nat) (v : BitVec 32) : State :=
  let p := s.port portB
  if off = 0x1004 then
    s.setPort portB { p with rateChange := w1c p.rateChange v 0, widthChange := w1c p.widthChange v 1,
                             linkDown := w1c p.linkDown v 2 }
  else s

/-- A 32-bit register of PF0 BAR0 that no block above holds. -/
def writePf0 (s : State) (portB : Bool) (off : Nat) (v : BitVec 32) : State :=
  if off < 0x0140 then writeBoot s portB off v
  else if off < 0x0200 then writePair s off v
  else if off < 0x0400 then writeAlarm s off v
  else if 0x0800 ≤ off ∧ off < 0x1000 then writeSorting s portB off v
  else if 0x1000 ≤ off ∧ off < 0x1100 then writePort s portB off v
  else if off = 0x2000 then leave (execSlotTabSel portB (fld v 0 10) s) s
  else if 0x4000 ≤ off then writeJournalWord s portB off v
  else s

/-- A write of one 32-bit word of BAR0, or of the MSI-X table of PF0 in BAR2. -/
def writeWord (s : State) (fn : Fn) (bar2 : Bool) (off : Nat) (v : BitVec 32) : State :=
  if bar2 then
    if fn.vf = 0 ∧ off < 0x10 * 40 then writeMsix s fn (off / 0x10) (off % 0x10) v else s
  else
    match writeLong s fn (off / 8 * 8) (withHalf (off % 8 == 4) v) (off % 8 == 4) with
    | some t => t
    | none =>
      match inBlock (cfgBase fn) 0x20 (phShown fn) off, inBlock (bellBase fn) 0x10 (phShown fn) off with
      | some (i, o), _ => writeConfig s fn i o v
      | none, some (i, o) => writeBell s fn i o v
      | none, none =>
        if fn.vf = 0 then writePf0 s fn.portB off v
        else match inBlock 0x2000 0x10 64 off with
          | some (n, o) => writeMsix s fn n o v
          | none => s

/-- REGISTER_WRITE: a host write of 32 bits, or of 64 at a multiple of 8, to a function it can reach; reserved bits,
read-only fields and reserved offsets are ignored (R6, R7, R76; how halves act: log entry 45). -/
def execRegisterWrite (fn : Fn) (bar2 : Bool) (off : BitVec 16) (wide : Bool) (value : BitVec 64) (s : State) :
    Outcome State Fault Refusal :=
  answer (
    let o := off.toNat
    if !fnReachable s fn || o % 4 ≠ 0 then s
    else if !wide then writeWord s fn bar2 o (value.setWidth 32)
    else if o % 8 ≠ 0 then s
    else
      match (if bar2 then none else writeLong s fn o (fun _ => value) true) with
      | some t => t
      | none => writeWord (writeWord s fn bar2 o (value.setWidth 32)) fn bar2 (o + 4) (value.extractLsb' 32 32))

end Sys2Proof.Machine
end

