-- ==== Sys2Proof/Machine/WmuOps.lean ====
section
/-! DEFINITION. The wide multiplier unit and its instructions (R238 to R245). -/

namespace Sys2Proof.Machine

open Host

/-- The residue check prime q in force (R243): the boot's secret index into the table of boot ROM. -/
def checkPrime (s : State) : Nat := Config.residuePrime s.entropy.wmuIndex

/-- The multiplicand register named by s, and its residue. -/
def Wmu.mcand (w : Wmu) (m1 : Bool) : BitVec 576 := if m1 then w.m1 else w.m0
def Wmu.mres (w : Wmu) (m1 : Bool) : Nat := if m1 then w.resM1 else w.resM0

/-- Accumulate the multiplicand times a limb (R239), with its residue (R242) and ACNT (R241). -/
def Wmu.accumulate (w : Wmu) (q : Nat) (m1 : Bool) (limb : BitVec 32) : Wmu :=
  { w with acc := w.acc + (w.mcand m1).setWidth 640 * limb.setWidth 640,
           resAcc := (w.resAcc + w.mres m1 * limb.toNat) % q,
           acnt := w.acnt + 1, used := true }

/-- Shift the accumulator right by one limb; the residue loses the outgoing limb and is multiplied
by the inverse of 2^32 (R242). -/
def Wmu.shift (w : Wmu) (q : Nat) : Wmu :=
  { w with acc := w.acc >>> 32,
           resAcc := (w.resAcc + q - (w.acc.extractLsb' 0 32).toNat % q) % q * invPrime (2 ^ 32) q % q,
           acnt := 0 }

/-- Does the residue check of a readout pass? (R242) -/
def Wmu.residueOk (w : Wmu) (q : Nat) : Bool := w.acc.toNat % q == w.resAcc

/-- The low limb that a readout delivers: zero on a residue mismatch, or during a scrub. -/
def Wmu.limbOut (w : Wmu) (q : Nat) : BitVec 32 :=
  if w.scrubbing then 0 else if w.residueOk q then w.acc.extractLsb' 0 32 else 0

/-- Words of operand memory from an address, modulo 2,048 (R239). -/
def Wmu.words (w : Wmu) (a n : Nat) : List W36 := (List.range n).map (fun i => tget 0 w.opmem ((a + i) % 2048))

/-- 18 limbs as a multiplicand, limb 0 first. -/
def limbs : List W36 → Nat
  | [] => 0
  | x :: t => (low32 x).toNat + 2 ^ 32 * limbs t

/-- Write a word at OP and advance it (R238: guard bits zero). -/
def Wmu.put (w : Wmu) (v : BitVec 32) : Wmu :=
  { w with opmem := tset 0 w.opmem w.op.toNat (word32 v), op := w.op + 1, used := true }

/-- A WMU instruction: during a scrub it has no effect (R245). -/
def wmuRun (s : State) (k : Nat) (f : Core → Act) : State :=
  runInsn s k 1 (fun c => if c.wmu.scrubbing then .did {} else f c)

/-- Note a readout's outcome: RFAULT and the deferred fault on a mismatch. -/
def readoutDid (w0 w : Wmu) (q : Nat) (d : Did) : Act :=
  if w0.residueOk q then .did { d with wmu := some w }
  else .did { d with wmu := some { w with rfault := true }, wmuFault := true }

/-- WMU.CLR: ACC := 0; RES_ACC := 0 (R239); RFAULT and ACNT restart (08, status word; R241). -/
def execWmuClr (k : CoreId) (s : State) : Outcome State Fault Refusal :=
  answer (wmuRun s k.toNat (fun c =>
    .did { wmu := some { c.wmu with acc := 0, resAcc := 0, acnt := 0, rfault := false, used := true } }))

/-- WMU.SETP gl, go: LP := gl[10:0]; OP := go[10:0] (R239). -/
def execWmuSetp (k : CoreId) (gl go : BitVec 4) (s : State) : Outcome State Fault Refusal :=
  answer (wmuRun s k.toNat (fun c =>
    .did { wmu := some { c.wmu with lp := (c.reg gl.toNat).extractLsb' 0 11,
                                    op := (c.reg go.toNat).extractLsb' 0 11, used := true } }))

/-- WMU.LDM s, ga: load a multiplicand of 18 limbs (R239); guard bits are GUARD_NONZERO (R241). -/
def execWmuLdm (k : CoreId) (m1 : Bool) (ga : BitVec 4) (s : State) : Outcome State Fault Refusal :=
  answer (wmuRun s k.toNat (fun c =>
    let ws := c.wmu.words ((c.reg ga.toNat).toNat % 2048) 18
    if ws.any (fun v => guardBits v ≠ 0) then .handled evGuard false {}
    else
      let m := limbs ws
      let r := m % checkPrime s
      if m1 then .did { wmu := some { c.wmu with m1 := BitVec.ofNat 576 m, resM1 := r, used := true } }
      else .did { wmu := some { c.wmu with m0 := BitVec.ofNat 576 m, resM0 := r, used := true } }))

/-- The accumulation limit of R241. -/
def atLimit (w : Wmu) : Bool := w.acnt == BitVec.allOnes 32

/-- WMU.MAC s, b: ACC := ACC + Ms × b[31:0] (R239, R241). -/
def execWmuMac (k : CoreId) (m1 : Bool) (b : BitVec 4) (s : State) : Outcome State Fault Refusal :=
  answer (wmuRun s k.toNat (fun c =>
    if guardBits (c.reg b.toNat) ≠ 0 then .handled evGuard false {}
    else if atLimit c.wmu then .terminal evIllegal
    else .did { wmu := some (c.wmu.accumulate (checkPrime s) m1 (low32 (c.reg b.toNat))) }))

/-- Accumulate the word at LP and advance it, or the event that prevents it (R239, R241). -/
def streamed (w : Wmu) (q : Nat) (m1 : Bool) : Except Act Wmu :=
  let v := tget 0 w.opmem w.lp.toNat
  if guardBits v ≠ 0 then .error (.handled evGuard false {})
  else if atLimit w then .error (.terminal evIllegal)
  else .ok { w.accumulate q m1 (low32 v) with lp := w.lp + 1 }

/-- WMU.MACS s: ACC := ACC + Ms × word[LP][31:0]; LP := LP + 1 (R239). -/
def execWmuMacs (k : CoreId) (m1 : Bool) (s : State) : Outcome State Fault Refusal :=
  answer (wmuRun s k.toNat (fun c =>
    match streamed c.wmu (checkPrime s) m1 with
    | .error a => a
    | .ok w => .did { wmu := some w }))

/-- WMU.MACS.SH s: as WMU.MACS, then word[OP] := ACC[31:0], OP := OP + 1, ACC := ACC >> 32 (R239). -/
def execWmuMacsSh (k : CoreId) (m1 : Bool) (s : State) : Outcome State Fault Refusal :=
  answer (wmuRun s k.toNat (fun c =>
    match streamed c.wmu (checkPrime s) m1 with
    | .error a => a
    | .ok w =>
      let q := checkPrime s
      readoutDid w ((w.put (w.limbOut q)).shift q) q {}))

/-- WMU.PEEK d: d := ACC[31:0] (R239). -/
def execWmuPeek (k : CoreId) (d : BitVec 4) (s : State) : Outcome State Fault Refusal :=
  answer (runInsn s k.toNat 1 (fun c =>
    let q := checkPrime s
    if c.wmu.scrubbing then .did { regs := [(d.toNat, 0)] }
    else readoutDid c.wmu { c.wmu with used := true } q { regs := [(d.toNat, word32 (c.wmu.limbOut q))] }))

/-- WMU.POP d: d := ACC[31:0]; ACC := ACC >> 32 (R239). -/
def execWmuPop (k : CoreId) (d : BitVec 4) (s : State) : Outcome State Fault Refusal :=
  answer (runInsn s k.toNat 1 (fun c =>
    let q := checkPrime s
    if c.wmu.scrubbing then .did { regs := [(d.toNat, 0)] }
    else readoutDid c.wmu { (c.wmu.shift q) with used := true } q { regs := [(d.toNat, word32 (c.wmu.limbOut q))] }))

/-- WMU.POPS: word[OP] := ACC[31:0]; OP := OP + 1; ACC := ACC >> 32 (R239). -/
def execWmuPops (k : CoreId) (s : State) : Outcome State Fault Refusal :=
  answer (wmuRun s k.toNat (fun c =>
    let q := checkPrime s
    readoutDid c.wmu ((c.wmu.put (c.wmu.limbOut q)).shift q) q {}))

/-- The WMU status word (08, status word). -/
def Wmu.status (w : Wmu) : Nat :=
  w.lp.toNat + w.op.toNat * 2 ^ 11 + (if w.scrubbing then 2 ^ 22 else 0) +
  (if w.rfault then 2 ^ 23 else 0) + (if w.used then 2 ^ 24 else 0)

/-- WMU.STAT d: d := the WMU status word (R239); it acts during a scrub too (R245).  The word shows
USED as it stands before this instruction sets it (log entry 13). -/
def execWmuStat (k : CoreId) (d : BitVec 4) (s : State) : Outcome State Fault Refusal :=
  answer (runInsn s k.toNat 1 (fun c =>
    .did { regs := [(d.toNat, BitVec.ofNat 36 c.wmu.status)],
           wmu := if c.wmu.scrubbing then none else some { c.wmu with used := true } }))

/-- SCRUB_END: the 256-clock scrub ends and the core may be dispatched again (R245, R246); after the second residue
fault within 24 h its cluster is lost (R244). -/
def execScrubEnd (k : CoreId) (s : State) : Outcome State Fault Refusal :=
  answer (
    let c := s.core k.toNat
    if !c.wmu.scrubbing then s
    else
      let s := s.setCore k.toNat { c with wmu := { c.wmu with scrubbing := false }, wmuLost := false }
      if c.wmuLost then clusterLost s (k.toNat / 8) else s)

/-- D_SRAM_CLEARED: the zeroing of the written D-SRAM blocks completes (R393). -/
def execDSramCleared (k : CoreId) (s : State) : Outcome State Fault Refusal :=
  answer (s.setCore k.toNat { s.core k.toNat with clearing := false })

end Sys2Proof.Machine
end

