-- ==== Sys2Proof/Machine/Dispatch.lean ====
section
/-! DEFINITION. The one match over the commands: each arm calls the meaning of its own row. -/

namespace Sys2Proof.Machine

open Host

def exec (i : Instr) (s : State) : Host.Outcome State Fault Refusal :=
  match i with
  | .pwrGoodRise vbatMv xstart => Sys2Proof.Machine.execPwrGoodRise vbatMv xstart s
  | .xaDelayEnd => Sys2Proof.Machine.execXaDelayEnd s
  | .xaQualify count => Sys2Proof.Machine.execXaQualify count s
  | .pllLock pll => Sys2Proof.Machine.execPllLock pll s
  | .bootRom linkOk => Sys2Proof.Machine.execBootRom linkOk s
  | .bootSelftest r => Sys2Proof.Machine.execBootSelftest r s
  | .entropyStartup passed condPass katOk => Sys2Proof.Machine.execEntropyStartup passed condPass katOk s
  | .pwrGoodFall => Sys2Proof.Machine.execPwrGoodFall s
  | .pwrGoodHoldoff level vbatMv xstart => Sys2Proof.Machine.execPwrGoodHoldoff level vbatMv xstart s
  | .resetNAssert => Sys2Proof.Machine.execResetNAssert s
  | .resetRelease xaRan => Sys2Proof.Machine.execResetRelease xaRan s
  | .warm key => Sys2Proof.Machine.execWarm key s
  | .start portB => Sys2Proof.Machine.execStart portB s
  | .abort => Sys2Proof.Machine.execAbort s
  | .imageReceived r => Sys2Proof.Machine.execImageReceived r s
  | .imageVerified => Sys2Proof.Machine.execImageVerified s
  | .layoutApplied => Sys2Proof.Machine.execLayoutApplied s
  | .pairDecision peerIn => Sys2Proof.Machine.execPairDecision peerIn s
  | .pairWaitExpiry peerIn => Sys2Proof.Machine.execPairWaitExpiry peerIn s
  | .pairRetry peerIn => Sys2Proof.Machine.execPairRetry peerIn s
  | .imageArmLapse => Sys2Proof.Machine.execImageArmLapse s
  | .imageBegin len => Sys2Proof.Machine.execImageBegin len s
  | .imageData off data => Sys2Proof.Machine.execImageData off data s
  | .imageEnd => Sys2Proof.Machine.execImageEnd s
  | .imageStatus => Sys2Proof.Machine.execImageStatus s
  | .imageAbort => Sys2Proof.Machine.execImageAbort s
  | .imageTransferTimeout => Sys2Proof.Machine.execImageTransferTimeout s
  | .getIdentity => Sys2Proof.Machine.execGetIdentity s
  | .getMode => Sys2Proof.Machine.execGetMode s
  | .mctpBatteryLog => Sys2Proof.Machine.execMctpBatteryLog s
  | .mctpHealthReport => Sys2Proof.Machine.execMctpHealthReport s
  | .setEndpointId op eid => Sys2Proof.Machine.execSetEndpointId op eid s
  | .getEndpointId => Sys2Proof.Machine.execGetEndpointId s
  | .getMctpVersionSupport msgType => Sys2Proof.Machine.execGetMctpVersionSupport msgType s
  | .getMessageTypeSupport => Sys2Proof.Machine.execGetMessageTypeSupport s
  | .getVendorDefinedMessageSupport selector => Sys2Proof.Machine.execGetVendorDefinedMessageSupport selector s
  | .entdaa chainIn addr => Sys2Proof.Machine.execEntdaa chainIn addr s
  | .rstdaa => Sys2Proof.Machine.execRstdaa s
  | .enec events => Sys2Proof.Machine.execEnec events s
  | .disec events => Sys2Proof.Machine.execDisec events s
  | .setmwl n => Sys2Proof.Machine.execSetmwl n s
  | .setmrl n => Sys2Proof.Machine.execSetmrl n s
  | .getmwl => Sys2Proof.Machine.execGetmwl s
  | .getmrl => Sys2Proof.Machine.execGetmrl s
  | .getpid => Sys2Proof.Machine.execGetpid s
  | .getbcr => Sys2Proof.Machine.execGetbcr s
  | .getdcr => Sys2Proof.Machine.execGetdcr s
  | .getstatus => Sys2Proof.Machine.execGetstatus s
  | .chainInRise => Sys2Proof.Machine.execChainInRise s
  | .hotJoin => Sys2Proof.Machine.execHotJoin s
  | .maintEnter k => Sys2Proof.Machine.execMaintEnter k s
  | .maintDrainEnd => Sys2Proof.Machine.execMaintDrainEnd s
  | .maintExit k => Sys2Proof.Machine.execMaintExit k s
  | .imageReapply k => Sys2Proof.Machine.execImageReapply k s
  | .moduleRetire k => Sys2Proof.Machine.execModuleRetire k s
  | .retireErase => Sys2Proof.Machine.execRetireErase s
  | .diagEnter k => Sys2Proof.Machine.execDiagEnter k s
  | .diagExit k => Sys2Proof.Machine.execDiagExit k s
  | .perstAssert portB => Sys2Proof.Machine.execPerstAssert portB s
  | .portLinkDown portB => Sys2Proof.Machine.execPortLinkDown portB s
  | .perstRelease portB => Sys2Proof.Machine.execPerstRelease portB s
  | .linkTrained portB rate width => Sys2Proof.Machine.execLinkTrained portB rate width s
  | .flrVf fn => Sys2Proof.Machine.execFlrVf fn s
  | .flrPf0 portB => Sys2Proof.Machine.execFlrPf0 portB s
  | .vfEnable portB enable numVfs => Sys2Proof.Machine.execVfEnable portB enable numVfs s
  | .msixUnmask fn vector => Sys2Proof.Machine.execMsixUnmask fn vector s
  | .enable fn ph depthLog2 vector => Sys2Proof.Machine.execEnable fn ph depthLog2 vector s
  | .enableOff fn ph => Sys2Proof.Machine.execEnableOff fn ph s
  | .ringDrainEnd ph => Sys2Proof.Machine.execRingDrainEnd ph s
  | .sqTail fn ph value => Sys2Proof.Machine.execSqTail fn ph value s
  | .cqHead fn ph value => Sys2Proof.Machine.execCqHead fn ph value s
  | .fetchCredit portB => Sys2Proof.Machine.execFetchCredit portB s
  | .descriptorFetch ph d => Sys2Proof.Machine.execDescriptorFetch ph d s
  | .pendingPlacement => Sys2Proof.Machine.execPendingPlacement s
  | .inputLanded e data => Sys2Proof.Machine.execInputLanded e data s
  | .dispatch k => Sys2Proof.Machine.execDispatch k s
  | .completionWrite e => Sys2Proof.Machine.execCompletionWrite e s
  | .coalesceTimer ph => Sys2Proof.Machine.execCoalesceTimer ph s
  | .supervisorTimer insert => Sys2Proof.Machine.execSupervisorTimer insert s
  | .hostAccessFault e translation written => Sys2Proof.Machine.execHostAccessFault e translation written s
  | .ringAccessFault ph => Sys2Proof.Machine.execRingAccessFault ph s
  | .pageGrant e => Sys2Proof.Machine.execPageGrant e s
  | .pageWaitExpiry e => Sys2Proof.Machine.execPageWaitExpiry e s
  | .replayExpiry slot ph cmdId => Sys2Proof.Machine.execReplayExpiry slot ph cmdId s
  | .openCh k => Sys2Proof.Machine.execOpenCh k s
  | .closeCh k => Sys2Proof.Machine.execCloseCh k s
  | .closeComplete ph => Sys2Proof.Machine.execCloseComplete ph s
  | .nop k => Sys2Proof.Machine.execNop k s
  | .version k => Sys2Proof.Machine.execVersion k s
  | .soDefer k ticks => Sys2Proof.Machine.execSoDefer k ticks s
  | .deferExpiry e => Sys2Proof.Machine.execDeferExpiry e s
  | .enq master value => Sys2Proof.Machine.execEnq master value s
  | .phSel portB value => Sys2Proof.Machine.execPhSel portB value s
  | .slotSel portB value => Sys2Proof.Machine.execSlotSel portB value s
  | .histSel portB cluster level => Sys2Proof.Machine.execHistSel portB cluster level s
  | .clrMax portB => Sys2Proof.Machine.execClrMax portB s
  | .clrSlot portB => Sys2Proof.Machine.execClrSlot portB s
  | .clrHist portB => Sys2Proof.Machine.execClrHist portB s
  | .clrDstall => Sys2Proof.Machine.execClrDstall s
  | .busyWindowEnd second k busy => Sys2Proof.Machine.execBusyWindowEnd second k busy s
  | .slotTabSel portB value => Sys2Proof.Machine.execSlotTabSel portB value s
  | .registerWrite fn bar2 off wide value => Sys2Proof.Machine.execRegisterWrite fn bar2 off wide value s
  | .pinTranslate k => Sys2Proof.Machine.execPinTranslate k s
  | .pinVerify k => Sys2Proof.Machine.execPinVerify k s
  | .pinGenerate k => Sys2Proof.Machine.execPinGenerate k s
  | .pinChange k => Sys2Proof.Machine.execPinChange k s
  | .cvcGenerate k => Sys2Proof.Machine.execCvcGenerate k s
  | .cvcVerify k => Sys2Proof.Machine.execCvcVerify k s
  | .pinRefGenerate k => Sys2Proof.Machine.execPinRefGenerate k s
  | .emvArqcVerify k => Sys2Proof.Machine.execEmvArqcVerify k s
  | .emvArpcGenerate k => Sys2Proof.Machine.execEmvArpcGenerate k s
  | .emvScriptMac k => Sys2Proof.Machine.execEmvScriptMac k s
  | .emvScriptEncrypt k => Sys2Proof.Machine.execEmvScriptEncrypt k s
  | .emvSessionKey k => Sys2Proof.Machine.execEmvSessionKey k s
  | .dukptIkExport k => Sys2Proof.Machine.execDukptIkExport k s
  | .dukptTerminalKey k => Sys2Proof.Machine.execDukptTerminalKey k s
  | .dukptDecrypt k => Sys2Proof.Machine.execDukptDecrypt k s
  | .dukptEncrypt k => Sys2Proof.Machine.execDukptEncrypt k s
  | .dukptMacVerify k => Sys2Proof.Machine.execDukptMacVerify k s
  | .dukptMacGenerate k => Sys2Proof.Machine.execDukptMacGenerate k s
  | .macGenerate k => Sys2Proof.Machine.execMacGenerate k s
  | .macVerify k => Sys2Proof.Machine.execMacVerify k s
  | .keyGenerate k => Sys2Proof.Machine.execKeyGenerate k s
  | .keyDerive k => Sys2Proof.Machine.execKeyDerive k s
  | .keyImport k => Sys2Proof.Machine.execKeyImport k s
  | .keyExport k => Sys2Proof.Machine.execKeyExport k s
  | .rklRsa k => Sys2Proof.Machine.execRklRsa k s
  | .rklEcdh k => Sys2Proof.Machine.execRklEcdh k s
  | .envelopeMake k => Sys2Proof.Machine.execEnvelopeMake k s
  | .envelopeUpgrade k => Sys2Proof.Machine.execEnvelopeUpgrade k s
  | .keyCheckValue k => Sys2Proof.Machine.execKeyCheckValue k s
  | .gcmEncrypt k => Sys2Proof.Machine.execGcmEncrypt k s
  | .gcmDecrypt k => Sys2Proof.Machine.execGcmDecrypt k s
  | .cbcEncrypt k => Sys2Proof.Machine.execCbcEncrypt k s
  | .cbcDecrypt k => Sys2Proof.Machine.execCbcDecrypt k s
  | .ctrCrypt k => Sys2Proof.Machine.execCtrCrypt k s
  | .ff1Encrypt k => Sys2Proof.Machine.execFf1Encrypt k s
  | .ff1Decrypt k => Sys2Proof.Machine.execFf1Decrypt k s
  | .randomBytes k => Sys2Proof.Machine.execRandomBytes k s
  | .ecdsaSign k => Sys2Proof.Machine.execEcdsaSign k s
  | .ecdsaVerify k => Sys2Proof.Machine.execEcdsaVerify k s
  | .ecdh k => Sys2Proof.Machine.execEcdh k s
  | .ecKeygen k => Sys2Proof.Machine.execEcKeygen k s
  | .rsaSign k => Sys2Proof.Machine.execRsaSign k s
  | .rsaVerify k => Sys2Proof.Machine.execRsaVerify k s
  | .rsaDecrypt k => Sys2Proof.Machine.execRsaDecrypt k s
  | .rsaKeygen k => Sys2Proof.Machine.execRsaKeygen k s
  | .curveLoad k => Sys2Proof.Machine.execCurveLoad k s
  | .attest k => Sys2Proof.Machine.execAttest k s
  | .frankCert k => Sys2Proof.Machine.execFrankCert k s
  | .counterRead k => Sys2Proof.Machine.execCounterRead k s
  | .ceremonyBegin k => Sys2Proof.Machine.execCeremonyBegin k s
  | .shareExport k => Sys2Proof.Machine.execShareExport k s
  | .shareSubmit k => Sys2Proof.Machine.execShareSubmit k s
  | .ceremonyCommit k => Sys2Proof.Machine.execCeremonyCommit k s
  | .drErase k => Sys2Proof.Machine.execDrErase k s
  | .ceremonyTimeout => Sys2Proof.Machine.execCeremonyTimeout s
  | .arraySelftest k failLanes failHash => Sys2Proof.Machine.execArraySelftest k failLanes failHash s
  | .rngSelftest k condPass dfPass expPass => Sys2Proof.Machine.execRngSelftest k condPass dfPass expPass s
  | .rngStatus k => Sys2Proof.Machine.execRngStatus k s
  | .rngConfig k passed => Sys2Proof.Machine.execRngConfig k passed s
  | .rngRawRead k => Sys2Proof.Machine.execRngRawRead k s
  | .slotCreate k => Sys2Proof.Machine.execSlotCreate k s
  | .slotDestroy k => Sys2Proof.Machine.execSlotDestroy k s
  | .slotCleanupEnd slot => Sys2Proof.Machine.execSlotCleanupEnd slot s
  | .slotQuiesce k => Sys2Proof.Machine.execSlotQuiesce k s
  | .quiesceDrainEnd slot => Sys2Proof.Machine.execQuiesceDrainEnd slot s
  | .slotResume k => Sys2Proof.Machine.execSlotResume k s
  | .slotSave k => Sys2Proof.Machine.execSlotSave k s
  | .slotRestore k => Sys2Proof.Machine.execSlotRestore k s
  | .logEnable k => Sys2Proof.Machine.execLogEnable k s
  | .harvest k => Sys2Proof.Machine.execHarvest k s
  | .logDisable k => Sys2Proof.Machine.execLogDisable k s
  | .healthReport k => Sys2Proof.Machine.execHealthReport k s
  | .batteryLog k => Sys2Proof.Machine.execBatteryLog k s
  | .roleSwap k => Sys2Proof.Machine.execRoleSwap k s
  | .roleSwapDrainEnd inTime => Sys2Proof.Machine.execRoleSwapDrainEnd inTime s
  | .pairForce k peerIn => Sys2Proof.Machine.execPairForce k peerIn s
  | .dryFire k raw => Sys2Proof.Machine.execDryFire k raw s
  | .dryfireWindowEnd detected cleared detectNs windowNs raw unit value => Sys2Proof.Machine.execDryfireWindowEnd detected cleared detectNs windowNs raw unit value s
  | .tamperConfig k levels => Sys2Proof.Machine.execTamperConfig k levels s
  | .quorumChallenge k => Sys2Proof.Machine.execQuorumChallenge k s
  | .quorumGrant k => Sys2Proof.Machine.execQuorumGrant k s
  | .challengeExpiry id => Sys2Proof.Machine.execChallengeExpiry id s
  | .grantExpiry portB opcode cmdId => Sys2Proof.Machine.execGrantExpiry portB opcode cmdId s
  | .unlock k => Sys2Proof.Machine.execUnlock k s
  | .unlockReset => Sys2Proof.Machine.execUnlockReset s
  | .nopInsn k => Sys2Proof.Machine.execNopInsn k s
  | .mov k d a => Sys2Proof.Machine.execMov k d a s
  | .addInsn k d a b => Sys2Proof.Machine.execAddInsn k d a b s
  | .subInsn k d a b => Sys2Proof.Machine.execSubInsn k d a b s
  | .andInsn k d a b => Sys2Proof.Machine.execAndInsn k d a b s
  | .orInsn k d a b => Sys2Proof.Machine.execOrInsn k d a b s
  | .xorInsn k d a b => Sys2Proof.Machine.execXorInsn k d a b s
  | .addcInsn k d a b => Sys2Proof.Machine.execAddcInsn k d a b s
  | .subbInsn k d a b => Sys2Proof.Machine.execSubbInsn k d a b s
  | .shlInsn k d a b => Sys2Proof.Machine.execShlInsn k d a b s
  | .shrInsn k d a b => Sys2Proof.Machine.execShrInsn k d a b s
  | .sltuInsn k d a b => Sys2Proof.Machine.execSltuInsn k d a b s
  | .mulInsn k d a b => Sys2Proof.Machine.execMulInsn k d a b s
  | .mulhuInsn k d a b => Sys2Proof.Machine.execMulhuInsn k d a b s
  | .norm k d a => Sys2Proof.Machine.execNorm k d a s
  | .gget k d a => Sys2Proof.Machine.execGget k d a s
  | .gclr k d a => Sys2Proof.Machine.execGclr k d a s
  | .li k d imm => Sys2Proof.Machine.execLi k d imm s
  | .addi k d imm => Sys2Proof.Machine.execAddi k d imm s
  | .shli k d imm => Sys2Proof.Machine.execShli k d imm s
  | .shri k d imm => Sys2Proof.Machine.execShri k d imm s
  | .ld k d a u => Sys2Proof.Machine.execLd k d a u s
  | .st k v a u => Sys2Proof.Machine.execSt k v a u s
  | .norms k a => Sys2Proof.Machine.execNorms k a s
  | .zeros k a => Sys2Proof.Machine.execZeros k a s
  | .beqz k a off => Sys2Proof.Machine.execBeqz k a off s
  | .bnez k a off => Sys2Proof.Machine.execBnez k a off s
  | .jr k a => Sys2Proof.Machine.execJr k a s
  | .jalr k a => Sys2Proof.Machine.execJalr k a s
  | .rep k n body => Sys2Proof.Machine.execRep k n body s
  | .repi k n body => Sys2Proof.Machine.execRepi k n body s
  | .doneInsn k a b => Sys2Proof.Machine.execDoneInsn k a b s
  | .rfe k => Sys2Proof.Machine.execRfe k s
  | .cyc k d => Sys2Proof.Machine.execCyc k d s
  | .movs k d sp => Sys2Proof.Machine.execMovs k d sp s
  | .movt k sp a => Sys2Proof.Machine.execMovt k sp a s
  | .alu k op d a b => Sys2Proof.Machine.execAlu k op d a b s
  | .sel k d a b c => Sys2Proof.Machine.execSel k d a b c s
  | .addiLong k d a imm => Sys2Proof.Machine.execAddiLong k d a imm s
  | .andi k d a imm => Sys2Proof.Machine.execAndi k d a imm s
  | .ori k d a imm => Sys2Proof.Machine.execOri k d a imm s
  | .xori k d a imm => Sys2Proof.Machine.execXori k d a imm s
  | .movi k d imm => Sys2Proof.Machine.execMovi k d imm s
  | .lui k d imm => Sys2Proof.Machine.execLui k d imm s
  | .shliLong k d a imm => Sys2Proof.Machine.execShliLong k d a imm s
  | .shriLong k d a imm => Sys2Proof.Machine.execShriLong k d a imm s
  | .ldLong k d a off => Sys2Proof.Machine.execLdLong k d a off s
  | .stLong k v a off => Sys2Proof.Machine.execStLong k v a off s
  | .beq k a b off => Sys2Proof.Machine.execBeq k a b off s
  | .bne k a b off => Sys2Proof.Machine.execBne k a b off s
  | .bltu k a b off => Sys2Proof.Machine.execBltu k a b off s
  | .bgeu k a b off => Sys2Proof.Machine.execBgeu k a b off s
  | .jal k off => Sys2Proof.Machine.execJal k off s
  | .fld k seg d a off => Sys2Proof.Machine.execFld k seg d a off s
  | .fst k seg v a off => Sys2Proof.Machine.execFst k seg v a off s
  | .fmr k seg d a b => Sys2Proof.Machine.execFmr k seg d a b s
  | .fmw k seg d a b => Sys2Proof.Machine.execFmw k seg d a b s
  | .farAnswer k r => Sys2Proof.Machine.execFarAnswer k r s
  | .cycleLimit k => Sys2Proof.Machine.execCycleLimit k s
  | .wmuClr k => Sys2Proof.Machine.execWmuClr k s
  | .wmuSetp k gl go => Sys2Proof.Machine.execWmuSetp k gl go s
  | .wmuLdm k m1 ga => Sys2Proof.Machine.execWmuLdm k m1 ga s
  | .wmuMac k m1 b => Sys2Proof.Machine.execWmuMac k m1 b s
  | .wmuMacs k m1 => Sys2Proof.Machine.execWmuMacs k m1 s
  | .wmuMacsSh k m1 => Sys2Proof.Machine.execWmuMacsSh k m1 s
  | .wmuPeek k d => Sys2Proof.Machine.execWmuPeek k d s
  | .wmuPop k d => Sys2Proof.Machine.execWmuPop k d s
  | .wmuPops k => Sys2Proof.Machine.execWmuPops k s
  | .wmuStat k d => Sys2Proof.Machine.execWmuStat k d s
  | .scrubEnd k => Sys2Proof.Machine.execScrubEnd k s
  | .ecb k j => Sys2Proof.Machine.execEcb k j s
  | .cbc k j => Sys2Proof.Machine.execCbc k j s
  | .ctr k j => Sys2Proof.Machine.execCtr k j s
  | .cbcMac k j => Sys2Proof.Machine.execCbcMac k j s
  | .cmac k j => Sys2Proof.Machine.execCmac k j s
  | .gcm k j => Sys2Proof.Machine.execGcm k j s
  | .keychain k byCore j => Sys2Proof.Machine.execKeychain k byCore j s
  | .hashJob k j => Sys2Proof.Machine.execHashJob k j s
  | .jobEnd k hash tag r => Sys2Proof.Machine.execJobEnd k hash tag r s
  | .laneParity hash at_ => Sys2Proof.Machine.execLaneParity hash at_ s
  | .laneKatEnd hash lane pass => Sys2Proof.Machine.execLaneKatEnd hash lane pass s
  | .arraySwitch => Sys2Proof.Machine.execArraySwitch s
  | .rebuildEnd => Sys2Proof.Machine.execRebuildEnd s
  | .loadLane k req => Sys2Proof.Machine.execLoadLane k req s
  | .loadHash k req => Sys2Proof.Machine.execLoadHash k req s
  | .loadPrivate k req => Sys2Proof.Machine.execLoadPrivate k req s
  | .dukpt k req => Sys2Proof.Machine.execDukpt k req s
  | .emv k req => Sys2Proof.Machine.execEmv k req s
  | .derive k req => Sys2Proof.Machine.execDerive k req s
  | .generateKey k req => Sys2Proof.Machine.execGenerateKey k req s
  | .wrap k req => Sys2Proof.Machine.execWrap k req s
  | .importKeyBlock k req => Sys2Proof.Machine.execImportKeyBlock k req s
  | .exportKeyBlock k req => Sys2Proof.Machine.execExportKeyBlock k req s
  | .secret k req => Sys2Proof.Machine.execSecret k req s
  | .upgrade k req => Sys2Proof.Machine.execUpgrade k req s
  | .oaepKey k req => Sys2Proof.Machine.execOaepKey k req s
  | .keyRequestEnd k => Sys2Proof.Machine.execKeyRequestEnd k s
  | .randomRequest k req => Sys2Proof.Machine.execRandomRequest k req s
  | .randomRequestEnd k => Sys2Proof.Machine.execRandomRequestEnd k s
  | .entropyRelease e => Sys2Proof.Machine.execEntropyRelease e s
  | .entropyWaitExpiry e => Sys2Proof.Machine.execEntropyWaitExpiry e s
  | .aptWindowClose cell failed => Sys2Proof.Machine.execAptWindowClose cell failed s
  | .cellRetest cell pass => Sys2Proof.Machine.execCellRetest cell pass s
  | .entropyFailDeadline => Sys2Proof.Machine.execEntropyFailDeadline s
  | .drbgKat lane df expander => Sys2Proof.Machine.execDrbgKat lane df expander s
  | .kuMaskRedraw => Sys2Proof.Machine.execKuMaskRedraw s
  | .gateRequest init len msg sl => Sys2Proof.Machine.execGateRequest init len msg sl s
  | .ruleTableReturn k primary secondary => Sys2Proof.Machine.execRuleTableReturn k primary secondary s
  | .setFree gate master => Sys2Proof.Machine.execSetFree gate master s
  | .loadSet master gate set regions => Sys2Proof.Machine.execLoadSet master gate set regions s
  | .armSet master gate set => Sys2Proof.Machine.execArmSet master gate set s
  | .swapSet master => Sys2Proof.Machine.execSwapSet master s
  | .freeSet master gate set => Sys2Proof.Machine.execFreeSet master gate set s
  | .gateSelfCheck gate cause central => Sys2Proof.Machine.execGateSelfCheck gate cause central s
  | .lockstepMismatch k => Sys2Proof.Machine.execLockstepMismatch k s
  | .clusterReplaced cluster => Sys2Proof.Machine.execClusterReplaced cluster s
  | .failedClusterTest unit pass => Sys2Proof.Machine.execFailedClusterTest unit pass s
  | .spareTest pass => Sys2Proof.Machine.execSpareTest pass s
  | .memoryError addr retryOk cached table => Sys2Proof.Machine.execMemoryError addr retryOk cached table s
  | .moduleFault => Sys2Proof.Machine.execModuleFault s
  | .checkpointSign => Sys2Proof.Machine.execCheckpointSign s
  | .journalStream => Sys2Proof.Machine.execJournalStream s
  | .streamEn portB on => Sys2Proof.Machine.execStreamEn portB on s
  | .journalHead portB value => Sys2Proof.Machine.execJournalHead portB value s
  | .ptmExchange host => Sys2Proof.Machine.execPtmExchange host s
  | .idleFrame => Sys2Proof.Machine.execIdleFrame s
  | .frameReplay seq => Sys2Proof.Machine.execFrameReplay seq s
  | .mirrorLinkDown => Sys2Proof.Machine.execMirrorLinkDown s
  | .mirrorLinkUp => Sys2Proof.Machine.execMirrorLinkUp s
  | .hello h => Sys2Proof.Machine.execHello h s
  | .keyConfirm ok => Sys2Proof.Machine.execKeyConfirm ok s
  | .leaseRenewTimer => Sys2Proof.Machine.execLeaseRenewTimer s
  | .leaseRenew h sent leaseUs n => Sys2Proof.Machine.execLeaseRenew h sent leaseUs n s
  | .leaseAck h n => Sys2Proof.Machine.execLeaseAck h n s
  | .leaseGuard => Sys2Proof.Machine.execLeaseGuard s
  | .leaseExpiry => Sys2Proof.Machine.execLeaseExpiry s
  | .takeWindow peerIn => Sys2Proof.Machine.execTakeWindow peerIn s
  | .takeWindowMiss => Sys2Proof.Machine.execTakeWindowMiss s
  | .crownRecheck peerIn => Sys2Proof.Machine.execCrownRecheck peerIn s
  | .retake peerIn => Sys2Proof.Machine.execRetake peerIn s
  | .reclaim peerIn => Sys2Proof.Machine.execReclaim peerIn s
  | .peerCrownInRise => Sys2Proof.Machine.execPeerCrownInRise s
  | .commitMsg h m => Sys2Proof.Machine.execCommitMsg h m s
  | .commitAck h seq => Sys2Proof.Machine.execCommitAck h seq s
  | .journalMsg h entries head => Sys2Proof.Machine.execJournalMsg h entries head s
  | .standbyEvent h entry => Sys2Proof.Machine.execStandbyEvent h entry s
  | .cacheListTimer => Sys2Proof.Machine.execCacheListTimer s
  | .cacheList h labels => Sys2Proof.Machine.execCacheList h labels s
  | .timeSync h skew => Sys2Proof.Machine.execTimeSync h skew s
  | .bulk h chunk last => Sys2Proof.Machine.execBulk h chunk last s
  | .bulkAck h last => Sys2Proof.Machine.execBulkAck h last s
  | .handover h tm peerIn => Sys2Proof.Machine.execHandover h tm peerIn s
  | .handoverAck h => Sys2Proof.Machine.execHandoverAck h s
  | .detach relay h => Sys2Proof.Machine.execDetach relay h s
  | .detachAck relay h => Sys2Proof.Machine.execDetachAck relay h s
  | .detachTimeout => Sys2Proof.Machine.execDetachTimeout s
  | .selfDetach => Sys2Proof.Machine.execSelfDetach s
  | .relayIn value => Sys2Proof.Machine.execRelayIn value s
  | .drillOverdue => Sys2Proof.Machine.execDrillOverdue s
  | .meshOpen net => Sys2Proof.Machine.execMeshOpen net s
  | .meshShort net => Sys2Proof.Machine.execMeshShort net s
  | .meshDrift net dev => Sys2Proof.Machine.execMeshDrift net dev s
  | .lid contact => Sys2Proof.Machine.execLid contact s
  | .light sensor => Sys2Proof.Machine.execLight sensor s
  | .tjExtreme sensor dc => Sys2Proof.Machine.execTjExtreme sensor dc s
  | .twExtreme dc => Sys2Proof.Machine.execTwExtreme dc s
  | .zeroize => Sys2Proof.Machine.execZeroize s
  | .tamperExt n => Sys2Proof.Machine.execTamperExt n s
  | .vbatCrit mv => Sys2Proof.Machine.execVbatCrit mv s
  | .vbatLow mv => Sys2Proof.Machine.execVbatLow mv s
  | .supply rail mv => Sys2Proof.Machine.execSupply rail mv s
  | .monitorWindow clock count => Sys2Proof.Machine.execMonitorWindow clock count s
  | .tjLimit sensor dc => Sys2Proof.Machine.execTjLimit sensor dc s
  | .tjWarn sensor dc => Sys2Proof.Machine.execTjWarn sensor dc s
  | .meshRedraw => Sys2Proof.Machine.execMeshRedraw s
  | .maskRotation => Sys2Proof.Machine.execMaskRotation s
  | .xbCheck edges => Sys2Proof.Machine.execXbCheck edges s
  | .clkGateCtrl master gate on => Sys2Proof.Machine.execClkGateCtrl master gate on s
  | .pdCtrl master pd on => Sys2Proof.Machine.execPdCtrl master pd on s
  | .pdSwitchEnd => Sys2Proof.Machine.execPdSwitchEnd s
  | .drbgLaneParity lane => Sys2Proof.Machine.execDrbgLaneParity lane s
  | .mirrorLaneError lane lock => Sys2Proof.Machine.execMirrorLaneError lane lock s
  | .slewEnd => Sys2Proof.Machine.execSlewEnd s
  | .newSecondCopy table copy page => Sys2Proof.Machine.execNewSecondCopy table copy page s
  | .vbatLowClear mv => Sys2Proof.Machine.execVbatLowClear mv s
  | .dSramCleared k => Sys2Proof.Machine.execDSramCleared k s
  | .boundaryScan ir tdi pins => Sys2Proof.Machine.execBoundaryScan ir tdi pins s

end Sys2Proof.Machine
end

