-- ==== Sys2Proof/Machine/Step.lean ====
section
/-! DEFINITION. One step of the block: the command at the front of the queue, or the passing of time. -/

namespace Sys2Proof.Machine

open Host

/-- Take the command at the front of the queue and run it on the state with the queue's rest; on an empty queue
time passes by one count of LOCAL (log entries 1 and 4). -/
def step (s : State) : Outcome State Fault Refusal :=
  match s.pending with
  | [] => answer (tick s)
  | c :: rest => exec c { s with pending := rest }

/-- The command that a word spells, put at the front of the queue; the state unchanged where it spells none. -/
def State.withFetchWord (s : State) (nbits w : Nat) : State :=
  match decodeTableWord nbits w with
  | some c => { s with pending := c :: s.pending }
  | none => s

end Sys2Proof.Machine
end

