-- ==== Sys2Proof/Safety.lean ====
section
/-! DEFINITION. The terms that the statements are made in: what of a state stays as it was, what an instruction of a
logical core does to its core, what a service leaves, and the invariants. -/

namespace Sys2Proof.Machine

open Host

/-! ### Frames -/

/-- The parts of a state, by name. -/
inductive Part where
  | pending | free | outbox | pwrGood | pins | boot | warden | alarms | clocks | mgmt | portA | portB | msix | so | cores
  | wmem | arrays | keys | entropy | gates | slots | tb | journal | pair | units
  deriving DecidableEq, Repr

/-- A part is the same in two states. -/
def Part.same (p : Part) (s t : State) : Prop :=
  match p with
  | .pending => t.pending = s.pending | .free => t.free = s.free | .outbox => t.outbox = s.outbox
  | .pwrGood => t.pwrGood = s.pwrGood | .pins => t.pins = s.pins | .boot => t.boot = s.boot
  | .warden => t.warden = s.warden | .alarms => t.alarms = s.alarms | .clocks => t.clocks = s.clocks
  | .mgmt => t.mgmt = s.mgmt | .portA => t.portA = s.portA | .portB => t.portB = s.portB | .msix => t.msix = s.msix
  | .so => t.so = s.so | .cores => t.cores = s.cores | .wmem => t.wmem = s.wmem | .arrays => t.arrays = s.arrays
  | .keys => t.keys = s.keys | .entropy => t.entropy = s.entropy | .gates => t.gates = s.gates
  | .slots => t.slots = s.slots | .tb => t.tb = s.tb | .journal => t.journal = s.journal | .pair => t.pair = s.pair
  | .units => t.units = s.units

/-- Nothing outside the named parts differs between two states. -/
def Keeps (ps : List Part) (s t : State) : Prop := ∀ p, p ∉ ps → p.same s t

/-- Nothing outside the named parts differs after a command; the output pins follow the state that they stand in
(R573, R576, R597). -/
def Only (ps : List Part) (s t : State) : Prop := Keeps (Part.pins :: ps) s t ∧ t.pins = (drivePins t).pins

/-- No core but one differs. -/
def OnlyCore (k : Nat) (s t : State) : Prop := ∀ j, j ≠ k → t.core j = s.core j

/-- The command has a next state that meets `post`. -/
def Gives (i : Instr) (s : State) (post : State → Prop) : Prop := ∃ t, exec i s = .next t ∧ post t

/-! ### Instructions of a logical core (chapter 11) -/

/-- Core k runs a command, waits for no far answer, repeats nothing, has no WMU fault to take at once, and may fetch
at `next` (R362, R384). -/
def Going (s : State) (k : Nat) (next : BitVec 25) : Prop :=
  (s.core k).cmd.isSome = true ∧ (s.core k).far = none ∧ (s.core k).rep = none ∧
  ((s.core k).wmuPending = true → evAct (s.core k).ev = true) ∧ fetchable (s.core k) next = true

/-- The same for a long form, whose second half lies within the fetch rights (R371). -/
def GoingLong (s : State) (k : Nat) (next : BitVec 25) : Prop := Going s k next ∧ (s.core k).spans = true

/-- A register once the load of the slot before has landed (R377, R378). -/
def landed (c : Core) (m : Nat) : W36 :=
  match c.load with
  | some (d, v) => if m = d then v else c.reg m
  | none => c.reg m

/-- Library rights after control reaches a half address (R362). -/
def entered (c : Core) (next : BitVec 25) : Bool :=
  if c.custom then
    if 0x4F00 ≤ next.toNat / 2 ∧ next.toNat / 2 < 0x5000 then true
    else if c.segLo ≤ next.toNat / 2 ∧ next.toNat / 2 < c.segHi then false
    else c.inLibrary
  else c.inLibrary

/-- What one instruction changes on its core. -/
structure Change where
  /-- General registers written. -/
  regs : List (Nat × W36) := []
  /-- st, repc and ev where it writes them. -/
  st : Option W36 := none
  repc : Option W36 := none
  ev : Option W36 := none
  /-- A NEAR word stored. -/
  store : Option (Nat × W36) := none
  /-- A load whose value arrives after the delay slot. -/
  load : Option (Nat × W36) := none
  /-- The WMU after it. -/
  wmu : Option Wmu := none
  /-- A repeat that it begins. -/
  rep : Option Repeat := none
  /-- Half address of the next instruction, and core clocks spent. -/
  next : BitVec 25
  clocks : Nat := 1

/-- A word of a core's own memory after a store. -/
def storedIn (store : Option (Nat × W36)) (area : NearArea) (old : W36) : W36 :=
  match store with
  | some (b, v) => if nearArea b = area then v else old
  | none => old

/-- USED after a change: a store to operand memory sets it, but not during a scrub (R245). -/
def usedAfter (c : Core) (r : Change) : Bool :=
  (r.wmu.getD c.wmu).used || (!c.wmu.scrubbing &&
    (match r.store with | some (a, _) => decide (0x200000 ≤ a) && decide (a < 0x200800) | none => false))

/-- The command gives a next state that differs from `b` in core k alone, and there as the change says: registers,
special registers, memory words, the WMU and the pc; g0 stays zero (R357). -/
def RetiresFrom (i : Instr) (s b : State) (k : Nat) (r : Change) : Prop :=
  Gives i s fun t =>
    let c := b.core k
    let d := t.core k
    t = drivePins (b.setCore k d) ∧
    (∀ m, d.reg m = if m = 0 then 0 else (lookup r.regs m).getD (landed c m)) ∧
    (∀ j, tget 0 d.dsram j = storedIn r.store (.dsram j) (tget 0 c.dsram j)) ∧
    (∀ j, tget 0 d.wmu.opmem j =
      if c.wmu.scrubbing then tget 0 (r.wmu.getD c.wmu).opmem j
      else storedIn r.store (.opmem j) (tget 0 (r.wmu.getD c.wmu).opmem j)) ∧
    (∀ j, j ∈ d.dirty ↔ j ∈ c.dirty ∨ ∃ a v n, r.store = some (a, v) ∧ nearArea a = .dsram n ∧ j = n / 512) ∧
    d.wmu = { r.wmu.getD c.wmu with opmem := d.wmu.opmem, used := usedAfter c r } ∧
    d = { c with regs := d.regs, st := r.st.getD c.st, repc := r.repc.getD c.repc, ev := r.ev.getD c.ev, pc := r.next,
                 load := r.load, rep := r.rep, resume := false, cycles := c.cycles + r.clocks,
                 inLibrary := entered c r.next, dsram := d.dsram, dirty := d.dirty, wmu := d.wmu }

/-- The same where nothing but the core changes. -/
def Retires (i : Instr) (s : State) (k : Nat) (r : Change) : Prop := RetiresFrom i s s k r

/-- The operations of SOP 0x01 to 0x10 (R373): the value for d, and st after them. -/
def aluSpec (op : Nat) (x y st : W36) : Option (W36 × W36) :=
  let x32 := x.toNat % 2 ^ 32
  let y32 := y.toNat % 2 ^ 32
  let carry := st.toNat % 2
  let nc := st.toNat / 2 % 32
  let sum := x.toNat + nc
  match op with
  | 0x01 => some (x, st)
  | 0x02 => some (BitVec.ofNat 36 (x.toNat + y.toNat), st)
  | 0x03 => some (BitVec.ofNat 36 (x.toNat + 2 ^ 36 - y.toNat), st)
  | 0x04 => some (x &&& y, st)
  | 0x05 => some (x ||| y, st)
  | 0x06 => some (x ^^^ y, st)
  | 0x07 => some (BitVec.ofNat 36 ((x32 + y32 + carry) % 2 ^ 32), withC st (decide (x32 + y32 + carry ≥ 2 ^ 32)))
  | 0x08 => some (BitVec.ofNat 36 (((x32 : Int) - y32 - carry) % 2 ^ 32).toNat, withC st (decide (x32 < y32 + carry)))
  | 0x09 => some (if y.toNat % 64 ≥ 36 then 0 else x <<< (y.toNat % 64), st)
  | 0x0A => some (if y.toNat % 64 ≥ 36 then 0 else x >>> (y.toNat % 64), st)
  | 0x0B => some (if x.toNat < y.toNat then 1 else 0, st)
  | 0x0C => some (BitVec.ofNat 36 (x32 * y32 % 2 ^ 32), st)
  | 0x0D => some (BitVec.ofNat 36 (x32 * y32 / 2 ^ 32), st)
  | 0x0E => some (BitVec.ofNat 36 (sum % 2 ^ 32), withNC st (sum / 2 ^ 32))
  | 0x0F => some (BitVec.ofNat 36 (x.toNat / 2 ^ 32), st)
  | 0x10 => some (BitVec.ofNat 36 x32, st)
  | _ => none

/-- A row of that table carried out as an instruction of n halves. -/
def AluRetires (i : Instr) (s : State) (k n op d a b : Nat) : Prop :=
  ∀ v st, aluSpec op ((s.core k).reg a) ((s.core k).reg b) (s.core k).st = some (v, st) →
    Going s k (halfAdd (s.core k).pc n) → (s.core k).fetched n = true →
    Retires i s k { regs := [(d, v)], st := some st, next := halfAdd (s.core k).pc n }

/-- A handled event taken on core k of `b`: ev names the cause and where to return, ACT is set, the pending load lands,
and the handler goes on; registers and st as given (R384). -/
def TakesEventFrom (i : Instr) (s b : State) (k cause : Nat) (rpt : Bool) (epc : BitVec 25) (regs : List (Nat × W36))
    (st : Option W36) (clocks : Nat) : Prop :=
  ∀ h, (b.core k).handler = some h → evAct (b.core k).ev = false →
    Gives i s fun t =>
      let c := b.core k
      let d := t.core k
      t = drivePins (b.setCore k d) ∧
      (∀ m, d.reg m = if m = 0 then 0 else (lookup regs m).getD (landed c m)) ∧
      d = { c with regs := d.regs, st := st.getD c.st, ev := mkEv cause rpt true c.load.isSome epc, pc := h, load := none,
                   far := none, rep := none, resume := false, cycles := c.cycles + clocks + 3 }

def TakesEvent (i : Instr) (s : State) (k cause : Nat) (rpt : Bool) (epc : BitVec 25) : Prop :=
  TakesEventFrom i s s k cause rpt epc [] none 1

/-! ### Requests to the units that serve the cores (chapters 07, 09, 10) -/

/-- A key-unit request: its core, when it is held, whether a custom service may issue it, its field checks, its work. -/
structure KeyOp where
  core : Nat
  held : Bool
  custom : Bool
  fields : Bool
  body : Nat → Svc KeyDone

/-- The thirteen key-unit requests (R304, R305, R307). -/
def keyOpOf (s : State) : Instr → Option KeyOp
  | .loadLane k r => some ⟨k.toNat, waitsForJob s false k.toNat r, true,
      requestFieldsOk r (laneTarget r) false false && zeroAt r.param 0 16, reqLoadLane k.toNat r⟩
  | .loadHash k r => some ⟨k.toNat, waitsForJob s true k.toNat r, true,
      requestFieldsOk r (laneTarget r) false false && zeroAt r.param 1 15 && (u8 r.param 0 == 1 || u8 r.param 0 == 2),
      reqLoadHash k.toNat r⟩
  | .loadPrivate k r => some ⟨k.toNat, false, false,
      requestFieldsOk r (r.target == 0) true false && zeroAt r.param 1 15, reqLoadPrivate k.toNat r⟩
  | .dukpt k r => some ⟨k.toNat, waitsForJob s false k.toNat r, true,
      requestFieldsOk r (laneTarget r) false false &&
        decide (1 ≤ u8 r.param 0 ∧ u8 r.param 0 ≤ 3 ∧ u8 r.param 1 ≤ 2 ∧ u8 r.param 2 ≤ 4) && zeroAt r.param 3 13,
      reqDukpt k.toNat r⟩
  | .emv k r => some ⟨k.toNat, waitsForJob s false k.toNat r, true,
      requestFieldsOk r (laneTarget r) false false && (u8 r.param 0 == 1 || u8 r.param 0 == 2) &&
        (u8 r.param 1 == 0 || u8 r.param 1 == 4) && decide (u8 r.param 2 ≤ 1) && zeroAt r.param 3 1 && zeroAt r.param 14 2,
      reqEmv k.toNat r⟩
  | .derive k r => some ⟨k.toNat, waitsForJob s false k.toNat r, true,
      requestFieldsOk r (laneTarget r || seedTarget r) false true && zeroAt r.param 0 16, reqDerive k.toNat r⟩
  | .generateKey k r => some ⟨k.toNat, waitsForJob s false k.toNat r, false,
      requestFieldsOk r (laneTarget r || seedTarget r) false true && zeroAt r.param 0 16, reqGenerateKey k.toNat r⟩
  | .wrap k r => some ⟨k.toNat, false, false,
      requestFieldsOk r (laneTarget r || seedTarget r) false true && zeroAt r.param 0 16, reqWrap k.toNat r⟩
  | .importKeyBlock k r => some ⟨k.toNat, false, false,
      requestFieldsOk r (r.target == 0) false false && r.ref == 0 && zeroAt r.param 0 16 && decide (16 ≤ r.auxLen.toNat),
      reqImportKeyBlock k.toNat r⟩
  | .exportKeyBlock k r => some ⟨k.toNat, false, false,
      requestFieldsOk r (laneTarget r) false false && (u8 r.param 0 == 2 || u8 r.param 0 == 3) &&
        (u8 r.param 1 == 0x45 || u8 r.param 1 == 0x4E) && decide (u8 r.param 4 ≤ 3) && zeroAt r.param 5 11,
      reqExportKeyBlock k.toNat r⟩
  | .secret k r => some ⟨k.toNat, waitsForJob s false k.toNat r, false,
      requestFieldsOk r (laneTarget r) false true && decide (1 ≤ u8 r.param 0 ∧ u8 r.param 0 ≤ 6) &&
        (if u8 r.param 0 = 6 then decide (16 ≤ u8 r.param 1 ∧ u8 r.param 1 ≤ 64) else u8 r.param 1 == algLen (u8 r.param 0)) &&
        zeroAt r.param 2 14 && decide (r.auxLen.toNat ≤ 256), reqSecret k.toNat r⟩
  | .upgrade k r => some ⟨k.toNat, false, false,
      requestFieldsOk r (r.target == 0) false false && zeroAt r.param 0 16, reqUpgrade k.toNat r⟩
  | .oaepKey k r => some ⟨k.toNat, false, false,
      requestFieldsOk r (laneTarget r) true false && decide (2048 ≤ u16 r.param 0 ∧ u16 r.param 0 ≤ 4096) &&
        u16 r.param 0 % 32 == 0 && zeroAt r.param 2 14, reqOaepKey k.toNat r⟩
  | _ => none

/-- What a run of a service's or request's work gives on command e of a state. -/
def work {α : Type} (b : Svc α) (s : State) (e : Nat) (c : Cmd) : Except Stop α × Sv := (b.run).run { s := s, e := e, c := c }

/-- The key that a request's reference names resolves (R284, R306): the key, and the state and command after the cache
and the reservation have taken it. -/
def Resolves (e : Nat) (ref : BitVec 64) (group : BitVec 8) (s : State) (c : Cmd) (key : KeyVal) (s' : State) (c' : Cmd) : Prop :=
  work (resolveAt e ref group) s e c = (.ok key, ⟨s', e, c'⟩)

/-- Core k may send a request: it runs a command, and no earlier request of the core still runs (R304). -/
def MayRequest (s : State) (k e : Nat) (c : Cmd) : Prop :=
  running s k = some (e, c) ∧ ((lookup s.keys.results k).getD {}).busy = false

/-- A cipher job as its lane takes it (R217). -/
def cipherEntry (k mode : Nat) (j : CipherJob) : LaneJob :=
  { core := k, hash := false, tag := j.ctl.toNat / 2 % 4, cipher := j.cipher.toNat, mode := mode, ctl := j.ctl.toNat,
    key := j.key.toNat, len := j.len.toNat, src := j.src.toNat, dst := j.dst.toNat, aux := j.aux.toNat,
    iv := fit 16 j.iv, inlineData := fit 16 j.inlineData, prior := 0, parity := 0 }

/-- A hash job as its lane takes it (R221). -/
def hashEntry (k : Nat) (j : HashJob) : LaneJob :=
  { core := k, hash := true, tag := j.ctl.toNat / 8 % 4, cipher := j.alg.toNat, mode := 0, ctl := j.ctl.toNat,
    key := j.key.toNat, len := j.len.toNat, src := j.src.toNat, dst := 0, aux := 0, iv := [],
    inlineData := fit 32 j.inlineData, prior := j.prior.toNat, parity := 0 }

/-- Entropy failure does not hold and would not begin with these healthy cells (R345). -/
def calm (s : State) (healthy : BitVec 64) : Prop :=
  s.boot.rngReady = true ∧ s.entropy.failed = false ∧ s.entropy.laneFail = 0 ∧ 24 ≤ popCount 64 healthy.toNat

/-- A core of the cluster is free and holds no command for its next turn (R126). -/
def roomy (s : State) (cl : Nat) : Bool := (clusterCores cl).any (fun k => (s.core k).free && (s.core k).pre.isNone)

/-! ### Host side and Sorting Office (chapters 03, 04) -/

/-- Pigeonhole i of a function is reachable and has the global number n (R76, R111). -/
def AtPh (s : State) (fn : Fn) (i n : Nat) : Prop := fnReachable s fn = true ∧ globalPh s fn i = some n

/-- The command changes pigeonhole n alone, into q. -/
def PhBecomes (i : Instr) (s : State) (n : Nat) (q : Ph) : Prop := exec i s = answer (s.setPh n q)

/-- Core k runs a landed command of this opcode that has no result yet: e is its entry (R94, R126). -/
def Asked (s : State) (k : Nat) (op : Code) (e : Nat) (c : Cmd) : Prop :=
  running s k = some (e, c) ∧ c.d.opcode = op ∧ c.custom = false ∧ c.served = false ∧ c.landed = true

/-- An output of n octets, with the trailer that an OK result would carry, fits the capacity (R95). -/
def Fits (s : State) (c : Cmd) (n : Nat) : Prop := n + trailerLen s c ≤ c.d.outCap.toNat

/-- The command with a result. -/
def Cmd.result (c : Cmd) (st : Code) (out : Octets) : Cmd := { c with served := true, status := st, output := out }

/-- A service answers its command with OK and these octets on a state `b` that the service has left. -/
def Serves (i : Instr) (s b : State) (e : Nat) (c : Cmd) (out : Octets) : Prop :=
  exec i s = answer (b.setCmd e (c.result stOk out))

/-- A service refuses its command with a status and no output; nothing else changes. -/
def Refuses (i : Instr) (s : State) (e : Nat) (c : Cmd) (st : Code) : Prop :=
  exec i s = answer (s.setCmd e { c with served := true, status := st, output := [], effects := [] })

/-- Registers at the entry of a standard program (R390). -/
def entryReg (k e : Nat) (c : Cmd) (m : Nat) : W36 :=
  match m with
  | 1 => BitVec.ofNat 36 (stagingAddr e)
  | 2 => BitVec.ofNat 36 c.d.inLen.toNat
  | 3 => BitVec.ofNat 36 (if c.d.opcode.toNat / 256 = 7 then 0 else min c.d.inLen.toNat 4032)
  | 4 => BitVec.ofNat 36 (if isInline c.d ∨ c.d.inLen = 0 then 0 else hsIn k c)
  | 5 => BitVec.ofNat 36 (hsOut k c)
  | 6 => BitVec.ofNat 36 c.d.outCap.toNat
  | 7 => BitVec.ofNat 36 (scratchAddr e)
  | 8 => BitVec.ofNat 36 c.turn
  | 9 => BitVec.ofNat 36 (c.d.opcode.toNat + 2 ^ 16 * c.d.flags.toNat + 2 ^ 24 * c.d.version.toNat)
  | _ => 0

/-! ### The block, boot and reset (chapters 01, 02, 18) -/

/-- The output pins stand as R573, R576 and R597 give: ALERT_N low from boot step 1 in LOCKED or ERASED, while an E or L
event is set, or while VBAT is low; CHAIN_OUT high while an address is assigned. -/
def PinsFollow (s : State) : Prop :=
  (s.pins.alertLow = true ↔ s.pwrGood = true ∧ (1 ≤ s.boot.step ∨ s.boot.warm = true) ∧
    (s.boot.mode = .locked ∨ s.boot.mode = .erased ∨ s.alarms.evE = true ∨ s.alarms.evL = true ∨ s.alarms.vbatLow = true)) ∧
  (s.pins.chainOut = true ↔ s.pwrGood = true ∧ s.mgmt.addr.isSome = true)

/-- The battery RTC as a count of 1 / 32,768 ns. -/
def rtcUnits (w : Warden) : Nat := (w.rtcS.toNat * 32768 + w.rtcTicks.toNat) * 1000000000 + w.rtcPhase

/-- Everything but the named parts is as a reset leaves it. -/
def AllLost (ps : List Part) (t : State) : Prop := Keeps ps State.reset t

/-- The command is a warm reset: the mode is BOOT and the Crown is dropped; working material, the image copy, queues,
cores and working memory are lost; the warden, LOCAL, OFFSET and each source's last Postmark are kept (R63, R325). -/
def WarmResets (i : Instr) (s : State) : Prop :=
  Gives i s fun t =>
    AllLost [.pending, .free, .outbox, .pwrGood, .pins, .boot, .warden, .alarms, .clocks, .mgmt, .portA, .portB, .tb,
      .journal, .pair, .units] t ∧
    t.boot = { warm := true, inReset := true } ∧ t.warden = s.warden ∧ t.pwrGood = s.pwrGood ∧
    t.pair.crownOut = false ∧ t.pair.role = .lone ∧ t.pair.expiry = none ∧ t.pair.session = none ∧
    t.portA = { perst := s.portA.perst } ∧ t.portB = { perst := s.portB.perst } ∧
    t.tb.timeLocal = s.tb.timeLocal ∧ t.tb.offset = s.tb.offset ∧
    (∀ src, src ≠ srcSupervisor → tget {} t.tb.sources src = tget {} s.tb.sources src) ∧
    t.clocks.xstart = s.clocks.xstart ∧ t.mgmt.addr = s.mgmt.addr ∧ t.pins = (drivePins t).pins

/-- The module stands before the end of boot step n + 1, not held in reset (R59). -/
def AtStep (s : State) (n : Nat) : Prop :=
  s.pwrGood = true ∧ s.boot.inReset = false ∧ s.boot.step = n ∧ s.boot.mode = .boot

/-- Boot stops: the mode is LOCKED, BOOT_FAIL holds the status, and working material is gone; only these parts change
(R60, R325). -/
def BootStops (i : Instr) (s : State) (st : Code) (ps : List Part) : Prop :=
  Gives i s fun t => Only ([.free, .outbox, .boot, .arrays, .keys, .entropy, .tb, .journal, .pair] ++ ps) s t ∧
    t.boot.mode = .locked ∧ t.boot.fail = st ∧ t.keys.frankPriv = none ∧ t.keys.cacheKey = none ∧ t.keys.rootFile = [] ∧
    t.arrays.laneKeys = [] ∧ t.arrays.hashKeys = [] ∧ t.entropy.insts = []

/-- A service that keeps its core: entry e holds command c, which has not ended, asks for no franking and commits
nothing. -/
def Held (s : State) (e : Nat) (c : Cmd) : Prop :=
  s.cmd e = some c ∧ c.stage ≠ .done ∧ wantsFrank c.d = false ∧ c.stateChanging = false

/-- Entry e has ended with a status and an output, and its completion write is due (R86, R395). -/
def Ended (t : State) (e : Nat) (st : Code) (out : Octets) : Prop :=
  ∃ c, t.cmd e = some c ∧ c.stage = .done ∧ c.served = true ∧ c.status = st ∧ c.output = out ∧ c.list = none

/-- The image is refused: IMG_STATE 5 with the status and the offset (R44, R45, R603). -/
def refusedBoot (b : Boot) (st : Code) (off : Nat) : Boot :=
  { b with imgState := .refused, imgStatus := st, imgFaultOff := BitVec.ofNat 32 off, data := [], expect := none }

/-! ### Ports, management port (chapters 03, 18) -/

/-- The commands of these slots as a port or function reset leaves them: undispatched ones are gone, completed ones write
nothing, and the others run on with their writes discarded; every other command stays (R73). -/
def Discards (s t : State) (slots : List Nat) : Prop :=
  ∀ e c, s.cmd e = some c → t.cmd e =
    if c.slot ∈ slots then (if c.dispatched = false ∨ c.stage = .done then none else some { c with discarded := true }) else some c

/-- The pigeonholes of these slots are DISABLED with their registers at reset; every other pigeonhole stays (R73). -/
def ClosesPhs (s t : State) (slots : List Nat) : Prop :=
  ∀ n, t.ph n = if n ∈ slots.flatMap (slotPhs s) then {} else s.ph n

/-- The MSI-X vectors of the functions that `mine` names are at reset; every other vector stays. -/
def ClearsMsix (s t : State) (mine : Nat → Prop) [DecidablePred mine] : Prop :=
  ∀ key, tget ({} : MsixVec) t.msix key = if mine (key / 64) then {} else tget {} s.msix key

/-- The port's configuration space and selectors at reset; what its own registers report survives (R73). -/
def portCleared (p : Port) : Port :=
  { perst := p.perst, linkUp := p.linkUp, rate := p.rate, width := p.width, rateChange := p.rateChange,
    widthChange := p.widthChange, linkDown := p.linkDown, replays := p.replays, hostFaults := p.hostFaults }

/-- The command answers an I3C command code, an MCTP control message or a vendor command: this message goes out and
nothing else changes. -/
def Sends (i : Instr) (s : State) (m : Emit) : Prop := exec i s = answer (emit s m)

/-- The body of a vendor response: vendor ID, COMMAND with bit 7 set, a reserved octet, status, payload (R600). -/
def vendorBody (cmd : Nat) (st : Code) (payload : Octets) : Octets :=
  [0x1D, 0x7E] ++ le 1 (cmd + 128) ++ [0] ++ le 2 st.toNat ++ payload

/-- Domain d and its clock gates are on, or off, and every other bit stays (R567). -/
def domainIs (c c' : Clocks) (d : Nat) (on : Bool) : Prop :=
  (∀ j, j < 26 → c'.pd.getLsbD j = if j = d then on else c.pd.getLsbD j) ∧
  (∀ g, g < 28 → c'.gates.getLsbD g = if gateDomain g = d then on else c.gates.getLsbD g)

/-! ### Alarms, gates, units (chapters 12, 15, 16) -/

/-- The command is an alarm of class E: roots, mask key and identity key are erased with all working material, every
command ends with ERASED, the life cycle is RETIRED and the mode ERASED, and the battery log has the entry (R325,
R522, R523, R530). -/
def Erases (i : Instr) (s : State) (cause : Code) (unit : Nat) (value : BitVec 32) : Prop :=
  Gives i s fun t =>
    t.boot.mode = .erased ∧ t.warden.lc = .retired ∧ t.boot.unsealed = false ∧ t.warden.km = none ∧ t.warden.mr = none ∧
    t.warden.roots = [] ∧ t.warden.identity = none ∧ t.keys.frankPriv = none ∧ t.keys.cacheKey = none ∧
    t.keys.indexKey = none ∧ t.keys.cache = [] ∧ t.keys.rootFile = [] ∧ t.keys.counters = [] ∧ t.keys.ceremony = none ∧
    t.arrays.laneKeys = [] ∧ t.arrays.hashKeys = [] ∧ t.entropy.insts = [] ∧ t.pair.crownOut = false ∧
    t.alarms.challenges = [] ∧ t.alarms.grants = [] ∧ t.alarms.dryFire = none ∧ t.alarms.lastCause = cause ∧ t.alarms.evE = true ∧
    (∀ x ∈ t.so.cmds, x.2.stage = .done) ∧
    (∀ e c, s.cmd e = some c → c.stage ≠ .done → ∃ c', t.cmd e = some c' ∧ c'.status = erasedSt ∧ c'.output = [] ∧ c'.effects = []) ∧
    (s.warden.blog.length < 64 → ∃ b ∈ t.warden.blog, b.cause = cause ∧ b.cls = 4 ∧ b.unit.toNat = unit % 65536 ∧ b.value = value)

/-- The command is an alarm of class L: working material is erased, the roots are kept, every command ends with
LOCKED, the lock record holds the cause and the next LOCK_SEQ, and the mode is LOCKED (R522, R523, R543). -/
def Locks (i : Instr) (s : State) (cause : Code) (unit : Nat) (value : BitVec 32) : Prop :=
  Gives i s fun t =>
    t.boot.mode = .locked ∧ t.boot.unsealed = false ∧ t.keys.frankPriv = none ∧ t.keys.cacheKey = none ∧
    t.keys.indexKey = none ∧ t.keys.cache = [] ∧ t.keys.rootFile = [] ∧ t.keys.ceremony = none ∧ t.keys.counters = s.keys.counters ∧
    t.arrays.laneKeys = [] ∧ t.arrays.hashKeys = [] ∧ t.entropy.insts = [] ∧ t.pair.crownOut = false ∧
    t.alarms.challenges = [] ∧ t.alarms.grants = [] ∧ t.alarms.dryFire = none ∧ t.alarms.lastCause = cause ∧ t.alarms.evL = true ∧
    t.warden.lockRec = true ∧ t.warden.lockCause = cause ∧ t.warden.lockSeq = satInc s.warden.lockSeq ∧
    t.warden.lc = s.warden.lc ∧ t.warden.km = s.warden.km ∧ t.warden.mr = s.warden.mr ∧ t.warden.roots = s.warden.roots ∧
    t.warden.identity = s.warden.identity ∧ (∀ x ∈ t.so.cmds, x.2.stage = .done) ∧
    (∀ e c, s.cmd e = some c → c.stage ≠ .done → ∃ c', t.cmd e = some c' ∧ c'.status = lockedSt ∧ c'.output = [] ∧ c'.effects = []) ∧
    (s.warden.blog.length < 64 → ∃ b ∈ t.warden.blog, b.cause = cause ∧ b.cls = 3 ∧ b.unit.toNat = unit % 65536 ∧ b.value = value)

/-- The command raises only an event of class N or F of a monitor: its class's event bit, LAST_CAUSE, TRIPS (R524,
R548). -/
def Warns (i : Instr) (s : State) (n : Nat) (cls : Nat) : Prop :=
  Gives i s fun t =>
    Keeps [.pins, .free, .outbox, .warden, .alarms, .msix, .tb, .journal, .pair] s t ∧
    t.alarms.lastCause = BitVec.ofNat 16 (0x0100 + n) ∧ (t.monitor n).tripped = true ∧
    (t.monitor n).trips = satInc (s.monitor n).trips ∧
    t.alarms.evN = (s.alarms.evN || cls == 1) ∧ t.alarms.evF = (s.alarms.evF || cls == 2) ∧
    t.alarms.evL = s.alarms.evL ∧ t.alarms.evE = s.alarms.evE ∧ t.warden.lockRec = s.warden.lockRec ∧ t.warden.roots = s.warden.roots

/-- A mode in which an alarm of class L locks the module (R54). -/
def Lockable (s : State) : Prop :=
  s.boot.mode = .boot ∨ s.boot.mode = .staged ∨ s.boot.mode = .service ∨ s.boot.mode = .standby ∨ s.boot.mode = .maintenance ∨
  s.boot.mode = .locked

/-- A mode in which an alarm of class E erases the module with main power on (R54). -/
def Erasable (s : State) : Prop := s.boot.mode ≠ .erased ∧ s.boot.mode ≠ .battery

/-! ### Pairing (chapter 15) -/

/-- A message of a path is accepted: the session is confirmed, the link is up where it came by the link, its tag verifies,
and its MSEQ is one above the last (R493, R509). -/
def Accepted (s : State) (relay : Bool) (h : MsgHead) : Prop :=
  (∃ x, s.pair.session = some x ∧ x.confirmed = true) ∧ (relay = false → s.pair.linkUp = true) ∧ h.tagOk = true ∧
  h.mseq.toNat = (if relay then s.pair.relayRx else s.pair.mseqRx) + 1

/-- The module once it has counted an accepted message. -/
def counted (s : State) (relay : Bool) : State :=
  { s with pair := if relay then { s.pair with relayRx := s.pair.relayRx + 1, relayMsgs := s.pair.relayMsgs.inc }
                   else { s.pair with mseqRx := s.pair.mseqRx + 1 } }

/-- A message went out on the link, with the next MSEQ (R492). -/
def SentOnce (s t : State) (cls : BitVec 8) (payload : Octets) : Prop :=
  t.outbox = .mirror false cls (le 8 (s.pair.mseqTx + 1) ++ payload) :: s.outbox ∧ t.pair.mseqTx = s.pair.mseqTx + 1

/-- The link carries messages (R491). -/
def Live (s : State) : Prop := s.pair.linkUp = true ∧ ∃ x, s.pair.session = some x ∧ x.confirmed = true

/-- The Crown is taken: CROWN_OUT is high, the lease runs from now, completions go out, and the take is noted (R502, R505,
R516). -/
def CrownHeld (s t : State) : Prop :=
  t.pair.crownOut = true ∧ t.pair.taking = none ∧ t.pair.backedOff = none ∧ t.pair.window = false ∧ t.pair.holding = false ∧
  t.pair.drillFrom = s.time ∧ t.pair.drillOverdue = false ∧ t.pair.lastTake.src = BitVec.ofNat 16 srcMirror ∧
  t.pair.expiry = some (s.tb.timeLocal + BitVec.ofNat 64 (1000 * s.pair.leaseUs.toNat))

/-- The module leaves SERVICE without the Crown: STANDBY, CROWN_OUT low, no lease, the key cache empty (R54, R302,
R504). -/
def CrownLost (t : State) : Prop :=
  t.boot.mode = .standby ∧ t.pair.crownOut = false ∧ t.pair.expiry = none ∧ t.pair.holding = false ∧ t.keys.cache = []

/-! ### Services (chapters 05 to 08) -/

/-- References read one after another, and what follows them (R148, R149). -/
def readRefs (s : State) (c : Cmd) (ik : Bool) : Nat → Octets → Option (List KeyRef × Octets)
  | 0, o => some ([], o)
  | n + 1, o =>
    match krefCheck s c.slot c.d.version.toNat ik o with
    | .ok r => (readRefs s c ik n (o.drop r.size)).map (fun x => (r :: x.1, x.2))
    | .error _ => none

/-- The command with the reservation that a resolved key needs (R296). -/
def Cmd.reserving (c : Cmd) (ctr : Option Nat) : Cmd :=
  { c with reserved := match ctr with
      | some i => if c.reserved.contains i then c.reserved else c.reserved ++ [i]
      | none => c.reserved }

/-- The module once a key is resolved: the key cache has it, and the slot's roots are in the tenant-root file (R274,
R300). -/
def keeping (s : State) (slot : Nat) (r : KeyRef) (k : KeyVal) : State :=
  holdRoots (if r.kind = 3 then s else cachePut s slot r.body k) slot

/-- References that resolve one after another give these keys and leave this state and command (R284). -/
def KeysAre (e : Nat) : List KeyRef → List KeyVal → State → Cmd → State → Cmd → Prop
  | [], [], s, c, s', c' => s' = s ∧ c' = c
  | r :: rs, k :: ks, s, c, s', c' =>
    ∃ x ctr, resolve s c.slot e c.reserved (opGroup c) r = .ok (x, ctr) ∧ k = x.expanded ∧
      KeysAre e rs ks (keeping s c.slot r x) (c.reserving ctr) s' c'
  | _, _, _, _, _, _ => False

/-- The references after the header are well formed and give these keys, and `rest` follows them. -/
def Keyed (s : State) (e : Nat) (c : Cmd) (ik : Bool) (off : Nat) (rs : List KeyRef) (ks : List KeyVal) (rest : Octets)
    (s' : State) (c' : Cmd) : Prop :=
  readRefs s c ik ks.length (c.input.drop off) = some (rs, rest) ∧ KeysAre e rs ks s c s' c'

/-- Usage, mode and algorithm of a key suit its row of R150 or R178; under version 1 it is a TDEA key. -/
def Suits (c : Cmd) (k : KeyVal) (usages : List String) (modes : String) (alg : Nat → Bool) : Prop :=
  (c.d.version = 1 → isTdea k.alg = true) ∧ keyIs k usages modes alg = true

/-- The command's own instance serves (R339, R340). -/
def MayDraw (s : State) (c : Cmd) : Prop := s.entropy.failed = false ∧ canServe s (instOf c.slot c.idx) = true

/-- What n octets from the command's instance are, and the state after the draw; no draw of none. -/
def drawn (s : State) (c : Cmd) (n : Nat) : Octets × State :=
  if n = 0 then ([], s) else generate s (instOf c.slot c.idx) n false

/-- Core k runs a landed command of this opcode, and no identical one is in flight (R94, R109). -/
def Asks (s : State) (k : Nat) (op : Code) (e : Nat) (c : Cmd) : Prop := Asked s k op e c ∧ twinInFlight s e c = false

/-- A service ends its command with a status and no output, from a state that its work has reached. -/
def Fails (i : Instr) (s b : State) (e : Nat) (c : Cmd) (st : Code) : Prop :=
  exec i s = answer (b.setCmd e { c with served := true, status := st, output := [], effects := [] })

/-- The service answers OK where a check of its data holds, and ends with a status where it does not. -/
def Judges (i : Instr) (s b : State) (e : Nat) (c : Cmd) (good : Prop) (charged : Bool) (out : Octets) (st : Code) : Prop :=
  (good → Serves i s b e (if charged then chargeCounters c else c) out) ∧ (¬ good → Fails i s b e c st)

/-- The key that a PIN reference gives for a format and a side (R150, R188, R189). -/
def PinKeyIs (c : Cmd) (r : KeyRef) (k : KeyVal) (f : Nat) (inSide : Bool) (w : KeyVal) : Prop :=
  if isDukptKind r.kind then
    Suits c k ["B0"] "X" (bdkAlg r.kind) ∧ w = dukptKey r k 3 0 r.keytype ∧ fmtAlg f w.alg = true
  else Suits c k ["P0"] (if inSide then "DB" else "EB") (fmtAlg f) ∧ w = k

/-- A counter entry for a counted template (R177, R294): its number, its generation, the state and the command. -/
def Allocates (s : State) (c : Cmd) (limit n g : Nat) (s' : State) (c' : Cmd) : Prop :=
  if limit = 0 then n = 0 ∧ g = 0 ∧ s' = s ∧ c' = c
  else
    freeCnum s c.slot = some n ∧ g = s.keys.nextGen ∧ g < 2 ^ 32 ∧ c.slot < 512 ∧
    s' = { s with keys := { s.keys with nextGen := g + 1 } } ∧
    c' = { c with effects := c.effects ++ [Effect.ctrAlloc ((ctrIndex s c.slot n).getD 0) (BitVec.ofNat 32 limit) (BitVec.ofNat 32 g)],
                  stateChanging := true, journalled := true, keepsReplay := true, mirrors := true }

/-- An Envelope under a template with its check-value field, 144 octets (R196). -/
def envelopeAnswer (s : State) (c : Cmd) (tmpl key : Octets) (n g : Nat) : Octets :=
  let h := headerKey tmpl
  makeEnvelope s c.slot tmpl key n g ++
    (if h.cls = 4 then zeros 16
     else kcvField h.alg (if h.alg = 6 ∧ h.ktype = 2 then kdf key (ascii "PRK-HMAC") (8 * h.len) else key))

/-- A template that a service may fill (R196, R610). -/
def TemplateOk (t : Octets) : Prop :=
  headerOk t false = true ∧ ((headerKey t).limit = 0 ∨ (headerKey t).flags.getLsbD 0 = true) ∧ templateUsageOk t = true

/-- The two keys, the table and the header of a PIN verification service: references after a header of `off` octets,
working PIN key w, PIN verification key v, decimalisation table t (R150, R160 to R164). -/
def VerifyReady (s : State) (e : Nat) (c : Cmd) (off : Nat) (genRef : Bool) (modes : String) (w v : KeyVal) (t : List Nat)
    (s' : State) (c' : Cmd) : Prop :=
  let i := c.input
  i.length = off + refsLen 2 (i.drop off) ∧ verifyHeaderOk c.d.version.toNat i genRef = true ∧
  blockFieldOk (u8 i 0) (slice i 48 16) = true ∧
  (∃ rp rv kp rest, Keyed s e c false off [rp, rv] [kp, v] rest s' c' ∧ isDukptKind rv.kind = false ∧
    PinKeyIs c rp kp (u8 i 0) true w) ∧
  Suits c v [if u8 i 1 = 1 then "V2" else "V1"] modes (· == 1) ∧
  (if u8 i 1 = 2 then decTable s c.slot (u8 i 5) = some t else t = [])

/-- The PIN of the block at an offset, if it holds one (R153). -/
def pinAt (s : State) (c : Cmd) (w : KeyVal) (off : Nat) : Option (List Nat) :=
  let i := c.input
  pinOf (u8 i 0) (polPinMin s c.slot) (polPinMax s c.slot)
    (pinDec (u8 i 0) w.alg w.bytes (panDigits (u8 i 2) (slice i 8 10)) (slice i off (fmtLen (u8 i 0))))

/-- The reference digits that the header carries (R163). -/
def givenRef (i : Octets) : List Nat := (nibbles (slice i 24 8)).take (u8 i 3)

/-- Header, references, key and session key of an EMV service; its data follow the references (R178, R181, R182). -/
def EmvReady (s : State) (e : Nat) (c : Cmd) (r : EmvRole) (rs : List KeyRef) (ks : List KeyVal) (data : Octets) (sk : Octets)
    (s' : State) (c' : Cmd) : Prop :=
  let i := c.input
  let tdea := u8 i 0 == 1
  let direct := (u8 i 1).testBit 2
  let key := ks.headD {}
  i.length = 64 + refsLen ks.length (i.drop 64) + u32 i 40 ∧ emvHeaderOk c.d.version.toNat r i = true ∧
  Keyed s e c false 64 rs ks data s' c' ∧ (∀ x ∈ rs, isDukptKind x.kind = false) ∧
  Suits c key (emvUsage r) (if direct then "CGB" else "X") (fun a => if tdea then a == 1 else a == 3) ∧
  sk = emvSk tdea (if direct then key.bytes
    else emvMk tdea key.bytes (emvY (panDigits (u8 i 2) (slice i 8 10)) ((slice i 3 1).headD 0))) (slice i 4 2) (u8 i 44)

/-- Header, reference and working key of a DUKPT data or MAC service (R187 to R190). -/
def DukptReady (s : State) (e : Nat) (c : Cmd) (r : DukptRole) (w : KeyVal) (data : Octets) (s' : State) (c' : Cmd) : Prop :=
  let i := c.input
  i.length = 64 + refsLen 1 (i.drop 64) + u32 i 4 ∧ dukptHeaderOk r i = true ∧
  ∃ ref bdk, Keyed s e c false 64 [ref] [bdk] data s' c' ∧ isDukptKind ref.kind = true ∧
    dukptSizesOk r i (isTdea (if aesDukptKind ref.kind then keytypeAlg ref.keytype else 1)) = true ∧
    (u8 i 1 = 2 → aesDukptKind ref.kind = true) ∧ Suits c bdk ["B0"] "X" (bdkAlg ref.kind) ∧
    w = dukptKey ref bdk (u8 i 0) (u8 i 1) ref.keytype

/-- Header, reference, key, further data and payload of a bulk service, and its IV (R203 to R206). -/
def BulkReady (s : State) (e : Nat) (c : Cmd) (r : BulkRole) (key : KeyVal) (aux data iv : Octets) (b : State) (c' : Cmd) : Prop :=
  let i := c.input
  let gen := (u8 i 0).testBit 0
  let ivLen := if r.isGcm then 12 else 16
  i.length = 64 + refsLen 1 (i.drop 64) + u32 i 8 + u32 i 4 ∧ bulkHeaderOk r i = true ∧
  (r.isFf1 = true → 1000000 ≤ u16 i 2 ^ u32 i 4 ∧ ∀ o ∈ data, o.toNat < u16 i 2) ∧
  Fits s c (u32 i 4 + (if r = .gcmEncrypt then u8 i 1 else 0) + (if gen then ivLen else 0)) ∧ (gen = true → MayDraw s c) ∧
  ∃ ref rest s', Keyed s e c false 64 [ref] [key] rest s' c' ∧ isDukptKind ref.kind = false ∧ aux = rest.take (u32 i 8) ∧
    data = rest.drop (u32 i 8) ∧ Suits c key ["D0"] (if r = .ctr then "EDB" else if r.enciphers then "EB" else "DB") isAes ∧
    (iv, b) = (if gen then generate s' (instOf c.slot c.idx) ivLen false else (slice i 16 ivLen, s'))

/-- Digest or message rule of a public-key header: where HASH is 0 the data is a digest (R258). -/
def PkHeader (ec : Bool) (i : Octets) (scheme : Bool) (flags : Nat) (hashed : Bool) : Prop :=
  pkHeaderOk ec i scheme flags = true ∧ (if hashed then hashLenOk i = true else u8 i 1 = 0 ∧ u32 i 4 = 0)

/-- The private scalar of a key on a curve: a raw one from 1 to n − 1, or that of its seed (R253, R262). -/
def ScalarIs (cv : Curve) (key : KeyVal) (d : Nat) : Prop :=
  if key.ktype = 3 then d = beNat (key.bytes.take cv.no) ∧ 0 < d ∧ d < cv.n else d = expandSeed cv key.bytes

/-- The internal instance of a core's cluster pair serves (R339, R340). -/
def PairDraws (s : State) (k : CoreId) : Prop := s.entropy.failed = false ∧ canServe s (k.toNat / 16) = true

/-- An internal instance of the module serves (R334, R340). -/
def Internal (s : State) (i : Nat) : Prop := s.entropy.failed = false ∧ canServe s i = true

/-- Needs a grant: the command has one already, or a grant for its port, opcode, CMD_ID and digest is consumed, and
the QUORUM entry names the counted officers (R540, R542). -/
def Granted (s : State) (c : Cmd) (s' : State) (c' : Cmd) : Prop :=
  let hit (g : Grant) : Bool :=
    g.portB == c.fn.portB && g.opcode == c.d.opcode && g.cmdId == c.d.cmdId && g.digest == quorumDigest c
  (c.granted = true ∧ s' = s ∧ c' = c) ∨
  (c.granted = false ∧ ∃ g, s.alarms.grants.find? hit = some g ∧
    s' = journalNow { s with alarms := { s.alarms with grants := s.alarms.grants.filter (fun x => !hit x) } } 7
      (le 2 g.officers.toNat ++ le 2 c.d.opcode.toNat) ∧
    c' = { c with granted := true, officers := g.officers })

/-- No grant covers the command (R542). -/
def Ungranted (s : State) (c : Cmd) : Prop :=
  c.granted = false ∧ ∀ g ∈ s.alarms.grants,
    ¬ (g.portB = c.fn.portB ∧ g.opcode = c.d.opcode ∧ g.cmdId = c.d.cmdId ∧ g.digest = quorumDigest c)

/-- A draw of n octets from an instance that can serve now (R334, R335). -/
def Draws (s : State) (i n : Nat) (d : Octets × State) : Prop := canServe s i = true ∧ d = generate s i n false

/-- A signature of the identity key over a text, its nonce hedged by a draw for core k where entropy has not failed (R260,
R323, R339). -/
def Signs (s : State) (k : CoreId) (text sig : Octets) (b : State) : Prop :=
  if s.entropy.failed then sig = signP384 (s.warden.identity.getD []) (sha 48 text) [] ∧ b = s
  else ∃ d, Draws s (k.toNat / 16) 48 d ∧ sig = signP384 (s.warden.identity.getD []) (sha 48 text) d.1 ∧ b = d.2

/-- A service that keeps its core and completes here: entry e holds c, which has not ended, asks for no franking, has no
effect of its own, and waits for neither the journal nor a partner (R470, R498). -/
def HeldHere (s : State) (e : Nat) (c : Cmd) : Prop :=
  s.cmd e = some c ∧ c.stage ≠ .done ∧ wantsFrank c.d = false ∧ c.effects = [] ∧
  (c.stateChanging = true → commitStalls s c = false ∧ (s.pair.mirroring = true → c.mirrors = false))

/-- The fields that SLOT_CREATE's input gives (R437, R440). -/
def createFields (i : Octets) : SlotFields :=
  { tenant := BitVec.ofNat 16 (u16 i 2), domain := BitVec.ofNat 4 (u8 i 4), policyId := BitVec.ofNat 6 (u8 i 5),
    phCount := if u8 i 6 = 0 then 8 else u8 i 6, maxPrio := u8 i 7, weight := u16 i 8, dataLog2 := u8 i 10,
    cacheShare := u32 i 12, ctrCount := u32 i 16 }

/-- The fields that SLOT_RESTORE's input and the blob's header give (R449, R452). -/
def restoreFields (i : Octets) : SlotFields :=
  let h := slice i 64 128
  { tenant := BitVec.ofNat 16 (u16 h 0x0C), domain := BitVec.ofNat 4 (u8 h 0x0E), policyId := BitVec.ofNat 6 (u8 i 2),
    phCount := u8 h 0x0F, maxPrio := u8 i 3, weight := u16 i 4, dataLog2 := u8 i 6, cacheShare := u32 i 8,
    ctrCount := u32 h 0x2C }

/-- A slot of the table (R604). -/
def SlotIs (s : State) (n : Nat) (x : Slot) : Prop := n < 512 ∧ lookup s.slots.table n = some x

/-- Nothing of a slot is left: no entry of the slot table, pigeonholes DISABLED, counters, cache entries, roots and
instance gone, its data area zero (R444). -/
def SlotGone (t : State) (n : Nat) (f : SlotFields) : Prop :=
  lookup t.slots.table n = none ∧ (∀ i, i < f.phCount → t.ph (f.phBase + i) = {}) ∧
  (∀ x ∈ t.keys.counters, x.1 < f.ctrBase ∨ f.ctrBase + f.ctrCount ≤ x.1) ∧ (∀ x ∈ t.keys.cache, x.slot ≠ n) ∧
  lookup t.keys.rootFile n = none ∧ lookup t.keys.aliases n = none ∧ lookup t.entropy.insts (24 + n) = none ∧
  (f.dataLog2 ≠ 0 → ∀ a, f.dataBase ≤ a → a < f.dataBase + 2 ^ f.dataLog2 → tget 0 t.wmem a = 0)

/-- A ceremony service begins: its grant is consumed, it is journalled, and the mode is MAINTENANCE (R319, R468). -/
def CeremonyAsks (s : State) (k : CoreId) (op : Code) (e : Nat) (c : Cmd) (s' : State) (c' : Cmd) : Prop :=
  Asks s k.toNat op e c ∧ s.boot.mode = .maintenance ∧ ∃ c1, Granted s c s' c1 ∧ c' = { c1 with journalled := true }

/-- The module with a ceremony. -/
def withCeremony (s : State) (x : Option Ceremony) : State := { s with keys := { s.keys with ceremony := x } }

/-- A 32-bit write to a register of PF0 BAR0 on a port whose link is up. -/
def pf0Write (b : Bool) (off : Nat) (v : BitVec 32) : Instr :=
  .registerWrite ⟨b, 0⟩ false (BitVec.ofNat 16 off) false (v.setWidth 64)

/-- A 32-bit write of BAR0 of any function. -/
def wordWrite (fn : Fn) (off : Nat) (v : BitVec 32) : Instr :=
  .registerWrite fn false (BitVec.ofNat 16 off) false (v.setWidth 64)

/-- The rows of the standard services: the core that runs the service's program, and the opcode. -/
def serviceOf : Instr → Option (CoreId × Code)
  | .openCh k => some (k, 0x0001) | .closeCh k => some (k, 0x0002) | .nop k => some (k, 0x0003) | .version k => some (k, 0x0004)
  | .pinTranslate k => some (k, 0x0101) | .pinVerify k => some (k, 0x0102) | .pinGenerate k => some (k, 0x0103)
  | .pinChange k => some (k, 0x0104) | .cvcGenerate k => some (k, 0x0201) | .cvcVerify k => some (k, 0x0202)
  | .pinRefGenerate k => some (k, 0x0203) | .emvArqcVerify k => some (k, 0x0301) | .emvArpcGenerate k => some (k, 0x0302)
  | .emvScriptMac k => some (k, 0x0303) | .emvScriptEncrypt k => some (k, 0x0304) | .emvSessionKey k => some (k, 0x0305)
  | .dukptIkExport k => some (k, 0x0401) | .dukptTerminalKey k => some (k, 0x0402) | .dukptDecrypt k => some (k, 0x0403)
  | .dukptEncrypt k => some (k, 0x0404) | .dukptMacVerify k => some (k, 0x0405) | .dukptMacGenerate k => some (k, 0x0406)
  | .macGenerate k => some (k, 0x0501) | .macVerify k => some (k, 0x0502) | .keyGenerate k => some (k, 0x0601)
  | .keyDerive k => some (k, 0x0602) | .keyImport k => some (k, 0x0603) | .keyExport k => some (k, 0x0604)
  | .rklRsa k => some (k, 0x0605) | .rklEcdh k => some (k, 0x0606) | .envelopeMake k => some (k, 0x0607)
  | .envelopeUpgrade k => some (k, 0x0608) | .keyCheckValue k => some (k, 0x0609) | .gcmEncrypt k => some (k, 0x0701)
  | .gcmDecrypt k => some (k, 0x0702) | .cbcEncrypt k => some (k, 0x0703) | .cbcDecrypt k => some (k, 0x0704)
  | .ctrCrypt k => some (k, 0x0705) | .ff1Encrypt k => some (k, 0x0706) | .ff1Decrypt k => some (k, 0x0707)
  | .randomBytes k => some (k, 0x0901) | .ecdsaSign k => some (k, 0x0801) | .ecdsaVerify k => some (k, 0x0802)
  | .ecdh k => some (k, 0x0803) | .ecKeygen k => some (k, 0x0804) | .rsaSign k => some (k, 0x0811) | .rsaVerify k => some (k, 0x0812)
  | .rsaDecrypt k => some (k, 0x0813) | .rsaKeygen k => some (k, 0x0814) | .attest k => some (k, 0x0A01) | .frankCert k => some (k, 0x0A02)
  | .maintEnter k => some (k, 0x8010) | .maintExit k => some (k, 0x8011) | .imageReapply k => some (k, 0x8012)
  | .moduleRetire k => some (k, 0x8013) | .diagEnter k => some (k, 0x8014) | .diagExit k => some (k, 0x8015)
  | .curveLoad k => some (k, 0x8020) | .arraySelftest k _ _ => some (k, 0x8030) | .counterRead k => some (k, 0x8040)
  | .ceremonyBegin k => some (k, 0x8050) | .shareExport k => some (k, 0x8051) | .shareSubmit k => some (k, 0x8052)
  | .ceremonyCommit k => some (k, 0x8053) | .drErase k => some (k, 0x8054) | .rngSelftest k _ _ _ => some (k, 0x8060)
  | .rngStatus k => some (k, 0x8061) | .rngConfig k _ => some (k, 0x8062) | .rngRawRead k => some (k, 0x8063)
  | .slotCreate k => some (k, 0x8070) | .slotDestroy k => some (k, 0x8071) | .slotQuiesce k => some (k, 0x8072)
  | .slotResume k => some (k, 0x8073) | .slotSave k => some (k, 0x8074) | .slotRestore k => some (k, 0x8075)
  | .logEnable k => some (k, 0x8076) | .harvest k => some (k, 0x8076) | .logDisable k => some (k, 0x8076)
  | .roleSwap k => some (k, 0x8080) | .healthReport k => some (k, 0x8081) | .pairForce k _ => some (k, 0x8082)
  | .quorumChallenge k => some (k, 0x8090) | .quorumGrant k => some (k, 0x8091) | .unlock k => some (k, 0x8092)
  | .dryFire k _ => some (k, 0x8093) | .tamperConfig k _ => some (k, 0x8094) | .batteryLog k => some (k, 0x8095)
  | _ => none

/-- Input length that a service's header calls for, where the length is its first check (R94, R156, R173, R195, R203). -/
def lengthOf (i : Octets) : Instr → Option Nat
  | .pinTranslate _ | .pinVerify _ | .pinRefGenerate _ => some (64 + refsLen 2 (i.drop 64))
  | .pinChange _ => some (96 + refsLen 2 (i.drop 96))
  | .pinGenerate _ => some (64 + refsLen (if u8 i 1 = 0 then 1 else 2) (i.drop 64))
  | .cvcGenerate _ | .cvcVerify _ => some (32 + refsLen 1 (i.drop 32))
  | .emvArqcVerify _ | .emvArpcGenerate _ | .emvScriptMac _ | .emvScriptEncrypt _ => some (64 + refsLen 1 (i.drop 64) + u32 i 40)
  | .emvSessionKey _ => some (64 + refsLen 2 (i.drop 64) + u32 i 40)
  | .dukptIkExport _ => some (64 + refsLen 2 (i.drop 64))
  | .dukptTerminalKey _ => some (64 + refsLen 1 (i.drop 64))
  | .dukptDecrypt _ | .dukptEncrypt _ | .dukptMacVerify _ | .dukptMacGenerate _ => some (64 + refsLen 1 (i.drop 64) + u32 i 4)
  | .macGenerate _ | .macVerify _ => some (64 + refsLen 1 (i.drop 64) + u32 i 4)
  | .gcmEncrypt _ | .gcmDecrypt _ | .cbcEncrypt _ | .cbcDecrypt _ | .ctrCrypt _ | .ff1Encrypt _ | .ff1Decrypt _ =>
    some (64 + refsLen 1 (i.drop 64) + u32 i 8 + u32 i 4)
  | .keyGenerate _ => some (64 + u32 i 4)
  | .keyDerive _ | .keyImport _ | .envelopeMake _ | .envelopeUpgrade _ | .keyCheckValue _ | .rklRsa _ =>
    some (64 + refsLen 1 (i.drop 64) + u32 i 4)
  | .keyExport _ => some (64 + refsLen 2 (i.drop 64) + u32 i 4)
  | .ecdsaSign _ | .rsaSign _ => some (64 + refsLen 1 (i.drop 64) + u32 i 4)
  | .rsaDecrypt _ => some (64 + refsLen 1 (i.drop 64) + u16 i 8 / 8)
  | .ecKeygen _ | .rsaKeygen _ => some 128
  | _ => none

end Sys2Proof.Machine
end

