-- ==== Sys2Proof/Certificates/Slice0/Obligations.lean ====
section
/-! DEFINITION. The statements about the module that the provers are given. -/

open Sys2Proof Sys2Proof.Machine

/-! ### The instructions of a logical core (chapter 11) -/

/-- A general register reads what was last written to it, and g0 reads as zero (R357). -/
def Claims.RegisterReadsBack : Prop :=
  ∀ (c : Core) (n m : Nat) (v : W36),
    (c.setReg n v).reg m = (if m = 0 then 0 else if m = n then v else c.reg m) ∧
    (c.setReg n v).pc = c.pc ∧ (c.setReg n v).st = c.st ∧ (c.setReg n v).dsram = c.dsram

/-- The short forms of SOP 0x01 to 0x10 write their result, NC or C where the table says so, and nothing else. -/
def Claims.ShortOperationsRetire : Prop :=
  ∀ (s : State) (k : CoreId) (d a b : BitVec 4),
    AluRetires (.mov k d a) s k.toNat 1 0x01 d.toNat a.toNat 0 ∧
    AluRetires (.addInsn k d a b) s k.toNat 1 0x02 d.toNat a.toNat b.toNat ∧
    AluRetires (.subInsn k d a b) s k.toNat 1 0x03 d.toNat a.toNat b.toNat ∧
    AluRetires (.andInsn k d a b) s k.toNat 1 0x04 d.toNat a.toNat b.toNat ∧
    AluRetires (.orInsn k d a b) s k.toNat 1 0x05 d.toNat a.toNat b.toNat ∧
    AluRetires (.xorInsn k d a b) s k.toNat 1 0x06 d.toNat a.toNat b.toNat ∧
    AluRetires (.addcInsn k d a b) s k.toNat 1 0x07 d.toNat a.toNat b.toNat ∧
    AluRetires (.subbInsn k d a b) s k.toNat 1 0x08 d.toNat a.toNat b.toNat ∧
    AluRetires (.shlInsn k d a b) s k.toNat 1 0x09 d.toNat a.toNat b.toNat ∧
    AluRetires (.shrInsn k d a b) s k.toNat 1 0x0A d.toNat a.toNat b.toNat ∧
    AluRetires (.sltuInsn k d a b) s k.toNat 1 0x0B d.toNat a.toNat b.toNat ∧
    AluRetires (.mulInsn k d a b) s k.toNat 1 0x0C d.toNat a.toNat b.toNat ∧
    AluRetires (.mulhuInsn k d a b) s k.toNat 1 0x0D d.toNat a.toNat b.toNat ∧
    AluRetires (.norm k d a) s k.toNat 1 0x0E d.toNat a.toNat 0 ∧
    AluRetires (.gget k d a) s k.toNat 1 0x0F d.toNat a.toNat 0 ∧
    AluRetires (.gclr k d a) s k.toNat 1 0x10 d.toNat a.toNat 0

/-- ALU names the same sixteen operations on all 32 registers; SEL picks by a register. -/
def Claims.LongOperationsRetire : Prop :=
  ∀ (s : State) (k : CoreId) (op d a b c : BitVec 5),
    AluRetires (.alu k op d a b) s k.toNat 2 op.toNat d.toNat a.toNat b.toNat ∧
    (GoingLong s k.toNat (halfAdd (s.core k.toNat).pc 2) →
      Retires (.sel k d a b c) s k.toNat
        { regs := [(d.toNat, (s.core k.toNat).reg (if (s.core k.toNat).reg c.toNat = 0 then b.toNat else a.toNat))],
          next := halfAdd (s.core k.toNat).pc 2 })

/-- The immediate forms, short and long; NOP; REP and REPI prefixes are stated on their own. -/
def Claims.ImmediateFormsRetire : Prop :=
  ∀ (s : State) (k : CoreId) (d4 : BitVec 4) (i8 : BitVec 8) (d a : BitVec 5) (i18 : BitVec 18),
    let c := s.core k.toNat
    let one := halfAdd c.pc 1
    let two := halfAdd c.pc 2
    let x := c.reg a.toNat
    let short (i : Instr) (v : W36) := Retires i s k.toNat { regs := [(d4.toNat, v)], next := one }
    let long (i : Instr) (v : W36) := Retires i s k.toNat { regs := [(d.toNat, v)], next := two }
    (Going s k.toNat one →
      Retires (.nopInsn k) s k.toNat { next := one } ∧
      short (.li k d4 i8) (BitVec.ofNat 36 i8.toNat) ∧
      short (.addi k d4 i8) (BitVec.ofInt 36 ((c.reg d4.toNat).toNat + i8.toInt)) ∧
      (i8.toNat ≤ 35 → short (.shli k d4 i8) (BitVec.ofNat 36 ((c.reg d4.toNat).toNat * 2 ^ i8.toNat)) ∧
        short (.shri k d4 i8) (BitVec.ofNat 36 ((c.reg d4.toNat).toNat / 2 ^ i8.toNat)))) ∧
    (GoingLong s k.toNat two →
      long (.addiLong k d a i18) (BitVec.ofInt 36 (x.toNat + i18.toInt)) ∧
      long (.andi k d a i18) (x &&& BitVec.ofNat 36 i18.toNat) ∧
      long (.ori k d a i18) (x ||| BitVec.ofNat 36 i18.toNat) ∧
      long (.xori k d a i18) (x ^^^ BitVec.ofNat 36 i18.toNat) ∧
      long (.movi k d i18) (BitVec.ofNat 36 i18.toNat) ∧
      long (.lui k d i18) (BitVec.ofNat 36 (i18.toNat * 2 ^ 18)) ∧
      (i18.toNat ≤ 35 → long (.shliLong k d a i18) (BitVec.ofNat 36 (x.toNat * 2 ^ i18.toNat)) ∧
        long (.shriLong k d a i18) (BitVec.ofNat 36 (x.toNat / 2 ^ i18.toNat))))

/-- Branches and jumps: where the pc goes, what the link register takes, and the clocks of R375. -/
def Claims.BranchesRetire : Prop :=
  ∀ (s : State) (k : CoreId) (a4 : BitVec 4) (o8 : BitVec 8) (a b : BitVec 5) (o18 : BitVec 18),
    let c := s.core k.toNat
    let to8 := BitVec.ofInt 25 (c.pc.toNat + o8.toInt)
    let to18 := BitVec.ofInt 25 (c.pc.toNat + o18.toInt)
    let branch (i : Instr) (n : Nat) (tgt : BitVec 25) (taken : Prop) :=
      (taken → Going s k.toNat tgt → c.fetched n = true → Retires i s k.toNat { next := tgt, clocks := 2 }) ∧
      (¬ taken → Going s k.toNat (halfAdd c.pc n) → c.fetched n = true → Retires i s k.toNat { next := halfAdd c.pc n })
    let x := c.reg a4.toNat
    let y := (c.reg a.toNat).toNat
    let z := (c.reg b.toNat).toNat
    let there := BitVec.ofNat 25 x.toNat
    branch (.beqz k a4 o8) 1 to8 (x = 0) ∧ branch (.bnez k a4 o8) 1 to8 (x ≠ 0) ∧
    branch (.beq k a b o18) 2 to18 (y = z) ∧ branch (.bne k a b o18) 2 to18 (y ≠ z) ∧
    branch (.bltu k a b o18) 2 to18 (y < z) ∧ branch (.bgeu k a b o18) 2 to18 (z ≤ y) ∧
    (Going s k.toNat there → Retires (.jr k a4) s k.toNat { next := there, clocks := 2 }) ∧
    (Going s k.toNat there →
      Retires (.jalr k a4) s k.toNat
        { regs := [(31, BitVec.ofNat 36 (halfAdd c.pc 1).toNat)], next := there, clocks := 2 }) ∧
    (GoingLong s k.toNat to18 →
      Retires (.jal k o18) s k.toNat
        { regs := [(31, BitVec.ofNat 36 (halfAdd c.pc 2).toNat)], next := to18, clocks := 2 })

/-- NEAR loads, stores, NORMS and ZEROS where the map of R362 allows them. -/
def Claims.NearAccessesRetire : Prop :=
  ∀ (s : State) (k : CoreId) (d4 a4 u4 : BitVec 4) (d a : BitVec 5) (o18 : BitVec 18) (v : W36),
    let c := s.core k.toNat
    let one := halfAdd c.pc 1
    let two := halfAdd c.pc 2
    let at4 := ((c.reg a4.toNat).toNat % 2 ^ 24 + u4.toNat) % 2 ^ 24
    let at18 := (((c.reg a.toNat).toNat + o18.toInt) % 2 ^ 24).toNat
    let here := (c.reg a4.toNat).toNat % 2 ^ 24
    let sum := v.toNat + c.st.toNat / 2 % 32
    (Going s k.toNat one →
      (nearLoad s c at4 = some v → Retires (.ld k d4 a4 u4) s k.toNat { load := some (d4.toNat, v), next := one }) ∧
      (nearStorable at4 = true →
        Retires (.st k d4 a4 u4) s k.toNat { store := some (at4, c.reg d4.toNat), next := one }) ∧
      (nearStorable here = true → nearLoad s c here = some v →
        Retires (.norms k a4) s k.toNat
          { store := some (here, BitVec.ofNat 36 (sum % 2 ^ 32)), st := some (withNC c.st (sum / 2 ^ 32)),
            regs := [(a4.toNat, c.reg a4.toNat + 1)], next := one }) ∧
      (nearStorable here = true →
        Retires (.zeros k a4) s k.toNat
          { store := some (here, 0), regs := [(a4.toNat, c.reg a4.toNat + 1)], next := one })) ∧
    (GoingLong s k.toNat two →
      (nearLoad s c at18 = some v →
        Retires (.ldLong k d a o18) s k.toNat { load := some (d.toNat, v), next := two }) ∧
      (nearStorable at18 = true →
        Retires (.stLong k d a o18) s k.toNat { store := some (at18, c.reg d.toNat), next := two }))

/-- The NEAR map of R362: what a load returns and where a store may go. -/
def Claims.NearMap : Prop :=
  ∀ (s : State) (c : Core) (a : Nat),
    (a < 0x8000 → nearStorable a = false ∧
      nearLoad s c a = (if c.custom ∧ ¬ (c.segLo ≤ a ∧ a < c.segHi) then none else some (iword s a))) ∧
    (0x10000 ≤ a → a < 0x18000 → nearStorable a = true ∧ nearLoad s c a = some (tget 0 c.dsram (a - 0x10000))) ∧
    (0x100000 ≤ a → a < 0x180000 → nearStorable a = false ∧
      nearLoad s c a = some (BitVec.ofNat 36 (sharedWord s a).toNat)) ∧
    (0x200000 ≤ a → a < 0x200800 → nearStorable a = true ∧
      nearLoad s c a = some (if c.wmu.scrubbing then 0 else tget 0 c.wmu.opmem (a - 0x200000))) ∧
    ((0x8000 ≤ a ∧ a < 0x10000) ∨ (0x18000 ≤ a ∧ a < 0x100000) ∨ (0x180000 ≤ a ∧ a < 0x200000) ∨ 0x200800 ≤ a →
      nearStorable a = false ∧ nearLoad s c a = none)

/-- MOVS, MOVT, CYC and the prefixes of repeats. -/
def Claims.SpecialRegistersRetire : Prop :=
  ∀ (s : State) (k : CoreId) (d a : BitVec 4) (n6 : BitVec 6) (n12 : BitVec 12) (body : BitVec 36),
    let c := s.core k.toNat
    let one := halfAdd c.pc 1
    let x := c.reg a.toNat
    let movs (sp : BitVec 4) (v : W36) := Retires (.movs k d sp) s k.toNat { regs := [(d.toNat, v)], next := one }
    Going s k.toNat one →
      movs 0 (BitVec.ofNat 36 c.pc.toNat) ∧ movs 1 c.st ∧ movs 2 c.repc ∧ movs 3 c.ev ∧ movs 4 c.ctx ∧
      Retires (.movt k 1 a) s k.toNat { st := some (x &&& 0x1FF), next := one } ∧
      Retires (.movt k 2 a) s k.toNat { repc := some (x &&& 0xFFF), next := one } ∧
      Retires (.movt k 3 a) s k.toNat { ev := some ((x &&& 0xFFFFFF83F) ||| (c.ev &&& 0x7C0)), next := one } ∧
      (∃ stall : Nat,
        RetiresFrom (.cyc k d) s
          (State.setCore { s with free := s.free + 1 } k.toNat { c with cycles := c.cycles + stall }) k.toNat
          { regs := [(d.toNat, BitVec.ofNat 36 (c.cycles + stall))], next := one }) ∧
      (bodyLegal body = true →
        Retires (.rep k n6 body) s k.toNat
          { repc := some (BitVec.ofNat 36 (n6.toNat + 1)), next := one,
            rep := some { interruptible := false, prefixPc := c.pc, bodyLen := bodyHalves body } }) ∧
      (bodyLegal body = true → n12 ≠ 0 → c.resume = false →
        Retires (.repi k n12 body) s k.toNat
          { repc := some (BitVec.ofNat 36 n12.toNat), next := one,
            rep := some { interruptible := true, prefixPc := c.pc, bodyLen := bodyHalves body } }) ∧
      (bodyLegal body = true → n12 ≠ 0 → c.resume = true → c.repc.toNat % 4096 ≠ 0 →
        Retires (.repi k n12 body) s k.toNat
          { repc := some (BitVec.ofNat 36 (c.repc.toNat % 4096)), next := one,
            rep := some { interruptible := true, prefixPc := c.pc, bodyLen := bodyHalves body } })

/-- A body iteration of a repeat counts repc down; the pc stays at the body until the last one (R379). -/
def Claims.RepeatCountsDown : Prop :=
  ∀ (s : State) (k : CoreId) (d a : BitVec 4) (r : Repeat),
    let c := s.core k.toNat
    let left := c.repc.toNat % 4096
    c.cmd.isSome = true → c.far = none → c.rep = some r → c.wmuPending = false → 1 ≤ left →
      (left = 1 → fetchable c (halfAdd c.pc 1) = true →
        Retires (.mov k d a) s k.toNat
          { regs := [(d.toNat, c.reg a.toNat)], repc := some 0, rep := none, next := halfAdd c.pc 1 }) ∧
      (2 ≤ left → fetchable c c.pc = true →
        Retires (.mov k d a) s k.toNat
          { regs := [(d.toNat, c.reg a.toNat)], repc := some (BitVec.ofNat 36 (left - 1)), rep := some r, next := c.pc })

/-- RFE clears ACT and goes to EPC; a handler may write EPC and CAUSE with MOVT before it; an EPC outside the fetch
rights is EXEC_BOUND; with ACT 0 it is ILLEGAL (R386, R383). -/
def Obligations.ReturnFromEvent : Prop :=
  ∀ (s : State) (k : CoreId) (a : BitVec 4),
    let c := s.core k.toNat
    let epc := BitVec.ofNat 25 (c.ev.toNat / 2 ^ 11)
    (Going s k.toNat epc → c.wmuPending = false → evAct c.ev = true → evRpt c.ev = false →
      Retires (.rfe k) s k.toNat { ev := some (c.ev &&& ~~~(0x80 : W36)), next := epc, clocks := 2 }) ∧
    (Going s k.toNat epc → c.wmuPending = false → evAct c.ev = true → evRpt c.ev = true →
      Gives (.rfe k) s fun t => Only [.cores] s t ∧ OnlyCore k.toNat s t ∧ (t.core k.toNat).pc = epc ∧
        evAct (t.core k.toNat).ev = false ∧ (t.core k.toNat).resume = true) ∧
    (c.cmd.isSome = true → c.far = none → c.rep = none → evAct c.ev = true → fetchable c epc = false →
      ∃ c' : Core, c'.cmd = c.cmd ∧ c'.pc = epc ∧
        exec (.rfe k) s = answer (programFaultAt (s.setCore k.toNat c') k.toNat evExecBound)) ∧
    (c.cmd.isSome = true → c.far = none → evAct c.ev = false →
      exec (.rfe k) s = answer (programFaultAt s k.toNat evIllegal)) ∧
    (Going s k.toNat (halfAdd c.pc 1) →
      Gives (.movt k 3 a) s fun t =>
        evEpc (t.core k.toNat).ev = BitVec.ofNat 25 ((c.reg a.toNat).toNat / 2 ^ 11) ∧
        (t.core k.toNat).ev.toNat % 64 = (c.reg a.toNat).toNat % 64 ∧
        evAct (t.core k.toNat).ev = evAct c.ev)

/-- The forms that raise ILLEGAL or NEAR_ACCESS, and the long forms whose second half lies outside the fetch rights, do
nothing but end their command (R371, R373, R380, R383). -/
def Claims.TerminalForms : Prop :=
  ∀ (s : State) (k : CoreId) (d4 a4 u4 sp : BitVec 4) (i8 : BitVec 8) (op d a b : BitVec 5) (i18 : BitVec 18)
    (n6 : BitVec 6) (n12 : BitVec 12) (body : BitVec 36),
    let c := s.core k.toNat
    let ends (i : Instr) (cause : Nat) := exec i s = answer (programFaultAt s k.toNat cause)
    c.ready = true →
      (35 < i8.toNat → ends (.shli k d4 i8) 1 ∧ ends (.shri k d4 i8) 1) ∧
      (c.spans = true → 35 < i18.toNat → ends (.shliLong k d a i18) 1 ∧ ends (.shriLong k d a i18) 1) ∧
      (c.spans = true → op.toNat = 0 ∨ 16 < op.toNat → ends (.alu k op d a b) 1) ∧
      (c.spans = false →
        ends (.alu k op d a b) 2 ∧ ends (.sel k d a b op) 2 ∧ ends (.addiLong k d a i18) 2 ∧ ends (.andi k d a i18) 2 ∧
        ends (.ori k d a i18) 2 ∧ ends (.xori k d a i18) 2 ∧ ends (.movi k d i18) 2 ∧ ends (.lui k d i18) 2 ∧
        ends (.shliLong k d a i18) 2 ∧ ends (.shriLong k d a i18) 2 ∧ ends (.ldLong k d a i18) 2 ∧
        ends (.stLong k d a i18) 2 ∧ ends (.beq k a b i18) 2 ∧ ends (.bne k a b i18) 2 ∧ ends (.bltu k a b i18) 2 ∧
        ends (.bgeu k a b i18) 2 ∧ ends (.jal k i18) 2) ∧
      (4 < sp.toNat → ends (.movs k d4 sp) 1) ∧
      (sp.toNat = 0 ∨ 3 < sp.toNat → ends (.movt k sp a4) 1) ∧
      (bodyLegal body = false → ends (.rep k n6 body) 1 ∧ ends (.repi k n12 body) 1) ∧
      (n12 = 0 → ends (.repi k n12 body) 1) ∧
      (nearStorable (((c.reg a4.toNat).toNat % 2 ^ 24 + u4.toNat) % 2 ^ 24) = false → ends (.st k d4 a4 u4) 3) ∧
      (nearLoad s c (((c.reg a4.toNat).toNat % 2 ^ 24 + u4.toNat) % 2 ^ 24) = none → ends (.ld k d4 a4 u4) 3) ∧
      (nearStorable ((c.reg a4.toNat).toNat % 2 ^ 24) = false → ends (.zeros k a4) 3 ∧ ends (.norms k a4) 3)

/-- A terminal event: the command completes with PROGRAM_FAULT, no output and no commit, the core is left as the end
of a turn leaves it, and an F-class event is raised (R385, R393). -/
def Claims.ProgramFaultEndsCommand : Prop :=
  ∀ (s : State) (k : CoreId) (cause e : Nat) (c : Cmd),
    running s k.toNat = some (e, c) →
      let t := programFaultAt s k.toNat cause
      (∃ c', t.cmd e = some c' ∧ c'.status = programFault ∧ c'.output = [] ∧ c'.outLen = 0 ∧ c'.effects = [] ∧
        c'.stage = .done ∧ c'.d = c.d) ∧
      t.so.replays = s.so.replays ∧ t.keys.counters = s.keys.counters ∧
      (t.core k.toNat).cmd = none ∧ (∀ m, (t.core k.toNat).reg m = 0) ∧ (t.core k.toNat).st = 0 ∧
      (t.core k.toNat).repc = 0 ∧ (t.core k.toNat).ev = 0

/-! ### The wide multiplier unit (chapter 08) -/

/-- The WMU instructions that move no accumulator bits out: their effect on ACC, the multiplicands, the pointers, the
residues and ACNT (R239, R241, R242). -/
def Claims.WmuOperationsRetire : Prop :=
  ∀ (s : State) (k : CoreId) (m1 : Bool) (a b d : BitVec 4),
    let c := s.core k.toNat
    let w := c.wmu
    let q := checkPrime s
    let one := halfAdd c.pc 1
    let x := c.reg a.toNat
    let y := c.reg b.toNat
    let mm := if m1 then w.m1 else w.m0
    let mr := if m1 then w.resM1 else w.resM0
    let limb := tget 0 w.opmem w.lp.toNat
    let acc (v : BitVec 32) := { w with
      acc := BitVec.ofNat 640 (w.acc.toNat + mm.toNat * v.toNat), resAcc := (w.resAcc + mr * v.toNat) % q,
      acnt := w.acnt + 1, used := true }
    let ends (i : Instr) (v : Wmu) := Retires i s k.toNat { wmu := some v, next := one }
    Going s k.toNat one → w.scrubbing = false →
      ends (.wmuClr k) { w with acc := 0, resAcc := 0, acnt := 0, rfault := false, used := true } ∧
      ends (.wmuSetp k a b) { w with lp := BitVec.ofNat 11 x.toNat, op := BitVec.ofNat 11 y.toNat, used := true } ∧
      ((∀ n, n < 18 → guardBits (tget 0 w.opmem ((x.toNat % 2048 + n) % 2048)) = 0) →
        let m := limbs (w.words (x.toNat % 2048) 18)
        ends (.wmuLdm k m1 a)
          (if m1 then { w with m1 := BitVec.ofNat 576 m, resM1 := m % q, used := true }
           else { w with m0 := BitVec.ofNat 576 m, resM0 := m % q, used := true })) ∧
      (guardBits y = 0 → w.acnt.toNat ≠ 2 ^ 32 - 1 → ends (.wmuMac k m1 b) (acc (low32 y))) ∧
      (guardBits limb = 0 → w.acnt.toNat ≠ 2 ^ 32 - 1 →
        ends (.wmuMacs k m1) { acc (low32 limb) with lp := w.lp + 1 }) ∧
      Retires (.wmuStat k d) s k.toNat
        { regs := [(d.toNat, BitVec.ofNat 36
            (w.lp.toNat + w.op.toNat * 2 ^ 11 + (if w.rfault then 2 ^ 23 else 0) + (if w.used then 2 ^ 24 else 0)))],
          wmu := some { w with used := true }, next := one }

/-- The readouts whose residue check passes: what leaves the accumulator, where it goes, and the shift (R239, R242). -/
def Claims.WmuReadoutsRetire : Prop :=
  ∀ (s : State) (k : CoreId) (m1 : Bool) (d : BitVec 4),
    let c := s.core k.toNat
    let w := c.wmu
    let q := checkPrime s
    let one := halfAdd c.pc 1
    let low (w : Wmu) : BitVec 32 := BitVec.ofNat 32 w.acc.toNat
    let shifted (w : Wmu) : Wmu := { w with
      acc := BitVec.ofNat 640 (w.acc.toNat / 2 ^ 32),
      resAcc := (w.resAcc + q - (low w).toNat % q) % q * invPrime (2 ^ 32) q % q, acnt := 0 }
    let written (w : Wmu) : Wmu := { w with
      opmem := tset 0 w.opmem w.op.toNat (BitVec.ofNat 36 (low w).toNat), op := w.op + 1, used := true }
    let limb := tget 0 w.opmem w.lp.toNat
    let v := { w.accumulate q m1 (low32 limb) with lp := w.lp + 1 }
    Going s k.toNat one → w.scrubbing = false →
      (w.acc.toNat % q = w.resAcc →
        Retires (.wmuPeek k d) s k.toNat
          { regs := [(d.toNat, BitVec.ofNat 36 (low w).toNat)], wmu := some { w with used := true }, next := one } ∧
        Retires (.wmuPop k d) s k.toNat
          { regs := [(d.toNat, BitVec.ofNat 36 (low w).toNat)], wmu := some { shifted w with used := true }, next := one } ∧
        Retires (.wmuPops k) s k.toNat { wmu := some (shifted (written w)), next := one }) ∧
      (guardBits limb = 0 → w.acnt.toNat ≠ 2 ^ 32 - 1 → v.acc.toNat % q = v.resAcc →
        Retires (.wmuMacsSh k m1) s k.toNat { wmu := some (shifted (written v)), next := one })

/-- The residue follows the accumulator through every accumulation and every shift (R242). -/
def Claims.ResidueFollowsAccumulator : Prop :=
  ∀ (w : Wmu) (q : Nat) (m1 : Bool) (limb : BitVec 32),
    0 < q → 2 ^ 32 * invPrime (2 ^ 32) q % q = 1 →
    w.resAcc = w.acc.toNat % q → w.mres m1 = (w.mcand m1).toNat % q →
      (w.acc.toNat + (w.mcand m1).toNat * limb.toNat < 2 ^ 640 →
        (w.accumulate q m1 limb).resAcc = (w.accumulate q m1 limb).acc.toNat % q) ∧
      (w.shift q).resAcc = (w.shift q).acc.toNat % q

/-- A residue mismatch: the readout delivers zero, RFAULT is set, and WMU_FAULT is taken after the readout, or after the
last iteration of the repeat in which it arose (R242, R384); that ev then shows RPT and SLOT is the model's reading (log
entry 80). -/
def Claims.ResidueMismatchFaults : Prop :=
  ∀ (s : State) (k : CoreId) (d : BitVec 4) (h : BitVec 25),
    let c := s.core k.toNat
    let w := c.wmu
    let one := halfAdd c.pc 1
    c.wmuPending = false → evAct c.ev = false → c.handler = some h → w.scrubbing = false →
    w.acc.toNat % checkPrime s ≠ w.resAcc →
      let faulted (t : State) := Only [.cores] s t ∧ OnlyCore k.toNat s t ∧ (t.core k.toNat).wmu.rfault = true ∧
        (t.core k.toNat).wmuSeen = true ∧ (t.core k.toNat).pc = h ∧ (t.core k.toNat).ev = mkEv 7 c.rep.isSome true c.load.isSome one
      Going s k.toNat one ∨ (c.cmd.isSome = true ∧ c.far = none ∧ c.rep.isSome = true ∧ c.repc.toNat % 4096 = 1 ∧
        fetchable c one = true) →
      Gives (.wmuPeek k d) s (fun t => faulted t ∧ (t.core k.toNat).reg d.toNat = 0 ∧ (t.core k.toNat).wmu.acc = w.acc) ∧
      Gives (.wmuPop k d) s (fun t => faulted t ∧ (t.core k.toNat).reg d.toNat = 0) ∧
      Gives (.wmuPops k) s (fun t => faulted t ∧ tget 0 (t.core k.toNat).wmu.opmem w.op.toNat = 0 ∧
        (t.core k.toNat).wmu.op = w.op + 1)

/-- During a scrub readouts return zero and the other WMU instructions do nothing; SCRUB_END ends it (R245), and after a
second residue fault within 24 h the cluster is lost then (R244; that it is then is the model's reading, log entry 64). -/
def Claims.ScrubHoldsTheWmu : Prop :=
  ∀ (s : State) (k : CoreId) (m1 : Bool) (a b d : BitVec 4),
    let c := s.core k.toNat
    let one := halfAdd c.pc 1
    let still (i : Instr) := Retires i s k.toNat { next := one }
    c.wmu.scrubbing = true →
      (Going s k.toNat one →
        still (.wmuClr k) ∧ still (.wmuSetp k a b) ∧ still (.wmuLdm k m1 a) ∧ still (.wmuMac k m1 b) ∧
        still (.wmuMacs k m1) ∧ still (.wmuMacsSh k m1) ∧ still (.wmuPops k) ∧
        Retires (.wmuPeek k d) s k.toNat { regs := [(d.toNat, 0)], next := one } ∧
        Retires (.wmuPop k d) s k.toNat { regs := [(d.toNat, 0)], next := one }) ∧
      (let ended := s.setCore k.toNat { c with wmu := { c.wmu with scrubbing := false }, wmuLost := false }
       exec (.scrubEnd k) s = answer (if c.wmuLost then clusterLost ended (k.toNat / 8) else ended))

/-- The handled synchronous events: which forms raise them, and what the core becomes (R241, R361, R366, R367, R383,
R384); inside a repeat EPC and RPT follow R381. -/
def Claims.HandledEvents : Prop :=
  ∀ (s : State) (k : CoreId) (seg : BitVec 3) (d a b : BitVec 5) (off : BitVec 10) (x : Nat) (m1 : Bool) (g : BitVec 4),
    let c := s.core k.toNat
    let rpt := c.rep.isSome
    let epc (n : Nat) := match c.rep with
      | none => c.pc
      | some r => if r.interruptible then r.prefixPc else halfAdd c.pc n
    c.ready = true →
      (c.spans = true → farAddr c seg.toNat (c.reg a.toNat + off.signExtend 36) = some x → x % 4 ≠ 0 →
        TakesEvent (.fld k seg d a off) s k.toNat 5 rpt (epc 2) ∧
        TakesEvent (.fst k seg d a off) s k.toNat 5 rpt (epc 2)) ∧
      (c.spans = true → farAddr c seg.toNat (c.reg a.toNat + off.signExtend 36) = some x → x % 4 = 0 → guardBits (c.reg d.toNat) ≠ 0 →
        TakesEvent (.fst k seg d a off) s k.toNat 4 rpt (epc 2)) ∧
      (c.spans = true → farAddr c seg.toNat (c.reg a.toNat) = some x →
        x % 4 ≠ 0 ∨ (c.reg b.toNat).toNat % 4 ≠ 0 ∨ (c.reg b.toNat).toNat < 4 ∨ 65536 < (c.reg b.toNat).toNat →
        TakesEvent (.fmr k seg d a b) s k.toNat 5 rpt (epc 2) ∧ TakesEvent (.fmw k seg d a b) s k.toNat 5 rpt (epc 2)) ∧
      (c.wmu.scrubbing = false → guardBits (c.reg g.toNat) ≠ 0 →
        TakesEvent (.wmuMac k m1 g) s k.toNat 4 rpt (epc 1)) ∧
      (c.wmu.scrubbing = false → guardBits (tget 0 c.wmu.opmem c.wmu.lp.toNat) ≠ 0 →
        TakesEvent (.wmuMacs k m1) s k.toNat 4 rpt (epc 1) ∧ TakesEvent (.wmuMacsSh k m1) s k.toNat 4 rpt (epc 1)) ∧
      (c.wmu.scrubbing = false →
        (∃ n, n < 18 ∧ guardBits (tget 0 c.wmu.opmem (((c.reg g.toNat).toNat % 2048 + n) % 2048)) ≠ 0) →
        TakesEvent (.wmuLdm k m1 g) s k.toNat 4 rpt (epc 1))

/-- A far access whose second half lies outside the fetch rights is EXEC_BOUND, SEG 5 to 7 is ILLEGAL, a far-move
outside the NEAR areas of R367 is NEAR_ACCESS, an accumulation at the limit is ILLEGAL, and a handled event without a
handler, or under ACT, is DOUBLE (R371, R365, R367, R241, R383). -/
def Claims.FarAndWmuTerminals : Prop :=
  ∀ (s : State) (k : CoreId) (seg : BitVec 3) (d a b : BitVec 5) (off : BitVec 10) (x : Nat) (m1 : Bool) (g : BitVec 4),
    let c := s.core k.toNat
    let n := (c.reg b.toNat).toNat
    let ends (i : Instr) (cause : Nat) := exec i s = answer (programFaultAt s k.toNat cause)
    c.ready = true →
      (c.spans = false → ends (.fld k seg d a off) 2 ∧ ends (.fst k seg d a off) 2 ∧ ends (.fmr k seg d a b) 2 ∧
        ends (.fmw k seg d a b) 2) ∧
      (c.spans = true → 5 ≤ seg.toNat → ends (.fld k seg d a off) 1 ∧ ends (.fst k seg d a off) 1 ∧ ends (.fmr k seg d a b) 1 ∧
        ends (.fmw k seg d a b) 1) ∧
      (c.spans = true → farAddr c seg.toNat (c.reg a.toNat) = some x → x % 4 = 0 → n % 4 = 0 → 4 ≤ n → n ≤ 65536 →
        (moveRange true (near24 (c.reg d.toNat)) (n / 4) = false → ends (.fmr k seg d a b) 3) ∧
        (moveRange false (near24 (c.reg d.toNat)) (n / 4) = false → ends (.fmw k seg d a b) 3)) ∧
      (c.wmu.scrubbing = false → guardBits (c.reg g.toNat) = 0 → c.wmu.acnt.toNat = 2 ^ 32 - 1 →
        ends (.wmuMac k m1 g) 1) ∧
      (c.spans = true → farAddr c seg.toNat (c.reg a.toNat + off.signExtend 36) = some x → x % 4 ≠ 0 →
        c.handler = none ∨ evAct c.ev = true →
        ∃ c' : Core, c'.cmd = c.cmd ∧ c'.pc = c.pc ∧
          exec (.fld k seg d a off) s = answer (programFaultAt (s.setCore k.toNat c') k.toNat 9))

/-- FLD, FST, FMR and FMW issue their access and the core waits for its answer (R365 to R368). -/
def Claims.FarAccessesIssue : Prop :=
  ∀ (s : State) (k : CoreId) (seg : BitVec 3) (d a b : BitVec 5) (off : BitVec 10) (x : Nat) (o : Octets),
    let c := s.core k.toNat
    let n := (c.reg b.toNat).toNat
    let near := (c.reg d.toNat).toNat % 2 ^ 24
    let issued (i : Instr) (op : FarOp) (e : Emit) :=
      exec i s = answer (emit (s.setCore k.toNat { c with far := some op, resume := false, cycles := c.cycles + 1 }) e)
    c.ready = true → c.spans = true →
      (farAddr c seg.toNat (c.reg a.toNat + off.signExtend 36) = some x → x % 4 = 0 →
        issued (.fld k seg d a off) (.load d.toNat x) (.far k.toNat x false []) ∧
        (guardBits (c.reg d.toNat) = 0 →
          issued (.fst k seg d a off) (.store x (low32 (c.reg d.toNat)))
            (.far k.toNat x true (le 4 ((c.reg d.toNat).toNat % 2 ^ 32))))) ∧
      (farAddr c seg.toNat (c.reg a.toNat) = some x → x % 4 = 0 → n % 4 = 0 → 4 ≤ n → n ≤ 65536 →
        let len := pieceLen x n
        (moveRange true near (n / 4) = true →
          Gives (.fmr k seg d a b) s fun t => Only [.cores, .outbox] s t ∧ OnlyCore k.toNat s t ∧
            t.outbox = .far k.toNat x false [] :: s.outbox ∧
            t.core k.toNat = { c with far := some (.move true b.toNat near x n 0), cycles := c.cycles + 1 }) ∧
        (moveRange false near (n / 4) = true → nearOctets s { c with cycles := c.cycles + 1 } near (len / 4) = some o →
          Gives (.fmw k seg d a b) s fun t => Only [.cores, .outbox] s t ∧ OnlyCore k.toNat s t ∧
            t.outbox = .far k.toNat x true o :: s.outbox ∧
            t.core k.toNat = { c with far := some (.move false b.toNat near x n 0), cycles := c.cycles + 1 }))

/-- An accepted FLD or FST completes: the bus word lands zero-extended, or the store reaches working memory or the
command's output; the pc moves on, and nothing else but the gate's count of open requests changes (R366, R422). -/
def Claims.FarAnswersRetire : Prop :=
  ∀ (s : State) (k : CoreId) (o : Octets) (x d e : Nat) (v : BitVec 32) (cm : Cmd),
    let c := s.core k.toNat
    let two := halfAdd c.pc 2
    let data := if x < 0x80000000 then wmemRead s x 4 else fit 4 o
    let on (t : State) := OnlyCore k.toNat s t ∧ (t.core k.toNat).far = none ∧ (t.core k.toNat).pc = two ∧
      (t.core k.toNat).st = c.st ∧ (t.core k.toNat).ev = c.ev ∧ (t.core k.toNat).wmu = c.wmu ∧
      (t.core k.toNat).dsram = c.dsram
    c.cmd.isSome = true → c.rep = none → (c.wmuPending = true → evAct c.ev = true) → fetchable c two = true →
      (c.far = some (.load d x) →
        Gives (.farAnswer k (.ok o)) s fun t => Only [.cores, .gates] s t ∧ on t ∧
          ∀ m, (t.core k.toNat).reg m =
            if m = 0 then 0 else if m = d then BitVec.ofNat 36 (leNat data) else landed c m) ∧
      (c.far = some (.store x v) → x < 0x80000000 →
        Gives (.farAnswer k (.ok o)) s fun t => Only [.cores, .gates, .wmem] s t ∧ on t ∧
          (∀ m, (t.core k.toNat).reg m = if m = 0 then 0 else landed c m) ∧
          ∀ y, tget 0 t.wmem y =
            if x ≤ y ∧ y < x + 4 then BitVec.ofNat 8 (v.toNat / 2 ^ (8 * (y - x))) else tget 0 s.wmem y) ∧
      (c.far = some (.store x v) → running s k.toNat = some (e, cm) →
        let base := (1 + c.ctxPort) * 2 ^ 36 + hsOut k.toNat cm
        base ≤ x → x + 4 ≤ base + hsOutLen cm →
        Gives (.farAnswer k (.ok o)) s fun t => Only [.cores, .gates, .so] s t ∧ on t ∧
          t.so = (s.setCmd e { cm with output := writeAt cm.output (x - base) (le 4 v.toNat) }).so)

/-- Pieces of a far-move: an accepted piece moves its octets and the next one is issued, or the move ends with its
count in b (R367, R368). -/
def Claims.FarMovePieces : Prop :=
  ∀ (s : State) (k : CoreId) (o w : Octets) (b near far total done : Nat),
    let c := s.core k.toNat
    let two := halfAdd c.pc 2
    let n := pieceLen (far + done) (total - done)
    let data := if far + done < 0x80000000 then wmemRead s (far + done) n else fit n o
    c.cmd.isSome = true → c.rep = none → (c.wmuPending = true → evAct c.ev = true) → fetchable c two = true →
    total % 4 = 0 → done % 4 = 0 → n % 4 = 0 → done + n ≤ total →
    (c.far = some (.move false b near far total done) → far + done < 0x80000000 → done + n = total →
      nearOctets s c (near + done / 4) (n / 4) = some w →
      Gives (.farAnswer k (.ok o)) s fun t => OnlyCore k.toNat s t ∧ Only [.cores, .gates, .wmem] s t ∧
        (t.core k.toNat).far = none ∧ (t.core k.toNat).pc = two ∧
        (b ≠ 0 → (t.core k.toNat).reg b = BitVec.ofNat 36 total) ∧
        ∀ y, tget 0 t.wmem y =
          if far + done ≤ y ∧ y < far + done + n then (w[y - (far + done)]?).getD 0 else tget 0 s.wmem y) ∧
    (c.far = some (.move true b near far total done) → c.wmu.scrubbing = false → moveRange true near (total / 4) = true →
      Gives (.farAnswer k (.ok o)) s fun t => OnlyCore k.toNat s t ∧
        (∀ j, j < n / 4 → nearLoad t (t.core k.toNat) (near + done / 4 + j) =
          some (BitVec.ofNat 36 (leNat ((data.drop (4 * j)).take 4)))) ∧
        (done + n = total → Only [.cores, .gates] s t ∧ (t.core k.toNat).far = none ∧ (t.core k.toNat).pc = two ∧
          (b ≠ 0 → (t.core k.toNat).reg b = BitVec.ofNat 36 total)) ∧
        (done + n < total → Only [.cores, .gates, .outbox] s t ∧
          (t.core k.toNat).far = some (.move true b near far total (done + n)) ∧ (t.core k.toNat).pc = c.pc ∧
          t.outbox = .far k.toNat (far + done + n) false [] :: s.outbox))

/-- A refused access raises FAR_FAULT at the next instruction with st.FF; a refused FLD leaves d, a refused FST stores
nothing, and a refused piece ends its move with the octets done in b (R368, R369, R383). -/
def Claims.RefusedAccesses : Prop :=
  ∀ (s : State) (k : CoreId) (ff : BitVec 3) (h : BitVec 25),
    let c := s.core k.toNat
    c.cmd.isSome = true → c.rep = none → evAct c.ev = false → c.handler = some h →
      let faulted (t : State) := Only [.cores, .gates] s t ∧ OnlyCore k.toNat s t ∧ (t.core k.toNat).pc = h ∧
        (t.core k.toNat).far = none ∧ (t.core k.toNat).st = withFF c.st ff.toNat ∧
        (t.core k.toNat).ev = mkEv 6 false true c.load.isSome (halfAdd c.pc 2)
      (∀ d x, c.far = some (.load d x) →
        Gives (.farAnswer k (.refused ff)) s fun t => faulted t ∧
          ∀ m, (t.core k.toNat).reg m = if m = 0 then 0 else landed c m) ∧
      (∀ x v, c.far = some (.store x v) →
        Gives (.farAnswer k (.refused ff)) s fun t => faulted t ∧
          ∀ m, (t.core k.toNat).reg m = if m = 0 then 0 else landed c m) ∧
      (∀ rd b near far total done, c.far = some (.move rd b near far total done) → b ≠ 0 →
        Gives (.farAnswer k (.refused ff)) s fun t => faulted t ∧
          (t.core k.toNat).reg b = BitVec.ofNat 36 done)

/-- DONE of a standard service hands its result over and ends the turn; a residue fault seen by the command turns it
into INVARIANT_FAILED with no output (R393, R395, R244). -/
def Claims.DoneHandsOver : Prop :=
  ∀ (s : State) (k : CoreId) (a b : BitVec 4) (e : Nat) (c : Cmd),
    running s k.toNat = some (e, c) → (s.core k.toNat).far = none → doneWaits s k.toNat = false → c.custom = false →
    c.served = true → wantsFrank c.d = false → c.journalled = false → c.stateChanging = false →
      let ended (t : State) := (t.core k.toNat).cmd = none ∧ (∀ m, (t.core k.toNat).reg m = 0) ∧
        (t.core k.toNat).st = 0 ∧ (t.core k.toNat).repc = 0 ∧ (t.core k.toNat).ev = 0 ∧ OnlyCore k.toNat s t
      ((s.core k.toNat).wmuSeen = false → c.output.length ≤ c.d.outCap.toNat →
        Gives (.doneInsn k a b) s fun t => Only [.cores, .so, .arrays, .keys, .entropy] s t ∧ ended t ∧
          t.cmd e = some { c with list := none, eligible := false, stage := .done, effects := [],
                                  outLen := if c.isPartial then c.outLen else c.output.length }) ∧
      ((s.core k.toNat).wmuSeen = false → c.d.outCap.toNat < c.output.length →
        Gives (.doneInsn k a b) s fun t => Only [.cores, .so, .arrays, .keys, .entropy] s t ∧ ended t ∧
          ∃ c', t.cmd e = some c' ∧ c'.status = badLength ∧ c'.output = [] ∧ c'.outLen = c.output.length ∧
            c'.stage = .done) ∧
      ((s.core k.toNat).wmuSeen = true → within24h s (s.time.toNat :: (s.core k.toNat).wmuFaults.take 3) < 2 →
        Gives (.doneInsn k a b) s fun t => ended t ∧ t.wmem = s.wmem ∧ t.keys.counters = s.keys.counters ∧
          (t.core k.toNat).wmu.scrubbing = true ∧
          ∃ c', t.cmd e = some c' ∧ c'.status = invariantFailed ∧ c'.output = [] ∧ c'.stage = .done)

/-- CYCLE_LIMIT ends a custom command with PROGRAM_FAULT and scrubs the WMU, and waits for the end of a REP;
D_SRAM_CLEARED frees the core (R399, R245, R393). -/
def Claims.CycleLimitAndClearing : Prop :=
  ∀ (s : State) (k : CoreId) (m e : Nat) (c : Cmd),
    (∀ r, (s.core k.toNat).rep = some r → r.interruptible = false → exec (.cycleLimit k) s = answer s) ∧
    ((s.core k.toNat).maxCycles = some m → running s k.toNat = some (e, c) →
      (∀ r, (s.core k.toNat).rep = some r → r.interruptible = true) →
      Gives (.cycleLimit k) s fun t => (t.core k.toNat).cmd = none ∧ (t.core k.toNat).wmu.scrubbing = true ∧
        t.wmem = s.wmem ∧ OnlyCore k.toNat s t ∧
        ∃ c', t.cmd e = some c' ∧ c'.status = programFault ∧ c'.output = [] ∧ c'.stage = .done) ∧
    exec (.dSramCleared k) s = answer (s.setCore k.toNat { s.core k.toNat with clearing := false })

/-! ### Cipher and hash arrays (chapter 07) -/

/-- A cipher job of each mode joins its core's queue when its fields are in range and its key register holds a key of the
right algorithm; otherwise its result area shows 0x0001 or 0x0003, and nothing else changes (R217, R218). -/
def Claims.CipherJobsSubmit : Prop :=
  ∀ (s : State) (k : CoreId) (j : CipherJob) (key : LaneKey),
    let tag := j.ctl.toNat / 2 % 4
    let each (p : Instr → Nat → Prop) := p (.ecb k j) 0 ∧ p (.cbc k j) 1 ∧ p (.ctr k j) 2 ∧ p (.cbcMac k j) 3 ∧
      p (.cmac k j) 4 ∧ p (.gcm k j) 5
    (s.core k.toNat).cmd.isSome = true → findJob s false k.toNat tag = none →
      each fun i mode =>
        (cipherFieldsOk mode j = true → laneKey s k.toNat j.key.toNat = some key →
          laneAlgOk j.cipher.toNat key.alg = true →
          Gives i s fun t => Only [.arrays] s t ∧
            t.arrays = { s.arrays with jobs := s.arrays.jobs ++ [cipherEntry k.toNat mode j] }) ∧
        (cipherFieldsOk mode j = false →
          Gives i s fun t => Only [.arrays] s t ∧ t.arrays.jobs = s.arrays.jobs ∧
            lookup t.arrays.results (4 * k.toNat + tag) = some { status := 1 }) ∧
        (cipherFieldsOk mode j = true →
          laneKey s k.toNat j.key.toNat = none ∨
            (laneKey s k.toNat j.key.toNat = some key ∧ laneAlgOk j.cipher.toNat key.alg = false) →
          Gives i s fun t => Only [.arrays] s t ∧ t.arrays.jobs = s.arrays.jobs ∧
            lookup t.arrays.results (4 * k.toNat + tag) = some { status := 3 })

/-- Hash jobs join the queue, or end at once: a bad field or a RESUME without a saved state with 0x0001, an HMAC job
without a key with 0x0003 (R221, R222). -/
def Claims.HashJobsSubmit : Prop :=
  ∀ (s : State) (k : CoreId) (j : HashJob),
    let tag := j.ctl.toNat / 8 % 4
    let ends (st : BitVec 16) := Gives (.hashJob k j) s fun t => Only [.arrays] s t ∧ t.arrays.jobs = s.arrays.jobs ∧
      lookup t.arrays.hashResults (4 * k.toNat + tag) = some { status := st }
    let resume := j.ctl.getLsbD 1 = true ∧ lookup s.arrays.hashStates (4 * k.toNat + tag) = none
    let unkeyed := j.ctl.getLsbD 2 = true ∧ hashKey s k.toNat j.key.toNat = none
    (s.core k.toNat).cmd.isSome = true → findJob s true k.toNat tag = none →
      (hashFieldsOk j = false → ends 1) ∧
      (hashFieldsOk j = true → resume → ends 1) ∧
      (hashFieldsOk j = true → ¬ resume → unkeyed → ends 3) ∧
      (hashFieldsOk j = true → ¬ resume → ¬ unkeyed →
        Gives (.hashJob k j) s fun t => Only [.arrays] s t ∧
          t.arrays = { s.arrays with jobs := s.arrays.jobs ++ [hashEntry k.toNat j] })

/-- KEYCHAIN from a core is refused with 0x0001; from the key unit it puts the enciphered, masked block into the lane key
register that AUX names and into no result area (R219). -/
def Claims.KeychainJobs : Prop :=
  ∀ (s : State) (k : CoreId) (j : CipherJob) (key : LaneKey),
    let target := j.aux.toNat / 64 % 4
    let n := j.len.toNat
    let blk := j.inlineData.take n
    let e := if j.cipher = 1 then aesEnc key.bytes (fit 16 blk) else ((blocks 8 blk).map (tdesEnc key.bytes)).flatten
    let m := keychainMask (j.aux.toNat % 16)
    let x := if j.aux.getLsbD 4 then oddParity (xorO e (m ++ m)) else xorO e (m ++ m)
    (s.core k.toNat).cmd.isSome = true →
      (Gives (.keychain k true j) s fun t => Only [.arrays] s t ∧ t.arrays.laneKeys = s.arrays.laneKeys ∧
        lookup t.arrays.results (4 * k.toNat + j.ctl.toNat / 2 % 4) = some { status := 1 }) ∧
      (laneKey s k.toNat (j.key.toNat % 4) = some key → keyInUse s false k.toNat target = false →
        laneAlgOk j.cipher.toNat key.alg = true → n = 8 ∨ n = 16 →
        Gives (.keychain k false j) s fun t => Only [.arrays] s t ∧ t.arrays.results = s.arrays.results ∧
          t.arrays.jobs = s.arrays.jobs ∧
          ∃ v, laneKey t k.toNat target = some v ∧ v.alg = (if j.cipher = 1 then 3 else 1) ∧
            (16 ≤ x.length → v.bytes = x) ∧ (x.length < 16 → j.aux.getLsbD 5 = false → v.bytes.take x.length = x) ∧
            (x.length = 8 → j.aux.getLsbD 5 = true → v.bytes.drop 8 = x ∨ v.bytes.length < 16))

/-- The end of a job: it leaves its lane; a refused access ends it with 0x0002 and what was done; otherwise its output
goes to the result area or to DST, and a hash job without FINAL leaves only its state (R218, R220, R221, R222). -/
def Claims.JobsEnd : Prop :=
  ∀ (s : State) (k : CoreId) (tag : BitVec 2) (o : Octets) (done : Nat) (j : LaneJob) (key : LaneKey),
    let i := 4 * k.toNat + tag.toNat
    let r := cipherResult j key (jobInput s j o)
    let before := if j.ctl / 2 % 2 = 1 then ((lookup s.arrays.hashStates i).map (·.2)).getD [] else []
    let all := before ++ jobInput s j o
    (findJob s false k.toNat tag.toNat = some j →
      (Gives (.jobEnd k false tag (.refused done)) s fun t => Only [.arrays] s t ∧
        findJob t false k.toNat tag.toNat = none ∧ lookup t.arrays.results i = some { status := 2, done := done }) ∧
      (laneKey s k.toNat j.key = some key → j.dst = 0 →
        Gives (.jobEnd k false tag (.ok o)) s fun t => Only [.arrays] s t ∧
          findJob t false k.toNat tag.toNat = none ∧
          lookup t.arrays.results i = some { out := fit 16 (if r.1.isEmpty || j.mode = 5 then r.2 else r.1) }) ∧
      (laneKey s k.toNat j.key = some key → j.dst ≠ 0 → j.dst < 0x80000000 →
        Gives (.jobEnd k false tag (.ok o)) s fun t => Only [.arrays, .wmem] s t ∧
          findJob t false k.toNat tag.toNat = none ∧
          lookup t.arrays.results i = some { done := r.1.length, out := fit 16 r.2 } ∧
          ∀ y, tget 0 t.wmem y =
            if j.dst ≤ y ∧ y < j.dst + r.1.length then (r.1[y - j.dst]?).getD 0 else tget 0 s.wmem y)) ∧
    (findJob s true k.toNat tag.toNat = some j →
      (j.ctl % 2 = 0 →
        Gives (.jobEnd k true tag (.ok o)) s fun t => Only [.arrays] s t ∧
          findJob t true k.toNat tag.toNat = none ∧ lookup t.arrays.hashResults i = some {} ∧
          lookup t.arrays.hashStates i = some (j.cipher, all)) ∧
      (j.ctl % 2 = 1 → j.ctl / 4 % 2 = 0 →
        Gives (.jobEnd k true tag (.ok o)) s fun t => Only [.arrays] s t ∧
          findJob t true k.toNat tag.toNat = none ∧ lookup t.arrays.hashStates i = none ∧
          lookup t.arrays.hashResults i = some { out := sha (hashLenOf j.cipher) all }))

/-- Parity errors: a lane is taken out for its tests and its victim starts again, or ends with 0x0004 at its third error;
a bad key-file entry is erased and ends the jobs that name it with 0x0003 (R228, R229, R232). -/
def Claims.ParityErrors : Prop :=
  ∀ (s : State) (n : BitVec 6) (k : CoreId) (tag reg : BitVec 2) (j : LaneJob),
    (findJob s false k.toNat tag.toNat = some j →
      Gives (.laneParity false (.lane n (some (k, tag)))) s fun t =>
        (getLane t false n.toNat).testing = true ∧ t.alarms.lastCause = 0x0303 ∧ t.wmem = s.wmem ∧
        t.arrays.laneKeys = s.arrays.laneKeys ∧
        (j.parity < 2 → ∃ x, findJob t false k.toNat tag.toNat = some x ∧ x = { j with parity := j.parity + 1 }) ∧
        (2 ≤ j.parity → findJob t false k.toNat tag.toNat = none ∧
          lookup t.arrays.results (4 * k.toNat + tag.toNat) = some { status := 4 })) ∧
    (Gives (.laneParity false (.keyFile k reg)) s fun t => Only [.arrays] s t ∧
      laneKey t k.toNat reg.toNat = none ∧ keyInUse t false k.toNat reg.toNat = false) ∧
    (Gives (.laneParity true (.keyFile k reg)) s fun t => Only [.arrays] s t ∧ hashKey t k.toNat reg.toNat = none)

/-- A lane's tests end: it returns to service, or a failed test or its third error within 24 h retires it, and the warden
keeps the mask (R232, R233). -/
def Claims.LaneTestsEnd : Prop :=
  ∀ (s : State) (lane : BitVec 6) (pass : Bool),
    let l := getLane s false lane.toNat
    l.testing = true →
      (pass = true → within24h s l.errors < 3 →
        Gives (.laneKatEnd false lane pass) s fun t => Only [.arrays] s t ∧
          getLane t false lane.toNat = { l with testing := false }) ∧
      (pass = false ∨ 3 ≤ within24h s l.errors →
        Gives (.laneKatEnd false lane pass) s fun t =>
          t.warden.retLanes = s.warden.retLanes ||| BitVec.ofNat 64 (2 ^ lane.toNat) ∧
          (getLane t false lane.toNat).testing = false ∧ t.wmem = s.wmem ∧ t.arrays.jobs = s.arrays.jobs)

/-- The array follows its causes into pooled or bound mode, and the rebuild's end takes its cause away; jobs and keys
stay as they are (R223, R226). -/
def Claims.ArraySwitches : Prop :=
  ∀ s : State,
    (Gives .arraySwitch s fun t => Only [.arrays] s t ∧ t.arrays = { s.arrays with pooled := decide (s.arrays.causes ≠ 0) }) ∧
    (Gives .rebuildEnd s fun t => Only [.arrays, .keys] s t ∧ t.arrays.causes.getLsbD 2 = false ∧
      t.arrays.jobs = s.arrays.jobs ∧ t.arrays.laneKeys = s.arrays.laneKeys ∧ t.keys = { s.keys with peerLabels := [] })

/-! ### The key unit's request port (chapter 09) -/

/-- Every key-unit request: a custom service's request outside R307's list is POLICY_DENIED, a field out of range is
BAD_FIELD; otherwise the request's work decides, and the result area takes its status, no key octet with it. -/
def Claims.KeyRequestOutcomes : Prop :=
  ∀ (i : Instr) (s : State) (o : KeyOp) (e : Nat) (c : Cmd),
    keyOpOf s i = some o → o.held = false → MayRequest s o.core e c →
      let area (t : State) := lookup t.keys.results o.core
      let w := work (o.body e) s e c
      (c.custom = true → o.custom = false →
        Gives i s fun t => Only [.keys] s t ∧ area t = some { busy := true, status := policyDenied }) ∧
      ((c.custom = true → o.custom = true) → o.fields = false →
        Gives i s fun t => Only [.keys] s t ∧ area t = some { busy := true, status := badField }) ∧
      ((c.custom = true → o.custom = true) → o.fields = true →
        (∀ d, w.1 = .ok d →
          Gives i s fun t => t.cmd e = some w.2.c ∧ t.wmem = w.2.s.wmem ∧ t.arrays = w.2.s.arrays ∧ t.cores = w.2.s.cores ∧
            area t = some { busy := true, status := stOk, key := { d.key with bytes := [] }, done := d.done, kcv := d.kcv }) ∧
        (∀ st, w.1 = .error (.fail st) →
          Gives i s fun t => t.cmd e = some w.2.c ∧ area t = some { busy := true, status := st }))

/-- What the loading requests leave: the lane, hash or seed register of the core holds the key, and the command keeps
its reservation (R305). -/
def Claims.KeyRequestsLoad : Prop :=
  ∀ (s s' : State) (k : CoreId) (r : KeyReq) (e : Nat) (c c' : Cmd) (key child : KeyVal),
    MayRequest s k.toNat e c → c.custom = false → Resolves e r.ref r.group s c key s' c' →
      let reg (t : State) := laneKey t k.toNat r.target.toNat
      let runs (i : Instr) (post : State → Prop) :=
        ∀ o, keyOpOf s i = some o → o.held = false → o.fields = true →
          Gives i s fun t => post t ∧ t.cmd e = some c' ∧ t.wmem = s'.wmem ∧
            ((lookup t.keys.results k.toNat).getD {}).status = stOk
      (key.cls ≠ 4 → runs (.loadLane k r) fun t => reg t = some { alg := key.alg, bytes := key.bytes }) ∧
      (key.alg = 6 → runs (.loadHash k r) fun t =>
        hashKey t k.toNat r.target.toNat = some { alg := u8 r.param 0, bytes := key.bytes }) ∧
      (key.alg = (if u8 r.param 0 = 1 then 1 else 3) → runs (.emv k r) fun t =>
        let tdea := u8 r.param 0 == 1
        let mk := if u8 r.param 1 = 4 then key.bytes else emvMk tdea key.bytes (slice r.param 4 8)
        reg t = some { alg := key.alg, bytes := emvSk tdea mk (slice r.param 12 2) (u8 r.param 2) }) ∧
      (labelKey r.block = some child → child.cls ≠ 4 → seedTarget r = false → key.alg = 5 →
        runs (.derive k r) fun t =>
          let o := kdf key.bytes (fit 64 r.block) (8 * algLen child.alg)
          reg t = some { alg := child.alg, bytes := if isTdea child.alg then oddParity o else o })

/-- SECRET derives its key from BLOCK and the FixedInfo into TARGET; KEY_REQUEST_END lets the result area be read (R305,
R306). -/
def Claims.SecretAndRequestEnd : Prop :=
  ∀ (s : State) (k : CoreId) (r : KeyReq) (e : Nat) (c : Cmd) (o : KeyOp) (v : KeyResult),
    (MayRequest s k.toNat e c → c.custom = false → keyOpOf s (.secret k r) = some o → o.held = false → o.fields = true →
      r.auxLen = 0 →
      Gives (.secret k r) s fun t => t.wmem = s.wmem ∧
        let d := oneStep ((fit 64 r.block).take (Config.secretLen r.block)) [] (u8 r.param 1)
        laneKey t k.toNat r.target.toNat =
          some { alg := u8 r.param 0, bytes := if isTdea (u8 r.param 0) then oddParity d else d } ∧
        lookup t.keys.results k.toNat = some { busy := true, status := stOk, kcv := zeros 5 }) ∧
    (lookup s.keys.results k.toNat = some v →
      Gives (.keyRequestEnd k) s fun t => Only [.keys] s t ∧
        lookup t.keys.results k.toNat = some { v with busy := false } ∧ t.keys.seeds = s.keys.seeds)

/-! ### The entropy unit (chapter 10) -/

/-- A window of a healthy cell closes: without a failure its bits enter the pool; with one they are discarded and the
cell is quarantined, and a second failure within 24 h retires it; here with cells enough left (R329 to R332, R345). -/
def Claims.AptWindows : Prop :=
  ∀ (s : State) (cell : BitVec 6),
    let m : BitVec 64 := BitVec.ofNat 64 (2 ^ cell.toNat)
    let times := s.time.toNat :: (tget [] s.entropy.cellFails cell.toNat).take 3
    (healthyMask s).getLsbD cell.toNat = true →
      (Gives (.aptWindowClose cell false) s fun t => Only [.entropy] s t ∧
        t.entropy = { s.entropy with pool := s.entropy.pool + 1024 }) ∧
      (calm s (healthyMask s &&& ~~~m) →
        Gives (.aptWindowClose cell true) s fun t => t.entropy.pool = s.entropy.pool ∧ t.entropy.failed = false ∧
          (healthyMask t).getLsbD cell.toNat = false ∧ t.alarms.lastCause = 0x0304 ∧ t.wmem = s.wmem ∧ t.so = s.so ∧
          (within24h s times < 2 → t.warden = s.warden ∧ t.entropy.quarMask = s.entropy.quarMask ||| m) ∧
          (2 ≤ within24h s times → t.warden.retCells = s.warden.retCells ||| m ∧
            t.entropy.quarMask.getLsbD cell.toNat = false))

/-- A retest that passes makes its cell healthy again; one that fails counts as a failure (R332). -/
def Claims.CellRetests : Prop :=
  ∀ (s : State) (cell : BitVec 6),
    let m : BitVec 64 := BitVec.ofNat 64 (2 ^ cell.toNat)
    s.entropy.quarMask.getLsbD cell.toNat = true →
      (calm s ((s.entropy.passed ||| m) &&& ~~~(s.entropy.quarMask &&& ~~~m) &&& ~~~s.warden.retCells) →
        Gives (.cellRetest cell true) s fun t => Only [.entropy] s t ∧
          t.entropy = { s.entropy with quarMask := s.entropy.quarMask &&& ~~~m, passed := s.entropy.passed ||| m,
                                       failCause := t.entropy.failCause }) ∧
      (calm s (healthyMask s) →
        Gives (.cellRetest cell false) s fun t => t.alarms.lastCause = 0x0304 ∧ t.wmem = s.wmem ∧
          (tget [] t.entropy.cellFails cell.toNat).headD 0 = s.time.toNat ∧ (healthyMask t).getLsbD cell.toNat = false)

/-- Entropy failure begins with its first cause: FAILED is set, requests in progress end with 0x0004 and nothing of their
output, waiting commands complete with ENTROPY_FAILED, and an F-class event is raised (R345, R346). -/
def Claims.EntropyFailureBegins : Prop :=
  ∀ (s : State) (lane : BitVec 2) (df ex : Bool) (k e : Nat) (r : RandResult) (c : Cmd),
    s.boot.rngReady = true → s.entropy.failed = false → lookup s.entropy.results k = some r → r.busy = true →
      let began (t : State) := t.entropy.failed = true ∧ t.entropy.failSince = s.time ∧ t.boot = s.boot ∧
        t.wmem = s.wmem ∧ t.alarms.lastCause = 0x0309 ∧
        lookup t.entropy.results k = some { r with busy := false, status := 4, out := [] } ∧
        (waitingEntries s = [] → t.so = s.so) ∧
        (waitingEntries s = [e] → s.cmd e = some c → c.served = false →
          ∃ c', t.cmd e = some c' ∧ c'.status = entropyFailed ∧ c'.output = [] ∧ c'.effects = [] ∧ c'.stage = .done)
      (Gives (.drbgLaneParity lane) s fun t => began t ∧ t.entropy.failCause.getLsbD 3 = true) ∧
      (df = false ∨ ex = false → Gives (.drbgKat lane df ex) s fun t => began t ∧
        (df = false → t.entropy.failCause.getLsbD 1 = true) ∧ (ex = false → t.entropy.failCause.getLsbD 2 = true))

/-- KATs that pass with no cause in force change nothing but the lane's failure bits; the deadline of one second raises
an L-class alarm only while the failure lasts; the key unit's masks are redrawn while I5 can serve (R345, R347, R349). -/
def Claims.EntropyUpkeep : Prop :=
  ∀ (s : State) (lane : BitVec 2),
    (s.entropy.failed = false → s.entropy.laneFail = 0 → 24 ≤ healthyCells s →
      Gives (.drbgKat lane true true) s fun t => Only [.entropy] s t ∧ t.entropy.failed = false ∧
        t.entropy.laneFail = 0 ∧ t.entropy.insts = s.entropy.insts) ∧
    (s.entropy.failed = false → exec .entropyFailDeadline s = answer s) ∧
    (s.entropy.failed = true → s.boot.mode ≠ .erased → s.boot.mode ≠ .battery → s.boot.mode ≠ .diagnostic →
      Gives .entropyFailDeadline s fun t => t.boot.mode = .locked ∧ t.warden.lockRec = true ∧
        t.warden.lockCause = 0x0203 ∧ t.entropy.insts = [] ∧ t.keys.cacheKey = none) ∧
    (canServe s 5 = true →
      Gives .kuMaskRedraw s fun t => Only [.keys, .entropy, .free] s t ∧ t.keys.regMask = (generate s 5 32 false).1 ∧
        t.keys = { s.keys with regMask := t.keys.regMask }) ∧
    (canServe s 5 = false → exec .kuMaskRedraw s = answer s)

/-- A random request: refused with 0x0001 on a bad field or a class that the command may not use, 0x0004 in entropy
failure, 0x0003 while its instance cannot serve; otherwise it runs, and its end brings the octets to the result area
(R339, R340, R346, R350). -/
def Claims.RandomRequests : Prop :=
  ∀ (s : State) (k : CoreId) (r : RandReq) (e : Nat) (c : Cmd) (x : RandResult),
    let n := r.len.toNat
    let i := if r.cls = 0 then instOf c.slot c.idx else k.toNat / 16
    let area (t : State) := lookup t.entropy.results k.toNat
    let ok := r.cls.toNat ≤ 1 ∧ (r.cls = 0 ∨ classOneOk c = true) ∧ r.flags.toNat ≤ 1 ∧ r.reserved = 0 ∧ 1 ≤ n ∧
      n ≤ 65536 ∧ r.dst.toNat % 16 = 0 ∧ (r.dst ≠ 0 ∨ n ≤ 64)
    (running s k.toNat = some (e, c) → ((lookup s.entropy.results k.toNat).getD {}).busy = false →
      (¬ ok → Gives (.randomRequest k r) s fun t => Only [.entropy] s t ∧ area t = some { busy := true, status := 1 }) ∧
      (ok → s.entropy.failed = true →
        Gives (.randomRequest k r) s fun t => Only [.entropy] s t ∧ area t = some { busy := true, status := 4 }) ∧
      (ok → s.entropy.failed = false → canServe s i (r.flags.getLsbD 0) = false →
        Gives (.randomRequest k r) s fun t => Only [.entropy, .so] s t ∧ area t = some { busy := true, status := 3 } ∧
          ∃ c', t.cmd e = some c' ∧ c'.waiting = true ∧ c'.waitInst = i) ∧
      (ok → canServe s i (r.flags.getLsbD 0) = true →
        Gives (.randomRequest k r) s fun t => Only [.entropy, .free] s t ∧
          (let g := generate s i n (r.flags.getLsbD 0)
           area t = some { busy := true, out := g.1, dst := r.dst.toNat } ∧ t.free = g.2.free ∧
             lookup t.entropy.insts i = lookup g.2.entropy.insts i))) ∧
    (area s = some x → x.busy = true → x.out ≠ [] → x.dst = 0 →
      Gives (.randomRequestEnd k) s fun t => Only [.entropy] s t ∧
        area t = some { busy := false, status := 0, done := x.out.length, data := fit 64 x.out }) ∧
    (area s = some x → x.busy = true → x.out ≠ [] → running s k.toNat = some (e, c) → stagingAddr e ≤ x.dst →
      x.dst + x.out.length ≤ stagingAddr e + 4096 → e < 16384 →
      Gives (.randomRequestEnd k) s fun t => Only [.entropy, .wmem] s t ∧
        area t = some { busy := false, status := 0, done := x.out.length } ∧
        ∀ y, tget 0 t.wmem y =
          if x.dst ≤ y ∧ y < x.dst + x.out.length then (x.out[y - x.dst]?).getD 0 else tget 0 s.wmem y) ∧
    (area s = some x → x.busy = true → x.out = [] →
      Gives (.randomRequestEnd k) s fun t => Only [.entropy] s t ∧ area t = some { x with busy := false })

/-- Commands that wait for randomness: the release returns one to its ready list once its instance can serve; the expiry
completes it with ENTROPY_NOT_READY and no output, unless the release wins (R340, R356). -/
def Claims.EntropyWaits : Prop :=
  ∀ (s : State) (e due : Nat) (c : Cmd),
    s.cmd e = some c → c.stage = .delayed 0 due →
      (waitOver s c.waitInst = true →
        exec (.entropyRelease e) s = answer (requeue s e { c with waiting := false }) ∧
        exec (.entropyWaitExpiry e) s = answer (requeue s e { c with waiting := false }) ∧
        ∀ l, c.list = some l → roomy s l = true → Gives (.entropyRelease e) s fun t => Only [.so] s t ∧
          t.cmd e = some { c with stage := .ready, eligible := c.landed, waiting := false, order := s.so.nextOrder + 1 }) ∧
      (waitOver s c.waitInst = false →
        exec (.entropyRelease e) s = answer s ∧
        Gives (.entropyWaitExpiry e) s fun t => t.wmem = s.wmem ∧ t.keys = s.keys ∧
          ∃ c', t.cmd e = some c' ∧ c'.status = entropyNotReady ∧ c'.output = [] ∧ c'.effects = [] ∧ c'.stage = .done)

/-! ### Rings and completions (chapter 03) -/

/-- ENABLE written 1: with a valid configuration the pigeonhole enters READY, or QUIESCED in a slot that is not ACTIVE;
with an invalid one it enters ERROR with BAD_FIELD; while it is enabled or drains, nothing happens (R78, R79, R443). -/
def Claims.RingEnables : Prop :=
  ∀ (s : State) (fn : Fn) (ph vector : BitVec 6) (dl : BitVec 5) (n : Nat),
    let p := s.ph n
    let st := slotStateOf s (slotOfFn fn)
    let i := Instr.enable fn ph dl vector
    let valid := 6 ≤ dl.toNat ∧ dl.toNat ≤ 16 ∧ p.sqBase.toNat % 4096 = 0 ∧ p.cqBase.toNat % 4096 = 0 ∧
      (fn.vf = 0 → vector.toNat ≤ 31)
    AtPh s fn ph.toNat n →
      (p.enable = false → p.draining = false → st ≠ .destroying → valid →
        PhBecomes i s n { p with
          enable := true, depthLog2 := dl, vector := vector, sqHead := 0, sqTail := 0, cqHead := 0, cqTail := 0,
          phase := true, state := if st = .active then .ready else .quiesced, resume := .ready, recTail := none,
          recHead := none, error := 0, credits := 0 }) ∧
      (p.enable = false → p.draining = false → st ≠ .destroying → ¬ valid →
        Gives i s fun t => Only [.so] s t ∧ (∀ m, m ≠ n → t.ph m = s.ph m) ∧ (t.ph n).state = .error ∧
          (t.ph n).error = badField ∧ (t.ph n).version = 0 ∧ (t.ph n).sqTail = p.sqTail) ∧
      (p.enable = true ∨ p.draining = true → exec i s = answer s)

/-- ENABLE written 0 stops fetching and begins the drain; the drain ends in DISABLED once no command of the pigeonhole
is left in the module (R79). -/
def Claims.RingDrains : Prop :=
  ∀ (s : State) (fn : Fn) (ph : BitVec 6) (g : BitVec 12) (n : Nat),
    let p := s.ph n
    let q := s.ph g.toNat
    (AtPh s fn ph.toNat n → p.enable = true → p.draining = false → slotStateOf s (slotOfFn fn) ≠ .destroying →
      PhBecomes (.enableOff fn ph) s n { p with enable := false, draining := true, credits := 0 }) ∧
    (q.draining = true → (∀ x ∈ s.so.cmds, x.2.ph ≠ g.toNat) →
      PhBecomes (.ringDrainEnd g) s g.toNat { q with
        state := .disabled, draining := false, error := 0, timer := none, unsignalled := 0, version := 0,
        ordered := false, serial := false, defaultPrio := 0, home := none }) ∧
    ((∃ x ∈ s.so.cmds, x.2.ph = g.toNat) → exec (.ringDrainEnd g) s = answer s)

/-- Doorbells: a value beyond the ring puts the pigeonhole in ERROR with BAD_FIELD, an overrun with BAD_LENGTH, any other
value acts; a QUIESCED pigeonhole records it; DISABLED, ERROR and draining ignore SQ_TAIL (R80, R81, R608). -/
def Obligations.DoorbellsAct : Prop :=
  ∀ (s : State) (fn : Fn) (ph : BitVec 6) (v : BitVec 16) (n : Nat),
    let p := s.ph n
    let tail := Instr.sqTail fn ph v
    let head := Instr.cqHead fn ph v
    let depth := 2 ^ p.depthLog2.toNat
    let count (x : Nat) := (x + depth - p.sqHead) % depth
    let acts := p.state = .ready ∨ p.state = .opened ∨ p.state = .closing
    let errs (i : Instr) (st : Code) := PhBecomes i s n { p with
      state := .error, error := st, version := 0, ordered := false, serial := false, defaultPrio := 0, home := none,
      credits := 0 }
    AtPh s fn ph.toNat n → slotStateOf s (slotOfFn fn) ≠ .destroying →
      (acts → p.draining = false →
        (depth ≤ v.toNat → errs tail badField ∧ errs head badField) ∧
        (v.toNat < depth → count v.toNat < count p.sqTail → errs tail badLength) ∧
        (v.toNat < depth → count p.sqTail ≤ count v.toNat → PhBecomes tail s n { p with sqTail := v.toNat }) ∧
        (v.toNat < depth → PhBecomes head s n { p with cqHead := v.toNat })) ∧
      (p.state = .quiesced → p.draining = false →
        PhBecomes tail s n { p with recTail := some v.toNat } ∧ PhBecomes head s n { p with recHead := some v.toNat }) ∧
      (p.state = .disabled ∨ p.state = .error ∨ p.draining = true → exec tail s = answer s) ∧
      (p.state = .disabled → p.draining = false → exec head s = answer s) ∧
      (p.state = .error ∨ p.draining = true →
        (v.toNat < depth → PhBecomes head s n { p with cqHead := v.toNat }) ∧ (depth ≤ v.toNat → exec head s = answer s))

/-- A credit: the one pigeonhole of a port that may fetch gets it, and its next descriptor is requested; with none that
may fetch, nothing happens (R83, R113, R117). -/
def Claims.FetchCredits : Prop :=
  ∀ (s : State) (b : Bool) (n slot lv : Nat),
    (creditList s b = [(n, slot, lv)] → 1 ≤ slotWeight s slot →
      ((tget [] s.so.fetchDrr ((if b then 8 else 0) + lv)).filter (fun r => r.slot == slot)).length ≤ 1 →
      Gives (.fetchCredit b) s fun t => Only [.so, .outbox] s t ∧
        (t.ph n) = { s.ph n with credits := (s.ph n).credits + 1 } ∧ t.so.cmds = s.so.cmds ∧
        t.outbox = .fetch n (((s.ph n).sqHead + (s.ph n).credits) % (s.ph n).depth) :: s.outbox) ∧
    (creditList s b = [] → exec (.fetchCredit b) s = answer s)

/-- A fetched descriptor takes a table entry and moves SQ_HEAD on; it is refused by the first check of R94 that fails,
with that check's status and no output, or it waits for its input on a ready list (R85, R94, R105). -/
def Claims.DescriptorsAreChecked : Prop :=
  ∀ (s : State) (ph : BitVec 12) (d : Descriptor) (slot idx e : Nat),
    let p := s.ph ph.toNat
    phOwner s ph.toNat = some (slot, idx) → freeEntry s = some e → 0 < p.credits →
    p.state = .ready ∨ p.state = .opened → p.draining = false → slot < 512 →
      let taken (t : State) (c : Cmd) := t.cmd e = some c ∧ c.d = d ∧ c.ph = ph.toNat ∧ c.slot = slot ∧
        (t.ph ph.toNat).sqHead = (p.sqHead + 1) % p.depth ∧ t.keys = s.keys ∧ t.boot = s.boot
      let fails (st : Code) := Gives (.descriptorFetch ph d) s fun t =>
        ∃ c, taken t c ∧ c.status = st ∧ c.output = [] ∧ c.stage = .done ∧ c.dispatched = false ∧ t.wmem = s.wmem
      let serves := s.boot.mode = .service ∧ s.boot.tenantStop = false
      let plain := d.flags = 0 ∧ d.reserved = 0 ∧ d.inLen = 0 ∧ d.inAddr = 0 ∧ d.outAddr = 0 ∧ zeroAt d.params 0 24 = true
      (¬ serves → fails (modeStatus s.boot.mode)) ∧
      (serves → versionOk p d = false → fails badVersion) ∧
      (serves → versionOk p d = true → opDefined s (fnOfSlot slot) d.opcode (if p.inForce then p.version.toNat else 3) = false →
        fails badOpcode) ∧
      (serves → versionOk p d = true → opDefined s (fnOfSlot slot) d.opcode (if p.inForce then p.version.toNat else 3) = true →
        d.flags.extractLsb' 6 2 ≠ 0 → fails badField) ∧
      (serves → versionOk p d = true → d.opcode = 0x0003 → plain →
        Gives (.descriptorFetch ph d) s fun t => ∃ c, taken t c ∧ c.served = false ∧ c.landed = false ∧
          (c.stage = .ready ∨ c.stage = .pending))

/-- A fetched command whose key has a record completes with REPLAYED and the record's result behind its header; with
another opcode, with BAD_FIELD (R108, R109). -/
def Claims.ReplayedCommands : Prop :=
  ∀ (s : State) (e : Nat) (c : Cmd) (r : Replay),
    mayCommit s c.d.opcode = true → findReplay s c.slot c.ph c.d.cmdId = some r → c.journalled = false →
    c.stateChanging = false →
      let header := le 2 r.status.toNat ++ zeros 2 ++ le 4 r.output.length ++ r.pm.octets ++ zeros 4
      (r.opcode ≠ c.d.opcode → ∃ c', (takeIn (s.setCmd e c) e c).cmd e = some c' ∧ c'.status = badField ∧
        c'.output = [] ∧ c'.stage = .done) ∧
      (r.opcode = c.d.opcode → 24 + r.output.length ≤ c.d.outCap.toNat →
        ∃ c', (takeIn (s.setCmd e c) e c).cmd e = some c' ∧ c'.status = replayedSt ∧ c'.output = header ++ r.output ∧
          c'.franked = r.franked ∧ c'.stage = .done ∧ c'.dispatched = c.dispatched)

/-- The 32 octets of a completion entry: command ID, status, flags with the phase, output length, Postmark and service
time, each at its offset (R96). -/
def Claims.CompletionEntryLayout : Prop :=
  ∀ (c : Cmd) (phase : Bool) (pm : Postmark) (svc : BitVec 32),
    let o := completionOctets c phase pm svc
    o.length = 32 ∧ u64 o 0 = c.d.cmdId.toNat ∧ u16 o 8 = c.status.toNat ∧
    u8 o 10 = (if phase then 1 else 0) + (if c.franked then 2 else 0) + (if c.isPartial then 4 else 0) ∧ u8 o 11 = 0 ∧
    u32 o 12 = c.outLen % 2 ^ 32 ∧ slice o 16 12 = pm.octets ∧ u32 o 28 = svc.toNat

/-- A completion is written: its entry goes to CQ_TAIL with the current phase, CQ_TAIL moves on, the phase turns at the
wrap, and the command leaves the table; without room, or behind its place in order, it waits (R86, R87, R96, R103). -/
def Claims.CompletionsAreWritten : Prop :=
  ∀ (s : State) (e : Nat) (c : Cmd),
    let p := s.ph c.ph
    let t' := (p.cqTail + 1) % p.depth
    s.cmd e = some c → c.discarded = false →
      (writable s c = true → c.stamped = true → c.after = .nothing → c.closes = false →
        Gives (.completionWrite e) s fun t =>
          Only [.so, .outbox, .msix, .slots] s t ∧ t.cmd e = none ∧
          Emit.hostWrite c.fn.portB (p.cqBase + BitVec.ofNat 64 (32 * p.cqTail))
            (completionOctets c p.phase c.completion (serviceTime c)) ∈ t.outbox ∧
          (t.ph c.ph).cqTail = t' ∧ (t.ph c.ph).phase = (if t' = 0 then !p.phase else p.phase) ∧
          (t.ph c.ph).sqHead = p.sqHead ∧ (t.ph c.ph).cqHead = p.cqHead ∧ (t.ph c.ph).state = p.state) ∧
      (t' = p.cqHead → exec (.completionWrite e) s = answer s) ∧
      (p.ordered = true → earlierOn s c = true → exec (.completionWrite e) s = answer s) ∧
      (c.stage ≠ .done → exec (.completionWrite e) s = answer s)

/-- The interrupt of a vector: a time limit that ends with completions uncounted sends its message, or sets the pending
bit while the vector is masked; the unmasking sends what is pending (R98, R99). -/
def Claims.InterruptsSignal : Prop :=
  ∀ (s : State) (g : BitVec 12) (slot idx due : Nat) (fn : Fn) (v : BitVec 6),
    let p := s.ph g.toNat
    let f := fnOfSlot slot
    let key := msixKey f p.vector.toNat
    let m := tget ({} : MsixVec) s.msix (msixKey fn v.toNat)
    (p.timer = some due → phOwner s g.toNat = some (slot, idx) → g.toNat ∈ slotPhs s (slotOfFn f) →
      (0 < p.unsignalled →
        Gives (.coalesceTimer g) s fun t => Only [.so, .outbox, .msix] s t ∧ (t.ph g.toNat).unsignalled = 0 ∧
          (t.ph g.toNat).timer = none ∧ t.so.cmds = s.so.cmds ∧
          ((tget ({} : MsixVec) s.msix key).masked = false → t.outbox = .msix f p.vector.toNat :: s.outbox) ∧
          ((tget ({} : MsixVec) s.msix key).masked = true →
            t.outbox = s.outbox ∧ (tget ({} : MsixVec) t.msix key).pending = true)) ∧
      (p.unsignalled = 0 → PhBecomes (.coalesceTimer g) s g.toNat { p with timer := none })) ∧
    (fn.vf ≠ 0 ∨ v.toNat < 40 →
      Gives (.msixUnmask fn v) s fun t => Only [.msix, .outbox] s t ∧
        tget ({} : MsixVec) t.msix (msixKey fn v.toNat) = { m with masked := false, pending := false } ∧
        t.outbox = (if m.pending then [Emit.msix fn v.toNat] else []) ++ s.outbox)

/-- Faults of host memory: a command's access waits on delay list 1 for a page where PRI is enabled, or fails its command
with HOST_FAULT; a ring access puts the pigeonhole in ERROR; an expired wait fails the command (R71, R72). -/
def Claims.HostFaults : Prop :=
  ∀ (s : State) (e n due : Nat) (c : Cmd) (g : BitVec 12) (slot idx : Nat),
    let failed (t : State) (w : Nat) := ∃ c', t.cmd e = some c' ∧ c'.status = hostFault ∧ c'.output = [] ∧ c'.outLen = w ∧
      c'.effects = [] ∧ c'.stage = .done ∧ (c'.isPartial = true ↔ 0 < w)
    (s.cmd e = some c → c.stage = .ready ∨ c.stage = .pending →
      ((s.port c.fn.portB).priEnable = true →
        Gives (.hostAccessFault e true n) s fun t => Only [.so, .outbox] s t ∧ t.outbox = .pageRequest c.fn :: s.outbox ∧
          ∃ c' d, t.cmd e = some c' ∧ c'.stage = .delayed 1 d ∧ c'.d = c.d ∧ c'.eligible = false) ∧
      ((s.port c.fn.portB).priEnable = false →
        Gives (.hostAccessFault e true n) s fun t => Only [.so, .portA, .portB] s t ∧ failed t (min n c.d.outCap.toNat)) ∧
      Gives (.hostAccessFault e false n) s fun t => Only [.so, .portA, .portB] s t ∧ failed t (min n c.d.outCap.toNat) ∧
        (t.port c.fn.portB).hostFaults = (s.port c.fn.portB).hostFaults.inc) ∧
    (s.cmd e = some c → c.stage = .delayed 1 due →
      (Gives (.pageWaitExpiry e) s fun t => Only [.so, .portA, .portB] s t ∧ failed t c.written) ∧
      (∀ l, c.list = some l → roomy s l = true →
        Gives (.pageGrant e) s fun t => Only [.so] s t ∧
          t.cmd e = some { c with stage := .ready, eligible := c.landed, order := s.so.nextOrder + 1 })) ∧
    (phOwner s g.toNat = some (slot, idx) → (s.ph g.toNat).state ≠ .disabled → (s.ph g.toNat).state ≠ .error →
      Gives (.ringAccessFault g) s fun t => Only [.so, .portA, .portB] s t ∧ (t.ph g.toNat).state = .error ∧
        (t.ph g.toNat).error = hostFault ∧ t.so.cmds = s.so.cmds ∧
        (t.port (fnOfSlot slot).portB).hostFaults = (s.port (fnOfSlot slot).portB).hostFaults.inc)

/-- A replay record's window ends: that record goes, every other stays (R108). -/
def Claims.ReplayWindowEnds : Prop :=
  ∀ (s : State) (slot : Nat) (g : BitVec 12) (id : BitVec 64),
    Gives (.replayExpiry slot g id) s fun t => Only [.so] s t ∧ t.so = { s.so with replays := t.so.replays } ∧
      findReplay t slot g.toNat id = none ∧
      ∀ sl ph i, (sl, ph, i) ≠ (slot, g.toNat, id) → findReplay t sl ph i = findReplay s sl ph i

/-- OPEN, CLOSE, NOP and VERSION on a core: OPEN negotiates the highest common version and moves the pigeonhole to OPEN,
or is refused with BAD_VERSION; NOP and CLOSE answer with no output, VERSION with its record; CLOSE's completion brings
the pigeonhole back to READY (R100, R101, R105). -/
def Claims.ChannelServices : Prop :=
  ∀ (s : State) (k : CoreId) (e : Nat) (c : Cmd),
    let p := s.ph c.ph
    let q := c.d.params
    let mask := cmdsetMask s c.slot
    let prio := max (u8 q 2) (slotMaxPrio s c.slot)
    (Asked s k.toNat 0x0003 e c → Fits s c 0 → Serves (.nop k) s s e c []) ∧
    (Asked s k.toNat 0x0002 e c → Fits s c 0 → Serves (.closeCh k) s s e c []) ∧
    (Asked s k.toNat 0x0004 e c → Fits s c 16 →
      Serves (.version k) s s e c (le 1 mask ++ [3, 2, s.boot.mirrorMax] ++ le 4 s.boot.fwBuild.toNat ++
        [0x80, 0x36, 0x01, 0x0A] ++ zeros 4)) ∧
    (Asked s k.toNat 0x0001 e c → p.state = .ready → u8 q 0 % 2 = 0 → u8 q 0 < 16 → u8 q 1 < 4 → u8 q 2 ≤ 7 →
      (c.slot < 512 → 1 ≤ u8 q 2) → zeroAt q 3 21 = true →
      (∀ v, commonVersion (u8 q 0) mask = some v → ((u8 q 1).testBit 0 = true → v = 3) → Fits s c 16 →
        Serves (.openCh k) s
          (s.setPh c.ph { p with
            state := .opened, resume := .opened, version := BitVec.ofNat 2 v, ordered := (u8 q 1).testBit 0,
            serial := (u8 q 1).testBit 1, defaultPrio := BitVec.ofNat 3 prio, home := homeFor s c.slot }) e c
          (le 1 v ++ le 1 (u8 q 1) ++ le 1 prio ++ le 1 (slotMaxPrio s c.slot) ++ le 2 c.idx ++ le 2 c.slot ++
            le 4 s.boot.fwBuild.toNat ++ zeros 4)) ∧
      (commonVersion (u8 q 0) mask = none → Refuses (.openCh k) s e c badVersion)) ∧
    (∀ g : BitVec 12, s.so.cmds.find? (fun x => x.2.ph == g.toNat && x.2.closes) = some (e, c) → s.cmd e = some c →
      c.discarded = false → writable s c = true → c.stamped = true → c.after = .nothing →
      (s.ph g.toNat).state = .closing →
      Gives (.closeComplete g) s fun t => Only [.so, .outbox, .msix, .slots] s t ∧ t.cmd e = none ∧
        (t.ph g.toNat).state = .ready ∧ (t.ph g.toNat).version = 0 ∧ (t.ph g.toNat).ordered = false)

/-! ### Sorting Office (chapter 04) -/

/-- The start of a command's input lands in its staging area behind its descriptor, and the entry becomes eligible
(R126, R390). -/
def Claims.InputsLand : Prop :=
  ∀ (s : State) (e : Nat) (data : Octets) (c : Cmd),
    let n := c.d.inLen.toNat
    let input := if isInline c.d then c.d.params.take n else fit n data
    let staged := descOctets c.d ++ input.take (if c.d.opcode.toNat / 256 = 7 then 0 else min n 4032)
    s.cmd e = some c → c.landed = false → c.stage = .pending ∨ (c.stage = .ready ∧ ∀ l, c.list = some l → roomy s l = true) →
      Gives (.inputLanded e data) s fun t => Only [.so, .wmem] s t ∧
        t.cmd e = some { c with landed := true, input := input, eligible := decide (c.stage = .ready) } ∧
        ∀ y, tget 0 t.wmem y = if stagingAddr e ≤ y ∧ y < stagingAddr e + staged.length
          then (staged[y - stagingAddr e]?).getD 0 else tget 0 s.wmem y

/-- The first pending command that a ready list can take is placed on it, its scratch area zero on its first turn; with
none, nothing happens (R119, R120, R392). -/
def Claims.PendingIsPlaced : Prop :=
  ∀ (s : State) (e l : Nat) (c : Cmd),
    (nextPending s = some (e, c) → c.landed = false → targetList s { c with level := cmdLevel s c } = some l →
      Gives .pendingPlacement s fun t => Only [.so, .wmem] s t ∧
        t.cmd e = some { c with level := cmdLevel s c, stage := .ready, list := some l, order := s.so.nextOrder + 1,
                                eligible := false } ∧
        ∀ y, tget 0 t.wmem y =
          if c.turn = 0 ∧ scratchAddr e ≤ y ∧ y < scratchAddr e + 512 then 0 else tget 0 s.wmem y) ∧
    (nextPending s = none → exec .pendingPlacement s = answer s)

/-- A dispatch: with every gate READY the core starts its pre-selected command with the registers of R390, every other
register, st, repc and ev zero; with a gate that is not READY it does not, and the stall counts once (R126, R128,
R390). -/
def Claims.DispatchStartsCommands : Prop :=
  ∀ (s : State) (k : CoreId) (e : Nat) (c : Cmd),
    (s.core k.toNat).free = true → (s.core k.toNat).pre = some e → s.cmd e = some c → clusterUp s k.toNat = true →
      (notReady s k.toNat e = [] → s.entropy.failed = false → customBody s c.d.opcode = none →
        Gives (.dispatch k) s fun t =>
          (t.core k.toNat).cmd = some e ∧ (t.core k.toNat).lastSlot = c.slot ∧
          (∀ m, (t.core k.toNat).reg m = entryReg k.toNat e c m) ∧
          (t.core k.toNat).pc = Config.stdEntry c.d.opcode ∧ (t.core k.toNat).st = 0 ∧ (t.core k.toNat).repc = 0 ∧
          (t.core k.toNat).ev = 0 ∧ (t.core k.toNat).ctx = ctxOf k.toNat c ∧ (t.core k.toNat).cycles = c.cycles ∧
          (t.core k.toNat).wmu = (s.core k.toNat).wmu ∧
          (∃ pm, t.cmd e = some { c with stage := .running k.toNat, dispatch := pm, dispatched := true, deferred := false,
                                         eligible := false, waiting := false } ∧
            pm.src = BitVec.ofNat 16 (0x1000 + k.toNat)) ∧
          Only [.so, .cores, .gates, .tb, .free] s t) ∧
      (notReady s k.toNat e ≠ [] → s.gates.stalled.contains k.toNat = false →
        Gives (.dispatch k) s fun t => Only [.so, .gates] s t ∧ t.cores = s.cores ∧ t.so.cmds = s.so.cmds ∧
          t.gates = { s.gates with stalled := k.toNat :: s.gates.stalled }) ∧
      (notReady s k.toNat e ≠ [] → s.gates.stalled.contains k.toNat = true → exec (.dispatch k) s = answer s)

/-- The rule-table read of a pre-selection: a usable copy readies every gate for it; with neither copy the command
completes with INTEGRITY_FAULT and no output (R420, R424). -/
def Claims.RuleTableReads : Prop :=
  ∀ (s : State) (k : CoreId) (e : Nat) (c : Cmd) (p q : Bool),
    s.gates.reads.contains k.toNat = true → (s.core k.toNat).pre = some e → s.cmd e = some c →
      (p = true ∨ q = true →
        Gives (.ruleTableReturn k p q) s fun t => Only [.gates] s t ∧ t.gates.reads.contains k.toNat = false) ∧
      Gives (.ruleTableReturn k false false) s fun t => t.wmem = s.wmem ∧ t.keys = s.keys ∧ t.slots = s.slots ∧
        ∃ c', t.cmd e = some c' ∧ c'.status = integrityFault ∧ c'.output = [] ∧ c'.effects = [] ∧ c'.stage = .done

/-- A write to SO_DEFER ends the turn: the command goes to delay list 2 with its ticks, or to list 0 or 1 where it was
told to wait; its turn counts on; its expiry returns it to its ready list; a value of 0 does nothing (R133, R340,
R370, R394). -/
def Claims.DeferralsHold : Prop :=
  ∀ (s : State) (k : CoreId) (ticks : BitVec 16) (e due : Nat) (c : Cmd),
    (running s k.toNat = some (e, c) → (s.core k.toNat).wmuSeen = false → ticks ≠ 0 →
      Gives (.soDefer k ticks) s fun t => Only [.so, .cores, .arrays, .keys, .entropy] s t ∧ OnlyCore k.toNat s t ∧
        (t.core k.toNat).cmd = none ∧ (∀ m, (t.core k.toNat).reg m = 0) ∧
        ∃ c' l d, t.cmd e = some c' ∧ c'.stage = .delayed l d ∧ c'.turn = c.turn + 1 ∧ c'.d = c.d ∧ c'.output = c.output ∧
          c'.reserved = c.reserved ∧ c'.cycles = (s.core k.toNat).cycles ∧
          (c.waiting = true → l = 0) ∧
          (c.waiting = false → (s.core k.toNat).st.toNat / 64 % 8 = 4 → l = 1) ∧
          (c.waiting = false → (s.core k.toNat).st.toNat / 64 % 8 ≠ 4 → l = 2 ∧ d = dueTick s ticks.toNat)) ∧
    (running s k.toNat = some (e, c) → exec (.soDefer k 0) s = answer s) ∧
    (s.cmd e = some c → c.stage = .delayed 2 due → ∀ l, c.list = some l → roomy s l = true →
      Gives (.deferExpiry e) s fun t => Only [.so] s t ∧
        t.cmd e = some { c with stage := .ready, eligible := c.landed, order := s.so.nextOrder + 1 })

/-- Level-0 internal work comes from the supervisor alone, or from the earliest of its timers; a timer is inserted while
delay list 3 has room, and refused with DL3_FULL while it has none (R122, R130, R132, R415). -/
def Claims.InternalWork : Prop :=
  ∀ (s : State) (m : BitVec 7) (v : BitVec 32) (due id : Nat) (d : BitVec 25) (w : BitVec 32),
    exec (.enq 0 v) s = answer { s with so := { s.so with internal := s.so.internal ++ [v] } } ∧
    (m ≠ 0 → exec (.enq m v) s = answer s) ∧
    (let held := s.so.timers.length + (s.so.phs.filter (fun x => x.2.timer.isSome)).length
     1 ≤ d.toNat → d.toNat ≤ 2 ^ 24 → exec (.supervisorTimer (some (d, w))) s = answer { s with so :=
       if held < 16384 then { s.so with timers := s.so.timers ++ [(dueTick s d.toNat, w.toNat)] }
       else { s.so with dl3Full := true } }) ∧
    (s.so.timers = [] → exec (.supervisorTimer none) s = answer s) ∧
    ((due, id) ∈ s.so.timers → (∀ x ∈ s.so.timers, x = (due, id) ∨ due < x.1) →
      exec (.supervisorTimer none) s = answer { s with so := { s.so with
        timers := s.so.timers.filter (fun x => x ≠ (due, id)), internal := s.so.internal ++ [BitVec.ofNat 32 id] } })

/-- The selectors and clear registers of the observability block act on their own port's snapshots and their own
counters (R141, R143). -/
def Claims.ObservabilityActs : Prop :=
  ∀ (s : State) (b : Bool) (g : BitVec 12) (sl : BitVec 10) (cl lv : BitVec 3) (k : CoreId) (busy : BitVec 16),
    let p := s.port b
    let n := sl.toNat
    let sel := p.slotSel.toNat
    let shows (t : State) (f : Port → Prop) := Only [if b then .portB else .portA] s t ∧ f (t.port b)
    (Gives (.phSel b g) s fun t => shows t fun q => q = { p with
      phSel := g, snapDepth := BitVec.ofNat 16 (s.so.cmds.filter (fun x => x.2.ph == g.toNat)).length,
      snapMax := (s.ph g.toNat).maxDepth }) ∧
    (n ≤ 513 → Gives (.slotSel b sl) s fun t => shows t fun q => q = { p with
      slotSel := sl, snapFetched := tget {} s.so.fetched n, snapCompleted := tget {} s.so.completed n,
      snapCancelled := tget {} s.so.cancelled n }) ∧
    (Gives (.histSel b cl lv) s fun t => shows t fun q => q.histCluster = cl ∧ q.histLevel = lv ∧
      ∀ j, j < 16 → tget {} q.snapHist j = tget {} s.so.hist (128 * cl.toNat + 16 * lv.toNat + j)) ∧
    (Gives (.clrMax b) s fun t => Only [if b then .portB else .portA, .so] s t ∧ (t.port b).snapMax = 0 ∧
      t.ph p.phSel.toNat = { s.ph p.phSel.toNat with maxDepth := 0 } ∧ ∀ m, m ≠ p.phSel.toNat → t.ph m = s.ph m) ∧
    (Gives (.clrSlot b) s fun t => Only [if b then .portB else .portA, .so] s t ∧
      tget {} t.so.fetched sel = {} ∧ tget {} t.so.completed sel = {} ∧ tget {} t.so.cancelled sel = {} ∧
      ∀ m, m ≠ sel → tget {} t.so.fetched m = tget {} s.so.fetched m ∧
        tget {} t.so.completed m = tget {} s.so.completed m ∧ tget {} t.so.cancelled m = tget {} s.so.cancelled m) ∧
    (Gives (.clrHist b) s fun t => Only [if b then .portB else .portA, .so] s t ∧
      (∀ j, j < 16 → tget {} t.so.hist (128 * p.histCluster.toNat + 16 * p.histLevel.toNat + j) = {}) ∧
      t.so.cmds = s.so.cmds) ∧
    exec .clrDstall s = answer { s with so := { s.so with dstall := [] } } ∧
    (Gives (.busyWindowEnd false k busy) s fun t => Only [.cores] s t ∧ OnlyCore k.toNat s t ∧
      t.core k.toNat = { s.core k.toNat with busy1ms := busy }) ∧
    (Gives (.busyWindowEnd true k busy) s fun t => Only [.cores] s t ∧ OnlyCore k.toNat s t ∧
      t.core k.toNat = { s.core k.toNat with busy1s := busy })

/-! ### The block (log entries 1 and 4) -/

/-- A step takes the command at the front of the queue and runs it on the state with the queue's rest.  On an empty queue
(log entry 4: the model's choice) one count of LOCAL passes: 1 ns, or 10 ns while it counts FOSC; the RTC advances with
it, and a slew moves OFFSET by at most 1 ns, once for each 5,000 ns (R456, R457, R558). -/
def Obligations.StepRunsTheFrontCommand : Prop :=
  (∀ (c : Instr) (rest : List Instr) (s : State), s.pending = c :: rest → step s = exec c { s with pending := rest }) ∧
  (∀ s : State, s.pending = [] →
    let n := if s.pwrGood = true ∧ s.clocks.onFosc = true then 10 else 1
    ∃ t, step s = .next t ∧ Only [.warden, .tb] s t ∧
      (s.warden.rtcTicks.toNat < 32768 → s.warden.rtcPhase < 1000000000 → s.warden.rtcS ≠ BitVec.allOnes 32 →
        rtcUnits t.warden = rtcUnits s.warden + 32768 * n ∧ t.warden.rtcTicks.toNat < 32768 ∧
        t.warden.rtcPhase < 1000000000) ∧
      (s.pwrGood = false → t.tb = s.tb) ∧
      (s.pwrGood = true → t.tb.timeLocal = s.tb.timeLocal + BitVec.ofNat 64 n ∧
        (s.tb.slewing = false → t.tb.offset = s.tb.offset) ∧
        (s.tb.timeLocal.toNat / 5000 = t.tb.timeLocal.toNat / 5000 → t.tb.offset = s.tb.offset) ∧
        t.tb.offset + t.tb.slewLeft = s.tb.offset + s.tb.slewLeft ∧
        (s.tb.slewing = true → 0 < s.tb.slewLeft.toInt → s.tb.timeLocal.toNat / 5000 ≠ t.tb.timeLocal.toNat / 5000 →
          t.tb.offset = s.tb.offset + 1)))

/-- Every step, from any state, answers with a next state, and in it ALERT_N and CHAIN_OUT stand at the levels that R573,
R576 and R597 give. -/
def Obligations.EveryStepDrivesThePins : Prop :=
  ∀ s : State, ∃ t, step s = .next t ∧ PinsFollow t

/-- What reset leaves: MODE BOOT, the timebase period of 100 ms, the lease of 200 µs with the relay on, the scheduling
defaults of R134, the pooled arrays with their reset cause, COND_MODE 4, the management port's lengths, PD_STATE 7, and
every pigeonhole DISABLED with COUNT 1 and PHASE 1.  No rule states the others (no key, no ceremony, empty working memory,
LOCAL, the role and the registers of the cores at zero): they are the model's choice (log entries 2 and 8). -/
def Obligations.ResetValues : Prop :=
  let s := State.reset
  s.boot.mode = .boot ∧ s.boot.step = 0 ∧ s.boot.imgState = .idle ∧ s.tb.periodMs = 100 ∧ s.tb.timeLocal = 0 ∧
  s.pair.leaseUs = 200 ∧ s.pair.relayEn = true ∧ s.pair.role = .lone ∧ s.pair.crownOut = false ∧
  s.so.sched.tick100ns = 10 ∧ s.so.sched.spillDepth = 768 ∧ s.so.sched.phInflight = 128 ∧ s.so.sched.pf0Reserve = 1024 ∧
  s.so.sched.quantum = 64 ∧ s.arrays.pooled = true ∧ s.arrays.causes = 1 ∧ s.entropy.condMode = 4 ∧
  s.mgmt.mwl = 69 ∧ s.mgmt.mrl = 69 ∧ s.clocks.pd = 7 ∧ s.clocks.onFosc = true ∧ s.alarms.fIrq = true ∧
  s.journal.streamLog2 = 8 ∧ s.journal.next = 0 ∧ s.wmem = [] ∧ Memory.wf s.wmem = true ∧ s.keys.cacheKey = none ∧ s.keys.ceremony = none ∧ s.pending = [] ∧
  (∀ n, (s.ph n).state = .disabled ∧ (s.ph n).count = 1 ∧ (s.ph n).phase = true ∧ (s.ph n).enable = false) ∧
  (∀ k m, (s.core k).reg m = 0) ∧ PinsFollow s

/-! ### Journal and alarms (R465, R466, R468, R524, R548) -/

/-- A journal entry of a lone module takes the next number, the segment, a Postmark of the supervisor, and a hash over the
chain and its own first 80 octets; nothing else changes.  A change of mode or life cycle makes one of type 5 with the old
code, the new code and the trigger. -/
def Claims.JournalEntries : Prop :=
  ∀ (s : State) (ty : BitVec 16) (d : Octets), s.pair.role ≠ .standby → s.pair.role ≠ .joining → s.pair.mirroring = false →
    s.journal.ring.length < journalCap →
    let t := journalNow s ty d
    Keeps [.free, .tb, .journal] s t ∧
    (∃ e : JEntry, t.journal.ring = s.journal.ring ++ [e] ∧ e.jseq = s.journal.next ∧ e.seg = s.journal.seg ∧
      e.type = ty ∧ e.detail = d ∧ e.pm.src = BitVec.ofNat 16 srcSupervisor ∧
      e.pm.seq = (tget ({} : PmSource) s.tb.sources srcSupervisor).seq + 1 ∧
      e.chain = sha 48 (s.journal.chain ++ e.head) ∧ t.journal.chain = e.chain) ∧
    t.journal.next = s.journal.next + 1 ∧ t.journal.lost = s.journal.lost ∧
    (∀ (m : Mode) (trigger : Code), m ≠ s.boot.mode → setMode s m trigger =
      journalNow { s with boot := { s.boot with mode := m } } 5
        (le 1 s.boot.mode.code ++ le 1 m.code ++ le 2 trigger.toNat)) ∧
    (∀ (l : LifeCycle) (trigger : Code), l ≠ s.warden.lc → setLifeCycle s l trigger =
      journalNow { s with warden := { s.warden with lc := l } } 5
        (le 1 s.warden.lc.code ++ le 1 l.code ++ le 2 trigger.toNat))

/-- Logging an alarm sets its class's event bit and LAST_CAUSE, counts TRIPS of the monitor that a cause 0x01xx names,
journals an entry of type 3 for F, L and E, and signals the alarm vector for L and E, for F while F_IRQ, for N while
N_IRQ (R524, R548, R549). -/
def Claims.AlarmsAreLogged : Prop :=
  ∀ (s : State) (a : AlarmInfo), s.pair.role ≠ .standby → s.pair.role ≠ .joining → s.pair.mirroring = false →
    s.journal.ring.length < journalCap → a.dryfire = false → 1 ≤ a.cls → a.cls ≤ 4 →
    let t := logAlarm s a
    Keeps [.free, .outbox, .alarms, .msix, .tb, .journal] s t ∧ t.alarms.lastCause = a.cause ∧
    t.alarms.evE = (s.alarms.evE || a.cls == 4) ∧ t.alarms.evL = (s.alarms.evL || a.cls == 3) ∧
    t.alarms.evF = (s.alarms.evF || a.cls == 2) ∧ t.alarms.evN = (s.alarms.evN || a.cls == 1) ∧
    (∀ n, (t.monitor n).trips =
      if a.cause.toNat / 256 = 1 ∧ n = a.cause.toNat - 0x0100 then satInc (s.monitor n).trips else (s.monitor n).trips) ∧
    (2 ≤ a.cls ∨ a.named = true → ∃ e : JEntry, t.journal.ring = s.journal.ring ++ [e] ∧ e.type = 3 ∧
      e.cls = BitVec.ofNat 8 a.cls ∧ e.detail.take 2 = le 2 a.cause.toNat) ∧
    (a.cls = 1 → a.named = false → t.journal = s.journal) ∧
    (let fires := a.cls ≥ 3 ∨ (a.cls = 2 ∧ s.alarms.fIrq = true) ∨ (a.cls = 1 ∧ s.alarms.nIrq = true)
     let v := 32 + s.alarms.vec.toNat
     (¬ fires → t.outbox = s.outbox ∧ t.msix = s.msix) ∧
     (fires → (tget ({} : MsixVec) s.msix (msixKey ⟨false, 0⟩ v)).masked = false →
       (tget ({} : MsixVec) s.msix (msixKey ⟨true, 0⟩ v)).masked = false →
       t.outbox = .msix ⟨true, 0⟩ v :: .msix ⟨false, 0⟩ v :: s.outbox))

/-! ### Power-good and resets (chapters 02, 17, 18) -/

/-- The rise of PWR_GOOD begins a cold boot at step 1 with LOCAL on FOSC from the battery RTC; only the warden keeps what
it held, and its report makes the mode ERASED or LOCKED where it must (R54, R456, R553, R555, R589).  A rise while power
is good, or within 2 ms of a fall, is ignored (R582). -/
def Claims.PowerComes : Prop :=
  ∀ (s : State) (mv : BitVec 16) (x : BitVec 3),
    let w := s.warden
    let gone := w.lc = .retired ∨ w.blog.any (fun b => b.cls == 4) = true
    let boots (i : Instr) (s : State) := Gives i s fun t =>
      AllLost [.pending, .free, .outbox, .pwrGood, .pins, .boot, .warden, .alarms, .clocks, .portA, .portB, .tb, .journal,
        .pair] t ∧
      t.pending = s.pending ∧ t.outbox = s.outbox ∧ t.pwrGood = true ∧ t.boot.step = 1 ∧ t.boot.warm = false ∧
      t.boot.mode = (if w.lc = .retired ∨ w.blog.any (fun b => b.cls == 4) then .erased
        else if w.lockRec then .locked else .boot) ∧
      t.clocks = { foscTrimmed := true, xstart := x } ∧ t.portA = { perst := true } ∧ t.portB = { perst := true } ∧
      t.tb.timeLocal.toNat = w.rtcS.toNat * 1000000000 + w.rtcTicks.toNat * 1000000000 / 32768 ∧ t.tb.offset = 0 ∧
      t.alarms.vbatMv = mv ∧ t.pair.crownOut = false ∧ t.pair.role = .lone ∧
      (gone → t.warden = { w with lc := .retired, rtcOnSosc := false, transitCell := w.transitCell && decide (mv.toNat < 2500) }) ∧
      (¬ gone → t.warden = { w with rtcOnSosc := false, transitCell := w.transitCell && decide (mv.toNat < 2500) })
    (s.pwrGood = false → s.clocks.holdoff = false → boots (.pwrGoodRise mv x) s) ∧
    (s.pwrGood = true ∨ s.clocks.holdoff = true → exec (.pwrGoodRise mv x) s = answer s) ∧
    (s.clocks.holdoff = true → boots (.pwrGoodHoldoff true mv x) s) ∧
    (s.clocks.holdoff = true →
      exec (.pwrGoodHoldoff false mv x) s = answer { s with clocks := { s.clocks with holdoff := false } })

/-- The fall of PWR_GOOD drops CROWN_OUT and enters BATTERY; every domain but PD0 loses its contents (R54, R325, R568,
R582). -/
def Claims.PowerGoes : Prop :=
  ∀ s : State, s.pwrGood = true → Gives .pwrGoodFall s fun t =>
    AllLost [.pending, .free, .outbox, .warden, .boot, .clocks] t ∧ t.pending = s.pending ∧ t.outbox = s.outbox ∧
    t.warden = s.warden ∧ t.boot = { mode := .battery } ∧ t.pwrGood = false ∧ t.pair.crownOut = false ∧
    t.clocks = { pd := 1, holdoff := true, xstart := s.clocks.xstart }

/-- Warm resets: RESET_N low, KEY 0x5A in RESET_CTRL from boot step 5, a module fault in a mode that runs, and the reset
that UNLOCK has made due; RESET_N and RESET_CTRL are ignored in LOCKED, and another KEY does nothing (R63, R486, R543,
R544, R583). -/
def Claims.WarmResetsHappen : Prop :=
  ∀ s : State,
    (s.pwrGood = true → s.boot.mode ≠ .locked → WarmResets .resetNAssert s) ∧
    (s.boot.mode = .locked → exec .resetNAssert s = answer s ∧ ∀ key, exec (.warm key) s = answer s) ∧
    (s.pwrGood = true → s.boot.mode ≠ .locked → 5 ≤ s.boot.step → WarmResets (.warm 0x5A) s) ∧
    (∀ key, key ≠ 0x5A → exec (.warm key) s = answer s) ∧
    (s.boot.mode = .staged ∨ s.boot.mode = .service ∨ s.boot.mode = .standby ∨ s.boot.mode = .maintenance ∨
      s.boot.mode = .diagnostic → WarmResets .moduleFault s) ∧
    (s.boot.unlockDue = true → WarmResets .unlockReset s)

/-- Reset release goes on with step 3, or with step 2 where XA did not run throughout; a record of an erase or a lock that
the warden holds shows again (R54, R64, R543). -/
def Claims.ResetIsReleased : Prop :=
  ∀ (s : State) (xa : Bool), s.boot.inReset = true →
    let b := { s.boot with inReset := false, step := if xa then 2 else 1, tStart := s.time }
    let gone := s.warden.lc = .retired ∨ s.warden.blog.any (fun b => b.cls == 4) = true
    (¬ gone → s.warden.lockRec = false → exec (.resetRelease xa) s = answer { s with boot := b }) ∧
    (gone → Gives (.resetRelease xa) s fun t => t.boot = { b with mode := .erased } ∧ t.warden = { s.warden with lc := .retired }) ∧
    (¬ gone → s.warden.lockRec = true → Gives (.resetRelease xa) s fun t =>
      t.boot = { b with mode := .locked, fail := lockedSt } ∧ t.warden = s.warden)

/-! ### Boot steps 2 to 8 (R59, R60, R62, R343, R344, R521, R556 to R558) -/

/-- The XA delay ends step 2.  Two good windows of 9,700 to 10,300 edges in a row qualify XA and end step 3; a bad one
fails the attempt, and the third failure stops boot (R59, R62, R556). -/
def Claims.CrystalQualifies : Prop :=
  ∀ (s : State) (count : Nat),
    let c := s.clocks
    let tries := if c.goodWindow then c.qualTries else satInc c.qualTries
    let good := 9700 ≤ count ∧ count ≤ 10300
    (AtStep s 1 → exec .xaDelayEnd s = answer { s with boot := { s.boot with step := 2 } }) ∧
    (AtStep s 2 → c.qualFails < 3 →
      (good → c.goodWindow = false →
        exec (.xaQualify count) s = answer { s with clocks := { c with qualTries := tries, goodWindow := true } }) ∧
      (good → c.goodWindow = true → Gives (.xaQualify count) s fun t => Only [.boot, .clocks] s t ∧
        t.boot = { s.boot with step := 3 } ∧ t.clocks.xaQual = true ∧ t.clocks.qualTries = c.qualTries ∧
        (tget ({} : ClkMon) t.clocks.mons 0).masked = false) ∧
      (¬ good → c.qualFails < 2 → exec (.xaQualify count) s =
        answer { s with clocks := { c with qualTries := tries, goodWindow := false, qualFails := c.qualFails + 1 } }) ∧
      (¬ good → c.qualFails = 2 → BootStops (.xaQualify count) s (Config.bootStatus 3) [.clocks]))

/-- The five PLLs lock one after another; LOCAL leaves FOSC with the first, and the fifth ends step 4 (R557, R558).  Boot
step 5 powers every domain and gate of the standard plan and arms monitors 5 and 13 to 17; a failed check of the warden
link stops boot (R59, R521, R563, R565). -/
def Claims.ClocksAndRomStart : Prop :=
  ∀ (s : State) (i : Nat),
    (AtStep s 3 → i < 5 → s.clocks.pllLock.toNat = 2 ^ i - 1 → Gives (.pllLock i) s fun t => Only [.boot, .clocks] s t ∧
      t.clocks.pllLock.toNat = 2 ^ (i + 1) - 1 ∧ t.clocks.onFosc = (if i = 0 then false else s.clocks.onFosc) ∧
      (tget ({} : ClkMon) t.clocks.mons (i + 1)).masked = false ∧
      t.boot = { s.boot with step := if i = 4 then 4 else 3 }) ∧
    (AtStep s 4 → Gives (.bootRom true) s fun t => Only [.boot, .alarms, .clocks] s t ∧ t.boot = { s.boot with step := 5 } ∧
      (∀ n ∈ [5, 13, 14, 15, 16, 17], (t.monitor n).armed = true ∧ (t.monitor n).tripped = false) ∧
      (∀ d, d < 25 → d ≠ 8 → (10 ≤ d → d ≤ 18 → s.warden.retClusters.getLsbD (d - 10) = false) → t.clocks.pd.getLsbD d = true)) ∧
    (AtStep s 4 → BootStops (.bootRom false) s (Config.bootStatus 5) [.clocks, .alarms])

/-- The self-tests of step 6 retire what failed, and the warden keeps the masks; a failure of a unit without a spare,
and fewer than 8 cipher lanes or 2 hash lanes in service, stop boot (R59, R60, R234, R477). With 24 cells and every
KAT passed, entropy start-up makes the module STAGED with the key store unsealed, its keys drawn and the random
service ready, or DIAGNOSTIC in MANUFACTURE; with fewer it stops with ENTROPY_FAILED (R54, R343, R344). -/
def Claims.SelfTestsEndBoot : Prop :=
  ∀ (s : State) (r : SelfTest) (passed cond : BitVec 64) (kat : Bool),
    (let many := 8 ≤ popCount 64 (s.boot.laneMask &&& ~~~(s.warden.retLanes ||| r.lanes)).toNat ∧
       2 ≤ popCount 16 (~~~(s.warden.retHash ||| r.hash)).toNat
     AtStep s 5 → r.fatal = none →
      (¬ many → Gives (.bootSelftest r) s fun t => t.boot.mode = .locked ∧ t.boot.fail = Config.bootStatus 6 ∧
        t.boot.step = s.boot.step ∧ t.warden.retLanes = s.warden.retLanes ||| r.lanes ∧ t.keys.frankPriv = none) ∧
      (many → Gives (.bootSelftest r) s fun t =>
      Only [.free, .outbox, .boot, .warden, .clocks, .so, .tb, .journal, .pair, .units] s t ∧
      t.boot = { s.boot with step := 6 } ∧
      t.warden.retLanes = s.warden.retLanes ||| r.lanes ∧ t.warden.retHash = s.warden.retHash ||| r.hash ∧
      t.warden.retChannels = s.warden.retChannels ||| r.channels ∧
      t.warden.retClusters = s.warden.retClusters ||| r.clusters ∧ t.so.clusterOut = t.warden.retClusters.setWidth 8)) ∧
    (∀ st, AtStep s 5 → r.fatal = some st → BootStops (.bootSelftest r) s st []) ∧
    (let live := ~~~s.warden.retCells
     let enough := 24 ≤ popCount 64 (passed &&& live).toNat ∧ kat = true
     let well := 24 ≤ popCount 64 (passed &&& cond &&& live).toNat ∧ s.entropy.laneFail = 0 ∧ s.entropy.quarMask = 0 ∧
       s.entropy.failed = false ∧ s.entropy.offline = false ∧ s.boot.rngReady = false
     AtStep s 6 →
      (¬ enough → Gives (.entropyStartup passed cond kat) s fun t => t.boot.mode = .locked ∧ t.boot.fail = entropyFailed ∧
        t.boot.rngReady = s.boot.rngReady ∧ t.boot.unsealed = s.boot.unsealed ∧ t.keys.frankPriv = none ∧ t.entropy.insts = []) ∧
      (enough → well → s.warden.lc ≠ .manufacture → Gives (.entropyStartup passed cond kat) s fun t =>
        t.boot.mode = .staged ∧ t.boot.step = 8 ∧ t.boot.rngReady = true ∧ t.boot.unsealed = true ∧
        t.keys.frankPriv.isSome = true ∧ t.keys.frankCert.length = 224 ∧ t.keys.cacheKey.isSome = true ∧
        t.keys.indexKey.isSome = true ∧ (∀ i, i < 24 → (lookup t.entropy.insts i).isSome = true) ∧
        t.so = s.so ∧ t.cores = s.cores ∧ t.slots = s.slots) ∧
      (enough → well → s.warden.lc = .manufacture → Gives (.entropyStartup passed cond kat) s fun t =>
        t.boot.mode = .diagnostic ∧ t.boot.rngReady = true ∧ t.boot.unsealed = false ∧
        t.portA.vfEnable = false ∧ t.portB.vfEnable = false ∧ t.clocks.pd.getLsbD 25 = true))

/-! ### The image path and the modes (chapter 02) -/

/-- START, in its order of checks: busy and a mode in which it does not act change IMG_STATUS only; a bad address or
length refuses the image; otherwise the fetch begins and uses up an arming (R44, R48). -/
def Claims.StartActs : Prop :=
  ∀ (s : State) (p : Bool), s.pwrGood = true →
    let b := s.boot
    let n := b.imgLen.toNat
    let busy := b.imgState = .fetching ∨ b.imgState = .verifying ∨ b.imgState = .applying
    let acts := b.mode = .staged ∨ (b.mode = .maintenance ∧ b.armed.isSome = true)
    let size := 64 ≤ n ∧ n ≤ 64 * 1024 * 1024 ∧ (∀ x, b.armed = some x → x.1.toNat = n)
    let bootIs (b' : Boot) := exec (.start p) s = answer { s with boot := b' }
    (busy → bootIs { b with imgStatus := busyRetry }) ∧
    (¬ busy → ¬ acts → bootIs { b with imgStatus := modeRefused }) ∧
    (¬ busy → acts → b.imgAddr.toNat % 64 ≠ 0 → bootIs (refusedBoot b badAlignment 0)) ∧
    (¬ busy → acts → b.imgAddr.toNat % 64 = 0 → ¬ size → bootIs (refusedBoot b badLength 0)) ∧
    (¬ busy → acts → b.imgAddr.toNat % 64 = 0 → size → bootIs
      { b with imgState := .fetching, dataLen := n, data := [], byMctp := false, expect := b.armed, armed := none })

/-- ABORT abandons a fetch or a verification and is ignored while the layout is applied; an arming lapses after 60 s
(R44, R48). The last octet of the host's image ends boot step 9, and a fetch that failed refuses the image with
HOST_FAULT (log entry 44). -/
def Claims.ImagesArrive : Prop :=
  ∀ (s : State) (o : Octets),
    let b := s.boot
    (b.imgState = .fetching ∨ b.imgState = .verifying →
      exec .abort s = answer { s with boot := { b with imgState := .idle, data := [], expect := none } }) ∧
    (b.imgState = .applying → exec .abort s = answer s) ∧
    exec .imageArmLapse s = answer { s with boot := { b with armed := none } } ∧
    (b.imgState = .fetching → b.byMctp = false →
      exec (.imageReceived (.data o)) s = answer { s with boot := { b with
        imgState := .verifying, data := fit b.dataLen o, tImage := s.time, step := if b.mode = .staged then 9 else b.step } } ∧
      exec (.imageReceived .failed) s = answer { s with boot := refusedBoot b hostFault 0 })

/-- Verification ends: a refused image changes only the image registers and leaves an IMAGE journal entry (R45, R468); an
accepted one goes on to be applied.  The bases of the curve checks come from I4 (R252). -/
def Claims.ImagesAreVerified : Prop :=
  ∀ s : State, s.boot.imgState = .verifying →
    let o := s.boot.data
    let n := curveCount o
    let bases := if n = 0 then [] else (generate s 4 (9216 * n) false).1
    let mid := if n = 0 then s else (generate s 4 (9216 * n) false).2
    n = 0 ∨ (canServe s 4 = true ∧ s.entropy.failed = false) →
      (∀ st off, checkImage mid o bases (s.boot.mode == .maintenance) = .error (st, off) →
        Gives .imageVerified s fun t => Only [.free, .outbox, .boot, .entropy, .tb, .journal, .pair] s t ∧
          t.boot = refusedBoot s.boot st off ∧ t.journal.next = (journalNow mid 6 (le 4 (u32 o 0x10) ++ le 2 st.toNat)).journal.next) ∧
      (∀ l, checkImage mid o bases (s.boot.mode == .maintenance) = .ok l →
        Gives .imageVerified s fun t => Only [.free, .boot, .entropy] s t ∧
          t.boot = { s.boot with imgState := .applying, step := if s.boot.mode = .staged then 10 else s.boot.step })

/-- The application ends: IMG_STATE 4 with OK, APPLIED, the image as the program image copy, and only now the warden's
firmware floor and IMAGE_SEQ follow (R35, R43, R46).  From STAGED an ISSUED module enters MAINTENANCE; a COMMISSIONED one
without a mirror link takes the Crown with a new pair epoch and enters SERVICE, and one with a mirror link goes on to the
pair decision (R54, R59, R494).  In MAINTENANCE the mode stays (R51). -/
def Claims.LayoutsAreApplied : Prop :=
  ∀ s : State, s.boot.imgState = .applying →
    let o := s.boot.data
    let recs := recordsOf o
    let sec := u16 ((bodyOf recs 1).getD []) 4
    let applied (t : State) := t.boot.imgState = .done ∧ t.boot.imgStatus = stOk ∧ t.boot.imgFaultOff = 0 ∧
      t.boot.applied = true ∧ t.boot.image = o ∧ t.boot.imageHash = sha 48 o ∧ t.boot.imgSeq.toNat = u32 o 0x10 ∧
      t.warden.imageSeq.toNat = u32 o 0x10 ∧ t.warden.secFloor.toNat = max s.warden.secFloor.toNat sec ∧ t.boot.data = []
    let mirror := (recordsPdEn recs).testBit 8 = true
    (s.boot.mode = .staged → s.warden.lc = .issued → Gives .layoutApplied s fun t => applied t ∧
      t.boot.mode = .maintenance ∧ t.boot.step = 11) ∧
    (s.boot.mode = .staged → s.warden.lc = .commissioned → mirror → Gives .layoutApplied s fun t => applied t ∧
      t.boot.mode = .staged ∧ t.boot.step = 11 ∧ t.pair.crownOut = s.pair.crownOut) ∧
    (s.boot.mode = .staged → s.warden.lc = .commissioned → ¬ mirror → canServe s 6 = true → s.boot.exitBy = none →
      Gives .layoutApplied s fun t => applied t ∧ t.boot.mode = .service ∧ t.boot.step = 13 ∧ t.pair.crownOut = true ∧
        t.pair.role = .lone ∧ t.keys.pairEpoch.isSome = true ∧ t.keys.counters = [] ∧ t.keys.aliases = []) ∧
    (s.boot.mode = .maintenance → Gives .layoutApplied s fun t => applied t ∧ t.boot.mode = .maintenance)

/-- The drain of a MAINT_ENTER from SERVICE ends once no tenant command is left in the module but what has completed: the
mode is MAINTENANCE, and the service completes with OK; until then nothing happens (R47, R50). -/
def Claims.DrainsEnd : Prop :=
  ∀ (s : State) (e : Nat) (c : Cmd), s.boot.maintDrain = some e → s.boot.mode = .service →
    ((∀ x ∈ s.so.cmds, x.2.slot < 512 → x.2.stage = .done) → Held s e c →
      Gives .maintDrainEnd s fun t => t.boot = { s.boot with mode := .maintenance, maintDrain := none } ∧ Ended t e stOk [] ∧
        t.warden = s.warden ∧ t.slots = s.slots ∧ t.keys.rootFile = s.keys.rootFile) ∧
    ((∃ x ∈ s.so.cmds, x.2.slot < 512 ∧ x.2.stage ≠ .done) → exec .maintDrainEnd s = answer s)

/-- The erase of MODULE_RETIRE: the roots, the identity key and all working material are gone, the life cycle is RETIRED
and the mode ERASED (R47, R54, R325). -/
def Claims.RetiringErases : Prop :=
  ∀ s : State, s.boot.retireDue = true → Gives .retireErase s fun t =>
    t.boot.mode = .erased ∧ t.warden.lc = .retired ∧ t.boot.retireDue = false ∧ t.boot.unsealed = false ∧
    t.warden.km = none ∧ t.warden.mr = none ∧ t.warden.roots = [] ∧ t.warden.identity = none ∧
    t.keys.frankPriv = none ∧ t.keys.cacheKey = none ∧ t.keys.indexKey = none ∧ t.keys.cache = [] ∧ t.keys.rootFile = [] ∧
    t.keys.counters = [] ∧ t.arrays.laneKeys = [] ∧ t.arrays.hashKeys = [] ∧ t.entropy.insts = [] ∧
    t.pair.crownOut = false ∧ t.alarms.challenges = [] ∧ t.alarms.grants = [] ∧
    (∀ x ∈ t.so.cmds, x.2.stage = .done) ∧ t.warden.retLanes = s.warden.retLanes ∧ t.warden.serial = s.warden.serial

/-! ### Host ports (chapter 03) -/

/-- PERST_N of a port, or the loss of its link, resets that port alone: its pigeonholes are DISABLED, its undispatched
commands are discarded, the writes of the others are discarded, and its functions' registers return to reset; the slot
table, keys, counters and the other port stay (R73).  A link that is down cannot be lost. -/
def Claims.PortsReset : Prop :=
  ∀ (s : State) (b : Bool),
    let p := s.port b
    let slots := (if b then 513 else 512) :: portSlots s b
    let resets (i : Instr) (q : Port) := Gives i s fun t =>
      Only [.so, .cores, .gates, .msix, if b then .portB else .portA] s t ∧ Discards s t slots ∧ ClosesPhs s t slots ∧
      ClearsMsix s t (fun f => decide (257 ≤ f) = b) ∧ t.port b = q
    (s.so.cmds.map (·.1)).Nodup →
      resets (.perstAssert b) { portCleared p with perst := true, linkUp := false, linkDown := p.linkDown || p.linkUp } ∧
      (p.linkUp = true → resets (.portLinkDown b) { portCleared p with linkUp := false, linkDown := true }) ∧
      (p.linkUp = false → exec (.portLinkDown b) s = answer s)

/-- The release of PERST_N ends the port's reset. A link trains from boot step 5 on where the domain is enabled and
PERST_N is high: the port shows the trained rate and width, with an event and a notice where they are below 64 GT/s or
x16 (R59, R66, R68); otherwise nothing happens. -/
def Claims.LinksTrain : Prop :=
  ∀ (s : State) (b : Bool) (r : BitVec 3) (w : BitVec 5),
    let p := s.port b
    let may := p.perst = false ∧ s.boot.pdEn.getLsbD (if b then 7 else 6) = true ∧ 5 ≤ s.boot.step
    let low := r.toNat < 6 ∨ w.toNat < 16
    let shows (t : State) := (t.port b).linkUp = true ∧ (t.port b).rate = r ∧ (t.port b).width = w ∧
      (r.toNat < 6 → p.rate ≠ r → (t.port b).rateChange = true) ∧
      (w.toNat < 16 → p.width ≠ w → (t.port b).widthChange = true) ∧
      (t.port b).vfEnable = p.vfEnable ∧ (t.port b).hostFaults = p.hostFaults
    exec (.perstRelease b) s = answer (s.setPort b { p with perst := false }) ∧
    (¬ may → exec (.linkTrained b r w) s = answer s) ∧
    (may → ¬ low → Gives (.linkTrained b r w) s fun t => Only [if b then .portB else .portA] s t ∧ shows t) ∧
    (may → low → Gives (.linkTrained b r w) s fun t =>
      Only [if b then .portB else .portA, .free, .outbox, .alarms, .msix, .tb] s t ∧ shows t ∧
      t.alarms.lastCause = 0x0404 ∧ t.alarms.evN = true)

/-- VF Enable and NumVFs are written where NumVFs is at most TotalVFs, which is the SLOTS value in force; in DIAGNOSTIC no
virtual function is enabled (R58, R67; the excess: log entry 14).  A function-level reset acts on the function's
pigeonholes, commands and vectors, and on nothing else (R75, R445). -/
def Claims.FunctionsReset : Prop :=
  ∀ (s : State) (b on : Bool) (n : BitVec 16) (fn : Fn),
    let total := if b then s.boot.slotsB else s.boot.slotsA
    let resets (i : Instr) (f : Fn) := Gives i s fun t => Only [.so, .cores, .gates, .msix] s t ∧
      Discards s t [slotOfFn f] ∧ ClosesPhs s t [slotOfFn f] ∧ ClearsMsix s t (fun x => x = msixKey f 0 / 64)
    ((s.port b).linkUp = true → s.boot.mode ≠ .diagnostic → n.toNat ≤ total →
      exec (.vfEnable b on n) s = answer (s.setPort b { s.port b with vfEnable := on, numVfs := n })) ∧
    ((s.port b).linkUp = false ∨ s.boot.mode = .diagnostic ∨ total < n.toNat → exec (.vfEnable b on n) s = answer s) ∧
    ((s.so.cmds.map (·.1)).Nodup →
      (fn.vf ≠ 0 → fnReachable s fn = true → resets (.flrVf fn) fn) ∧
      ((s.port b).linkUp = true → resets (.flrPf0 b) ⟨b, 0⟩)) ∧
    (fnReachable s fn = false → exec (.flrVf fn) s = answer s)

/-! ### Management port and test access (chapters 16, 18) -/

/-- I3C command codes, from boot step 1 on: an address is taken by ENTDAA only with CHAIN_IN high and none held, and
lost by RSTDAA; event enables and lengths of 69 to 4,096 are set; the answers of R595 and R596 go out where an address
is held (R595 to R597). -/
def Claims.I3cCommands : Prop :=
  ∀ (s : State) (chain : Bool) (addr : Option (BitVec 7)) (ev : BitVec 8) (n : BitVec 16),
    let m := s.mgmt
    let mgmtIs (i : Instr) (m' : Mgmt) := exec i s = answer { s with mgmt := m' }
    exec .chainInRise s = answer { s with mgmt := { m with chainIn := true } } ∧
    (s.pwrGood = true → 1 ≤ s.boot.step ∨ s.boot.inReset = true →
      mgmtIs (.entdaa chain addr) { m with chainIn := chain, addr := if m.addr = none ∧ chain = true then addr else m.addr } ∧
      mgmtIs .rstdaa { m with addr := none } ∧ mgmtIs (.enec ev) { m with events := m.events ||| ev } ∧
      mgmtIs (.disec ev) { m with events := m.events &&& ~~~ev } ∧
      (69 ≤ n.toNat → n.toNat ≤ 4096 → mgmtIs (.setmwl n) { m with mwl := n } ∧ mgmtIs (.setmrl n) { m with mrl := n }) ∧
      (n.toNat < 69 ∨ 4096 < n.toNat → mgmtIs (.setmwl n) m ∧ mgmtIs (.setmrl n) m) ∧
      (m.addr = none → m.chainIn = true → m.events.getLsbD 3 = true → Sends .hotJoin s .hotJoin) ∧
      (m.addr.isSome = true → Sends .getmwl s (.ccc (be 2 m.mwl.toNat)) ∧ Sends .getmrl s (.ccc (be 2 m.mrl.toNat ++ [1])) ∧
        Sends .getpid s (.ccc (be 2 0xAE98 ++ be 2 0x3680 ++ be 2 s.warden.serial.toNat)) ∧
        Sends .getbcr s (.ccc [0x06]) ∧ Sends .getdcr s (.ccc [0x00]) ∧
        Gives .getstatus s fun t => Only [.free, .outbox] s t ∧ ∃ o, o.length = 2 ∧ t.outbox = .ccc o :: s.outbox))

/-- MCTP control messages and the read commands of the vendor type, to the module's own address: each is answered with the
content that R599 and R600 give and changes nothing else, but for the endpoint ID that Set Endpoint ID assigns (message
layouts and codes: log entry 32). -/
def Claims.MctpMessages : Prop :=
  ∀ (s : State) (op : BitVec 2) (eid ty sel : BitVec 8),
    let control (cmd cc : Nat) (o : Octets) := Emit.mctp 0x00 (le 1 cmd ++ le 1 cc ++ o)
    let vendor (cmd : Nat) (o : Octets) := Emit.mctp 0x7E (vendorBody cmd stOk o)
    s.pwrGood = true → 1 ≤ s.boot.step ∨ s.boot.inReset = true → s.mgmt.addr.isSome = true →
      (op.toNat ≤ 1 → 8 ≤ eid.toNat → eid.toNat ≤ 254 → exec (.setEndpointId op eid) s =
        answer (emit { s with mgmt := { s.mgmt with eid := eid } } (control 1 0 [0, eid, 0]))) ∧
      (2 ≤ op.toNat ∨ eid.toNat < 8 ∨ eid = 255 → Sends (.setEndpointId op eid) s (control 1 2 [])) ∧
      Sends .getEndpointId s (control 2 0 [s.mgmt.eid, 0, 0]) ∧
      (ty = 0xFF ∨ ty = 0 ∨ ty = 0x7E → Sends (.getMctpVersionSupport ty) s (control 4 0 (Config.mctpVersions ty.toNat))) ∧
      (ty ≠ 0xFF → ty ≠ 0 → ty ≠ 0x7E → Sends (.getMctpVersionSupport ty) s (control 4 0x80 [])) ∧
      Sends .getMessageTypeSupport s (control 5 0 [2, 0x00, 0x7E]) ∧
      Sends (.getVendorDefinedMessageSupport 0) s (control 6 0 ([0xFF, 0, 0x1D, 0x7E] ++ Config.mctpVendorSet)) ∧
      (sel ≠ 0 → Sends (.getVendorDefinedMessageSupport sel) s (control 6 2 [])) ∧
      (∃ o, o.length = 24 ∧ u32 o 0 = 0x574C3680 ∧ u32 o 4 = 0x0A01 ∧ u64 o 8 = s.warden.serial.toNat ∧
        u32 o 20 = s.boot.fwBuild.toNat ∧ Sends .getIdentity s (vendor 1 o)) ∧
      (∃ o, o.length = 16 ∧ u8 o 0 % 16 = s.boot.mode.code ∧ u8 o 0 / 16 % 4 = s.warden.lc.code ∧
        ((u8 o 0).testBit 6 = true ↔ s.boot.rngReady = true) ∧ ((u8 o 0).testBit 7 = true ↔ s.boot.unsealed = true) ∧
        (s.boot.step < 256 → u8 o 4 = s.boot.step ∧ u16 o 5 = s.boot.fail.toNat) ∧
        u32 o 8 = s.boot.tRng.toNat ∧ u32 o 12 = s.boot.tRole.toNat ∧ Sends .getMode s (vendor 2 o)) ∧
      (∃ o, o.length = 2064 ∧ u8 o 0 = s.warden.blog.length % 256 ∧ u16 o 2 = s.warden.blogDropped.toNat ∧
        u32 o 4 = s.warden.rtcS.toNat ∧ (∀ x rest, s.warden.blog = x :: rest → slice o 16 32 = x.octets) ∧
        Sends .mctpBatteryLog s (vendor 4 o)) ∧
      (∃ o, o = healthOctets s ∧ o.length = 128 ∧ Sends .mctpHealthReport s (vendor 5 o)) ∧
      (∃ o, o.length = 12 ∧ u16 o 0 = s.boot.imgStatus.toNat ∧ u16 o 2 = s.boot.imgState.code ∧
        u32 o 4 = s.boot.imgFaultOff.toNat ∧ u32 o 8 = s.boot.imgSeq.toNat ∧ Sends .imageStatus s (vendor 0x13 o))

/-- The image path over MCTP: IMAGE_BEGIN makes START's checks; IMAGE_DATA continues at the next octet, and a gap, an
overlap or data beyond the length gets BAD_FIELD and changes nothing; IMAGE_END before every octet has arrived gets
BAD_LENGTH, and otherwise verification begins; a transfer without data for 10 s is refused with BAD_LENGTH (R44, R600,
R601). -/
def Claims.ImagesOverMctp : Prop :=
  ∀ (s : State) (len off : BitVec 32) (data : Octets),
    let b := s.boot
    let n := len.toNat
    let busy := b.imgState = .fetching ∨ b.imgState = .verifying ∨ b.imgState = .applying
    let acts := b.mode = .staged ∨ (b.mode = .maintenance ∧ b.armed.isSome = true)
    let size := 64 ≤ n ∧ n ≤ 64 * 1024 * 1024 ∧ (∀ x, b.armed = some x → x.1.toNat = n)
    let moving := b.imgState = .fetching ∧ b.byMctp = true
    let fits := off.toNat = b.data.length ∧ 1 ≤ data.length ∧ data.length ≤ 1024 ∧ b.data.length + data.length ≤ b.dataLen
    let sends (i : Instr) (b' : Boot) (cmd : Nat) (st : Code) :=
      exec i s = answer (emit { s with boot := b' } (.mctp 0x7E (vendorBody cmd st [])))
    (moving → exec .imageTransferTimeout s = answer { s with boot := refusedBoot b badLength 0 }) ∧
    (¬ moving → exec .imageTransferTimeout s = answer s) ∧
    (s.pwrGood = true → 1 ≤ b.step ∨ b.inReset = true → s.mgmt.addr.isSome = true →
      (busy → sends (.imageBegin len) b 0x10 busyRetry) ∧
      (¬ busy → ¬ acts → sends (.imageBegin len) { b with imgStatus := modeRefused } 0x10 modeRefused) ∧
      (¬ busy → acts → ¬ size → sends (.imageBegin len) (refusedBoot b badLength 0) 0x10 badLength) ∧
      (¬ busy → acts → size → sends (.imageBegin len)
        { b with imgState := .fetching, dataLen := n, data := [], byMctp := true, expect := b.armed, armed := none } 0x10 stOk) ∧
      (moving → fits → sends (.imageData off data) { b with data := b.data ++ data } 0x11 stOk) ∧
      (¬ (moving ∧ fits) → sends (.imageData off data) b 0x11 badField) ∧
      (moving → b.data.length = b.dataLen → sends .imageEnd
        { b with imgState := .verifying, tImage := s.time, step := if b.mode = .staged then 9 else b.step } 0x12 stOk) ∧
      (moving → b.data.length ≠ b.dataLen → sends .imageEnd b 0x12 badLength) ∧
      (b.imgState = .fetching ∨ b.imgState = .verifying →
        sends .imageAbort { b with imgState := .idle, data := [], expect := none } 0x14 stOk) ∧
      (b.imgState = .applying → sends .imageAbort b 0x14 stOk))

/-- The test access port answers in DIAGNOSTIC alone: BYPASS delays TDI by one bit, IDCODE reads 0x1368056F, and
SAMPLE/PRELOAD and EXTEST load the boundary register and read the pins, in MANUFACTURE and ISSUED only (R56, R545). -/
def Claims.TestAccess : Prop :=
  ∀ (s : State) (ir : ScanIr) (tdi pins : Octets),
    (s.boot.mode ≠ .diagnostic → exec (.boundaryScan ir tdi pins) s = answer s) ∧
    (s.boot.mode = .diagnostic → s.clocks.pd.getLsbD 25 = true →
      Sends (.boundaryScan .bypass tdi pins) s (.tdo (le tdi.length (2 * leNat tdi))) ∧
      Sends (.boundaryScan .idcode tdi pins) s (.tdo [0x6F, 0x05, 0x68, 0x13]) ∧
      (ir = .samplePreload ∨ ir = .extest →
        (s.warden.lc = .manufacture ∨ s.warden.lc = .issued → exec (.boundaryScan ir tdi pins) s =
          answer (emit { s with mgmt := { s.mgmt with boundary := tdi } } (.tdo pins))) ∧
        (s.warden.lc = .commissioned ∨ s.warden.lc = .retired → exec (.boundaryScan ir tdi pins) s = answer s)))

/-! ### Clocks and power domains (chapter 17) -/

/-- A window of a clock monitor: LAST takes the count, held at 110, and MIN and MAX follow while it is unmasked; a
count outside 97 to 103 raises the CLOCK alarm of class L, and for XA or PLL_TIME LOCAL counts FOSC again (R519, R558,
R561, R562). SOSC takes over the RTC where XB fails its check (R554). -/
def Claims.ClocksAreMonitored : Prop :=
  ∀ (s : State) (i : BitVec 3) (count : BitVec 8) (edges : Nat),
    let m := tget ({} : ClkMon) s.clocks.mons i.toNat
    let v := min count.toNat 110
    let runs := if i = 0 then s.clocks.xaQual = true else i.toNat ≤ 5 ∧ s.clocks.pllLock.getLsbD (i.toNat - 1) = true
    let shows (t : State) := (tget ({} : ClkMon) t.clocks.mons i.toNat).last.toNat = v
    (runs → m.masked = true → Gives (.monitorWindow i count) s fun t => Only [.clocks] s t ∧ shows t ∧
      (tget ({} : ClkMon) t.clocks.mons i.toNat).min = m.min ∧ (tget ({} : ClkMon) t.clocks.mons i.toNat).max = m.max) ∧
    (runs → m.masked = false → 97 ≤ v → v ≤ 103 → Gives (.monitorWindow i count) s fun t => Only [.clocks] s t ∧ shows t ∧
      (tget ({} : ClkMon) t.clocks.mons i.toNat).min.toNat = min v m.min.toNat ∧
      (tget ({} : ClkMon) t.clocks.mons i.toNat).max.toNat = max v m.max.toNat ∧ t.clocks.onFosc = s.clocks.onFosc) ∧
    (runs → m.masked = false → v < 97 ∨ 103 < v → (s.monitor 15).armed = true → s.alarms.dryFire = none →
      s.boot.mode = .service ∨ s.boot.mode = .staged → Gives (.monitorWindow i count) s fun t => shows t ∧
        t.boot.mode = .locked ∧ t.alarms.lastCause = 0x010F ∧ t.warden.lockRec = true ∧
        t.clocks.onFosc = (if i.toNat ≤ 1 then true else s.clocks.onFosc)) ∧
    (edges < 16384 ∨ 49152 < edges → exec (.xbCheck edges) s = answer { s with warden := { s.warden with rtcOnSosc := true } }) ∧
    (16384 ≤ edges → edges ≤ 49152 → exec (.xbCheck edges) s = answer s)

/-- CLK_GATE_CTRL, from the supervisor alone: the result register names the gate and the code of the first refusal that
holds (log entry 36), and only DONE switches the gate (R563, R564). -/
def Claims.GatesSwitch : Prop :=
  ∀ (s : State) (m : BitVec 7) (g : BitVec 5) (on : Bool),
    let c := s.clocks
    let i := Instr.clkGateCtrl m g on
    let n := g.toNat
    let free := (c.switching.map (·.1)) ≠ some (gateDomain n)
    let code (r : BitVec 3) := exec i s = answer { s with clocks := { c with gateCode := r, gateNum := g } }
    (m ≠ 0 → exec i s = answer s) ∧
    (m = 0 → s.pwrGood = true → 5 ≤ s.boot.step →
      (27 < n → code 3) ∧ (n ≤ 27 → ¬ free → code 5) ∧
      (n ≤ 27 → free → c.gates.getLsbD n = on → n ≠ 0 → code 0) ∧
      (n ≤ 27 → free → c.gates.getLsbD n = false → on = true →
        (∀ p, gateParent n = some p → c.gates.getLsbD p = false → code 2) ∧
        ((∀ p, gateParent n = some p → c.gates.getLsbD p = true) → c.pd.getLsbD (gateDomain n) = false → code 4)) ∧
      (n ≤ 27 → free → c.gates.getLsbD n = true → on = false →
        ((∃ x, x < 28 ∧ gateParent x = some n ∧ c.gates.getLsbD x = true) → code 1) ∧
        (10 ≤ n → n ≤ 23 → (∀ x, x < 28 → gateParent x = some n → c.gates.getLsbD x = false) → code 3)) ∧
      (n ≤ 27 → gateResult s n on = 0 → Gives i s fun t => Only [.clocks] s t ∧ t.clocks.gateCode = 0 ∧ t.clocks.gateNum = g ∧
        (∀ x, x < 28 → t.clocks.gates.getLsbD x = if x = n then on else c.gates.getLsbD x)))

/-- PD_CTRL, from the supervisor alone: a domain that must be as it is, or does not exist, is refused, a switch in
progress holds the next one off, and otherwise the switch begins; its end puts the domain and its gates there, with
DONE in PD_RESULT, and takes a port or the mirror link down with its domain (R565 to R567). -/
def Claims.DomainsSwitch : Prop :=
  ∀ (s : State) (m : BitVec 7) (pd : BitVec 5) (on sw : Bool) (d : Nat),
    let c := s.clocks
    let i := Instr.pdCtrl m pd on
    let code (r : BitVec 3) := exec i s = answer { s with clocks := { c with pdCode := r, pdNum := pd } }
    (m ≠ 0 → exec i s = answer s) ∧
    (m = 0 → s.pwrGood = true → 5 ≤ s.boot.step →
      (25 < pd.toNat → code 3) ∧
      (pd.toNat ≤ 25 → c.switching.isSome = true → code 5) ∧
      (pd.toNat ≤ 25 → c.switching = none → c.pd.getLsbD pd.toNat = on → code 0) ∧
      (pd.toNat ≤ 5 → c.switching = none → c.pd.getLsbD pd.toNat = true → on = false → code 3) ∧
      (pd.toNat ≤ 25 → c.switching = none → c.pd.getLsbD pd.toNat ≠ on → mayBeOn s pd.toNat = on →
        exec i s = answer { s with clocks := { c with switching := some (pd.toNat, on) } })) ∧
    (c.switching = none → exec .pdSwitchEnd s = answer s) ∧
    (c.switching = some (d, sw) → d ≤ 25 → Gives .pdSwitchEnd s fun t =>
      t.clocks.switching = none ∧ t.clocks.pdCode = 0 ∧ t.clocks.pdNum.toNat = d ∧ domainIs c t.clocks d sw ∧
      t.warden = s.warden ∧ t.boot = s.boot ∧ t.keys = s.keys ∧ t.wmem = s.wmem ∧
      (sw = true ∨ (d ≠ 6 ∧ d ≠ 7 ∧ d ≠ 8) → Only [.clocks] s t) ∧
      (sw = false → c.pd.getLsbD d = true → (d = 6 → t.portA.linkUp = false) ∧ (d = 7 → t.portB.linkUp = false) ∧
        (d = 8 → t.pair.linkUp = false)))

/-! ### Monitors and alarms (chapter 16) -/

/-- The tamper monitors, outside a dry-fire of their own: mesh, lid, light, extremes and ZEROIZE_N erase; an external
input acts as EXT_CFG sets its class; the supply, the clock and the junction limits lock; readings are kept (R519,
R522, R532, R533). -/
def Claims.TamperResponds : Prop :=
  ∀ (s : State) (n : BitVec 2) (u : BitVec 8) (dc mv : BitVec 16) (r : BitVec 3),
    let cls := extClass s.warden.extCfg n.toNat
    let wide := dc.signExtend 32
    s.alarms.dryFire = none →
      (Erasable s →
        Erases (.meshOpen n) s 0x0100 n.toNat 0 ∧ Erases (.meshShort n) s 0x0101 n.toNat 0 ∧
        Erases (.meshDrift n dc) s 0x0102 n.toNat wide ∧ Erases (.lid n) s 0x0103 n.toNat 0 ∧
        Erases (.light u) s 0x0104 u.toNat 0 ∧ ((s.monitor 5).armed = true → Erases (.tjExtreme u dc) s 0x0105 u.toNat wide) ∧
        Erases (.twExtreme dc) s 0x0106 0 wide ∧ Erases .zeroize s 0x0107 0 0 ∧
        (cls = 3 → Erases (.tamperExt n) s (BitVec.ofNat 16 (0x0108 + n.toNat)) n.toNat 0)) ∧
      (Lockable s →
        (cls = 2 → Locks (.tamperExt n) s (BitVec.ofNat 16 (0x0108 + n.toNat)) n.toNat 0) ∧
        ((s.monitor 14).armed = true → r.toNat ≤ 6 → Locks (.supply r mv) s 0x010E r.toNat (mv.setWidth 32)) ∧
        ((s.monitor 16).armed = true → Locks (.tjLimit u dc) s 0x0110 u.toNat wide)) ∧
      (s.boot.mode ≠ .battery → cls = 1 → Warns (.tamperExt n) s (8 + n.toNat) 1) ∧
      (cls = 0 → exec (.tamperExt n) s = answer s) ∧
      ((s.monitor 17).armed = true → Warns (.tjWarn u dc) s 17 1)

/-- VBAT: below 2.3 V on battery the warden erases the roots and logs it, and the life cycle changes only at the next
boot (R527, R528); below 2.5 V with main power the low notice is N, below 2.3 V F, and its level holds ALERT_N until
VBAT is back (R519, R548, R576). -/
def Claims.BatteryResponds : Prop :=
  ∀ (s : State) (mv : BitVec 16), s.alarms.dryFire = none →
    (s.boot.mode = .battery → mv.toNat < 2300 → Gives (.vbatCrit mv) s fun t =>
      Keeps [.pins, .warden, .alarms] s t ∧ t.alarms.vbatMv = mv ∧ t.warden.km = none ∧ t.warden.mr = none ∧ t.warden.roots = [] ∧
      t.warden.identity = none ∧ t.warden.lc = s.warden.lc ∧
      (s.warden.blog.length < 64 → ∃ b ∈ t.warden.blog, b.cause = 0x010C ∧ b.cls = 4 ∧ b.flags = 3)) ∧
    (2300 ≤ mv.toNat → exec (.vbatCrit mv) s = answer s) ∧
    ((s.monitor 13).armed = true →
      (2300 ≤ mv.toNat → mv.toNat < 2500 → Warns (.vbatLow mv) s 13 1) ∧ (mv.toNat < 2300 → Warns (.vbatLow mv) s 13 2) ∧
      (mv.toNat < 2500 → Gives (.vbatLow mv) s fun t => t.alarms.vbatLow = true ∧ t.alarms.vbatMv = mv)) ∧
    (2500 ≤ mv.toNat → exec (.vbatLow mv) s = answer s ∧
      Gives (.vbatLowClear mv) s fun t => Only [.alarms] s t ∧ t.alarms.vbatLow = false ∧ t.alarms.vbatMv = mv ∧
        (t.monitor 13).tripped = false ∧ t.alarms.lastCause = s.alarms.lastCause) ∧
    (mv.toNat < 2500 → exec (.vbatLowClear mv) s = answer s)

/-- The warden redraws the mesh sequences, and rotates the mask of its SRAM while it holds a mask key; both are free
values (R315, R520). Challenges and grants lapse by their own names only (R538, R540). -/
def Claims.WardenTimers : Prop :=
  ∀ (s : State) (id : BitVec 32) (b : Bool) (op : Code) (cid : BitVec 64),
    (Gives .meshRedraw s fun t => Only [.free, .alarms] s t ∧ t.alarms = { s.alarms with mesh := t.alarms.mesh } ∧
      t.alarms.mesh.length = 4) ∧
    (s.warden.km.isSome = true → Gives .maskRotation s fun t => Only [.free, .warden] s t ∧
      (∃ k, k.length = 16 ∧ t.warden = { s.warden with km := some k, maskEpoch := s.warden.maskEpoch + 1 })) ∧
    (s.warden.km = none → exec .maskRotation s = answer s) ∧
    (Gives (.challengeExpiry id) s fun t => Only [.alarms] s t ∧
      ∀ x, x ∈ t.alarms.challenges ↔ x ∈ s.alarms.challenges ∧ x.id ≠ id) ∧
    (Gives (.grantExpiry b op cid) s fun t => Only [.alarms] s t ∧
      ∀ x, x ∈ t.alarms.grants ↔ x ∈ s.alarms.grants ∧ ¬ (x.portB = b ∧ x.opcode = op ∧ x.cmdId = cid))

/-- The window of a dry-fire ends: the command completes with the monitor, its result (0 passed, 1 not detected, 2 not
cleared) and both times; no trip counts and no event is set; a failure raises the alarm only after the completion write; a
condition that holds then raises its alarm as deferred (R535, R536). -/
def Claims.DryFiresEnd : Prop :=
  ∀ (s : State) (det clr : Bool) (dn wn value : BitVec 32) (unit : BitVec 16) (d : DryFire) (c : Cmd),
    let n := d.monitor
    let result := if det then (if clr then 0 else 2) else 1
    let i := Instr.dryfireWindowEnd det clr dn wn
    s.alarms.dryFire = some d → Held s d.cmd c → 16 ≤ c.d.outCap.toNat →
      (Gives (i false unit value) s fun t => t.alarms.dryFire = none ∧ t.alarms.lastCause = s.alarms.lastCause ∧
        (t.monitor n).trips = (s.monitor n).trips ∧ (t.monitor n).tripped = false ∧ t.boot = s.boot ∧
        Ended t d.cmd stOk (le 1 n ++ le 1 result ++ zeros 2 ++ le 4 dn.toNat ++ le 4 wn.toNat ++ zeros 4) ∧
        (result ≠ 0 → ∃ c', t.cmd d.cmd = some c' ∧ c'.after = .dryFail n)) ∧
      (n ≤ 7 → Erasable s → Gives (i true unit value) s fun t => t.boot.mode = .erased ∧ t.warden.roots = [] ∧ t.alarms.evE = true) ∧
      (n = 14 ∨ n = 15 ∨ n = 16 → Lockable s → Gives (i true unit value) s fun t => t.boot.mode = .locked ∧ t.alarms.evL = true)

/-! ### Access gates (chapter 12) -/

/-- A request at the gate of its address: unmapped raises a notice; a bad Seal is answered with RETRY, and a second
one in a row with an integrity error; a request that exactly one entry of the set of its tag matches and grants goes
to its target and counts in the set's drain; every other is refused and counted, and two matches lock the module (R16,
R404, R405, R407, R409, R419, R422, R432). -/
def Claims.GateDecides : Prop :=
  ∀ (s : State) (init : BitVec 7) (len g j : Nat) (msg : BitVec 640) (sl : BitVec 24),
    let i := Instr.gateRequest init len msg sl
    let a := beatAddr msg
    let m := beatMaster msg
    let h := gateHealth s g
    let path := 128 * g + init.toNat
    let recent := (tget [] s.gates.mismatches path).filter (fun t => decide (s.time.toNat - t < 1000000000))
    let shape := (len ∈ [1, 2, 4, 8, 16, 32, 64, 128, 256]) ∧ a % len = 0
    let r := getSet s g m j
    let refused := Gives i s fun t => Emit.gate g m 6 ∈ t.outbox ∧ (gateHealth t g).refused = h.refused.inc ∧
      t.cores = s.cores ∧ t.wmem = s.wmem ∧ t.keys = s.keys ∧ t.so = s.so
    (gateOf s a = none → Gives i s fun t => Only [.free, .outbox, .alarms, .msix, .tb] s t ∧ t.alarms.lastCause = 0x0401 ∧
      t.alarms.evN = true) ∧
    (gateOf s a = some g → sealOf msg ≠ sl → recent.length < 3 →
      Gives i s fun t => Only [.free, .outbox, .alarms, .msix, .gates, .tb] s t ∧
        t.outbox.head? = some (.gate g init.toNat (if s.gates.retried.contains path then 7 else 1)) ∧
        (gateHealth t g).sealErr = satInc h.sealErr ∧ t.gates.sets = s.gates.sets ∧
        t.gates.retried.contains path = !(s.gates.retried.contains path)) ∧
    (gateOf s a = some g → sealOf msg ≠ sl → 3 ≤ recent.length → Lockable s →
      Gives i s fun t => t.boot.mode = .locked ∧ t.alarms.lastCause = 0x0200 ∧ t.warden.lockRec = true) ∧
    (gateOf s a = some g → sealOf msg = sl → shape → m < 8 ∨ 0x40 ≤ m → decidingSet s g m (beatTag msg) = some j →
      (setMatches r g a len (beatKind msg) = (1, 1) → Gives i s fun t => Only [.outbox, .gates] s t ∧
        t.outbox = .gate g m 0 :: s.outbox ∧ getSet t g m j = { r with drain := r.drain + 1 }) ∧
      ((setMatches r g a len (beatKind msg)).1 = 0 ∨ setMatches r g a len (beatKind msg) = (1, 0) →
        refused ∧ Gives i s fun t => t.alarms.evL = s.alarms.evL ∧ t.boot = s.boot) ∧
      (2 ≤ (setMatches r g a len (beatKind msg)).1 → Lockable s →
        Gives i s fun t => t.boot.mode = .locked ∧ t.alarms.lastCause = 0x0201)) ∧
    (gateOf s a = some g → sealOf msg = sl → shape → 8 ≤ m → m < 0x40 → refused) ∧
    (gateOf s a = some g → sealOf msg = sl → ¬ shape → refused ∧ Gives i s fun t => t.alarms.evF = true) ∧
    (gateOf s a = some g → sealOf msg = sl → shape → m < 8 ∨ 0x40 ≤ m → decidingSet s g m (beatTag msg) = none →
      refused ∧ Gives i s fun t => t.alarms.evF = true)

/-- The sets of a fixed master: LOAD fills a FREE set from the staging descriptors; ARM checks it entry by entry, then
pair by pair, and arms it for the next epoch or leaves it FREE with the status of the first failure; FREE frees an
ARMED set; SWAP, with the inactive set ARMED at all 29 gates, makes it ACTIVE and advances the tag (R408, R410, R418,
R419, R421). A DRAINING set whose last request is answered is FREE (R422). -/
def Claims.RuleSetsChange : Prop :=
  ∀ (s : State) (m : BitVec 7) (set : Bool) (regions : List (BitVec 64)) (g : Nat) (gate : BitVec 8) (gn : BitVec 5) (j : Nat),
    let i := if set then 1 else 0
    let r := getSet s g m.toNat i
    let st := (regions ++ List.replicate 16 0).take 16
    let other (t : State) := ∀ g' m' i', g' < 29 → m' < 128 → i' < 2 → (g', m', i') ≠ (g, m.toNat, i) → getSet t g' m' i' = getSet s g' m' i'
    let code := armCheck (r.entries.map (·.2))
    (g < 29 → gate.toNat = g → m.toNat < 8 →
      (r.st = .free → Gives (.loadSet m gate set regions) s fun t => Only [.gates] s t ∧ t.gates.staging = st ∧ other t ∧
        getSet t g m.toNat i = { r with entries := ((List.range 16).zip st).filter (fun e => e.2 ≠ 0) }) ∧
      (r.st ≠ .free → Gives (.loadSet m gate set regions) s fun t => Only [.gates] s t ∧ t.gates.sets = s.gates.sets) ∧
      (r.st = .free → Gives (.armSet m gate set) s fun t => Only [.gates] s t ∧ t.gates.armStatus = code ∧ other t ∧
        getSet t g m.toNat i = if code = 0 then { r with st := .armed, epoch := epochTag s m.toNat + 1 } else r) ∧
      (r.st = .armed → Gives (.freeSet m gate set) s fun t => Only [.gates] s t ∧ other t ∧ (getSet t g m.toNat i).st = .free) ∧
      (r.st ≠ .armed → Gives (.freeSet m gate set) s fun t => Only [.gates] s t ∧ t.gates.sets = s.gates.sets)) ∧
    (m.toNat < 8 → (∀ x, x < 29 → (setIn s x m.toNat .armed).isSome = true) →
      Gives (.swapSet m) s fun t => Only [.gates] s t ∧ epochTag t m.toNat = epochTag s m.toNat + 1 ∧
        ∀ x y, x < 29 → y < 2 →
          (getSet s x m.toNat y).st = .armed → (getSet t x m.toNat y).st = .active ∧
            (getSet t x m.toNat y).entries = (getSet s x m.toNat y).entries) ∧
    ((∃ x, x < 29 ∧ setIn s x m.toNat .armed = none) → Gives (.swapSet m) s fun t => Only [.gates] s t ∧
      t.gates.sets = s.gates.sets ∧ t.gates.tags = s.gates.tags) ∧
    (setIn s gn.toNat m.toNat .draining = some j → m.toNat < 64 → Gives (.setFree gn m) s fun t => Only [.gates] s t ∧
      (getSet t gn.toNat m.toNat j).st = .free) ∧
    (setIn s gn.toNat m.toNat .draining = none → exec (.setFree gn m) s = answer s)

/-- A gate that fails its self-check is bypassed with its cause, once, and raises an F-class event; the sets stay; a
failure of the central table locks the module (R426 to R428). -/
def Claims.GateSelfChecks : Prop :=
  ∀ (s : State) (g : BitVec 5) (cause : BitVec 2),
    let h := gateHealth s g.toNat
    (g.toNat < 29 → cause ≠ 0 → h.bypassed = false → Gives (.gateSelfCheck g cause false) s fun t =>
      Only [.free, .outbox, .alarms, .msix, .gates, .tb, .journal, .pair] s t ∧
      gateHealth t g.toNat = { h with bypassed := true, cause := cause } ∧ t.gates.sets = s.gates.sets ∧
      t.alarms.lastCause = 0x0305 ∧ t.alarms.evF = true) ∧
    (cause = 0 ∨ h.bypassed = true → exec (.gateSelfCheck g cause false) s = answer s) ∧
    (cause = 0 → Lockable s → Locks (.gateSelfCheck g cause true) s 0x0202 0 0)

/-! ### Clusters and channels (chapter 15) -/

/-- A lockstep mismatch of a logical cluster: its cores lose their turns, their commands wait again from the start, and a
ready spare takes the number, or the number leaves service (R136, R137, R389, R479, R482).  The replacement ends with the
number in service (R479). -/
def Claims.ClustersAreLost : Prop :=
  ∀ (s : State) (k : CoreId) (cluster : BitVec 3) (j x : Nat),
    let cl := k.toNat / 8
    let lost (t : State) := t.alarms.lastCause = 0x0301 ∧ t.wmem.all (fun y => s.wmem.contains y) = true ∧
      ∀ core ∈ clusterCores cl, (t.core core).cmd = none ∧ (t.core core).pre = none ∧ ∀ m, (t.core core).reg m = 0
    unitAt s cl = some j → s.units.logical.length = 9 → s.units.replacing.contains cl = false →
    s.so.clusterOut.getLsbD cl = false →
      (s.units.spareState = 0 → unitAt s spareMark = some x → Gives (.lockstepMismatch k) s fun t => lost t ∧
        logicalOf t x = cl ∧ logicalOf t j = testMark ∧ cl ∈ t.units.replacing ∧ t.so.clusterOut = s.so.clusterOut ∧
        ∀ y, y < 9 → y ≠ x → y ≠ j → logicalOf t y = logicalOf s y) ∧
      (s.units.spareState ≠ 0 → Gives (.lockstepMismatch k) s fun t => lost t ∧
        logicalOf t j = testMark ∧ t.units.spareState = 1 ∧ t.so.clusterOut.getLsbD cl = true ∧ t.so.resteer = true) ∧
      (s.units.replacing.contains cluster.toNat = true → Gives (.clusterReplaced cluster) s fun t =>
        Only [.so, .arrays, .units] s t ∧ t.units.replacing.contains cluster.toNat = false ∧
        t.so = { s.so with clusterOut := t.so.clusterOut } ∧
        (∀ y, y < 8 → t.so.clusterOut.getLsbD y = if y = cluster.toNat then false else s.so.clusterOut.getLsbD y))

/-- Tests of a failed cluster and of the spare: a first mismatch within 24 h and a pass make it the spare; a second,
or a failed test, retires it with its domain off; a failed cycle quarantines the spare, a second one within 24 h
retires it, and a pass makes it ready (R478, R481). -/
def Claims.SparesAreTested : Prop :=
  ∀ (s : State) (u : BitVec 4) (pass : Bool) (j : Nat),
    let n := u.toNat
    let first := within24h s (tget [] s.units.mismatches n) ≤ 1
    let retires (t : State) (n : Nat) := logicalOf t n = retiredMark ∧ t.warden.retClusters.getLsbD n = true ∧
      t.clocks.pd.getLsbD (10 + n) = false ∧ t.clocks.gates.getLsbD (1 + n) = false
    s.units.logical.length = 9 →
      (n ≤ 8 → logicalOf s n = testMark →
        (pass = true → first → outCluster s = none → Gives (.failedClusterTest u pass) s fun t => Only [.units] s t ∧
          logicalOf t n = spareMark ∧ t.units.spareState = 0) ∧
        (pass = false ∨ ¬ first → Gives (.failedClusterTest u pass) s fun t =>
          Only [.free, .outbox, .warden, .clocks, .tb, .journal, .pair, .units] s t ∧ retires t n)) ∧
      (logicalOf s n ≠ testMark → exec (.failedClusterTest u pass) s = answer s) ∧
      (unitAt s spareMark = some j →
        (outCluster s = none → Gives (.spareTest true) s fun t => Only [.units] s t ∧ t.units.spareState = 0 ∧ logicalOf t j = spareMark) ∧
        (within24h s (s.time.toNat :: s.units.spareFails.take 3) < 2 → Gives (.spareTest false) s fun t => Only [.units] s t ∧
          t.units.spareState = 2 ∧ t.units.logical = s.units.logical) ∧
        (2 ≤ within24h s (s.time.toNat :: s.units.spareFails.take 3) → Gives (.spareTest false) s fun t => retires t j)) ∧
      (unitAt s spareMark = none → exec (.spareTest pass) s = answer s)

/-- An uncorrectable read counts against its channel; where the retry fails too, the page is poisoned, its cached keys
are dropped and the commands that held it end with INTEGRITY_FAULT; the seventeenth within an hour retires the
channel, and the commands that held it end with CHANNEL_RETIRED (R483 to R485). A page of a lost copy, or a new second
copy, is noted where it comes to lie (R484, R485). -/
def Claims.MemoryErrorsAct : Prop :=
  ∀ (s : State) (a : BitVec 31) (ok copy : Bool) (cached : List Nat) (table : BitVec 2) (e : Nat) (c : Cmd),
    let ch := channelOf s a.toNat
    let page := a.toNat / 4096
    let recent := (s.time.toNat :: tget [] s.units.channelErrors ch).filter (fun t => decide (s.time.toNat - t < 3600000000000))
    let i := 2 * table.toNat + (if copy then 1 else 0)
    let held (bad : Nat → Prop) := s.cmd e = some c ∧ c.stage = .ready ∧ c.journalled = false ∧
      (bad (stagingAddr e) ∨ bad (scratchAddr e)) ∧ (s.so.cmds.map (·.1)).Nodup
    (s.warden.retChannels.getLsbD ch = true → exec (.memoryError a ok cached none) s = answer s) ∧
    (s.warden.retChannels.getLsbD ch = false → recent.length ≤ 16 →
      (Gives (.memoryError a true cached none) s fun t =>
        Only [.free, .outbox, .alarms, .msix, .tb, .journal, .pair, .units] s t ∧ t.alarms.lastCause = 0x0306 ∧
        tget [] t.units.channelErrors ch = recent ∧ t.units.poisoned = s.units.poisoned) ∧
      (Gives (.memoryError a false cached none) s fun t => page ∈ t.units.poisoned ∧ t.warden = s.warden ∧
        (∀ x ∈ t.keys.cache, x ∈ s.keys.cache) ∧
        (held (fun y => y / 4096 = page) → ∃ c', t.cmd e = some c' ∧ c'.status = integrityFault ∧ c'.output = [] ∧ c'.effects = []))) ∧
    (s.warden.retChannels.getLsbD ch = false → 16 < recent.length → (∀ y, y < 8 → (s.boot.channels.getD y 0).toNat ≠ ch) →
      Gives (.memoryError a ok cached none) s fun t => t.warden.retChannels.getLsbD ch = true ∧
        (held (fun y => channelOf s y = ch) → ∃ c', t.cmd e = some c' ∧ c'.status = channelRetired ∧ c'.output = [] ∧ c'.effects = [])) ∧
    (tget 0 s.units.reserve i < 16 → Gives (.newSecondCopy table copy true) s fun t => Only [.units] s t ∧
      tget 0 t.units.reserve i = tget 0 s.units.reserve i + 1 ∧ t.units.lostCopies = s.units.lostCopies) ∧
    (∀ x, s.units.lostCopies.contains i = true → s.boot.channels.length = 8 →
      ((List.range 4).map (fun y => 4 * ((s.boot.channels.getD i 0).toNat / 4) + y)).find? (fun y => !s.warden.retChannels.getLsbD y) = some x →
      Gives (.newSecondCopy table copy false) s fun t => Only [.boot, .units] s t ∧ (t.boot.channels.getD i 0).toNat = x ∧
        t.units.lostCopies.contains i = false ∧ tget 0 t.units.reserve i = 0)

/-! ### Journal and timebase (chapter 14) -/

/-- Checkpoints, streaming and HEAD: the oldest unsigned checkpoint is signed by the Franking key; STREAM_EN starts at
START_SEQ, or at the oldest entry with START_LOST; entry TAIL goes to its slot of the host buffer and TAIL moves on;
HEAD moves only forward and up to TAIL (R467, R470, R471). -/
def Claims.JournalStreams : Prop :=
  ∀ (s : State) (b : Bool) (v : BitVec 64) (e : JEntry) (n : Nat),
    let j := s.journal
    let i := j.ring.findIdx? (fun e => e.seg == j.seg && e.isCheckpoint && e.sig.isEmpty)
    (s.keys.frankPriv.isSome = true → i = some n → (s.entropy.failed = true ∨ canServe s 7 = true) →
      Gives .checkpointSign s fun t => Only [.free, .entropy, .journal] s t ∧
      t.journal.ring.length = j.ring.length ∧ t.journal.chain = j.chain ∧ t.journal.next = j.next ∧
      ∃ sig, sig.length = 96 ∧ t.journal.ring = j.ring.set n { j.ring.getD n {} with sig := sig, frankId := frankId s }) ∧
    (s.keys.frankPriv = none ∨ i = none ∨ (s.entropy.failed = false ∧ canServe s 7 = false) →
      exec .checkpointSign s = answer s) ∧
    exec (.streamEn b false) s = answer { s with journal := { j with port := b, streamEn := false } } ∧
    (j.streamEn = false → j.ring.find? (fun e => e.seg == j.seg) = some e →
      (e.jseq.toNat ≤ j.startSeq.toNat →
        exec (.streamEn b true) s = answer { s with journal := { j with port := b, streamEn := true, tail := j.startSeq } }) ∧
      (j.startSeq.toNat < e.jseq.toNat →
        exec (.streamEn b true) s = answer { s with journal := { j with port := b, streamEn := true, tail := e.jseq, startLost := true } })) ∧
    (j.streamEn = true → streamable s j.tail.toNat = some e → j.tail ≠ BitVec.allOnes 64 →
      streamable s (j.tail.toNat + 1) = none →
      Gives .journalStream s fun t => Only [.outbox, .msix, .journal] s t ∧ t.journal = { j with tail := j.tail + 1 } ∧
        Emit.hostWrite j.port (j.streamBase + BitVec.ofNat 64 (256 * (j.tail.toNat % 2 ^ j.streamLog2.toNat))) e.octets ∈ t.outbox) ∧
    (j.streamEn = false ∨ streamable s j.tail.toNat = none → exec .journalStream s = answer s) ∧
    (v.toNat < j.head.toNat ∨ j.tail.toNat < v.toNat → exec (.journalHead b v) s = answer { s with journal := { j with port := b } }) ∧
    (j.head.toNat ≤ v.toNat → v.toNat ≤ j.tail.toNat → j.waiting = [] → j.unrecorded = 0 → s.pair.mirroring = false →
      (∀ x ∈ s.so.cmds, x.2.stage ≠ .commitWait) →
      exec (.journalHead b v) s = answer { s with journal := { j with port := b, head := v } })

/-- A PTM exchange in SERVICE or MAINTENANCE with PTM_EN: within 1 µs it only aligns; a host ahead by more steps
OFFSET where STEP_OK is set; else up to 1 s it slews; a larger difference is refused with a notice and changes nothing
else; a failed exchange sets PTM_FAIL (R458). A module that has adopted its partner's TIME ignores PTM_EN (R459). The
slew ends when nothing is left of it. -/
def Claims.TimeIsAligned : Prop :=
  ∀ (s : State) (h : BitVec 64),
    let t0 := s.tb
    let d : Int := (h - s.time).toInt
    let on := t0.ptmEn = true ∧ t0.adopted = false ∧ (s.boot.mode = .service ∨ s.boot.mode = .maintenance)
    let i := Instr.ptmExchange (some h)
    let journals (t : State) := Only [.free, .outbox, .tb, .journal, .pair] s t ∧ t.tb.lastPtm = h ∧ t.tb.timeLocal = t0.timeLocal
    (¬ on → exec i s = answer s ∧ exec (.ptmExchange none) s = answer s) ∧
    (on →
      exec (.ptmExchange none) s = answer { s with tb := { t0 with ptmFail := true } } ∧
      (d.natAbs ≤ 1000 → exec i s = answer { s with tb := { t0 with lastPtm := h, aligned := true } }) ∧
      (1000 < d → t0.stepOk = true → Gives i s fun t => journals t ∧ t.time = h ∧ t.tb.slewing = false ∧ t.tb.slewLeft = 0) ∧
      (1000 < d.natAbs → d.natAbs ≤ 1000000000 → d ≤ 1000 ∨ t0.stepOk = false → Gives i s fun t => journals t ∧
        t.time = s.time ∧ t.tb.slewing = true ∧ t.tb.slewLeft.toInt = d ∧ t.tb.refused = t0.refused) ∧
      (1000000000 < d.natAbs → d < 0 ∨ t0.stepOk = false → Gives i s fun t =>
        Only [.free, .outbox, .alarms, .msix, .tb, .journal, .pair] s t ∧ t.time = s.time ∧ t.tb.refused = true ∧
        t.tb.slewing = t0.slewing ∧ t.tb.slewLeft = t0.slewLeft ∧ t.alarms.lastCause = 0x0407 ∧ t.alarms.evN = true)) ∧
    (t0.slewing = true → t0.slewLeft = 0 → exec .slewEnd s = answer { s with tb := { t0 with slewing := false } }) ∧
    (t0.slewing = false ∨ t0.slewLeft ≠ 0 → exec .slewEnd s = answer s)

/-! ### The Crown and its interlock (chapter 15) -/

/-- PEER_CROWN_IN rises: ignored with PD8 disabled; a take that has just begun, and a Crown that is held, are dropped
with completions held; a module that already holds completions enters STANDBY, and every held or tenant command gets
NOT_ACTIVE; a standby in its take window is detached (R503 to R506, R518). -/
def Claims.InterlockRises : Prop :=
  ∀ (s : State) (k : TakeKind),
    let p := s.pair
    let i := Instr.peerCrownInRise
    let on := s.boot.pdEn.getLsbD 8 = true ∧ s.pwrGood = true
    let pairIs (q : Pair) := exec i s = answer { s with pair := q }
    (¬ on → exec i s = answer s) ∧
    (on → p.taking = some k → pairIs
      { p with peerIn := true, crownOut := false, taking := none, holding := true, backedOff := some k }) ∧
    (on → p.taking = none →
      (s.boot.mode = .maintenance → pairIs { p with peerIn := true, crownOut := false, expiry := none }) ∧
      (s.boot.mode = .service → p.holding = false → p.crownOut = true → pairIs
        { p with peerIn := true, crownOut := false, holding := true, backedOff := some .again }) ∧
      (s.boot.mode = .service → p.holding = true → p.swap = none → Gives i s fun t => CrownLost t ∧ t.pair.role = .lone ∧
        t.pair.joined = false ∧ t.warden = s.warden ∧ t.slots.table.length = s.slots.table.length ∧
        ∀ e c, s.cmd e = some c → c.slot < 512 ∨ c.stage = .done ∨ c.stage = .commitWait →
          ∃ c', t.cmd e = some c' ∧ c'.status = notActive ∧ c'.output = [] ∧ c'.effects = [] ∧ c'.stage = .done) ∧
      (s.boot.mode = .standby → p.window = true → pairIs
        { p with peerIn := true, role := .detached, window := false, interlockHeld := true, expiry := none, joined := false, unsent := [] }))

/-- The second sample of an interlocked take: high drops CROWN_OUT and keeps the take due; low completes the take:
alone with a new pair epoch, after a lease expiry with TIME past the partner's and the key cache rebuilding, in a
ROLE_SWAP with the partner joined, by force with a new epoch and no counters, or as a reclaim that runs alone (R290,
R291, R460, R494, R504, R505, R512, R513, R515). -/
def Claims.TakesComplete : Prop :=
  ∀ (s : State) (k : TakeKind),
    let p := s.pair
    let i := Instr.crownRecheck false
    (p.taking = none → exec i s = answer s ∧ exec (.crownRecheck true) s = answer s) ∧
    (p.taking = some k → exec (.crownRecheck true) s = answer { s with pair :=
      { p with peerIn := true, crownOut := false, taking := none, holding := true, backedOff := some k } }) ∧
    (s.boot.exitBy = none →
      (p.taking = some .alone → s.boot.mode = .staged → Gives i s fun t => CrownHeld s t ∧ t.boot.mode = .service ∧
        t.boot.step = 13 ∧ t.pair.role = .lone ∧ t.keys.pairEpoch.isSome = true ∧ t.keys.counters = [] ∧ t.keys.aliases = []) ∧
      (p.taking = some .lease → s.boot.mode = .standby → Gives i s fun t => CrownHeld s t ∧ t.boot.mode = .service ∧
        t.pair.role = .lone ∧ t.pair.joined = false ∧ t.keys.pairEpoch = s.keys.pairEpoch ∧ t.keys.counters = s.keys.counters ∧
        t.tb.adopted = false ∧ t.tb.aligned = false ∧ t.tb.slewLeft = 0 ∧ t.arrays.causes.getLsbD 2 = true ∧
        (s.tb.tm.toNat + 1 < 2 ^ 64 → t.time.toNat = max s.time.toNat (s.tb.tm.toNat + 1))) ∧
      (p.taking = some .swap → s.boot.mode = .standby → Live s → Gives i s fun t => CrownHeld s t ∧ t.boot.mode = .service ∧
        t.pair.role = .active ∧ t.pair.joined = true ∧ t.pair.mirroring = true ∧
        (∃ n, t.outbox.head? = some (.mirror false 0x71 (le 8 n)))) ∧
      (p.taking = some .force → s.boot.mode = .standby → Gives i s fun t => CrownHeld s t ∧ t.boot.mode = .service ∧
        t.pair.role = .lone ∧ t.keys.pairEpoch.isSome = true ∧ t.keys.counters = [] ∧ t.keys.aliases = [] ∧
        t.arrays.causes.getLsbD 2 = true)) ∧
    (p.taking = some .reclaim → p.swap = none → s.boot.mode = .service → Gives i s fun t => CrownHeld s t ∧
      t.boot.mode = .service ∧ t.pair.role = .lone ∧ t.pair.joined = false ∧ t.pair.mirroring = false ∧
      t.keys.pairEpoch = s.keys.pairEpoch) ∧
    (p.taking = some .again → s.boot.mode = .service → Gives i s fun t => CrownHeld s t ∧ t.boot = s.boot ∧ t.keys = s.keys)

/-- A take that backed off is made again with PEER_CROWN_IN low; with it high an active module has lost the Crown, a
standby is detached, and a module that was deciding waits (R503 to R505). -/
def Claims.TakesAreRetried : Prop :=
  ∀ (s : State) (k : TakeKind),
    let p := s.pair
    (p.backedOff = none → ∀ b, exec (.retake b) s = answer s) ∧
    (p.backedOff = some k →
      exec (.retake false) s = answer { s with pair := { p with peerIn := false, crownOut := true, taking := some k, backedOff := none } } ∧
      (s.boot.mode = .service → p.swap = none → Gives (.retake true) s fun t => CrownLost t ∧ t.pair.role = .lone) ∧
      (s.boot.mode = .standby → exec (.retake true) s = answer { s with pair :=
        { p with peerIn := true, backedOff := none, holding := false, role := .detached, window := false, interlockHeld := true,
                 expiry := none, joined := false, unsent := [] } }) ∧
      (s.boot.mode = .staged → exec (.retake true) s = answer { s with
        pair := { p with peerIn := true, backedOff := none, holding := false }, boot := { s.boot with pairWait := true } }))

/-- The lease timer: at E_a − G completions are held, at E_a CROWN_OUT drops, at E_a + W the Crown is reclaimed unless
the partner has it; a synchronised standby may take from E_s + G on, with PEER_CROWN_IN low, and is detached when it
misses its window (R501 to R504, R518). -/
def Claims.LeaseTimersAct : Prop :=
  ∀ (s : State) (x : BitVec 64) (b : Bool),
    let p := s.pair
    let now := s.tb.timeLocal.toNat
    let G := 10000 + p.leaseL / 5
    let pairIs (i : Instr) (q : Pair) := exec i s = answer { s with pair := q }
    let reclaims := s.boot.mode = .service ∧ p.holding = true ∧ p.crownOut = false ∧ p.backedOff = none ∧ x.toNat + (2 * G + 60000) ≤ now
    let takes := s.boot.mode = .standby ∧ p.role = .standby ∧ p.taking = none ∧ p.backedOff = none ∧ x.toNat + G ≤ now
    (p.expiry = some x → p.taking = none → p.crownOut = true →
      (s.boot.mode = .service → x.toNat ≤ now + G → pairIs .leaseGuard { p with holding := true }) ∧
      (s.boot.mode = .service → x.toNat ≤ now → pairIs .leaseExpiry { p with crownOut := false, holding := true }) ∧
      (now < x.toNat → exec .leaseExpiry s = answer s) ∧ (now + G < x.toNat → exec .leaseGuard s = answer s)) ∧
    (p.expiry = some x → s.boot.pdEn.getLsbD 8 = true →
      (reclaims → pairIs (.reclaim false) { p with peerIn := false, crownOut := true, taking := some .reclaim }) ∧
      (reclaims → p.swap = none → Gives (.reclaim true) s fun t => CrownLost t ∧ t.pair.role = .lone) ∧
      (¬ reclaims → exec (.reclaim b) s = answer s) ∧
      (takes → pairIs (.takeWindow false) { p with peerIn := false, window := true, crownOut := true, taking := some .lease } ∧
        pairIs (.takeWindow true) { p with peerIn := true, window := true }) ∧
      (¬ takes → exec (.takeWindow b) s = answer s)) ∧
    (p.window = true → p.taking = none → p.backedOff = none → pairIs .takeWindowMiss
      { p with role := .detached, window := false, interlockHeld := true, expiry := none, joined := false, unsent := [] }) ∧
    (p.window = false → exec .takeWindowMiss s = answer s)

/-- Renewals: a lone holder renews its own timer; a paired one sends its TIME, L and the next number; the standby
accepts one of at most 50 µs of age before its window opens, runs its lease from the receipt, and answers; the
acknowledgement runs the lease from the send and releases what was held (R492, R501 to R504, R511). -/
def Claims.LeasesRenew : Prop :=
  ∀ (s : State) (h : MsgHead) (sent x at_ : BitVec 64) (l n : BitVec 32) (L : Nat),
    let p := s.pair
    let us := p.leaseUs.toNat
    let holds := p.crownOut = true ∧ p.taking = none ∧ (s.boot.mode = .service ∨ s.boot.mode = .maintenance)
    let late (us : Nat) := some (s.tb.timeLocal + BitVec.ofNat 64 (1000 * us))
    let follower := p.role = .standby ∨ p.role = .joining
    (holds → p.joined = false → p.expiry = some x →
      (s.tb.timeLocal.toNat < x.toNat → exec .leaseRenewTimer s =
        answer { s with pair := { p with leaseL := us, holding := false, expiry := late us } }) ∧
      (x.toNat ≤ s.tb.timeLocal.toNat → exec .leaseRenewTimer s = answer s)) ∧
    (holds → p.joined = true → Live s → Gives .leaseRenewTimer s fun t => Only [.pair, .outbox] s t ∧
      SentOnce s t 0x10 (le 8 s.time.toNat ++ le 4 us ++ le 4 (p.renewal + 1).toNat) ∧ t.pair.renewal = p.renewal + 1 ∧
      t.pair.renewals = p.renewals ++ [(p.renewal + 1, s.tb.timeLocal, us)]) ∧
    (¬ holds → exec .leaseRenewTimer s = answer s) ∧
    (Accepted s false h →
      (follower → p.window = false → (s.time - sent).toInt ≤ 50000 → Gives (.leaseRenew h sent l n) s fun t =>
        Only [.pair, .outbox] s t ∧ SentOnce s t 0x11 (le 4 n.toNat) ∧ t.pair.expiry = late l.toNat ∧ t.pair.leaseL = l.toNat ∧
        t.pair.role = p.role) ∧
      (¬ follower ∨ p.window = true ∨ 50000 < (s.time - sent).toInt →
        exec (.leaseRenew h sent l n) s = answer (counted s false)) ∧
      (p.renewals.find? (fun x => x.1 == n) = some (n, at_, L) → p.expiry = some x → p.crownOut = true → p.taking = none →
        s.tb.timeLocal.toNat < x.toNat →
        Gives (.leaseAck h n) s fun t => Only [.pair] s t ∧ t.pair.expiry = some (at_ + BitVec.ofNat 64 (1000 * L)) ∧
          t.pair.leaseL = L ∧ t.pair.crownOut = true ∧
          (s.tb.timeLocal.toNat + (10000 + L / 5) < (at_ + BitVec.ofNat 64 (1000 * L)).toNat → t.pair.holding = false)) ∧
      (p.renewals.find? (fun x => x.1 == n) = none ∨ p.crownOut = false → exec (.leaseAck h n) s = answer (counted s false))) ∧
    (¬ Accepted s false h → exec (.leaseRenew h sent l n) s = answer s ∧ exec (.leaseAck h n) s = answer s)

/-- The pair decision: a partner in SERVICE is joined, or refused with DOMAIN_REFUSED where officers or roots differ; a
synchronised standby takes the Crown and keeps its epoch; otherwise the lower serial takes it; without a link after 80 ms
the Crown is taken alone where PEER_CROWN_IN is low, else the decision waits for its retry (R53, R494 to R497). -/
def Claims.PairsDecide : Prop :=
  ∀ (s : State) (h : HelloMsg) (x : Session) (b : Bool),
    let p := s.pair
    let up := s.boot.pdEn.getLsbD 8 = true ∧ p.linkUp = true ∧ p.session = some x ∧ x.confirmed = true ∧ x.peer = h
    let pairIs (i : Instr) (q : Pair) := exec i s = answer { s with pair := q }
    let waits (i : Instr) (peer : Bool) := exec i s =
      answer { s with pair := { p with peerIn := peer }, boot := { s.boot with pairWait := true } }
    let ready := (s.boot.mode = .staged → canServe s 6 = true) ∧ (s.keys.pairEpoch = none → canServe s 6 = true)
    let overdue := p.joined = true ∧ p.drillOverdue = false ∧ 86400000000000 < s.time.toNat - p.drillFrom.toNat
    (decides s = true → up →
      (h.mode = 3 → officersAgree s h = true → rootsCover h.checks (ownChecks s) = true → s.boot.exitBy = none →
        Gives (.pairDecision b) s fun t => t.boot.mode = .standby ∧ t.pair.role = .joining ∧ t.pair.joined = true ∧
          t.pair.crownOut = false ∧ t.pair.expiry = none ∧ t.time = h.time ∧ t.tb.adopted = true ∧ t.keys.pairEpoch = h.epoch ∧
          t.keys.counters = [] ∧ t.keys.aliases = [] ∧ t.slots.table = [] ∧ t.so.replays = [] ∧ t.warden = s.warden) ∧
      (h.mode = 3 → officersAgree s h = false ∨ rootsCover h.checks (ownChecks s) = false →
        pairIs (.pairDecision b) { p with peerIn := b, domainRefused := true }) ∧
      (h.mode ≠ 3 → p.role = .standby → pairIs (.pairDecision false)
        { p with peerIn := false, crownOut := true, taking := some .lease, backedOff := none }) ∧
      (h.mode ≠ 3 → p.role ≠ .standby → h.role ≠ 2 → s.warden.serial.toNat < h.serial.toNat → ready →
        pairIs (.pairDecision false) { p with peerIn := false, crownOut := true, taking := some .alone, backedOff := none }) ∧
      (h.mode ≠ 3 → p.role ≠ .standby → h.role = 2 ∨ h.serial.toNat ≤ s.warden.serial.toNat → waits (.pairDecision b) b) ∧
      (s.boot.pairWait = true → exec (.pairRetry b) s = exec (.pairDecision b) s)) ∧
    (decides s = true → s.boot.pdEn.getLsbD 8 = true → p.linkUp = false → s.boot.mode ≠ .standby →
      (ready → pairIs (.pairWaitExpiry false) { p with peerIn := false, crownOut := true, taking := some .alone, backedOff := none }) ∧
      waits (.pairWaitExpiry true) true ∧
      (s.boot.pairWait = true → ready → pairIs (.pairRetry false)
        { p with peerIn := false, crownOut := true, taking := some .alone, backedOff := none }) ∧
      (s.boot.pairWait = true → waits (.pairRetry true) true)) ∧
    (decides s = false → exec (.pairDecision b) s = answer s ∧ exec (.pairWaitExpiry b) s = answer s ∧ exec (.pairRetry b) s = answer s) ∧
    (overdue → Gives .drillOverdue s fun t => Only [.free, .outbox, .alarms, .msix, .tb, .pair] s t ∧
      t.pair = { p with drillOverdue := true } ∧ t.alarms.lastCause = 0x0408 ∧ t.alarms.evN = true) ∧
    (¬ overdue → exec .drillOverdue s = answer s)

/-! ### The mirror link (chapter 15) -/

/-- The link layer: idle frames; a replay counts, and the third of one frame takes the link down; a link comes up with its
domain on and a lane left, and keeps the partner only as unconfirmed; a lane is retired by its seventeenth codeword within
1 s or its third loss of lock within 24 h, and the link goes down with the last lane (R489 to R491). -/
def Claims.MirrorLinkRuns : Prop :=
  ∀ (s : State) (seq : Nat) (lane : BitVec 2) (lock : Bool),
    let p := s.pair
    let n := tget 0 p.frames seq + 1
    let i := lane.toNat
    let l := s.time.toNat :: (tget [] (if lock then p.laneLosses else p.laneErrors) i).filter
      (fun t => decide (s.time.toNat - t < (if lock then 86400000000000 else 1000000000)))
    let worn := (lock = true ∧ 3 ≤ l.length) ∨ (lock = false ∧ 17 ≤ l.length)
    (p.linkUp = true → Sends .idleFrame s (.frame 0 true) ∧
      (n < 3 → exec (.frameReplay seq) s = answer (emit { s with pair := { p with
        replays := p.replays.inc, frames := tset 0 p.frames seq n } } (.frame seq false))) ∧
      (3 ≤ n → exec (.frameReplay seq) s = answer (emit { s with pair := { p with
        replays := p.replays.inc, frames := [], linkUp := false } } (.frame seq false)))) ∧
    (p.linkUp = false → exec .idleFrame s = answer s ∧ exec (.frameReplay seq) s = answer s) ∧
    exec .mirrorLinkDown s = answer { s with pair := { p with linkUp := false, frames := [] } } ∧
    (p.linkUp = false → s.boot.pdEn.getLsbD 8 = true → s.clocks.pd.getLsbD 8 = true → p.lanesOut ≠ 15 →
      Gives .mirrorLinkUp s fun t => Only [.free, .outbox, .entropy, .pair] s t ∧ t.pair.linkUp = true ∧ t.pair.frames = [] ∧
        (∀ x, t.pair.session = some x → x.confirmed = false) ∧ t.pair.role = p.role ∧ t.pair.crownOut = p.crownOut ∧
        (canServe s 6 = true → canServe s 7 = true → s.boot.mirrorMax ≠ 0 → t.pair.helloNonce.length = 32 ∧
          ∃ o, t.outbox = .mirror false 0x01 o :: s.outbox ∧ o.take 8 = le 8 s.warden.serial.toNat)) ∧
    (p.linkUp = true ∨ s.clocks.pd.getLsbD 8 = false ∨ p.lanesOut = 15 → exec .mirrorLinkUp s = answer s) ∧
    (p.lanesOut.getLsbD i = false → s.boot.pdEn.getLsbD 8 = true →
      (¬ worn → Gives (.mirrorLaneError lane lock) s fun t => Only [.pair] s t ∧ t.pair.lanesOut = p.lanesOut ∧
        tget [] (if lock then t.pair.laneLosses else t.pair.laneErrors) i = l) ∧
      (worn → Gives (.mirrorLaneError lane lock) s fun t => Only [.free, .outbox, .tb, .journal, .pair] s t ∧
        (∀ y, y < 4 → t.pair.lanesOut.getLsbD y = (decide (y = i) || p.lanesOut.getLsbD y)) ∧
        (t.pair.lanesOut = 15 → t.pair.linkUp = false))) ∧
    (p.lanesOut.getLsbD i = true → exec (.mirrorLaneError lane lock) s = answer s)

/-- HELLO and KEY_CONFIRM: without a version on either side VER_REFUSED, without a common root DOMAIN_REFUSED; a good
HELLO that meets this module's own starts a session at the lower version, with fresh sequences and the derived key,
and sends KEY_CONFIRM; a failed KEY_CONFIRM ends the session (R491, R492, R495, R507). Confirmed, an active module
that a good joining partner meets begins mirroring and the copy (R496). -/
def Claims.SessionsStart : Prop :=
  ∀ (s : State) (h : HelloMsg) (x : Session) (q : Nat × Nat) (d z y : Nat),
    let p := s.pair
    let up := p.linkUp = true ∧ s.boot.pdEn.getLsbD 8 = true
    let versions := s.boot.mirrorMax ≠ 0 ∧ h.mirrorMax ≠ 0
    let ends (i : Instr) (ver dom : Bool) := exec i s = answer { s with pair := { p with
      session := none, mirrorVer := 0, helloPriv := [], verRefused := p.verRefused || ver, domainRefused := p.domainRefused || dom } }
    (up → ¬ versions → ends (.hello h) true false) ∧
    (up → versions → p.helloPriv ≠ [] →
      (h.certOk = false → ends (.hello h) false false) ∧
      (h.certOk = true → decodePoint p384 (fit 97 h.point) = .ok q → commonRoot s h = none → ends (.hello h) false true) ∧
      (h.certOk = true → decodePoint p384 (fit 97 h.point) = .ok q → commonRoot s h = some d →
        ecMul p384 (beNat p.helloPriv) q = some (z, y) →
        Gives (.hello h) s fun t => Only [.outbox, .pair] s t ∧
          t.pair.session = some { peer := h, key := sessionKey s h (be 48 z) d, confirmed := false } ∧
          t.pair.mirrorVer.toNat = min s.boot.mirrorMax.toNat h.mirrorMax.toNat ∧
          t.pair.mseqTx = 0 ∧ t.pair.mseqRx = 0 ∧ t.pair.relayTx = 0 ∧ t.pair.relayRx = 0 ∧
          t.outbox = .mirror false 0x02 (ascii "PRK-MIRROR-OK") :: s.outbox)) ∧
    (¬ up → exec (.hello h) s = answer s) ∧
    (p.session = some x → x.confirmed = false → p.linkUp = true →
      ends (.keyConfirm false) false true ∧
      (s.boot.mode = .service → p.crownOut = true → p.mirroring = false → x.peer.mode = 4 → x.peer.role = 3 →
        officersAgree s x.peer = true → rootsCover (ownChecks s) x.peer.checks = true →
        Gives (.keyConfirm true) s fun t => Only [.outbox, .pair] s t ∧ t.pair.session = some { x with confirmed := true } ∧
          t.pair.role = .active ∧ t.pair.joined = true ∧ t.pair.mirroring = true ∧ t.pair.copying = true) ∧
      (s.boot.mode = .staged → p.unsent = [] → (∀ c ∈ s.so.cmds, c.2.commitSeq = none) →
        exec (.keyConfirm true) s = answer { s with pair := { p with session := some { x with confirmed := true } } })) ∧
    (p.session = none → exec (.keyConfirm true) s = answer s)

/-- Mirroring to the standby: a COMMIT enters its replay record, its table writes and its journal entry and is
acknowledged by its MSEQ; JOURNAL brings entries and HEAD, CACHE_LIST the labels; TIME_SYNC is answered, and the
standby slews by the skew; a BULK chunk is applied and acknowledged, and after the last the standby is synchronised
(R303, R469, R493, R496 to R498). -/
def Claims.StandbysFollow : Prop :=
  ∀ (s : State) (h : MsgHead) (m : CommitMsg) (o : Octets) (head skew : BitVec 64) (labels : List (Nat × Octets)),
    let s1 := counted s false
    let entry := JEntry.ofOctets o
    let joins (t : State) := t.journal.ring = (s.journal.ring ++ [entry]) ∧ t.journal.next = entry.jseq + 1 ∧
      t.journal.seg = entry.seg ∧ t.journal.chain = entry.chain ∧ t.tb.tm.toNat = max s.tb.tm.toNat entry.pm.time.toNat
    Accepted s false h → s.pair.role = .standby ∨ s.pair.role = .joining → s.journal.ring.length < journalCap →
      (m.writes = [] → m.entry = o → Gives (.commitMsg h m) s fun t => Only [.so, .tb, .journal, .pair, .outbox] s t ∧ joins t ∧
        SentOnce s t 0x21 (le 8 h.mseq.toNat) ∧
        findReplay t m.slot m.ph m.cmdId = (addReplay s (recordOf m)).so.replays.find?
          (fun r => decide (r.slot = m.slot ∧ r.ph = m.ph ∧ r.cmdId = m.cmdId))) ∧
      (Gives (.journalMsg h [o] head) s fun t => Only [.tb, .journal, .pair] s t ∧ joins t ∧ t.journal.head = head) ∧
      (exec (.cacheList h labels) s = answer { s1 with keys := { s.keys with peerLabels := labels } }) ∧
      (Gives (.timeSync h skew) s fun t => Only [.tb, .pair, .outbox] s t ∧
        SentOnce s t 0x50 (le 8 s.time.toNat ++ le 8 s.time.toNat) ∧ t.time = s.time ∧ t.tb.slewLeft = skew ∧
        (t.tb.slewing = true ↔ skew ≠ 0)) ∧
      (s.pair.role = .joining →
        (Gives (.bulk h (.labels labels) false) s fun t => Only [.keys, .pair, .outbox] s t ∧
          t.keys.peerLabels = s.keys.peerLabels ++ labels ∧ SentOnce s t 0x61 (le 8 h.mseq.toNat) ∧ t.pair.role = .joining) ∧
        (Gives (.bulk h (.labels labels) true) s fun t => Only [.keys, .pair, .outbox, .msix] s t ∧
          t.keys.peerLabels = s.keys.peerLabels ++ labels ∧ t.pair.role = .standby))

/-- On the active module: COMMIT_ACK commits the command that waits for it and makes its completion due; a
STANDBY_EVENT is journalled with ORIGIN 1 and its own Postmark; the timer sends the cached labels; the last BULK_ACK
ends the copy (R303, R469, R497, R498). A message that is not accepted is discarded (R493). -/
def Claims.ActivesLead : Prop :=
  ∀ (s : State) (h : MsgHead) (seq e : Nat) (c : Cmd) (o : Octets) (last : Bool),
    let s1 := counted s false
    let j := JEntry.ofOctets o
    (Accepted s false h →
      (s.so.cmds.find? (fun x => x.2.stage == .commitWait && x.2.commitSeq == some seq) = some (e, c) → seq ≠ 0 →
        c.effects = [] → c.journalled = false → c.keepsReplay = false →
        Gives (.commitAck h seq) s fun t => Only [.free, .tb, .so, .pair] s t ∧ ∃ c', t.cmd e = some c' ∧ c'.stage = .done ∧
          c'.stamped = true ∧ c'.commitSeq = none ∧ c'.status = c.status ∧ c'.output = c.output ∧
          c'.completion.src = BitVec.ofNat 16 (srcPort c.fn.portB)) ∧
      (s.so.cmds.find? (fun x => x.2.stage == .commitWait && x.2.commitSeq == some seq) = none →
        exec (.commitAck h seq) s = answer s1) ∧
      (s.boot.mode = .service → s.pair.role = .active → s.pair.mirroring = false → s.journal.ring.length < journalCap →
        Gives (.standbyEvent h o) s fun t => Only [.tb, .journal, .pair] s t ∧ ∃ x, t.journal.ring = s.journal.ring ++ [x] ∧
          x.origin = 1 ∧ x.pm = j.pm ∧ x.type = j.type ∧ x.detail = j.detail ∧ x.jseq = s.journal.next) ∧
      (s.pair.copying = true → exec (.bulkAck h true) s = answer { s1 with pair := { s1.pair with copying := false } }) ∧
      (last = false ∨ s.pair.copying = false → exec (.bulkAck h last) s = answer s1)) ∧
    (s.boot.mode = .service → s.pair.joined = true → s.pair.role = .active → Live s →
      (∀ x ∈ s.keys.cache, x.key.source = 0) → s.keys.cache.length ≤ 240 → s.keys.cache ≠ [] →
      Gives .cacheListTimer s fun t => Only [.pair, .outbox] s t ∧
        SentOnce s t 0x40 (s.keys.cache.flatMap (fun c => le 2 c.slot ++ fit 64 c.body))) ∧
    (¬ Accepted s false h → ∀ m es hd ch sk lb pin tm, exec (.commitMsg h m) s = answer s ∧ exec (.commitAck h seq) s = answer s ∧
      exec (.journalMsg h es hd) s = answer s ∧ exec (.standbyEvent h o) s = answer s ∧ exec (.cacheList h lb) s = answer s ∧
      exec (.timeSync h sk) s = answer s ∧ exec (.bulk h ch last) s = answer s ∧ exec (.bulkAck h last) s = answer s ∧
      exec (.handover h tm pin) s = answer s ∧ exec (.handoverAck h) s = answer s ∧ exec (.detach false h) s = answer s ∧
      exec (.detachAck false h) s = answer s)

/-- Detachment: a standby that accepts DETACH answers and is detached; the active module that hears it, or its answer,
runs alone; 1 ms of link loss makes the active module send DETACH by relay, 10 ms make the standby detach itself
(R508, R510, R511). The last word of RELAY_IN makes a message of the relay act, and one whose tag fails is discarded
(R508, R509). -/
def Claims.PartnersDetach : Prop :=
  ∀ (s : State) (h : MsgHead) (v : BitVec 64) (x : Session) (pt : Octets),
    let p := s.pair
    let alone (t : State) := t.pair.role = .lone ∧ t.pair.joined = false ∧ t.pair.mirroring = false ∧ t.pair.copying = false ∧
      t.boot.mode = .service
    let detached (q : Pair) : Pair := { q with role := .detached, joined := false, expiry := none, window := false, unsent := [] }
    let words := p.relayIn.set 7 v
    let o := words.flatMap (fun w => le 8 w.toNat)
    let leading := s.boot.mode = .service ∧ p.joined = true ∧ p.role = .active ∧ p.swap = none
    (Accepted s false h → p.role = .standby ∨ p.role = .joining → Gives (.detach false h) s fun t =>
      Only [.pair, .outbox] s t ∧ SentOnce s t 0x73 [] ∧ t.pair.role = .detached ∧ t.pair.joined = false ∧ t.pair.expiry = none) ∧
    (Accepted s false h → leading → Gives (.detach false h) s alone) ∧
    (∀ r, Accepted s r h → leading → p.detaching = true → Gives (.detachAck r h) s alone) ∧
    (leading → p.linkUp = false → p.detaching = false → p.relayEn = true → p.session = some x → x.confirmed = true →
      Gives .detachTimeout s fun t => Only [.pair, .outbox, .msix] s t ∧ t.pair.detaching = true ∧
        t.pair.relayTx = p.relayTx + 1 ∧ t.pair.relayOutSeq = p.relayOutSeq + 1 ∧ t.pair.relayOut.length = 64 ∧
        t.pair.relayOut.take 2 = [0x72, p.mirrorVer] ∧ slice t.pair.relayOut 8 8 = le 8 (p.relayTx + 1)) ∧
    (p.linkUp = true ∨ p.role ≠ .active → exec .detachTimeout s = answer s) ∧
    (p.role = .standby ∨ p.role = .joining → p.linkUp = false → exec .selfDetach s = answer { s with pair := detached p }) ∧
    (p.linkUp = true → exec .selfDetach s = answer s) ∧
    (p.session = some x → x.confirmed = true →
      (relayOpen s x o = none → exec (.relayIn v) s = answer { s with pair := { p with relayIn := words } }) ∧
      (relayOpen { s with pair := { p with relayIn := words } } x o = some (0x72, pt) → u64 o 8 = p.relayRx + 1 →
        p.role = .standby → p.linkUp = false → Gives (.relayIn v) s fun t => t.pair.role = .detached ∧ t.pair.joined = false ∧
          t.pair.relayRx = p.relayRx + 1 ∧ t.pair.relayMsgs = p.relayMsgs.inc))

/-- ROLE_SWAP after its dispatch: a drain that has ended drops the Crown and sends HANDOVER with the journal's
position; one that has not within DRAIN_MS completes with BUSY_RETRY and the roles stay; HANDOVER makes the
synchronised standby take the Crown, and its answer makes the old active module a synchronised standby with an empty
key cache and completes the service (R460, R515). -/
def Claims.RolesSwap : Prop :=
  ∀ (s : State) (h : MsgHead) (w : Swap) (c : Cmd) (tm : BitVec 64),
    let p := s.pair
    let s1 := counted s false
    (p.swap = none → ∀ b, exec (.roleSwapDrainEnd b) s = answer s) ∧
    (p.swap = some w → w.handed = false →
      (drained s w = true → Live s → Gives (.roleSwapDrainEnd true) s fun t => Only [.pair, .outbox] s t ∧
        t.pair.crownOut = false ∧ t.pair.holding = true ∧ t.pair.swap = some { w with handed := true } ∧
        SentOnce s t 0x70 (le 8 s.tb.tm.toNat ++ le 8 p.mseqTx ++ le 4 s.journal.seg.toNat ++ le 8 s.journal.next.toNat ++
          fit 48 s.journal.chain)) ∧
      (drained s w = false → exec (.roleSwapDrainEnd true) s = answer s) ∧
      (Held s w.cmd c → Gives (.roleSwapDrainEnd false) s fun t => Ended t w.cmd busyRetry [] ∧ t.pair.swap = none ∧
        t.pair.crownOut = p.crownOut ∧ t.pair.role = p.role ∧ t.boot = s.boot)) ∧
    (Accepted s false h →
      (p.role = .standby → s.boot.mode = .standby → p.taking = none → Gives (.handover h tm false) s fun t =>
        Only [.pair, .tb] s t ∧ t.pair.crownOut = true ∧ t.pair.taking = some .swap ∧ t.pair.role = .standby ∧
        t.tb.tm.toNat = max s.tb.tm.toNat tm.toNat) ∧
      (p.role = .standby → s.boot.mode = .standby → Gives (.handover h tm true) s fun t => t.pair.taking = p.taking ∧
        t.pair.crownOut = p.crownOut) ∧
      (p.role ≠ .standby ∨ s.boot.mode ≠ .standby → exec (.handover h tm false) s = answer s1) ∧
      (p.swap = some w → w.handed = true → Held s w.cmd c → s.boot.mode = .service → Gives (.handoverAck h) s fun t =>
        CrownLost t ∧ t.pair.role = .standby ∧ t.pair.swap = none ∧ Ended t w.cmd stOk []) ∧
      (p.swap = none → exec (.handoverAck h) s = answer s1))

/-! ### PIN and card services (chapter 05) -/

/-- PIN_TRANSLATE: the PIN of the incoming block, deciphered under the incoming key, goes into a block of the outgoing
format under the outgoing key, with drawn fill; no PIN there is PIN_FORMAT_ERROR (R152 to R156, R159). -/
def Claims.PinsAreTranslated : Prop :=
  ∀ (s : State) (k : CoreId) (e : Nat) (c : Cmd) (ri ro : KeyRef) (ki ko wi wo : KeyVal) (rest : Octets) (s' : State) (c' : Cmd),
    let i := c.input
    let fi := u8 i 0
    let fo := u8 i 1
    let pan := panDigits (u8 i 2) (slice i 8 10)
    let panOut := if u8 i 3 = 0 then pan else panDigits (u8 i 3) (slice i 18 10)
    let d := drawn s' c' (fillLen fo)
    let found := pinOf fi (polPinMin s c.slot) (polPinMax s c.slot) (pinDec fi wi.alg wi.bytes pan (slice i 32 (fmtLen fi)))
    Asks s k.toNat 0x0101 e c → i.length = 64 + refsLen 2 (i.drop 64) →
    fmtOk c.d.version.toNat fi = true → fmtOk c.d.version.toNat fo = true →
    zeroAt i 4 4 = true → zeroAt i 28 4 = true → zeroAt i 48 16 = true →
    translatePans fi fo (u8 i 2) (u8 i 3) = true → panOk (u8 i 2) (slice i 8 10) true = true →
    panOk (u8 i 3) (slice i 18 10) true = true → blockFieldOk fi (slice i 32 16) = true →
    Keyed s e c false 64 [ri, ro] [ki, ko] rest s' c' → isDukptKind ro.kind = false →
    PinKeyIs c ri ki fi true wi → PinKeyIs c ro ko fo false wo →
    (fi ≠ 1 ∧ fo = 1 → polPinToFmt1 s c.slot = true) → (fi = 4 ∧ fo ≠ 4 → polPinAesToTdea s c.slot = true) →
    (u8 i 2 ≠ 0 ∧ u8 i 3 ≠ 0 ∧ pan ≠ panOut → polPinPanChange s c.slot = true) →
    Fits s c (fmtLen fo) → (fo ≠ 0 → MayDraw s c) →
    Judges (.pinTranslate k) s d.2 e c' (found.isSome = true) true
      (pinEnc fo wo.alg wo.bytes panOut (pinField fo (found.getD []) d.1)) pinFormatError

/-- PIN_VERIFY compares the PIN's reference digits with those given, PIN_REF_GENERATE answers them, and PIN_CHANGE
answers those of the new PIN once the old one agrees; a block without a PIN is PIN_FORMAT_ERROR, and a PIN too short
for the reference is POLICY_DENIED where one is made (R153, R160 to R164, R167). -/
def Claims.PinsAreVerified : Prop :=
  ∀ (s : State) (k : CoreId) (e : Nat) (c : Cmd) (w v : KeyVal) (t : List Nat) (s' : State) (c' : Cmd),
    let i := c.input
    let digits := refDigits v.bytes i t
    (Asks s k.toNat 0x0102 e c → VerifyReady s e c 64 false "VC" w v t s' c' → Fits s c 0 →
      (pinAt s c w 48 = none → Fails (.pinVerify k) s s' e c' pinFormatError) ∧
      (∀ pin, pinAt s c w 48 = some pin →
        Judges (.pinVerify k) s s' e c' (digits pin = some (givenRef i)) true [] verifyFailed)) ∧
    (Asks s k.toNat 0x0203 e c → VerifyReady s e c 64 true "GC" w v t s' c' → Fits s c 8 →
      (pinAt s c w 48 = none → Fails (.pinRefGenerate k) s s' e c' pinFormatError) ∧
      (∀ pin, pinAt s c w 48 = some pin →
        Judges (.pinRefGenerate k) s s' e c' ((digits pin).isSome = true) true (packF 8 ((digits pin).getD [])) policyDenied)) ∧
    (Asks s k.toNat 0x0104 e c → VerifyReady s e c 96 false "C" w v t s' c' → blockFieldOk (u8 i 0) (slice i 64 16) = true →
      zeroAt i 80 16 = true → Fits s c 8 →
      (pinAt s c w 48 = none ∨ pinAt s c w 64 = none → Fails (.pinChange k) s s' e c' pinFormatError) ∧
      (∀ old new, pinAt s c w 48 = some old → pinAt s c w 64 = some new →
        (digits old ≠ some (givenRef i) → Fails (.pinChange k) s s' e c' verifyFailed) ∧
        (digits old = some (givenRef i) →
          Judges (.pinChange k) s s' e c' ((digits new).isSome = true) true (packF 8 ((digits new).getD [])) policyDenied)))

/-- PIN_GENERATE: a PIN of PIN_LEN digits, drawn or, under method 2, the natural PIN, in a block of the format, and the
reference of the method (R165, R166). -/
def Claims.PinsAreGenerated : Prop :=
  ∀ (s : State) (k : CoreId) (e : Nat) (c : Cmd) (rs : List KeyRef) (ks : List KeyVal) (w : KeyVal) (t : List Nat) (rest : Octets)
    (s' : State) (c' : Cmd),
    let i := c.input
    let f := u8 i 0
    let m := u8 i 1
    let len := u8 i 3
    let pan := panDigits (u8 i 2) (slice i 8 10)
    let forPin := if m = 2 then 0 else 8 * len
    let d := drawn s' c' (forPin + fillLen f)
    let pvk := ((ks.drop 1).headD {}).bytes
    let pin := if m = 2 then (naturalDigits pvk (slice i 32 8) t).take len else drawnDigits len d.1
    let ref := if m = 1 then packF 8 (pvv pvk pan (u8 i 4) pin)
               else if m = 2 then packF 8 (List.replicate len 0) else List.replicate 8 0xFF
    Asks s k.toNat 0x0103 e c → ks.length = (if m = 0 then 1 else 2) →
    i.length = 64 + refsLen ks.length (i.drop 64) → fmtOk c.d.version.toNat f = true → m ≤ 2 →
    panOk (u8 i 2) (slice i 8 10) (f == 1 && m == 0) = true →
    (if m = 1 then u8 i 4 ≤ 9 else u8 i 4 = 0) → (if m = 2 then u8 i 5 ≤ 3 else u8 i 5 = 0) → zeroAt i 6 2 = true →
    zeroAt i 18 14 = true → (m ≠ 2 → zeroAt i 32 8 = true) → zeroAt i 40 24 = true →
    Keyed s e c false 64 rs ks rest s' c' → (∀ r ∈ rs, isDukptKind r.kind = false) →
    PinKeyIs c (rs.headD noRef) (ks.headD {}) f false w →
    (m ≠ 0 → Suits c ((ks.drop 1).headD {}) [if m = 1 then "V2" else "V1"] "GC" (· == 1)) →
    (if m = 2 then decTable s c.slot (u8 i 5) = some t else t = []) →
    polPinMin s c.slot ≤ len → len ≤ polPinMax s c.slot → Fits s c 24 → (forPin + fillLen f ≠ 0 → MayDraw s c) →
    Serves (.pinGenerate k) s d.2 e (chargeCounters c')
      (fit 16 (pinEnc f w.alg w.bytes pan (pinField f pin (d.1.drop forPin))) ++ ref)

/-- CVC_GENERATE answers a card's verification code of 3 or 4 digits, and CVC_VERIFY compares it (R168, R169). -/
def Claims.CardCodes : Prop :=
  ∀ (s : State) (k : CoreId) (e : Nat) (c : Cmd) (r : KeyRef) (key : KeyVal) (rest : Octets) (s' : State) (c' : Cmd),
    let i := c.input
    let n := u8 i 0
    let code := cvcOf key.bytes (panDigits (u8 i 1) (slice i 8 10)) (nibbles (slice i 4 2)) ((nibbles (slice i 6 2)).take 3) n
    let ready (modes : String) : Prop :=
      i.length = 32 + refsLen 1 (i.drop 32) ∧ (n = 3 ∨ n = 4) ∧ panOk (u8 i 1) (slice i 8 10) false = true ∧ zeroAt i 2 2 = true ∧
      (∀ x ∈ nibbles (slice i 4 2), x < 10) ∧ (∀ x ∈ (nibbles (slice i 6 2)).take 3, x < 10) ∧
      (nibbles (slice i 6 2)).getD 3 0 = 15 ∧ zeroAt i 20 12 = true ∧
      Keyed s e c false 32 [r] [key] rest s' c' ∧ isDukptKind r.kind = false ∧ Suits c key ["C0"] modes (· == 1)
    (Asks s k.toNat 0x0201 e c → ready "GC" → zeroAt i 18 2 = true → Fits s c 2 →
      Serves (.cvcGenerate k) s s' e (chargeCounters c') (packF 2 code)) ∧
    (Asks s k.toNat 0x0202 e c → ready "VC" → (∀ x ∈ (nibbles (slice i 18 2)).take n, x < 10) →
      (∀ x ∈ (nibbles (slice i 18 2)).drop n, x = 15) → Fits s c 0 →
      Judges (.cvcVerify k) s s' e c' (code = (nibbles (slice i 18 2)).take n) true [] verifyFailed)

/-! ### EMV and DUKPT services (chapter 06) -/

/-- EMV_ARQC_VERIFY checks the leftmost 8 octets of the cryptogram and may answer the ARPC; EMV_ARPC_GENERATE answers
it; EMV_SCRIPT_MAC and EMV_SCRIPT_ENCRYPT answer the MAC and the enciphered script under the session key (R181 to
R185). -/
def Claims.EmvServices : Prop :=
  ∀ (s : State) (k : CoreId) (e : Nat) (c : Cmd) (ref : KeyRef) (key : KeyVal) (data sk : Octets) (s' : State) (c' : Cmd),
    let i := c.input
    let tdea := u8 i 0 == 1
    let bl := if u8 i 0 = 1 then 8 else 16
    let arpc := emvArpc tdea sk i
    let plain := if data.length % bl = 0 then data else padTo bl ([BitVec.ofNat 8 data.length] ++ data ++ [0x80])
    (Asks s k.toNat 0x0301 e c → EmvReady s e c .arqcVerify [ref] [key] data sk s' c' →
      let out := if (u8 i 1).testBit 0 then arpc else []
      Fits s c out.length →
      Judges (.emvArqcVerify k) s s' e c' ((emvMac tdea sk data).take 8 = slice i 24 8) true out verifyFailed) ∧
    (Asks s k.toNat 0x0302 e c → EmvReady s e c .arpcGenerate [ref] [key] data sk s' c' → Fits s c arpc.length →
      Serves (.emvArpcGenerate k) s s' e (chargeCounters c') arpc) ∧
    (Asks s k.toNat 0x0303 e c → EmvReady s e c .scriptMac [ref] [key] data sk s' c' → Fits s c (u8 i 18) →
      Serves (.emvScriptMac k) s s' e (chargeCounters c') ((emvMac tdea sk data).take (u8 i 18))) ∧
    (Asks s k.toNat 0x0304 e c → EmvReady s e c .scriptEncrypt [ref] [key] data sk s' c' →
      (u32 i 40 % bl = 0 ∨ u32 i 40 ≤ 255) → Fits s c plain.length →
      Serves (.emvScriptEncrypt k) s s' e (chargeCounters c') (cbcEnc (if u8 i 0 = 1 then 1 else 3) sk (zeros bl) plain))

/-- EMV_SESSION_KEY answers the session key in a key block under the KBPK: version 'D' under an AES KBPK and 'B' under a
TDEA one (R179, R186, R288).  The block's exportability and version number are free values (log entry 19). -/
def Claims.EmvSessionKeys : Prop :=
  ∀ (s : State) (k : CoreId) (e : Nat) (c : Cmd) (ri rk : KeyRef) (key kb : KeyVal) (data sk : Octets) (s' : State) (c' : Cmd),
    let i := c.input
    let sv : KeyVal := { key with alg := if u8 i 0 = 1 then 1 else 3, len := 16, bytes := sk }
    let d := drawn s' c' 32
    let a := fit 9 (Config.madeAttrs 0x0305 0)
    Asks s k.toNat 0x0305 e c → EmvReady s e c .sessionKey [ri, rk] [key, kb] data sk s' c' →
    Suits c kb ["K1"] "BE" (fun a => isTdea a || isAes a) →
    ((u8 i 1).testBit 2 = true ∧ u8 i 44 = 1 → exportable key (isAes kb.alg) kb.alg = true) →
    (strength sv.alg ≤ strength kb.alg ∨ polExportWeaker s c.slot = true) → Fits s c (blockTotal (isAes kb.alg) sv) → MayDraw s c →
    Serves (.emvSessionKey k) s d.2 e c'
      (keyBlock (isAes kb.alg) sv key.usage 0x47 ((slice a 6 1).headD 0) (slice a 7 2) kb.bytes d.1)

/-- The DUKPT data and MAC services act under the working key of the KSN, the function and the direction (R187 to
R190). -/
def Claims.DukptServices : Prop :=
  ∀ (s : State) (k : CoreId) (e : Nat) (c : Cmd) (w : KeyVal) (data : Octets) (s' : State) (c' : Cmd),
    let i := c.input
    let n := u8 i 2
    (Asks s k.toNat 0x0403 e c → DukptReady s e c .decrypt w data s' c' → Fits s c data.length →
      Serves (.dukptDecrypt k) s s' e c' (cbcDec w.alg w.bytes (slice i 8 16) data)) ∧
    (Asks s k.toNat 0x0404 e c → DukptReady s e c .encrypt w data s' c' → Fits s c data.length →
      Serves (.dukptEncrypt k) s s' e c' (cbcEnc w.alg w.bytes (slice i 8 16) data)) ∧
    (Asks s k.toNat 0x0405 e c → DukptReady s e c .macVerify w data s' c' → Fits s c 0 →
      Judges (.dukptMacVerify k) s s' e c' ((dukptMac w data).take n = (slice i 24 16).take n) false [] verifyFailed) ∧
    (Asks s k.toNat 0x0406 e c → DukptReady s e c .macGenerate w data s' c' → Fits s c n →
      Serves (.dukptMacGenerate k) s s' e c' ((dukptMac w data).take n))

/-- DUKPT_IK_EXPORT answers the initial key of a BDK in a key block, and DUKPT_TERMINAL_KEY answers the working key of an
initial key in an Envelope (R179, R191).  The attributes that no rule states are free values (log entry 19). -/
def Claims.DukptKeys : Prop :=
  ∀ (s : State) (k : CoreId) (e : Nat) (c : Cmd) (rest : Octets) (s' : State) (c' : Cmd),
    let i := c.input
    (∀ (rb rk : KeyRef) (bdk kb : KeyVal),
      let ik : KeyVal := { bdk with bytes := if aesDukptKind rb.kind then aesIk bdk rb.ksn else tdesIk bdk.bytes rb.ksn }
      let d := drawn s' c' 32
      let a := fit 9 (Config.madeAttrs 0x0401 0)
      Asks s k.toNat 0x0401 e c → i.length = 64 + refsLen 2 (i.drop 64) → dukptHeaderOk .ikExport i = true →
      Keyed s e c true 64 [rb, rk] [bdk, kb] rest s' c' → isDukptKind rb.kind = true → isDukptKind rk.kind = false →
      dukptSizesOk .ikExport i false = true → (u8 i 1 = 2 → aesDukptKind rb.kind = true) →
      Suits c bdk ["B0"] "X" (bdkAlg rb.kind) → Suits c kb ["K1"] "BE" (fun a => isTdea a || isAes a) →
      (strength bdk.alg ≤ strength kb.alg ∨ polExportWeaker s c.slot = true) → Fits s c (blockTotal (isAes kb.alg) ik) → MayDraw s c →
      Serves (.dukptIkExport k) s d.2 e c'
        (keyBlock (isAes kb.alg) ik (ascii "B1") 0x58 ((slice a 6 1).headD 0) (slice a 7 2) kb.bytes d.1)) ∧
    (∀ (ref : KeyRef) (ik : KeyVal),
      let ksn := slice i 40 12
      let aes := isAes ik.alg
      let alg := if aes then keytypeAlg (u8 i 52) else 1
      let bytes := if aes then aesWorking ik.alg ik.bytes ksn (u8 i 0) (u8 i 1) (u8 i 52) else tdesWorking ik.bytes ksn (u8 i 0) (u8 i 1)
      let t := madeTemplate 0x0402 (u8 i 0) alg (if aes then algLen alg else 16)
      Asks s k.toNat 0x0402 e c → i.length = 64 + refsLen 1 (i.drop 64) → dukptHeaderOk .terminalKey i = true →
      Keyed s e c false 64 [ref] [ik] rest s' c' → isDukptKind ref.kind = false → dukptSizesOk .terminalKey i false = true →
      Suits c ik ["B1"] "X" (fun a => a == 1 || isAes a) → ksnOk aes false ksn = true →
      (aes = false → zeroAt ksn 10 2 = true ∧ u8 i 52 = 0 ∧ u8 i 1 ≠ 2) → (rootsOf s' c.slot).isSome = true → Fits s c 144 →
      Serves (.dukptTerminalKey k) s s' e (chargeCounters c') (envelopeAnswer s' c' t bytes 0 0))

/-! ### MAC, key management, bulk and random services (chapters 06, 08, 10) -/

/-- MAC_GENERATE answers the leftmost MAC_LEN octets of the MAC, and MAC_VERIFY compares them (R193, R194). -/
def Claims.MacServices : Prop :=
  ∀ (s : State) (k : CoreId) (e : Nat) (c : Cmd) (ref : KeyRef) (key : KeyVal) (data : Octets) (s' : State) (c' : Cmd),
    let i := c.input
    let alg := u8 i 0
    let n := u8 i 2
    let mac := (macOf alg (u8 i 1) key data).take n
    let ready (verify : Bool) : Prop :=
      i.length = 64 + refsLen 1 (i.drop 64) + u32 i 4 ∧ macHeaderOk c.d.version.toNat i verify = true ∧
      Keyed s e c false 64 [ref] [key] data s' c' ∧ isDukptKind ref.kind = false ∧
      Suits c key (macUsages alg) (if verify then "VC" else "GC") (macAlgOk alg) ∧ (alg < 7 → polMacMin s c.slot ≤ n)
    (Asks s k.toNat 0x0501 e c → ready false → Fits s c n →
      Serves (.macGenerate k) s s' e (chargeCounters c') mac) ∧
    (Asks s k.toNat 0x0502 e c → ready true → Fits s c 0 →
      Judges (.macVerify k) s s' e c' (mac = (slice i 8 48).take n) true [] verifyFailed)

/-- The bulk services encipher or decipher their data under AES; an IV that the service drew follows the output; a GCM tag
that disagrees is VERIFY_FAILED, and the octets written are overwritten with zeros (R203 to R206). -/
def Claims.BulkServices : Prop :=
  ∀ (s : State) (k : CoreId) (e : Nat) (c : Cmd) (key : KeyVal) (aux data iv : Octets) (b : State) (c' : Cmd),
    let i := c.input
    let x := key.bytes
    (Asks s k.toNat 0x0701 e c → BulkReady s e c .gcmEncrypt key aux data iv b c' →
      let g := gcmEnc x (gcmJ0 iv) aux data
      Serves (.gcmEncrypt k) s b e c' (withIv i iv (fit data.length g.1 ++ (fit 16 g.2).take (u8 i 1)))) ∧
    (Asks s k.toNat 0x0702 e c → BulkReady s e c .gcmDecrypt key aux data iv b c' →
      let g := gcmDec x (gcmJ0 iv) aux data
      ((fit 16 g.2).take (u8 i 1) = (slice i 32 16).take (u8 i 1) → Serves (.gcmDecrypt k) s b e c' (fit data.length g.1)) ∧
      ((fit 16 g.2).take (u8 i 1) ≠ (slice i 32 16).take (u8 i 1) →
        Fails (.gcmDecrypt k) s
          (if data = [] then b else emit b (.hostWrite c.fn.portB c.d.outAddr (zeros data.length))) e c' verifyFailed)) ∧
    (Asks s k.toNat 0x0703 e c → BulkReady s e c .cbcEncrypt key aux data iv b c' →
      Serves (.cbcEncrypt k) s b e c' (withIv i iv (cbcEnc key.alg x iv data))) ∧
    (Asks s k.toNat 0x0704 e c → BulkReady s e c .cbcDecrypt key aux data iv b c' →
      Serves (.cbcDecrypt k) s b e c' (cbcDec key.alg x iv data)) ∧
    (Asks s k.toNat 0x0705 e c → BulkReady s e c .ctr key aux data iv b c' →
      Serves (.ctrCrypt k) s b e c' (withIv i iv (ctrCrypt x iv data))) ∧
    (Asks s k.toNat 0x0706 e c → BulkReady s e c .ff1Encrypt key aux data iv b c' →
      Serves (.ff1Encrypt k) s b e c' (fit data.length ((ff1 true x (u16 i 2) aux (data.map (·.toNat))).map (BitVec.ofNat 8)))) ∧
    (Asks s k.toNat 0x0707 e c → BulkReady s e c .ff1Decrypt key aux data iv b c' →
      Serves (.ff1Decrypt k) s b e c' (fit data.length ((ff1 false x (u16 i 2) aux (data.map (·.toNat))).map (BitVec.ofNat 8))))

/-- RANDOM_BYTES answers LEN octets of one generate request of its instance, with the input as additional input, and
reseeded first where PR asks it; in entropy failure it ends with ENTROPY_FAILED; while the instance cannot serve it
gives up its turn and waits on delay list 0 (R335, R340, R341, R347, R353). -/
def Claims.RandomBytes : Prop :=
  ∀ (s : State) (k : CoreId) (e : Nat) (c : Cmd),
    let n := u32 c.d.params 0
    let pr := (u8 c.d.params 8).testBit 0
    let inst := instOf c.slot c.idx
    let limit := if u32 c.d.params 4 = 0 then 10000 else u32 c.d.params 4
    Asks s k.toNat 0x0901 e c → Fits s c n →
    (s.entropy.failed = true → Fails (.randomBytes k) s s e c entropyFailed) ∧
    (s.entropy.failed = false → canServe s inst pr = true →
      let d := generate s inst n pr c.input
      Serves (.randomBytes k) s d.2 e c d.1) ∧
    (s.entropy.failed = false → canServe s inst pr = false →
      Gives (.randomBytes k) s fun t =>
        (t.core k.toNat).cmd = none ∧ ∃ c', t.cmd e = some c' ∧ c'.served = false ∧ c'.waitInst = inst ∧
          c'.stage = .delayed 0 (c.waitDue.getD (dueTick s (ceilDiv (limit * 10) s.so.sched.tick100ns))))

/-- KEY_GENERATE, KEY_DERIVE and ENVELOPE_MAKE answer an Envelope under a template: of a drawn key, of a key derived from
the parent and the child label, and of the source's key; nothing that the parent or the source lacks is granted (R195,
R196, R271, R289, R294, R609). -/
def Claims.KeysAreMade : Prop :=
  ∀ (s : State) (k : CoreId) (e : Nat) (c : Cmd) (rest : Octets) (s' : State) (c' : Cmd) (n g : Nat) (b : State) (c2 : Cmd),
    let i := c.input
    let header (refs len : Nat) : Prop :=
      i.length = 64 + refsLen refs (i.drop 64) + u32 i 4 ∧ u32 i 4 = len ∧ u8 i 0 = 1 ∧ u8 i 1 = 0 ∧ zeroAt i 2 2 = true ∧
      zeroAt i 8 56 = true
    (let t := i.drop 64
     let h := headerKey t
     let d := drawn s c (2 * drawLen h)
     Asks s k.toNat 0x0601 e c → header 0 64 → TemplateOk t → Fits s c 144 → MayDraw s c → 0 < drawLen h →
     Allocates d.2 c h.limit n g b c2 → (rootsOf s c.slot).isSome = true →
     Serves (.keyGenerate k) s b e (chargeCounters c2)
       (envelopeAnswer b c t (drawnKey (if h.ktype = 2 then 5 else h.alg) (drawLen h) d.1) n g)) ∧
    (∀ (ref : KeyRef) (parent child : KeyVal),
     let t := rest.take 64
     let label := slice rest 64 64
     let h := headerKey t
     let key := kdf parent.bytes label (8 * algLen h.alg)
     Asks s k.toNat 0x0602 e c → header 1 128 → TemplateOk t → labelKey label = some child →
     Keyed s e c false 64 [ref] [parent] rest s' c' → isDukptKind ref.kind = false →
     Suits c parent [String.ofList (h.usage.map (fun o => Char.ofNat o.toNat)), "K0"] "X" (· == 5) →
     grantsWithin { child with exp := if exportRank parent.exp < exportRank child.exp then parent.exp else child.exp,
                               mask := parent.mask } h = true →
     Fits s c 144 → Allocates s' c' h.limit n g b c2 → (rootsOf s' c.slot).isSome = true →
     Serves (.keyDerive k) s b e (chargeCounters c2)
       (envelopeAnswer b c t (if isTdea h.alg then oddParity key else key) n g)) ∧
    (∀ (ref : KeyRef) (src : KeyVal),
     let h := headerKey rest
     Asks s k.toNat 0x0607 e c → header 1 64 → TemplateOk rest → Keyed s e c false 64 [ref] [src] rest s' c' →
     isDukptKind ref.kind = false → src.limit = 0 → (src.flags.getLsbD 0 = true → h.flags.getLsbD 0 = true) →
     grantsWithin src h = true → Fits s c 144 → Allocates s' c' h.limit n g b c2 → (rootsOf s' c.slot).isSome = true →
     Serves (.envelopeMake k) s b e (chargeCounters c2) (envelopeAnswer b c rest src.bytes n g))

/-- KEY_IMPORT opens a key block under its KBPK and answers the key's Envelope; KEY_EXPORT answers a key block of an
exportable key (R179, R197, R198, R288).  The mask of an imported key, and the curve of an imported scalar, are free
values (log entries 19, 22). -/
def Claims.KeysCross : Prop :=
  ∀ (s : State) (k : CoreId) (e : Nat) (c : Cmd) (rest : Octets) (s' : State) (c' : Cmd),
    let i := c.input
    (∀ (ref : KeyRef) (kb : KeyVal) (opts : List (Octets × Octets)) (hdr alg : Nat) (key : Octets),
     let ver := rest.headD 0
     let letter := (slice rest 7 1).headD 0
     let usage := slice rest 5 2
     let mask := u16 (fit 9 (Config.madeAttrs 0x0603 (beNat usage))) 1 &&& fullMask
     let t := headerFor 1 alg (usageClass usage) key.length mask usage ((slice rest 8 1).headD 0) ((slice rest 11 1).headD 0)
       (slice rest 9 2) 0
     Asks s k.toNat 0x0603 e c → i.length = 64 + refsLen 1 (i.drop 64) + u32 i 4 → 16 ≤ u32 i 4 → u32 i 4 ≤ 4096 →
     u8 i 0 = 1 → u8 i 1 = 0 → zeroAt i 2 2 = true → zeroAt i 8 56 = true →
     Keyed s e c false 64 [ref] [kb] rest s' c' → isDukptKind ref.kind = false →
     blockHeaderOf rest = some (opts, hdr) → Suits c kb ["K1"] "BD" (fun a => isTdea a || isAes a) →
     ((ver = 0x44 ∧ isAes kb.alg = true) ∨ (ver = 0x42 ∧ polKbImportB s c.slot = true ∧ isTdea kb.alg = true)) → Fits s c 144 →
     openBlock (ver == 0x44) kb.bytes rest hdr = some key → letter ≠ 0x45 → ¬ (letter = 0x48 ∧ 48 < key.length) →
     importAlg letter key.length = some alg → classAlg (usageClass usage) alg = true →
     (∀ v, checkBlock opts "KC" = some v → ∃ x, v = some x ∧ x = (kcvOf alg key).take x.length) →
     (∀ v, checkBlock opts "KP" = some v → ∃ x, v = some x ∧ x = (kcvOf kb.alg kb.bytes).take x.length) →
     (rootsOf s' c.slot).isSome = true →
     Serves (.keyImport k) s s' e (chargeCounters c') (envelopeAnswer s' c t key 0 0)) ∧
    (∀ (rk rb : KeyRef) (key kb : KeyVal),
     let verD := u8 i 0 == 2
     let exp := (slice i 8 1).headD 0
     let d := drawn s' c' 32
     Asks s k.toNat 0x0604 e c → i.length = 64 + refsLen 2 (i.drop 64) + u32 i 4 → u32 i 4 = 0 → (u8 i 0 = 2 ∨ u8 i 0 = 3) →
     u8 i 1 = 0 → zeroAt i 2 2 = true → (exp = 0x45 ∨ exp = 0x4E) → zeroAt i 11 53 = true →
     Keyed s e c false 64 [rk, rb] [key, kb] rest s' c' → isDukptKind rk.kind = false → isDukptKind rb.kind = false →
     Suits c kb ["K1"] "BE" (fun a => isTdea a || isAes a) → (if verD then isAes kb.alg = true else isTdea kb.alg = true) →
     plainKey key = true → exportable key verD kb.alg = true → (key.source ≠ 0 ∨ polExportDerived s c.slot = true) →
     (strength key.alg ≤ strength kb.alg ∨ polExportWeaker s c.slot = true) → Fits s c (blockTotal verD key) → MayDraw s c →
     Serves (.keyExport k) s d.2 e c' (keyBlock verD key key.usage key.mode exp (slice i 9 2) kb.bytes d.1))

/-- ENVELOPE_UPGRADE answers an Envelope v3 of a v1 key, and KEY_CHECK_VALUE the check value of a key (R201, R202,
R311). -/
def Claims.KeysAreShown : Prop :=
  ∀ (s : State) (k : CoreId) (e : Nat) (c : Cmd) (ref : KeyRef) (key : KeyVal) (rest : Octets) (s' : State) (c' : Cmd),
    let i := c.input
    let header (form : Nat) : Prop :=
      i.length = 64 + refsLen 1 (i.drop 64) + u32 i 4 ∧ u32 i 4 = 0 ∧ u8 i 0 = form ∧ u8 i 1 = 0 ∧ zeroAt i 2 2 = true ∧
      zeroAt i 8 56 = true ∧ Keyed s e c false 64 [ref] [key] rest s' c' ∧ isDukptKind ref.kind = false
    (let t := headerFor 1 key.alg key.cls key.len (upgradeMask key.usage) key.usage key.mode key.exp (ascii "00") 8
     Asks s k.toNat 0x0608 e c → header 1 → ref.kind = 3 → Fits s c 144 → (rootsOf s' c.slot).isSome = true →
     Serves (.envelopeUpgrade k) s s' e c' (envelopeAnswer s' c t key.bytes 0 0)) ∧
    (Asks s k.toNat 0x0609 e c → header 0 → (c.d.version = 1 → isTdea key.alg = true) → Fits s c 16 →
     Serves (.keyCheckValue k) s s' e c' (if key.cls = 4 then zeros 16 else kcvField key.alg key.bytes))

/-- RKL_RSA answers a drawn key under the remote key's modulus with the module's signature over the nonce and it, and its
Envelope unless the key is ephemeral; RKL_ECDH answers an ephemeral point and a key block under the agreed key (R199,
R200, R262, R265). -/
def Claims.RemoteKeyLoading : Prop :=
  ∀ (s : State) (k : CoreId) (e : Nat) (c : Cmd) (ref : KeyRef) (key : KeyVal) (rest : Octets) (s' : State) (c' : Cmd),
    let i := c.input
    let eph := (u8 i 1).testBit 0
    (∀ (rk : RsaKey),
     let m := u16 i 8
     let hb := 2048 + 256 * (key.alg - 0x20)
     let alg := keytypeAlg (u8 i 10)
     let n := algLen alg
     let d := drawn s' c' (2 * n + 64)
     let kek := drawnKey alg n d.1
     let ct := be (m / 8) (powMod (beNat (oaepEncode (m / 8) (slice d.1 (2 * n) 32) kek)) rsaE (beNat rest))
     let salt := d.1.drop (2 * n + 32)
     let sig := be (hb / 8) (powMod (beNat (pssEncode (hb / 8) (sha 32 (slice i 16 16 ++ ct)) salt)) rk.d rk.n)
     let t := madeTemplate 0x0605 (u8 i 10) alg n
     Asks s k.toNat 0x0605 e c → i.length = 64 + refsLen 1 (i.drop 64) + u32 i 4 → u32 i 4 = m / 8 → u8 i 0 = 1 → u8 i 1 ≤ 1 →
     zeroAt i 2 2 = true → Keyed s e c false 64 [ref] [key] rest s' c' → isDukptKind ref.kind = false → 2048 ≤ m → m ≤ 4096 →
     m % 32 = 0 → u8 i 10 ≤ 4 → zeroAt i 11 5 = true → zeroAt i 32 32 = true → beNat rest % 2 = 1 →
     exactBits (beNat rest) m = true → Suits c key ["S0"] "S" (fun a => decide (a ≥ 0x20)) →
     Fits s c (m / 8 + hb / 8 + (if eph then 0 else 144)) → MayDraw s c → expandRsa key.bytes hb = some rk →
     (eph = false → (rootsOf s' c.slot).isSome = true) →
     Serves (.rklRsa k) s d.2 e (chargeCounters c') (ct ++ sig ++ (if eph then [] else envelopeAnswer d.2 c t kek 0 0))) ∧
    (∀ (cv : Curve) (q : Point),
     let d := drawn s' c' (cv.no + 8 + 32)
     let x := beNat (d.1.take (cv.no + 8)) % (cv.n - 1) + 1
     let pt := (encodePoint cv (ecMul cv x (basePoint cv))).drop 1
     let a := fit 9 (Config.madeAttrs 0x0606 0)
     Asks s k.toNat 0x0606 e c → u8 i 8 ≤ 15 → curveEntry s (u8 i 8) = some cv →
     i.length = 64 + refsLen 1 (i.drop 64) + u32 i 4 → u32 i 4 = 2 * cv.fo → u8 i 0 = 2 → u8 i 1 = 0 → zeroAt i 2 2 = true →
     Keyed s e c false 64 [ref] [key] rest s' c' → isDukptKind ref.kind = false → zeroAt i 9 7 = true → zeroAt i 32 32 = true →
     plainKey key = true → exportable key true 5 = true → (key.source ≠ 0 ∨ polExportDerived s c.slot = true) →
     Fits s c (2 * cv.fo + blockTotal true key) → MayDraw s c → decodePoint cv ([4] ++ rest) = .ok q →
     (ecMul cv (cv.h * x) q = none → Fails (.rklEcdh k) s (eventF d.2 0x0302 k.toNat 0 0) e c' invariantFailed) ∧
     (∀ z y, ecMul cv (cv.h * x) q = some (z, y) →
       Serves (.rklEcdh k) s d.2 e c'
         (pt ++ keyBlock true key key.usage key.mode ((slice a 6 1).headD 0) (slice a 7 2)
           (oneStep (be cv.fo z) (ascii "PRK-RKL" ++ slice i 16 16 ++ pt) 32) (d.1.drop (cv.no + 8)))))

/-! ### Public-key services (chapter 09) -/

/-- ECDSA_SIGN answers a signature, its nonce hedged from the cluster pair's instance; one that does not verify is
INVARIANT_FAILED with an event (R258 to R260, R265, R347). -/
def Claims.EcdsaSigns : Prop :=
  ∀ (s : State) (k : CoreId) (e : Nat) (c : Cmd) (cv : Curve) (ref : KeyRef) (key : KeyVal) (data : Octets) (d : Nat) (s' : State) (c' : Cmd),
    let i := c.input
    let digest := digestOf (u8 i 1) data
    let plain := s.entropy.failed && key.flags.getLsbD 1
    let r := if plain then ([], s') else generate s' (k.toNat / 16) cv.no false
    Asks s k.toNat 0x0801 e c → i.length = 64 + refsLen 1 (i.drop 64) + u32 i 4 → PkHeader true i false 0 true →
    curveEntry s (u8 i 0) = some cv → Keyed s e c false 64 [ref] [key] data s' c' → isDukptKind ref.kind = false →
    Suits c key ["S0"] "ST" (· == 0x10 + u8 i 0) → Fits s c (2 * cv.no) → ScalarIs cv key d →
    (plain = false → PairDraws s k) →
    (∀ x y, ecdsaSign cv digest.length d digest r.1 = some (x, y) →
      Serves (.ecdsaSign k) s r.2 e (chargeCounters c') (be cv.no x ++ be cv.no y)) ∧
    (ecdsaSign cv digest.length d digest r.1 = none →
      Fails (.ecdsaSign k) s (eventF r.2 0x0302 k.toNat 0 0) e c' invariantFailed)

/-- ECDSA_VERIFY checks a signature with a given public point, or with that of a key (R258, R262). -/
def Claims.EcdsaVerifies : Prop :=
  ∀ (s : State) (k : CoreId) (e : Nat) (c : Cmd) (cv : Curve),
    let i := c.input
    Asks s k.toNat 0x0802 e c → u8 i 0 ≤ 15 → curveEntry s (u8 i 0) = some cv → PkHeader true i false 1 true → Fits s c 0 →
    (∀ (q : Point),
      let rest := i.drop 64
      let sig := rest.drop (1 + 2 * cv.fo)
      (u8 i 3).testBit 0 = true → i.length = 64 + (1 + 2 * cv.fo) + 2 * cv.no + u32 i 4 →
      decodePoint cv (rest.take (1 + 2 * cv.fo)) = .ok q →
      Judges (.ecdsaVerify k) s s e c
        (ecdsaVerify cv q (digestOf (u8 i 1) (sig.drop (2 * cv.no))) (beNat (slice sig 0 cv.no)) (beNat (slice sig cv.no cv.no)) = true)
        false [] sigInvalid) ∧
    (∀ (ref : KeyRef) (key : KeyVal) (sig : Octets) (d : Nat) (s' : State) (c' : Cmd),
      (u8 i 3).testBit 0 = false → i.length = 64 + refsLen 1 (i.drop 64) + 2 * cv.no + u32 i 4 →
      Keyed s e c false 64 [ref] [key] sig s' c' → isDukptKind ref.kind = false →
      Suits c key ["S0"] "VST" (· == 0x10 + u8 i 0) → ScalarIs cv key d →
      Judges (.ecdsaVerify k) s s' e c'
        (ecdsaVerify cv (ecMul cv d (basePoint cv)) (digestOf (u8 i 1) (sig.drop (2 * cv.no))) (beNat (slice sig 0 cv.no))
          (beNat (slice sig cv.no cv.no)) = true) false [] sigInvalid)

/-- ECDH answers the shared coordinate where policy allows it raw, or the Envelope of the key derived from it; a product
at infinity is INVARIANT_FAILED.  EC_KEYGEN answers a drawn seed's Envelope and its public point (R256, R258, R259,
R261, R262, R265). -/
def Claims.EcKeysAreMade : Prop :=
  ∀ (s : State) (k : CoreId) (e : Nat) (c : Cmd) (cv : Curve) (n g : Nat) (b : State) (c2 : Cmd),
    let i := c.input
    (∀ (ref : KeyRef) (key : KeyVal) (rest : Octets) (d : Nat) (q : Point) (s' : State) (c' : Cmd),
      let pt := 1 + 2 * cv.fo
      let t := slice rest pt 64
      let h := headerKey t
      let raw := (u8 i 3).testBit 1
      Asks s k.toNat 0x0803 e c → u8 i 0 ≤ 15 → curveEntry s (u8 i 0) = some cv →
      i.length = 64 + refsLen 1 (i.drop 64) + pt + 64 + u32 i 4 → pkHeaderOk true i false 2 = true → u8 i 1 = 0 → u32 i 4 ≤ 256 →
      Keyed s e c false 64 [ref] [key] rest s' c' → isDukptKind ref.kind = false → TemplateOk t → rest.headD 0 = 4 →
      Suits c key ["K3"] "NX" (· == 0x10 + u8 i 0) → (raw = true → polEcdhRawZ s c.slot = true) →
      Fits s c (if raw then cv.fo else 144) → ScalarIs cv key d → decodePoint cv (rest.take pt) = .ok q →
      (ecMul cv (cv.h * d) q = none → Fails (.ecdh k) s (eventF s' 0x0302 k.toNat 0 0) e c' invariantFailed) ∧
      (∀ z y, ecMul cv (cv.h * d) q = some (z, y) →
        let dk := oneStep (be cv.fo z) (rest.drop (pt + 64)) (drawLen h)
        (raw = true → Serves (.ecdh k) s s' e (chargeCounters c') (be cv.fo z)) ∧
        (raw = false → Allocates s' c' h.limit n g b c2 → (rootsOf s' c.slot).isSome = true →
          Serves (.ecdh k) s b e (chargeCounters c2)
            (envelopeAnswer b c t (if isTdea h.alg then oddParity dk else dk) n g)))) ∧
    (let t := slice i 64 64
     let h := headerKey t
     let d := drawn s c 32
     Asks s k.toNat 0x0804 e c → i.length = 128 → PkHeader true i false 0 false → curveEntry s (u8 i 0) = some cv → TemplateOk t →
     h.cls = 4 → h.alg = 0x10 + u8 i 0 → (h.usage = ascii "S0" ∨ h.usage = ascii "K3") → Fits s c (129 + 2 * cv.fo) → MayDraw s c →
     Allocates d.2 c h.limit n g b c2 → (rootsOf s c.slot).isSome = true →
     Serves (.ecKeygen k) s b e (chargeCounters c2)
       ((envelopeAnswer b c t d.1 n g).take 128 ++ encodePoint cv (ecMul cv (expandSeed cv d.1) (basePoint cv))))

/-- RSA_SIGN answers a signature under PKCS #1 v1.5 or PSS with a drawn salt, and RSA_VERIFY checks one with a given
modulus or a key's (R254, R258, R262). -/
def Claims.RsaSignatures : Prop :=
  ∀ (s : State) (k : CoreId) (e : Nat) (c : Cmd),
    let i := c.input
    let m := u16 i 8
    (∀ (ref : KeyRef) (key : KeyVal) (data : Octets) (rk : RsaKey) (s' : State) (c' : Cmd),
      let digest := digestOf (u8 i 1) data
      let salt := if u8 i 2 = 2 then generate s' (instOf c'.slot c'.idx) digest.length false else ([], s')
      let em := if u8 i 2 = 1 then pkcs1Encode (m / 8) digest else pssEncode (m / 8) digest salt.1
      Asks s k.toNat 0x0811 e c → i.length = 64 + refsLen 1 (i.drop 64) + u32 i 4 → PkHeader false i true 0 true →
      Keyed s e c false 64 [ref] [key] data s' c' → isDukptKind ref.kind = false →
      Suits c key ["S0"] "ST" (· == 0x20 + (m - 2048) / 256) → Fits s c (m / 8) → expandRsa key.bytes m = some rk →
      (u8 i 2 = 2 → MayDraw s c) →
      Serves (.rsaSign k) s salt.2 e (chargeCounters c') (be (m / 8) (powMod (beNat em) rk.d rk.n))) ∧
    (∀ (n : Nat) (rest : Octets),
      let good (off : Nat) : Prop :=
        let sig := beNat (slice rest off (m / 8))
        let digest := digestOf (u8 i 1) (rest.drop (off + m / 8))
        let em := be (m / 8) (powMod sig rsaE n)
        sig < n ∧ (if u8 i 2 = 1 then em = pkcs1Encode (m / 8) digest else pssOk digest em = true)
      Asks s k.toNat 0x0812 e c → PkHeader false i true 1 true → Fits s c 0 →
      ((u8 i 3).testBit 0 = true → i.length = 64 + m / 8 + m / 8 + u32 i 4 → rest = i.drop 64 → n = beNat (rest.take (m / 8)) →
        n % 2 = 1 → exactBits n m = true → Judges (.rsaVerify k) s s e c (good (m / 8)) false [] sigInvalid) ∧
      (∀ (ref : KeyRef) (key : KeyVal) (rk : RsaKey) (s' : State) (c' : Cmd),
        (u8 i 3).testBit 0 = false → i.length = 64 + refsLen 1 (i.drop 64) + m / 8 + u32 i 4 →
        Keyed s e c false 64 [ref] [key] rest s' c' → isDukptKind ref.kind = false →
        Suits c key ["S0"] "VST" (· == 0x20 + (m - 2048) / 256) → expandRsa key.bytes m = some rk → n = rk.n →
        Judges (.rsaVerify k) s s' e c' (good 0) false [] sigInvalid))

/-- RSA_DECRYPT answers the plaintext of an OAEP block, or VERIFY_FAILED; RSA_KEYGEN answers a drawn seed's Envelope and
its modulus (R254, R258, R259, R262). -/
def Claims.RsaKeysAct : Prop :=
  ∀ (s : State) (k : CoreId) (e : Nat) (c : Cmd) (rk : RsaKey),
    let i := c.input
    let m := u16 i 8
    (∀ (ref : KeyRef) (key : KeyVal) (ct : Octets) (s' : State) (c' : Cmd),
      let plain := oaepDecode (be (m / 8) (powMod (beNat ct) rk.d rk.n))
      Asks s k.toNat 0x0813 e c → i.length = 64 + refsLen 1 (i.drop 64) + m / 8 → PkHeader false i false 0 false →
      Keyed s e c false 64 [ref] [key] ct s' c' → isDukptKind ref.kind = false →
      Suits c key ["D1"] "DT" (· == 0x20 + (m - 2048) / 256) → expandRsa key.bytes m = some rk →
      (rk.n ≤ beNat ct → Fails (.rsaDecrypt k) s s' e c' inputRange) ∧
      (beNat ct < rk.n → plain = none → Fails (.rsaDecrypt k) s s' e c' verifyFailed) ∧
      (∀ p, beNat ct < rk.n → plain = some p → Fits s c p.length → Serves (.rsaDecrypt k) s s' e (chargeCounters c') p)) ∧
    (∀ (n g : Nat) (b : State) (c2 : Cmd),
      let t := slice i 64 64
      let h := headerKey t
      let d := drawn s c 32
      Asks s k.toNat 0x0814 e c → i.length = 128 → PkHeader false i false 0 false → TemplateOk t → h.cls = 4 →
      h.alg = 0x20 + (m - 2048) / 256 → (h.usage = ascii "S0" ∨ h.usage = ascii "D1") → Fits s c (128 + m / 8) → MayDraw s c →
      expandRsa d.1 m = some rk → Allocates d.2 c h.limit n g b c2 → (rootsOf s c.slot).isSome = true →
      Serves (.rsaKeygen k) s b e (chargeCounters c2) ((envelopeAnswer b c t d.1 n g).take 128 ++ be (m / 8) rk.n))

/-- CURVE_LOAD checks a curve entry with bases drawn from I4: in MAINTENANCE a good one is installed at the commit,
and one whose mathematics fail is CURVE_CHECK_FAILED; outside MAINTENANCE it is MODE_REFUSED (R54, R250, R252). -/
def Claims.CurvesAreLoaded : Prop :=
  ∀ (s : State) (k : CoreId) (e : Nat) (c : Cmd),
    let i := c.input
    let d := generate s 4 9216 false
    Asks s k.toNat 0x8020 e c →
    (s.boot.mode ≠ .maintenance → Fails (.curveLoad k) s s e c modeRefused) ∧
    (s.boot.mode = .maintenance → i.length ≠ 512 → Fails (.curveLoad k) s s e c badLength) ∧
    (s.boot.mode = .maintenance → i.length = 512 → Fits s c 0 → curveFieldsOk i = false → Fails (.curveLoad k) s s e c badField) ∧
    (s.boot.mode = .maintenance → i.length = 512 → Fits s c 0 → curveFieldsOk i = true → Internal s 4 →
      (curveMathOk (curveOf i) d.1 = false → Fails (.curveLoad k) s d.2 e c curveCheckFailed) ∧
      (curveMathOk (curveOf i) d.1 = true →
        Serves (.curveLoad k) s d.2 e { c with effects := c.effects ++ [Effect.curve (u8 i 0) i], stateChanging := true,
                                                journalled := true, keepsReplay := true } []))

/-! ### Tenant slots (chapter 13) -/

/-- SLOT_CREATE makes the checks of R440 in their order and completes with the first failure; where all pass it
answers what the pools gave and instantiates the tenant's DRBG instance, and the slot is installed at the commit
(R436, R437, R440). -/
def Claims.SlotsAreCreated : Prop :=
  ∀ (s : State) (k : CoreId) (e : Nat) (c : Cmd),
    let i := c.input
    let n := u16 i 0
    let f := createFields i
    let step1 := slotRangesOk s n f (u8 i 5) = true ∧ u16 i 2 ≠ 0xFFFF ∧ u8 i 4 < 16 ∧ zeroAt i 11 1 = true ∧ zeroAt i 0x14 44 = true
    let step2 := slotTaken s n f = false
    let step3 := drInstalled s f.domain.toNat = true
    Asks s k.toNat 0x8070 e c →
    (s.boot.mode ≠ .service → Fails (.slotCreate k) s s e c modeRefused) ∧
    (s.boot.mode = .service →
      (¬ step1 → Fails (.slotCreate k) s s e c badField) ∧
      (step1 → ¬ step2 → Fails (.slotCreate k) s s e c policyDenied) ∧
      (step1 → step2 → ¬ step3 → Fails (.slotCreate k) s s e c keyNotFound) ∧
      (step1 → step2 → step3 → takeFromPools s f = none → Fails (.slotCreate k) s s e c slotPoolExhausted) ∧
      (∀ g, step1 → step2 → step3 → takeFromPools s f = some g →
        (slotArmFails s e g = true → Fails (.slotCreate k) s s e c badField) ∧
        (slotArmFails s e g = false →
          (s.entropy.failed = true → Fails (.slotCreate k) s s e c entropyFailed) ∧
          (s.entropy.failed = false → canInstantiate s = true → Fits s c 16 →
            Serves (.slotCreate k) s (instantiate s (24 + n) g.tenant.toNat) e { c with effects := c.effects ++ [Effect.slotCreate n g] }
              (le 2 g.phBase ++ le 2 g.ctrBase ++ le 4 g.dataBase ++ le 1 (maskOfPolicy s (u8 i 5)) ++ zeros 7)))))

/-- SLOT_QUIESCE stops an ACTIVE slot: it takes no credit, its READY, OPEN and CLOSING pigeonholes read QUIESCED with
their resume state, and the command stays until the drain ends; the end of the drain makes the slot QUIESCED and completes
it (R442). -/
def Claims.SlotsQuiesce : Prop :=
  ∀ (s : State) (k : CoreId) (e n : Nat) (c : Cmd) (x : Slot), SlotIs s n x →
    (Asks s k.toNat 0x8072 e c → s.boot.mode = .service → n = u16 c.d.params 0 →
      (x.state = .active → Fits s c 0 → Gives (.slotQuiesce k) s fun t => Only [.so, .slots] s t ∧ t.cmd e = some c ∧
        t.so.cmds = insertAt s.so.cmds e c ∧ SlotIs t n { x with state := .quiescing, quiesceBy := some e } ∧
        (∀ m, m ∉ slotPhs s n → t.ph m = s.ph m) ∧
        (∀ m ∈ slotPhs s n,
          let p := s.ph m
          t.ph m = if p.state = .ready ∨ p.state = .opened ∨ p.state = .closing then
              { p with credits := 0, state := .quiesced, resume := if p.state = .opened then .opened else .ready, recTail := none,
                       recHead := none }
            else { p with credits := 0 })) ∧
      (x.state = .quiescing ∨ x.state = .quiesced → x.quiesceBy ≠ some e → Fails (.slotQuiesce k) s s e c slotQuiesced) ∧
      (x.state = .destroying → Fails (.slotQuiesce k) s s e c cancelledSt)) ∧
    (x.state = .quiescing → (∀ y ∈ s.so.cmds, y.2.slot ≠ n) →
      (x.quiesceBy = none → exec (.quiesceDrainEnd n) s = answer (s.setSlot n { x with state := .quiesced, quiesceBy := none })) ∧
      (x.quiesceBy = some e → HeldHere s e c → Gives (.quiesceDrainEnd n) s fun t =>
        SlotIs t n { x with state := .quiesced, quiesceBy := none } ∧ Ended t e stOk [])) ∧
    (x.state ≠ .quiescing ∨ (∃ y ∈ s.so.cmds, y.2.slot = n) → exec (.quiesceDrainEnd n) s = answer s)

/-- SLOT_RESUME acts on a QUIESCED slot, at its commit; an ACTIVE slot is OK as it is (R443). -/
def Claims.SlotsResume : Prop :=
  ∀ (s : State) (k : CoreId) (e n : Nat) (c : Cmd) (x : Slot),
    Asks s k.toNat 0x8073 e c → s.boot.mode = .service → n = u16 c.d.params 0 → SlotIs s n x → Fits s c 0 →
    (x.state = .quiesced → Serves (.slotResume k) s s e { c with effects := c.effects ++ [Effect.slotResume n] } []) ∧
    (x.state = .active → Serves (.slotResume k) s s e c []) ∧
    (x.state = .quiescing → Fails (.slotResume k) s s e c busyRetry) ∧
    (x.state = .destroying → Fails (.slotResume k) s s e c cancelledSt)

/-- SLOT_DESTROY stops a slot: it fetches nothing, its undispatched commands are CANCELLED, and the command stays
until the last dispatched one has completed; then nothing of the slot is left and the command completes (R138, R444).
-/
def Claims.SlotsAreDestroyed : Prop :=
  ∀ (s : State) (k : CoreId) (e n : Nat) (c : Cmd) (x : Slot), SlotIs s n x →
    (Asks s k.toNat 0x8071 e c → s.boot.mode = .service → n = u16 c.d.params 0 →
      (x.state ≠ .destroying → Fits s c 0 → Gives (.slotDestroy k) s fun t => t.cmd e = some c ∧
        SlotIs t n { x with state := .destroying, quiesceBy := none, destroyBy := some e } ∧
        (∀ m ∈ slotPhs s n, t.ph m = { s.ph m with credits := 0 }) ∧ (∀ m, m ∉ slotPhs s n → t.ph m = s.ph m) ∧
        (∀ e' c0, e' ≠ e → s.cmd e' = some c0 → c0.slot = n → countsDispatched c0 = false →
          ∃ c1, t.cmd e' = some c1 ∧ c1.status = cancelledSt ∧ c1.output = [] ∧ c1.stage = .done) ∧
        t.keys.counters = s.keys.counters ∧ t.wmem = s.wmem ∧ t.keys.rootFile = s.keys.rootFile) ∧
      (x.state = .destroying → x.destroyBy ≠ some e → Fails (.slotDestroy k) s s e c busyRetry)) ∧
    (x.state = .destroying → (∀ y ∈ s.so.cmds, y.2.slot = n → y.2.status = cancelledSt) →
      (x.destroyBy = none → Gives (.slotCleanupEnd n) s fun t => Only [.so, .slots, .keys, .entropy, .wmem] s t ∧ SlotGone t n x.f) ∧
      (x.destroyBy = some e → HeldHere s e c → c.slot ≠ n → Gives (.slotCleanupEnd n) s fun t =>
        SlotGone t n x.f ∧ Ended t e stOk [] ∧ (∀ m, m ≠ n → lookup t.slots.table m = lookup s.slots.table m))) ∧
    (x.state ≠ .destroying ∨ (∃ y ∈ s.so.cmds, y.2.slot = n ∧ y.2.status ≠ cancelledSt) →
      exec (.slotCleanupEnd n) s = answer s)

/-- DIRTY_LOG: ENABLE starts logging into bitmap A, HARVEST switches bitmaps and reports the one retired, DISABLE ends
logging; ENABLE on a logging slot, and HARVEST or DISABLE on another, are BAD_FIELD (R446, R447). -/
def Claims.DirtyLogs : Prop :=
  ∀ (s : State) (k : CoreId) (e n : Nat) (c : Cmd) (x : Slot),
    let i := c.input
    Asks s k.toNat 0x8076 e c → s.boot.mode = .service → n = u16 i 0 → SlotIs s n x → x.state ≠ .destroying → zeroAt i 3 1 = true →
    zeroAt i 0x20 32 = true → Fits s c 16 →
    let out (sel ovf : Bool) (bits : Nat) : Octets := [if sel then 1 else 0, if ovf then 1 else 0] ++ zeros 6 ++ le 4 bits ++ zeros 4
    (u8 i 2 = 1 → 1 ≤ u32 i 4 → u32 i 4 ≤ 2 ^ 28 → u64 i 8 % 4096 = 0 → u64 i 16 % 4096 = 0 → u64 i 24 % 4096 = 0 →
      (x.dirtyEn = true → Fails (.logEnable k) s s e c badField) ∧
      (x.dirtyEn = false → Serves (.logEnable k) s
        (s.setSlot n { x with dirtyEn := true, dirtyBase := BitVec.ofNat 64 (u64 i 8), dirtyPages := u32 i 4, dirtyOvf := false,
                              dirtyBits := [], dirtySel := false, bitmapA := BitVec.ofNat 64 (u64 i 16),
                              bitmapB := BitVec.ofNat 64 (u64 i 24) }) e c (out false false 0))) ∧
    (u8 i 2 = 2 → zeroAt i 4 28 = true →
      (x.dirtyEn = false → Fails (.harvest k) s s e c badField) ∧
      (x.dirtyEn = true → Serves (.harvest k) s
        (s.setSlot n { x with dirtySel := !x.dirtySel, dirtyBits := [], dirtyOvf := false }) e c
        (out (!x.dirtySel) x.dirtyOvf x.dirtyBits.length))) ∧
    (u8 i 2 = 3 → zeroAt i 4 28 = true →
      (x.dirtyEn = false → Fails (.logDisable k) s s e c badField) ∧
      (x.dirtyEn = true → Serves (.logDisable k) s (s.setSlot n { x with dirtyEn := false, dirtyBits := [] }) e c
        (out x.dirtySel x.dirtyOvf 0)))

/-- SLOT_SAVE of a QUIESCED slot answers its blob: the header of R449, the body under the blob key of a drawn salt, and
the tag; in another state it fails (R449 to R451). -/
def Claims.SlotsAreSaved : Prop :=
  ∀ (s : State) (k : CoreId) (e n : Nat) (c : Cmd) (x : Slot),
    Asks s k.toNat 0x8074 e c → s.boot.mode = .service → n = u16 c.d.params 0 → SlotIs s n x →
    let c' : Cmd := { c with journalled := true }
    (x.state = .active → Fails (.slotSave k) s s e c' policyDenied) ∧
    (x.state = .quiescing → Fails (.slotSave k) s s e c' busyRetry) ∧
    (x.state = .destroying → Fails (.slotSave k) s s e c' cancelledSt) ∧
    (x.state = .quiesced → Fits s c (144 + blobBodyLen x.f.phCount x.f.ctrCount) → MayDraw s c →
      let d := drawn s c 32
      let p := stamp d.2 srcSupervisor
      let r := (lookup s.warden.roots x.f.domain.toNat).getD {}
      let head := blobHeader p.2 n x r.check p.1 d.1
      let g := gcmEnc (blobKey r.root x.f.tenant.toNat x.f.domain.toNat d.1) (gcmJ0 (zeros 12)) head (blobBody p.2 n x)
      Serves (.slotSave k) s p.2 e c' (head ++ g.1 ++ g.2))

/-- SLOT_RESTORE makes the checks of R452 in their order; where all pass, it answers what the pools gave, and the slot is
installed QUIESCED at the commit (R436, R440, R452, R453). -/
def Claims.SlotsAreRestored : Prop :=
  ∀ (s : State) (k : CoreId) (e : Nat) (c : Cmd) (g : SlotFields) (r : DomainRoot),
    let i := c.input
    let n := u16 i 0
    let head := slice i 64 128
    let f := restoreFields i
    let len := blobBodyLen f.phCount f.ctrCount
    let pt := gcmDec (blobKey r.root f.tenant.toNat f.domain.toNat (slice head 0x40 32)) (gcmJ0 (zeros 12)) head (slice i 192 len)
    let mask := maskOfPolicy s (u8 i 2)
    let fields := slotRangesOk s n f (u8 i 2) = true ∧ zeroAt i 7 1 = true ∧ zeroAt i 12 52 = true ∧ u32 head 0 = 0x51075A7E ∧
      u16 head 4 = 1 ∧ zeroAt head 6 2 = true ∧ zeroAt head 0x64 28 = true ∧ u16 head 0x0C ≠ 0xFFFF ∧ u8 head 0x0E < 16
    let lengths := u32 head 0x60 = len ∧ u32 head 8 = 128 + len + 16 ∧ i.length = 64 + 128 + len + 16
    let free := slotTaken s n f = false
    let admitted := ∀ j, j < f.phCount → (Ph.ofRecord (slice pt.1 (0x480 + 64 * j) 64)).version = 0 ∨
      mask.testBit (Ph.ofRecord (slice pt.1 (0x480 + 64 * j) 64)).version.toNat = true
    Asks s k.toNat 0x8075 e c → s.boot.mode = .service →
    (¬ fields → Fails (.slotRestore k) s s e c badField) ∧
    (fields → ¬ lengths → Fails (.slotRestore k) s s e c badLength) ∧
    (fields → lengths → ¬ free → Fails (.slotRestore k) s s e c policyDenied) ∧
    (fields → lengths → free → lookup s.warden.roots f.domain.toNat = none → Fails (.slotRestore k) s s e c keyNotFound) ∧
    (fields → lengths → free → lookup s.warden.roots f.domain.toNat = some r →
      (fit 8 r.check ≠ slice head 0x10 8 → Fails (.slotRestore k) s s e c keyDomainMismatch) ∧
      (fit 8 r.check = slice head 0x10 8 →
        (pt.2 ≠ slice i (192 + len) 16 → Fails (.slotRestore k) s s e c authFailed) ∧
        (pt.2 = slice i (192 + len) 16 →
          (¬ admitted → Fails (.slotRestore k) s s e c badVersion) ∧
          (admitted → takeFromPools s f = some g → slotArmFails s e g = false → s.entropy.failed = false → canInstantiate s = true →
            Fits s c 16 →
            Serves (.slotRestore k) s (instantiate s (24 + n) g.tenant.toNat) e
              { c with effects := c.effects ++ [Effect.slotRestore n g head pt.1] }
              (le 2 g.phBase ++ le 2 g.ctrBase ++ le 4 g.dataBase ++ le 1 mask ++ zeros 7)))))

/-- COUNTER_READ answers one counter entry in the form of R292; SLOT_TAB_SEL copies the selected slot's fields into its
port's window, and zeros for an unallocated slot (R292, R298, R437). -/
def Claims.SlotReads : Prop :=
  ∀ (s : State) (k : CoreId) (e : Nat) (c : Cmd) (b : Bool) (v : BitVec 10),
    (Asks s k.toNat 0x8040 e c → ∀ x, SlotIs s (u16 c.d.params 0) x →
      (x.f.ctrCount ≤ u16 c.d.params 2 → Fails (.counterRead k) s s e c badField) ∧
      (u16 c.d.params 2 < x.f.ctrCount → Fits s c 16 →
        (lookup s.keys.counters (x.f.ctrBase + u16 c.d.params 2) = none → Serves (.counterRead k) s s e c (zeros 16)) ∧
        (∀ y, lookup s.keys.counters (x.f.ctrBase + u16 c.d.params 2) = some y → Serves (.counterRead k) s s e c
          (le 4 y.count.toNat ++ le 4 y.limit.toNat ++ le 4 y.gen.toNat ++ [0, 0] ++ le 1 y.epochSel ++
            le 1 (1 + if y.exhausted then 2 else 0))))) ∧
    (Gives (.slotTabSel b v) s fun t => Only [if b then .portB else .portA] s t ∧ (t.port b).slotTabSel = v ∧
      ((512 ≤ v.toNat ∨ lookup s.slots.table v.toNat = none) → (t.port b).snapSlot = zeros 44) ∧
      (∀ x, SlotIs s v.toNat x → u16 (t.port b).snapSlot 4 = x.f.tenant.toNat ∧
        u32 (t.port b).snapSlot 0 % 2 = 1 ∧ u32 (t.port b).snapSlot 0 / 2 % 4 = x.state.code ∧
        u32 (t.port b).snapSlot 40 = (s.so.cmds.filter (fun y => y.2.slot == v.toNat)).length % 2 ^ 32))

/-- A commit that waits for neither the journal nor a partner carries its effect out: a curve entry, a conditioner mode, a
new EXT_CFG, a counter entry allocated, one use counted, a slot created (R250, R294, R297, R351, R441, R533). -/
def Claims.CommitsTakeEffect : Prop :=
  ∀ (s : State) (k : CoreId) (a b : BitVec 4) (e : Nat) (c : Cmd) (f : Effect),
    running s k.toNat = some (e, c) → (s.core k.toNat).far = none → doneWaits s k.toNat = false → c.custom = false →
    c.served = true → wantsFrank c.d = false → (s.core k.toNat).wmuSeen = false → c.output.length ≤ c.d.outCap.toNat →
    c.stateChanging = true → c.status = stOk → c.replay = false → commitStalls s c = false → s.pair.mirroring = false →
    c.effects = [f] →
    Gives (.doneInsn k a b) s fun t =>
      (∃ c', t.cmd e = some c' ∧ c'.stage = .done ∧ c'.stamped = true ∧ c'.effects = [] ∧ c'.output = c.output ∧ c'.status = stOk) ∧
      (c.keepsReplay = true → c.output.length ≤ 4096 → ∃ r ∈ t.so.replays, r.slot = c.slot ∧ r.ph = c.ph ∧ r.cmdId = c.d.cmdId ∧ r.output = c.output) ∧
      (match f with
       | .curve i o => lookup t.boot.curves i = some o
       | .rngMode m => t.entropy.condMode = m ∧ ∀ x ∈ t.entropy.insts, x.2.due = true
       | .extCfg v => t.warden.extCfg = v
       | .ctrAlloc i limit gen => lookup t.keys.counters i = some { limit := limit, gen := gen }
       | .ctrUse i => ∀ x, lookup s.keys.counters i = some x → x.count.toNat < x.limit.toNat →
           lookup t.keys.counters i = some { x with count := x.count + 1, exhausted := x.count + 1 == x.limit }
       | .slotCreate n g => SlotIs t n { f := g } ∨ 512 ≤ n
       | .slotResume n => ∀ x, lookup s.slots.table n = some x → lookup t.slots.table n = some { x with state := .active }
       | .slotRestore n g _ _ => ∃ x, lookup t.slots.table n = some x ∧ x.f = g ∧ x.state = .quiesced)

/-! ### Management services (chapters 02, 07, 09, 10, 12, 14 to 16) -/

/-- A service that needs a grant and finds none is QUORUM_REQUIRED and does nothing else (R537, R542). -/
def Claims.QuorumGuards : Prop :=
  ∀ (s : State) (k : CoreId) (e : Nat) (c : Cmd) (peerIn : Bool) (levels : BitVec 4),
    ∀ x ∈ [(Instr.imageReapply k, (0x8012 : Code)), (.moduleRetire k, 0x8013), (.diagEnter k, 0x8014), (.ceremonyBegin k, 0x8050),
      (.shareExport k, 0x8051), (.shareSubmit k, 0x8052), (.ceremonyCommit k, 0x8053), (.drErase k, 0x8054),
      (.pairForce k peerIn, 0x8082), (.unlock k, 0x8092), (.tamperConfig k levels, 0x8094)],
      Asks s k.toNat x.2 e c → Ungranted s c → Fails x.1 s s e c quorumRequired

/-- MAINT_ENTER from STANDBY or STAGED leaves the pair and enters MAINTENANCE; from SERVICE alone it stops the tenants
and stays until their commands have completed; it is MODE_REFUSED with a partner, or in another mode, and BUSY_RETRY
while another change of mode is in progress (R47, R49, R50, R54). -/
def Claims.MaintenanceBegins : Prop :=
  ∀ (s : State) (k : CoreId) (e : Nat) (c : Cmd) (s' : State) (c' : Cmd),
    Asks s k.toNat 0x8010 e c → s.boot.maintDrain ≠ some e → Granted s c s' c' →
    (changing s = true → Fails (.maintEnter k) s s' e c' busyRetry) ∧
    (changing s = false →
      (s.boot.mode ≠ .service → s.boot.mode ≠ .standby → s.boot.mode ≠ .staged → Fails (.maintEnter k) s s' e c' modeRefused) ∧
      (s.boot.mode = .service → s.pair.joined = true → Fails (.maintEnter k) s s' e c' modeRefused) ∧
      (s.boot.mode = .standby ∨ s.boot.mode = .staged → Fits s c 0 →
        (let b := setMode (leavePair s') .maintenance 0x8010
         Serves (.maintEnter k) s b e c' [] ∧ b.boot = { s.boot with mode := .maintenance } ∧ b.pair.role = .lone ∧
         b.pair.crownOut = false)) ∧
      (s.boot.mode = .service → s.pair.joined = false → Fits s c 0 → Gives (.maintEnter k) s fun t =>
        t.boot = { s.boot with tenantStop := true, maintDrain := some e } ∧ t.cmd e = some c' ∧
        (∀ e' c0, e' ≠ e → s.cmd e' = some c0 → c0.slot < 512 → countsDispatched c0 = false →
          ∃ c1, t.cmd e' = some c1 ∧ c1.status = notActive ∧ c1.output = [] ∧ c1.stage = .done)))

/-- MAINT_EXIT begins on a COMMISSIONED module: the ceremony is gone, the policy of the last image is in force, and
without a partner in reach the module takes its role at once; IMAGE_REAPPLY arms the image path (R47, R48, R51, R54,
R321). -/
def Claims.MaintenanceEnds : Prop :=
  ∀ (s : State) (k : CoreId) (e : Nat) (c : Cmd) (s' : State) (c' : Cmd), Granted s c s' c' → s.boot.mode = .maintenance →
    (Asks s k.toNat 0x8011 e c → s.boot.exitBy ≠ some e →
      (changing s = true → Fails (.maintExit k) s s' e c' busyRetry) ∧
      (changing s = false → s.warden.lc ≠ .commissioned → Fails (.maintExit k) s s' e c' modeRefused) ∧
      (changing s = false → s.warden.lc = .commissioned → Fits s c 0 →
        let t := (leaveMaintenance s' e).setCmd e c'
        t.keys.ceremony = none ∧ t.boot.exitBy = some e ∧ t.boot.policyNext = none ∧
        (∀ p, s.boot.policyNext = some p → t.boot.policy = p.1 ∧ t.boot.custom = p.2) ∧
        exec (.maintExit k) s = answer (if pairable t then t else takeAlone t false))) ∧
    (Asks s k.toNat 0x8012 e c →
      let i := c.input
      (changing s = true → Fails (.imageReapply k) s s' e c' busyRetry) ∧
      (changing s = false → zeroAt i 4 4 = true → zeroAt i 0x38 8 = true →
        (u32 i 0 = 0 ∨ 0x4000000 < u32 i 0 → Fails (.imageReapply k) s s' e c' badLength) ∧
        (1 ≤ u32 i 0 → u32 i 0 ≤ 0x4000000 → Fits s c 0 → Serves (.imageReapply k) s
          { s' with boot := { s'.boot with armed := some (BitVec.ofNat 32 (u32 i 0), slice i 8 48) } } e c' [])))

/-- MODULE_RETIRE needs the module's serial number and leaves a battery log record; the erase follows its completion.
DIAG_ENTER erases working material, makes a COMMISSIONED module ISSUED without roots, officers and IMAGE_SEQ, drops a
lock record and enters DIAGNOSTIC; DIAG_EXIT turns PD25 off, and a reset follows its completion (R47, R54, R530, R546,
R547). -/
def Claims.LifeCycleEnds : Prop :=
  ∀ (s : State) (k : CoreId) (e : Nat) (c : Cmd) (s' : State) (c' : Cmd),
    (Granted s c s' c' → changing s = false → s.boot.mode = .staged ∨ s.boot.mode = .maintenance ∨ s.boot.mode = .locked →
      (Asks s k.toNat 0x8013 e c →
        (u64 c.d.params 0 ≠ s.warden.serial.toNat → Fails (.moduleRetire k) s s' e c' badField) ∧
        (u64 c.d.params 0 = s.warden.serial.toNat → Fits s c 0 →
          Serves (.moduleRetire k) s (blogRecord s' 0x8013) e { c' with after := .retire } [])) ∧
      (Asks s k.toNat 0x8014 e c → Fits s c 0 → Gives (.diagEnter k) s fun t =>
        t.boot.mode = .diagnostic ∧ t.boot.armed = none ∧ t.boot.unsealed = false ∧ t.warden.lockRec = false ∧
        t.keys.frankPriv = none ∧ t.keys.cacheKey = none ∧ t.keys.rootFile = [] ∧ t.keys.counters = [] ∧
        t.arrays.laneKeys = [] ∧ t.arrays.hashKeys = [] ∧ t.entropy.insts = [] ∧ t.pair.role = .lone ∧ t.pair.crownOut = false ∧
        t.portA.vfEnable = false ∧ t.portB.vfEnable = false ∧ t.clocks.pd.getLsbD 25 = true ∧ t.clocks.gates.getLsbD 27 = true ∧
        (s.warden.lc = .commissioned → t.warden.lc = .issued ∧ t.warden.roots = [] ∧ t.warden.officers = none ∧ t.warden.imageSeq = 0) ∧
        (s.warden.lc ≠ .commissioned → t.warden.lc = s.warden.lc ∧ t.warden.roots = s.warden.roots) ∧
        t.cmd e = some (c'.result stOk []))) ∧
    (Asks s k.toNat 0x8015 e c →
      (s.boot.mode ≠ .diagnostic → Fails (.diagExit k) s s e c modeRefused) ∧
      (s.boot.mode = .diagnostic → Fits s c 0 → Serves (.diagExit k) s
        { s with clocks := { s.clocks with pd := s.clocks.pd &&& ~~~0x2000000, gates := s.clocks.gates &&& ~~~0x8000000 } } e
        { c with after := .diagExit } []))

/-- QUORUM_CHALLENGE answers a challenge that binds opcode, CMD_ID and digest to a nonce, at most four at once; UNLOCK
of the lock record named exactly drops it, and a reset follows its completion (R538, R543, R544). -/
def Claims.ChallengesAndUnlock : Prop :=
  ∀ (s : State) (k : CoreId) (e : Nat) (c : Cmd),
    let i := c.input
    (Asks s k.toNat 0x8090 e c →
      let c' : Cmd := { c with journalled := true }
      (s.boot.mode ∉ quorumModes → Fails (.quorumChallenge k) s s e c' modeRefused) ∧
      (s.boot.mode ∈ quorumModes → (quorumBit (u16 i 0) = none ∨ zeroAt i 2 6 = false → Fails (.quorumChallenge k) s s e c' badField) ∧
        ((quorumBit (u16 i 0)).isSome = true → zeroAt i 2 6 = true →
          (4 ≤ s.alarms.challenges.length → Fails (.quorumChallenge k) s s e c' busyRetry) ∧
          (s.alarms.challenges.length < 4 → Fits s c 168 →
            ∀ d, (if s.boot.mode = .locked ∨ s.boot.mode = .diagnostic then d = drawOctets s 32
                  else s.entropy.failed = false ∧ Draws s 7 32 d) →
            let off := s.warden.officers.getD (zeros 48, 0, 0)
            let vendor := s.warden.officers.isNone || u16 i 0 == 0x8014
            let text := le 4 s.alarms.nextChallenge.toNat ++ slice i 0 2 ++ le 1 off.2.1 ++ le 1 off.2.2 ++
              le 8 s.warden.serial.toNat ++ d.1 ++ le 8 (s.time.toNat + 600000000000) ++ le 1 s.boot.mode.code ++
              le 1 s.warden.lc.code ++ [if vendor then 1 else 0] ++ zeros 5 ++ fit 48 off.1 ++ slice i 8 8 ++ slice i 16 48
            Serves (.quorumChallenge k) s
              { d.2 with alarms := { s.alarms with
                  nextChallenge := s.alarms.nextChallenge + 1
                  challenges := s.alarms.challenges ++ [(⟨s.alarms.nextChallenge, BitVec.ofNat 16 (u16 i 0), BitVec.ofNat 64 (u64 i 8),
                    slice i 16 48, text, vendor⟩ : Challenge)] } } e c' text)))) ∧
    (∀ s' c', Asks s k.toNat 0x8092 e c → Granted s c s' c' →
      let w := s.warden
      let named := u32 i 0 = w.lockSeq.toNat ∧ u16 i 4 = w.lockCause.toNat ∧ zeroAt i 6 2 = true ∧ slice i 8 12 = w.lockPm.octets ∧
        zeroAt i 0x14 44 = true
      (s.boot.mode ≠ .locked → Fails (.unlock k) s s' e c' modeRefused) ∧
      (s.boot.mode = .locked → ¬ named → Fails (.unlock k) s s' e c' badField) ∧
      (s.boot.mode = .locked → named → Fits s c 0 → Gives (.unlock k) s fun t =>
        t.warden.lockRec = false ∧ t.boot = s.boot ∧ t.cmd e = some ({ c' with after := .unlock }.result stOk [])))

/-- QUORUM_GRANT judges the signatures over a challenge, which it consumes: a good quorum leaves a grant for the
challenge's opcode, CMD_ID and digest on the command's port; too few signatures are QUORUM_REQUIRED, and a bad one is
AUTH_FAILED (R537, R540, R541). -/
def Claims.GrantsAreGiven : Prop :=
  ∀ (s : State) (k : CoreId) (e : Nat) (c : Cmd) (ch : Challenge),
    let i := c.input
    let count := u8 i 4
    let off := s.warden.officers.getD (zeros 48, 0, 0)
    let carried := !s.boot.applied && s.warden.officers.isSome
    let entry (j : Nat) : Octets := slice i (8 + 104 * j) 104
    let body := if carried then i.drop (8 + 104 * count) else s.boot.officers
    let ids := (List.range count).map (fun j => u8 (entry j) 0)
    let counted := ids.filter (fun x => x != 0xFF && (officerMask body x).testBit ((quorumBit ch.opcode.toNat).getD 0))
    let b : State := { s with alarms := { s.alarms with challenges := s.alarms.challenges.filter (fun x => x.id ≠ ch.id) } }
    let c' : Cmd := { c with journalled := true }
    let signed := ∀ j, j < count → verifyP384 (if u8 (entry j) 0 = 0xFF then Config.fieldAccessKey else officerKey body (u8 (entry j) 0))
      (sha 48 (ascii "PRK3680-QUORUM" ++ ch.text)) (slice (entry j) 8 96) = true
    let enough := (ch.needVendor = true → 0xFF ∈ ids) ∧
      (s.warden.officers.isSome = true → ch.opcode ≠ 0x8014 ∨ s.warden.lc = .commissioned → off.2.1 ≤ counted.length)
    Asks s k.toNat 0x8091 e c → s.boot.mode ∈ quorumModes → 1 ≤ count → count ≤ 17 → zeroAt i 5 3 = true →
    (∀ j, j < count → zeroAt (entry j) 1 7 = true) → i.length = 8 + 104 * count + (if carried then 0x38 + 104 * off.2.2 else 0) →
    ((∀ x ∈ s.alarms.challenges, x.id.toNat ≠ u32 i 0) → Fails (.quorumGrant k) s s e c' authFailed) ∧
    (s.alarms.challenges.find? (fun x => x.id.toNat == u32 i 0) = some ch →
      (carried = true → officerDigest body ≠ off.1 → Fails (.quorumGrant k) s b e c' authFailed) ∧
      ((carried = true → officerDigest body = off.1) → (distinct ids).length = ids.length → (∀ x ∈ ids, x = 0xFF ∨ x < off.2.2) →
        (¬ signed → Fails (.quorumGrant k) s b e c' authFailed) ∧
        (signed → ¬ enough → Fails (.quorumGrant k) s b e c' quorumRequired) ∧
        (signed → enough → Fits s c 0 → Serves (.quorumGrant k) s
          { b with alarms := { b.alarms with grants := b.alarms.grants ++
            [{ portB := c.fn.portB, opcode := ch.opcode, cmdId := ch.cmdId, digest := ch.digest, officers := maskOf counted }] } } e c' [])))

/-- The services that report: BATTERY_LOG, HEALTH_REPORT, RNG_STATUS, FRANK_CERT and ATTEST answer what they name and
change nothing but, for ATTEST, what its Postmark and signature draw (R352, R473, R487, R531). -/
def Claims.ServicesReport : Prop :=
  ∀ (s : State) (k : CoreId) (e : Nat) (c : Cmd),
    (Asks s k.toNat 0x8095 e c → Fits s c 2064 → Serves (.batteryLog k) s s e c
      (fit 2064 (le 1 s.warden.blog.length ++ le 1 s.warden.blogNewest ++ le 2 s.warden.blogDropped.toNat ++ le 4 s.warden.rtcS.toNat ++
        zeros 8 ++ s.warden.blog.flatMap BlogEntry.octets))) ∧
    (Asks s k.toNat 0x8081 e c → Fits s c 128 → Serves (.healthReport k) s s e c (healthOctets s)) ∧
    (Asks s k.toNat 0x8061 e c → Fits s c 56 → Serves (.rngStatus k) s s e c (rngRegisters s)) ∧
    (let cert := Config.identityCert.take 640
     Asks s k.toNat 0x0A02 e c → Fits s c (232 + cert.length) → Serves (.frankCert k) s s e c
      (fit 224 s.keys.frankCert ++ le 2 cert.length ++ zeros 6 ++ cert)) ∧
    (∀ sig b, Asks s k.toNat 0x0A01 e c → Fits s c 288 →
      let p := stamp s (srcCore k.toNat)
      let text := le 8 s.warden.serial.toNat ++ le 2 0x3680 ++ le 2 0x0A01 ++ le 4 s.boot.fwBuild.toNat ++ le 4 s.boot.imgSeq.toNat ++
        le 1 s.boot.mode.code ++ le 1 s.warden.lc.code ++ zeros 2 ++ p.1.octets ++ zeros 4 ++
        fit 48 ((s.warden.officers.map (·.1)).getD []) ++ fit 48 s.boot.imageHash ++ fit 32 c.input ++ (sha 48 s.keys.frankPub).take 8 ++
        zeros 16
      Signs p.2 k text sig b → Serves (.attest k) s b e c (text ++ sig))

/-- TAMPER_CONFIG sets EXT_CFG at its commit in MAINTENANCE, but for an input that its new setting would trip;
DRY_FIRE opens the suppression window of a monitor that runs and keeps its core, one window at a time (R533 to R536).
-/
def Claims.TamperServices : Prop :=
  ∀ (s : State) (k : CoreId) (e : Nat) (c : Cmd) (levels : BitVec 4) (raw : Bool),
    (∀ s' c', Asks s k.toNat 0x8094 e c → Granted s c s' c' →
      let v : BitVec 16 := BitVec.ofNat 16 (u16 c.d.params 0)
      let legal := ∀ n, n < 4 → v.getLsbD (4 * n + 3) = false
      let quiet := ∀ n, n < 4 → 2 ≤ extClass v n → levels.getLsbD n ≠ extHigh v n
      (s.boot.mode ≠ .maintenance → Fails (.tamperConfig k levels) s s' e c' modeRefused) ∧
      (s.boot.mode = .maintenance →
        (¬ legal → Fails (.tamperConfig k levels) s s' e c' badField) ∧
        (legal → ¬ quiet → Fails (.tamperConfig k levels) s s' e c' policyDenied) ∧
        (legal → quiet → Fits s c 0 →
          Serves (.tamperConfig k levels) s s' e { c' with effects := c'.effects ++ [Effect.extCfg v] } []))) ∧
    (Asks s k.toNat 0x8093 e c → (∀ d, s.alarms.dryFire = some d → d.cmd ≠ e) →
      let n := u8 c.d.params 0
      let c' : Cmd := { c with journalled := true }
      let runs := n ≤ 17 ∧ monRuns s n = true
      (s.boot.mode ≠ .staged → s.boot.mode ≠ .service → s.boot.mode ≠ .standby → s.boot.mode ≠ .maintenance →
        Fails (.dryFire k raw) s s e c' modeRefused) ∧
      (s.boot.mode = .staged ∨ s.boot.mode = .service ∨ s.boot.mode = .standby ∨ s.boot.mode = .maintenance →
        (¬ runs → Fails (.dryFire k raw) s s e c' badField) ∧
        (runs → raw = true → Fails (.dryFire k raw) s s e c' policyDenied) ∧
        (runs → raw = false → s.alarms.dryFire ≠ none → Fails (.dryFire k raw) s s e c' busyRetry) ∧
        (runs → raw = false → s.alarms.dryFire = none → Fits s c 16 → exec (.dryFire k raw) s = answer
          ({ s with alarms := { s.alarms with dryFire := some { monitor := n, cmd := e } } }.setCmd e c'))))

/-- The self-tests and the mode of the entropy unit: RNG_SELFTEST and RNG_CONFIG take the unit offline until their
turn ends, one at a time; RNG_CONFIG changes the mode at its commit where 24 cells pass; RNG_RAW_READ answers raw bits
in DIAGNOSTIC; ARRAY_SELFTEST retires the lanes that fail (R236, R327, R350, R351, R352, R356). -/
def Claims.UnitsAreTested : Prop :=
  ∀ (s : State) (k : CoreId) (e : Nat) (c : Cmd) (m64 : BitVec 64) (m16 : BitVec 16) (df ex : BitVec 4),
    let up := s.boot.mode = .staged ∨ s.boot.mode = .service ∨ s.boot.mode = .standby ∨ s.boot.mode = .maintenance
    (Asks s k.toNat 0x8060 e c → up → Fits s c 16 →
      (s.entropy.offline = true → Fails (.rngSelftest k m64 df ex) s s e c busyRetry) ∧
      (s.entropy.offline = false → ~~~s.warden.retCells &&& ~~~m64 &&& ~~~s.entropy.quarMask = 0 → df = 15 → ex = 15 →
        s.entropy.laneFail = 0 → 24 ≤ healthyCells s → s.entropy.failed = false →
        Gives (.rngSelftest k m64 df ex) s fun t => t.entropy.offline = true ∧ t.entropy.offlineBy = some e ∧
          t.entropy.failed = false ∧ t.entropy.insts = s.entropy.insts ∧
          t.cmd e = some (c.result stOk (le 8 (~~~s.warden.retCells &&& m64).toNat ++ [15, 15] ++ zeros 6)))) ∧
    (let n := u8 c.d.params 0
     Asks s k.toNat 0x8062 e c → s.boot.mode = .maintenance ∨ s.boot.mode = .diagnostic →
      (n ∉ condModes ∨ zeroAt c.d.params 1 23 = false → Fails (.rngConfig k m64) s s e c badField) ∧
      (n ∈ condModes → zeroAt c.d.params 1 23 = true → Fits s c 0 →
        (s.entropy.offline = true → Fails (.rngConfig k m64) s s e c busyRetry) ∧
        (s.entropy.offline = false → ~~~s.warden.retCells &&& ~~~m64 &&& ~~~s.entropy.quarMask = 0 → s.entropy.laneFail = 0 →
          24 ≤ healthyCells s → s.entropy.failed = false → 24 ≤ popCount 64 (~~~s.warden.retCells &&& m64).toNat →
          Gives (.rngConfig k m64) s fun t => t.entropy.condMode = s.entropy.condMode ∧ t.entropy.offline = true ∧
            t.entropy.offlineBy = some e ∧
            t.cmd e = some ({ c with effects := c.effects ++ [Effect.rngMode (BitVec.ofNat 8 n)], stateChanging := true,
                                     journalled := true, keepsReplay := true }.result stOk [])))) ∧
    (let p := c.d.params
     let d := drawOctets s (u32 p 4)
     Asks s k.toNat 0x8063 e c →
      (s.boot.mode ≠ .diagnostic → Fails (.rngRawRead k) s s e c modeRefused) ∧
      (s.boot.mode = .diagnostic → u8 p 0 ≤ 63 → zeroAt p 1 3 = true → 1 ≤ u32 p 4 → u32 p 4 ≤ 65536 → zeroAt p 8 16 = true →
        Fits s c (u32 p 4) → Serves (.rngRawRead k) s d.2 e c d.1)) ∧
    (Asks s k.toNat 0x8030 e c →
      (¬ up → Fails (.arraySelftest k m64 m16) s s e c modeRefused) ∧
      (up → Fits s c 16 → s.boot.laneMask &&& ~~~s.warden.retLanes &&& m64 = 0 → ~~~s.warden.retHash &&& m16 = 0 →
        Serves (.arraySelftest k m64 m16) s s e c
          (le 8 (s.boot.laneMask &&& ~~~s.warden.retLanes).toNat ++ le 2 (~~~s.warden.retHash).toNat ++ zeros 6)) ∧
      (up → Fits s c 16 → Gives (.arraySelftest k m64 m16) s fun t => ∀ n, n < 64 →
        (s.boot.laneMask &&& ~~~s.warden.retLanes &&& m64).getLsbD n = true → t.warden.retLanes.getLsbD n = true))

/-- ROLE_SWAP on the active module of a mirrored pair records every tenant's tail and keeps its core; PAIR_FORCE makes a
detached standby, with PEER_CROWN_IN low, begin to take the Crown (R512, R515). -/
def Claims.PairServices : Prop :=
  ∀ (s : State) (k : CoreId) (e : Nat) (c : Cmd) (peerIn : Bool),
    (Asks s k.toNat 0x8080 e c → (∀ w, s.pair.swap = some w → w.cmd ≠ e) →
      let legal := zeroAt c.d.params 1 23 = true ∧ u8 c.d.params 0 ≤ 100
      let ready := s.pair.mirroring = true ∧ s.pair.copying = false ∧ s.pair.swap = none ∧ modeBusy s = false
      (¬ legal → Fails (.roleSwap k) s s e c badField) ∧
      (legal → leads s = false → Fails (.roleSwap k) s s e c modeRefused) ∧
      (legal → leads s = true → ¬ ready → Fails (.roleSwap k) s s e c busyRetry) ∧
      (legal → leads s = true → ready → Fits s c 0 → Gives (.roleSwap k) s fun t => Only [.so, .pair, .outbox, .msix] s t ∧
        t.cmd e = some c ∧ t.pair = { s.pair with swap := some { cmd := e, tails := tenantTails s, handed := false } })) ∧
    (∀ s' c', Asks s k.toNat 0x8082 e c → Granted s c s' c' →
      (s.boot.mode ≠ .standby ∨ s.pair.role ≠ .detached ∨ peerIn = true → Fails (.pairForce k peerIn) s s' e c' modeRefused) ∧
      (s.boot.mode = .standby → s.pair.role = .detached → peerIn = false → s.entropy.failed = true →
        Fails (.pairForce k peerIn) s s' e c' entropyFailed) ∧
      (s.boot.mode = .standby → s.pair.role = .detached → peerIn = false → s.entropy.failed = false → canServe s' 6 = true → Fits s c 0 →
        Serves (.pairForce k peerIn) s
          { s' with pair := { s'.pair with crownOut := true, taking := some .force, backedOff := none } } e c' []))

/-! ### The domain-root ceremony (chapter 09) -/

/-- CEREMONY_BEGIN opens a ceremony with a drawn ID and key pair, and a generating one with a drawn root and its shares;
it answers ID and public point under the identity key's signature (R317 to R319). -/
def Claims.CeremoniesBegin : Prop :=
  ∀ (s : State) (k : CoreId) (e : Nat) (c : Cmd) (s' : State) (c' : Cmd) (d1 d2 d3 d4 : Octets × State) (sig : Octets) (b : State),
    let i := c.input
    let load := u8 i 1 == 2
    let m := u8 i 2
    let n := u8 i 3
    let priv := be 48 (beNat d2.1 % (p384.n - 1) + 1)
    let pub := publicP384 priv
    let text := d1.1 ++ pub ++ zeros 15
    let fresh : Ceremony := { id := d1.1, index := u8 i 0, isLoad := load, m := m, n := n, legacy := (u8 i 4).testBit 0,
                              expect := slice i 8 8, priv := priv, pub := pub }
    CeremonyAsks s k 0x8050 e c s' c' → s.entropy.failed = false →
    let legal := u8 i 0 < 16 ∧ (u8 i 1 = 1 ∨ u8 i 1 = 2) ∧ u8 i 4 < 2 ∧ zeroAt i 5 3 = true ∧ (load = true ∨ zeroAt i 8 8 = true)
    let shares := 2 ≤ m ∧ m ≤ n ∧ n ≤ 16 ∧ n ≤ (s.warden.officers.map (fun x => x.2.2)).getD 0 ∧ (load = true ∨ u8 i 4 = 0)
    (¬ legal → Fails (.ceremonyBegin k) s s' e c' badField) ∧
    (legal → drInstalled s (u8 i 0) = true → Fails (.ceremonyBegin k) s s' e c' policyDenied) ∧
    (legal → drInstalled s (u8 i 0) = false →
      (¬ shares → Fails (.ceremonyBegin k) s s' e c' badField) ∧
      (shares → s.keys.ceremony ≠ none → Fails (.ceremonyBegin k) s s' e c' busyRetry) ∧
      (shares → s.keys.ceremony = none → Fits s c 224 → Draws s' 6 16 d1 → Draws d1.2 6 56 d2 →
        (load = true → Signs d2.2 k text sig b →
          Serves (.ceremonyBegin k) s (withCeremony b (some fresh)) e c' (text ++ sig)) ∧
        (load = false → Draws d2.2 6 32 d3 → Draws d3.2 6 (32 * (m - 1)) d4 → Signs d4.2 k text sig b →
          Serves (.ceremonyBegin k) s (withCeremony b (some { fresh with
            root := d3.1
            shares := (List.range n).map (fun j => (j + 1, shareValue d3.1 d4.1 m (j + 1), kdf d3.1 (ascii "PRK3680-DR-CHECK") 64)) }))
            e c' (text ++ sig))))

/-- SHARE_EXPORT answers each share once, wrapped to the point that its officer signed for; SHARE_SUBMIT takes a
wrapped share that agrees with the ceremony, each x once; without a ceremony both are MODE_REFUSED (R317 to R319,
R321). -/
def Claims.SharesTravel : Prop :=
  ∀ (s : State) (k : CoreId) (e : Nat) (c : Cmd) (s' : State) (c' : Cmd) (y : Ceremony),
    let i := c.input
    let idx := u8 i 0
    let point := slice i 8 97
    (CeremonyAsks s k 0x8051 e c s' c' →
      (s.keys.ceremony = none → Fails (.shareExport k) s s' e c' modeRefused) ∧
      (s.keys.ceremony = some y → zeroAt i 1 7 = true → y.isLoad = false → idx < y.n →
        (idx + 1 ∈ y.exported → Fails (.shareExport k) s s' e c' badField) ∧
        (idx + 1 ∉ y.exported → idx < u8 s.boot.officers 0 →
          (verifyP384 (officerKey s.boot.officers idx) (sha 48 (y.id ++ point)) (slice i 105 96) = false →
            Fails (.shareExport k) s s' e c' authFailed) ∧
          (∀ peer d v chk, verifyP384 (officerKey s.boot.officers idx) (sha 48 (y.id ++ point)) (slice i 105 96) = true →
            decodePoint p384 point = .ok peer → Fits s c 161 → s.entropy.failed = false → Draws s' 6 56 d →
            y.shares.find? (fun x => x.1 == idx + 1) = some (idx + 1, v, chk) →
            let priv := beNat d.1 % (p384.n - 1) + 1
            let eph := publicP384 (be 48 priv)
            let plain := le 1 (idx + 1) ++ le 1 y.index ++ le 1 y.m ++ le 1 y.n ++ zeros 4 ++ fit 32 v ++ fit 8 chk
            Serves (.shareExport k) s (withCeremony d.2 (some { y with exported := y.exported ++ [idx + 1] })) e c'
              (eph ++ sivEnc (shareKey priv peer eph point) [] plain))))) ∧
    (CeremonyAsks s k 0x8052 e c s' c' →
      let wrapped := slice i 105 64
      let good := verifyP384 (officerKey s.boot.officers idx) (sha 48 (y.id ++ point ++ wrapped)) (slice i 169 96) = true
      (s.keys.ceremony = none → Fails (.shareSubmit k) s s' e c' modeRefused) ∧
      (s.keys.ceremony = some y → zeroAt i 1 7 = true → y.isLoad = true → idx < u8 s.boot.officers 0 →
        (¬ good → Fails (.shareSubmit k) s s' e c' authFailed) ∧
        (∀ peer, good → decodePoint p384 point = .ok peer →
          let opened := sivDec (shareKey (beNat y.priv) peer point y.pub) [] wrapped
          (opened = none → Fails (.shareSubmit k) s s' e c' badField) ∧
          (∀ p, opened = some p →
            let agrees := u8 p 1 = y.index ∧ u8 p 2 = y.m ∧ u8 p 3 = y.n ∧ 1 ≤ u8 p 0 ∧ u8 p 0 ≤ y.n ∧ zeroAt p 4 4 = true ∧
              ∀ z ∈ y.shares, z.1 ≠ u8 p 0
            (¬ agrees → Fails (.shareSubmit k) s s' e c' badField) ∧
            (agrees → Fits s c 0 → Serves (.shareSubmit k) s
              (withCeremony s' (some { y with shares := y.shares ++ [(u8 p 0, slice p 8 32, slice p 40 8)] })) e c' [])))))

/-- CEREMONY_COMMIT installs the root that the shares give, or that was drawn and exported whole, and ends the
ceremony; the first root makes an ISSUED module COMMISSIONED. Shares that give another root than the check value names
are VERIFY_FAILED (R54, R318, R320). Too few shares end it with a status that no rule states (log entry 34). -/
def Claims.RootsAreInstalled : Prop :=
  ∀ (s : State) (k : CoreId) (e : Nat) (c : Cmd) (s' : State) (c' : Cmd) (y : Ceremony), CeremonyAsks s k 0x8053 e c s' c' →
    (s.keys.ceremony = none → Fails (.ceremonyCommit k) s s' e c' modeRefused) ∧
    (s.keys.ceremony = some y →
      let root := if y.isLoad then combineShares ((y.shares.take y.m).map (fun x => (x.1, x.2.1))) else y.root
      let check := kdf root (ascii "PRK3680-DR-CHECK") 64
      let complete := if y.isLoad then y.m ≤ y.shares.length else y.exported.length = y.n
      let agrees := y.isLoad = true → check = y.expect ∧ ∀ x ∈ y.shares, x.2.2 = check
      (¬ complete → Fails (.ceremonyCommit k) s s' e c' Config.sharesMissing) ∧
      (complete → ¬ agrees → Fails (.ceremonyCommit k) s s' e c' verifyFailed) ∧
      (complete → agrees → Fits s c 8 → Gives (.ceremonyCommit k) s fun t =>
        lookup t.warden.roots y.index = some { root := root, check := check, legacy := y.legacy, m := y.m, n := y.n } ∧
        (∀ d, d ≠ y.index → lookup t.warden.roots d = lookup s.warden.roots d) ∧ t.keys.ceremony = none ∧
        t.warden.lc = (if s.warden.lc = .issued then .commissioned else s.warden.lc) ∧
        t.cmd e = some (c'.result stOk check)))

/-- DR_ERASE removes a root that no slot's domain uses, and with domain 0 the PF0s' tenant roots; the hour of a ceremony's
timeout erases it (R321, R322, R325). -/
def Claims.RootsAreErased : Prop :=
  ∀ (s : State) (k : CoreId) (e : Nat) (c : Cmd) (s' : State) (c' : Cmd),
    let d := u8 c.input 0
    (CeremonyAsks s k 0x8054 e c s' c' →
      (16 ≤ d → Fails (.drErase k) s s' e c' badField) ∧
      (d < 16 → (∃ x ∈ s.slots.table, x.2.f.domain.toNat = d) → Fails (.drErase k) s s' e c' policyDenied) ∧
      (d < 16 → (∀ x ∈ s.slots.table, x.2.f.domain.toNat ≠ d) → Fits s c 0 → Serves (.drErase k) s
        { s' with
          warden := { s'.warden with roots := removeAt s'.warden.roots d }
          keys := { s'.keys with
            rootFile := if d = 0 then s'.keys.rootFile.filter (fun x => decide (x.1 < 512)) else s'.keys.rootFile } } e c' [])) ∧
    exec .ceremonyTimeout s = answer (withCeremony s none)

/-! ### Register writes (chapters 01 to 04, 14 to 16) -/

/-- A write that the host cannot make, at an address that is no multiple of its size, to a reserved or read-only
offset, or to a pigeonhole that the slot does not have, changes nothing (R6, R7, R76). -/
def Claims.IgnoredWrites : Prop :=
  ∀ (s : State) (fn : Fn) (bar2 wide : Bool) (off : BitVec 16) (v : BitVec 64) (w : BitVec 32),
    (fnReachable s fn = false → exec (.registerWrite fn bar2 off wide v) s = answer s) ∧
    (off.toNat % (if wide then 8 else 4) ≠ 0 → exec (.registerWrite fn bar2 off wide v) s = answer s) ∧
    (∀ b, ∀ o ∈ [0x0000, 0x0004, 0x0010, 0x0100, 0x0104, 0x0130, 0x0134, 0x0138, 0x0200, 0x020C, 0x0804, 0x1000, 0x1008, 0x8000],
      exec (pf0Write b o w) s = answer s) ∧
    (fn.vf ≠ 0 → ∀ i, i < 64 → globalPh s fn i = none → ∀ o ∈ [0x00, 0x04, 0x08, 0x0C, 0x10, 0x14, 0x18, 0x1C],
      exec (wordWrite fn (0x0800 + 0x20 * i + o) w) s = answer s)

/-- A write to a register whose write has a row of its own acts as that row: doorbells, ENABLE, the selectors, START,
ABORT, RESET_CTRL, HEAD, the MSI-X mask (R6, R44, R63, R78 to R81, R99, R141, R437, R471). -/
def Claims.WritesActAsRows : Prop :=
  ∀ (s : State) (fn : Fn) (b : Bool) (i : BitVec 6) (w : BitVec 32) (v : BitVec 64),
    let bell := (if fn.vf = 0 then 0x1100 else 0x0100) + 0x10 * i.toNat
    let cfg := (if fn.vf = 0 then 0x1400 else 0x0800) + 0x20 * i.toNat
    let up := (s.port b).linkUp = true
    (i.toNat < (if fn.vf = 0 then 32 else 64) →
      exec (wordWrite fn bell w) s = exec (.sqTail fn i (w.extractLsb' 0 16)) s ∧
      exec (wordWrite fn (bell + 4) w) s = exec (.cqHead fn i (w.extractLsb' 0 16)) s ∧
      (w.getLsbD 16 = true → exec (wordWrite fn (cfg + 0x10) w) s =
        exec (.enable fn i (w.extractLsb' 0 5) (w.extractLsb' 8 6)) s) ∧
      (∀ n, AtPh s fn i.toNat n → w.getLsbD 16 = false →
        ((s.ph n).enable = true → exec (wordWrite fn (cfg + 0x10) w) s = exec (.enableOff fn i) s) ∧
        ((s.ph n).enable = false → (s.ph n).draining = false → exec (wordWrite fn (cfg + 0x10) w) s =
          answer (s.setPh n { s.ph n with depthLog2 := w.extractLsb' 0 5, vector := w.extractLsb' 8 6 })))) ∧
    (up → exec (pf0Write b 0x0800 w) s = exec (.phSel b (w.extractLsb' 0 12)) s ∧
      exec (pf0Write b 0x0810 w) s = exec (.slotSel b (w.extractLsb' 0 10)) s ∧
      exec (pf0Write b 0x0840 w) s = exec (.histSel b (w.extractLsb' 0 3) (w.extractLsb' 3 3)) s ∧
      exec (pf0Write b 0x2000 w) s = exec (.slotTabSel b (w.extractLsb' 0 10)) s ∧
      (w.getLsbD 1 = true → exec (pf0Write b 0x012C w) s = exec .abort s) ∧
      (w.getLsbD 1 = false → w.getLsbD 0 = true → exec (pf0Write b 0x012C w) s = exec (.start b) s) ∧
      (w.getLsbD 0 = true → exec (pf0Write b 0x013C w) s = exec (.warm (w.extractLsb' 8 8)) s) ∧
      exec (.registerWrite ⟨b, 0⟩ false 0x4020 true v) s = exec (.journalHead b v) s ∧
      exec (.registerWrite ⟨b, 0⟩ false 0x0178 true v) s = exec (.relayIn v) s ∧
      (i.toNat < 40 → w.getLsbD 0 = false →
        exec (.registerWrite ⟨b, 0⟩ true (BitVec.ofNat 16 (0x10 * i.toNat + 12)) false (w.setWidth 64)) s =
          exec (.msixUnmask ⟨b, 0⟩ i) s))

/-- The other registers hold what is written in their writable fields; write-one-to-clear bits go; the ring bases are
ignored while ENABLE is 1 or a drain runs (R6, R7, R79, R98, R99, R501, R524, chapters 03, 04, 14, 15). -/
def Claims.WritesHold : Prop :=
  ∀ (s : State) (fn : Fn) (b : Bool) (i n : Nat) (w : BitVec 32) (v : BitVec 64),
    let bit (j : Nat) : Bool := w.getLsbD j
    let clears (old : Bool) (j : Nat) : Bool := old && !bit j
    let cfg := (if fn.vf = 0 then 0x1400 else 0x0800) + 0x20 * i
    let up := (s.port b).linkUp = true
    let long (fn : Fn) (off : Nat) : Instr := .registerWrite fn false (BitVec.ofNat 16 off) true v
    (AtPh s fn i n → i < (if fn.vf = 0 then 32 else 64) →
      ((s.ph n).enable = true ∨ (s.ph n).draining = true → exec (long fn cfg) s = answer s ∧ exec (long fn (cfg + 8)) s = answer s) ∧
      ((s.ph n).enable = false → (s.ph n).draining = false →
        exec (long fn cfg) s = answer (s.setPh n { s.ph n with sqBase := v }) ∧
        exec (long fn (cfg + 8)) s = answer (s.setPh n { s.ph n with cqBase := v })) ∧
      exec (wordWrite fn (cfg + 0x14) w) s =
        answer (s.setPh n { s.ph n with count := w.extractLsb' 0 8, timeUs := w.extractLsb' 8 10 })) ∧
    (up →
      exec (pf0Write b 0x0120 w) s = answer { s with boot := { s.boot with imgAddr := s.boot.imgAddr.extractLsb' 32 32 ++ w } } ∧
      exec (pf0Write b 0x0124 w) s = answer { s with boot := { s.boot with imgAddr := w ++ s.boot.imgAddr.setWidth 32 } } ∧
      exec (pf0Write b 0x0128 w) s = answer { s with boot := { s.boot with imgLen := w } } ∧
      exec (pf0Write b 0x0180 w) s = answer { s with pair := { s.pair with
        interlockHeld := clears s.pair.interlockHeld 10
        verRefused := clears s.pair.verRefused 11
        domainRefused := clears s.pair.domainRefused 12 } } ∧
      exec (pf0Write b 0x0184 w) s = answer { s with pair := { s.pair with
        leaseUs := if 100 ≤ w.toNat % 1024 ∧ w.toNat % 1024 ≤ 1000 then w.extractLsb' 0 10 else s.pair.leaseUs
        relayEn := bit 10
        vec := w.extractLsb' 11 3 } } ∧
      exec (pf0Write b 0x0204 w) s = answer { s with alarms := { s.alarms with
        evE := clears s.alarms.evE 0
        evL := clears s.alarms.evL 1
        evF := clears s.alarms.evF 2
        evN := clears s.alarms.evN 3 } } ∧
      exec (pf0Write b 0x0208 w) s = answer { s with alarms := { s.alarms with
        vec := w.extractLsb' 0 3
        fIrq := bit 3
        nIrq := bit 4 } } ∧
      exec (pf0Write b 0x0830 w) s = answer (s.setPort b { s.port b with coreSel := w.extractLsb' 0 7 }) ∧
      exec (pf0Write b 0x0A40 w) s = answer { s with so := { s.so with
        resteer := clears s.so.resteer 0
        dl3Full := clears s.so.dl3Full 1 } } ∧
      exec (pf0Write b 0x1004 w) s = answer (s.setPort b { s.port b with
        rateChange := clears (s.port b).rateChange 0
        widthChange := clears (s.port b).widthChange 1
        linkDown := clears (s.port b).linkDown 2 }) ∧
      exec (pf0Write b 0x4010 w) s = answer { s with journal := { s.journal with streamLog2 := w.extractLsb' 0 5, port := b } } ∧
      exec (pf0Write b 0x4048 w) s = answer { s with journal := { s.journal with
        startLost := clears s.journal.startLost 1
        port := b } } ∧
      exec (long ⟨b, 0⟩ 0x4008) s = answer { s with journal := { s.journal with streamBase := v, port := b } } ∧
      exec (long ⟨b, 0⟩ 0x4018) s = answer { s with journal := { s.journal with startSeq := v, port := b } } ∧
      exec (pf0Write b 0x8018 w) s = answer { s with tb := { s.tb with
        ptmEn := bit 0
        ptmPort := bit 1
        stepOk := bit 2
        periodMs := w.extractLsb' 8 10 } } ∧
      exec (pf0Write b 0x801C w) s = answer { s with tb := { s.tb with
        refused := clears s.tb.refused 3
        ptmFail := clears s.tb.ptmFail 4 } } ∧
      (i < 40 →
        let key := msixKey ⟨b, 0⟩ i
        let m := tget ({} : MsixVec) s.msix key
        let put (o : Nat) : Instr := .registerWrite ⟨b, 0⟩ true (BitVec.ofNat 16 (0x10 * i + o)) false (w.setWidth 64)
        exec (put 0) s = answer { s with msix := tset {} s.msix key { m with addr := m.addr.extractLsb' 32 32 ++ w } } ∧
        exec (put 4) s = answer { s with msix := tset {} s.msix key { m with addr := w ++ m.addr.setWidth 32 } } ∧
        exec (put 8) s = answer { s with msix := tset {} s.msix key { m with data := w } } ∧
        (bit 0 = true → exec (put 12) s = answer { s with msix := tset {} s.msix key { m with masked := true } })))

/-! ### All services (chapters 04 to 16) -/

/-- A service acts only on the core that runs a landed command of its opcode with no result yet; otherwise its row changes
nothing (R94, R126, R390). -/
def Claims.ServicesNeedTheirCommand : Prop :=
  ∀ (i : Instr) (s : State) (k : CoreId) (op : Code), serviceOf i = some (k, op) →
    (∀ e c, ¬ Asked s k.toNat op e c) → exec i s = answer s

/-- An input whose length is not the one that its header calls for is BAD_LENGTH (R94, R156, R173, R195, R203, R258). -/
def Claims.LengthsAreChecked : Prop :=
  ∀ (i : Instr) (s : State) (k : CoreId) (op : Code) (e : Nat) (c : Cmd) (n : Nat),
    serviceOf i = some (k, op) → Asks s k.toNat op e c → lengthOf c.input i = some n → c.input.length ≠ n →
    Fails i s s e c badLength

/-! ### Working memory -/

/-- From every state whose working memory is in its canonical form (addresses strictly rising, no octet listed that reads
as zero anyway), every step answers with a state whose working memory is in it. -/
def Claims.WorkingMemoryKeepsItsForm : Prop :=
  ∀ s t : State, Memory.wf s.wmem = true → step s = .next t → Memory.wf t.wmem = true

/-! ### The statements: the parts above, gathered -/

/-- Reads of a core: general registers and the NEAR map. -/
def Obligations.CoreStateReads : Prop :=
  Claims.RegisterReadsBack ∧ Claims.NearMap

/-- Arithmetic, logic and immediate instructions retire with their result and change nothing else. -/
def Obligations.AluInstructionsRetire : Prop :=
  Claims.ShortOperationsRetire ∧ Claims.LongOperationsRetire ∧ Claims.ImmediateFormsRetire

/-- Branches, jumps and the iterations of a repeat. -/
def Obligations.ControlFlowRetires : Prop :=
  Claims.BranchesRetire ∧ Claims.RepeatCountsDown

/-- NEAR loads and stores, MOVS, MOVT, CYC and the prefixes of repeats. -/
def Obligations.NearAndSpecialRegistersRetire : Prop :=
  Claims.NearAccessesRetire ∧ Claims.SpecialRegistersRetire

/-- Illegal forms and denied accesses end the command with PROGRAM_FAULT. -/
def Obligations.TerminalEventsEndCommands : Prop :=
  Claims.TerminalForms ∧ Claims.FarAndWmuTerminals ∧ Claims.ProgramFaultEndsCommand

/-- The instructions of the wide multiplier. -/
def Obligations.WmuInstructionsRetire : Prop :=
  Claims.WmuOperationsRetire ∧ Claims.WmuReadoutsRetire

/-- Residues follow the accumulator, a mismatch faults, and a scrub holds the unit. -/
def Obligations.ResiduesGuardTheWmu : Prop :=
  Claims.ResidueFollowsAccumulator ∧ Claims.ResidueMismatchFaults ∧ Claims.ScrubHoldsTheWmu

/-- Handled events enter the handler of the service. -/
def Obligations.HandledEvents : Prop :=
  Claims.HandledEvents

/-- Far accesses and far moves: issue, answer and refusal. -/
def Obligations.FarAccesses : Prop :=
  Claims.FarAccessesIssue ∧ Claims.RefusedAccesses ∧ Claims.FarAnswersRetire ∧ Claims.FarMovePieces

/-- DONE hands a completion over; the cycle limit, the scrub and the clearing end. -/
def Obligations.CompletionsHandOver : Prop :=
  Claims.DoneHandsOver ∧ Claims.CycleLimitAndClearing

/-- Jobs of the cipher and hash arrays are taken, held or refused. -/
def Obligations.ArrayJobsSubmit : Prop :=
  Claims.CipherJobsSubmit ∧ Claims.HashJobsSubmit ∧ Claims.KeychainJobs

/-- Jobs end, parity errors count, lanes are tested, and the arrays switch. -/
def Obligations.ArrayEvents : Prop :=
  Claims.JobsEnd ∧ Claims.ParityErrors ∧ Claims.LaneTestsEnd ∧ Claims.ArraySwitches

/-- Every step keeps working memory in its canonical form. The form, and that an unlisted octet reads as zero, are
the model's choice (log entry 8). -/
def Obligations.MemoryKeepsItsForm : Prop :=
  Claims.WorkingMemoryKeepsItsForm

/-- A key-unit request is held, refused or served. -/
def Obligations.KeyRequestOutcomes : Prop :=
  Claims.KeyRequestOutcomes

/-- What served key-unit requests leave, and how they end. -/
def Obligations.KeyRequestsServe : Prop :=
  Claims.KeyRequestsLoad ∧ Claims.SecretAndRequestEnd

/-- Noise cells, their tests, and entropy failure. The counting of the pool is the model's choice (log entry 28). -/
def Obligations.EntropyHealth : Prop :=
  Claims.AptWindows ∧ Claims.CellRetests ∧ Claims.EntropyFailureBegins ∧ Claims.EntropyUpkeep

/-- Requests for randomness, and the commands that wait for it. -/
def Obligations.EntropyServes : Prop :=
  Claims.RandomRequests ∧ Claims.EntropyWaits

/-- ENABLE starts a ring, and its clearing drains it. -/
def Obligations.RingsStartAndDrain : Prop :=
  Claims.RingEnables ∧ Claims.RingDrains

/-- Fetch credits and the placement of pending commands. That credits in flight count as table entries is the
model's choice (log entry 15). -/
def Obligations.DescriptorsAreScheduled : Prop :=
  Claims.FetchCredits ∧ Claims.PendingIsPlaced

/-- The checks at the fetch, in their order, and replayed results. -/
def Obligations.FetchedCommandsAreChecked : Prop :=
  Claims.DescriptorsAreChecked ∧ Claims.ReplayedCommands

/-- The completion entry and its write. -/
def Obligations.CompletionsReachTheRing : Prop :=
  Claims.CompletionEntryLayout ∧ Claims.CompletionsAreWritten

/-- Interrupts, faults of host memory, and the replay window. -/
def Obligations.HostSideEvents : Prop :=
  Claims.InterruptsSignal ∧ Claims.HostFaults ∧ Claims.ReplayWindowEnds

/-- Channel services, the landing of inputs, and which command a service acts on. -/
def Obligations.ChannelControl : Prop :=
  Claims.ChannelServices ∧ Claims.InputsLand ∧ Claims.ServicesNeedTheirCommand ∧ Claims.LengthsAreChecked

/-- Dispatch to a core, the rule-table read, and deferral. -/
def Obligations.DispatchAndDeferral : Prop :=
  Claims.DispatchStartsCommands ∧ Claims.RuleTableReads ∧ Claims.DeferralsHold

/-- Internal work and the observability registers. -/
def Obligations.SortingOfficeUpkeep : Prop :=
  Claims.InternalWork ∧ Claims.ObservabilityActs

/-- Journal entries are chained, and alarms are logged and signalled. -/
def Obligations.JournalAndAlarms : Prop :=
  Claims.JournalEntries ∧ Claims.AlarmsAreLogged

/-- The rise and fall of power-good, and warm resets. -/
def Obligations.PowerAndReset : Prop :=
  Claims.PowerComes ∧ Claims.PowerGoes ∧ Claims.WarmResetsHappen ∧ Claims.ResetIsReleased

/-- The steps of cold boot up to STAGED. What hardware boot steps do in LOCKED or ERASED is the model's reading (log
entry 37). -/
def Obligations.BootSteps : Prop :=
  Claims.CrystalQualifies ∧ Claims.ClocksAndRomStart ∧ Claims.SelfTestsEndBoot

/-- START, the arrival, verification and application of an image. A fetch that fails, and START with ABORT, are the
model's choice (log entry 44). -/
def Obligations.ImagesAreDelivered : Prop :=
  Claims.StartActs ∧ Claims.ImagesArrive ∧ Claims.ImagesAreVerified ∧ Claims.LayoutsAreApplied

/-- The drain of MAINT_ENTER ends, and the erase of MODULE_RETIRE. -/
def Obligations.DrainsAndRetirement : Prop :=
  Claims.DrainsEnd ∧ Claims.RetiringErases

/-- Resets of a port and of a function, and link training. A NumVFs above TotalVFs is ignored by the model's choice
(log entry 14). -/
def Obligations.PortsAndFunctions : Prop :=
  Claims.PortsReset ∧ Claims.LinksTrain ∧ Claims.FunctionsReset

/-- I3C command codes and MCTP messages. Message layouts and codes that the manual leaves out are the model's choice
(log entry 32). -/
def Obligations.ManagementBus : Prop :=
  Claims.I3cCommands ∧ Claims.MctpMessages

/-- The image path over MCTP, and the test access port. Message layouts that the manual leaves out are the model's
choice (log entry 32). -/
def Obligations.ManagementTransfers : Prop :=
  Claims.ImagesOverMctp ∧ Claims.TestAccess

/-- Clock monitors, clock gates and power domains. The order in which refusals of a gate are found is the model's
choice (log entry 36). -/
def Obligations.ClocksAndDomains : Prop :=
  Claims.ClocksAreMonitored ∧ Claims.GatesSwitch ∧ Claims.DomainsSwitch

/-- Tamper monitors, the battery, the warden and dry-fires. -/
def Obligations.TamperAndBattery : Prop :=
  Claims.TamperResponds ∧ Claims.BatteryResponds ∧ Claims.WardenTimers ∧ Claims.DryFiresEnd

/-- A gate admits or refuses a request; sets are loaded, armed, swapped and freed. The opaque cause codes of the
gates' F events are free (log entry 31). -/
def Obligations.GatesDecide : Prop :=
  Claims.GateDecides ∧ Claims.RuleSetsChange ∧ Claims.GateSelfChecks

/-- Clusters, the spare and working-memory channels. -/
def Obligations.UnitsFailAndRecover : Prop :=
  Claims.ClustersAreLost ∧ Claims.SparesAreTested ∧ Claims.MemoryErrorsAct

/-- The journal streams to the host, and TIME is aligned to it. -/
def Obligations.JournalStreamsAndTime : Prop :=
  Claims.JournalStreams ∧ Claims.TimeIsAligned

/-- The interlock of the Crown and the takes. -/
def Obligations.CrownChangesHands : Prop :=
  Claims.InterlockRises ∧ Claims.TakesComplete ∧ Claims.TakesAreRetried

/-- The lease timers and the renewals. That the timers count LOCAL is the model's reading (log entry 46). -/
def Obligations.LeaseRuns : Prop :=
  Claims.LeaseTimersAct ∧ Claims.LeasesRenew

/-- The mirror link, its session and the pair decision. What HELLO carries and how a session is confirmed in detail
is the model's reading (log entries 39 and 47). -/
def Obligations.PairsForm : Prop :=
  Claims.PairsDecide ∧ Claims.MirrorLinkRuns ∧ Claims.SessionsStart

/-- Mirroring from the active module to the standby. Layouts of the messages that the manual leaves out are the
model's own (log entry 7). -/
def Obligations.PairsMirror : Prop :=
  Claims.StandbysFollow ∧ Claims.ActivesLead

/-- Detachment and ROLE_SWAP. Layouts of the messages that the manual leaves out are the model's own (log entry 7). -/
def Obligations.PairsPart : Prop :=
  Claims.PartnersDetach ∧ Claims.RolesSwap

/-- The PIN and card verification services. -/
def Obligations.PinAndCardServices : Prop :=
  Claims.PinsAreTranslated ∧ Claims.PinsAreVerified ∧ Claims.PinsAreGenerated ∧ Claims.CardCodes

/-- The EMV and DUKPT services. Attributes of the keys made that no rule states are free values (log entry 19). -/
def Obligations.EmvAndDukptServices : Prop :=
  Claims.EmvServices ∧ Claims.EmvSessionKeys ∧ Claims.DukptServices ∧ Claims.DukptKeys

/-- The MAC, bulk, tokenisation and random services. -/
def Obligations.MacBulkAndRandomServices : Prop :=
  Claims.MacServices ∧ Claims.BulkServices ∧ Claims.RandomBytes

/-- The key management services. Attributes and curves that no rule states are free values (log entries 19 and 22). -/
def Obligations.KeyManagementServices : Prop :=
  Claims.KeysAreMade ∧ Claims.KeysCross ∧ Claims.KeysAreShown ∧ Claims.RemoteKeyLoading

/-- The public-key services. -/
def Obligations.PublicKeyServices : Prop :=
  Claims.EcdsaSigns ∧ Claims.EcdsaVerifies ∧ Claims.EcKeysAreMade ∧ Claims.RsaSignatures ∧ Claims.RsaKeysAct ∧
  Claims.CurvesAreLoaded

/-- The tenant slot services. The coding of RESUME_STATE in the sealed blob is the model's reading (log entry 33). -/
def Obligations.SlotServices : Prop :=
  Claims.SlotsAreCreated ∧ Claims.SlotsQuiesce ∧ Claims.SlotsResume ∧ Claims.SlotsAreDestroyed ∧ Claims.DirtyLogs ∧
  Claims.SlotsAreSaved ∧ Claims.SlotsAreRestored ∧ Claims.SlotReads

/-- A commit carries the effects of its command out. -/
def Obligations.CommitsTakeEffect : Prop :=
  Claims.CommitsTakeEffect

/-- The mode services and the officer quorum. The place of the grant check is the model's reading (log entry 48). -/
def Obligations.ModeServices : Prop :=
  Claims.QuorumGuards ∧ Claims.MaintenanceBegins ∧ Claims.MaintenanceEnds ∧ Claims.LifeCycleEnds ∧
  Claims.ChallengesAndUnlock ∧ Claims.GrantsAreGiven

/-- The services that report, test and configure. -/
def Obligations.ManagementServices : Prop :=
  Claims.ServicesReport ∧ Claims.TamperServices ∧ Claims.UnitsAreTested ∧ Claims.PairServices

/-- The ceremony of the domain roots. Too few shares end with a status that no rule states (log entry 34). -/
def Obligations.DomainRootCeremony : Prop :=
  Claims.CeremoniesBegin ∧ Claims.SharesTravel ∧ Claims.RootsAreInstalled ∧ Claims.RootsAreErased

/-- Register writes: ignored, held, or acting as a row of their own. How halves of a register are written is the
model's choice (log entry 45). -/
def Obligations.RegisterWrites : Prop :=
  Claims.IgnoredWrites ∧ Claims.WritesActAsRows ∧ Claims.WritesHold
end

