-- ==== Sys2Proof/Laws/Table.lean ====
section
/-! SUPPORT. Sparse tables: reading after writing, and that every operation on a table keeps its canonical form. -/

namespace Sys2Proof.Machine

variable {α : Type}

theorem lookup_insertAt_same (t : List (Nat × α)) (n : Nat) (v : α) : lookup (insertAt t n v) n = some v := by
  induction t with
  | nil => simp [insertAt, lookup]
  | cons x t ih =>
    obtain ⟨k, w⟩ := x
    unfold insertAt
    split
    · simp [lookup]
    · split
      · simp [lookup]
      · rename_i h; simp [lookup, h, ih]

theorem lookup_insertAt_other (t : List (Nat × α)) (n m : Nat) (v : α) (h : m ≠ n) :
    lookup (insertAt t n v) m = lookup t m := by
  induction t with
  | nil => simp [insertAt, lookup, h]
  | cons x t ih =>
    obtain ⟨k, w⟩ := x
    unfold insertAt
    split
    · simp [lookup, h]
    · split
      · rename_i hk; subst hk; simp [lookup, h]
      · simp [lookup, ih]

/-- Nothing is listed below the first key of a rising list. -/
theorem lookup_of_rising (t : List (Nat × α)) (b n : Nat) (hr : risingFrom b t = true) (hn : n < b) :
    lookup t n = none := by
  induction t generalizing b with
  | nil => rfl
  | cons x t ih =>
    obtain ⟨k, w⟩ := x
    simp [risingFrom] at hr
    have : n ≠ k := by omega
    simp [lookup, this]
    exact ih (k + 1) hr.2 (by omega)

theorem lookup_removeAt_same (t : List (Nat × α)) (n : Nat) : lookup (removeAt t n) n = none := by
  induction t with
  | nil => rfl
  | cons x t ih =>
    obtain ⟨k, w⟩ := x
    unfold removeAt
    split
    · exact ih
    · rename_i h; simp [lookup, h, ih]

theorem lookup_removeAt_other (t : List (Nat × α)) (n m : Nat) (h : m ≠ n) : lookup (removeAt t n) m = lookup t m := by
  induction t with
  | nil => rfl
  | cons x t ih =>
    obtain ⟨k, w⟩ := x
    unfold removeAt
    split
    · rename_i hk; subst hk; simp [lookup, h, ih]
    · simp [lookup, ih]

theorem risingFrom_mono (t : List (Nat × α)) (a b : Nat) (h : risingFrom b t = true) (hab : a ≤ b) :
    risingFrom a t = true := by
  cases t with
  | nil => rfl
  | cons x t => obtain ⟨k, w⟩ := x; simp [risingFrom] at *; exact ⟨by omega, h.2⟩

theorem risingFrom_insertAt (t : List (Nat × α)) (b n : Nat) (v : α) (h : risingFrom b t = true) (hb : b ≤ n) :
    risingFrom b (insertAt t n v) = true := by
  induction t generalizing b with
  | nil => simp [insertAt, risingFrom, hb]
  | cons x t ih =>
    obtain ⟨k, w⟩ := x
    simp [risingFrom] at h
    unfold insertAt
    split
    · simp [risingFrom, hb, h.2]; omega
    · split
      · rename_i hk; subst hk; simp [risingFrom, hb, h.2]
      · simp [risingFrom, h.1]; exact ih _ h.2 (by omega)

theorem risingFrom_removeAt (t : List (Nat × α)) (b n : Nat) (h : risingFrom b t = true) :
    risingFrom b (removeAt t n) = true := by
  induction t generalizing b with
  | nil => rfl
  | cons x t ih =>
    obtain ⟨k, w⟩ := x
    simp [risingFrom] at h
    unfold removeAt
    split
    · exact ih _ (risingFrom_mono t _ _ h.2 (by omega))
    · simp [risingFrom, h.1]; exact ih _ h.2

theorem risingFrom_filter (t : List (Nat × α)) (b : Nat) (p : Nat × α → Bool) (h : risingFrom b t = true) :
    risingFrom b (t.filter p) = true := by
  induction t generalizing b with
  | nil => rfl
  | cons x t ih =>
    obtain ⟨k, w⟩ := x
    simp [risingFrom] at h
    rw [List.filter_cons]
    split
    · simp [risingFrom, h.1]; exact ih _ h.2
    · exact ih _ (risingFrom_mono t _ _ h.2 (by omega))

theorem mem_insertAt (t : List (Nat × α)) (n : Nat) (v : α) (x : Nat × α) (h : x ∈ insertAt t n v) :
    x = (n, v) ∨ x ∈ t := by
  induction t with
  | nil => simpa [insertAt] using h
  | cons y t ih =>
    obtain ⟨k, w⟩ := y
    unfold insertAt at h
    split at h
    · simpa using h
    · split at h
      · simp at h; tauto
      · simp at h; rcases h with h | h
        · simp [h]
        · rcases ih h with h | h <;> simp [h]

theorem mem_removeAt (t : List (Nat × α)) (n : Nat) (x : Nat × α) (h : x ∈ removeAt t n) : x ∈ t := by
  induction t with
  | nil => exact h
  | cons y t ih =>
    obtain ⟨k, w⟩ := y
    unfold removeAt at h
    split at h
    · simp [ih h]
    · simp at h; rcases h with h | h
      · simp [h]
      · simp [ih h]

variable [DecidableEq α]

/-- What a table reads after a write at a key: the value written there, and as before elsewhere. -/
@[simp] theorem tget_tset_same (d : α) (t : Tab α) (n : Nat) (v : α) : tget d (tset d t n v) n = v := by
  unfold tset; split
  · rename_i hv; subst hv; simp [tget, lookup_removeAt_same t n]
  · simp [tget, lookup_insertAt_same]

theorem tget_tset_other (d : α) (t : Tab α) (n m : Nat) (v : α) (hm : m ≠ n) : tget d (tset d t n v) m = tget d t m := by
  unfold tset; split
  · simp [tget, lookup_removeAt_other t n m hm]
  · simp [tget, lookup_insertAt_other t n m v hm]

/-- A write keeps the canonical form. -/
theorem tabWf_tset (d : α) (t : Tab α) (n : Nat) (v : α) (h : tabWf d t = true) : tabWf d (tset d t n v) = true := by
  simp only [tabWf, Bool.and_eq_true, List.all_eq_true, decide_eq_true_eq] at *
  unfold tset; split
  · exact ⟨risingFrom_removeAt t 0 n h.1, fun x hx => h.2 x (mem_removeAt t n x hx)⟩
  · rename_i hv
    refine ⟨risingFrom_insertAt t 0 n v h.1 (by omega), fun x hx => ?_⟩
    rcases mem_insertAt t n v x hx with rfl | hx
    · exact hv
    · exact h.2 x hx

/-- Taking entries out keeps the canonical form. -/
theorem tabWf_filter (d : α) (t : Tab α) (p : Nat × α → Bool) (h : tabWf d t = true) : tabWf d (t.filter p) = true := by
  simp only [tabWf, Bool.and_eq_true, List.all_eq_true, decide_eq_true_eq] at *
  exact ⟨risingFrom_filter t 0 p h.1, fun x hx => h.2 x (List.mem_of_mem_filter hx)⟩

theorem tabWf_nil (d : α) : tabWf d ([] : Tab α) = true := rfl

end Sys2Proof.Machine
end

