-- ==== Sys2Proof/Laws/Cpu.lean ====
section
/-! SUPPORT. What the shared operations of a logical core's instructions can do: registers, NEAR stores, the landing of a
load, the end of an instruction. -/

namespace Sys2Proof.Machine

@[simp] theorem State.core_setCore (s : State) (k : Nat) (c : Core) : (s.setCore k c).core k = c := by
  simp [State.core, State.setCore]

theorem State.core_setCore_other (s : State) (k j : Nat) (c : Core) (h : j ≠ k) : (s.setCore k c).core j = s.core j := by
  simp [State.core, State.setCore, tget_tset_other _ _ _ _ _ h]

@[simp] theorem drivePins_core (s : State) (k : Nat) : (drivePins s).core k = s.core k := rfl

theorem Core.reg_setReg (c : Core) (n m : Nat) (v : W36) :
    (c.setReg n v).reg m = if m = 0 then 0 else if m = n then v else c.reg m := by
  by_cases hm : m = 0
  · simp [Core.reg, hm]
  · by_cases hn : n = 0
    · subst hn; simp [Core.setReg, Core.reg, hm]
    · by_cases h : m = n
      · subst h; simp [Core.setReg, Core.reg, hm]
      · simp [Core.setReg, Core.reg, hm, hn, h, tget_tset_other _ _ _ _ _ h]

/-- A register write changes nothing but the register file. -/
theorem Core.setReg_eq (c : Core) (n : Nat) (v : W36) : c.setReg n v = { c with regs := (c.setReg n v).regs } := by
  unfold Core.setReg; split <;> rfl

/-- Writing a list of registers changes nothing but the register file. -/
theorem foldl_setReg_eq (l : List (Nat × W36)) (c : Core) :
    l.foldl (fun c w => c.setReg w.1 w.2) c =
      { c with regs := (l.foldl (fun c w => c.setReg w.1 w.2) c).regs } := by
  induction l generalizing c with
  | nil => rfl
  | cons x l ih =>
    simp only [List.foldl_cons]
    rw [ih, Core.setReg_eq c x.1 x.2]

theorem Core.landLoad_eq (c : Core) (l : List (Nat × W36)) :
    c.landLoad l = { c with regs := (c.landLoad l).regs, load := none } := by
  unfold Core.landLoad
  cases h : c.load with
  | none => cases c; simp_all
  | some x =>
    obtain ⟨r, v⟩ := x
    dsimp only
    split
    · rfl
    · rw [Core.setReg_eq]

/-- A register after the landing of a load and one write. -/
theorem Core.landLoad_reg (c : Core) (l : List (Nat × W36)) (m : Nat) (h : (l.any fun w => w.1 == m) = false) :
    (c.landLoad l).reg m = if m = 0 then 0 else landed c m := by
  by_cases hm : m = 0
  · simp [Core.reg, hm]
  · unfold Core.landLoad landed
    cases hl : c.load with
    | none => simp [hm]
    | some x =>
      obtain ⟨r, v⟩ := x
      dsimp only
      split
      · rename_i hr
        by_cases hmr : m = r
        · subst hmr; rw [h] at hr; cases hr
        · simp [hm, hmr, Core.reg]
      · show (c.setReg r v).reg m = _
        rw [Core.reg_setReg]; simp [hm]

/-- A NEAR store changes D-SRAM with its notes, or operand memory with USED, and nothing else. -/
theorem Core.nearStore_eq (c : Core) (a : Nat) (v : W36) :
    c.nearStore a v = { c with dsram := (c.nearStore a v).dsram, dirty := (c.nearStore a v).dirty,
                               wmu := { c.wmu with opmem := (c.nearStore a v).wmu.opmem,
                                                   used := (c.nearStore a v).wmu.used } } := by
  unfold Core.nearStore
  split
  · rfl
  · split <;> rfl
  · rfl

/-- What an instruction's effects leave of its core, apart from memory: every field by name. -/
theorem Core.apply_eq (c : Core) (d : Did) :
    c.apply d = { c with
      regs := (c.apply d).regs, st := d.st.getD c.st, repc := d.repc.getD c.repc, ev := d.ev.getD c.ev, load := d.load,
      far := d.far, wmuPending := c.wmuPending || d.wmuFault, wmuSeen := c.wmuSeen || d.wmuFault,
      wmuRpt := if d.wmuFault && !c.wmuPending then c.rep.isSome else c.wmuRpt,
      wmuSlot := if d.wmuFault && !c.wmuPending then c.load.isSome else c.wmuSlot, cycles := c.cycles + d.clocks, dsram := (c.apply d).dsram, dirty := (c.apply d).dirty,
      wmu := { d.wmu.getD c.wmu with opmem := (c.apply d).wmu.opmem, used := (c.apply d).wmu.used } } := by
  have hst (l : List (Nat × W36)) (x : Core) : l.foldl (fun c w => c.nearStore w.1 w.2) x =
      { x with dsram := (l.foldl (fun c w => c.nearStore w.1 w.2) x).dsram,
               dirty := (l.foldl (fun c w => c.nearStore w.1 w.2) x).dirty,
               wmu := { x.wmu with opmem := (l.foldl (fun c w => c.nearStore w.1 w.2) x).wmu.opmem,
                                   used := (l.foldl (fun c w => c.nearStore w.1 w.2) x).wmu.used } } := by
    induction l generalizing x with
    | nil => rfl
    | cons y l ih =>
      simp only [List.foldl_cons]
      rw [ih, Core.nearStore_eq x y.1 y.2]
  unfold Core.apply
  simp only
  rw [hst]
  rw [foldl_setReg_eq, Core.landLoad_eq]

theorem Core.nearStore_regs (c : Core) (a : Nat) (v : W36) : (c.nearStore a v).regs = c.regs := by
  rw [Core.nearStore_eq]

theorem foldl_nearStore_regs (l : List (Nat × W36)) (c : Core) :
    (l.foldl (fun c w => c.nearStore w.1 w.2) c).regs = c.regs := by
  induction l generalizing c with
  | nil => rfl
  | cons y l ih => simp only [List.foldl_cons]; rw [ih, Core.nearStore_regs]

/-- Registers after an instruction that writes at most one of them. -/
theorem Core.apply_reg (c : Core) (d : Did) (m : Nat) (h : d.regs.length ≤ 1) :
    (c.apply d).reg m = if m = 0 then 0 else (lookup d.regs m).getD (landed c m) := by
  have hr : ∀ x : Core, x.regs = (d.regs.foldl (fun c w => c.setReg w.1 w.2) (c.landLoad d.regs)).regs →
      x.reg m = (d.regs.foldl (fun c w => c.setReg w.1 w.2) (c.landLoad d.regs)).reg m := by
    intro x hx; simp [Core.reg, hx]
  rw [hr]
  · match hl : d.regs, h with
    | [], _ => simp [Core.landLoad_reg c [] m (by simp), lookup]
    | [(n, v)], _ =>
      simp only [List.foldl_cons, List.foldl_nil, Core.reg_setReg, lookup]
      by_cases hm : m = 0
      · simp [hm]
      · by_cases hn : m = n
        · simp [hn]
        · simp only [hn, if_false, hm, Option.getD_none]
          rw [Core.landLoad_reg c _ m (by simp; exact fun h => hn h.symm)]; simp [hm]
  · unfold Core.apply; simp only [foldl_nearStore_regs]

theorem nearArea_dsram (a j : Nat) : nearArea a = .dsram j ↔ a = 0x10000 + j ∧ j < 0x8000 := by
  unfold nearArea; split
  · simp; omega
  · split
    · simp; omega
    · split
      · simp; omega
      · split <;> simp <;> omega

theorem nearArea_opmem (a j : Nat) : nearArea a = .opmem j ↔ a = 0x200000 + j ∧ j < 0x800 := by
  unfold nearArea; split
  · simp; omega
  · split
    · simp; omega
    · split
      · simp; omega
      · split
        · simp; omega
        · simp; omega

/-- D-SRAM after one store. -/
theorem Core.nearStore_dsram (c : Core) (a : Nat) (v : W36) (j : Nat) :
    tget 0 (c.nearStore a v).dsram j = if nearArea a = .dsram j then v else tget 0 c.dsram j := by
  unfold Core.nearStore
  split
  · rename_i i h
    by_cases hj : j = i
    · subst hj; simp [h]
    · have : nearArea a ≠ .dsram j := by rw [h]; simpa using fun h => hj h.symm
      simp [tget_tset_other _ _ _ _ _ hj, h]; exact fun h => absurd h.symm hj
  · rename_i i h; split <;> simp [h]
  · rename_i h1 h2; rw [if_neg (h1 j)]

/-- Operand memory and USED after one store. -/
theorem Core.nearStore_opmem (c : Core) (a : Nat) (v : W36) (j : Nat) :
    tget 0 (c.nearStore a v).wmu.opmem j =
      if c.wmu.scrubbing then tget 0 c.wmu.opmem j
      else if nearArea a = .opmem j then v else tget 0 c.wmu.opmem j := by
  unfold Core.nearStore
  split
  · rename_i i h; simp [h]
  · rename_i i h
    split
    · rfl
    · by_cases hj : j = i
      · subst hj; simp [h]
      · simp [tget_tset_other _ _ _ _ _ hj, h]; exact fun h => absurd h.symm hj
  · rename_i h1 h2; rw [if_neg (h2 j)]; simp

theorem Core.nearStore_used (c : Core) (a : Nat) (v : W36) :
    (c.nearStore a v).wmu.used =
      (c.wmu.used || (!c.wmu.scrubbing && (decide (0x200000 ≤ a) && decide (a < 0x200800)))) := by
  have key : (decide (0x200000 ≤ a) && decide (a < 0x200800)) = true ↔ ∃ j, nearArea a = .opmem j := by
    simp only [nearArea_opmem, Bool.and_eq_true, decide_eq_true_eq]
    constructor
    · intro h; exact ⟨a - 0x200000, by omega⟩
    · rintro ⟨j, h⟩; omega
  unfold Core.nearStore
  split
  · rename_i i h
    have : (decide (0x200000 ≤ a) && decide (a < 0x200800)) = false := by
      rw [← Bool.not_eq_true, key]; rintro ⟨j, hj⟩; rw [h] at hj; cases hj
    simp [this]
  · rename_i i h
    have : (decide (0x200000 ≤ a) && decide (a < 0x200800)) = true := key.2 ⟨i, h⟩
    split
    · rename_i hs; simp [hs]
    · rename_i hs; simp [hs, this]
  · rename_i h1 h2
    have : (decide (0x200000 ≤ a) && decide (a < 0x200800)) = false := by
      rw [← Bool.not_eq_true, key]; rintro ⟨j, hj⟩; exact h2 j hj
    simp [this]

theorem Core.nearStore_dirty (c : Core) (a : Nat) (v : W36) (j : Nat) :
    j ∈ (c.nearStore a v).dirty ↔ j ∈ c.dirty ∨ ∃ n, nearArea a = .dsram n ∧ j = n / 512 := by
  unfold Core.nearStore
  split
  · rename_i i h
    simp only [h, NearArea.dsram.injEq]
    split
    · rename_i hc
      constructor
      · exact Or.inl
      · rintro (h | ⟨n, rfl, rfl⟩)
        · exact h
        · simpa using hc
    · simp; tauto
  · rename_i i h; split <;> simp [h]
  · rename_i h1 h2
    constructor
    · exact Or.inl
    · rintro (h | ⟨n, h, _⟩)
      · exact h
      · exact absurd h (h1 n)

/-- The change that an instruction's effects make when it goes on to `next`. -/
def Did.change (d : Did) (next : BitVec 25) (rep : Option Repeat) (repc : Option W36) : Change :=
  { regs := d.regs, st := d.st, repc := repc, ev := d.ev, store := d.stores.head?, load := d.load, wmu := d.wmu, rep := rep,
    next := next, clocks := d.clocks }

/-- The core after its effects, at the next instruction, meets the change. -/
theorem retires_of_core {i : Instr} {s b : State} {k : Nat} (d : Did) (next : BitVec 25) (rep : Option Repeat)
    (repc : Option W36)
    (hr : d.regs.length ≤ 1) (hs : d.stores.length ≤ 1)
    (hw : d.stores = [] ∨ (d.wmu.getD (b.core k).wmu).scrubbing = (b.core k).wmu.scrubbing)
    (hp : (b.core k).far = d.far) (hq : d.wmuFault = false)
    (hex : exec i s = answer (b.setCore k
      { ((b.core k).apply d) with pc := next, resume := false, rep := rep, repc := repc.getD (b.core k).repc,
                                  inLibrary := entered (b.core k) next })) :
    RetiresFrom i s b k (d.change next rep repc) := by
  refine ⟨_, hex, ?_⟩
  simp only [drivePins_core, State.core_setCore]
  generalize hc : b.core k = c at *
  obtain ⟨sr, srr⟩ : ∃ x, x = d.stores := ⟨_, rfl⟩
  have hd : ∀ j, tget 0 (c.apply d).dsram j = storedIn d.stores.head? (.dsram j) (tget 0 c.dsram j) := by
    intro j
    unfold Core.apply
    match hl : d.stores, hs with
    | [], _ => simp only [List.foldl_nil, List.head?_nil, storedIn]; rw [foldl_setReg_eq, Core.landLoad_eq]
    | [(a, v)], _ =>
      simp only [List.foldl_cons, List.foldl_nil, List.head?_cons, storedIn, Core.nearStore_dsram]
      rw [foldl_setReg_eq, Core.landLoad_eq]
  have ho : ∀ j, tget 0 (c.apply d).wmu.opmem j = if c.wmu.scrubbing then tget 0 (d.wmu.getD c.wmu).opmem j
      else storedIn d.stores.head? (.opmem j) (tget 0 (d.wmu.getD c.wmu).opmem j) := by
    intro j
    unfold Core.apply
    match hl : d.stores, hs, hw with
    | [], _, _ => simp only [List.foldl_nil, List.head?_nil, storedIn]; rw [foldl_setReg_eq, Core.landLoad_eq]; simp
    | [(a, v)], _, hw =>
      simp only [List.foldl_cons, List.foldl_nil, List.head?_cons, storedIn, Core.nearStore_opmem]
      rw [foldl_setReg_eq, Core.landLoad_eq]
      simp at hw; simp [hw]
  have hu : (c.apply d).wmu.used = usedAfter c (d.change next rep repc) := by
    unfold Core.apply usedAfter Did.change
    match hl : d.stores, hs, hw with
    | [], _, _ => simp only [List.foldl_nil, List.head?_nil]; rw [foldl_setReg_eq, Core.landLoad_eq]; simp
    | [(a, v)], _, hw =>
      simp only [List.foldl_cons, List.foldl_nil, List.head?_cons, Core.nearStore_used]
      rw [foldl_setReg_eq, Core.landLoad_eq]
      simp at hw; simp [hw]
  have hdi : ∀ j, j ∈ (c.apply d).dirty ↔
      j ∈ c.dirty ∨ ∃ a v n, d.stores.head? = some (a, v) ∧ nearArea a = .dsram n ∧ j = n / 512 := by
    intro j
    unfold Core.apply
    match hl : d.stores, hs with
    | [], _ => simp only [List.foldl_nil, List.head?_nil]; rw [foldl_setReg_eq, Core.landLoad_eq]; simp
    | [(a, v)], _ =>
      simp only [List.foldl_cons, List.foldl_nil, List.head?_cons, Core.nearStore_dirty]
      rw [foldl_setReg_eq, Core.landLoad_eq]
      simp only [Option.some.injEq, Prod.mk.injEq]
      constructor
      · rintro (h | ⟨n, h1, h2⟩)
        · exact .inl h
        · exact .inr ⟨a, v, n, ⟨rfl, rfl⟩, h1, h2⟩
      · rintro (h | ⟨_, _, n, ⟨rfl, rfl⟩, h1, h2⟩)
        · exact .inl h
        · exact .inr ⟨n, h1, h2⟩
  refine ⟨trivial, ?_, hd, ho, hdi, ?_, ?_⟩
  · intro m; exact Core.apply_reg c d m hr
  · show (c.apply d).wmu = _
    rw [Core.apply_eq c d]; simp [hu, Did.change]
  · show _ = _
    rw [Core.apply_eq c d]
    simp [Did.change, hq, hp]

/-- Fetch rights rest on ctx, the segment and the library bit alone. -/
theorem fetchable_congr (c d : Core) (t : BitVec 25) (h1 : d.ctx = c.ctx) (h2 : d.segLo = c.segLo)
    (h3 : d.segHi = c.segHi) (h4 : d.inLibrary = c.inLibrary) : fetchable d t = fetchable c t := by
  unfold fetchable Core.custom; rw [h1, h2, h3, h4]

theorem Core.arrive_eq (c : Core) (t : BitVec 25) : c.arrive t = { c with pc := t, inLibrary := entered c t } := by
  unfold Core.arrive entered; dsimp only; split
  · split
    · rfl
    · split <;> rfl
  · rfl

/-- The end of an instruction that neither repeats nor is taken away: control goes to `next`. -/
theorem settle_plain (s : State) (k : Nat) (c : Core) (len : Nat) (target : Option (BitVec 25)) (hr : c.rep = none)
    (hw : c.wmuPending = true → evAct c.ev = true) (hf : fetchable c (target.getD (halfAdd c.pc len)) = true) :
    settle s k c len target = s.setCore k (c.arrive (target.getD (halfAdd c.pc len))) := by
  unfold settle
  simp only [hr, hf, Bool.not_true, Bool.false_eq_true, if_false]
  have : ((c.arrive (target.getD (halfAdd c.pc len))).wmuPending &&
      !evAct (c.arrive (target.getD (halfAdd c.pc len))).ev &&
      (c.arrive (target.getD (halfAdd c.pc len))).rep.isNone) = false := by
    rw [Core.arrive_eq]
    simp only
    cases h : c.wmuPending
    · simp
    · simp [hw h]
  rw [this]; simp

/-- An instruction that completes on a core that goes on. -/
theorem retires_of_insn {i : Instr} {s b : State} {k n : Nat} {f : Core → Act} (d : Did)
    (hex : exec i s = answer (runInsn b k n f)) (hf : f (b.core k) = .did d) (hfar : d.far = none) (hrep : d.rep = none)
    (hg : Going b k (d.target.getD (halfAdd (b.core k).pc n))) (hsp : (b.core k).fetched n = true)
    (hr : d.regs.length ≤ 1) (hs : d.stores.length ≤ 1)
    (hw : d.stores = [] ∨ (d.wmu.getD (b.core k).wmu).scrubbing = (b.core k).wmu.scrubbing) (hq : d.wmuFault = false)
    (hev : d.ev = none ∨ (b.core k).wmuPending = false ∨ ∃ v, d.ev = some v ∧ evAct v = evAct (b.core k).ev) :
    RetiresFrom i s b k (d.change (d.target.getD (halfAdd (b.core k).pc n)) none d.repc) := by
  obtain ⟨h1, h2, h3, h4, h5⟩ := hg
  refine retires_of_core d _ none _ hr hs hw (by rw [h2, hfar]) hq ?_
  rw [hex]; unfold runInsn
  have hready : (b.core k).ready = true := by simp [Core.ready, h1, h2]
  simp only [hready, hsp, if_true, hf, conclude, hfar, hrep]
  rw [settle_plain]
  · rw [Core.arrive_eq]
    congr 2
    have e : ∀ t, entered { (b.core k).apply d with resume := false } t = entered (b.core k) t := by
      intro t; rw [Core.apply_eq]; rfl
    rw [e]
    have hpc : ((b.core k).apply d).pc = (b.core k).pc := by rw [Core.apply_eq]
    have hrp : ((b.core k).apply d).rep = none := by rw [Core.apply_eq]; exact h3
    have hre : ((b.core k).apply d).repc = d.repc.getD (b.core k).repc := by rw [Core.apply_eq]
    have hx : ∀ x : Core, x.rep = none → x.repc = d.repc.getD (b.core k).repc → ∀ t l,
        { x with resume := false, pc := t, inLibrary := l } =
          { x with pc := t, resume := false, rep := none, repc := d.repc.getD (b.core k).repc, inLibrary := l } := by
      intro x a b t l; cases x; simp_all
    simp only [hpc]
    exact hx _ hrp hre _ _
  · show ((b.core k).apply d).rep = none
    rw [Core.apply_eq]; exact h3
  · show ((b.core k).apply d).wmuPending = true → evAct ((b.core k).apply d).ev = true
    rw [Core.apply_eq]
    simp only [hq, Bool.or_false]
    intro hp
    rcases hev with hev | hev | ⟨v, hev, hv⟩
    · simp [hev, h4 hp]
    · rw [hp] at hev; cases hev
    · simp [hev, hv, h4 hp]
  · show fetchable { (b.core k).apply d with resume := false } (d.target.getD (halfAdd ((b.core k).apply d).pc n)) = true
    have hpc : ((b.core k).apply d).pc = (b.core k).pc := by rw [Core.apply_eq]
    rw [hpc, fetchable_congr (b.core k)]
    · exact h5
    all_goals (rw [Core.apply_eq])

end Sys2Proof.Machine
end

