-- ==== Sys2Proof/Laws/State.lean ====
section
/-! SUPPORT. One lemma for each field that a setter or a shared operation leaves alone, and what it puts where it
writes, so that no proof unfolds a record update. -/

namespace Sys2Proof.Machine

@[simp] theorem State.setCore_pending (s : State) (k : Nat) (c : Core) : (s.setCore k c).pending = s.pending := rfl
@[simp] theorem State.setCore_free (s : State) (k : Nat) (c : Core) : (s.setCore k c).free = s.free := rfl
@[simp] theorem State.setCore_outbox (s : State) (k : Nat) (c : Core) : (s.setCore k c).outbox = s.outbox := rfl
@[simp] theorem State.setCore_pwrGood (s : State) (k : Nat) (c : Core) : (s.setCore k c).pwrGood = s.pwrGood := rfl
@[simp] theorem State.setCore_pins (s : State) (k : Nat) (c : Core) : (s.setCore k c).pins = s.pins := rfl
@[simp] theorem State.setCore_boot (s : State) (k : Nat) (c : Core) : (s.setCore k c).boot = s.boot := rfl
@[simp] theorem State.setCore_warden (s : State) (k : Nat) (c : Core) : (s.setCore k c).warden = s.warden := rfl
@[simp] theorem State.setCore_alarms (s : State) (k : Nat) (c : Core) : (s.setCore k c).alarms = s.alarms := rfl
@[simp] theorem State.setCore_clocks (s : State) (k : Nat) (c : Core) : (s.setCore k c).clocks = s.clocks := rfl
@[simp] theorem State.setCore_mgmt (s : State) (k : Nat) (c : Core) : (s.setCore k c).mgmt = s.mgmt := rfl
@[simp] theorem State.setCore_portA (s : State) (k : Nat) (c : Core) : (s.setCore k c).portA = s.portA := rfl
@[simp] theorem State.setCore_portB (s : State) (k : Nat) (c : Core) : (s.setCore k c).portB = s.portB := rfl
@[simp] theorem State.setCore_msix (s : State) (k : Nat) (c : Core) : (s.setCore k c).msix = s.msix := rfl
@[simp] theorem State.setCore_so (s : State) (k : Nat) (c : Core) : (s.setCore k c).so = s.so := rfl
@[simp] theorem State.setCore_wmem (s : State) (k : Nat) (c : Core) : (s.setCore k c).wmem = s.wmem := rfl
@[simp] theorem State.setCore_arrays (s : State) (k : Nat) (c : Core) : (s.setCore k c).arrays = s.arrays := rfl
@[simp] theorem State.setCore_keys (s : State) (k : Nat) (c : Core) : (s.setCore k c).keys = s.keys := rfl
@[simp] theorem State.setCore_entropy (s : State) (k : Nat) (c : Core) : (s.setCore k c).entropy = s.entropy := rfl
@[simp] theorem State.setCore_gates (s : State) (k : Nat) (c : Core) : (s.setCore k c).gates = s.gates := rfl
@[simp] theorem State.setCore_slots (s : State) (k : Nat) (c : Core) : (s.setCore k c).slots = s.slots := rfl
@[simp] theorem State.setCore_tb (s : State) (k : Nat) (c : Core) : (s.setCore k c).tb = s.tb := rfl
@[simp] theorem State.setCore_journal (s : State) (k : Nat) (c : Core) : (s.setCore k c).journal = s.journal := rfl
@[simp] theorem State.setCore_pair (s : State) (k : Nat) (c : Core) : (s.setCore k c).pair = s.pair := rfl
@[simp] theorem State.setCore_units (s : State) (k : Nat) (c : Core) : (s.setCore k c).units = s.units := rfl

@[simp] theorem State.setPh_pending (s : State) (n : Nat) (p : Ph) : (s.setPh n p).pending = s.pending := rfl
@[simp] theorem State.setPh_free (s : State) (n : Nat) (p : Ph) : (s.setPh n p).free = s.free := rfl
@[simp] theorem State.setPh_outbox (s : State) (n : Nat) (p : Ph) : (s.setPh n p).outbox = s.outbox := rfl
@[simp] theorem State.setPh_pwrGood (s : State) (n : Nat) (p : Ph) : (s.setPh n p).pwrGood = s.pwrGood := rfl
@[simp] theorem State.setPh_pins (s : State) (n : Nat) (p : Ph) : (s.setPh n p).pins = s.pins := rfl
@[simp] theorem State.setPh_boot (s : State) (n : Nat) (p : Ph) : (s.setPh n p).boot = s.boot := rfl
@[simp] theorem State.setPh_warden (s : State) (n : Nat) (p : Ph) : (s.setPh n p).warden = s.warden := rfl
@[simp] theorem State.setPh_alarms (s : State) (n : Nat) (p : Ph) : (s.setPh n p).alarms = s.alarms := rfl
@[simp] theorem State.setPh_clocks (s : State) (n : Nat) (p : Ph) : (s.setPh n p).clocks = s.clocks := rfl
@[simp] theorem State.setPh_mgmt (s : State) (n : Nat) (p : Ph) : (s.setPh n p).mgmt = s.mgmt := rfl
@[simp] theorem State.setPh_portA (s : State) (n : Nat) (p : Ph) : (s.setPh n p).portA = s.portA := rfl
@[simp] theorem State.setPh_portB (s : State) (n : Nat) (p : Ph) : (s.setPh n p).portB = s.portB := rfl
@[simp] theorem State.setPh_msix (s : State) (n : Nat) (p : Ph) : (s.setPh n p).msix = s.msix := rfl
@[simp] theorem State.setPh_cores (s : State) (n : Nat) (p : Ph) : (s.setPh n p).cores = s.cores := rfl
@[simp] theorem State.setPh_wmem (s : State) (n : Nat) (p : Ph) : (s.setPh n p).wmem = s.wmem := rfl
@[simp] theorem State.setPh_arrays (s : State) (n : Nat) (p : Ph) : (s.setPh n p).arrays = s.arrays := rfl
@[simp] theorem State.setPh_keys (s : State) (n : Nat) (p : Ph) : (s.setPh n p).keys = s.keys := rfl
@[simp] theorem State.setPh_entropy (s : State) (n : Nat) (p : Ph) : (s.setPh n p).entropy = s.entropy := rfl
@[simp] theorem State.setPh_gates (s : State) (n : Nat) (p : Ph) : (s.setPh n p).gates = s.gates := rfl
@[simp] theorem State.setPh_slots (s : State) (n : Nat) (p : Ph) : (s.setPh n p).slots = s.slots := rfl
@[simp] theorem State.setPh_tb (s : State) (n : Nat) (p : Ph) : (s.setPh n p).tb = s.tb := rfl
@[simp] theorem State.setPh_journal (s : State) (n : Nat) (p : Ph) : (s.setPh n p).journal = s.journal := rfl
@[simp] theorem State.setPh_pair (s : State) (n : Nat) (p : Ph) : (s.setPh n p).pair = s.pair := rfl
@[simp] theorem State.setPh_units (s : State) (n : Nat) (p : Ph) : (s.setPh n p).units = s.units := rfl

@[simp] theorem State.setCmd_pending (s : State) (e : Nat) (c : Cmd) : (s.setCmd e c).pending = s.pending := rfl
@[simp] theorem State.setCmd_free (s : State) (e : Nat) (c : Cmd) : (s.setCmd e c).free = s.free := rfl
@[simp] theorem State.setCmd_outbox (s : State) (e : Nat) (c : Cmd) : (s.setCmd e c).outbox = s.outbox := rfl
@[simp] theorem State.setCmd_pwrGood (s : State) (e : Nat) (c : Cmd) : (s.setCmd e c).pwrGood = s.pwrGood := rfl
@[simp] theorem State.setCmd_pins (s : State) (e : Nat) (c : Cmd) : (s.setCmd e c).pins = s.pins := rfl
@[simp] theorem State.setCmd_boot (s : State) (e : Nat) (c : Cmd) : (s.setCmd e c).boot = s.boot := rfl
@[simp] theorem State.setCmd_warden (s : State) (e : Nat) (c : Cmd) : (s.setCmd e c).warden = s.warden := rfl
@[simp] theorem State.setCmd_alarms (s : State) (e : Nat) (c : Cmd) : (s.setCmd e c).alarms = s.alarms := rfl
@[simp] theorem State.setCmd_clocks (s : State) (e : Nat) (c : Cmd) : (s.setCmd e c).clocks = s.clocks := rfl
@[simp] theorem State.setCmd_mgmt (s : State) (e : Nat) (c : Cmd) : (s.setCmd e c).mgmt = s.mgmt := rfl
@[simp] theorem State.setCmd_portA (s : State) (e : Nat) (c : Cmd) : (s.setCmd e c).portA = s.portA := rfl
@[simp] theorem State.setCmd_portB (s : State) (e : Nat) (c : Cmd) : (s.setCmd e c).portB = s.portB := rfl
@[simp] theorem State.setCmd_msix (s : State) (e : Nat) (c : Cmd) : (s.setCmd e c).msix = s.msix := rfl
@[simp] theorem State.setCmd_cores (s : State) (e : Nat) (c : Cmd) : (s.setCmd e c).cores = s.cores := rfl
@[simp] theorem State.setCmd_wmem (s : State) (e : Nat) (c : Cmd) : (s.setCmd e c).wmem = s.wmem := rfl
@[simp] theorem State.setCmd_arrays (s : State) (e : Nat) (c : Cmd) : (s.setCmd e c).arrays = s.arrays := rfl
@[simp] theorem State.setCmd_keys (s : State) (e : Nat) (c : Cmd) : (s.setCmd e c).keys = s.keys := rfl
@[simp] theorem State.setCmd_entropy (s : State) (e : Nat) (c : Cmd) : (s.setCmd e c).entropy = s.entropy := rfl
@[simp] theorem State.setCmd_gates (s : State) (e : Nat) (c : Cmd) : (s.setCmd e c).gates = s.gates := rfl
@[simp] theorem State.setCmd_slots (s : State) (e : Nat) (c : Cmd) : (s.setCmd e c).slots = s.slots := rfl
@[simp] theorem State.setCmd_tb (s : State) (e : Nat) (c : Cmd) : (s.setCmd e c).tb = s.tb := rfl
@[simp] theorem State.setCmd_journal (s : State) (e : Nat) (c : Cmd) : (s.setCmd e c).journal = s.journal := rfl
@[simp] theorem State.setCmd_pair (s : State) (e : Nat) (c : Cmd) : (s.setCmd e c).pair = s.pair := rfl
@[simp] theorem State.setCmd_units (s : State) (e : Nat) (c : Cmd) : (s.setCmd e c).units = s.units := rfl

@[simp] theorem State.delCmd_pending (s : State) (e : Nat) : (s.delCmd e).pending = s.pending := rfl
@[simp] theorem State.delCmd_free (s : State) (e : Nat) : (s.delCmd e).free = s.free := rfl
@[simp] theorem State.delCmd_outbox (s : State) (e : Nat) : (s.delCmd e).outbox = s.outbox := rfl
@[simp] theorem State.delCmd_pwrGood (s : State) (e : Nat) : (s.delCmd e).pwrGood = s.pwrGood := rfl
@[simp] theorem State.delCmd_pins (s : State) (e : Nat) : (s.delCmd e).pins = s.pins := rfl
@[simp] theorem State.delCmd_boot (s : State) (e : Nat) : (s.delCmd e).boot = s.boot := rfl
@[simp] theorem State.delCmd_warden (s : State) (e : Nat) : (s.delCmd e).warden = s.warden := rfl
@[simp] theorem State.delCmd_alarms (s : State) (e : Nat) : (s.delCmd e).alarms = s.alarms := rfl
@[simp] theorem State.delCmd_clocks (s : State) (e : Nat) : (s.delCmd e).clocks = s.clocks := rfl
@[simp] theorem State.delCmd_mgmt (s : State) (e : Nat) : (s.delCmd e).mgmt = s.mgmt := rfl
@[simp] theorem State.delCmd_portA (s : State) (e : Nat) : (s.delCmd e).portA = s.portA := rfl
@[simp] theorem State.delCmd_portB (s : State) (e : Nat) : (s.delCmd e).portB = s.portB := rfl
@[simp] theorem State.delCmd_msix (s : State) (e : Nat) : (s.delCmd e).msix = s.msix := rfl
@[simp] theorem State.delCmd_cores (s : State) (e : Nat) : (s.delCmd e).cores = s.cores := rfl
@[simp] theorem State.delCmd_wmem (s : State) (e : Nat) : (s.delCmd e).wmem = s.wmem := rfl
@[simp] theorem State.delCmd_arrays (s : State) (e : Nat) : (s.delCmd e).arrays = s.arrays := rfl
@[simp] theorem State.delCmd_keys (s : State) (e : Nat) : (s.delCmd e).keys = s.keys := rfl
@[simp] theorem State.delCmd_entropy (s : State) (e : Nat) : (s.delCmd e).entropy = s.entropy := rfl
@[simp] theorem State.delCmd_gates (s : State) (e : Nat) : (s.delCmd e).gates = s.gates := rfl
@[simp] theorem State.delCmd_slots (s : State) (e : Nat) : (s.delCmd e).slots = s.slots := rfl
@[simp] theorem State.delCmd_tb (s : State) (e : Nat) : (s.delCmd e).tb = s.tb := rfl
@[simp] theorem State.delCmd_journal (s : State) (e : Nat) : (s.delCmd e).journal = s.journal := rfl
@[simp] theorem State.delCmd_pair (s : State) (e : Nat) : (s.delCmd e).pair = s.pair := rfl
@[simp] theorem State.delCmd_units (s : State) (e : Nat) : (s.delCmd e).units = s.units := rfl

@[simp] theorem State.setMonitor_pending (s : State) (n : Nat) (m : Monitor) : (s.setMonitor n m).pending = s.pending := rfl
@[simp] theorem State.setMonitor_free (s : State) (n : Nat) (m : Monitor) : (s.setMonitor n m).free = s.free := rfl
@[simp] theorem State.setMonitor_outbox (s : State) (n : Nat) (m : Monitor) : (s.setMonitor n m).outbox = s.outbox := rfl
@[simp] theorem State.setMonitor_pwrGood (s : State) (n : Nat) (m : Monitor) : (s.setMonitor n m).pwrGood = s.pwrGood := rfl
@[simp] theorem State.setMonitor_pins (s : State) (n : Nat) (m : Monitor) : (s.setMonitor n m).pins = s.pins := rfl
@[simp] theorem State.setMonitor_boot (s : State) (n : Nat) (m : Monitor) : (s.setMonitor n m).boot = s.boot := rfl
@[simp] theorem State.setMonitor_warden (s : State) (n : Nat) (m : Monitor) : (s.setMonitor n m).warden = s.warden := rfl
@[simp] theorem State.setMonitor_clocks (s : State) (n : Nat) (m : Monitor) : (s.setMonitor n m).clocks = s.clocks := rfl
@[simp] theorem State.setMonitor_mgmt (s : State) (n : Nat) (m : Monitor) : (s.setMonitor n m).mgmt = s.mgmt := rfl
@[simp] theorem State.setMonitor_portA (s : State) (n : Nat) (m : Monitor) : (s.setMonitor n m).portA = s.portA := rfl
@[simp] theorem State.setMonitor_portB (s : State) (n : Nat) (m : Monitor) : (s.setMonitor n m).portB = s.portB := rfl
@[simp] theorem State.setMonitor_msix (s : State) (n : Nat) (m : Monitor) : (s.setMonitor n m).msix = s.msix := rfl
@[simp] theorem State.setMonitor_so (s : State) (n : Nat) (m : Monitor) : (s.setMonitor n m).so = s.so := rfl
@[simp] theorem State.setMonitor_cores (s : State) (n : Nat) (m : Monitor) : (s.setMonitor n m).cores = s.cores := rfl
@[simp] theorem State.setMonitor_wmem (s : State) (n : Nat) (m : Monitor) : (s.setMonitor n m).wmem = s.wmem := rfl
@[simp] theorem State.setMonitor_arrays (s : State) (n : Nat) (m : Monitor) : (s.setMonitor n m).arrays = s.arrays := rfl
@[simp] theorem State.setMonitor_keys (s : State) (n : Nat) (m : Monitor) : (s.setMonitor n m).keys = s.keys := rfl
@[simp] theorem State.setMonitor_entropy (s : State) (n : Nat) (m : Monitor) : (s.setMonitor n m).entropy = s.entropy := rfl
@[simp] theorem State.setMonitor_gates (s : State) (n : Nat) (m : Monitor) : (s.setMonitor n m).gates = s.gates := rfl
@[simp] theorem State.setMonitor_slots (s : State) (n : Nat) (m : Monitor) : (s.setMonitor n m).slots = s.slots := rfl
@[simp] theorem State.setMonitor_tb (s : State) (n : Nat) (m : Monitor) : (s.setMonitor n m).tb = s.tb := rfl
@[simp] theorem State.setMonitor_journal (s : State) (n : Nat) (m : Monitor) : (s.setMonitor n m).journal = s.journal := rfl
@[simp] theorem State.setMonitor_pair (s : State) (n : Nat) (m : Monitor) : (s.setMonitor n m).pair = s.pair := rfl
@[simp] theorem State.setMonitor_units (s : State) (n : Nat) (m : Monitor) : (s.setMonitor n m).units = s.units := rfl

@[simp] theorem State.mapCmds_pending (s : State) (f : Nat → Cmd → Cmd) : (s.mapCmds f).pending = s.pending := rfl
@[simp] theorem State.mapCmds_free (s : State) (f : Nat → Cmd → Cmd) : (s.mapCmds f).free = s.free := rfl
@[simp] theorem State.mapCmds_outbox (s : State) (f : Nat → Cmd → Cmd) : (s.mapCmds f).outbox = s.outbox := rfl
@[simp] theorem State.mapCmds_pwrGood (s : State) (f : Nat → Cmd → Cmd) : (s.mapCmds f).pwrGood = s.pwrGood := rfl
@[simp] theorem State.mapCmds_pins (s : State) (f : Nat → Cmd → Cmd) : (s.mapCmds f).pins = s.pins := rfl
@[simp] theorem State.mapCmds_boot (s : State) (f : Nat → Cmd → Cmd) : (s.mapCmds f).boot = s.boot := rfl
@[simp] theorem State.mapCmds_warden (s : State) (f : Nat → Cmd → Cmd) : (s.mapCmds f).warden = s.warden := rfl
@[simp] theorem State.mapCmds_alarms (s : State) (f : Nat → Cmd → Cmd) : (s.mapCmds f).alarms = s.alarms := rfl
@[simp] theorem State.mapCmds_clocks (s : State) (f : Nat → Cmd → Cmd) : (s.mapCmds f).clocks = s.clocks := rfl
@[simp] theorem State.mapCmds_mgmt (s : State) (f : Nat → Cmd → Cmd) : (s.mapCmds f).mgmt = s.mgmt := rfl
@[simp] theorem State.mapCmds_portA (s : State) (f : Nat → Cmd → Cmd) : (s.mapCmds f).portA = s.portA := rfl
@[simp] theorem State.mapCmds_portB (s : State) (f : Nat → Cmd → Cmd) : (s.mapCmds f).portB = s.portB := rfl
@[simp] theorem State.mapCmds_msix (s : State) (f : Nat → Cmd → Cmd) : (s.mapCmds f).msix = s.msix := rfl
@[simp] theorem State.mapCmds_cores (s : State) (f : Nat → Cmd → Cmd) : (s.mapCmds f).cores = s.cores := rfl
@[simp] theorem State.mapCmds_wmem (s : State) (f : Nat → Cmd → Cmd) : (s.mapCmds f).wmem = s.wmem := rfl
@[simp] theorem State.mapCmds_arrays (s : State) (f : Nat → Cmd → Cmd) : (s.mapCmds f).arrays = s.arrays := rfl
@[simp] theorem State.mapCmds_keys (s : State) (f : Nat → Cmd → Cmd) : (s.mapCmds f).keys = s.keys := rfl
@[simp] theorem State.mapCmds_entropy (s : State) (f : Nat → Cmd → Cmd) : (s.mapCmds f).entropy = s.entropy := rfl
@[simp] theorem State.mapCmds_gates (s : State) (f : Nat → Cmd → Cmd) : (s.mapCmds f).gates = s.gates := rfl
@[simp] theorem State.mapCmds_slots (s : State) (f : Nat → Cmd → Cmd) : (s.mapCmds f).slots = s.slots := rfl
@[simp] theorem State.mapCmds_tb (s : State) (f : Nat → Cmd → Cmd) : (s.mapCmds f).tb = s.tb := rfl
@[simp] theorem State.mapCmds_journal (s : State) (f : Nat → Cmd → Cmd) : (s.mapCmds f).journal = s.journal := rfl
@[simp] theorem State.mapCmds_pair (s : State) (f : Nat → Cmd → Cmd) : (s.mapCmds f).pair = s.pair := rfl
@[simp] theorem State.mapCmds_units (s : State) (f : Nat → Cmd → Cmd) : (s.mapCmds f).units = s.units := rfl

@[simp] theorem emit_pending (s : State) (m : Emit) : (emit s m).pending = s.pending := rfl
@[simp] theorem emit_free (s : State) (m : Emit) : (emit s m).free = s.free := rfl
@[simp] theorem emit_pwrGood (s : State) (m : Emit) : (emit s m).pwrGood = s.pwrGood := rfl
@[simp] theorem emit_pins (s : State) (m : Emit) : (emit s m).pins = s.pins := rfl
@[simp] theorem emit_boot (s : State) (m : Emit) : (emit s m).boot = s.boot := rfl
@[simp] theorem emit_warden (s : State) (m : Emit) : (emit s m).warden = s.warden := rfl
@[simp] theorem emit_alarms (s : State) (m : Emit) : (emit s m).alarms = s.alarms := rfl
@[simp] theorem emit_clocks (s : State) (m : Emit) : (emit s m).clocks = s.clocks := rfl
@[simp] theorem emit_mgmt (s : State) (m : Emit) : (emit s m).mgmt = s.mgmt := rfl
@[simp] theorem emit_portA (s : State) (m : Emit) : (emit s m).portA = s.portA := rfl
@[simp] theorem emit_portB (s : State) (m : Emit) : (emit s m).portB = s.portB := rfl
@[simp] theorem emit_msix (s : State) (m : Emit) : (emit s m).msix = s.msix := rfl
@[simp] theorem emit_so (s : State) (m : Emit) : (emit s m).so = s.so := rfl
@[simp] theorem emit_cores (s : State) (m : Emit) : (emit s m).cores = s.cores := rfl
@[simp] theorem emit_wmem (s : State) (m : Emit) : (emit s m).wmem = s.wmem := rfl
@[simp] theorem emit_arrays (s : State) (m : Emit) : (emit s m).arrays = s.arrays := rfl
@[simp] theorem emit_keys (s : State) (m : Emit) : (emit s m).keys = s.keys := rfl
@[simp] theorem emit_entropy (s : State) (m : Emit) : (emit s m).entropy = s.entropy := rfl
@[simp] theorem emit_gates (s : State) (m : Emit) : (emit s m).gates = s.gates := rfl
@[simp] theorem emit_slots (s : State) (m : Emit) : (emit s m).slots = s.slots := rfl
@[simp] theorem emit_tb (s : State) (m : Emit) : (emit s m).tb = s.tb := rfl
@[simp] theorem emit_journal (s : State) (m : Emit) : (emit s m).journal = s.journal := rfl
@[simp] theorem emit_pair (s : State) (m : Emit) : (emit s m).pair = s.pair := rfl
@[simp] theorem emit_units (s : State) (m : Emit) : (emit s m).units = s.units := rfl

@[simp] theorem drivePins_pending (s : State) : (drivePins s).pending = s.pending := rfl
@[simp] theorem drivePins_free (s : State) : (drivePins s).free = s.free := rfl
@[simp] theorem drivePins_outbox (s : State) : (drivePins s).outbox = s.outbox := rfl
@[simp] theorem drivePins_pwrGood (s : State) : (drivePins s).pwrGood = s.pwrGood := rfl
@[simp] theorem drivePins_boot (s : State) : (drivePins s).boot = s.boot := rfl
@[simp] theorem drivePins_warden (s : State) : (drivePins s).warden = s.warden := rfl
@[simp] theorem drivePins_alarms (s : State) : (drivePins s).alarms = s.alarms := rfl
@[simp] theorem drivePins_clocks (s : State) : (drivePins s).clocks = s.clocks := rfl
@[simp] theorem drivePins_mgmt (s : State) : (drivePins s).mgmt = s.mgmt := rfl
@[simp] theorem drivePins_portA (s : State) : (drivePins s).portA = s.portA := rfl
@[simp] theorem drivePins_portB (s : State) : (drivePins s).portB = s.portB := rfl
@[simp] theorem drivePins_msix (s : State) : (drivePins s).msix = s.msix := rfl
@[simp] theorem drivePins_so (s : State) : (drivePins s).so = s.so := rfl
@[simp] theorem drivePins_cores (s : State) : (drivePins s).cores = s.cores := rfl
@[simp] theorem drivePins_wmem (s : State) : (drivePins s).wmem = s.wmem := rfl
@[simp] theorem drivePins_arrays (s : State) : (drivePins s).arrays = s.arrays := rfl
@[simp] theorem drivePins_keys (s : State) : (drivePins s).keys = s.keys := rfl
@[simp] theorem drivePins_entropy (s : State) : (drivePins s).entropy = s.entropy := rfl
@[simp] theorem drivePins_gates (s : State) : (drivePins s).gates = s.gates := rfl
@[simp] theorem drivePins_slots (s : State) : (drivePins s).slots = s.slots := rfl
@[simp] theorem drivePins_tb (s : State) : (drivePins s).tb = s.tb := rfl
@[simp] theorem drivePins_journal (s : State) : (drivePins s).journal = s.journal := rfl
@[simp] theorem drivePins_pair (s : State) : (drivePins s).pair = s.pair := rfl
@[simp] theorem drivePins_units (s : State) : (drivePins s).units = s.units := rfl

@[simp] theorem drawNat_pending (s : State) : (drawNat s).2.pending = s.pending := rfl
@[simp] theorem drawNat_outbox (s : State) : (drawNat s).2.outbox = s.outbox := rfl
@[simp] theorem drawNat_pwrGood (s : State) : (drawNat s).2.pwrGood = s.pwrGood := rfl
@[simp] theorem drawNat_pins (s : State) : (drawNat s).2.pins = s.pins := rfl
@[simp] theorem drawNat_boot (s : State) : (drawNat s).2.boot = s.boot := rfl
@[simp] theorem drawNat_warden (s : State) : (drawNat s).2.warden = s.warden := rfl
@[simp] theorem drawNat_alarms (s : State) : (drawNat s).2.alarms = s.alarms := rfl
@[simp] theorem drawNat_clocks (s : State) : (drawNat s).2.clocks = s.clocks := rfl
@[simp] theorem drawNat_mgmt (s : State) : (drawNat s).2.mgmt = s.mgmt := rfl
@[simp] theorem drawNat_portA (s : State) : (drawNat s).2.portA = s.portA := rfl
@[simp] theorem drawNat_portB (s : State) : (drawNat s).2.portB = s.portB := rfl
@[simp] theorem drawNat_msix (s : State) : (drawNat s).2.msix = s.msix := rfl
@[simp] theorem drawNat_so (s : State) : (drawNat s).2.so = s.so := rfl
@[simp] theorem drawNat_cores (s : State) : (drawNat s).2.cores = s.cores := rfl
@[simp] theorem drawNat_wmem (s : State) : (drawNat s).2.wmem = s.wmem := rfl
@[simp] theorem drawNat_arrays (s : State) : (drawNat s).2.arrays = s.arrays := rfl
@[simp] theorem drawNat_keys (s : State) : (drawNat s).2.keys = s.keys := rfl
@[simp] theorem drawNat_entropy (s : State) : (drawNat s).2.entropy = s.entropy := rfl
@[simp] theorem drawNat_gates (s : State) : (drawNat s).2.gates = s.gates := rfl
@[simp] theorem drawNat_slots (s : State) : (drawNat s).2.slots = s.slots := rfl
@[simp] theorem drawNat_tb (s : State) : (drawNat s).2.tb = s.tb := rfl
@[simp] theorem drawNat_journal (s : State) : (drawNat s).2.journal = s.journal := rfl
@[simp] theorem drawNat_pair (s : State) : (drawNat s).2.pair = s.pair := rfl
@[simp] theorem drawNat_units (s : State) : (drawNat s).2.units = s.units := rfl

@[simp] theorem drawOctets_pending (s : State) (n : Nat) : (drawOctets s n).2.pending = s.pending := rfl
@[simp] theorem drawOctets_outbox (s : State) (n : Nat) : (drawOctets s n).2.outbox = s.outbox := rfl
@[simp] theorem drawOctets_pwrGood (s : State) (n : Nat) : (drawOctets s n).2.pwrGood = s.pwrGood := rfl
@[simp] theorem drawOctets_pins (s : State) (n : Nat) : (drawOctets s n).2.pins = s.pins := rfl
@[simp] theorem drawOctets_boot (s : State) (n : Nat) : (drawOctets s n).2.boot = s.boot := rfl
@[simp] theorem drawOctets_warden (s : State) (n : Nat) : (drawOctets s n).2.warden = s.warden := rfl
@[simp] theorem drawOctets_alarms (s : State) (n : Nat) : (drawOctets s n).2.alarms = s.alarms := rfl
@[simp] theorem drawOctets_clocks (s : State) (n : Nat) : (drawOctets s n).2.clocks = s.clocks := rfl
@[simp] theorem drawOctets_mgmt (s : State) (n : Nat) : (drawOctets s n).2.mgmt = s.mgmt := rfl
@[simp] theorem drawOctets_portA (s : State) (n : Nat) : (drawOctets s n).2.portA = s.portA := rfl
@[simp] theorem drawOctets_portB (s : State) (n : Nat) : (drawOctets s n).2.portB = s.portB := rfl
@[simp] theorem drawOctets_msix (s : State) (n : Nat) : (drawOctets s n).2.msix = s.msix := rfl
@[simp] theorem drawOctets_so (s : State) (n : Nat) : (drawOctets s n).2.so = s.so := rfl
@[simp] theorem drawOctets_cores (s : State) (n : Nat) : (drawOctets s n).2.cores = s.cores := rfl
@[simp] theorem drawOctets_wmem (s : State) (n : Nat) : (drawOctets s n).2.wmem = s.wmem := rfl
@[simp] theorem drawOctets_arrays (s : State) (n : Nat) : (drawOctets s n).2.arrays = s.arrays := rfl
@[simp] theorem drawOctets_keys (s : State) (n : Nat) : (drawOctets s n).2.keys = s.keys := rfl
@[simp] theorem drawOctets_entropy (s : State) (n : Nat) : (drawOctets s n).2.entropy = s.entropy := rfl
@[simp] theorem drawOctets_gates (s : State) (n : Nat) : (drawOctets s n).2.gates = s.gates := rfl
@[simp] theorem drawOctets_slots (s : State) (n : Nat) : (drawOctets s n).2.slots = s.slots := rfl
@[simp] theorem drawOctets_tb (s : State) (n : Nat) : (drawOctets s n).2.tb = s.tb := rfl
@[simp] theorem drawOctets_journal (s : State) (n : Nat) : (drawOctets s n).2.journal = s.journal := rfl
@[simp] theorem drawOctets_pair (s : State) (n : Nat) : (drawOctets s n).2.pair = s.pair := rfl
@[simp] theorem drawOctets_units (s : State) (n : Nat) : (drawOctets s n).2.units = s.units := rfl
@[simp] theorem generate_pending (s : State) (i n : Nat) (p : Bool) (o : Octets) : (generate s i n p o).2.pending = s.pending := by
  unfold generate; dsimp only; split <;> rfl
@[simp] theorem generate_outbox (s : State) (i n : Nat) (p : Bool) (o : Octets) : (generate s i n p o).2.outbox = s.outbox := by
  unfold generate; dsimp only; split <;> rfl
@[simp] theorem generate_pwrGood (s : State) (i n : Nat) (p : Bool) (o : Octets) : (generate s i n p o).2.pwrGood = s.pwrGood := by
  unfold generate; dsimp only; split <;> rfl
@[simp] theorem generate_pins (s : State) (i n : Nat) (p : Bool) (o : Octets) : (generate s i n p o).2.pins = s.pins := by
  unfold generate; dsimp only; split <;> rfl
@[simp] theorem generate_boot (s : State) (i n : Nat) (p : Bool) (o : Octets) : (generate s i n p o).2.boot = s.boot := by
  unfold generate; dsimp only; split <;> rfl
@[simp] theorem generate_warden (s : State) (i n : Nat) (p : Bool) (o : Octets) : (generate s i n p o).2.warden = s.warden := by
  unfold generate; dsimp only; split <;> rfl
@[simp] theorem generate_alarms (s : State) (i n : Nat) (p : Bool) (o : Octets) : (generate s i n p o).2.alarms = s.alarms := by
  unfold generate; dsimp only; split <;> rfl
@[simp] theorem generate_clocks (s : State) (i n : Nat) (p : Bool) (o : Octets) : (generate s i n p o).2.clocks = s.clocks := by
  unfold generate; dsimp only; split <;> rfl
@[simp] theorem generate_mgmt (s : State) (i n : Nat) (p : Bool) (o : Octets) : (generate s i n p o).2.mgmt = s.mgmt := by
  unfold generate; dsimp only; split <;> rfl
@[simp] theorem generate_portA (s : State) (i n : Nat) (p : Bool) (o : Octets) : (generate s i n p o).2.portA = s.portA := by
  unfold generate; dsimp only; split <;> rfl
@[simp] theorem generate_portB (s : State) (i n : Nat) (p : Bool) (o : Octets) : (generate s i n p o).2.portB = s.portB := by
  unfold generate; dsimp only; split <;> rfl
@[simp] theorem generate_msix (s : State) (i n : Nat) (p : Bool) (o : Octets) : (generate s i n p o).2.msix = s.msix := by
  unfold generate; dsimp only; split <;> rfl
@[simp] theorem generate_so (s : State) (i n : Nat) (p : Bool) (o : Octets) : (generate s i n p o).2.so = s.so := by
  unfold generate; dsimp only; split <;> rfl
@[simp] theorem generate_cores (s : State) (i n : Nat) (p : Bool) (o : Octets) : (generate s i n p o).2.cores = s.cores := by
  unfold generate; dsimp only; split <;> rfl
@[simp] theorem generate_wmem (s : State) (i n : Nat) (p : Bool) (o : Octets) : (generate s i n p o).2.wmem = s.wmem := by
  unfold generate; dsimp only; split <;> rfl
@[simp] theorem generate_arrays (s : State) (i n : Nat) (p : Bool) (o : Octets) : (generate s i n p o).2.arrays = s.arrays := by
  unfold generate; dsimp only; split <;> rfl
@[simp] theorem generate_keys (s : State) (i n : Nat) (p : Bool) (o : Octets) : (generate s i n p o).2.keys = s.keys := by
  unfold generate; dsimp only; split <;> rfl
@[simp] theorem generate_gates (s : State) (i n : Nat) (p : Bool) (o : Octets) : (generate s i n p o).2.gates = s.gates := by
  unfold generate; dsimp only; split <;> rfl
@[simp] theorem generate_slots (s : State) (i n : Nat) (p : Bool) (o : Octets) : (generate s i n p o).2.slots = s.slots := by
  unfold generate; dsimp only; split <;> rfl
@[simp] theorem generate_tb (s : State) (i n : Nat) (p : Bool) (o : Octets) : (generate s i n p o).2.tb = s.tb := by
  unfold generate; dsimp only; split <;> rfl
@[simp] theorem generate_journal (s : State) (i n : Nat) (p : Bool) (o : Octets) : (generate s i n p o).2.journal = s.journal := by
  unfold generate; dsimp only; split <;> rfl
@[simp] theorem generate_pair (s : State) (i n : Nat) (p : Bool) (o : Octets) : (generate s i n p o).2.pair = s.pair := by
  unfold generate; dsimp only; split <;> rfl
@[simp] theorem generate_units (s : State) (i n : Nat) (p : Bool) (o : Octets) : (generate s i n p o).2.units = s.units := by
  unfold generate; dsimp only; split <;> rfl
/-- Drawing changes the pool, the count of reseeds and the instance itself in the entropy unit. -/
theorem generate_entropy (s : State) (i n : Nat) (p : Bool) (o : Octets) : ∃ pool reseeds d,
    (generate s i n p o).2.entropy = { s.entropy with pool := pool, reseeds := reseeds, insts := insertAt s.entropy.insts i d } := by
  unfold generate; dsimp only; split
  · exact ⟨_, _, _, rfl⟩
  · exact ⟨s.entropy.pool, s.entropy.reseeds, _, rfl⟩

@[simp] theorem journalHere_pending (s : State) (e : JEntry) : (journalHere s e).pending = s.pending := rfl
@[simp] theorem journalHere_free (s : State) (e : JEntry) : (journalHere s e).free = s.free := rfl
@[simp] theorem journalHere_outbox (s : State) (e : JEntry) : (journalHere s e).outbox = s.outbox := rfl
@[simp] theorem journalHere_pwrGood (s : State) (e : JEntry) : (journalHere s e).pwrGood = s.pwrGood := rfl
@[simp] theorem journalHere_pins (s : State) (e : JEntry) : (journalHere s e).pins = s.pins := rfl
@[simp] theorem journalHere_boot (s : State) (e : JEntry) : (journalHere s e).boot = s.boot := rfl
@[simp] theorem journalHere_warden (s : State) (e : JEntry) : (journalHere s e).warden = s.warden := rfl
@[simp] theorem journalHere_alarms (s : State) (e : JEntry) : (journalHere s e).alarms = s.alarms := rfl
@[simp] theorem journalHere_clocks (s : State) (e : JEntry) : (journalHere s e).clocks = s.clocks := rfl
@[simp] theorem journalHere_mgmt (s : State) (e : JEntry) : (journalHere s e).mgmt = s.mgmt := rfl
@[simp] theorem journalHere_portA (s : State) (e : JEntry) : (journalHere s e).portA = s.portA := rfl
@[simp] theorem journalHere_portB (s : State) (e : JEntry) : (journalHere s e).portB = s.portB := rfl
@[simp] theorem journalHere_msix (s : State) (e : JEntry) : (journalHere s e).msix = s.msix := rfl
@[simp] theorem journalHere_so (s : State) (e : JEntry) : (journalHere s e).so = s.so := rfl
@[simp] theorem journalHere_cores (s : State) (e : JEntry) : (journalHere s e).cores = s.cores := rfl
@[simp] theorem journalHere_wmem (s : State) (e : JEntry) : (journalHere s e).wmem = s.wmem := rfl
@[simp] theorem journalHere_arrays (s : State) (e : JEntry) : (journalHere s e).arrays = s.arrays := rfl
@[simp] theorem journalHere_keys (s : State) (e : JEntry) : (journalHere s e).keys = s.keys := rfl
@[simp] theorem journalHere_entropy (s : State) (e : JEntry) : (journalHere s e).entropy = s.entropy := rfl
@[simp] theorem journalHere_gates (s : State) (e : JEntry) : (journalHere s e).gates = s.gates := rfl
@[simp] theorem journalHere_slots (s : State) (e : JEntry) : (journalHere s e).slots = s.slots := rfl
@[simp] theorem journalHere_tb (s : State) (e : JEntry) : (journalHere s e).tb = s.tb := rfl
@[simp] theorem journalHere_pair (s : State) (e : JEntry) : (journalHere s e).pair = s.pair := rfl
@[simp] theorem journalHere_units (s : State) (e : JEntry) : (journalHere s e).units = s.units := rfl

@[simp] theorem stampFrom_pending (s : State) (src : Nat) (least : BitVec 64) : (stampFrom s src least).2.pending = s.pending := rfl
@[simp] theorem stampFrom_outbox (s : State) (src : Nat) (least : BitVec 64) : (stampFrom s src least).2.outbox = s.outbox := rfl
@[simp] theorem stampFrom_pwrGood (s : State) (src : Nat) (least : BitVec 64) : (stampFrom s src least).2.pwrGood = s.pwrGood := rfl
@[simp] theorem stampFrom_pins (s : State) (src : Nat) (least : BitVec 64) : (stampFrom s src least).2.pins = s.pins := rfl
@[simp] theorem stampFrom_boot (s : State) (src : Nat) (least : BitVec 64) : (stampFrom s src least).2.boot = s.boot := rfl
@[simp] theorem stampFrom_warden (s : State) (src : Nat) (least : BitVec 64) : (stampFrom s src least).2.warden = s.warden := rfl
@[simp] theorem stampFrom_alarms (s : State) (src : Nat) (least : BitVec 64) : (stampFrom s src least).2.alarms = s.alarms := rfl
@[simp] theorem stampFrom_clocks (s : State) (src : Nat) (least : BitVec 64) : (stampFrom s src least).2.clocks = s.clocks := rfl
@[simp] theorem stampFrom_mgmt (s : State) (src : Nat) (least : BitVec 64) : (stampFrom s src least).2.mgmt = s.mgmt := rfl
@[simp] theorem stampFrom_portA (s : State) (src : Nat) (least : BitVec 64) : (stampFrom s src least).2.portA = s.portA := rfl
@[simp] theorem stampFrom_portB (s : State) (src : Nat) (least : BitVec 64) : (stampFrom s src least).2.portB = s.portB := rfl
@[simp] theorem stampFrom_msix (s : State) (src : Nat) (least : BitVec 64) : (stampFrom s src least).2.msix = s.msix := rfl
@[simp] theorem stampFrom_so (s : State) (src : Nat) (least : BitVec 64) : (stampFrom s src least).2.so = s.so := rfl
@[simp] theorem stampFrom_cores (s : State) (src : Nat) (least : BitVec 64) : (stampFrom s src least).2.cores = s.cores := rfl
@[simp] theorem stampFrom_wmem (s : State) (src : Nat) (least : BitVec 64) : (stampFrom s src least).2.wmem = s.wmem := rfl
@[simp] theorem stampFrom_arrays (s : State) (src : Nat) (least : BitVec 64) : (stampFrom s src least).2.arrays = s.arrays := rfl
@[simp] theorem stampFrom_keys (s : State) (src : Nat) (least : BitVec 64) : (stampFrom s src least).2.keys = s.keys := rfl
@[simp] theorem stampFrom_entropy (s : State) (src : Nat) (least : BitVec 64) : (stampFrom s src least).2.entropy = s.entropy := rfl
@[simp] theorem stampFrom_gates (s : State) (src : Nat) (least : BitVec 64) : (stampFrom s src least).2.gates = s.gates := rfl
@[simp] theorem stampFrom_slots (s : State) (src : Nat) (least : BitVec 64) : (stampFrom s src least).2.slots = s.slots := rfl
@[simp] theorem stampFrom_journal (s : State) (src : Nat) (least : BitVec 64) : (stampFrom s src least).2.journal = s.journal := rfl
@[simp] theorem stampFrom_pair (s : State) (src : Nat) (least : BitVec 64) : (stampFrom s src least).2.pair = s.pair := rfl
@[simp] theorem stampFrom_units (s : State) (src : Nat) (least : BitVec 64) : (stampFrom s src least).2.units = s.units := rfl

@[simp] theorem stamp_pending (s : State) (src : Nat) : (stamp s src).2.pending = s.pending := rfl
@[simp] theorem stamp_outbox (s : State) (src : Nat) : (stamp s src).2.outbox = s.outbox := rfl
@[simp] theorem stamp_pwrGood (s : State) (src : Nat) : (stamp s src).2.pwrGood = s.pwrGood := rfl
@[simp] theorem stamp_pins (s : State) (src : Nat) : (stamp s src).2.pins = s.pins := rfl
@[simp] theorem stamp_boot (s : State) (src : Nat) : (stamp s src).2.boot = s.boot := rfl
@[simp] theorem stamp_warden (s : State) (src : Nat) : (stamp s src).2.warden = s.warden := rfl
@[simp] theorem stamp_alarms (s : State) (src : Nat) : (stamp s src).2.alarms = s.alarms := rfl
@[simp] theorem stamp_clocks (s : State) (src : Nat) : (stamp s src).2.clocks = s.clocks := rfl
@[simp] theorem stamp_mgmt (s : State) (src : Nat) : (stamp s src).2.mgmt = s.mgmt := rfl
@[simp] theorem stamp_portA (s : State) (src : Nat) : (stamp s src).2.portA = s.portA := rfl
@[simp] theorem stamp_portB (s : State) (src : Nat) : (stamp s src).2.portB = s.portB := rfl
@[simp] theorem stamp_msix (s : State) (src : Nat) : (stamp s src).2.msix = s.msix := rfl
@[simp] theorem stamp_so (s : State) (src : Nat) : (stamp s src).2.so = s.so := rfl
@[simp] theorem stamp_cores (s : State) (src : Nat) : (stamp s src).2.cores = s.cores := rfl
@[simp] theorem stamp_wmem (s : State) (src : Nat) : (stamp s src).2.wmem = s.wmem := rfl
@[simp] theorem stamp_arrays (s : State) (src : Nat) : (stamp s src).2.arrays = s.arrays := rfl
@[simp] theorem stamp_keys (s : State) (src : Nat) : (stamp s src).2.keys = s.keys := rfl
@[simp] theorem stamp_entropy (s : State) (src : Nat) : (stamp s src).2.entropy = s.entropy := rfl
@[simp] theorem stamp_gates (s : State) (src : Nat) : (stamp s src).2.gates = s.gates := rfl
@[simp] theorem stamp_slots (s : State) (src : Nat) : (stamp s src).2.slots = s.slots := rfl
@[simp] theorem stamp_journal (s : State) (src : Nat) : (stamp s src).2.journal = s.journal := rfl
@[simp] theorem stamp_pair (s : State) (src : Nat) : (stamp s src).2.pair = s.pair := rfl
@[simp] theorem stamp_units (s : State) (src : Nat) : (stamp s src).2.units = s.units := rfl

@[simp] theorem State.setPort_pending (s : State) (b : Bool) (p : Port) : (s.setPort b p).pending = s.pending := by
  cases b <;> rfl
@[simp] theorem State.setPort_free (s : State) (b : Bool) (p : Port) : (s.setPort b p).free = s.free := by
  cases b <;> rfl
@[simp] theorem State.setPort_outbox (s : State) (b : Bool) (p : Port) : (s.setPort b p).outbox = s.outbox := by
  cases b <;> rfl
@[simp] theorem State.setPort_pwrGood (s : State) (b : Bool) (p : Port) : (s.setPort b p).pwrGood = s.pwrGood := by
  cases b <;> rfl
@[simp] theorem State.setPort_pins (s : State) (b : Bool) (p : Port) : (s.setPort b p).pins = s.pins := by
  cases b <;> rfl
@[simp] theorem State.setPort_boot (s : State) (b : Bool) (p : Port) : (s.setPort b p).boot = s.boot := by
  cases b <;> rfl
@[simp] theorem State.setPort_warden (s : State) (b : Bool) (p : Port) : (s.setPort b p).warden = s.warden := by
  cases b <;> rfl
@[simp] theorem State.setPort_alarms (s : State) (b : Bool) (p : Port) : (s.setPort b p).alarms = s.alarms := by
  cases b <;> rfl
@[simp] theorem State.setPort_clocks (s : State) (b : Bool) (p : Port) : (s.setPort b p).clocks = s.clocks := by
  cases b <;> rfl
@[simp] theorem State.setPort_mgmt (s : State) (b : Bool) (p : Port) : (s.setPort b p).mgmt = s.mgmt := by
  cases b <;> rfl
@[simp] theorem State.setPort_msix (s : State) (b : Bool) (p : Port) : (s.setPort b p).msix = s.msix := by
  cases b <;> rfl
@[simp] theorem State.setPort_so (s : State) (b : Bool) (p : Port) : (s.setPort b p).so = s.so := by
  cases b <;> rfl
@[simp] theorem State.setPort_cores (s : State) (b : Bool) (p : Port) : (s.setPort b p).cores = s.cores := by
  cases b <;> rfl
@[simp] theorem State.setPort_wmem (s : State) (b : Bool) (p : Port) : (s.setPort b p).wmem = s.wmem := by
  cases b <;> rfl
@[simp] theorem State.setPort_arrays (s : State) (b : Bool) (p : Port) : (s.setPort b p).arrays = s.arrays := by
  cases b <;> rfl
@[simp] theorem State.setPort_keys (s : State) (b : Bool) (p : Port) : (s.setPort b p).keys = s.keys := by
  cases b <;> rfl
@[simp] theorem State.setPort_entropy (s : State) (b : Bool) (p : Port) : (s.setPort b p).entropy = s.entropy := by
  cases b <;> rfl
@[simp] theorem State.setPort_gates (s : State) (b : Bool) (p : Port) : (s.setPort b p).gates = s.gates := by
  cases b <;> rfl
@[simp] theorem State.setPort_slots (s : State) (b : Bool) (p : Port) : (s.setPort b p).slots = s.slots := by
  cases b <;> rfl
@[simp] theorem State.setPort_tb (s : State) (b : Bool) (p : Port) : (s.setPort b p).tb = s.tb := by
  cases b <;> rfl
@[simp] theorem State.setPort_journal (s : State) (b : Bool) (p : Port) : (s.setPort b p).journal = s.journal := by
  cases b <;> rfl
@[simp] theorem State.setPort_pair (s : State) (b : Bool) (p : Port) : (s.setPort b p).pair = s.pair := by
  cases b <;> rfl
@[simp] theorem State.setPort_units (s : State) (b : Bool) (p : Port) : (s.setPort b p).units = s.units := by
  cases b <;> rfl

@[simp] theorem State.port_setPort (s : State) (b : Bool) (p : Port) : (s.setPort b p).port b = p := by
  cases b <;> rfl
@[simp] theorem State.port_setPort_other (s : State) (b : Bool) (p : Port) : (s.setPort b p).port (!b) = s.port (!b) := by
  cases b <;> rfl
@[simp] theorem emit_outbox (s : State) (m : Emit) : (emit s m).outbox = m :: s.outbox := rfl
@[simp] theorem drawNat_free (s : State) : (drawNat s).2.free = s.free + 1 := rfl
@[simp] theorem drawOctets_free (s : State) (n : Nat) : (drawOctets s n).2.free = s.free + n := rfl
@[simp] theorem journalHere_journal (s : State) (e : JEntry) : (journalHere s e).journal = s.journal.append e := rfl
@[simp] theorem sendLink_pending (s : State) (cls : BitVec 8) (p : Octets) : (sendLink s cls p).pending = s.pending := by
  unfold sendLink; split
  · rfl
  · split <;> rfl
@[simp] theorem sendLink_free (s : State) (cls : BitVec 8) (p : Octets) : (sendLink s cls p).free = s.free := by
  unfold sendLink; split
  · rfl
  · split <;> rfl
@[simp] theorem sendLink_pwrGood (s : State) (cls : BitVec 8) (p : Octets) : (sendLink s cls p).pwrGood = s.pwrGood := by
  unfold sendLink; split
  · rfl
  · split <;> rfl
@[simp] theorem sendLink_pins (s : State) (cls : BitVec 8) (p : Octets) : (sendLink s cls p).pins = s.pins := by
  unfold sendLink; split
  · rfl
  · split <;> rfl
@[simp] theorem sendLink_boot (s : State) (cls : BitVec 8) (p : Octets) : (sendLink s cls p).boot = s.boot := by
  unfold sendLink; split
  · rfl
  · split <;> rfl
@[simp] theorem sendLink_warden (s : State) (cls : BitVec 8) (p : Octets) : (sendLink s cls p).warden = s.warden := by
  unfold sendLink; split
  · rfl
  · split <;> rfl
@[simp] theorem sendLink_alarms (s : State) (cls : BitVec 8) (p : Octets) : (sendLink s cls p).alarms = s.alarms := by
  unfold sendLink; split
  · rfl
  · split <;> rfl
@[simp] theorem sendLink_clocks (s : State) (cls : BitVec 8) (p : Octets) : (sendLink s cls p).clocks = s.clocks := by
  unfold sendLink; split
  · rfl
  · split <;> rfl
@[simp] theorem sendLink_mgmt (s : State) (cls : BitVec 8) (p : Octets) : (sendLink s cls p).mgmt = s.mgmt := by
  unfold sendLink; split
  · rfl
  · split <;> rfl
@[simp] theorem sendLink_portA (s : State) (cls : BitVec 8) (p : Octets) : (sendLink s cls p).portA = s.portA := by
  unfold sendLink; split
  · rfl
  · split <;> rfl
@[simp] theorem sendLink_portB (s : State) (cls : BitVec 8) (p : Octets) : (sendLink s cls p).portB = s.portB := by
  unfold sendLink; split
  · rfl
  · split <;> rfl
@[simp] theorem sendLink_msix (s : State) (cls : BitVec 8) (p : Octets) : (sendLink s cls p).msix = s.msix := by
  unfold sendLink; split
  · rfl
  · split <;> rfl
@[simp] theorem sendLink_so (s : State) (cls : BitVec 8) (p : Octets) : (sendLink s cls p).so = s.so := by
  unfold sendLink; split
  · rfl
  · split <;> rfl
@[simp] theorem sendLink_cores (s : State) (cls : BitVec 8) (p : Octets) : (sendLink s cls p).cores = s.cores := by
  unfold sendLink; split
  · rfl
  · split <;> rfl
@[simp] theorem sendLink_wmem (s : State) (cls : BitVec 8) (p : Octets) : (sendLink s cls p).wmem = s.wmem := by
  unfold sendLink; split
  · rfl
  · split <;> rfl
@[simp] theorem sendLink_arrays (s : State) (cls : BitVec 8) (p : Octets) : (sendLink s cls p).arrays = s.arrays := by
  unfold sendLink; split
  · rfl
  · split <;> rfl
@[simp] theorem sendLink_keys (s : State) (cls : BitVec 8) (p : Octets) : (sendLink s cls p).keys = s.keys := by
  unfold sendLink; split
  · rfl
  · split <;> rfl
@[simp] theorem sendLink_entropy (s : State) (cls : BitVec 8) (p : Octets) : (sendLink s cls p).entropy = s.entropy := by
  unfold sendLink; split
  · rfl
  · split <;> rfl
@[simp] theorem sendLink_gates (s : State) (cls : BitVec 8) (p : Octets) : (sendLink s cls p).gates = s.gates := by
  unfold sendLink; split
  · rfl
  · split <;> rfl
@[simp] theorem sendLink_slots (s : State) (cls : BitVec 8) (p : Octets) : (sendLink s cls p).slots = s.slots := by
  unfold sendLink; split
  · rfl
  · split <;> rfl
@[simp] theorem sendLink_tb (s : State) (cls : BitVec 8) (p : Octets) : (sendLink s cls p).tb = s.tb := by
  unfold sendLink; split
  · rfl
  · split <;> rfl
@[simp] theorem sendLink_journal (s : State) (cls : BitVec 8) (p : Octets) : (sendLink s cls p).journal = s.journal := by
  unfold sendLink; split
  · rfl
  · split <;> rfl
@[simp] theorem sendLink_units (s : State) (cls : BitVec 8) (p : Octets) : (sendLink s cls p).units = s.units := by
  unfold sendLink; split
  · rfl
  · split <;> rfl
@[simp] theorem journal_pending (s : State) (e : JEntry) : (journal s e).pending = s.pending := by
  unfold journal; split
  · simp
  · dsimp only; split <;> simp
@[simp] theorem journal_free (s : State) (e : JEntry) : (journal s e).free = s.free := by
  unfold journal; split
  · simp
  · dsimp only; split <;> simp
@[simp] theorem journal_pwrGood (s : State) (e : JEntry) : (journal s e).pwrGood = s.pwrGood := by
  unfold journal; split
  · simp
  · dsimp only; split <;> simp
@[simp] theorem journal_pins (s : State) (e : JEntry) : (journal s e).pins = s.pins := by
  unfold journal; split
  · simp
  · dsimp only; split <;> simp
@[simp] theorem journal_boot (s : State) (e : JEntry) : (journal s e).boot = s.boot := by
  unfold journal; split
  · simp
  · dsimp only; split <;> simp
@[simp] theorem journal_warden (s : State) (e : JEntry) : (journal s e).warden = s.warden := by
  unfold journal; split
  · simp
  · dsimp only; split <;> simp
@[simp] theorem journal_alarms (s : State) (e : JEntry) : (journal s e).alarms = s.alarms := by
  unfold journal; split
  · simp
  · dsimp only; split <;> simp
@[simp] theorem journal_clocks (s : State) (e : JEntry) : (journal s e).clocks = s.clocks := by
  unfold journal; split
  · simp
  · dsimp only; split <;> simp
@[simp] theorem journal_mgmt (s : State) (e : JEntry) : (journal s e).mgmt = s.mgmt := by
  unfold journal; split
  · simp
  · dsimp only; split <;> simp
@[simp] theorem journal_portA (s : State) (e : JEntry) : (journal s e).portA = s.portA := by
  unfold journal; split
  · simp
  · dsimp only; split <;> simp
@[simp] theorem journal_portB (s : State) (e : JEntry) : (journal s e).portB = s.portB := by
  unfold journal; split
  · simp
  · dsimp only; split <;> simp
@[simp] theorem journal_msix (s : State) (e : JEntry) : (journal s e).msix = s.msix := by
  unfold journal; split
  · simp
  · dsimp only; split <;> simp
@[simp] theorem journal_so (s : State) (e : JEntry) : (journal s e).so = s.so := by
  unfold journal; split
  · simp
  · dsimp only; split <;> simp
@[simp] theorem journal_cores (s : State) (e : JEntry) : (journal s e).cores = s.cores := by
  unfold journal; split
  · simp
  · dsimp only; split <;> simp
@[simp] theorem journal_wmem (s : State) (e : JEntry) : (journal s e).wmem = s.wmem := by
  unfold journal; split
  · simp
  · dsimp only; split <;> simp
@[simp] theorem journal_arrays (s : State) (e : JEntry) : (journal s e).arrays = s.arrays := by
  unfold journal; split
  · simp
  · dsimp only; split <;> simp
@[simp] theorem journal_keys (s : State) (e : JEntry) : (journal s e).keys = s.keys := by
  unfold journal; split
  · simp
  · dsimp only; split <;> simp
@[simp] theorem journal_entropy (s : State) (e : JEntry) : (journal s e).entropy = s.entropy := by
  unfold journal; split
  · simp
  · dsimp only; split <;> simp
@[simp] theorem journal_gates (s : State) (e : JEntry) : (journal s e).gates = s.gates := by
  unfold journal; split
  · simp
  · dsimp only; split <;> simp
@[simp] theorem journal_slots (s : State) (e : JEntry) : (journal s e).slots = s.slots := by
  unfold journal; split
  · simp
  · dsimp only; split <;> simp
@[simp] theorem journal_tb (s : State) (e : JEntry) : (journal s e).tb = s.tb := by
  unfold journal; split
  · simp
  · dsimp only; split <;> simp
@[simp] theorem journal_units (s : State) (e : JEntry) : (journal s e).units = s.units := by
  unfold journal; split
  · simp
  · dsimp only; split <;> simp
@[simp] theorem journalNow_pending (s : State) (ty : BitVec 16) (d : Octets) : (journalNow s ty d).pending = s.pending := by
  simp [journalNow]
@[simp] theorem journalNow_pwrGood (s : State) (ty : BitVec 16) (d : Octets) : (journalNow s ty d).pwrGood = s.pwrGood := by
  simp [journalNow]
@[simp] theorem journalNow_pins (s : State) (ty : BitVec 16) (d : Octets) : (journalNow s ty d).pins = s.pins := by
  simp [journalNow]
@[simp] theorem journalNow_boot (s : State) (ty : BitVec 16) (d : Octets) : (journalNow s ty d).boot = s.boot := by
  simp [journalNow]
@[simp] theorem journalNow_warden (s : State) (ty : BitVec 16) (d : Octets) : (journalNow s ty d).warden = s.warden := by
  simp [journalNow]
@[simp] theorem journalNow_alarms (s : State) (ty : BitVec 16) (d : Octets) : (journalNow s ty d).alarms = s.alarms := by
  simp [journalNow]
@[simp] theorem journalNow_clocks (s : State) (ty : BitVec 16) (d : Octets) : (journalNow s ty d).clocks = s.clocks := by
  simp [journalNow]
@[simp] theorem journalNow_mgmt (s : State) (ty : BitVec 16) (d : Octets) : (journalNow s ty d).mgmt = s.mgmt := by
  simp [journalNow]
@[simp] theorem journalNow_portA (s : State) (ty : BitVec 16) (d : Octets) : (journalNow s ty d).portA = s.portA := by
  simp [journalNow]
@[simp] theorem journalNow_portB (s : State) (ty : BitVec 16) (d : Octets) : (journalNow s ty d).portB = s.portB := by
  simp [journalNow]
@[simp] theorem journalNow_msix (s : State) (ty : BitVec 16) (d : Octets) : (journalNow s ty d).msix = s.msix := by
  simp [journalNow]
@[simp] theorem journalNow_so (s : State) (ty : BitVec 16) (d : Octets) : (journalNow s ty d).so = s.so := by
  simp [journalNow]
@[simp] theorem journalNow_cores (s : State) (ty : BitVec 16) (d : Octets) : (journalNow s ty d).cores = s.cores := by
  simp [journalNow]
@[simp] theorem journalNow_wmem (s : State) (ty : BitVec 16) (d : Octets) : (journalNow s ty d).wmem = s.wmem := by
  simp [journalNow]
@[simp] theorem journalNow_arrays (s : State) (ty : BitVec 16) (d : Octets) : (journalNow s ty d).arrays = s.arrays := by
  simp [journalNow]
@[simp] theorem journalNow_keys (s : State) (ty : BitVec 16) (d : Octets) : (journalNow s ty d).keys = s.keys := by
  simp [journalNow]
@[simp] theorem journalNow_entropy (s : State) (ty : BitVec 16) (d : Octets) : (journalNow s ty d).entropy = s.entropy := by
  simp [journalNow]
@[simp] theorem journalNow_gates (s : State) (ty : BitVec 16) (d : Octets) : (journalNow s ty d).gates = s.gates := by
  simp [journalNow]
@[simp] theorem journalNow_slots (s : State) (ty : BitVec 16) (d : Octets) : (journalNow s ty d).slots = s.slots := by
  simp [journalNow]
@[simp] theorem journalNow_units (s : State) (ty : BitVec 16) (d : Octets) : (journalNow s ty d).units = s.units := by
  simp [journalNow]
@[simp] theorem msixSend_pending (s : State) (fn : Fn) (v : Nat) : (msixSend s fn v).pending = s.pending := by
  unfold msixSend; dsimp only; split <;> rfl
@[simp] theorem msixBoth_pending (s : State) (v : Nat) : (msixBoth s v).pending = s.pending := by
  simp [msixBoth]
@[simp] theorem msixSend_free (s : State) (fn : Fn) (v : Nat) : (msixSend s fn v).free = s.free := by
  unfold msixSend; dsimp only; split <;> rfl
@[simp] theorem msixBoth_free (s : State) (v : Nat) : (msixBoth s v).free = s.free := by
  simp [msixBoth]
@[simp] theorem msixSend_pwrGood (s : State) (fn : Fn) (v : Nat) : (msixSend s fn v).pwrGood = s.pwrGood := by
  unfold msixSend; dsimp only; split <;> rfl
@[simp] theorem msixBoth_pwrGood (s : State) (v : Nat) : (msixBoth s v).pwrGood = s.pwrGood := by
  simp [msixBoth]
@[simp] theorem msixSend_pins (s : State) (fn : Fn) (v : Nat) : (msixSend s fn v).pins = s.pins := by
  unfold msixSend; dsimp only; split <;> rfl
@[simp] theorem msixBoth_pins (s : State) (v : Nat) : (msixBoth s v).pins = s.pins := by
  simp [msixBoth]
@[simp] theorem msixSend_boot (s : State) (fn : Fn) (v : Nat) : (msixSend s fn v).boot = s.boot := by
  unfold msixSend; dsimp only; split <;> rfl
@[simp] theorem msixBoth_boot (s : State) (v : Nat) : (msixBoth s v).boot = s.boot := by
  simp [msixBoth]
@[simp] theorem msixSend_warden (s : State) (fn : Fn) (v : Nat) : (msixSend s fn v).warden = s.warden := by
  unfold msixSend; dsimp only; split <;> rfl
@[simp] theorem msixBoth_warden (s : State) (v : Nat) : (msixBoth s v).warden = s.warden := by
  simp [msixBoth]
@[simp] theorem msixSend_alarms (s : State) (fn : Fn) (v : Nat) : (msixSend s fn v).alarms = s.alarms := by
  unfold msixSend; dsimp only; split <;> rfl
@[simp] theorem msixBoth_alarms (s : State) (v : Nat) : (msixBoth s v).alarms = s.alarms := by
  simp [msixBoth]
@[simp] theorem msixSend_clocks (s : State) (fn : Fn) (v : Nat) : (msixSend s fn v).clocks = s.clocks := by
  unfold msixSend; dsimp only; split <;> rfl
@[simp] theorem msixBoth_clocks (s : State) (v : Nat) : (msixBoth s v).clocks = s.clocks := by
  simp [msixBoth]
@[simp] theorem msixSend_mgmt (s : State) (fn : Fn) (v : Nat) : (msixSend s fn v).mgmt = s.mgmt := by
  unfold msixSend; dsimp only; split <;> rfl
@[simp] theorem msixBoth_mgmt (s : State) (v : Nat) : (msixBoth s v).mgmt = s.mgmt := by
  simp [msixBoth]
@[simp] theorem msixSend_portA (s : State) (fn : Fn) (v : Nat) : (msixSend s fn v).portA = s.portA := by
  unfold msixSend; dsimp only; split <;> rfl
@[simp] theorem msixBoth_portA (s : State) (v : Nat) : (msixBoth s v).portA = s.portA := by
  simp [msixBoth]
@[simp] theorem msixSend_portB (s : State) (fn : Fn) (v : Nat) : (msixSend s fn v).portB = s.portB := by
  unfold msixSend; dsimp only; split <;> rfl
@[simp] theorem msixBoth_portB (s : State) (v : Nat) : (msixBoth s v).portB = s.portB := by
  simp [msixBoth]
@[simp] theorem msixSend_so (s : State) (fn : Fn) (v : Nat) : (msixSend s fn v).so = s.so := by
  unfold msixSend; dsimp only; split <;> rfl
@[simp] theorem msixBoth_so (s : State) (v : Nat) : (msixBoth s v).so = s.so := by
  simp [msixBoth]
@[simp] theorem msixSend_cores (s : State) (fn : Fn) (v : Nat) : (msixSend s fn v).cores = s.cores := by
  unfold msixSend; dsimp only; split <;> rfl
@[simp] theorem msixBoth_cores (s : State) (v : Nat) : (msixBoth s v).cores = s.cores := by
  simp [msixBoth]
@[simp] theorem msixSend_wmem (s : State) (fn : Fn) (v : Nat) : (msixSend s fn v).wmem = s.wmem := by
  unfold msixSend; dsimp only; split <;> rfl
@[simp] theorem msixBoth_wmem (s : State) (v : Nat) : (msixBoth s v).wmem = s.wmem := by
  simp [msixBoth]
@[simp] theorem msixSend_arrays (s : State) (fn : Fn) (v : Nat) : (msixSend s fn v).arrays = s.arrays := by
  unfold msixSend; dsimp only; split <;> rfl
@[simp] theorem msixBoth_arrays (s : State) (v : Nat) : (msixBoth s v).arrays = s.arrays := by
  simp [msixBoth]
@[simp] theorem msixSend_keys (s : State) (fn : Fn) (v : Nat) : (msixSend s fn v).keys = s.keys := by
  unfold msixSend; dsimp only; split <;> rfl
@[simp] theorem msixBoth_keys (s : State) (v : Nat) : (msixBoth s v).keys = s.keys := by
  simp [msixBoth]
@[simp] theorem msixSend_entropy (s : State) (fn : Fn) (v : Nat) : (msixSend s fn v).entropy = s.entropy := by
  unfold msixSend; dsimp only; split <;> rfl
@[simp] theorem msixBoth_entropy (s : State) (v : Nat) : (msixBoth s v).entropy = s.entropy := by
  simp [msixBoth]
@[simp] theorem msixSend_gates (s : State) (fn : Fn) (v : Nat) : (msixSend s fn v).gates = s.gates := by
  unfold msixSend; dsimp only; split <;> rfl
@[simp] theorem msixBoth_gates (s : State) (v : Nat) : (msixBoth s v).gates = s.gates := by
  simp [msixBoth]
@[simp] theorem msixSend_slots (s : State) (fn : Fn) (v : Nat) : (msixSend s fn v).slots = s.slots := by
  unfold msixSend; dsimp only; split <;> rfl
@[simp] theorem msixBoth_slots (s : State) (v : Nat) : (msixBoth s v).slots = s.slots := by
  simp [msixBoth]
@[simp] theorem msixSend_tb (s : State) (fn : Fn) (v : Nat) : (msixSend s fn v).tb = s.tb := by
  unfold msixSend; dsimp only; split <;> rfl
@[simp] theorem msixBoth_tb (s : State) (v : Nat) : (msixBoth s v).tb = s.tb := by
  simp [msixBoth]
@[simp] theorem msixSend_journal (s : State) (fn : Fn) (v : Nat) : (msixSend s fn v).journal = s.journal := by
  unfold msixSend; dsimp only; split <;> rfl
@[simp] theorem msixBoth_journal (s : State) (v : Nat) : (msixBoth s v).journal = s.journal := by
  simp [msixBoth]
@[simp] theorem msixSend_pair (s : State) (fn : Fn) (v : Nat) : (msixSend s fn v).pair = s.pair := by
  unfold msixSend; dsimp only; split <;> rfl
@[simp] theorem msixBoth_pair (s : State) (v : Nat) : (msixBoth s v).pair = s.pair := by
  simp [msixBoth]
@[simp] theorem msixSend_units (s : State) (fn : Fn) (v : Nat) : (msixSend s fn v).units = s.units := by
  unfold msixSend; dsimp only; split <;> rfl
@[simp] theorem msixBoth_units (s : State) (v : Nat) : (msixBoth s v).units = s.units := by
  simp [msixBoth]
@[simp] theorem setMode_pending (s : State) (m : Mode) (c : Code) : (setMode s m c).pending = s.pending := by
  unfold setMode; split <;> simp
@[simp] theorem setMode_pwrGood (s : State) (m : Mode) (c : Code) : (setMode s m c).pwrGood = s.pwrGood := by
  unfold setMode; split <;> simp
@[simp] theorem setMode_pins (s : State) (m : Mode) (c : Code) : (setMode s m c).pins = s.pins := by
  unfold setMode; split <;> simp
@[simp] theorem setMode_warden (s : State) (m : Mode) (c : Code) : (setMode s m c).warden = s.warden := by
  unfold setMode; split <;> simp
@[simp] theorem setMode_alarms (s : State) (m : Mode) (c : Code) : (setMode s m c).alarms = s.alarms := by
  unfold setMode; split <;> simp
@[simp] theorem setMode_clocks (s : State) (m : Mode) (c : Code) : (setMode s m c).clocks = s.clocks := by
  unfold setMode; split <;> simp
@[simp] theorem setMode_mgmt (s : State) (m : Mode) (c : Code) : (setMode s m c).mgmt = s.mgmt := by
  unfold setMode; split <;> simp
@[simp] theorem setMode_portA (s : State) (m : Mode) (c : Code) : (setMode s m c).portA = s.portA := by
  unfold setMode; split <;> simp
@[simp] theorem setMode_portB (s : State) (m : Mode) (c : Code) : (setMode s m c).portB = s.portB := by
  unfold setMode; split <;> simp
@[simp] theorem setMode_msix (s : State) (m : Mode) (c : Code) : (setMode s m c).msix = s.msix := by
  unfold setMode; split <;> simp
@[simp] theorem setMode_so (s : State) (m : Mode) (c : Code) : (setMode s m c).so = s.so := by
  unfold setMode; split <;> simp
@[simp] theorem setMode_cores (s : State) (m : Mode) (c : Code) : (setMode s m c).cores = s.cores := by
  unfold setMode; split <;> simp
@[simp] theorem setMode_wmem (s : State) (m : Mode) (c : Code) : (setMode s m c).wmem = s.wmem := by
  unfold setMode; split <;> simp
@[simp] theorem setMode_arrays (s : State) (m : Mode) (c : Code) : (setMode s m c).arrays = s.arrays := by
  unfold setMode; split <;> simp
@[simp] theorem setMode_keys (s : State) (m : Mode) (c : Code) : (setMode s m c).keys = s.keys := by
  unfold setMode; split <;> simp
@[simp] theorem setMode_entropy (s : State) (m : Mode) (c : Code) : (setMode s m c).entropy = s.entropy := by
  unfold setMode; split <;> simp
@[simp] theorem setMode_gates (s : State) (m : Mode) (c : Code) : (setMode s m c).gates = s.gates := by
  unfold setMode; split <;> simp
@[simp] theorem setMode_slots (s : State) (m : Mode) (c : Code) : (setMode s m c).slots = s.slots := by
  unfold setMode; split <;> simp
@[simp] theorem setMode_units (s : State) (m : Mode) (c : Code) : (setMode s m c).units = s.units := by
  unfold setMode; split <;> simp
@[simp] theorem logAlarm_pending (s : State) (a : AlarmInfo) : (logAlarm s a).pending = s.pending := by
  unfold logAlarm; dsimp only; repeat (first | split | simp)
@[simp] theorem notice_pending (s : State) (c : Code) (u : Nat) (v : BitVec 32) (n : Bool) : (notice s c u v n).pending = s.pending := by
  simp [notice]
@[simp] theorem eventF_pending (s : State) (c : Code) (u : Nat) (v : BitVec 32) (a : Nat) : (eventF s c u v a).pending = s.pending := by
  simp [eventF]
@[simp] theorem journalRetire_pending (s : State) (k : UnitKind) (u : Nat) : (journalRetire s k u).pending = s.pending := by
  simp [journalRetire]
@[simp] theorem logAlarm_pwrGood (s : State) (a : AlarmInfo) : (logAlarm s a).pwrGood = s.pwrGood := by
  unfold logAlarm; dsimp only; repeat (first | split | simp)
@[simp] theorem notice_pwrGood (s : State) (c : Code) (u : Nat) (v : BitVec 32) (n : Bool) : (notice s c u v n).pwrGood = s.pwrGood := by
  simp [notice]
@[simp] theorem eventF_pwrGood (s : State) (c : Code) (u : Nat) (v : BitVec 32) (a : Nat) : (eventF s c u v a).pwrGood = s.pwrGood := by
  simp [eventF]
@[simp] theorem journalRetire_pwrGood (s : State) (k : UnitKind) (u : Nat) : (journalRetire s k u).pwrGood = s.pwrGood := by
  simp [journalRetire]
@[simp] theorem logAlarm_pins (s : State) (a : AlarmInfo) : (logAlarm s a).pins = s.pins := by
  unfold logAlarm; dsimp only; repeat (first | split | simp)
@[simp] theorem notice_pins (s : State) (c : Code) (u : Nat) (v : BitVec 32) (n : Bool) : (notice s c u v n).pins = s.pins := by
  simp [notice]
@[simp] theorem eventF_pins (s : State) (c : Code) (u : Nat) (v : BitVec 32) (a : Nat) : (eventF s c u v a).pins = s.pins := by
  simp [eventF]
@[simp] theorem journalRetire_pins (s : State) (k : UnitKind) (u : Nat) : (journalRetire s k u).pins = s.pins := by
  simp [journalRetire]
@[simp] theorem logAlarm_boot (s : State) (a : AlarmInfo) : (logAlarm s a).boot = s.boot := by
  unfold logAlarm; dsimp only; repeat (first | split | simp)
@[simp] theorem notice_boot (s : State) (c : Code) (u : Nat) (v : BitVec 32) (n : Bool) : (notice s c u v n).boot = s.boot := by
  simp [notice]
@[simp] theorem eventF_boot (s : State) (c : Code) (u : Nat) (v : BitVec 32) (a : Nat) : (eventF s c u v a).boot = s.boot := by
  simp [eventF]
@[simp] theorem journalRetire_boot (s : State) (k : UnitKind) (u : Nat) : (journalRetire s k u).boot = s.boot := by
  simp [journalRetire]
@[simp] theorem logAlarm_warden (s : State) (a : AlarmInfo) : (logAlarm s a).warden = s.warden := by
  unfold logAlarm; dsimp only; repeat (first | split | simp)
@[simp] theorem notice_warden (s : State) (c : Code) (u : Nat) (v : BitVec 32) (n : Bool) : (notice s c u v n).warden = s.warden := by
  simp [notice]
@[simp] theorem eventF_warden (s : State) (c : Code) (u : Nat) (v : BitVec 32) (a : Nat) : (eventF s c u v a).warden = s.warden := by
  simp [eventF]
@[simp] theorem journalRetire_warden (s : State) (k : UnitKind) (u : Nat) : (journalRetire s k u).warden = s.warden := by
  simp [journalRetire]
@[simp] theorem logAlarm_clocks (s : State) (a : AlarmInfo) : (logAlarm s a).clocks = s.clocks := by
  unfold logAlarm; dsimp only; repeat (first | split | simp)
@[simp] theorem notice_clocks (s : State) (c : Code) (u : Nat) (v : BitVec 32) (n : Bool) : (notice s c u v n).clocks = s.clocks := by
  simp [notice]
@[simp] theorem eventF_clocks (s : State) (c : Code) (u : Nat) (v : BitVec 32) (a : Nat) : (eventF s c u v a).clocks = s.clocks := by
  simp [eventF]
@[simp] theorem journalRetire_clocks (s : State) (k : UnitKind) (u : Nat) : (journalRetire s k u).clocks = s.clocks := by
  simp [journalRetire]
@[simp] theorem logAlarm_mgmt (s : State) (a : AlarmInfo) : (logAlarm s a).mgmt = s.mgmt := by
  unfold logAlarm; dsimp only; repeat (first | split | simp)
@[simp] theorem notice_mgmt (s : State) (c : Code) (u : Nat) (v : BitVec 32) (n : Bool) : (notice s c u v n).mgmt = s.mgmt := by
  simp [notice]
@[simp] theorem eventF_mgmt (s : State) (c : Code) (u : Nat) (v : BitVec 32) (a : Nat) : (eventF s c u v a).mgmt = s.mgmt := by
  simp [eventF]
@[simp] theorem journalRetire_mgmt (s : State) (k : UnitKind) (u : Nat) : (journalRetire s k u).mgmt = s.mgmt := by
  simp [journalRetire]
@[simp] theorem logAlarm_portA (s : State) (a : AlarmInfo) : (logAlarm s a).portA = s.portA := by
  unfold logAlarm; dsimp only; repeat (first | split | simp)
@[simp] theorem notice_portA (s : State) (c : Code) (u : Nat) (v : BitVec 32) (n : Bool) : (notice s c u v n).portA = s.portA := by
  simp [notice]
@[simp] theorem eventF_portA (s : State) (c : Code) (u : Nat) (v : BitVec 32) (a : Nat) : (eventF s c u v a).portA = s.portA := by
  simp [eventF]
@[simp] theorem journalRetire_portA (s : State) (k : UnitKind) (u : Nat) : (journalRetire s k u).portA = s.portA := by
  simp [journalRetire]
@[simp] theorem logAlarm_portB (s : State) (a : AlarmInfo) : (logAlarm s a).portB = s.portB := by
  unfold logAlarm; dsimp only; repeat (first | split | simp)
@[simp] theorem notice_portB (s : State) (c : Code) (u : Nat) (v : BitVec 32) (n : Bool) : (notice s c u v n).portB = s.portB := by
  simp [notice]
@[simp] theorem eventF_portB (s : State) (c : Code) (u : Nat) (v : BitVec 32) (a : Nat) : (eventF s c u v a).portB = s.portB := by
  simp [eventF]
@[simp] theorem journalRetire_portB (s : State) (k : UnitKind) (u : Nat) : (journalRetire s k u).portB = s.portB := by
  simp [journalRetire]
@[simp] theorem logAlarm_so (s : State) (a : AlarmInfo) : (logAlarm s a).so = s.so := by
  unfold logAlarm; dsimp only; repeat (first | split | simp)
@[simp] theorem notice_so (s : State) (c : Code) (u : Nat) (v : BitVec 32) (n : Bool) : (notice s c u v n).so = s.so := by
  simp [notice]
@[simp] theorem eventF_so (s : State) (c : Code) (u : Nat) (v : BitVec 32) (a : Nat) : (eventF s c u v a).so = s.so := by
  simp [eventF]
@[simp] theorem journalRetire_so (s : State) (k : UnitKind) (u : Nat) : (journalRetire s k u).so = s.so := by
  simp [journalRetire]
@[simp] theorem logAlarm_cores (s : State) (a : AlarmInfo) : (logAlarm s a).cores = s.cores := by
  unfold logAlarm; dsimp only; repeat (first | split | simp)
@[simp] theorem notice_cores (s : State) (c : Code) (u : Nat) (v : BitVec 32) (n : Bool) : (notice s c u v n).cores = s.cores := by
  simp [notice]
@[simp] theorem eventF_cores (s : State) (c : Code) (u : Nat) (v : BitVec 32) (a : Nat) : (eventF s c u v a).cores = s.cores := by
  simp [eventF]
@[simp] theorem journalRetire_cores (s : State) (k : UnitKind) (u : Nat) : (journalRetire s k u).cores = s.cores := by
  simp [journalRetire]
@[simp] theorem logAlarm_wmem (s : State) (a : AlarmInfo) : (logAlarm s a).wmem = s.wmem := by
  unfold logAlarm; dsimp only; repeat (first | split | simp)
@[simp] theorem notice_wmem (s : State) (c : Code) (u : Nat) (v : BitVec 32) (n : Bool) : (notice s c u v n).wmem = s.wmem := by
  simp [notice]
@[simp] theorem eventF_wmem (s : State) (c : Code) (u : Nat) (v : BitVec 32) (a : Nat) : (eventF s c u v a).wmem = s.wmem := by
  simp [eventF]
@[simp] theorem journalRetire_wmem (s : State) (k : UnitKind) (u : Nat) : (journalRetire s k u).wmem = s.wmem := by
  simp [journalRetire]
@[simp] theorem logAlarm_arrays (s : State) (a : AlarmInfo) : (logAlarm s a).arrays = s.arrays := by
  unfold logAlarm; dsimp only; repeat (first | split | simp)
@[simp] theorem notice_arrays (s : State) (c : Code) (u : Nat) (v : BitVec 32) (n : Bool) : (notice s c u v n).arrays = s.arrays := by
  simp [notice]
@[simp] theorem eventF_arrays (s : State) (c : Code) (u : Nat) (v : BitVec 32) (a : Nat) : (eventF s c u v a).arrays = s.arrays := by
  simp [eventF]
@[simp] theorem journalRetire_arrays (s : State) (k : UnitKind) (u : Nat) : (journalRetire s k u).arrays = s.arrays := by
  simp [journalRetire]
@[simp] theorem logAlarm_keys (s : State) (a : AlarmInfo) : (logAlarm s a).keys = s.keys := by
  unfold logAlarm; dsimp only; repeat (first | split | simp)
@[simp] theorem notice_keys (s : State) (c : Code) (u : Nat) (v : BitVec 32) (n : Bool) : (notice s c u v n).keys = s.keys := by
  simp [notice]
@[simp] theorem eventF_keys (s : State) (c : Code) (u : Nat) (v : BitVec 32) (a : Nat) : (eventF s c u v a).keys = s.keys := by
  simp [eventF]
@[simp] theorem journalRetire_keys (s : State) (k : UnitKind) (u : Nat) : (journalRetire s k u).keys = s.keys := by
  simp [journalRetire]
@[simp] theorem logAlarm_entropy (s : State) (a : AlarmInfo) : (logAlarm s a).entropy = s.entropy := by
  unfold logAlarm; dsimp only; repeat (first | split | simp)
@[simp] theorem notice_entropy (s : State) (c : Code) (u : Nat) (v : BitVec 32) (n : Bool) : (notice s c u v n).entropy = s.entropy := by
  simp [notice]
@[simp] theorem eventF_entropy (s : State) (c : Code) (u : Nat) (v : BitVec 32) (a : Nat) : (eventF s c u v a).entropy = s.entropy := by
  simp [eventF]
@[simp] theorem journalRetire_entropy (s : State) (k : UnitKind) (u : Nat) : (journalRetire s k u).entropy = s.entropy := by
  simp [journalRetire]
@[simp] theorem logAlarm_gates (s : State) (a : AlarmInfo) : (logAlarm s a).gates = s.gates := by
  unfold logAlarm; dsimp only; repeat (first | split | simp)
@[simp] theorem notice_gates (s : State) (c : Code) (u : Nat) (v : BitVec 32) (n : Bool) : (notice s c u v n).gates = s.gates := by
  simp [notice]
@[simp] theorem eventF_gates (s : State) (c : Code) (u : Nat) (v : BitVec 32) (a : Nat) : (eventF s c u v a).gates = s.gates := by
  simp [eventF]
@[simp] theorem journalRetire_gates (s : State) (k : UnitKind) (u : Nat) : (journalRetire s k u).gates = s.gates := by
  simp [journalRetire]
@[simp] theorem logAlarm_slots (s : State) (a : AlarmInfo) : (logAlarm s a).slots = s.slots := by
  unfold logAlarm; dsimp only; repeat (first | split | simp)
@[simp] theorem notice_slots (s : State) (c : Code) (u : Nat) (v : BitVec 32) (n : Bool) : (notice s c u v n).slots = s.slots := by
  simp [notice]
@[simp] theorem eventF_slots (s : State) (c : Code) (u : Nat) (v : BitVec 32) (a : Nat) : (eventF s c u v a).slots = s.slots := by
  simp [eventF]
@[simp] theorem journalRetire_slots (s : State) (k : UnitKind) (u : Nat) : (journalRetire s k u).slots = s.slots := by
  simp [journalRetire]
@[simp] theorem logAlarm_units (s : State) (a : AlarmInfo) : (logAlarm s a).units = s.units := by
  unfold logAlarm; dsimp only; repeat (first | split | simp)
@[simp] theorem notice_units (s : State) (c : Code) (u : Nat) (v : BitVec 32) (n : Bool) : (notice s c u v n).units = s.units := by
  simp [notice]
@[simp] theorem eventF_units (s : State) (c : Code) (u : Nat) (v : BitVec 32) (a : Nat) : (eventF s c u v a).units = s.units := by
  simp [eventF]
@[simp] theorem journalRetire_units (s : State) (k : UnitKind) (u : Nat) : (journalRetire s k u).units = s.units := by
  simp [journalRetire]
@[simp] theorem blogWrite_pending (s : State) (b : BlogEntry) : (blogWrite s b).pending = s.pending := by
  unfold blogWrite; dsimp only; split
  · rfl
  · split <;> rfl
@[simp] theorem blogWrite_free (s : State) (b : BlogEntry) : (blogWrite s b).free = s.free := by
  unfold blogWrite; dsimp only; split
  · rfl
  · split <;> rfl
@[simp] theorem blogWrite_outbox (s : State) (b : BlogEntry) : (blogWrite s b).outbox = s.outbox := by
  unfold blogWrite; dsimp only; split
  · rfl
  · split <;> rfl
@[simp] theorem blogWrite_pwrGood (s : State) (b : BlogEntry) : (blogWrite s b).pwrGood = s.pwrGood := by
  unfold blogWrite; dsimp only; split
  · rfl
  · split <;> rfl
@[simp] theorem blogWrite_pins (s : State) (b : BlogEntry) : (blogWrite s b).pins = s.pins := by
  unfold blogWrite; dsimp only; split
  · rfl
  · split <;> rfl
@[simp] theorem blogWrite_boot (s : State) (b : BlogEntry) : (blogWrite s b).boot = s.boot := by
  unfold blogWrite; dsimp only; split
  · rfl
  · split <;> rfl
@[simp] theorem blogWrite_alarms (s : State) (b : BlogEntry) : (blogWrite s b).alarms = s.alarms := by
  unfold blogWrite; dsimp only; split
  · rfl
  · split <;> rfl
@[simp] theorem blogWrite_clocks (s : State) (b : BlogEntry) : (blogWrite s b).clocks = s.clocks := by
  unfold blogWrite; dsimp only; split
  · rfl
  · split <;> rfl
@[simp] theorem blogWrite_mgmt (s : State) (b : BlogEntry) : (blogWrite s b).mgmt = s.mgmt := by
  unfold blogWrite; dsimp only; split
  · rfl
  · split <;> rfl
@[simp] theorem blogWrite_portA (s : State) (b : BlogEntry) : (blogWrite s b).portA = s.portA := by
  unfold blogWrite; dsimp only; split
  · rfl
  · split <;> rfl
@[simp] theorem blogWrite_portB (s : State) (b : BlogEntry) : (blogWrite s b).portB = s.portB := by
  unfold blogWrite; dsimp only; split
  · rfl
  · split <;> rfl
@[simp] theorem blogWrite_msix (s : State) (b : BlogEntry) : (blogWrite s b).msix = s.msix := by
  unfold blogWrite; dsimp only; split
  · rfl
  · split <;> rfl
@[simp] theorem blogWrite_so (s : State) (b : BlogEntry) : (blogWrite s b).so = s.so := by
  unfold blogWrite; dsimp only; split
  · rfl
  · split <;> rfl
@[simp] theorem blogWrite_cores (s : State) (b : BlogEntry) : (blogWrite s b).cores = s.cores := by
  unfold blogWrite; dsimp only; split
  · rfl
  · split <;> rfl
@[simp] theorem blogWrite_wmem (s : State) (b : BlogEntry) : (blogWrite s b).wmem = s.wmem := by
  unfold blogWrite; dsimp only; split
  · rfl
  · split <;> rfl
@[simp] theorem blogWrite_arrays (s : State) (b : BlogEntry) : (blogWrite s b).arrays = s.arrays := by
  unfold blogWrite; dsimp only; split
  · rfl
  · split <;> rfl
@[simp] theorem blogWrite_keys (s : State) (b : BlogEntry) : (blogWrite s b).keys = s.keys := by
  unfold blogWrite; dsimp only; split
  · rfl
  · split <;> rfl
@[simp] theorem blogWrite_entropy (s : State) (b : BlogEntry) : (blogWrite s b).entropy = s.entropy := by
  unfold blogWrite; dsimp only; split
  · rfl
  · split <;> rfl
@[simp] theorem blogWrite_gates (s : State) (b : BlogEntry) : (blogWrite s b).gates = s.gates := by
  unfold blogWrite; dsimp only; split
  · rfl
  · split <;> rfl
@[simp] theorem blogWrite_slots (s : State) (b : BlogEntry) : (blogWrite s b).slots = s.slots := by
  unfold blogWrite; dsimp only; split
  · rfl
  · split <;> rfl
@[simp] theorem blogWrite_tb (s : State) (b : BlogEntry) : (blogWrite s b).tb = s.tb := by
  unfold blogWrite; dsimp only; split
  · rfl
  · split <;> rfl
@[simp] theorem blogWrite_journal (s : State) (b : BlogEntry) : (blogWrite s b).journal = s.journal := by
  unfold blogWrite; dsimp only; split
  · rfl
  · split <;> rfl
@[simp] theorem blogWrite_pair (s : State) (b : BlogEntry) : (blogWrite s b).pair = s.pair := by
  unfold blogWrite; dsimp only; split
  · rfl
  · split <;> rfl
@[simp] theorem blogWrite_units (s : State) (b : BlogEntry) : (blogWrite s b).units = s.units := by
  unfold blogWrite; dsimp only; split
  · rfl
  · split <;> rfl
@[simp] theorem eraseCoreKeys_pending (s : State) (k : Nat) : (eraseCoreKeys s k).pending = s.pending := rfl
@[simp] theorem endTurn_pending (s : State) (k : Nat) : (endTurn s k).pending = s.pending := by
  unfold endTurn; dsimp only; split <;> rfl
@[simp] theorem eraseCoreKeys_free (s : State) (k : Nat) : (eraseCoreKeys s k).free = s.free := rfl
@[simp] theorem endTurn_free (s : State) (k : Nat) : (endTurn s k).free = s.free := by
  unfold endTurn; dsimp only; split <;> rfl
@[simp] theorem eraseCoreKeys_outbox (s : State) (k : Nat) : (eraseCoreKeys s k).outbox = s.outbox := rfl
@[simp] theorem endTurn_outbox (s : State) (k : Nat) : (endTurn s k).outbox = s.outbox := by
  unfold endTurn; dsimp only; split <;> rfl
@[simp] theorem eraseCoreKeys_pwrGood (s : State) (k : Nat) : (eraseCoreKeys s k).pwrGood = s.pwrGood := rfl
@[simp] theorem endTurn_pwrGood (s : State) (k : Nat) : (endTurn s k).pwrGood = s.pwrGood := by
  unfold endTurn; dsimp only; split <;> rfl
@[simp] theorem eraseCoreKeys_pins (s : State) (k : Nat) : (eraseCoreKeys s k).pins = s.pins := rfl
@[simp] theorem endTurn_pins (s : State) (k : Nat) : (endTurn s k).pins = s.pins := by
  unfold endTurn; dsimp only; split <;> rfl
@[simp] theorem eraseCoreKeys_boot (s : State) (k : Nat) : (eraseCoreKeys s k).boot = s.boot := rfl
@[simp] theorem endTurn_boot (s : State) (k : Nat) : (endTurn s k).boot = s.boot := by
  unfold endTurn; dsimp only; split <;> rfl
@[simp] theorem eraseCoreKeys_warden (s : State) (k : Nat) : (eraseCoreKeys s k).warden = s.warden := rfl
@[simp] theorem endTurn_warden (s : State) (k : Nat) : (endTurn s k).warden = s.warden := by
  unfold endTurn; dsimp only; split <;> rfl
@[simp] theorem eraseCoreKeys_alarms (s : State) (k : Nat) : (eraseCoreKeys s k).alarms = s.alarms := rfl
@[simp] theorem endTurn_alarms (s : State) (k : Nat) : (endTurn s k).alarms = s.alarms := by
  unfold endTurn; dsimp only; split <;> rfl
@[simp] theorem eraseCoreKeys_clocks (s : State) (k : Nat) : (eraseCoreKeys s k).clocks = s.clocks := rfl
@[simp] theorem endTurn_clocks (s : State) (k : Nat) : (endTurn s k).clocks = s.clocks := by
  unfold endTurn; dsimp only; split <;> rfl
@[simp] theorem eraseCoreKeys_mgmt (s : State) (k : Nat) : (eraseCoreKeys s k).mgmt = s.mgmt := rfl
@[simp] theorem endTurn_mgmt (s : State) (k : Nat) : (endTurn s k).mgmt = s.mgmt := by
  unfold endTurn; dsimp only; split <;> rfl
@[simp] theorem eraseCoreKeys_portA (s : State) (k : Nat) : (eraseCoreKeys s k).portA = s.portA := rfl
@[simp] theorem endTurn_portA (s : State) (k : Nat) : (endTurn s k).portA = s.portA := by
  unfold endTurn; dsimp only; split <;> rfl
@[simp] theorem eraseCoreKeys_portB (s : State) (k : Nat) : (eraseCoreKeys s k).portB = s.portB := rfl
@[simp] theorem endTurn_portB (s : State) (k : Nat) : (endTurn s k).portB = s.portB := by
  unfold endTurn; dsimp only; split <;> rfl
@[simp] theorem eraseCoreKeys_msix (s : State) (k : Nat) : (eraseCoreKeys s k).msix = s.msix := rfl
@[simp] theorem endTurn_msix (s : State) (k : Nat) : (endTurn s k).msix = s.msix := by
  unfold endTurn; dsimp only; split <;> rfl
@[simp] theorem eraseCoreKeys_so (s : State) (k : Nat) : (eraseCoreKeys s k).so = s.so := rfl
@[simp] theorem endTurn_so (s : State) (k : Nat) : (endTurn s k).so = s.so := by
  unfold endTurn; dsimp only; split <;> rfl
@[simp] theorem eraseCoreKeys_cores (s : State) (k : Nat) : (eraseCoreKeys s k).cores = s.cores := rfl
@[simp] theorem eraseCoreKeys_wmem (s : State) (k : Nat) : (eraseCoreKeys s k).wmem = s.wmem := rfl
@[simp] theorem endTurn_wmem (s : State) (k : Nat) : (endTurn s k).wmem = s.wmem := by
  unfold endTurn; dsimp only; split <;> rfl
@[simp] theorem eraseCoreKeys_gates (s : State) (k : Nat) : (eraseCoreKeys s k).gates = s.gates := rfl
@[simp] theorem endTurn_gates (s : State) (k : Nat) : (endTurn s k).gates = s.gates := by
  unfold endTurn; dsimp only; split <;> rfl
@[simp] theorem eraseCoreKeys_slots (s : State) (k : Nat) : (eraseCoreKeys s k).slots = s.slots := rfl
@[simp] theorem endTurn_slots (s : State) (k : Nat) : (endTurn s k).slots = s.slots := by
  unfold endTurn; dsimp only; split <;> rfl
@[simp] theorem eraseCoreKeys_tb (s : State) (k : Nat) : (eraseCoreKeys s k).tb = s.tb := rfl
@[simp] theorem endTurn_tb (s : State) (k : Nat) : (endTurn s k).tb = s.tb := by
  unfold endTurn; dsimp only; split <;> rfl
@[simp] theorem eraseCoreKeys_journal (s : State) (k : Nat) : (eraseCoreKeys s k).journal = s.journal := rfl
@[simp] theorem endTurn_journal (s : State) (k : Nat) : (endTurn s k).journal = s.journal := by
  unfold endTurn; dsimp only; split <;> rfl
@[simp] theorem eraseCoreKeys_pair (s : State) (k : Nat) : (eraseCoreKeys s k).pair = s.pair := rfl
@[simp] theorem endTurn_pair (s : State) (k : Nat) : (endTurn s k).pair = s.pair := by
  unfold endTurn; dsimp only; split <;> rfl
@[simp] theorem eraseCoreKeys_units (s : State) (k : Nat) : (eraseCoreKeys s k).units = s.units := rfl
@[simp] theorem endTurn_units (s : State) (k : Nat) : (endTurn s k).units = s.units := by
  unfold endTurn; dsimp only; split <;> rfl
@[simp] theorem countDown_pending (s : State) (g m : Nat) (t : BitVec 8) : (countDown s g m t).pending = s.pending := by
  unfold countDown; split <;> rfl
@[simp] theorem answered_pending (s : State) (k a : Nat) : (answered s k a).pending = s.pending := by
  unfold answered; split <;> simp
@[simp] theorem countDown_free (s : State) (g m : Nat) (t : BitVec 8) : (countDown s g m t).free = s.free := by
  unfold countDown; split <;> rfl
@[simp] theorem answered_free (s : State) (k a : Nat) : (answered s k a).free = s.free := by
  unfold answered; split <;> simp
@[simp] theorem countDown_outbox (s : State) (g m : Nat) (t : BitVec 8) : (countDown s g m t).outbox = s.outbox := by
  unfold countDown; split <;> rfl
@[simp] theorem answered_outbox (s : State) (k a : Nat) : (answered s k a).outbox = s.outbox := by
  unfold answered; split <;> simp
@[simp] theorem countDown_pwrGood (s : State) (g m : Nat) (t : BitVec 8) : (countDown s g m t).pwrGood = s.pwrGood := by
  unfold countDown; split <;> rfl
@[simp] theorem answered_pwrGood (s : State) (k a : Nat) : (answered s k a).pwrGood = s.pwrGood := by
  unfold answered; split <;> simp
@[simp] theorem countDown_pins (s : State) (g m : Nat) (t : BitVec 8) : (countDown s g m t).pins = s.pins := by
  unfold countDown; split <;> rfl
@[simp] theorem answered_pins (s : State) (k a : Nat) : (answered s k a).pins = s.pins := by
  unfold answered; split <;> simp
@[simp] theorem countDown_boot (s : State) (g m : Nat) (t : BitVec 8) : (countDown s g m t).boot = s.boot := by
  unfold countDown; split <;> rfl
@[simp] theorem answered_boot (s : State) (k a : Nat) : (answered s k a).boot = s.boot := by
  unfold answered; split <;> simp
@[simp] theorem countDown_warden (s : State) (g m : Nat) (t : BitVec 8) : (countDown s g m t).warden = s.warden := by
  unfold countDown; split <;> rfl
@[simp] theorem answered_warden (s : State) (k a : Nat) : (answered s k a).warden = s.warden := by
  unfold answered; split <;> simp
@[simp] theorem countDown_alarms (s : State) (g m : Nat) (t : BitVec 8) : (countDown s g m t).alarms = s.alarms := by
  unfold countDown; split <;> rfl
@[simp] theorem answered_alarms (s : State) (k a : Nat) : (answered s k a).alarms = s.alarms := by
  unfold answered; split <;> simp
@[simp] theorem countDown_clocks (s : State) (g m : Nat) (t : BitVec 8) : (countDown s g m t).clocks = s.clocks := by
  unfold countDown; split <;> rfl
@[simp] theorem answered_clocks (s : State) (k a : Nat) : (answered s k a).clocks = s.clocks := by
  unfold answered; split <;> simp
@[simp] theorem countDown_mgmt (s : State) (g m : Nat) (t : BitVec 8) : (countDown s g m t).mgmt = s.mgmt := by
  unfold countDown; split <;> rfl
@[simp] theorem answered_mgmt (s : State) (k a : Nat) : (answered s k a).mgmt = s.mgmt := by
  unfold answered; split <;> simp
@[simp] theorem countDown_portA (s : State) (g m : Nat) (t : BitVec 8) : (countDown s g m t).portA = s.portA := by
  unfold countDown; split <;> rfl
@[simp] theorem answered_portA (s : State) (k a : Nat) : (answered s k a).portA = s.portA := by
  unfold answered; split <;> simp
@[simp] theorem countDown_portB (s : State) (g m : Nat) (t : BitVec 8) : (countDown s g m t).portB = s.portB := by
  unfold countDown; split <;> rfl
@[simp] theorem answered_portB (s : State) (k a : Nat) : (answered s k a).portB = s.portB := by
  unfold answered; split <;> simp
@[simp] theorem countDown_msix (s : State) (g m : Nat) (t : BitVec 8) : (countDown s g m t).msix = s.msix := by
  unfold countDown; split <;> rfl
@[simp] theorem answered_msix (s : State) (k a : Nat) : (answered s k a).msix = s.msix := by
  unfold answered; split <;> simp
@[simp] theorem countDown_so (s : State) (g m : Nat) (t : BitVec 8) : (countDown s g m t).so = s.so := by
  unfold countDown; split <;> rfl
@[simp] theorem answered_so (s : State) (k a : Nat) : (answered s k a).so = s.so := by
  unfold answered; split <;> simp
@[simp] theorem countDown_cores (s : State) (g m : Nat) (t : BitVec 8) : (countDown s g m t).cores = s.cores := by
  unfold countDown; split <;> rfl
@[simp] theorem answered_cores (s : State) (k a : Nat) : (answered s k a).cores = s.cores := by
  unfold answered; split <;> simp
@[simp] theorem countDown_wmem (s : State) (g m : Nat) (t : BitVec 8) : (countDown s g m t).wmem = s.wmem := by
  unfold countDown; split <;> rfl
@[simp] theorem answered_wmem (s : State) (k a : Nat) : (answered s k a).wmem = s.wmem := by
  unfold answered; split <;> simp
@[simp] theorem countDown_arrays (s : State) (g m : Nat) (t : BitVec 8) : (countDown s g m t).arrays = s.arrays := by
  unfold countDown; split <;> rfl
@[simp] theorem answered_arrays (s : State) (k a : Nat) : (answered s k a).arrays = s.arrays := by
  unfold answered; split <;> simp
@[simp] theorem countDown_keys (s : State) (g m : Nat) (t : BitVec 8) : (countDown s g m t).keys = s.keys := by
  unfold countDown; split <;> rfl
@[simp] theorem answered_keys (s : State) (k a : Nat) : (answered s k a).keys = s.keys := by
  unfold answered; split <;> simp
@[simp] theorem countDown_entropy (s : State) (g m : Nat) (t : BitVec 8) : (countDown s g m t).entropy = s.entropy := by
  unfold countDown; split <;> rfl
@[simp] theorem answered_entropy (s : State) (k a : Nat) : (answered s k a).entropy = s.entropy := by
  unfold answered; split <;> simp
@[simp] theorem countDown_slots (s : State) (g m : Nat) (t : BitVec 8) : (countDown s g m t).slots = s.slots := by
  unfold countDown; split <;> rfl
@[simp] theorem answered_slots (s : State) (k a : Nat) : (answered s k a).slots = s.slots := by
  unfold answered; split <;> simp
@[simp] theorem countDown_tb (s : State) (g m : Nat) (t : BitVec 8) : (countDown s g m t).tb = s.tb := by
  unfold countDown; split <;> rfl
@[simp] theorem answered_tb (s : State) (k a : Nat) : (answered s k a).tb = s.tb := by
  unfold answered; split <;> simp
@[simp] theorem countDown_journal (s : State) (g m : Nat) (t : BitVec 8) : (countDown s g m t).journal = s.journal := by
  unfold countDown; split <;> rfl
@[simp] theorem answered_journal (s : State) (k a : Nat) : (answered s k a).journal = s.journal := by
  unfold answered; split <;> simp
@[simp] theorem countDown_pair (s : State) (g m : Nat) (t : BitVec 8) : (countDown s g m t).pair = s.pair := by
  unfold countDown; split <;> rfl
@[simp] theorem answered_pair (s : State) (k a : Nat) : (answered s k a).pair = s.pair := by
  unfold answered; split <;> simp
@[simp] theorem countDown_units (s : State) (g m : Nat) (t : BitVec 8) : (countDown s g m t).units = s.units := by
  unfold countDown; split <;> rfl
@[simp] theorem answered_units (s : State) (k a : Nat) : (answered s k a).units = s.units := by
  unfold answered; split <;> simp

/-- setMode enters the mode. -/
@[simp] theorem setMode_mode (s : State) (m : Mode) (c : Code) : (setMode s m c).boot.mode = m := by
  unfold setMode; split
  · assumption
  · simp

/-- What answer answers: the state with its output pins driven. -/
theorem answer_eq (s : State) : answer s = .next (drivePins s) := rfl

/-- answer always answers a next state. -/
theorem answer_next (s : State) : ∃ t, answer s = .next t ∧ t = drivePins s := ⟨_, rfl, rfl⟩

/-- Driving the pins twice is driving them once. -/
@[simp] theorem drivePins_idem (s : State) : drivePins (drivePins s) = drivePins s := rfl

/-- The pins that a driven state shows are the ones its own fields give. -/
theorem drivePins_follow (s : State) : (drivePins s).pins = (drivePins (drivePins s)).pins := rfl

/-- step on an empty queue: time passes. -/
theorem step_idle (s : State) (h : s.pending = []) : step s = answer (tick s) := by simp [step, h]

end Sys2Proof.Machine
end

