-- ==== Sys2Proof/Laws/Memory.lean ====
section
/-! SUPPORT. Working memory: what a write and a clearing leave at each address, and that every operation that changes
it keeps its canonical form. -/

namespace Sys2Proof.Machine

/-- Reading one octet after a write of octets from an address on. -/
theorem tget_wmemWrite (o : Octets) (t : Tab Octet) (a y : Nat) :
    tget 0 (wmemWrite t a o) y = if a ≤ y ∧ y < a + o.length then (o[y - a]?).getD 0 else tget 0 t y := by
  induction o generalizing t a with
  | nil =>
    have : ¬ (a ≤ y ∧ y < a + 0) := by omega
    simp only [wmemWrite, List.length_nil, this, if_false]
  | cons x xs ih =>
    simp only [wmemWrite, ih, List.length_cons]
    by_cases h : a + 1 ≤ y ∧ y < a + 1 + xs.length
    · have h2 : a ≤ y ∧ y < a + (xs.length + 1) := by omega
      simp only [h, h2, and_self, if_true]
      have : y - a = (y - (a + 1)) + 1 := by omega
      rw [this, List.getElem?_cons_succ]
    · by_cases hy : y = a
      · subst hy
        simp
      · have h2 : ¬ (a ≤ y ∧ y < a + (xs.length + 1)) := by omega
        simp only [h, h2, if_false]
        exact tget_tset_other _ _ _ _ _ hy

/-- Reading one octet after every octet of a range has become zero. -/
theorem tget_cleared (t : Tab Octet) (a n y : Nat) :
    tget 0 (t.filter (fun x => decide (x.1 < a ∨ a + n ≤ x.1))) y =
      if a ≤ y ∧ y < a + n then 0 else tget 0 t y := by
  have key : lookup (t.filter (fun x => decide (x.1 < a ∨ a + n ≤ x.1))) y =
      if a ≤ y ∧ y < a + n then none else lookup t y := by
    induction t with
    | nil => simp [lookup]
    | cons x xs ih =>
      obtain ⟨k, v⟩ := x
      by_cases hk : k < a ∨ a + n ≤ k
      · rw [List.filter_cons_of_pos (by simpa using hk)]
        simp only [lookup]
        by_cases hy : y = k
        · subst hy
          have : ¬ (a ≤ y ∧ y < a + n) := by omega
          simp [this]
        · rw [if_neg hy, if_neg hy]; exact ih
      · rw [List.filter_cons_of_neg (by simpa using hk)]
        by_cases hy : y = k
        · subst hy
          have : a ≤ y ∧ y < a + n := by omega
          rw [ih, if_pos this, if_pos this]
        · simp only [lookup, if_neg hy]; exact ih
  unfold tget
  rw [key]
  split <;> rfl

theorem wf_nil : Memory.wf [] = true := rfl

theorem wf_wmemWrite (o : Octets) (t : Tab Octet) (a : Nat) (h : Memory.wf t = true) : Memory.wf (wmemWrite t a o) = true := by
  induction o generalizing t a with
  | nil => exact h
  | cons x xs ih => exact ih _ _ (tabWf_tset 0 t a x h)

theorem wf_filter (t : Tab Octet) (p : Nat × Octet → Bool) (h : Memory.wf t = true) : Memory.wf (t.filter p) = true :=
  tabWf_filter 0 t p h

theorem wf_clearScratch (s : State) (e : Nat) (h : Memory.wf s.wmem = true) : Memory.wf (clearScratch s e).wmem = true :=
  wf_filter _ _ h

theorem wf_zeroMem (s : State) (a n : Nat) (h : Memory.wf s.wmem = true) : Memory.wf (zeroMem s a n).wmem = true :=
  wf_filter _ _ h

theorem wf_zeroData (s : State) (f : SlotFields) (h : Memory.wf s.wmem = true) : Memory.wf (zeroData s f).wmem = true := by
  unfold zeroData
  split
  · exact h
  · exact wf_zeroMem _ _ _ h

theorem ite_wmem (p : Prop) [Decidable p] (x y : State) (h : x.wmem = y.wmem) : (if p then x else y).wmem = y.wmem := by
  split
  · exact h
  · rfl

/-- A far write changes working memory where the address lies in it, and else nothing of it. -/
theorem farWrite_wmem (s : State) (k a : Nat) (d : Octets) :
    (farWrite s k a d).wmem = if inWorkMem a then wmemWrite s.wmem a d else s.wmem := by
  unfold farWrite
  split
  · rfl
  · split
    · rfl
    · exact ite_wmem _ _ _ rfl

theorem wf_farWrite (s : State) (k a : Nat) (d : Octets) (h : Memory.wf s.wmem = true) :
    Memory.wf (farWrite s k a d).wmem = true := by
  rw [farWrite_wmem]
  split
  · exact wf_wmemWrite _ _ _ h
  · exact h

/-- Placing a command clears its scratch area on its first turn, or leaves working memory as it is. -/
theorem place_wmem (s : State) (e : Nat) (c : Cmd) :
    (place s e c).wmem = (clearScratch s e).wmem ∨ (place s e c).wmem = s.wmem := by
  unfold place
  dsimp only
  split
  · split
    · exact .inr rfl
    · split
      · exact .inl rfl
      · exact .inr rfl
  · exact .inr rfl

theorem wf_place (s : State) (e : Nat) (c : Cmd) (h : Memory.wf s.wmem = true) : Memory.wf (place s e c).wmem = true := by
  rcases place_wmem s e c with h1 | h1 <;> rw [h1]
  · exact wf_clearScratch s e h
  · exact h

end Sys2Proof.Machine
end

