-- ==== Sys2Proof/Laws/Service.lean ====
section
/-! SUPPORT. What the work of a service does, statement by statement: `work` of each step of the service monad, of the
key references that a service takes, and what a service row leaves once its work is known. -/

namespace Sys2Proof.Machine

/-! ### The steps of a service's work -/

theorem work_bind {α β} (x : Svc α) (f : α → Svc β) (s : State) (e : Nat) (c : Cmd) :
    work (x >>= f) s e c = match work x s e c with
      | (.ok a, v) => work (f a) v.s v.e v.c
      | (.error y, v) => (.error y, v) := by
  simp only [work, ExceptT.run_bind, StateT.run_bind]
  show (match (x.run).run ⟨s,e,c⟩ with | _ => _) = _
  rcases h : (x.run).run ⟨s,e,c⟩ with ⟨r, v⟩
  cases r <;> simp <;> rfl

theorem work_need (b : Bool) (st : Code) (s : State) (e : Nat) (c : Cmd) :
    work (need b st) s e c = (if b then .ok () else .error (.fail st), ⟨s, e, c⟩) := by
  cases b <;> rfl
theorem work_pure {α} (a : α) (s e c) : work (pure a : Svc α) s e c = (.ok a, ⟨s, e, c⟩) := rfl
theorem work_getS (s e c) : work getS s e c = (.ok s, ⟨s, e, c⟩) := rfl
theorem work_getC (s e c) : work getC s e c = (.ok c, ⟨s, e, c⟩) := rfl
theorem work_getIn (s e c) : work getIn s e c = (.ok c.input, ⟨s, e, c⟩) := rfl
theorem work_get (s e c) : work (get : Svc Sv) s e c = (.ok ⟨s,e,c⟩, ⟨s, e, c⟩) := rfl
theorem work_set (v : Sv) (s e c) : work (set v : Svc PUnit) s e c = (.ok ⟨⟩, v) := rfl
theorem work_fail {α} (st : Code) (s e c) : work (fail st : Svc α) s e c = (.error (.fail st), ⟨s, e, c⟩) := rfl
theorem work_throw {α} (st : Stop) (s e c) : work (throw st : Svc α) s e c = (.error st, ⟨s, e, c⟩) := rfl
theorem work_modS (f : State → State) (s e c) : work (modS f) s e c = (.ok ⟨⟩, ⟨f s, e, c⟩) := rfl
theorem work_modC (f) (s e c) : work (modC f) s e c = (.ok ⟨⟩, ⟨s, e, f c⟩) := rfl
theorem work_ite {α} (p : Prop) [Decidable p] (x y : Svc α) (s e c) :
   work (if p then x else y) s e c = if p then work x s e c else work y s e c := by split <;> rfl
theorem work_liftE {α} (x : Except Code α) (s e c) : work (liftE x) s e c =
   (match x with | .ok a => (.ok a, ⟨s,e,c⟩) | .error st => (.error (.fail st), ⟨s,e,c⟩)) := by cases x <;> rfl

theorem work_capacity (n : Nat) (s e c) : work (capacity n) s e c =
   (if n + trailerLen s c > c.d.outCap.toNat then .error (.short n) else .ok (), ⟨s,e,c⟩) := by
  simp only [capacity, work_bind, work_get]
  split <;> rfl

theorem work_takeRefs (ik : Bool) (n : Nat) (o : Octets) (s : State) (e : Nat) (c : Cmd) (x)
   (h : readRefs s c ik n o = some x) : work (takeRefs ik n o) s e c = (.ok x, ⟨s, e, c⟩) := by
  induction n generalizing o x with
  | zero => simp only [readRefs, Option.some.injEq] at h; subst h; rfl
  | succ n ih =>
    simp only [readRefs] at h
    split at h
    · rename_i r hr
      simp only [Option.map_eq_some_iff] at h
      obtain ⟨y, hy, rfl⟩ := h
      have := ih _ _ hy
      simp only [takeRefs, work_bind, work_get, work_liftE, hr, this, work_pure]
    · cases h

theorem work_resolveKey (r : KeyRef) (s e c x ctr) (h : resolve s c.slot e c.reserved (opGroup c) r = .ok (x, ctr)) :
   work (resolveKey r) s e c = (.ok x.expanded, ⟨keeping s c.slot r x, e, c.reserving ctr⟩) := by
  simp only [resolveKey, work_bind, work_get, work_liftE, h, work_set, work_pure]
  rfl

/-- What resolving leaves: only the key unit's part of the state, and the reservation. -/
structure Left (s : State) (c : Cmd) (s' : State) (c' : Cmd) : Prop where
  keys : ∃ K, s' = { s with keys := K } ∧ K.frankPriv = s.keys.frankPriv
  res : ∃ R, c' = { c with reserved := R }

theorem keeping_left (s slot r k) : ∃ K, keeping s slot r k = { s with keys := K } ∧ K.frankPriv = s.keys.frankPriv := by
  unfold keeping holdRoots cachePut
  split <;> split <;> (try split) <;> first | exact ⟨_, rfl, rfl⟩ 

theorem left_of_keys (e rs ks s c s' c') (h : KeysAre e rs ks s c s' c') : Left s c s' c' := by
  induction rs generalizing ks s c with
  | nil => cases ks with
    | nil => simp only [KeysAre] at h; obtain ⟨rfl, rfl⟩ := h; exact ⟨⟨_, rfl, rfl⟩, ⟨_, rfl⟩⟩
    | cons => exact h.elim
  | cons r rs ih => cases ks with
    | nil => exact h.elim
    | cons k ks =>
      obtain ⟨x, ctr, h1, h2, h3⟩ := h
      obtain ⟨⟨K, hK, hf⟩, ⟨R, hR⟩⟩ := ih _ _ _ h3
      obtain ⟨K', hK', hf'⟩ := keeping_left s c.slot r x
      rw [hK'] at hK hf
      exact ⟨⟨K, by rw [hK], by rw [hf, hf']⟩, ⟨R, by rw [hR]; rfl⟩⟩

theorem answers_ok {i s k op ch w body e c out b c'} (hx : exec i s = answer (runService s k op ch w body))
   (ha : Asked s k op e c) (hr : work body s e c = (.ok out, ⟨b, e, c'⟩))
   (ht : twinInFlight b e (if ch then chargeCounters c' else c') = false) :
   Serves i s b e (if ch then chargeCounters c' else c') out := by
  obtain ⟨h1, h2, h3, h4, h5⟩ := ha
  unfold Serves
  rw [hx]; congr 1
  unfold runService
  simp only [h1, h2, h3, h4, h5, bne_self_eq_false, Bool.not_true, Bool.or_self, Bool.false_eq_true, if_false]
  unfold work at hr
  simp only [hr, ht, Bool.and_false, Bool.false_eq_true, if_false]
  rfl
theorem answers_fail {i s k op ch w body e c st b c'} (hx : exec i s = answer (runService s k op ch w body))
   (ha : Asked s k op e c) (hr : work body s e c = (.error (.fail st), ⟨b, e, c'⟩)) :
   Fails i s b e c' st := by
  obtain ⟨h1, h2, h3, h4, h5⟩ := ha
  unfold Fails
  rw [hx]; congr 1
  unfold runService
  simp only [h1, h2, h3, h4, h5, bne_self_eq_false, Bool.not_true, Bool.or_self, Bool.false_eq_true, if_false]
  unfold work at hr
  simp only [hr]

theorem work_suits {c k u m a} (h : Suits c k u m a) (s e) : work (needKey k u m a) s e c = (.ok (), ⟨s, e, c⟩) := by
  obtain ⟨h1, h2⟩ := h
  simp only [needKey, work_bind, work_getC]
  split
  · rename_i hh; exfalso; simp at hh; have := h1 hh.1; simp [this] at hh
  · simp [work_need, h2]

theorem work_map {α β} (g : α → β) (x : Svc α) (s : State) (e : Nat) (c : Cmd) :
    work (g <$> x) s e c = match work x s e c with
      | (.ok a, v) => (.ok (g a), v)
      | (.error y, v) => (.error y, v) := by
  rw [← bind_pure_comp, work_bind]
  rcases work x s e c with ⟨r, v⟩
  cases r <;> rfl
theorem work_random (n) (s e) (c : Cmd) (h1 : s.entropy.failed = false) (h2 : canServe s (instOf c.slot c.idx) = true) :
   work (random n) s e c = (.ok (generate s (instOf c.slot c.idx) n false).1, ⟨(generate s (instOf c.slot c.idx) n false).2, e, c⟩) := by
  simp [random, work_bind, work_get, h1, h2, work_set, work_map]

theorem twin_reserved (s e) (c : Cmd) (R) : twinInFlight s e {c with reserved := R} = twinInFlight s e c := rfl
theorem twin_keys (s : State) (K e) (c : Cmd) : twinInFlight {s with keys := K} e c = twinInFlight s e c := rfl
theorem twin_charge (s : State) (e) (c : Cmd) : twinInFlight s e (chargeCounters c) = twinInFlight s e c := by
  unfold chargeCounters; split <;> rfl
theorem twin_gen (s e c i n p) : twinInFlight (generate s i n p).2 e c = twinInFlight s e c := by
  unfold twinInFlight; rw [generate_so]
theorem trailer_keys (s : State) (K) (c : Cmd) (R) (h : K.frankPriv = s.keys.frankPriv) : trailerLen {s with keys := K} {c with reserved := R} = trailerLen s c := by
  simp [trailerLen, h]
theorem serve_keys (s : State) (K i p) : canServe {s with keys := K} i p = canServe s i p := rfl

theorem work_pinKey {c r k f b w} (h : PinKeyIs c r k f b w) (s e) : work (checkPinKey r k f b) s e c = (.ok w, ⟨s, e, c⟩) := by
  unfold PinKeyIs at h
  unfold checkPinKey
  split
  · rename_i hd; simp only [hd, if_true] at h
    obtain ⟨h1, rfl, h3⟩ := h
    simp [work_bind, work_suits h1, work_need, h3, work_map]
  · rename_i hd; simp only [hd] at h
    obtain ⟨h1, rfl⟩ := h
    simp [work_suits h1, work_map]

/-! ### Answers -/

/-- A service row on a core that runs no command of its opcode changes nothing. -/
theorem runService_other (s : State) (k : Nat) (op : Code) (ch : Bool) (w : Nat) (body : Svc Octets)
    (h : ∀ e c, ¬ Asked s k op e c) : runService s k op ch w body = s := by
  unfold runService
  split
  · rfl
  · rename_i e c hr
    split
    · rfl
    · rename_i hc
      exfalso
      refine h e c ⟨hr, ?_, ?_, ?_, ?_⟩
      all_goals simp at hc
      · exact hc.1.1.1
      · exact hc.1.1.2
      · exact hc.1.2
      · exact hc.2

end Sys2Proof.Machine
end

