-- ==== Sys2Proof/Machine/Flags.lean ====
section
/-! DEFINITION. Status and event words: the flags of each register block as a read shows them (the register tables
of 02, 03, 04, 13, 14, 15, 16 and 17). -/

namespace Sys2Proof.Machine

/-- A flag at a bit. -/
def bitAt (b : Bool) (i : Nat) : Nat := if b then 2 ^ i else 0

/-- 0x0100 and 0x0104 of PF0 (02). -/
def modeWord (s : State) : Nat :=
  s.boot.mode.code + 2 ^ 4 * s.warden.lc.code + bitAt s.boot.rngReady 6 + bitAt s.boot.unsealed 7 + bitAt s.boot.applied 8 +
  bitAt s.pair.joined 9
def bootWord (s : State) : Nat := s.boot.step + 2 ^ 8 * s.boot.fail.toNat
def imgWord (s : State) : Nat := s.boot.imgStatus.toNat + 2 ^ 16 * s.boot.imgState.code

/-- PORT_STATUS and PORT_EVENTS (03). -/
def portWord (s : State) (b : Bool) : Nat :=
  let p := s.port b
  bitAt b 0 + 2 * p.rate.toNat + 2 ^ 4 * p.width.toNat + bitAt p.degraded 9
def portEvents (s : State) (b : Bool) : Nat :=
  let p := s.port b
  bitAt p.rateChange 0 + bitAt p.widthChange 1 + bitAt p.linkDown 2

/-- Mirror lanes in use: the widest of 1, 2 and 4 that the lanes left allow, while the link is up (R490, 15). -/
def lanesInUse (s : State) : Nat :=
  let n := 4 - popCount 4 s.pair.lanesOut.toNat
  if !s.pair.linkUp then 0 else if n = 3 then 2 else n

/-- The relay path is in use: the link is down, RELAY_EN is 1 and a session stands (R508). -/
def relayInUse (s : State) : Bool :=
  !s.pair.linkUp && s.pair.relayEn && ((s.pair.session.map (·.confirmed)).getD false)

/-- PAIR_STATUS, PAIR_CTRL and LEASE_LEFT (15). -/
def pairWord (s : State) : Nat :=
  let p := s.pair
  p.role.code + bitAt p.linkUp 3 + 2 ^ 4 * lanesInUse s + bitAt (relayInUse s) 7 + bitAt p.crownOut 8 + bitAt p.peerIn 9 +
  bitAt p.interlockHeld 10 + bitAt p.verRefused 11 + bitAt p.domainRefused 12 + bitAt p.drillOverdue 13 +
  2 ^ 16 * p.mirrorVer.toNat
def pairCtrl (s : State) : Nat := s.pair.leaseUs.toNat + bitAt s.pair.relayEn 10 + 2 ^ 11 * s.pair.vec.toNat
def leaseLeft (s : State) : Nat := ((s.pair.expiry.map (fun e => e.toNat - s.tb.timeLocal.toNat)).getD 0)

/-- ALARM_STATUS, ALARM_EVENTS and ALARM_CTRL (R548). -/
def alarmWord (s : State) : Nat :=
  bitAt s.warden.lockRec 0 + bitAt s.alarms.vbatLow 1 + bitAt s.alarms.dryFire.isSome 2 + 2 ^ 16 * s.alarms.lastCause.toNat
def alarmEvents (s : State) : Nat := bitAt s.alarms.evE 0 + bitAt s.alarms.evL 1 + bitAt s.alarms.evF 2 + bitAt s.alarms.evN 3
def alarmCtrl (s : State) : Nat := s.alarms.vec.toNat + bitAt s.alarms.fIrq 3 + bitAt s.alarms.nIrq 4

/-- Class code of MON_STATE (R548). -/
def classCode (c : Nat) : Nat := if c = clsE then 3 else if c = clsL then 2 else if c = clsF then 1 else 0

/-- Does monitor n run on battery (R519)?  TAMPER_EXT inputs do while they are class E. -/
def onBattery (s : State) (n : Nat) : Bool :=
  n ≤ 4 || n = 6 || n = 7 || n = 12 || ((8 ≤ n && n ≤ 11) && extClass s.warden.extCfg (n - 8) = 3)

/-- MON_STATE of monitor n (R548); VBAT_LOW is F only with main power present. -/
def monitorWord (s : State) (n : Nat) : Nat :=
  let m := s.monitor n
  (if inWindow s n then 2 else if !monRuns s n then 3 else if m.tripped then 1 else 0) + 2 ^ 2 * classCode (monClass s n) +
  bitAt (onBattery s n) 4 + 2 ^ 16 * m.trips.toNat

/-- CLK_STATUS, the results of the last CLK_GATE_CTRL and PD_CTRL, and a clock monitor's word (17). -/
def clockWord (s : State) : Nat :=
  let c := s.clocks
  bitAt c.foscTrimmed 0 + bitAt c.xaQual 1 + 2 ^ 2 * c.pllLock.toNat + bitAt c.onFosc 7 + bitAt s.warden.rtcOnSosc 8 +
  2 ^ 9 * c.xstart.toNat + 2 ^ 12 * c.qualTries.toNat
def gateWord (s : State) : Nat := s.clocks.gateCode.toNat + 2 ^ 8 * s.clocks.gateNum.toNat
def pdWord (s : State) : Nat := s.clocks.pdCode.toNat + 2 ^ 8 * s.clocks.pdNum.toNat
def clkMonWord (s : State) (i : Nat) : Nat :=
  let m := tget {} s.clocks.mons i
  m.last.toNat + 2 ^ 8 * m.min.toNat + 2 ^ 16 * m.max.toNat + bitAt m.masked 24

/-- JRNL_CTRL and JRNL_STATUS (14). -/
def streamWord (s : State) : Nat := bitAt s.journal.streamEn 0 + bitAt s.journal.overwrite 1 + 2 ^ 8 * s.journal.vec.toNat
def journalEvents (s : State) : Nat := bitAt (!s.journal.waiting.isEmpty) 0 + bitAt s.journal.startLost 1

/-- TB_CTRL and TB_STATUS (R458, R459). -/
def tbCtrl (s : State) : Nat :=
  bitAt s.tb.ptmEn 0 + bitAt s.tb.ptmPort 1 + bitAt s.tb.stepOk 2 + 2 ^ 8 * s.tb.periodMs.toNat
def tbStatus (s : State) : Nat :=
  bitAt s.tb.aligned 0 + bitAt s.tb.slewing 1 + bitAt s.tb.adopted 2 + bitAt s.tb.refused 3 + bitAt s.tb.ptmFail 4

/-- A 48-bit statistics counter with OVF at bit 48 (R474). -/
def Stat.word (c : Stat) : Nat := c.count.toNat + bitAt c.ovf 48

/-- Slot status of a virtual function: state, mode and the Crown (03). -/
def slotStatus (s : State) (slot : Nat) : Nat :=
  (((lookup s.slots.table slot).map (fun x => x.state.code)).getD 0) + 2 ^ 4 * s.boot.mode.code + bitAt (s.boot.mode == .service) 8

end Sys2Proof.Machine
end

