-- ==== Sys2Proof/Machine/RegRead.lean ====
section
/-! DEFINITION. What a read of a host register returns (R1 to R3, R6, R7, R76 and the chapters' register tables).
A read changes nothing: no register of the part has access code RC, so no command is a read. -/

namespace Sys2Proof.Machine

/-- The low or the high 32 bits of a 64-bit register, by the offset read. -/
def halfOf (v off : Nat) : Nat := if off % 8 = 4 then v / 2 ^ 32 else v

/-- Identity block (R1 to R3). -/
def readIdentity (s : State) (off : Nat) : Nat :=
  if off = 0x00 then 0x574C3680
  else if off = 0x04 then 0x00000A01
  else if off = 0x08 ∨ off = 0x0C then halfOf s.warden.serial.toNat off
  else if off = 0x10 then 0x00020300 + s.boot.mirrorMax.toNat
  else if off = 0x14 then s.boot.fwBuild.toNat
  else 0

/-- Mode, image and pair registers (02, 15). -/
def readBoot (s : State) (off : Nat) : Nat :=
  let b := s.boot
  if off = 0x0100 then modeWord s
  else if off = 0x0104 then bootWord s
  else if off = 0x0108 then b.tRng.toNat
  else if off = 0x010C then b.tRole.toNat
  else if off = 0x0120 ∨ off = 0x0124 then halfOf b.imgAddr.toNat off
  else if off = 0x0128 then b.imgLen.toNat
  else if off = 0x0130 then imgWord s
  else if off = 0x0134 then b.imgFaultOff.toNat
  else if off = 0x0138 then b.imgSeq.toNat
  else 0
def readPair (s : State) (off : Nat) : Nat :=
  let p := s.pair
  if off = 0x0180 then pairWord s
  else if off = 0x0184 then pairCtrl s
  else if off = 0x0188 then leaseLeft s
  else if off = 0x0190 ∨ off = 0x0194 then halfOf p.replays.word off
  else if off = 0x0198 ∨ off = 0x019C then halfOf p.relayMsgs.word off
  else if off = 0x01A0 then p.relayOutSeq.toNat
  else if off = 0x01A4 then (drillAge s).toNat
  else if 0x01C0 ≤ off then u32 p.relayOut (off - 0x01C0)
  else 0

/-- Alarm block (R548). -/
def readAlarm (s : State) (off : Nat) : Nat :=
  let a := s.alarms
  let w := s.warden
  let pm := leNat w.lockPm.octets
  if off = 0x0200 then alarmWord s
  else if off = 0x0204 then alarmEvents s
  else if off = 0x0208 then alarmCtrl s
  else if off = 0x020C then w.lockSeq.toNat
  else if off = 0x0210 then pm
  else if off = 0x0214 then pm / 2 ^ 32
  else if off = 0x0218 then pm / 2 ^ 64
  else if off = 0x021C then w.lockCause.toNat
  else if 0x0220 ≤ off ∧ off < 0x0268 then monitorWord s ((off - 0x0220) / 4)
  else if off = 0x0280 then a.vbatMv.toNat
  else if off = 0x0284 then a.tjDc.toNat + 2 ^ 16 * a.twDc.toNat
  else if off = 0x0288 then a.meshDev.toNat
  else if off = 0x028C then w.extCfg.toNat
  else if off = 0x0290 then w.blog.length + 2 ^ 8 * w.blogNewest + 2 ^ 16 * w.blogDropped.toNat
  else 0

/-- Clocks and power (17). -/
def readClocks (s : State) (off : Nat) : Nat :=
  if off = 0x0400 then clockWord s
  else if off = 0x0404 then s.warden.foscTrim.toNat
  else if off = 0x0408 then s.clocks.gates.toNat
  else if off = 0x040C then gateWord s
  else if off = 0x0410 then s.clocks.pd.toNat
  else if off = 0x0414 then pdWord s
  else if 0x0420 ≤ off ∧ off < 0x0438 then clkMonWord s ((off - 0x0420) / 4)
  else 0

/-- BUSY fraction of a core, or the mean of a cluster's eight (R141). -/
def busyOf (s : State) (unit : Nat) (f : Core → BitVec 16) : Nat :=
  if unit < 64 then (f (s.core unit)).toNat
  else if unit < 72 then ((List.range 8).map (fun c => (f (s.core (8 * (unit - 64) + c))).toNat)).sum / 8
  else 0

/-- Ready-list entries of cluster k, and commands on delay list j, with the timers of list 3 (R130, R132). -/
def readyUsed (s : State) (k : Nat) : Nat :=
  (s.so.cmds.filter (fun x => x.2.list == some k && x.2.stage != .pending && x.2.stage != .done)).length
def delayUsed (s : State) (j : Nat) : Nat :=
  (s.so.cmds.filter (fun x => match x.2.stage with | .delayed l _ => l == j | _ => false)).length +
  (if j = 3 then s.so.timers.length + (s.so.phs.filter (fun x => x.2.timer.isSome)).length else 0)

/-- Sorting Office observability (04). -/
def readSorting (s : State) (b : Bool) (off : Nat) : Nat :=
  let p := s.port b
  if off = 0x0800 then p.phSel.toNat
  else if off = 0x0808 then p.snapDepth.toNat + 2 ^ 16 * p.snapMax.toNat
  else if off = 0x0810 then p.slotSel.toNat
  else if off = 0x0818 ∨ off = 0x081C then halfOf p.snapFetched.word off
  else if off = 0x0820 ∨ off = 0x0824 then halfOf p.snapCompleted.word off
  else if off = 0x0828 ∨ off = 0x082C then halfOf p.snapCancelled.word off
  else if off = 0x0830 then p.coreSel.toNat
  else if off = 0x0834 then busyOf s p.coreSel.toNat (·.busy1ms) + 2 ^ 16 * busyOf s p.coreSel.toNat (·.busy1s)
  else if off = 0x0840 then p.histCluster.toNat + 2 ^ 3 * p.histLevel.toNat
  else if 0x0880 ≤ off ∧ off < 0x0900 then halfOf (tget ({} : Stat) p.snapHist ((off - 0x0880) / 8)).word off
  else if 0x0900 ≤ off ∧ off < 0x09E8 then halfOf (tget ({} : Stat) s.so.dstall ((off - 0x0900) / 8)).word off
  else if off = 0x0A00 then
    s.so.cmds.length + 2 ^ 16 * (s.so.cmds.filter (fun x => x.2.stage == .pending)).length
  else if 0x0A08 ≤ off ∧ off < 0x0A18 then delayUsed s ((off - 0x0A08) / 4)
  else if 0x0A20 ≤ off ∧ off < 0x0A40 then readyUsed s ((off - 0x0A20) / 4)
  else if off = 0x0A40 then bitAt s.so.resteer 0 + bitAt s.so.dl3Full 1
  else if off = 0x0A48 then s.so.sched.tick100ns
  else 0

/-- Port registers (03). -/
def readPort (s : State) (b : Bool) (off : Nat) : Nat :=
  let p := s.port b
  if off = 0x1000 then portWord s b
  else if off = 0x1004 then portEvents s b
  else if off = 0x1008 ∨ off = 0x100C then halfOf p.replays.word off
  else if off = 0x1010 ∨ off = 0x1014 then halfOf p.hostFaults.word off
  else 0

/-- Longest free run between lo and hi beside the runs taken, and the largest free aligned data area (13). -/
def longestRun (lo hi : Nat) (runs : List (Nat × Nat)) : Nat :=
  let gap (a : Nat) : Nat := ((runs.filter (fun r => decide (a ≤ r.1))).foldl (fun m r => min m r.1) hi) - a
  (lo :: runs.map (fun r => r.1 + r.2)).foldl (fun m a => max m (gap a)) 0
def dataRunLog2 (runs : List (Nat × Nat)) : Nat :=
  (List.range 11).foldl (fun m i =>
    if (lowestRun 0x70000000 0x78000000 (2 ^ (16 + i)) (2 ^ (16 + i)) runs).isSome then 16 + i else m) 0

/-- Bits of the slots 64 i to 64 i + 63 that meet a condition. -/
def slotMap (s : State) (i : Nat) (f : Slot → Bool) : Nat :=
  s.slots.table.foldl (fun m x => if x.1 / 64 = i ∧ f x.2 then m + 2 ^ (x.1 % 64) else m) 0

/-- Slot table window (13). -/
def readSlots (s : State) (b : Bool) (off : Nat) : Nat :=
  let l := s.slots.table.map (·.2.f)
  let phs := l.map (fun g => (g.phBase, g.phCount))
  let ctrs := (l.filter (fun g => decide (g.ctrCount > 0))).map (fun g => (g.ctrBase, g.ctrCount))
  let data := (l.filter (fun g => decide (g.dataLog2 > 0))).map (fun g => (g.dataBase, 2 ^ g.dataLog2))
  let used (r : List (Nat × Nat)) : Nat := (r.map (·.2)).sum
  if off = 0x2000 then (s.port b).slotTabSel.toNat
  else if off < 0x2030 then u32 (s.port b).snapSlot (off - 0x2004)
  else if off = 0x2100 then
    (s.boot.phPool - used phs) + 2 ^ 16 * longestRun 64 (64 + s.boot.phPool) phs
  else if off = 0x2104 then s.boot.cachePool - (l.map (·.cacheShare)).sum
  else if off = 0x2108 then s.boot.ctrPool - used ctrs
  else if off = 0x210C then longestRun 0 s.boot.ctrPool ctrs
  else if off = 0x2110 then (0x8000000 - used data) / 0x10000 + 2 ^ 16 * dataRunLog2 data
  else if off = 0x2114 then l.length
  else if 0x2200 ≤ off ∧ off < 0x2240 then halfOf (slotMap s ((off - 0x2200) / 8) (fun _ => true)) off
  else if 0x2240 ≤ off ∧ off < 0x2280 then
    halfOf (slotMap s ((off - 0x2240) / 8) (fun x => x.state == .quiescing || x.state == .quiesced)) off
  else 0

/-- Journal and timebase registers (14). -/
def readJournal (s : State) (off : Nat) : Nat :=
  let j := s.journal
  let t := s.tb
  let base := off / 8 * 8
  if off = 0x4000 then streamWord s
  else if base = 0x4008 then halfOf j.streamBase.toNat off
  else if off = 0x4010 then j.streamLog2.toNat
  else if base = 0x4018 then halfOf j.startSeq.toNat off
  else if base = 0x4020 then halfOf j.head.toNat off
  else if base = 0x4028 then halfOf j.tail.toNat off
  else if base = 0x4030 then halfOf j.next.toNat off
  else if off = 0x4038 then j.seg.toNat
  else if base = 0x4040 then halfOf j.lost.word off
  else if off = 0x4048 then journalEvents s
  else if base = 0x8000 then halfOf s.time.toNat off
  else if base = 0x8008 then halfOf t.timeLocal.toNat off
  else if base = 0x8010 then halfOf t.offset.toNat off
  else if off = 0x8018 then tbCtrl s
  else if off = 0x801C then tbStatus s
  else if base = 0x8020 then halfOf t.slewLeft.toNat off
  else if off = 0x8028 then s.warden.rtcS.toNat
  else if base = 0x8030 then halfOf t.lastPtm.toNat off
  else 0

/-- Ring configuration and doorbells of a pigeonhole (03). -/
def readConfig (p : Ph) (off : Nat) : Nat :=
  if off < 0x08 then halfOf p.sqBase.toNat off
  else if off < 0x10 then halfOf p.cqBase.toNat off
  else if off = 0x10 then p.cfgWord
  else if off = 0x14 then p.trigWord
  else if off = 0x18 then p.stateWord
  else 0
def readBell (p : Ph) (off : Nat) : Nat :=
  if off = 0x8 then p.sqHead
  else if off = 0xC then p.cqTail + bitAt p.phase 16
  else 0

/-- Slot identity and status of a virtual function (R77). -/
def readSlotId (s : State) (fn : Fn) (off : Nat) : Nat :=
  let slot := slotOfFn fn
  match lookup s.slots.table slot with
  | none => if off = 0x0 then slot else if off = 0x8 then 0x0300 else if off = 0xC then slotStatus s slot else 0
  | some x =>
    if off = 0x0 then slot + 2 ^ 16 * x.f.domain.toNat
    else if off = 0x4 then x.f.phCount + 2 ^ 8 * x.f.maxPrio
    else if off = 0x8 then maskOfPolicy s x.f.policyId.toNat + 0x0300
    else if off = 0xC then slotStatus s slot
    else 0

/-- The MSI-X table of a function and its pending-bit array (R66, R99). -/
def readMsix (s : State) (fn : Fn) (off : Nat) : Nat := u32 (msixOctets s fn) off
def readPending (s : State) (fn : Fn) (off : Nat) : Nat := u32 (msixPending s fn) off

/-- A 32-bit read of PF0 BAR0 outside the blocks of its pigeonholes. -/
def readPf0 (s : State) (b : Bool) (off : Nat) : Nat :=
  if off < 0x0100 then readIdentity s off
  else if off < 0x0140 then readBoot s off
  else if off < 0x0200 then readPair s off
  else if off < 0x0400 then readAlarm s off
  else if off < 0x0800 then readClocks s off
  else if off < 0x1000 then readSorting s b off
  else if off < 0x1100 then readPort s b off
  else if off < 0x2000 then 0
  else if off < 0x4000 then readSlots s b off
  else readJournal s off

/-- A 32-bit read of BAR0 of a function, or of BAR2 of PF0, at a multiple of 4 (R76). -/
def readReg (s : State) (fn : Fn) (bar2 : Bool) (off : Nat) : BitVec 32 :=
  BitVec.ofNat 32 (
    if bar2 then
      if fn.vf ≠ 0 then 0 else if off < 0x280 then readMsix s fn off
      else if 0x800 ≤ off ∧ off < 0x808 then readPending s fn (off - 0x800) else 0
    else
      match inBlock (cfgBase fn) 0x20 (phShown fn) off, inBlock (bellBase fn) 0x10 (phShown fn) off with
      | some (i, o), _ => match globalPh s fn i with | some n => readConfig (s.ph n) o | none => 0
      | none, some (i, o) => match globalPh s fn i with | some n => readBell (s.ph n) o | none => 0
      | none, none =>
        if fn.vf = 0 then readPf0 s fn.portB off
        else if off < 0x100 then readSlotId s fn off
        else if 0x2000 ≤ off ∧ off < 0x2400 then readMsix s fn (off - 0x2000)
        else if 0x3000 ≤ off ∧ off < 0x3008 then readPending s fn (off - 0x3000)
        else 0)

end Sys2Proof.Machine
end

