-- ==== Sys2Proof/WellFormed.lean ====
section
/-! DEFINITION. When a command's operands are ones that its rule can give: function and pigeonhole numbers that exist,
table entries and units in range, blocks of the lengths the manual states.  A meaning is total all the same: an
operand out of range names nothing, and the state stays as it is. -/

namespace Sys2Proof

/-- PF0 or one of the 256 virtual functions of a port (R67). -/
def Fn.ok (fn : Fn) : Bool := decide (fn.vf.toNat ≤ 256)

/-- A function and a pigeonhole index that it can have: 32 on PF0, 64 on a virtual function (03). -/
def Fn.phOk (fn : Fn) (ph : BitVec 6) : Bool := fn.ok && (fn.vf != 0 || decide (ph.toNat < 32))

/-- Operands in range. -/
def Instr.wellFormed (i : Instr) : Bool :=
  match i with
  | .pllLock pll => decide (pll < 5)
  | .imageData _ data => decide (1 ≤ data.length ∧ data.length ≤ 1024)
  | .linkTrained _ rate width => decide (4 ≤ rate.toNat ∧ rate.toNat ≤ 6) && [1, 2, 4, 8, 16].contains width.toNat
  | .flrVf fn => fn.ok && fn.vf != 0
  | .msixUnmask fn vector => fn.ok && (fn.vf != 0 || decide (vector.toNat < 40))
  | .enable fn ph _ _ => fn.phOk ph
  | .enableOff fn ph => fn.phOk ph
  | .sqTail fn ph _ => fn.phOk ph
  | .cqHead fn ph _ => fn.phOk ph
  | .descriptorFetch _ d => decide (d.params.length = 24)
  | .inputLanded e _ => decide (e < 16384)
  | .completionWrite e => decide (e < 16384)
  | .hostAccessFault e _ _ => decide (e < 16384)
  | .pageGrant e => decide (e < 16384)
  | .pageWaitExpiry e => decide (e < 16384)
  | .replayExpiry slot _ _ => decide (slot ≤ 513)
  | .deferExpiry e => decide (e < 16384)
  | .registerWrite fn bar2 off wide _ => fn.ok && (!bar2 || fn.vf == 0) && decide (off.toNat % (if wide then 8 else 4) = 0)
  | .slotCleanupEnd slot => decide (slot < 512)
  | .quiesceDrainEnd slot => decide (slot < 512)
  | .entropyRelease e => decide (e < 16384)
  | .entropyWaitExpiry e => decide (e < 16384)
  | .setFree gate _ => decide (gate.toNat ≤ 28)
  | .loadSet _ gate _ regions => decide (gate.toNat ≤ 28) && decide (regions.length ≤ 16)
  | .gateSelfCheck gate _ _ => decide (gate.toNat ≤ 28)
  | .failedClusterTest unit _ => decide (unit.toNat ≤ 8)
  | .lid contact => decide (contact.toNat < 3)
  | .supply rail _ => decide (rail.toNat ≤ 6)
  | .monitorWindow clock count => decide (clock.toNat ≤ 5) && decide (count.toNat ≤ 110)
  | .pwrGoodRise .. | .xaDelayEnd .. | .xaQualify .. | .bootRom .. | .bootSelftest .. | .entropyStartup ..
  | .pwrGoodFall .. | .pwrGoodHoldoff .. | .resetNAssert .. | .resetRelease .. | .warm .. | .start .. | .abort ..
  | .imageReceived .. | .imageVerified .. | .layoutApplied .. | .pairDecision .. | .pairWaitExpiry ..
  | .pairRetry .. | .imageArmLapse .. | .imageBegin .. | .imageEnd .. | .imageStatus .. | .imageAbort ..
  | .imageTransferTimeout .. | .getIdentity .. | .getMode .. | .mctpBatteryLog .. | .mctpHealthReport ..
  | .setEndpointId .. | .getEndpointId .. | .getMctpVersionSupport .. | .getMessageTypeSupport ..
  | .getVendorDefinedMessageSupport .. | .entdaa .. | .rstdaa .. | .enec .. | .disec .. | .setmwl .. | .setmrl ..
  | .getmwl .. | .getmrl .. | .getpid .. | .getbcr .. | .getdcr .. | .getstatus .. | .chainInRise .. | .hotJoin ..
  | .maintEnter .. | .maintDrainEnd .. | .maintExit .. | .imageReapply .. | .moduleRetire .. | .retireErase ..
  | .diagEnter .. | .diagExit .. | .perstAssert .. | .portLinkDown .. | .perstRelease .. | .flrPf0 ..
  | .vfEnable .. | .ringDrainEnd .. | .fetchCredit .. | .pendingPlacement .. | .dispatch .. | .coalesceTimer ..
  | .supervisorTimer .. | .ringAccessFault .. | .openCh .. | .closeCh .. | .closeComplete .. | .nop ..
  | .version .. | .soDefer .. | .enq .. | .phSel .. | .slotSel .. | .histSel .. | .clrMax .. | .clrSlot ..
  | .clrHist .. | .clrDstall .. | .busyWindowEnd .. | .slotTabSel .. | .pinTranslate .. | .pinVerify ..
  | .pinGenerate .. | .pinChange .. | .cvcGenerate .. | .cvcVerify .. | .pinRefGenerate .. | .emvArqcVerify ..
  | .emvArpcGenerate .. | .emvScriptMac .. | .emvScriptEncrypt .. | .emvSessionKey .. | .dukptIkExport ..
  | .dukptTerminalKey .. | .dukptDecrypt .. | .dukptEncrypt .. | .dukptMacVerify .. | .dukptMacGenerate ..
  | .macGenerate .. | .macVerify .. | .keyGenerate .. | .keyDerive .. | .keyImport .. | .keyExport .. | .rklRsa ..
  | .rklEcdh .. | .envelopeMake .. | .envelopeUpgrade .. | .keyCheckValue .. | .gcmEncrypt .. | .gcmDecrypt ..
  | .cbcEncrypt .. | .cbcDecrypt .. | .ctrCrypt .. | .ff1Encrypt .. | .ff1Decrypt .. | .randomBytes ..
  | .ecdsaSign .. | .ecdsaVerify .. | .ecdh .. | .ecKeygen .. | .rsaSign .. | .rsaVerify .. | .rsaDecrypt ..
  | .rsaKeygen .. | .curveLoad .. | .attest .. | .frankCert .. | .counterRead .. | .ceremonyBegin ..
  | .shareExport .. | .shareSubmit .. | .ceremonyCommit .. | .drErase .. | .ceremonyTimeout .. | .arraySelftest ..
  | .rngSelftest .. | .rngStatus .. | .rngConfig .. | .rngRawRead .. | .slotCreate .. | .slotDestroy ..
  | .slotQuiesce .. | .slotResume .. | .slotSave .. | .slotRestore .. | .logEnable .. | .harvest ..
  | .logDisable .. | .healthReport .. | .batteryLog .. | .roleSwap .. | .roleSwapDrainEnd .. | .pairForce ..
  | .dryFire .. | .dryfireWindowEnd .. | .tamperConfig .. | .quorumChallenge .. | .quorumGrant ..
  | .challengeExpiry .. | .grantExpiry .. | .unlock .. | .unlockReset .. | .nopInsn .. | .mov .. | .addInsn ..
  | .subInsn .. | .andInsn .. | .orInsn .. | .xorInsn .. | .addcInsn .. | .subbInsn .. | .shlInsn .. | .shrInsn ..
  | .sltuInsn .. | .mulInsn .. | .mulhuInsn .. | .norm .. | .gget .. | .gclr .. | .li .. | .addi .. | .shli ..
  | .shri .. | .ld .. | .st .. | .norms .. | .zeros .. | .beqz .. | .bnez .. | .jr .. | .jalr .. | .rep ..
  | .repi .. | .doneInsn .. | .rfe .. | .cyc .. | .movs .. | .movt .. | .alu .. | .sel .. | .addiLong .. | .andi ..
  | .ori .. | .xori .. | .movi .. | .lui .. | .shliLong .. | .shriLong .. | .ldLong .. | .stLong .. | .beq ..
  | .bne .. | .bltu .. | .bgeu .. | .jal .. | .fld .. | .fst .. | .fmr .. | .fmw .. | .farAnswer ..
  | .cycleLimit .. | .wmuClr .. | .wmuSetp .. | .wmuLdm .. | .wmuMac .. | .wmuMacs .. | .wmuMacsSh .. | .wmuPeek ..
  | .wmuPop .. | .wmuPops .. | .wmuStat .. | .scrubEnd .. | .ecb .. | .cbc .. | .ctr .. | .cbcMac .. | .cmac ..
  | .gcm .. | .keychain .. | .hashJob .. | .jobEnd .. | .laneParity .. | .laneKatEnd .. | .arraySwitch ..
  | .rebuildEnd .. | .loadLane .. | .loadHash .. | .loadPrivate .. | .dukpt .. | .emv .. | .derive ..
  | .generateKey .. | .wrap .. | .importKeyBlock .. | .exportKeyBlock .. | .secret .. | .upgrade .. | .oaepKey ..
  | .keyRequestEnd .. | .randomRequest .. | .randomRequestEnd .. | .aptWindowClose .. | .cellRetest ..
  | .entropyFailDeadline .. | .drbgKat .. | .kuMaskRedraw .. | .gateRequest .. | .ruleTableReturn .. | .armSet ..
  | .swapSet .. | .freeSet .. | .lockstepMismatch .. | .clusterReplaced .. | .spareTest .. | .memoryError ..
  | .moduleFault .. | .checkpointSign .. | .journalStream .. | .streamEn .. | .journalHead .. | .ptmExchange ..
  | .idleFrame .. | .frameReplay .. | .mirrorLinkDown .. | .mirrorLinkUp .. | .hello .. | .keyConfirm ..
  | .leaseRenewTimer .. | .leaseRenew .. | .leaseAck .. | .leaseGuard .. | .leaseExpiry .. | .takeWindow ..
  | .takeWindowMiss .. | .crownRecheck .. | .retake .. | .reclaim .. | .peerCrownInRise .. | .commitMsg ..
  | .commitAck .. | .journalMsg .. | .standbyEvent .. | .cacheListTimer .. | .cacheList .. | .timeSync ..
  | .bulk .. | .bulkAck .. | .handover .. | .handoverAck .. | .detach .. | .detachAck .. | .detachTimeout ..
  | .selfDetach .. | .relayIn .. | .drillOverdue .. | .meshOpen .. | .meshShort .. | .meshDrift .. | .light ..
  | .tjExtreme .. | .twExtreme .. | .zeroize .. | .tamperExt .. | .vbatCrit .. | .vbatLow .. | .tjLimit ..
  | .tjWarn .. | .meshRedraw .. | .maskRotation .. | .xbCheck .. | .clkGateCtrl .. | .pdCtrl .. | .pdSwitchEnd ..
  | .drbgLaneParity .. | .mirrorLaneError .. | .slewEnd .. | .newSecondCopy .. | .vbatLowClear ..
  | .dSramCleared .. | .boundaryScan .. => true

end Sys2Proof
end

