-- ==== Sys2Proof/Tests/Slice0.lean ====
section
/-! SUPPORT. The model's own tests: what reset gives, ill-formed operands that the checks refuse, single steps, and, for
every statement with hypotheses, a state and operands that meet them. -/

open Sys2Proof Sys2Proof.Machine

namespace Sys2Proof.Tests

-- One theorem after another: each asks the kernel, and a theorem on a thread of its own would only wait there.
set_option Elab.async false

/-! ### Small states -/

/-- A command of an opcode with an input, on PF0 of port A unless a slot is given. -/
def aCmd (op : Code) (input : Octets) (cap : BitVec 32 := 4096) : Cmd :=
  { slot := 512, d := { opcode := op, version := 3, outCap := cap, inLen := BitVec.ofNat 32 input.length }, input := input,
    landed := true, stage := .running 0, dispatched := true }

/-- SERVICE, with a command in entry 0. -/
def withCmd (c : Cmd) : State :=
  { State.reset with boot := { State.reset.boot with mode := .service, step := 9, rngReady := true }, so := { State.reset.so with cmds := [(0, c)] } }

/-- The same with the command running on core 0, whose registers and so on are given. -/
def onCore (core : Core) (c : Cmd) : State := (withCmd c).setCore 0 { core with cmd := some 0, pc := 0x1000 }

/-- A core of a standard program with some registers. -/
def plainCore : Core := { regs := [(1, 0x12345), (2, 7), (3, 0x10020)], handler := some 0x1100 }

def s0 : State := onCore plainCore (aCmd 3 [])

/-- A core with other registers than `plainCore`. -/
def withRegs (r : Tab W36) : State := onCore { plainCore with regs := r } (aCmd 3 [])

/-! ### Ill-formed operands -/

theorem test_wf_pll : (Instr.pllLock 5).wellFormed = false := by decide
theorem test_wf_imageData : (Instr.imageData 0 []).wellFormed = false := by decide
theorem test_wf_link : (Instr.linkTrained false 3 16).wellFormed = false ∧ (Instr.linkTrained false 6 3).wellFormed = false := by
  decide
theorem test_wf_flr : (Instr.flrVf ⟨false, 0⟩).wellFormed = false ∧ (Instr.flrVf ⟨true, 257⟩).wellFormed = false := by decide
theorem test_wf_vector : (Instr.msixUnmask ⟨false, 0⟩ 40).wellFormed = false := by decide
theorem test_wf_ph : (Instr.enable ⟨false, 0⟩ 32 6 0).wellFormed = false ∧ (Instr.enableOff ⟨true, 0⟩ 33).wellFormed = false ∧
    (Instr.sqTail ⟨false, 0⟩ 63 0).wellFormed = false ∧ (Instr.cqHead ⟨false, 300⟩ 0 0).wellFormed = false := by decide
theorem test_wf_descriptor : (Instr.descriptorFetch 0 { params := [] }).wellFormed = false := by decide
theorem test_wf_entry : (Instr.inputLanded 16384 []).wellFormed = false ∧ (Instr.completionWrite 16384).wellFormed = false ∧
    (Instr.hostAccessFault 16384 true 0).wellFormed = false ∧ (Instr.pageGrant 16384).wellFormed = false ∧
    (Instr.pageWaitExpiry 16384).wellFormed = false ∧ (Instr.deferExpiry 16384).wellFormed = false ∧
    (Instr.entropyRelease 16384).wellFormed = false ∧ (Instr.entropyWaitExpiry 16384).wellFormed = false := by decide
theorem test_wf_slot : (Instr.replayExpiry 514 0 0).wellFormed = false ∧ (Instr.slotCleanupEnd 512).wellFormed = false ∧
    (Instr.quiesceDrainEnd 512).wellFormed = false := by decide
theorem test_wf_register : (Instr.registerWrite ⟨false, 0⟩ false 2 false 0).wellFormed = false ∧
    (Instr.registerWrite ⟨false, 1⟩ true 0 false 0).wellFormed = false := by decide
theorem test_wf_gate : (Instr.setFree 29 0).wellFormed = false ∧ (Instr.loadSet 0 29 false []).wellFormed = false ∧
    (Instr.gateSelfCheck 29 0 false).wellFormed = false := by decide
theorem test_wf_units : (Instr.failedClusterTest 9 true).wellFormed = false ∧ (Instr.lid 3).wellFormed = false ∧
    (Instr.supply 7 0).wellFormed = false ∧ (Instr.monitorWindow 6 100).wellFormed = false ∧
    (Instr.monitorWindow 0 111).wellFormed = false := by decide

/-! ### The core's instructions (chapter 11) -/

theorem witness_AluInstructions : Going s0 0 (halfAdd (s0.core 0).pc 1) ∧ GoingLong s0 0 (halfAdd (s0.core 0).pc 2) ∧
    (s0.core 0).fetched 1 = true ∧ (s0.core 0).fetched 2 = true ∧
    aluSpec 0x02 ((s0.core 0).reg 1) ((s0.core 0).reg 2) (s0.core 0).st = some (0x1234C, 0) ∧
    aluSpec 0x08 ((s0.core 0).reg 2) ((s0.core 0).reg 1) (s0.core 0).st = some (0xFFFEDCC2, 1) := by
  unfold GoingLong Going; decide

theorem witness_Branches : Going s0 0 (BitVec.ofInt 25 ((s0.core 0).pc.toNat + (-2 : BitVec 8).toInt)) ∧
    GoingLong s0 0 (BitVec.ofInt 25 ((s0.core 0).pc.toNat + (4 : BitVec 18).toInt)) ∧
    Going s0 0 (BitVec.ofNat 25 ((s0.core 0).reg 2).toNat) ∧ (s0.core 0).reg 0 = 0 ∧ (s0.core 0).reg 1 ≠ 0 := by
  unfold GoingLong Going; decide

theorem witness_RepeatCountsDown :
    let c : Core := { plainCore with rep := some { interruptible := false, prefixPc := 0xFFF, bodyLen := 1 } }
    let a := onCore { c with repc := 1 } (aCmd 3 [])
    let b := onCore { c with repc := 4095 } (aCmd 3 [])
    (∀ s ∈ [a, b], (s.core 0).cmd.isSome = true ∧ (s.core 0).far = none ∧ (s.core 0).rep.isSome = true ∧
      (s.core 0).wmuPending = false ∧ fetchable (s.core 0) (halfAdd (s.core 0).pc 1) = true ∧
      fetchable (s.core 0) (s.core 0).pc = true) ∧
    (a.core 0).repc.toNat % 4096 = 1 ∧ 2 ≤ (b.core 0).repc.toNat % 4096 := by decide

theorem witness_NearAccesses :
    nearStorable 0x10020 = true ∧ nearLoad s0 (s0.core 0) 0x10020 = some 0 ∧ nearStorable 0x17FFF = true ∧
    nearStorable 0x2007FF = true ∧ nearLoad s0 (s0.core 0) 0x2007FF = some 0 ∧ ((s0.core 0).reg 3).toNat % 2 ^ 24 = 0x10020 ∧
    nearStorable 0x18000 = false ∧ nearLoad s0 (s0.core 0) 0x8000 = none := by decide

theorem witness_SpecialRegisters : bodyLegal 0x100000000 = true ∧ (s0.core 0).resume = false ∧
    (let s := onCore { plainCore with resume := true, repc := 5 } (aCmd 3 [])
     Going s 0 (halfAdd (s.core 0).pc 1) ∧ (s.core 0).resume = true ∧ (s.core 0).repc.toNat % 4096 ≠ 0) := by
  unfold Going; decide

theorem witness_ReturnFromEvent :
    let ev (rpt : Bool) := mkEv 5 rpt true false 0x1200
    let s (rpt : Bool) := onCore { plainCore with ev := ev rpt } (aCmd 3 [])
    (∀ rpt, Going (s rpt) 0 (BitVec.ofNat 25 (((s rpt).core 0).ev.toNat / 2 ^ 11)) ∧ ((s rpt).core 0).wmuPending = false ∧
      evAct ((s rpt).core 0).ev = true ∧ evRpt ((s rpt).core 0).ev = rpt) ∧
    (let t := onCore { plainCore with ev := mkEv 5 false true false 0x1FFFFFF } (aCmd 3 [])
     fetchable (t.core 0) (BitVec.ofNat 25 ((t.core 0).ev.toNat / 2 ^ 11)) = false ∧ (t.core 0).rep = none ∧
     evAct (t.core 0).ev = true) ∧
    evAct (s0.core 0).ev = false := by
  unfold Going; decide

theorem witness_TerminalForms : (s0.core 0).ready = true ∧ (s0.core 0).spans = true ∧
    (let t := s0.setCore 0 { s0.core 0 with pc := 0xFFFF }
     (t.core 0).ready = true ∧ (t.core 0).spans = false) ∧ bodyLegal 0x640000000 = false ∧ nearStorable (((s0.core 0).reg 2).toNat % 2 ^ 24 + 0) = false ∧
    nearLoad s0 (s0.core 0) 0x18000 = none := by decide

theorem witness_ProgramFaultEndsCommand : running s0 0 = some (0, aCmd 3 []) := by decide

/-! ### The wide multiplier (chapter 08) -/

theorem witness_WmuOperations : Going s0 0 (halfAdd (s0.core 0).pc 1) ∧ (s0.core 0).wmu.scrubbing = false ∧
    guardBits ((s0.core 0).reg 2) = 0 ∧ (s0.core 0).wmu.acnt.toNat ≠ 2 ^ 32 - 1 ∧
    (∀ n, n < 18 → guardBits (tget 0 (s0.core 0).wmu.opmem ((((s0.core 0).reg 2).toNat % 2048 + n) % 2048)) = 0) ∧
    (s0.core 0).wmu.acc = 0 ∧ (s0.core 0).wmu.resAcc = 0 := by
  unfold Going; decide +kernel

theorem witness_ResidueFollows : (0 : Nat) < 13 ∧ 2 ^ 32 * invPrime (2 ^ 32) 13 % 13 = 1 ∧
    (let w : Wmu := { acc := 100, resAcc := 9, m0 := 5, resM0 := 5 }
     w.resAcc = w.acc.toNat % 13 ∧ w.mres false = (w.mcand false).toNat % 13 ∧
     w.acc.toNat + (w.mcand false).toNat * (7 : BitVec 32).toNat < 2 ^ 640) := by decide +kernel

theorem witness_ResidueMismatch :
    let s := onCore { plainCore with wmu := { resAcc := 1 } } (aCmd 3 [])
    Going s 0 (halfAdd (s.core 0).pc 1) ∧ (s.core 0).wmuPending = false ∧ evAct (s.core 0).ev = false ∧
    (s.core 0).handler = some 0x1100 ∧ (s.core 0).wmu.scrubbing = false ∧
    (s.core 0).wmu.acc.toNat % checkPrime s ≠ (s.core 0).wmu.resAcc ∧
    (let c := { s.core 0 with rep := some { interruptible := false, prefixPc := 0xFFF, bodyLen := 1 }, repc := 1 }
     c.cmd.isSome = true ∧ c.far = none ∧ c.rep.isSome = true ∧ c.repc.toNat % 4096 = 1 ∧
     fetchable c (halfAdd c.pc 1) = true) := by
  refine ⟨by unfold Going; decide, by decide, by decide, by decide, by decide, ?_, by decide⟩
  have h1 : ((onCore { plainCore with wmu := { resAcc := 1 } } (aCmd 3 [])).core 0).wmu.acc.toNat = 0 := by decide +kernel
  have h2 : ((onCore { plainCore with wmu := { resAcc := 1 } } (aCmd 3 [])).core 0).wmu.resAcc = 1 := by decide
  rw [h1, h2]
  simp

theorem witness_Scrub :
    let s := onCore { plainCore with wmu := { scrubbing := true } } (aCmd 3 [])
    (s.core 0).wmu.scrubbing = true ∧ Going s 0 (halfAdd (s.core 0).pc 1) := by
  unfold Going; decide

theorem witness_HandledEvents :
    let s := onCore { plainCore with regs := [(1, 0xF00000001), (2, 6), (3, 0x10020)], wmu := { opmem := [(0, 0xF00000001)] } }
      (aCmd 3 [])
    (s.core 0).ready = true ∧ (s.core 0).spans = true ∧ evAct (s.core 0).ev = false ∧ (s.core 0).handler = some 0x1100 ∧
    (∃ x, farAddr (s.core 0) 0 ((s.core 0).reg 2 + (0 : BitVec 10).signExtend 36) = some x ∧ x % 4 ≠ 0) ∧
    (∃ x, farAddr (s.core 0) 0 ((s.core 0).reg 0 + (4 : BitVec 10).signExtend 36) = some x ∧ x % 4 = 0) ∧
    guardBits ((s.core 0).reg 1) ≠ 0 ∧ (s.core 0).wmu.scrubbing = false ∧
    guardBits (tget 0 (s.core 0).wmu.opmem (s.core 0).wmu.lp.toNat) ≠ 0 := by
  refine ⟨by decide, by decide, by decide, by decide, ⟨6, by decide⟩, ⟨4, by decide⟩, by decide, by decide, by decide⟩

theorem witness_FarTerminals :
    let s := withRegs [(1, 0x10020), (2, 16), (3, 0x18000)]
    (s.core 0).ready = true ∧ (s.core 0).spans = true ∧ farAddr (s.core 0) 0 ((s.core 0).reg 2) = some 16 ∧ ((s.core 0).reg 2).toNat % 4 = 0 ∧
    moveRange true (near24 ((s.core 0).reg 3)) 4 = false ∧ moveRange false (near24 ((s.core 0).reg 3)) 4 = false ∧
    (let t := onCore { plainCore with handler := none, wmu := { acnt := 0xFFFFFFFF } } (aCmd 3 [])
     (t.core 0).ready = true ∧ (t.core 0).spans = true ∧ (t.core 0).handler = none ∧ farAddr (t.core 0) 0 ((t.core 0).reg 2) = some 7 ∧
     (t.core 0).wmu.acnt.toNat = 2 ^ 32 - 1 ∧ guardBits ((t.core 0).reg 1) = 0) := by decide

theorem witness_FarAccesses :
    let s := withRegs [(1, 0x10020), (2, 16), (3, 0x200)]
    (s.core 0).ready = true ∧ (s.core 0).spans = true ∧ farAddr (s.core 0) 0 ((s.core 0).reg 2) = some 16 ∧
    moveRange true (near24 ((s.core 0).reg 1)) 4 = true ∧ moveRange false (near24 ((s.core 0).reg 1)) 4 = true ∧
    (nearOctets s (s.core 0) (near24 ((s.core 0).reg 1)) (pieceLen 16 16 / 4)).isSome = true ∧
    guardBits ((s.core 0).reg 3) = 0 := by decide

theorem witness_FarAnswers :
    (∀ f : FarOp, f ∈ [FarOp.load 4 0x100, FarOp.store 0x100 5] →
      let s := onCore { plainCore with far := some f } (aCmd 3 [])
      (s.core 0).cmd.isSome = true ∧ (s.core 0).rep = none ∧ (s.core 0).wmuPending = false ∧
      fetchable (s.core 0) (halfAdd (s.core 0).pc 2) = true ∧ (s.core 0).far = some f) ∧
    (let s := onCore { plainCore with far := some (.store ((1 + 0) * 2 ^ 36 + 4) 5) } (aCmd 3 [])
     running s 0 = some (0, aCmd 3 []) ∧ (1 + (s.core 0).ctxPort) * 2 ^ 36 + hsOut 0 (aCmd 3 []) + 4 = 2 ^ 36 + 4 ∧
     2 ^ 36 + 4 + 4 ≤ (1 + (s.core 0).ctxPort) * 2 ^ 36 + hsOut 0 (aCmd 3 []) + hsOutLen (aCmd 3 [])) := by decide

theorem witness_FarMovePieces :
    (∀ rd : Bool,
      let s := onCore { plainCore with far := some (.move rd 4 0x10020 16 32 16) } (aCmd 3 [])
      (s.core 0).cmd.isSome = true ∧ (s.core 0).rep = none ∧ (s.core 0).wmuPending = false ∧
      fetchable (s.core 0) (halfAdd (s.core 0).pc 2) = true ∧ pieceLen (16 + 16) (32 - 16) = 16 ∧
      (nearOctets s (s.core 0) (0x10020 + 16 / 4) (16 / 4)).isSome = true ∧ moveRange true 0x10020 (32 / 4) = true) ∧
    pieceLen (16 + 0) (32 - 0) = 16 := by decide

theorem witness_RefusedAccesses :
    ∀ f : FarOp, f ∈ [FarOp.load 4 0x100, FarOp.store 0x100 5, FarOp.move true 4 0x10020 16 32 16] →
      let s := onCore { plainCore with far := some f } (aCmd 3 [])
      (s.core 0).cmd.isSome = true ∧ (s.core 0).rep = none ∧ evAct (s.core 0).ev = false ∧
      (s.core 0).handler = some 0x1100 ∧ (s.core 0).far = some f := by decide

theorem witness_DoneHandsOver :
    let c (n : Nat) : Cmd := { aCmd 3 [] 4 with served := true, output := zeros n }
    let s (seen : Bool) (n : Nat) := onCore { plainCore with wmuSeen := seen } (c n)
    (∀ seen n, n ∈ [4, 5] → running (s seen n) 0 = some (0, c n) ∧ ((s seen n).core 0).far = none ∧
      doneWaits (s seen n) 0 = false ∧ wantsFrank (c n).d = false ∧ ((s seen n).core 0).wmuSeen = seen) ∧
    within24h (s true 4) ((s true 4).time.toNat :: ((s true 4).core 0).wmuFaults.take 3) < 2 := by decide

theorem witness_CycleLimit :
    let s := onCore { plainCore with maxCycles := some 100 } (aCmd 0x0F00 [])
    (s.core 0).maxCycles = some 100 ∧ running s 0 = some (0, aCmd 0x0F00 []) ∧ (s.core 0).rep = none ∧
    (let t := onCore { plainCore with rep := some { interruptible := false, prefixPc := 0xFFF, bodyLen := 1 } } (aCmd 0x0F00 [])
     (t.core 0).rep = some { interruptible := false, prefixPc := 0xFFF, bodyLen := 1 }) := by decide

/-! ### Arrays, the key unit and the entropy unit (chapters 07, 09, 10) -/

/-- A context label of tenant 0x0105, domain 2, for a key of a class, usage, algorithm and mode. -/
def aLabel (cls alg : Nat) (usage mode : String) (exp : String := "N") : Octets :=
  be 2 0x0105 ++ be 2 0x2000 ++ le 1 cls ++ ascii usage ++ le 1 alg ++ zeros 4 ++ ascii mode ++ ascii exp ++ zeros 50

/-- The key that the cache holds for such a label. -/
def aKey (cls alg : Nat) (usage mode : String) (exp : String := "N") : KeyVal :=
  { alg := alg, cls := cls, usage := ascii usage, mode := (ascii mode).headD 0, exp := (ascii exp).headD 0, len := algLen alg,
    mask := fullMask, bytes := List.replicate (algLen alg) 0x11 }

/-- A label key reference of 80 octets. -/
def aRef (cls alg : Nat) (usage mode : String) (exp : String := "N") : Octets :=
  [1] ++ zeros 15 ++ aLabel cls alg usage mode exp

/-- An active slot 1 of that tenant, with keys in its cache. -/
def withKeys (ks : List CacheEntry) (s : State) : State :=
  { s with slots := { s.slots with table := [(1, { f := { tenant := 0x0105, domain := 2, phBase := 64, phCount := 4, maxPrio := 1,
                                                          weight := 2, cacheShare := 64, ctrBase := 100, ctrCount := 8 } })] },
           keys := { s.keys with cacheKey := some (zeros 32), cache := ks } }

/-- A command of slot 1 running on core 0, with keys in the slot's cache. -/
def tenantCmd (op : Code) (input : Octets) (cap : BitVec 32 := 4096) : Cmd :=
  { aCmd op input cap with fn := { vf := 2 }, slot := 1, ph := 64 }

def cached (cls alg : Nat) (usage mode : String) (exp : String := "N") : CacheEntry :=
  { slot := 1, body := aLabel cls alg usage mode exp, key := aKey cls alg usage mode exp }

def tenant (op : Code) (input : Octets) (ks : List CacheEntry) (cap : BitVec 32 := 4096) : State :=
  withKeys ks (onCore plainCore (tenantCmd op input cap))

/-- The DRBG instances of the module, ready. -/
def withDrbgs (s : State) : State :=
  { s with entropy := { s.entropy with pool := 100000, insts := (List.range 25).map (fun i => (i, {})) ++ [(25, {})] } }

def aesJob : CipherJob := { cipher := 1, len := 16 }

theorem witness_CipherJobs :
    let s := { s0 with arrays := { s0.arrays with laneKeys := [(0, { alg := 3, bytes := zeros 16 })] } }
    (s.core 0).cmd.isSome = true ∧ findJob s false 0 0 = none ∧ (∀ m, m < 6 → cipherFieldsOk m aesJob = true) ∧
    (laneKey s 0 0).isSome = true ∧ laneAlgOk 1 3 = true ∧ laneAlgOk 1 1 = false ∧ laneKey s 0 1 = none ∧
    (∀ m, m < 6 → cipherFieldsOk m { aesJob with len := 17 } = false) := by decide

theorem witness_HashJobs :
    (s0.core 0).cmd.isSome = true ∧ findJob s0 true 0 0 = none ∧ hashFieldsOk { ctl := 1, len := 32 } = true ∧
    hashFieldsOk { alg := 4 } = false ∧ hashFieldsOk { ctl := 3, len := 0 } = true ∧
    lookup s0.arrays.hashStates 0 = none ∧ hashFieldsOk { ctl := 5 } = true ∧ hashKey s0 0 0 = none := by decide

theorem witness_Keychain :
    let s := { s0 with arrays := { s0.arrays with laneKeys := [(1, { alg := 3, bytes := zeros 16 })] } }
    laneKey s 0 (1 % 4) = some { alg := 3, bytes := zeros 16 } ∧ keyInUse s false 0 2 = false ∧ laneAlgOk 1 3 = true := by decide

/-- A job in the queue of core 0. -/
def aJob (hash : Bool) (ctl dst parity : Nat) : LaneJob :=
  { core := 0, hash := hash, tag := 0, cipher := 1, mode := 0, ctl := ctl, key := 0, len := 16, src := 0, dst := dst, aux := 0,
    iv := zeros 16, inlineData := zeros 16, prior := 0, parity := parity }
def withJob (j : LaneJob) : State :=
  { s0 with arrays := { s0.arrays with jobs := [j], laneKeys := [(0, { alg := 3, bytes := zeros 16 })] } }

theorem witness_JobsEnd :
    (∀ j, j ∈ [aJob false 0 0 0, aJob false 0 0x7FFFFFF0 0] → findJob (withJob j) false 0 0 = some j ∧
      (laneKey (withJob j) 0 j.key).isSome = true ∧ j.dst < 0x80000000) ∧
    (∀ j, j ∈ [aJob true 0 0 0, aJob true 1 0 0] → findJob (withJob j) true 0 0 = some j ∧ j.ctl / 4 % 2 = 0) := by decide

theorem witness_ParityErrors : ∀ n, n ∈ [0, 1, 2] → findJob (withJob (aJob false 0 0 n)) false 0 0 = some (aJob false 0 0 n) := by
  decide

theorem witness_LaneTests :
    let s (l : List Nat) := { s0 with arrays := { s0.arrays with lanes := [(5, { errors := l, testing := true })] } }
    (getLane (s [0, 0]) false 5).testing = true ∧ within24h (s [0, 0]) (getLane (s [0, 0]) false 5).errors < 3 ∧
    3 ≤ within24h (s [0, 0, 0]) (getLane (s [0, 0, 0]) false 5).errors := by decide

theorem witness_KeyRequests : MayRequest s0 0 0 (aCmd 3 []) ∧
    (∃ o, keyOpOf s0 (.loadLane 0 {}) = some o ∧ o.held = false ∧ o.fields = true ∧ o.custom = true) ∧
    (∃ o, keyOpOf s0 (.loadLane 0 { target := 4 }) = some o ∧ o.fields = false) ∧
    (∃ o, keyOpOf s0 (.wrap 0 {}) = some o ∧ o.held = false ∧ o.custom = false) := by
  refine ⟨by unfold MayRequest; decide, ⟨_, rfl, by decide, by decide, rfl⟩, ⟨_, rfl, by decide⟩, ⟨_, rfl, rfl, rfl⟩⟩

/-- A request of core 0 whose reference lies at the start of its command's scratch area. -/
def refState (cls alg : Nat) (usage mode : String) : State :=
  let s := tenant 0x0401 [] [cached cls alg usage mode]
  { s with wmem := wmemWrite [] (scratchAddr 0) (aRef cls alg usage mode) }
def refReq : KeyReq := { ref := BitVec.ofNat 64 (scratchAddr 0), group := 4 }

/-- Does a run end with this value? -/
def endsWith {α : Type} [DecidableEq α] (b : Svc α) (s : State) (e : Nat) (c : Cmd) (k : α) : Bool :=
  match work b s e c with
  | (.ok x, v) => decide (x = k ∧ v.e = e)
  | _ => false

theorem worked {α : Type} [DecidableEq α] {b : Svc α} {s : State} {e : Nat} {c : Cmd} {k : α} (h : endsWith b s e c k = true) :
    ∃ s' c', work b s e c = (.ok k, ⟨s', e, c'⟩) := by
  unfold endsWith at h
  rcases hw : work b s e c with ⟨r, v⟩
  rw [hw] at h
  cases r with
  | error x => exact absurd h (by simp)
  | ok x =>
    obtain ⟨rfl, rfl⟩ := of_decide_eq_true h
    exact ⟨v.s, v.c, rfl⟩

theorem witness_KeyRequestsLoad : MayRequest (refState 1 5 "D0" "B") 0 0 (tenantCmd 0x0401 []) ∧
    (∃ s' c', Resolves 0 refReq.ref refReq.group (refState 1 5 "D0" "B") (tenantCmd 0x0401 []) (aKey 1 5 "D0" "B") s' c') ∧
    (aKey 1 5 "D0" "B").cls ≠ 4 ∧ (aKey 1 5 "D0" "B").alg = 5 := by
  refine ⟨by unfold MayRequest; decide, worked (by decide +kernel), by decide, by decide⟩

theorem witness_SecretAndRequestEnd :
    (∃ o, keyOpOf s0 (.secret 0 { param := [3, 16] ++ zeros 14 }) = some o ∧ o.held = false ∧ o.fields = true) ∧
    MayRequest s0 0 0 (aCmd 3 []) ∧
    (∃ v, lookup { s0 with keys := { s0.keys with results := [(0, { busy := true })] } }.keys.results 0 = some v) := by
  refine ⟨⟨_, rfl, by decide, by decide⟩, by unfold MayRequest; decide, ⟨_, rfl⟩⟩

/-- All cells healthy but for some. -/
def withCells (quar : BitVec 64) (fails : Tab (List Nat)) : State :=
  { s0 with entropy := { s0.entropy with passed := BitVec.allOnes 64, quarMask := quar, cellFails := fails } }

theorem witness_Cells :
    (healthyMask (withCells 0 [])).getLsbD 63 = true ∧
    calm (withCells 0 []) (healthyMask (withCells 0 []) &&& ~~~(BitVec.ofNat 64 (2 ^ 63))) ∧
    within24h (withCells 0 []) ((withCells 0 []).time.toNat :: (tget [] (withCells 0 []).entropy.cellFails 63).take 3) < 2 ∧
    2 ≤ within24h (withCells 0 [(63, [0])]) ((withCells 0 []).time.toNat :: (tget [] (withCells 0 [(63, [0])]).entropy.cellFails 63).take 3) ∧
    (withCells 1 []).entropy.quarMask.getLsbD 0 = true ∧ calm (withCells 1 []) (healthyMask (withCells 1 [])) := by
  unfold calm; decide

/-- A request for randomness in progress, and a command that waits for it or none. -/
def withRand (r : RandResult) (wait : Bool) : State :=
  let s := { s0 with entropy := { s0.entropy with results := [(0, r)] } }
  if wait then s.setCmd 1 { aCmd 3 [] with stage := .delayed 0 5, list := some 0 } else s

theorem witness_EntropyFailure :
    let r : RandResult := { busy := true, out := zeros 64 }
    (∀ w, (withRand r w).boot.rngReady = true ∧ (withRand r w).entropy.failed = false ∧
      lookup (withRand r w).entropy.results 0 = some r) ∧
    waitingEntries (withRand r false) = [] ∧ waitingEntries (withRand r true) = [1] := by decide

theorem witness_EntropyUpkeep :
    s0.entropy.failed = false ∧ s0.entropy.laneFail = 0 ∧ 24 ≤ healthyCells (withCells 0 []) ∧ canServe (withDrbgs s0) 5 = true ∧
    canServe s0 5 = false := by decide

theorem witness_RandomRequests :
    let r : RandReq := { len := 64 }
    running s0 0 = some (0, aCmd 3 []) ∧ ((lookup s0.entropy.results 0).getD {}).busy = false ∧ r.cls.toNat ≤ 1 ∧
    r.flags.toNat ≤ 1 ∧ r.len.toNat ≤ 64 ∧ canServe s0 (instOf 512 0) = false ∧ canServe (withDrbgs s0) (instOf 512 0) = true ∧
    classOneOk (aCmd 3 []) = false ∧ classOneOk (aCmd 0x0801 []) = true ∧
    (let x : RandResult := { busy := true, out := zeros 4096, dst := stagingAddr 0 }
     stagingAddr 0 ≤ x.dst ∧ x.dst + x.out.length ≤ stagingAddr 0 + 4096) := by decide +kernel

theorem witness_EntropyWaits :
    let s := withRand {} true
    (s.cmd 1).map (·.stage) = some (.delayed 0 5) ∧ waitOver s 0 = false ∧ waitOver (withDrbgs s) 0 = true ∧ roomy s 0 = true := by
  decide

/-! ### Rings, completions and the Sorting Office (chapters 03, 04) -/

/-- Port A up; pigeonhole 0 of its PF0 as given. -/
def withPh (p : Ph) : State :=
  { s0 with portA := { linkUp := true }, so := { s0.so with phs := [(0, p)] } }

def pf0A : Fn := {}

theorem witness_RingEnables :
    AtPh (withPh {}) pf0A 0 0 ∧ slotStateOf (withPh {}) (slotOfFn pf0A) = .active ∧ ((withPh {}).ph 0).enable = false ∧
    ((withPh {}).ph 0).sqBase.toNat % 4096 = 0 ∧ 6 ≤ (6 : BitVec 5).toNat ∧ (16 : BitVec 5).toNat ≤ 16 ∧
    (31 : BitVec 6).toNat ≤ 31 ∧ ¬ ((17 : BitVec 5).toNat ≤ 16) ∧ ((withPh { draining := true }).ph 0).draining = true := by
  unfold AtPh; decide

theorem witness_RingDrains :
    AtPh (withPh { enable := true }) pf0A 0 0 ∧ ((withPh { enable := true }).ph 0).enable = true ∧
    (let s := { withPh { draining := true } with so := { (withPh { draining := true }).so with cmds := [] } }
     (s.ph 0).draining = true ∧ ∀ x ∈ s.so.cmds, x.2.ph ≠ 0) ∧
    (∃ x ∈ (withPh {}).so.cmds, x.2.ph = 0) := by
  refine ⟨by unfold AtPh; decide, by decide, by decide, ⟨(0, aCmd 3 []), by decide, by decide⟩⟩

theorem witness_Doorbells :
    let p (st : PhState) : Ph := { state := st, depthLog2 := 6, sqHead := 60, sqTail := 62 }
    (∀ st, st ∈ [PhState.ready, .opened, .closing, .quiesced, .disabled, .error] →
      AtPh (withPh (p st)) pf0A 0 0 ∧ ((withPh (p st)).ph 0).state = st) ∧
    slotStateOf (withPh (p .ready)) (slotOfFn pf0A) ≠ .destroying ∧
    2 ^ (6 : BitVec 5).toNat ≤ (64 : BitVec 16).toNat ∧ (63 : BitVec 16).toNat < 2 ^ (6 : BitVec 5).toNat ∧
    (61 + 64 - 60) % 64 < (62 + 64 - 60) % 64 ∧ (62 + 64 - 60) % 64 ≤ (3 + 64 - 60) % 64 := by
  unfold AtPh; decide

/-- A READY pigeonhole of PF0 with one descriptor in its ring, and no command in the module. -/
def waiting (p : Ph) : State :=
  { State.reset with boot := { State.reset.boot with mode := .service, step := 9 }, portA := { linkUp := true },
                     so := { State.reset.so with phs := [(0, p)] } }
def readyPh : Ph := { state := .ready, enable := true, depthLog2 := 6, sqTail := 1 }

theorem witness_FetchCredits :
    creditList (waiting readyPh) false = [(0, 512, 0)] ∧ 1 ≤ slotWeight (waiting readyPh) 512 ∧
    ((tget [] (waiting readyPh).so.fetchDrr 0).filter (fun r => r.slot == 512)).length ≤ 1 ∧
    creditList (waiting {}) false = [] := by decide

theorem witness_DescriptorsAreChecked :
    let s := waiting { readyPh with credits := 1 }
    let o := waiting { readyPh with credits := 1, state := .opened, version := 3 }
    phOwner s 0 = some (512, 0) ∧ freeEntry s = some 0 ∧ phOwner o 0 = some (512, 0) ∧ freeEntry o = some 0 ∧
    (s.ph 0).state = .ready ∧ (o.ph 0).state = .opened ∧
    (let t := withKeys [] { waiting {} with so := { (waiting {}).so with phs := [(64, { readyPh with credits := 1, state := .opened, version := 2 })] } }
     phOwner t 64 = some (1, 0) ∧ freeEntry t = some 0 ∧ t.boot.mode = .service ∧ t.boot.tenantStop = false ∧
     versionOk (t.ph 64) { version := 1 } = false ∧ versionOk (t.ph 64) { opcode := 3, version := 2 } = true ∧
     opDefined t (fnOfSlot 1) 0x8010 2 = false ∧ opDefined t (fnOfSlot 1) 3 2 = true ∧
     (0xC0 : BitVec 8).extractLsb' 6 2 ≠ 0 ∧ zeroAt ({} : Descriptor).params 0 24 = true) := by decide +kernel

theorem witness_ReplayedCommands :
    let s := withKeys [] { waiting readyPh with so := { (waiting readyPh).so with replays := [{ slot := 1, ph := 64, cmdId := 7, opcode := 0x0601, output := zeros 8 }] } }
    let c (op : Code) : Cmd := { tenantCmd op [] with d := { opcode := op, cmdId := 7, outCap := 32 } }
    mayCommit s 0x0601 = true ∧ mayCommit s 0x0603 = true ∧ (findReplay s 1 64 7).isSome = true ∧ (c 0x0601).journalled = false ∧
    (c 0x0601).stateChanging = false ∧ 24 + 8 ≤ (c 0x0601).d.outCap.toNat := by decide

theorem witness_CompletionsAreWritten :
    let c : Cmd := { aCmd 3 [] with stage := .done, stamped := true, fetchNo := 1 }
    let s (p : Ph) := { withCmd c with so := { (withCmd c).so with phs := [(0, p)] } }
    (s readyPh).cmd 0 = some c ∧ c.discarded = false ∧ writable (s readyPh) c = true ∧ c.after = .nothing ∧ c.closes = false ∧
    (((s { readyPh with cqTail := 63 }).ph 0).cqTail + 1) % 64 = ((s { readyPh with cqTail := 63 }).ph 0).cqHead ∧
    writable (s { readyPh with cqTail := 63, cqHead := 5 }) c = true ∧
    (let o := { s { readyPh with ordered := true } with so := { (s { readyPh with ordered := true }).so with cmds := [(0, c), (1, { c with fetchNo := 0 })] } }
     (o.ph 0).ordered = true ∧ earlierOn o c = true) := by decide

theorem witness_InterruptsSignal :
    let s (p : Ph) (m : MsixVec) := { withPh p with msix := [(msixKey pf0A 0, m)] }
    (∀ n, n ∈ [0, 1] → ((s { timer := some 9, unsignalled := n } {}).ph 0).timer = some 9 ∧
      phOwner (s { timer := some 9, unsignalled := n } {}) 0 = some (512, 0) ∧
      0 ∈ slotPhs (s { timer := some 9, unsignalled := n } {}) (slotOfFn (fnOfSlot 512))) ∧
    (∀ b, (tget ({} : MsixVec) (s {} { masked := b, pending := true }).msix (msixKey pf0A 0)).masked = b) ∧
    (39 : BitVec 6).toNat < 40 := by decide

theorem witness_HostFaults :
    let c (st : Stage) : Cmd := { aCmd 3 [] with stage := st, list := some 0, landed := false }
    (∀ b st, st ∈ [Stage.ready, .pending, .delayed 1 9] →
      ({ withCmd (c st) with portA := { priEnable := b } }).cmd 0 = some (c st) ∧
      (({ withCmd (c st) with portA := { priEnable := b } }).port (c st).fn.portB).priEnable = b) ∧
    roomy (withCmd (c (.delayed 1 9))) 0 = true ∧ phOwner (withPh readyPh) 0 = some (512, 0) ∧
    ((withPh readyPh).ph 0).state ≠ .disabled ∧ ((withPh readyPh).ph 0).state ≠ .error := by decide

theorem witness_ChannelServices :
    Asked (onCore plainCore (aCmd 3 [])) 0 3 0 (aCmd 3 []) ∧ Fits (onCore plainCore (aCmd 3 [] 0)) (aCmd 3 [] 0) 0 ∧
    Asked (onCore plainCore (aCmd 2 [])) 0 2 0 (aCmd 2 []) ∧
    Asked (onCore plainCore (aCmd 4 [])) 0 4 0 (aCmd 4 []) ∧ Fits (onCore plainCore (aCmd 4 [] 16)) (aCmd 4 [] 16) 16 ∧
    (let c (p : Octets) : Cmd := { aCmd 1 [] with d := { opcode := 1, outCap := 16, params := p } }
     let q := [14, 3, 7] ++ zeros 21
     let s (p : Octets) := { onCore plainCore (c p) with so := { (onCore plainCore (c p)).so with phs := [(0, readyPh)] } }
     Asked (s q) 0 1 0 (c q) ∧ ((s q).ph (c q).ph).state = .ready ∧ u8 q 0 % 2 = 0 ∧ u8 q 0 < 16 ∧ u8 q 1 < 4 ∧ u8 q 2 ≤ 7 ∧
     zeroAt q 3 21 = true ∧ commonVersion (u8 q 0) (cmdsetMask (s q) (c q).slot) = some 3 ∧ Fits (s q) (c q) 16 ∧
     commonVersion (u8 (zeros 24) 0) (cmdsetMask (s (zeros 24)) 512) = none) := by
  unfold Asked Fits; decide +kernel

theorem witness_CloseComplete :
    let c : Cmd := { aCmd 2 [] with stage := .done, stamped := true, closes := true }
    let s := { withCmd c with so := { (withCmd c).so with phs := [(0, { readyPh with state := .closing })] } }
    s.so.cmds.find? (fun x => x.2.ph == 0 && x.2.closes) = some (0, c) ∧ s.cmd 0 = some c ∧ writable s c = true ∧
    (s.ph 0).state = .closing := by decide

theorem witness_InputsLand :
    let c (st : Stage) : Cmd := { aCmd 3 [] with stage := st, list := some 0, landed := false }
    (∀ st, st ∈ [Stage.pending, .ready] → (withCmd (c st)).cmd 0 = some (c st) ∧ (c st).landed = false) ∧
    roomy (withCmd (c .ready)) 0 = true := by decide

theorem witness_PendingIsPlaced :
    let c : Cmd := { aCmd 3 [] with stage := .pending, landed := false }
    nextPending (withCmd c) = some (0, c) ∧ (targetList (withCmd c) { c with level := cmdLevel (withCmd c) c }).isSome = true ∧
    nextPending s0 = none := by decide

/-- Core 0 free, with command 0 pre-selected; the sets of the core at every gate armed for it, or not. -/
def preselected (c : Cmd) (armed : Bool) (stalled reads : List Nat) : State :=
  let s := (withCmd { c with stage := .preselected 0 }).setCore 0 { pre := some 0 }
  { s with gates := { s.gates with
      sets := if armed then (List.range 29).map (fun g => (setKey g 0x40 1, { st := .armed, forCmd := some 0 })) else [],
      stalled := stalled, reads := reads } }

theorem witness_Dispatch :
    let c := aCmd 3 []
    ((preselected c true [] []).core 0).free = true ∧ ((preselected c true [] []).core 0).pre = some 0 ∧
    ((preselected c true [] []).cmd 0).isSome = true ∧ clusterUp (preselected c true [] []) 0 = true ∧
    notReady (preselected c true [] []) 0 0 = [] ∧ customBody (preselected c true [] []) c.d.opcode = none ∧
    notReady (preselected c false [] []) 0 0 ≠ [] ∧ (preselected c false [] []).gates.stalled.contains 0 = false ∧
    (preselected c false [0] []).gates.stalled.contains 0 = true := by decide +kernel

theorem witness_RuleTableReads :
    (preselected (aCmd 3 []) false [] [0]).gates.reads.contains 0 = true ∧
    ((preselected (aCmd 3 []) false [] [0]).core 0).pre = some 0 := by decide

theorem witness_Deferrals :
    let c (w : Bool) : Cmd := { aCmd 3 [] with waiting := w }
    (∀ w, running (onCore plainCore (c w)) 0 = some (0, c w) ∧ ((onCore plainCore (c w)).core 0).wmuSeen = false) ∧
    ((onCore { plainCore with st := 0x100 } (c false)).core 0).st.toNat / 64 % 8 = 4 ∧
    (let d : Cmd := { aCmd 3 [] with stage := .delayed 2 9, list := some 0 }
     (withCmd d).cmd 0 = some d ∧ roomy (withCmd d) 0 = true) := by decide

theorem witness_InternalWork :
    let s := { s0 with so := { s0.so with timers := [(9, 1), (5, 2)] } }
    (5, 2) ∈ s.so.timers ∧ (∀ x ∈ s.so.timers, x = (5, 2) ∨ 5 < x.1) ∧ s0.so.timers = [] ∧
    s0.so.timers.length + (s0.so.phs.filter (fun x => x.2.timer.isSome)).length < 16384 ∧ (5 : BitVec 25).toNat ≤ 2 ^ 24 := by decide

theorem witness_Observability : (513 : BitVec 10).toNat ≤ 513 := by decide

/-! ### Boot, image, ports, management, clocks (chapters 02, 03, 16 to 18) -/

theorem reset_inv : Memory.wf State.reset.wmem = true ∧ drivePins State.reset = State.reset := ⟨rfl, rfl⟩

theorem witness_Journal : State.reset.pair.role ≠ .standby ∧ State.reset.pair.role ≠ .joining ∧ State.reset.pair.mirroring = false ∧
    State.reset.journal.ring.length < journalCap ∧ (Mode.service) ≠ State.reset.boot.mode ∧
    (tget ({} : MsixVec) { State.reset with msix := [(msixKey ⟨false, 0⟩ 32, { masked := false })] }.msix (msixKey ⟨false, 0⟩ 32)).masked = false := by
  decide

/-- A module of a mode and a life cycle with main power good. -/
def inMode (m : Mode) (step : Nat := 13) : State :=
  { State.reset with pwrGood := true, boot := { State.reset.boot with mode := m, step := step } }
def atStep (n : Nat) : State := inMode .boot n

theorem witness_Power :
    State.reset.pwrGood = false ∧ State.reset.clocks.holdoff = false ∧ (inMode .service).pwrGood = true ∧
    { State.reset with clocks := { State.reset.clocks with holdoff := true } }.clocks.holdoff = true ∧
    (inMode .service).boot.mode ≠ .locked ∧ 5 ≤ (inMode .service).boot.step ∧ (0x5B : BitVec 8) ≠ 0x5A := by decide

theorem witness_ResetIsReleased :
    let s (w : Warden) : State := { atStep 0 with boot := { warm := true, inReset := true }, warden := w }
    (∀ w, (s w).boot.inReset = true) ∧
    ¬ ((s {}).warden.lc = .retired ∨ (s {}).warden.blog.any (fun b => b.cls == 4) = true) ∧ (s {}).warden.lockRec = false ∧
    (s { lc := .retired }).warden.lc = .retired ∧ (s { lockRec := true }).warden.lockRec = true := by
  refine ⟨fun _ => rfl, by decide, by decide, by decide, by decide⟩

theorem witness_CrystalQualifies : AtStep (atStep 1) 1 ∧ AtStep (atStep 2) 2 ∧ (atStep 2).clocks.qualFails < 3 ∧
    9700 ≤ 9700 ∧ 9700 ≤ 10300 ∧ ¬ (9700 ≤ 10301 ∧ 10301 ≤ 10300) ∧ (atStep 2).clocks.goodWindow = false := by
  unfold AtStep; decide

theorem witness_ClocksAndRom : AtStep (atStep 3) 3 ∧ (atStep 3).clocks.pllLock.toNat = 2 ^ 0 - 1 ∧ AtStep (atStep 4) 4 ∧
    { (atStep 3).clocks with pllLock := 15 }.pllLock.toNat = 2 ^ 4 - 1 := by
  unfold AtStep; decide

theorem witness_SelfTests : AtStep (atStep 5) 5 ∧ AtStep (atStep 6) 6 ∧ ({} : SelfTest).fatal = none ∧
    8 ≤ popCount 64 ((atStep 5).boot.laneMask &&& ~~~((atStep 5).warden.retLanes ||| 0x00FFFFFFFFFFFFFF)).toNat ∧
    ¬ (8 ≤ popCount 64 ((atStep 5).boot.laneMask &&& ~~~((atStep 5).warden.retLanes ||| 0x01FFFFFFFFFFFFFF)).toNat) ∧
    2 ≤ popCount 16 (~~~((atStep 5).warden.retHash ||| 0x3FFF)).toNat ∧
    ¬ (2 ≤ popCount 16 (~~~((atStep 5).warden.retHash ||| 0x7FFF)).toNat) ∧
    24 ≤ popCount 64 ((BitVec.allOnes 64) &&& ~~~(atStep 6).warden.retCells).toNat ∧
    ¬ (24 ≤ popCount 64 ((0x7FFFFF : BitVec 64) &&& ~~~(atStep 6).warden.retCells).toNat) ∧
    (atStep 6).entropy.laneFail = 0 ∧ (atStep 6).entropy.quarMask = 0 ∧ (atStep 6).entropy.failed = false ∧
    (atStep 6).entropy.offline = false ∧ (atStep 6).boot.rngReady = false ∧ (atStep 6).warden.lc ≠ .manufacture := by
  unfold AtStep; decide

/-- The image registers. -/
def withImage (m : Mode) (f : Boot → Boot) : State := { inMode m 8 with boot := f (inMode m 8).boot }

theorem witness_StartActs :
    let s (len : BitVec 32) (addr : BitVec 64) := withImage .staged (fun b => { b with imgLen := len, imgAddr := addr })
    (s 64 0).pwrGood = true ∧ (s 64 0).boot.imgState = .idle ∧ (s 64 0).boot.mode = .staged ∧ (s 64 1).boot.imgAddr.toNat % 64 ≠ 0 ∧
    (s 64 0).boot.imgLen.toNat = 64 ∧ (s 67108864 0).boot.imgLen.toNat = 64 * 1024 * 1024 ∧ (s 63 0).boot.imgLen.toNat < 64 ∧
    (withImage .staged (fun b => { b with imgState := .fetching })).boot.imgState = .fetching ∧
    (withImage .service (fun b => b)).boot.mode ≠ .staged ∧
    (withImage .maintenance (fun b => { b with armed := some (64, []) })).boot.armed.isSome = true := by decide

theorem witness_ImagesArrive : ∀ st, st ∈ [ImgState.fetching, .verifying, .applying] →
    (withImage .staged (fun b => { b with imgState := st })).boot.imgState = st := by decide

theorem witness_ImagesVerified :
    let s := withImage .staged (fun b => { b with imgState := .verifying, data := zeros 64 })
    s.boot.imgState = .verifying ∧ curveCount s.boot.data = 0 ∧
    (match checkImage s s.boot.data [] false with | .error _ => true | .ok _ => false) = true := by decide +kernel

/-- An image whose one record is a POWER_PLAN without the mirror link. -/
def aloneImage : Octets := zeros 64 ++ le 2 3 ++ le 2 0 ++ le 4 8 ++ zeros 8 ++ le 4 0x01FBFEFF ++ zeros 4

theorem witness_LayoutsApplied :
    let s (m : Mode) (lc : LifeCycle) : State :=
      let x := withImage m (fun b => { b with imgState := .applying, data := aloneImage, rngReady := true })
      withDrbgs { x with warden := { x.warden with lc := lc } }
    (s .staged .issued).boot.imgState = .applying ∧ (s .staged .issued).boot.mode = .staged ∧
    (s .staged .issued).warden.lc = .issued ∧ (s .staged .commissioned).warden.lc = .commissioned ∧
    canServe (s .staged .commissioned) 6 = true ∧ (s .staged .commissioned).boot.exitBy = none ∧
    (recordsPdEn (recordsOf aloneImage)).testBit 8 = false ∧ (recordsPdEn (recordsOf (zeros 64))).testBit 8 = true ∧ (s .maintenance .commissioned).boot.mode = .maintenance := by
  decide +kernel

theorem witness_DrainsEnd :
    let s (st : Stage) := { withCmd { aCmd 0x8010 [] with stage := .running 0 } with
      boot := { (withCmd (aCmd 0x8010 [])).boot with maintDrain := some 0 },
      so := { (withCmd (aCmd 0x8010 [])).so with cmds := [(0, { aCmd 0x8010 [] with stage := .running 0 }), (1, { aCmd 3 [] with slot := 1, stage := st })] } }
    (s .done).boot.maintDrain = some 0 ∧ (s .done).boot.mode = .service ∧
    (∀ x ∈ (s .done).so.cmds, x.2.slot < 512 → x.2.stage = .done) ∧ Held (s .done) 0 { aCmd 0x8010 [] with stage := .running 0 } := by
  unfold Held; decide

theorem witness_RetiringErases : (withImage .maintenance (fun b => { b with retireDue := true })).boot.retireDue = true := by decide

theorem witness_Ports : (withPh readyPh).so.cmds.map (·.1) = [0] ∧ ((withPh readyPh).port false).linkUp = true ∧
    ((withPh readyPh).port true).linkUp = false ∧ ((withPh readyPh).port false).perst = false ∧
    (withPh readyPh).boot.pdEn.getLsbD 6 = true ∧ 5 ≤ (withPh readyPh).boot.step ∧ (6 : BitVec 3).toNat = 6 ∧
    (16 : BitVec 5).toNat = 16 ∧ (5 : BitVec 3).toNat < 6 := by decide

theorem witness_Functions :
    let s := { withPh readyPh with portA := { linkUp := true, vfEnable := true, numVfs := 2 }, boot := { (withPh readyPh).boot with slotsA := 2 } }
    (s.port false).linkUp = true ∧ s.boot.mode ≠ .diagnostic ∧ (2 : BitVec 16).toNat ≤ s.boot.slotsA ∧ s.boot.slotsA < (3 : BitVec 16).toNat ∧
    fnReachable s ⟨false, 2⟩ = true ∧ fnReachable s ⟨false, 3⟩ = false ∧ (s.so.cmds.map (·.1)).Nodup := by decide

theorem witness_Management :
    let s (a : Option (BitVec 7)) : State := { inMode .staged 1 with mgmt := { (inMode .staged 1).mgmt with addr := a, chainIn := true, events := 0xFF } }
    (s none).pwrGood = true ∧ 1 ≤ (s none).boot.step ∧ (s (some 9)).mgmt.addr.isSome = true ∧ (s none).mgmt.addr = none ∧
    (s none).mgmt.chainIn = true ∧ (s none).mgmt.events.getLsbD 3 = true ∧ (69 : BitVec 16).toNat = 69 ∧
    (4096 : BitVec 16).toNat = 4096 ∧ (8 : BitVec 8).toNat = 8 ∧ (254 : BitVec 8).toNat = 254 ∧ (0x7E : BitVec 8) ≠ 0xFF := by decide

theorem witness_ImagesOverMctp :
    let s (d : Octets) := withImage .staged (fun b => { b with imgState := .fetching, byMctp := true, dataLen := 64, data := d })
    (s []).boot.imgState = .fetching ∧ (s []).boot.byMctp = true ∧ (0 : BitVec 32).toNat = (s []).boot.data.length ∧
    (s []).boot.data.length + (zeros 64).length ≤ (s []).boot.dataLen ∧ (s (zeros 64)).boot.data.length = (s (zeros 64)).boot.dataLen ∧
    (s []).boot.data.length ≠ (s []).boot.dataLen := by decide

theorem witness_TestAccess :
    let s (lc : LifeCycle) : State := { inMode .diagnostic with warden := { lc := lc }, clocks := { (inMode .diagnostic).clocks with pd := 0x2000000 } }
    (s .issued).boot.mode = .diagnostic ∧ (s .issued).clocks.pd.getLsbD 25 = true ∧ (s .issued).warden.lc = .issued ∧
    (s .commissioned).warden.lc = .commissioned ∧ (inMode .service).boot.mode ≠ .diagnostic := by decide

theorem witness_ClocksAreMonitored :
    let s (masked armed : Bool) : State :=
      { inMode .service with clocks := { (inMode .service).clocks with xaQual := true, mons := [(0, { masked := masked })] },
                             alarms := { (inMode .service).alarms with monitors := [(15, { armed := armed })] } }
    (s true false).clocks.xaQual = true ∧ (tget ({} : ClkMon) (s true false).clocks.mons 0).masked = true ∧
    (tget ({} : ClkMon) (s false true).clocks.mons 0).masked = false ∧ ((s false true).monitor 15).armed = true ∧
    (s false true).alarms.dryFire = none ∧ min (97 : BitVec 8).toNat 110 = 97 ∧ min (103 : BitVec 8).toNat 110 = 103 ∧
    min (96 : BitVec 8).toNat 110 < 97 ∧ 103 < min (104 : BitVec 8).toNat 110 := by decide

theorem witness_GatesSwitch :
    let s (g : BitVec 28) : State := { inMode .service with clocks := { (inMode .service).clocks with gates := g, pd := BitVec.allOnes 26 } }
    (s 0).pwrGood = true ∧ 5 ≤ (s 0).boot.step ∧ 27 < (28 : BitVec 5).toNat ∧ (s 0).clocks.switching = none ∧
    (∃ p, gateParent 22 = some p ∧ (s 0).clocks.gates.getLsbD p = false) ∧
    (∃ n, n ≤ 27 ∧ gateResult (s (BitVec.allOnes 28)) n false = 0) := by
  refine ⟨by decide, by decide, by decide, by decide, ?_, ?_⟩
  · exact ⟨20, by decide, by decide⟩
  · exact ⟨((List.range 28).find? (fun n => gateResult { inMode .service with clocks := { (inMode .service).clocks with gates := BitVec.allOnes 28, pd := BitVec.allOnes 26 } } n false = 0)).getD 28,
      by decide +kernel, by decide +kernel⟩

theorem witness_DomainsSwitch :
    let s (x : Option (Nat × Bool)) : State := { inMode .service with clocks := { (inMode .service).clocks with switching := x } }
    (s none).pwrGood = true ∧ 5 ≤ (s none).boot.step ∧ 25 < (26 : BitVec 5).toNat ∧ (s (some (8, false))).clocks.switching = some (8, false) ∧
    (s none).clocks.switching = none ∧ (s none).clocks.pd.getLsbD 2 = true ∧
    (∃ d : Nat, d ≤ 25 ∧ (s none).clocks.pd.getLsbD d ≠ mayBeOn (s none) d) := by
  refine ⟨by decide, by decide, by decide, by decide, by decide, by decide, ⟨6, by decide, by decide⟩⟩

/-! ### Alarms, gates, units, journal, TIME (chapters 12, 14 to 16) -/

/-- SERVICE with every monitor armed and the external inputs set. -/
def watched (m : Mode) (ext : BitVec 16) (f : Option DryFire := none) : State :=
  { inMode m with
    warden := { (inMode m).warden with extCfg := ext },
    alarms := { (inMode m).alarms with dryFire := f, monitors := (List.range 32).map (fun n => (n, { armed := true })) } }

theorem witness_TamperResponds :
    (watched .service 0).alarms.dryFire = none ∧ Erasable (watched .service 0) ∧ Lockable (watched .service 0) ∧
    (∀ m, m ∈ [Mode.boot, .staged, .service, .standby, .maintenance, .locked] → Lockable (watched m 0)) ∧
    (∀ n, n ∈ [5, 14, 16, 17] → ((watched .service 0).monitor n).armed = true) ∧ (6 : BitVec 3).toNat ≤ 6 ∧
    extClass (watched .service 0x3000).warden.extCfg (3 : BitVec 2).toNat = 3 ∧
    extClass (watched .service 0x2000).warden.extCfg (3 : BitVec 2).toNat = 2 ∧
    extClass (watched .service 1).warden.extCfg (0 : BitVec 2).toNat = 1 ∧
    extClass (watched .service 1).warden.extCfg (1 : BitVec 2).toNat = 0 ∧ (watched .service 0).boot.mode ≠ .battery := by
  unfold Erasable Lockable; decide

theorem witness_BatteryResponds :
    (watched .battery 0).alarms.dryFire = none ∧ (watched .battery 0).boot.mode = .battery ∧ (2299 : BitVec 16).toNat < 2300 ∧
    2300 ≤ (2300 : BitVec 16).toNat ∧ (2499 : BitVec 16).toNat < 2500 ∧ 2500 ≤ (2500 : BitVec 16).toNat ∧
    ((watched .service 0).monitor 13).armed = true ∧ (watched .battery 0).warden.blog.length < 64 := by decide

theorem witness_WardenTimers : State.reset.warden.km.isSome = true ∧ ({ State.reset.warden with km := none } : Warden).km = none := by
  decide

theorem witness_DryFiresEnd :
    ∀ n, n ∈ [0, 7, 14, 15, 16] →
      let c := aCmd 0x800C [] 16
      let s := { watched .service 0 (some { monitor := n, cmd := 0 }) with so := (withCmd c).so }
      s.alarms.dryFire = some { monitor := n, cmd := 0 } ∧ Held s 0 c ∧ 16 ≤ c.d.outCap.toNat ∧ Erasable s ∧ Lockable s := by
  unfold Held Erasable Lockable; decide

/-- A request's beat: the address, the master, the tag and the kind. -/
def aBeat (addr : BitVec 40) (master : BitVec 7) (tag : BitVec 8) (kind : BitVec 3) : BitVec 640 :=
  (addr ++ master ++ tag ++ kind ++ (0 : BitVec 582))

theorem witness_GateDecides :
    let b := aBeat 0x100 0 0 1
    let one : RuleSet := { st := .active, entries := [(0, region 0 40 true false false)] }
    let two : RuleSet := { st := .active, entries := [(0, region 0 40 true true true), (1, region 0 12 true true true)] }
    let s (r : RuleSet) := putSet (inMode .service) 0 0 0 r
    gateOf State.reset (beatAddr (aBeat 0x108000000 0 0 1)) = none ∧ gateOf (inMode .service) (beatAddr b) = some 0 ∧
    beatMaster b = 0 ∧ beatTag b = 0 ∧ beatKind b = 1 ∧ (16 ∈ [1, 2, 4, 8, 16, 32, 64, 128, 256] ∧ beatAddr b % 16 = 0) ∧ beatAddr b % 512 ≠ 0 ∧
    beatMaster (aBeat 0 0x40 0 0) = 0x40 ∧ beatMaster (aBeat 0 8 0 0) = 8 ∧ beatMaster (aBeat 0 0x3F 0 0) = 0x3F ∧
    decidingSet (inMode .service) 0 0 0 = some 0 ∧ decidingSet (inMode .service) 0 0 1 = none ∧
    setMatches (getSet (inMode .service) 0 0 0) 0 0x100 16 1 = (1, 1) ∧ setMatches one 0 0x100 16 1 = (1, 0) ∧ setMatches {} 0 0x100 16 1 = (0, 0) ∧
    setMatches two 0 0x100 16 1 = (2, 2) ∧ getSet (s two) 0 0 0 = two ∧ decidingSet (s two) 0 0 0 = some 0 ∧ Lockable (s two) := by
  unfold Lockable; decide +kernel

theorem witness_GateSeals : sealOf (aBeat 0x100 0 0 1) ≠ sealOf (aBeat 0x100 0 0 1) + 1 ∧
    (∀ l, l ∈ [[0, 0], [0, 0, 0]] →
      let s := { inMode .service with gates := { (inMode .service).gates with mismatches := [(0, l)] } }
      ((tget [] s.gates.mismatches 0).filter (fun t => decide (s.time.toNat - t < 1000000000))).length = l.length) := by
  refine ⟨fun h => ?_, by decide⟩
  generalize sealOf (aBeat 0x100 0 0 1) = x at h
  bv_omega

/-- Both sets of a master at every gate. -/
def withSets (m : Nat) (r0 r1 : RuleSet) : State :=
  { inMode .service with gates := { (inMode .service).gates with
      sets := (List.range 29).flatMap (fun g => [(setKey g m 0, r0), (setKey g m 1, r1)]) } }

theorem witness_RuleSetsChange :
    let s (st : SetState) := withSets 3 { st := .active } { st := st }
    (∀ st, st ∈ [SetState.free, .armed, .draining] → (getSet (s st) 28 3 1).st = st) ∧
    armCheck [] = 0 ∧ armCheck [region 0x100 12 true true true] = 2 ∧
    (∀ x, x < 29 → (setIn (s .armed) x 3 .armed).isSome = true) ∧ (∃ x, x < 29 ∧ setIn (s .free) x 3 .armed = none) ∧
    setIn (s .draining) 28 3 .draining = some 1 ∧ setIn (s .free) 28 3 .draining = none := by
  refine ⟨by decide +kernel, by decide, by decide, by decide +kernel, ⟨28, by decide, by decide +kernel⟩, by decide +kernel, by decide +kernel⟩

theorem witness_GateSelfChecks : (28 : BitVec 5).toNat < 29 ∧ (gateHealth State.reset 28).bypassed = false ∧
    (gateHealth { State.reset with gates := { State.reset.gates with health := [(28, { bypassed := true })] } } 28).bypassed = true ∧
    Lockable (inMode .service) := by unfold Lockable; decide

/-- The physical clusters, with cluster 8 as given and SPARE_STATE. -/
def withSpare (mark st : Nat) (replacing : List Nat) (out : BitVec 8 := 0) : State :=
  { s0 with units := { s0.units with logical := [0, 1, 2, 3, 4, 5, 6, 7, mark], spareState := st, replacing := replacing },
            so := { s0.so with clusterOut := out } }

theorem witness_ClustersAreLost :
    (∀ st, st ∈ [0, 1, 2, 3] → let s := withSpare spareMark st [3]
      unitAt s (63 / 8) = some 7 ∧ s.units.logical.length = 9 ∧ s.units.replacing.contains (63 / 8) = false ∧
      s.so.clusterOut.getLsbD (63 / 8) = false ∧ s.units.spareState = st ∧ unitAt s spareMark = some 8 ∧
      s.units.replacing.contains (3 : BitVec 3).toNat = true) := by decide

theorem witness_SparesAreTested :
    let t (l : List Nat) := { withSpare testMark 1 [] with units := { (withSpare testMark 1 []).units with mismatches := [(8, l)] } }
    let q (l : List Nat) := { withSpare spareMark 1 [] with units := { (withSpare spareMark 1 []).units with spareFails := l } }
    (t [0]).units.logical.length = 9 ∧ logicalOf (t [0]) 8 = testMark ∧ logicalOf (t [0]) 7 ≠ testMark ∧
    within24h (t [0]) (tget [] (t [0]).units.mismatches 8) ≤ 1 ∧ ¬ (within24h (t [0, 0]) (tget [] (t [0, 0]).units.mismatches 8) ≤ 1) ∧
    outCluster (t [0]) = none ∧ unitAt (q []) spareMark = some 8 ∧ unitAt (t []) spareMark = none ∧ outCluster (q []) = none ∧
    within24h (q []) ((q []).time.toNat :: (q []).units.spareFails.take 3) < 2 ∧
    2 ≤ within24h (q [0]) ((q [0]).time.toNat :: (q [0]).units.spareFails.take 3) := by decide

/-- Earlier uncorrectable events of a channel, and retired channels. -/
def withErrors (ch n : Nat) (ret : BitVec 8 := 0) (res : Tab Nat := []) (lost : List Nat := []) : State :=
  { withCmd (aCmd 3 []) with
    units := { s0.units with channelErrors := [(ch, List.replicate n 0)], reserve := res, lostCopies := lost },
    warden := { s0.warden with retChannels := ret },
    so := { s0.so with cmds := [(0, { aCmd 3 [] with stage := .ready })] } }

theorem witness_MemoryErrorsAct :
    let a : BitVec 31 := BitVec.ofNat 31 (stagingAddr 0)
    let ch := channelOf (withErrors 0 0) a.toNat
    (∀ n, n ∈ [0, 15, 16] → let s := withErrors ch n
      s.warden.retChannels.getLsbD ch = false ∧
      ((s.time.toNat :: tget [] s.units.channelErrors ch).filter (fun t => decide (s.time.toNat - t < 3600000000000))).length = n + 1) ∧
    (withErrors ch 0 0xFF).warden.retChannels.getLsbD ch = true ∧
    (let s := withErrors ch 16
     let c := { aCmd 3 [] with stage := .ready }
     s.cmd 0 = some c ∧ c.journalled = false ∧ stagingAddr 0 / 4096 = a.toNat / 4096 ∧ channelOf s (stagingAddr 0) = ch ∧
     (s.so.cmds.map (·.1)).Nodup) ∧
    (let s := { withErrors ch 16 with boot := { (withErrors ch 16).boot with channels := List.replicate 8 9 } }
     ∀ y, y < 8 → (s.boot.channels.getD y 0).toNat ≠ ch) ∧
    tget 0 (withErrors 0 0 0 [(7, 15)]).units.reserve 7 < 16 ∧
    (let s := withErrors 0 0 0x01 [] [0]
     s.units.lostCopies.contains 0 = true ∧ s.boot.channels.length = 8 ∧
     ((List.range 4).map (fun y => 4 * ((s.boot.channels.getD 0 0).toNat / 4) + y)).find? (fun y => !s.warden.retChannels.getLsbD y) = some 1) := by
  decide +kernel

/-- A ring with entries 5 to 7 of segment 0, streaming from TAIL. -/
def withRing (en : Bool) (start tail head : BitVec 64) : State :=
  { s0 with journal := { s0.journal with ring := [{ jseq := 5 }, { jseq := 6 }, { jseq := 7 }], next := 8, streamEn := en,
                                         startSeq := start, tail := tail, head := head } }

theorem witness_JournalStreams :
    let s := { withRing true 5 7 5 with keys := { s0.keys with frankPriv := some (zeros 48) } }
    let k := { s with journal := { s.journal with ring := [{ jseq := 4095 }] } }
    k.keys.frankPriv.isSome = true ∧
    k.journal.ring.findIdx? (fun e => e.seg == k.journal.seg && e.isCheckpoint && e.sig.isEmpty) = some 0 ∧
    s0.keys.frankPriv = none ∧
    s.journal.ring.findIdx? (fun e => e.seg == s.journal.seg && e.isCheckpoint && e.sig.isEmpty) = none ∧
    (∀ n, n ∈ [4, 5, 6] → let x := BitVec.ofNat 64 n
      (withRing false x 0 0).journal.streamEn = false ∧
      (withRing false x 0 0).journal.ring.find? (fun e => e.seg == (withRing false x 0 0).journal.seg) = some { jseq := 5 }) ∧
    s.journal.streamEn = true ∧ streamable s s.journal.tail.toNat = some { jseq := 7 } ∧ s.journal.tail ≠ BitVec.allOnes 64 ∧
    streamable s (s.journal.tail.toNat + 1) = none ∧ (4 : BitVec 64).toNat < s.journal.head.toNat ∧
    s.journal.tail.toNat < (8 : BitVec 64).toNat ∧ s.journal.head.toNat ≤ (5 : BitVec 64).toNat ∧ (7 : BitVec 64).toNat ≤ s.journal.tail.toNat ∧
    s.journal.waiting = [] ∧ s.journal.unrecorded = 0 ∧ s.pair.mirroring = false ∧ (∀ x ∈ s.so.cmds, x.2.stage ≠ .commitWait) := by
  decide +kernel

theorem witness_TimeIsAligned :
    let s (m : Mode) (step : Bool) : State := { inMode m with tb := { (inMode m).tb with ptmEn := true, stepOk := step, adopted := false } }
    (∀ m, m ∈ [Mode.service, .maintenance] → ∀ b, (s m b).tb.ptmEn = true ∧ (s m b).tb.adopted = false ∧
      ((s m b).boot.mode = .service ∨ (s m b).boot.mode = .maintenance)) ∧
    ¬ ((s .staged false).boot.mode = .service ∨ (s .staged false).boot.mode = .maintenance) ∧ (s .service true).tb.stepOk = true ∧
    (s .service false).tb.stepOk = false ∧
    (((1000 : BitVec 64) - (s .service false).time).toInt.natAbs ≤ 1000) ∧ 1000 < ((1001 : BitVec 64) - (s .service false).time).toInt ∧
    (((1000000000 : BitVec 64) - (s .service false).time).toInt.natAbs ≤ 1000000000) ∧
    1000000000 < ((1000000001 : BitVec 64) - (s .service false).time).toInt.natAbs ∧ ((-2000 : BitVec 64) - (s .service false).time).toInt < 0 ∧
    (let x := { s .service false with tb := { (s .service false).tb with slewing := true, slewLeft := 0 } }
     x.tb.slewing = true ∧ x.tb.slewLeft = 0) ∧ (s .service false).tb.slewing = false := by
  decide +kernel

/-! ### Pairing (chapter 15) -/

def aPeer : HelloMsg := { serial := 9, mirrorMax := 1, mode := 3, role := 1, epoch := some (zeros 8), checks := [(2, zeros 8)] }
def aSession : Session := { peer := aPeer, key := zeros 64, confirmed := true }
def aHead : MsgHead := { mseq := 1 }

/-- A module of a mode whose link is up with a confirmed session; pair registers as given. -/
def paired (m : Mode) (f : Pair → Pair) (tl : BitVec 64 := 0) : State :=
  let s := withDrbgs (inMode m)
  { s with boot := { s.boot with rngReady := true, mirrorMax := 1 },
           warden := { s.warden with lc := .commissioned, roots := [(2, { root := zeros 32, check := zeros 8 })] },
           clocks := { s.clocks with pd := BitVec.allOnes 26 },
           tb := { s.tb with timeLocal := tl },
           pair := f { s.pair with linkUp := true, session := some aSession } }

theorem witness_InterlockRises :
    (paired .service id).boot.pdEn.getLsbD 8 = true ∧ (paired .service id).pwrGood = true ∧
    (paired .service (fun p => { p with taking := some .alone })).pair.taking = some .alone ∧
    (∀ m, m ∈ [Mode.maintenance, .service, .standby] → (paired m id).boot.mode = m ∧ (paired m id).pair.taking = none) ∧
    (let s := paired .service (fun p => { p with crownOut := true })
     s.pair.holding = false ∧ s.pair.crownOut = true) ∧
    (let s := { paired .service (fun p => { p with holding := true }) with so := (withCmd { aCmd 3 [] with slot := 511 }).so }
     s.pair.holding = true ∧ s.pair.swap = none ∧ ∃ c, s.cmd 0 = some c ∧ c.slot < 512) ∧
    (paired .standby (fun p => { p with window := true })).pair.window = true ∧
    ({ (paired .service id) with boot := { (paired .service id).boot with pdEn := 0 } }.boot.pdEn.getLsbD 8) = false := by
  refine ⟨by decide, by decide, by decide, by decide, by decide, ⟨by decide, by decide, ⟨{ aCmd 3 [] with slot := 511 }, by decide, by decide⟩⟩, by decide, by decide⟩

theorem witness_TakesComplete :
    (∀ x, x ∈ [(TakeKind.alone, Mode.staged), (.lease, .standby), (.swap, .standby), (.force, .standby), (.reclaim, .service), (.again, .service)] →
      let s := paired x.2 (fun p => { p with taking := some x.1 })
      s.pair.taking = some x.1 ∧ s.boot.mode = x.2 ∧ s.boot.exitBy = none ∧ s.pair.swap = none ∧ s.tb.tm.toNat + 1 < 2 ^ 64) ∧
    Live (paired .standby id) ∧ (paired .standby id).pair.taking = none := by
  refine ⟨by decide, ⟨by decide, ⟨aSession, by decide, by decide⟩⟩, by decide⟩

theorem witness_TakesAreRetried :
    (∀ m, m ∈ [Mode.service, .standby, .staged] →
      let s := paired m (fun p => { p with backedOff := some .again })
      s.pair.backedOff = some .again ∧ s.boot.mode = m ∧ s.pair.swap = none) ∧ (paired .service id).pair.backedOff = none := by decide

theorem witness_LeaseTimersAct :
    let a (tl : Nat) (m : Mode) (f : Pair → Pair) := paired m (fun p => f { p with expiry := some 1000000 }) (BitVec.ofNat 64 tl)
    let G := 10000 + (a 0 .service id).pair.leaseL / 5
    let x : BitVec 64 := 1000000
    (∀ tl, tl ∈ [1000000 - G - 1, 1000000 - G, 999999, 1000000] →
      let s := a tl .service (fun p => { p with crownOut := true })
      s.pair.expiry = some x ∧ s.pair.taking = none ∧ s.pair.crownOut = true ∧ s.boot.mode = .service ∧ s.tb.timeLocal.toNat = tl ∧
      s.boot.pdEn.getLsbD 8 = true) ∧
    (let s := a (1000000 + 2 * G + 60000) .service (fun p => { p with holding := true })
     s.boot.mode = .service ∧ s.pair.holding = true ∧ s.pair.crownOut = false ∧ s.pair.backedOff = none ∧ s.pair.swap = none ∧
     x.toNat + (2 * G + 60000) ≤ s.tb.timeLocal.toNat) ∧
    (let s := a (1000000 + G) .standby (fun p => { p with role := .standby })
     s.boot.mode = .standby ∧ s.pair.role = .standby ∧ s.pair.taking = none ∧ s.pair.backedOff = none ∧ x.toNat + G ≤ s.tb.timeLocal.toNat) ∧
    (a 0 .standby (fun p => { p with window := true })).pair.window = true ∧ (a 0 .standby id).pair.window = false := by decide

theorem witness_LeasesRenew :
    let a (tl : Nat) (m : Mode) (f : Pair → Pair) := paired m (fun p => f { p with expiry := some 1000000 }) (BitVec.ofNat 64 tl)
    let x : BitVec 64 := 1000000
    (∀ tl, tl ∈ [0, 999999, 1000000] → ∀ j, let s := a tl .service (fun p =>
        { p with crownOut := true, joined := j, renewals := [(5, 0, 200)] })
      s.pair.crownOut = true ∧ s.pair.taking = none ∧ s.boot.mode = .service ∧ s.pair.joined = j ∧ s.pair.expiry = some x ∧
      s.pair.renewals.find? (fun x => x.1 == 5) = some (5, 0, 200) ∧ s.pair.renewals.find? (fun x => x.1 == 6) = none) ∧
    (∀ r, r ∈ [Role.standby, .joining] → let s := a 0 .standby (fun p => { p with role := r })
      s.pair.role = r ∧ s.pair.window = false ∧ s.pair.crownOut = false) ∧
    ((50000 : BitVec 64) - 0).toInt ≤ 50000 ∧ 50000 < ((50001 : BitVec 64) - 0).toInt ∧
    0 + (10000 + 200 / 5) < (0 + BitVec.ofNat 64 (1000 * 200)).toNat := by decide

theorem witness_Accepted : Accepted (paired .service id) false aHead ∧ Accepted (paired .service id) true aHead ∧
    ¬ Accepted (paired .service id) false { aHead with mseq := 2 } ∧ Live (paired .service id) := by
  refine ⟨⟨⟨aSession, by decide, by decide⟩, by decide, by decide, by decide⟩, ⟨⟨aSession, by decide, by decide⟩, by decide, by decide, by decide⟩,
    fun h => absurd h.2.2.2 (by decide), ⟨by decide, ⟨aSession, by decide, by decide⟩⟩⟩

theorem witness_PairsDecide :
    let s (own : BitVec 64) (h : HelloMsg) (f : Pair → Pair) : State :=
      let s := paired .staged (fun p => f { p with session := some { aSession with peer := h } })
      { s with warden := { s.warden with serial := own }, boot := { s.boot with pairWait := true } }
    let up (s : State) (h : HelloMsg) := s.boot.pdEn.getLsbD 8 = true ∧ s.pair.linkUp = true ∧
      s.pair.session = some { aSession with peer := h } ∧ aSession.confirmed = true
    let other : HelloMsg := { aPeer with mode := 2, role := 0 }
    decides (s 1 aPeer id) = true ∧ up (s 1 aPeer id) aPeer ∧ aPeer.mode = 3 ∧
    officersAgree (s 1 aPeer id) { aPeer with officers := [] } = true ∧
    rootsCover aPeer.checks (ownChecks (s 1 aPeer id)) = true ∧ (s 1 aPeer id).boot.exitBy = none ∧
    officersAgree (s 1 aPeer id) { aPeer with officers := [1], prev := [2] } = false ∧
    rootsCover [(3, zeros 8)] (ownChecks (s 1 aPeer id)) = false ∧
    decides (s 1 other (fun p => { p with role := .standby })) = true ∧ other.mode ≠ 3 ∧
    decides (s 1 other id) = true ∧ (s 1 other id).pair.role ≠ .standby ∧ other.role ≠ 2 ∧ (s 1 other id).warden.serial.toNat < other.serial.toNat ∧
    other.serial.toNat ≤ (s 9 other id).warden.serial.toNat ∧ canServe (s 1 other id) 6 = true ∧ (s 1 other id).boot.pairWait = true ∧
    (let d := s 1 other (fun p => { p with linkUp := false })
     decides d = true ∧ d.pair.linkUp = false ∧ d.boot.mode ≠ .standby) ∧
    decides (s 1 other (fun p => { p with taking := some .alone })) = false ∧
    (let o := paired .service (fun p => { p with joined := true }) 86400000000001
     o.pair.joined = true ∧ o.pair.drillOverdue = false ∧ 86400000000000 < o.time.toNat - o.pair.drillFrom.toNat) := by
  decide +kernel

theorem witness_MirrorLinkRuns :
    let s (u : Bool) (n : Nat) := paired .service (fun p =>
      { p with linkUp := u, frames := [(7, n)], laneErrors := [(3, List.replicate n 0)], laneLosses := [(3, List.replicate n 0)] })
    (∀ u n, n ∈ [1, 2, 15, 16] → (s u n).pair.linkUp = u ∧ tget 0 (s u n).pair.frames 7 + 1 = n + 1 ∧
      ((s u n).pair.lanesOut.getLsbD 3 = false) ∧ (s u n).pair.lanesOut ≠ 15 ∧
      ((s u n).time.toNat :: (tget [] (s u n).pair.laneErrors 3).filter (fun t => decide ((s u n).time.toNat - t < 1000000000))).length = n + 1 ∧
      ((s u n).time.toNat :: (tget [] (s u n).pair.laneLosses 3).filter (fun t => decide ((s u n).time.toNat - t < 86400000000000))).length = n + 1) ∧
    (s true 1).boot.pdEn.getLsbD 8 = true ∧ (s true 1).clocks.pd.getLsbD 8 = true ∧ canServe (s true 1) 6 = true ∧ canServe (s true 1) 7 = true ∧
    (s true 1).boot.mirrorMax ≠ 0 ∧ (paired .service (fun p => { p with lanesOut := 15 })).pair.lanesOut.getLsbD 3 = true := by decide +kernel

theorem witness_SessionsStart :
    let s (c : Bool) (h : HelloMsg) (m : Mode) : State := paired m (fun p => { p with crownOut := true, helloPriv := [1], session := some { aSession with peer := h, confirmed := c } })
    let ok : HelloMsg := aPeer
    let joining : HelloMsg := { aPeer with mode := 4, role := 3 }
    (s false ok .service).pair.linkUp = true ∧ (s false ok .service).boot.pdEn.getLsbD 8 = true ∧
    (s false ok .service).boot.mirrorMax ≠ 0 ∧ ok.mirrorMax ≠ 0 ∧ (s false ok .service).pair.helloPriv ≠ [] ∧ ok.certOk = true ∧
    commonRoot (s false ok .service) ok = some 2 ∧
    commonRoot (s false ok .service) { ok with checks := [] } = none ∧
    (s false joining .service).pair.mirroring = false ∧ officersAgree (s false joining .service) { joining with officers := [] } = true ∧
    rootsCover (ownChecks (s false joining .service)) joining.checks = true ∧ (s false ok .staged).boot.mode = .staged ∧
    (s false ok .staged).pair.unsent = [] ∧ (∀ c ∈ (s false ok .staged).so.cmds, c.2.commitSeq = none) ∧ State.reset.pair.session = none := by
  decide +kernel

theorem witness_StandbysFollow :
    (∀ r, r ∈ [Role.standby, .joining] → let s := paired .standby (fun p => { p with role := r })
      s.pair.role = r ∧ s.journal.ring.length < journalCap) ∧ ({ entry := zeros 256 } : CommitMsg).writes = [] ∧
    ({ entry := zeros 256 } : CommitMsg).entry = zeros 256 := by decide +kernel

theorem witness_ActivesLead :
    let c : Cmd := { aCmd 0x0601 [] with stage := .commitWait, commitSeq := some 1 }
    let s (mir cop : Bool) : State := { paired .service (fun p => { p with role := .active, joined := true, mirroring := mir, copying := cop }) with
      so := (withCmd c).so, keys := { State.reset.keys with cache := [cached 1 5 "D0" "B"] } }
    (s true true).so.cmds.find? (fun x => x.2.stage == .commitWait && x.2.commitSeq == some 1) = some (0, c) ∧ c.effects = [] ∧
    c.journalled = false ∧ c.keepsReplay = false ∧ (s true true).so.cmds.find? (fun x => x.2.stage == .commitWait && x.2.commitSeq == some 2) = none ∧
    (s false true).boot.mode = .service ∧ (s false true).pair.role = .active ∧ (s false true).pair.mirroring = false ∧
    (s false true).journal.ring.length < journalCap ∧ (s true true).pair.copying = true ∧ (s true false).pair.copying = false ∧
    (s true true).pair.joined = true ∧ (∀ x ∈ (s true true).keys.cache, x.key.source = 0) ∧ (s true true).keys.cache.length ≤ 240 ∧
    (s true true).keys.cache ≠ [] := by decide +kernel

theorem witness_PartnersDetach :
    let lead (up det : Bool) := paired .service (fun p => { p with role := .active, joined := true, linkUp := up, detaching := det })
    let follow (up : Bool) := paired .standby (fun p => { p with role := .standby, linkUp := up })
    (∀ u d, (lead u d).boot.mode = .service ∧ (lead u d).pair.joined = true ∧ (lead u d).pair.role = .active ∧ (lead u d).pair.swap = none ∧
      (lead u d).pair.linkUp = u ∧ (lead u d).pair.detaching = d ∧ (lead u d).pair.relayEn = true ∧ (lead u d).pair.session = some aSession) ∧
    (∀ u, (follow u).pair.role = .standby ∧ (follow u).pair.linkUp = u) ∧ aSession.confirmed = true ∧
    Accepted (follow true) false aHead := by
  refine ⟨by decide, by decide, by decide, ⟨⟨aSession, by decide, by decide⟩, by decide, by decide, by decide⟩⟩

theorem witness_RolesSwap :
    let c := aCmd 0x8013 []
    let w (h : Bool) (t : Nat) : Swap := { cmd := 0, tails := [(64, t)], handed := h }
    let s (h : Bool) (t : Nat) : State := { paired .service (fun p => { p with role := .active, joined := true, swap := some (w h t) }) with
      so := { (withCmd c).so with phs := [(64, readyPh)] } }
    (∀ h, (s h 0).pair.swap = some (w h 0) ∧ (w h 0).handed = h ∧ (s h 0).cmd 0 = some c ∧ Held (s h 0) (w h 0).cmd c ∧ (s h 0).boot.mode = .service) ∧
    drained (s false 0) (w false 0) = true ∧ drained (s false 1) (w false 1) = false ∧
    (let t := paired .standby (fun p => { p with role := .standby })
     t.pair.role = .standby ∧ t.boot.mode = .standby ∧ t.pair.taking = none ∧ t.pair.swap = none) := by
  unfold Held; decide

/-! ### Services (chapters 05 to 10) -/

/-- Octets of zero with some fields set, as offset and content. -/
def hdr (n : Nat) (l : List (Nat × Octets)) : Octets :=
  l.foldl (fun o x => o.take x.1 ++ x.2 ++ o.drop (x.1 + x.2.length)) (zeros n)

/-- A PAN of twelve digits, and none. -/
def aPan : Octets := [0x12, 0x34, 0x56, 0x78, 0x90, 0x12] ++ List.replicate 4 0xFF
def noPan : Octets := List.replicate 10 0xFF

/-- References that resolve one after another, computed. -/
def keysGo (e : Nat) : List KeyRef → State → Cmd → Option (List KeyVal × State × Cmd)
  | [], s, c => some ([], s, c)
  | r :: rs, s, c =>
    match resolve s c.slot e c.reserved (opGroup c) r with
    | .ok (x, ctr) => (keysGo e rs (keeping s c.slot r x) (c.reserving ctr)).map (fun v => (x.expanded :: v.1, v.2))
    | .error _ => none

theorem keysAre_of (e : Nat) : ∀ (rs : List KeyRef) (ks : List KeyVal) (s : State) (c : Cmd) (s' : State) (c' : Cmd),
    keysGo e rs s c = some (ks, s', c') → KeysAre e rs ks s c s' c'
  | [], ks, s, c, s', c', h => by simp [keysGo] at h; obtain ⟨rfl, rfl, rfl⟩ := h; exact ⟨rfl, rfl⟩
  | r :: rs, ks, s, c, s', c', h => by
    unfold keysGo at h
    split at h
    · next x ctr hr =>
      cases hv : keysGo e rs (keeping s c.slot r x) (c.reserving ctr) with
      | none => rw [hv] at h; exact absurd h (by simp)
      | some v =>
        obtain ⟨ks2, s2, c2⟩ := v
        rw [hv] at h
        simp at h
        obtain ⟨rfl, rfl, rfl⟩ := h
        exact ⟨x, ctr, hr, rfl, keysAre_of e rs ks2 _ _ _ _ hv⟩
    · exact absurd h (by simp)

def keyed1With (s : State) (e : Nat) (c : Cmd) (ik : Bool) (off : Nat) (good : KeyRef → KeyVal → Octets → State → Cmd → Bool) : Bool :=
  match readRefs s c ik 1 (c.input.drop off) with
  | some ([r], rest) => match keysGo e [r] s c with
    | some ([k], s', c') => good r k rest s' c'
    | _ => false
  | _ => false

theorem keyed1 {s : State} {e : Nat} {c : Cmd} {ik : Bool} {off : Nat} {good : KeyRef → KeyVal → Octets → State → Cmd → Bool}
    (h : keyed1With s e c ik off good = true) :
    ∃ r k rest s' c', Keyed s e c ik off [r] [k] rest s' c' ∧ good r k rest s' c' = true := by
  unfold keyed1With at h
  split at h
  · next r rest hr =>
    split at h
    · next k s' c' hk => exact ⟨r, k, rest, s', c', ⟨hr, keysAre_of e _ _ _ _ _ _ hk⟩, h⟩
    · exact absurd h (by simp)
  · exact absurd h (by simp)

def keyed2With (s : State) (e : Nat) (c : Cmd) (ik : Bool) (off : Nat)
    (good : KeyRef → KeyRef → KeyVal → KeyVal → Octets → State → Cmd → Bool) : Bool :=
  match readRefs s c ik 2 (c.input.drop off) with
  | some ([r, q], rest) => match keysGo e [r, q] s c with
    | some ([k, l], s', c') => good r q k l rest s' c'
    | _ => false
  | _ => false

theorem keyed2 {s : State} {e : Nat} {c : Cmd} {ik : Bool} {off : Nat}
    {good : KeyRef → KeyRef → KeyVal → KeyVal → Octets → State → Cmd → Bool} (h : keyed2With s e c ik off good = true) :
    ∃ r q k l rest s' c', Keyed s e c ik off [r, q] [k, l] rest s' c' ∧ good r q k l rest s' c' = true := by
  unfold keyed2With at h
  split at h
  · next r q rest hr =>
    split at h
    · next k l s' c' hk => exact ⟨r, q, k, l, rest, s', c', ⟨hr, keysAre_of e _ _ _ _ _ _ hk⟩, h⟩
    · exact absurd h (by simp)
  · exact absurd h (by simp)

/-- A small curve in entry 6: y² = x³ + x + 1 over 23 elements, base point (3, 10) of order 28. -/
def aCurve : Octets := hdr 512 [(0, [6, 1]), (2, le 2 160), (4, le 2 160), (0x18, be 72 23), (0x60, be 72 1), (0xA8, be 72 1),
  (0xF0, be 72 3), (0x138, be 72 10), (0x180, be 72 101)]

/-- A policy of one entry, number 0, whose first decimalisation table is 0123456789012345. -/
def aPolicy : Octets := [1] ++ zeros 7 ++ hdr 64 [(16, [0x01, 0x23, 0x45, 0x67, 0x89, 0x01, 0x23, 0x45])]

/-- A tenant's command with its keys cached, on a module that can draw and has the tenant's domain root. -/
def service (op : Code) (input : Octets) (ks : List CacheEntry) : State :=
  let s := withDrbgs (tenant op input ks)
  { s with warden := { s.warden with roots := [(2, { root := zeros 32 })] }, boot := { s.boot with curves := [(6, aCurve)], policy := aPolicy } }

/-- What every service asks of its command holds of these. -/
theorem asks_service : ∀ p ∈ [((0x0101 : Code), zeros 64), (0x0301, zeros 64), (0x0501, zeros 64), (0x0601, zeros 64), (0x0701, zeros 64),
      (0x0801, zeros 64)],
    Asks (service p.1 p.2 []) 0 p.1 0 (tenantCmd p.1 p.2) ∧ MayDraw (service p.1 p.2 []) (tenantCmd p.1 p.2) ∧
    PairDraws (service p.1 p.2 []) 0 ∧ Fits (service p.1 p.2 []) (tenantCmd p.1 p.2) 4096 := by
  unfold Asks Asked MayDraw PairDraws Fits
  decide +kernel

def pinD : CacheEntry := cached 1 1 "P0" "D"
def pinE : CacheEntry := cached 1 1 "P0" "E"

theorem witness_PinsAreTranslated : ∀ fo, fo ∈ [0, 3] →
    let i := hdr 64 [(1, [BitVec.ofNat 8 fo]), (2, [12]), (8, aPan), (18, noPan)] ++ aRef 1 1 "P0" "D" ++ aRef 1 1 "P0" "E"
    let s := service 0x0101 i [pinD, pinE]
    let c := tenantCmd 0x0101 i
    Asks s 0 0x0101 0 c ∧ i.length = 64 + refsLen 2 (i.drop 64) ∧ fmtOk c.d.version.toNat (u8 i 0) = true ∧
    fmtOk c.d.version.toNat (u8 i 1) = true ∧ zeroAt i 4 4 = true ∧ zeroAt i 28 4 = true ∧ zeroAt i 48 16 = true ∧
    translatePans (u8 i 0) (u8 i 1) (u8 i 2) (u8 i 3) = true ∧ panOk (u8 i 2) (slice i 8 10) true = true ∧
    panOk (u8 i 3) (slice i 18 10) true = true ∧ blockFieldOk (u8 i 0) (slice i 32 16) = true ∧
    keyed2With s 0 c false 64 (fun r q k l _ _ _ => !(isDukptKind r.kind) && !(isDukptKind q.kind) &&
      keyIs k ["P0"] "DB" (fmtAlg 0) && keyIs l ["P0"] "EB" (fmtAlg fo)) = true ∧ Fits s c (fmtLen fo) ∧ MayDraw s c := by
  unfold Asks Asked MayDraw Fits
  decide +kernel

theorem witness_PinsAreVerified :
    let h (g : Bool) (n : Nat) (r q : Octets) := hdr n ([(1, [1]), (2, [12]), (3, [4]), (8, aPan)] ++
      (if g then [] else [(24, [0x12, 0x34] ++ List.replicate 6 0xFF)])) ++ r ++ q
    let chk (op : Code) (g : Bool) (n : Nat) (modes mode : String) : Prop :=
      let i := h g n (aRef 1 1 "P0" "D") (aRef 1 1 "V2" mode)
      let s := service op i [pinD, cached 1 1 "V2" mode]
      let c := tenantCmd op i
      (Asks s 0 op 0 c ∧ i.length = n + refsLen 2 (i.drop n) ∧ verifyHeaderOk c.d.version.toNat i g = true ∧
      blockFieldOk (u8 i 0) (slice i 48 16) = true ∧ blockFieldOk (u8 i 0) (slice i 64 16) = true ∧ Fits s c 8) ∧
      (n = 96 → zeroAt i 80 16 = true) ∧
      keyed2With s 0 c false n (fun r q k l _ _ _ => !(isDukptKind r.kind) && !(isDukptKind q.kind) &&
        keyIs k ["P0"] "DB" (fmtAlg 0) && keyIs l ["V2"] modes (· == 1)) = true
    chk 0x0102 false 64 "VC" "V" ∧ chk 0x0203 true 64 "GC" "G" ∧ chk 0x0104 false 96 "C" "C" := by
  unfold Asks Asked Fits
  decide +kernel

theorem witness_PinsAreGenerated :
    (∀ len, len ∈ [4, 12] →
      let i := hdr 64 [(2, [12]), (3, [BitVec.ofNat 8 len]), (8, aPan)] ++ aRef 1 1 "P0" "E"
      let s := service 0x0103 i [pinE]
      let c := tenantCmd 0x0103 i
      Asks s 0 0x0103 0 c ∧ i.length = 64 + refsLen 1 (i.drop 64) ∧ fmtOk c.d.version.toNat (u8 i 0) = true ∧ u8 i 1 ≤ 2 ∧
      panOk (u8 i 2) (slice i 8 10) false = true ∧ u8 i 4 = 0 ∧ u8 i 5 = 0 ∧ zeroAt i 6 2 = true ∧ zeroAt i 18 14 = true ∧
      zeroAt i 32 8 = true ∧ zeroAt i 40 24 = true ∧ polPinMin s c.slot ≤ len ∧ len ≤ polPinMax s c.slot ∧ Fits s c 24 ∧ MayDraw s c ∧
      keyed1With s 0 c false 64 (fun r k _ _ _ => !(isDukptKind r.kind) && keyIs k ["P0"] "EB" (fmtAlg 0)) = true) ∧
    (∀ m, m ∈ [1, 2] →
      let i := hdr 64 [(1, [BitVec.ofNat 8 m]), (2, [12]), (3, [4]), (8, aPan)] ++ aRef 1 1 "P0" "E" ++
        aRef 1 1 (if m = 1 then "V2" else "V1") "G"
      let s := service 0x0103 i [pinE, cached 1 1 "V2" "G", cached 1 1 "V1" "G"]
      let c := tenantCmd 0x0103 i
      u8 i 1 = m ∧ u8 i 4 ≤ 9 ∧ u8 i 5 ≤ 3 ∧ (decTable s c.slot (u8 i 5)).isSome = true ∧
      keyed2With s 0 c false 64 (fun _ q k l _ _ _ => !(isDukptKind q.kind) && keyIs k ["P0"] "EB" (fmtAlg 0) &&
        keyIs l [if m = 1 then "V2" else "V1"] "GC" (· == 1)) = true) := by
  unfold Asks Asked MayDraw Fits
  decide +kernel

theorem witness_CardCodes :
    ∀ n, n ∈ [3, 4] →
      let i := hdr 32 [(0, [BitVec.ofNat 8 n, 12]), (6, [0x10, 0x1F]), (8, aPan), (18, [0x12, if n = 3 then 0x3F else 0x34])] ++ aRef 1 1 "C0" "C"
      let s := service 0x0202 i [cached 1 1 "C0" "C"]
      let c := tenantCmd 0x0202 i
      let g := hdr 32 [(0, [BitVec.ofNat 8 n, 12]), (6, [0x10, 0x1F]), (8, aPan)]
      Asks s 0 0x0202 0 c ∧ i.length = 32 + refsLen 1 (i.drop 32) ∧ panOk (u8 i 1) (slice i 8 10) false = true ∧ zeroAt i 2 2 = true ∧
      (∀ x ∈ nibbles (slice i 4 2), x < 10) ∧ (∀ x ∈ (nibbles (slice i 6 2)).take 3, x < 10) ∧ (nibbles (slice i 6 2)).getD 3 0 = 15 ∧
      zeroAt i 20 12 = true ∧ (∀ x ∈ (nibbles (slice i 18 2)).take n, x < 10) ∧ (∀ x ∈ (nibbles (slice i 18 2)).drop n, x = 15) ∧
      zeroAt g 18 2 = true ∧ Fits s c 2 ∧
      keyed1With s 0 c false 32 (fun r k _ _ _ => !(isDukptKind r.kind) && keyIs k ["C0"] "GC" (· == 1) && keyIs k ["C0"] "VC" (· == 1)) = true := by
  unfold Asks Asked Fits
  decide +kernel

theorem witness_EmvServices : ∀ p ∈ [((0x0301 : Code), EmvRole.arqcVerify, 1, 0, "E0"), (0x0302, .arpcGenerate, 0, 0, "E0"),
      (0x0303, .scriptMac, 64, 4, "E2"), (0x0304, .scriptEncrypt, 16, 0, "E1")],
    let i := hdr 64 [(0, [1, 4]), (8, noPan), (18, [BitVec.ofNat 8 p.2.2.2.1]), (40, le 4 p.2.2.1)] ++ aRef 3 1 p.2.2.2.2 "C" ++ zeros p.2.2.1
    let s := service p.1 i [cached 3 1 p.2.2.2.2 "C"]
    let c := tenantCmd p.1 i
    Asks s 0 p.1 0 c ∧ i.length = 64 + refsLen 1 (i.drop 64) + u32 i 40 ∧ emvHeaderOk c.d.version.toNat p.2.1 i = true ∧ Fits s c 24 ∧
    keyed1With s 0 c false 64 (fun r k _ _ _ => !(isDukptKind r.kind) && keyIs k (emvUsage p.2.1) "CGB" (· == 1)) = true := by
  unfold Asks Asked Fits
  decide +kernel

theorem fit_length (n : Nat) (o : Octets) : (fit n o).length = n := by
  unfold fit zeros
  simp

theorem nibbles_length : ∀ o : Octets, (nibbles o).length = 2 * o.length
  | [] => rfl
  | o :: t => by
    simp only [nibbles, List.length_cons, nibbles_length t]
    omega

/-- Length of a version-D block of a two-key TDEA key. -/
theorem blockTotal_tdea (k : KeyVal) (h : k.alg = 1) : blockTotal true k = 128 := by
  have hl : ((kcvOf 1 k.bytes).take 3).length = 3 := by
    have h1 : kcvOf 1 k.bytes = fit 5 ((tdesEnc k.bytes (zeros 8)).take 3) := rfl
    rw [h1, List.length_take, fit_length]
    rfl
  have hk : (ascii "KC").length = 2 := by decide +kernel
  have hz : (ascii "00").length = 2 := by decide +kernel
  have hp : (ascii "PB").length = 2 := by decide +kernel
  unfold blockTotal blockHeader
  dsimp only
  rw [h, show isTdea 1 = true from rfl, show isAes 1 = false from rfl]
  simp only [hexOf]
  simp [hl, hk, hz, hp, nibbles_length, decText, fit_length]

theorem witness_EmvSessionKeys :
    let i := hdr 64 [(0, [1, 4]), (8, noPan), (44, [1])] ++ aRef 3 1 "E0" "C" "E" ++ aRef 2 5 "K1" "B"
    let s := service 0x0305 i [cached 3 1 "E0" "C" "E", cached 2 5 "K1" "B"]
    let c := tenantCmd 0x0305 i
    Asks s 0 0x0305 0 c ∧ i.length = 64 + refsLen 2 (i.drop 64) + u32 i 40 ∧ emvHeaderOk c.d.version.toNat .sessionKey i = true ∧
    MayDraw s c ∧ strength 1 ≤ strength 5 ∧ Fits s c (blockTotal true { alg := 1 }) ∧
    keyed2With s 0 c false 64 (fun _ _ k l _ _ _ => keyIs k (emvUsage .sessionKey) "CGB" (· == 1) &&
      keyIs l ["K1"] "BE" (fun a => isTdea a || isAes a) && exportable k (isAes l.alg) l.alg && l.alg == 5) = true := by
  unfold Asks Asked MayDraw Fits
  rw [blockTotal_tdea _ rfl]
  decide +kernel

/-- A DUKPT reference of kind 0x11 with a KSN counter. -/
def dukptRef (n : Nat) (usage mode : String) : Octets := [0x11, 0, 0, 0] ++ zeros 7 ++ be 3 n ++ zeros 2 ++ aLabel 3 1 usage mode

theorem witness_DukptServices : ∀ p ∈ [((0x0403 : Code), DukptRole.decrypt, 1, 0), (0x0404, .encrypt, 1, 0), (0x0405, .macVerify, 2, 4),
      (0x0406, .macGenerate, 2, 8)],
    let i := hdr 64 [(0, [BitVec.ofNat 8 p.2.2.1, 1, BitVec.ofNat 8 p.2.2.2]), (4, le 4 16)] ++ dukptRef 1 "B0" "X" ++ zeros 16
    let s := service p.1 i [cached 3 1 "B0" "X"]
    let c := tenantCmd p.1 i
    Asks s 0 p.1 0 c ∧ i.length = 64 + refsLen 1 (i.drop 64) + u32 i 4 ∧ dukptHeaderOk p.2.1 i = true ∧ dukptSizesOk p.2.1 i true = true ∧
    Fits s c 16 ∧ keyed1With s 0 c false 64 (fun r k _ _ _ => isDukptKind r.kind && !(aesDukptKind r.kind) && keyIs k ["B0"] "X" (bdkAlg r.kind)) = true := by
  unfold Asks Asked Fits
  decide +kernel

theorem witness_DukptKeys :
    (let i := hdr 64 [(0, [1])] ++ dukptRef 0 "B0" "X" ++ aRef 2 5 "K1" "B"
     let s := service 0x0401 i [cached 3 1 "B0" "X", cached 2 5 "K1" "B"]
     let c := tenantCmd 0x0401 i
     Asks s 0 0x0401 0 c ∧ i.length = 64 + refsLen 2 (i.drop 64) ∧ dukptHeaderOk .ikExport i = true ∧ dukptSizesOk .ikExport i false = true ∧
     u8 i 1 ≠ 2 ∧ MayDraw s c ∧ Fits s c (blockTotal true { alg := 1 }) ∧
     keyed2With s 0 c true 64 (fun r q k l _ _ _ => isDukptKind r.kind && !(isDukptKind q.kind) && keyIs k ["B0"] "X" (bdkAlg r.kind) &&
       keyIs l ["K1"] "BE" (fun a => isTdea a || isAes a) && decide (strength k.alg ≤ strength l.alg)) = true) ∧
    (let i := hdr 64 [(0, [1]), (49, [1])] ++ aRef 3 1 "B1" "X"
     let s := service 0x0402 i [cached 3 1 "B1" "X"]
     let c := tenantCmd 0x0402 i
     Asks s 0 0x0402 0 c ∧ i.length = 64 + refsLen 1 (i.drop 64) ∧ dukptHeaderOk .terminalKey i = true ∧ dukptSizesOk .terminalKey i false = true ∧
     ksnOk false false (slice i 40 12) = true ∧ zeroAt (slice i 40 12) 10 2 = true ∧ u8 i 52 = 0 ∧ u8 i 1 ≠ 2 ∧ Fits s c 144 ∧
     keyed1With s 0 c false 64 (fun r k _ s' _ => !(isDukptKind r.kind) && keyIs k ["B1"] "X" (fun a => a == 1 || isAes a) &&
       !(isAes k.alg) && (rootsOf s' c.slot).isSome) = true) := by
  unfold Asks Asked MayDraw Fits
  rw [blockTotal_tdea _ rfl]
  decide +kernel

theorem witness_MacServices : let p : Code × Bool := (0x0501, false)
    let i := hdr 64 [(0, [1, 1, 4]), (4, le 4 1)] ++ aRef 1 1 "M0" "C" ++ [7]
    let s := service p.1 i [cached 1 1 "M0" "C"]
    let c := tenantCmd p.1 i
    Asks s 0 p.1 0 c ∧ i.length = 64 + refsLen 1 (i.drop 64) + u32 i 4 ∧ macHeaderOk c.d.version.toNat i p.2 = true ∧
    polMacMin s c.slot ≤ u8 i 2 ∧ Fits s c 4 ∧
    keyed1With s 0 c false 64 (fun r k _ _ _ => !(isDukptKind r.kind) && keyIs k (macUsages 1) "C" (macAlgOk 1)) = true := by
  unfold Asks Asked Fits
  decide +kernel

theorem witness_MacServicesGenerate : let p : Code × Bool := (0x0502, true)
    let i := hdr 64 [(0, [1, 1, 4]), (4, le 4 1)] ++ aRef 1 1 "M0" "C" ++ [7]
    let s := service p.1 i [cached 1 1 "M0" "C"]
    let c := tenantCmd p.1 i
    Asks s 0 p.1 0 c ∧ i.length = 64 + refsLen 1 (i.drop 64) + u32 i 4 ∧ macHeaderOk c.d.version.toNat i p.2 = true ∧
    polMacMin s c.slot ≤ u8 i 2 ∧ Fits s c 4 ∧
    keyed1With s 0 c false 64 (fun r k _ _ _ => !(isDukptKind r.kind) && keyIs k (macUsages 1) "C" (macAlgOk 1)) = true := by
  unfold Asks Asked Fits
  decide +kernel

theorem witness_BulkServices : ∀ p ∈ [((0x0701 : Code), BulkRole.gcmEncrypt, 1, 16, 0, 16), (0x0702, .gcmDecrypt, 0, 12, 0, 16),
      (0x0703, .cbcEncrypt, 1, 0, 0, 16), (0x0704, .cbcDecrypt, 0, 0, 0, 32), (0x0705, .ctr, 0, 0, 0, 5), (0x0706, .ff1Encrypt, 0, 0, 10, 6),
      (0x0707, .ff1Decrypt, 0, 0, 10, 7)],
    let i := hdr 64 [(0, [BitVec.ofNat 8 p.2.2.1, BitVec.ofNat 8 p.2.2.2.1]), (2, le 2 p.2.2.2.2.1), (4, le 4 p.2.2.2.2.2)] ++
      aRef 1 5 "D0" "B" ++ zeros p.2.2.2.2.2
    let s := service p.1 i [cached 1 5 "D0" "B"]
    let c := tenantCmd p.1 i
    Asks s 0 p.1 0 c ∧ i.length = 64 + refsLen 1 (i.drop 64) + u32 i 8 + u32 i 4 ∧ bulkHeaderOk p.2.1 i = true ∧
    (p.2.1.isFf1 = true → 1000000 ≤ u16 i 2 ^ u32 i 4) ∧ Fits s c (u32 i 4 + 32) ∧ MayDraw s c ∧
    keyed1With s 0 c false 64 (fun r k rest _ _ => !(isDukptKind r.kind) && (rest.drop (u32 i 8)).length == u32 i 4 &&
      keyIs k ["D0"] (if p.2.1 = .ctr then "EDB" else if p.2.1.enciphers then "EB" else "DB") isAes) = true := by
  unfold Asks Asked MayDraw Fits
  decide +kernel

theorem witness_RandomBytes :
    let c : Cmd := { tenantCmd 0x0901 [] with d := { opcode := 0x0901, version := 3, outCap := 16, params := le 4 16 ++ zeros 20 } }
    let s (f d : Bool) : State :=
      let x := withKeys [] (onCore plainCore c)
      let x := if d then withDrbgs x else x
      { x with entropy := { x.entropy with failed := f } }
    (∀ f d, Asks (s f d) 0 0x0901 0 c ∧ Fits (s f d) c (u32 c.d.params 0) ∧ (s f d).entropy.failed = f) ∧
    canServe (s false true) (instOf c.slot c.idx) ((u8 c.d.params 8).testBit 0) = true ∧
    canServe (s false false) (instOf c.slot c.idx) ((u8 c.d.params 8).testBit 0) = false := by
  unfold Asks Asked Fits
  decide +kernel

/-- A template of 64 octets. -/
def aTemplate (alg cls len flags limit : Nat) (usage mode : String) : Octets :=
  hdr 64 [(0, [3, if cls = 4 then 2 else 1, BitVec.ofNat 8 alg, BitVec.ofNat 8 cls]), (4, le 2 len), (6, le 2 fullMask), (8, ascii usage), (10, ascii mode),
    (11, ascii "N"), (12, ascii "00"), (14, [BitVec.ofNat 8 flags]), (16, le 4 limit)]

theorem witness_KeysAreMade :
    (∀ limit, limit ∈ [0, 9] →
      let t := aTemplate 5 1 32 1 limit "D0" "B"
      let i := hdr 64 [(0, [1]), (4, le 4 64)] ++ t
      let s := service 0x0601 i []
      let c := tenantCmd 0x0601 i
      Asks s 0 0x0601 0 c ∧ i.length = 64 + refsLen 0 (i.drop 64) + u32 i 4 ∧ u32 i 4 = 64 ∧ u8 i 0 = 1 ∧ zeroAt i 8 56 = true ∧ TemplateOk t ∧
      Fits s c 144 ∧ MayDraw s c ∧ 0 < drawLen (headerKey t) ∧ (headerKey t).limit = limit ∧ freeCnum s c.slot = some 0 ∧
      s.keys.nextGen < 2 ^ 32 ∧ c.slot < 512 ∧ (rootsOf s c.slot).isSome = true) ∧
    (let t := aTemplate 5 1 32 0 0 "D0" "B"
     let i := hdr 64 [(0, [1]), (4, le 4 128)] ++ aRef 2 5 "K0" "X" "N" ++ t ++ aLabel 1 5 "D0" "B"
     let s := service 0x0602 i [cached 2 5 "K0" "X"]
     let c := tenantCmd 0x0602 i
     Asks s 0 0x0602 0 c ∧ i.length = 64 + refsLen 1 (i.drop 64) + u32 i 4 ∧ u32 i 4 = 128 ∧ TemplateOk t ∧
     keyed1With s 0 c false 64 (fun r k rest s' _ => !(isDukptKind r.kind) && keyIs k ["D0", "K0"] "X" (· == 5) && rest.take 64 == t &&
       (match labelKey (slice rest 64 64) with
        | some child => grantsWithin { child with exp := if exportRank k.exp < exportRank child.exp then k.exp else child.exp, mask := k.mask } (headerKey t)
        | none => false) && (rootsOf s' c.slot).isSome) = true) ∧
    (let t := aTemplate 5 1 32 0 0 "D0" "E"
     let i := hdr 64 [(0, [1]), (4, le 4 64)] ++ aRef 1 5 "D0" "B" ++ t
     let s := service 0x0607 i [cached 1 5 "D0" "B"]
     let c := tenantCmd 0x0607 i
     Asks s 0 0x0607 0 c ∧ i.length = 64 + refsLen 1 (i.drop 64) + u32 i 4 ∧ TemplateOk t ∧
     keyed1With s 0 c false 64 (fun r k rest s' _ => !(isDukptKind r.kind) && rest == t && k.limit == 0 && !(k.flags.getLsbD 0) &&
       grantsWithin k (headerKey t) && (rootsOf s' c.slot).isSome) = true) := by
  unfold Asks Asked MayDraw Fits TemplateOk
  decide +kernel

theorem witness_KeysCross :
    (let b := ascii "D0048D0AB00E0000" ++ ascii "00000000000000000000000000000000"
     (blockHeaderOf b).isSome = true ∧ 16 ≤ b.length ∧ b.headD 0 = 0x44 ∧ importAlg ((slice b 7 1).headD 0) 16 = some 3 ∧
     classAlg (usageClass (slice b 5 2)) 3 = true ∧ (∀ v, checkBlock [] "KC" ≠ some v)) ∧
    (let i := hdr 64 [(0, [2]), (8, ascii "E00")] ++ aRef 1 1 "D0" "B" "E" ++ aRef 2 5 "K1" "E"
     let s := let x := service 0x0604 i [cached 1 1 "D0" "B" "E", cached 2 5 "K1" "E"]
              { x with boot := { x.boot with policy := [1] ++ zeros 7 ++ hdr 64 [(2, le 2 (2 * 4 ^ 3))] } }
     let c := tenantCmd 0x0604 i
     Asks s 0 0x0604 0 c ∧ i.length = 64 + refsLen 2 (i.drop 64) + u32 i 4 ∧ u32 i 4 = 0 ∧ u8 i 0 = 2 ∧ u8 i 1 = 0 ∧ zeroAt i 2 2 = true ∧
     (slice i 8 1).headD 0 = 0x45 ∧ zeroAt i 11 53 = true ∧ polExportDerived s c.slot = true ∧ MayDraw s c ∧ Fits s c (blockTotal true { alg := 1 }) ∧
     keyed2With s 0 c false 64 (fun r q k l _ _ _ => !(isDukptKind r.kind) && !(isDukptKind q.kind) && keyIs l ["K1"] "BE" (fun a => isTdea a || isAes a) &&
       isAes l.alg && plainKey k && exportable k true l.alg && decide (strength k.alg ≤ strength l.alg)) = true) := by
  refine ⟨⟨by decide +kernel, by decide +kernel, by decide +kernel, by decide +kernel, by decide +kernel, by simp [checkBlock]⟩, ?_⟩
  unfold Asks Asked MayDraw Fits
  rw [blockTotal_tdea _ rfl]
  decide +kernel

theorem witness_KeysAreShown :
    let i := zeros 64 ++ aRef 1 5 "D0" "B"
    let s := service 0x0609 i [cached 1 5 "D0" "B"]
    let c := tenantCmd 0x0609 i
    Asks s 0 0x0609 0 c ∧ i.length = 64 + refsLen 1 (i.drop 64) + u32 i 4 ∧ u32 i 4 = 0 ∧ u8 i 0 = 0 ∧ zeroAt i 8 56 = true ∧ Fits s c 16 ∧
    (rootsOf s c.slot).isSome = true ∧ keyed1With s 0 c false 64 (fun r _ _ _ _ => !(isDukptKind r.kind)) = true := by
  unfold Asks Asked Fits
  decide +kernel

/-! ### Public-key services (chapter 09) -/

/-- A raw private scalar of curve 6. -/
def rawKey (usage mode : String) (d : Nat) : CacheEntry :=
  { cached 4 0x16 usage mode with key := { aKey 4 0x16 usage mode with ktype := 3, bytes := be 20 d } }

theorem witness_Curve : (curveEntry (service 0x0801 [] []) 6).isSome = true ∧
    (∀ cv ∈ curveEntry (service 0x0801 [] []) 6, cv.fo = 20 ∧ cv.no = 20 ∧
      (match decodePoint cv ([4] ++ be 20 3 ++ be 20 10) with | .ok q => (ecMul cv (cv.h * 28) q).isNone && (ecMul cv (cv.h * 27) q).isSome | .error _ => false) = true ∧
      0 < (28 : Nat) ∧ 28 < cv.n) := by
  decide +kernel

theorem witness_RemoteKeyLoading :
    let i := hdr 64 [(0, [2]), (4, le 4 40), (8, [6])] ++ aRef 1 1 "D0" "B" "E" ++ be 20 3 ++ be 20 10
    let s := let x := service 0x0606 i [cached 1 1 "D0" "B" "E"]
             { x with boot := { x.boot with policy := [1] ++ zeros 7 ++ hdr 64 [(2, le 2 (2 * 4 ^ 3))] } }
    let c := tenantCmd 0x0606 i
    Asks s 0 0x0606 0 c ∧ u8 i 8 ≤ 15 ∧ i.length = 64 + refsLen 1 (i.drop 64) + u32 i 4 ∧ u8 i 1 = 0 ∧ zeroAt i 2 2 = true ∧ zeroAt i 9 7 = true ∧
    zeroAt i 32 32 = true ∧ polExportDerived s c.slot = true ∧ MayDraw s c ∧ Fits s c (40 + blockTotal true { alg := 1 }) ∧
    keyed1With s 0 c false 64 (fun r k rest _ _ => !(isDukptKind r.kind) && plainKey k && exportable k true 5 && rest == be 20 3 ++ be 20 10) = true := by
  unfold Asks Asked MayDraw Fits
  rw [blockTotal_tdea _ rfl]
  decide +kernel

theorem witness_EcdsaSignsAndVerifies :
    (let i := hdr 64 [(0, [6]), (4, le 4 32)] ++ aRef 4 0x16 "S0" "T" ++ zeros 32
     let s := service 0x0801 i [rawKey "S0" "T" 5]
     let c := tenantCmd 0x0801 i
     Asks s 0 0x0801 0 c ∧ i.length = 64 + refsLen 1 (i.drop 64) + u32 i 4 ∧ PkHeader true i false 0 true ∧ Fits s c 40 ∧ PairDraws s 0 ∧
     keyed1With s 0 c false 64 (fun r k _ _ _ => !(isDukptKind r.kind) && keyIs k ["S0"] "ST" (· == 0x10 + u8 i 0) && keyIs k ["S0"] "VST" (· == 0x10 + u8 i 0) &&
       k.ktype == 3 && beNat (k.bytes.take 20) == 5) = true) ∧
    (let i := hdr 64 [(0, [6, 0, 0, 1]), (4, le 4 32)] ++ ([4] ++ be 20 3 ++ be 20 10) ++ zeros 40 ++ zeros 32
     let s := service 0x0802 i []
     let c := tenantCmd 0x0802 i
     Asks s 0 0x0802 0 c ∧ PkHeader true i false 1 true ∧ Fits s c 0 ∧ (u8 i 3).testBit 0 = true ∧ i.length = 64 + (1 + 2 * 20) + 2 * 20 + u32 i 4) := by
  unfold Asks Asked Fits PkHeader PairDraws
  decide +kernel

theorem witness_EcKeysAreMade :
    (∀ d, d ∈ [27, 28] →
      let t := aTemplate 5 1 32 0 0 "D0" "B"
      let i := hdr 64 [(0, [6])] ++ aRef 4 0x16 "K3" "X" ++ ([4] ++ be 20 3 ++ be 20 10) ++ t
      let s := service 0x0803 i [rawKey "K3" "X" d]
      let c := tenantCmd 0x0803 i
      Asks s 0 0x0803 0 c ∧ i.length = 64 + refsLen 1 (i.drop 64) + (1 + 2 * 20) + 64 + u32 i 4 ∧ pkHeaderOk true i false 2 = true ∧ u8 i 1 = 0 ∧
      u32 i 4 ≤ 256 ∧ TemplateOk t ∧ Fits s c 144 ∧
      keyed1With s 0 c false 64 (fun r k rest s' _ => !(isDukptKind r.kind) && rest.headD 0 == 4 && slice rest 41 64 == t &&
        keyIs k ["K3"] "NX" (· == 0x10 + u8 i 0) && beNat (k.bytes.take 20) == d && k.ktype == 3 && (rootsOf s' c.slot).isSome) = true) ∧
    (let t := aTemplate 0x16 4 0 0 0 "S0" "S"
     let i := hdr 64 [(0, [6])] ++ t
     let s := service 0x0804 i []
     let c := tenantCmd 0x0804 i
     Asks s 0 0x0804 0 c ∧ i.length = 128 ∧ PkHeader true i false 0 false ∧ TemplateOk t ∧ (headerKey t).cls = 4 ∧ (headerKey t).alg = 0x10 + u8 i 0 ∧
     (headerKey t).usage = ascii "S0" ∧ (headerKey t).limit = 0 ∧ Fits s c (129 + 2 * 20) ∧ MayDraw s c ∧ (rootsOf s c.slot).isSome = true) := by
  unfold Asks Asked Fits PkHeader TemplateOk MayDraw
  decide +kernel

theorem witness_RsaSigns :
    let i := hdr 64 [(0, [0xFF, 0, 2]), (4, le 4 32), (8, le 2 2048)] ++ aRef 4 0x20 "S0" "T" ++ zeros 32
    let s := service 0x0811 i [{ cached 4 0x20 "S0" "T" with key := { aKey 4 0x20 "S0" "T" with ktype := 2 } }]
    let c := tenantCmd 0x0811 i
    Asks s 0 0x0811 0 c ∧ i.length = 64 + refsLen 1 (i.drop 64) + u32 i 4 ∧ PkHeader false i true 0 true ∧ Fits s c 256 ∧
    keyed1With s 0 c false 64 (fun r k _ _ _ => !(isDukptKind r.kind) && keyIs k ["S0"] "ST" (· == 0x20 + (u16 i 8 - 2048) / 256)) = true := by
  unfold Asks Asked Fits PkHeader
  decide +kernel

theorem witness_RsaVerifies :
    let n := [0x80] ++ zeros 254 ++ [1]
    let i := hdr 64 [(0, [0xFF, 0, 1, 1]), (4, le 4 32), (8, le 2 2048)] ++ n ++ zeros 256 ++ zeros 32
    let s := service 0x0812 i []
    let c := tenantCmd 0x0812 i
    Asks s 0 0x0812 0 c ∧ PkHeader false i true 1 true ∧ Fits s c 0 ∧ (u8 i 3).testBit 0 = true ∧
    i.length = 64 + 256 + 256 + u32 i 4 ∧ beNat n % 2 = 1 ∧ exactBits (beNat n) 2048 = true := by
  unfold Asks Asked Fits PkHeader
  decide +kernel

theorem witness_RsaDecrypts :
    let i := hdr 64 [(0, [0xFF]), (8, le 2 4096)] ++ aRef 4 0x28 "D1" "D" ++ zeros 512
    let s := service 0x0813 i [{ cached 4 0x28 "D1" "D" with key := { aKey 4 0x28 "D1" "D" with ktype := 2 } }]
    let c := tenantCmd 0x0813 i
    Asks s 0 0x0813 0 c ∧ i.length = 64 + refsLen 1 (i.drop 64) + u16 i 8 / 8 ∧ PkHeader false i false 0 false ∧
    keyed1With s 0 c false 64 (fun r k _ _ _ => !(isDukptKind r.kind) && keyIs k ["D1"] "DT" (· == 0x20 + (u16 i 8 - 2048) / 256)) = true := by
  unfold Asks Asked PkHeader
  decide +kernel

theorem witness_RsaKeygen :
    let t := aTemplate 0x20 4 0 0 0 "D1" "D"
    let i := hdr 64 [(0, [0xFF]), (8, le 2 2048)] ++ t
    let s := service 0x0814 i []
    let c := tenantCmd 0x0814 i
    Asks s 0 0x0814 0 c ∧ i.length = 128 ∧ PkHeader false i false 0 false ∧ TemplateOk t ∧ (headerKey t).alg = 0x20 + (u16 i 8 - 2048) / 256 ∧
    (headerKey t).usage = ascii "D1" ∧ Fits s c (128 + 256) ∧ MayDraw s c := by
  unfold Asks Asked Fits PkHeader TemplateOk MayDraw
  decide +kernel

/-- A base point off the field is no curve, whatever the drawn bases. -/
theorem base_off_field (cv : Curve) (h : ¬ cv.gx < cv.p) (bases : Octets) : curveMathOk cv bases = false := by
  unfold curveMathOk
  simp [h]

theorem witness_CurvesAreLoaded :
    let o := hdr 512 [(0, [15, 1]), (2, le 2 160), (4, le 2 160), (0x18, be 72 (2 ^ 159 + 1)), (0xF0, be 72 (2 ^ 159 + 2)), (0x180, be 72 (2 ^ 159 + 3))]
    let c (i : Octets) : Cmd := aCmd 0x8020 i
    let s (m : Mode) (i : Octets) : State := let x := withDrbgs (onCore plainCore (c i)); { x with boot := { x.boot with mode := m } }
    (∀ m i, m ∈ [Mode.service, .maintenance] → i ∈ [[], o, zeros 512] → Asks (s m i) 0 0x8020 0 (c i) ∧ (s m i).boot.mode = m ∧ Fits (s m i) (c i) 0) ∧
    o.length = 512 ∧ curveFieldsOk o = true ∧ curveFieldsOk (zeros 512) = false ∧ Internal (s .maintenance o) 4 ∧
    (∀ bases, curveMathOk (curveOf o) bases = false) := by
  refine ⟨?_, by decide +kernel, by decide +kernel, by decide +kernel, ?_, fun b => base_off_field _ (by decide +kernel) b⟩
  · intro m i hm hi
    simp only [List.mem_cons, List.not_mem_nil, or_false] at hm hi
    rcases hm with rfl | rfl <;> rcases hi with rfl | rfl | rfl <;> (unfold Asks Asked Fits; decide +kernel)
  · unfold Internal; decide +kernel

/-! ### Tenant slots, management services, ceremonies, register writes (chapters 09, 13, 14, 16) -/

/-- A management command of PF0 on core 0 with its grant already consumed, in a mode; slot 1 exists in a state. -/
def mgmtCmd (op : Code) (input : Octets) (params : Octets := zeros 24) : Cmd :=
  { aCmd op input with d := { opcode := op, version := 3, outCap := 4096, inLen := BitVec.ofNat 32 input.length, params := params }, granted := true }
def managed (m : Mode) (c : Cmd) (x : Slot := {}) : State :=
  let s := withDrbgs (onCore plainCore c)
  { s with
    boot := { s.boot with mode := m, slotsA := 4, slotsB := 4, phPool := 64, ctrPool := 64, cachePool := 1024, policy := aPolicy },
    warden := { s.warden with lc := .commissioned, roots := [(2, { root := zeros 32, check := zeros 8 })], officers := some (zeros 48, 2, 3) },
    slots := { s.slots with table := [(1, { x with f := { tenant := 0x0105, domain := 2, phBase := 64, phCount := 4, maxPrio := 1,
                                                          weight := 2, cacheShare := 64, ctrBase := 0, ctrCount := 8 } })] },
    entropy := { s.entropy with passed := BitVec.allOnes 64 } }

/-- An input of SLOT_CREATE: slot, tenant, domain, pigeonholes, priority, weight, cache share. -/
def createInput (n t d share : Nat) : Octets :=
  hdr 64 [(0, le 2 n), (2, le 2 t), (4, [BitVec.ofNat 8 d]), (7, [1]), (8, le 2 2), (12, le 4 share)]

theorem witness_SlotsAreCreated :
    let i (n t d share : Nat) := createInput n t d share
    let s (m : Mode) (x : Octets) := managed m (mgmtCmd 0x8070 x)
    let step1 (x : Octets) : Prop := slotRangesOk (s .service x) (u16 x 0) (createFields x) (u8 x 5) = true ∧ u16 x 2 ≠ 0xFFFF ∧ u8 x 4 < 16 ∧
      zeroAt x 11 1 = true ∧ zeroAt x 0x14 44 = true
    (∀ x ∈ [i 3 7 2 64, i 4 7 2 64, i 3 0x0105 2 64, i 3 7 3 64, i 3 7 2 4096], ∀ m ∈ [Mode.service, .staged],
      Asks (s m x) 0 0x8070 0 (mgmtCmd 0x8070 x) ∧ (s m x).boot.mode = m) ∧
    ¬ step1 (i 4 7 2 64) ∧ step1 (i 3 0x0105 2 64) ∧ slotTaken (s .service (i 3 0x0105 2 64)) 3 (createFields (i 3 0x0105 2 64)) = true ∧
    step1 (i 3 7 3 64) ∧ slotTaken (s .service (i 3 7 3 64)) 3 (createFields (i 3 7 3 64)) = false ∧
    drInstalled (s .service (i 3 7 3 64)) (createFields (i 3 7 3 64)).domain.toNat = false ∧
    takeFromPools (s .service (i 3 7 2 4096)) (createFields (i 3 7 2 4096)) = none ∧ step1 (i 3 7 2 64) ∧
    slotTaken (s .service (i 3 7 2 64)) 3 (createFields (i 3 7 2 64)) = false ∧
    drInstalled (s .service (i 3 7 2 64)) (createFields (i 3 7 2 64)).domain.toNat = true ∧
    (∃ g ∈ takeFromPools (s .service (i 3 7 2 64)) (createFields (i 3 7 2 64)), slotArmFails (s .service (i 3 7 2 64)) 0 g = false) ∧
    (s .service []).entropy.failed = false ∧ canInstantiate (s .service (i 3 7 2 64)) = true ∧ Fits (s .service (i 3 7 2 64)) (mgmtCmd 0x8070 (i 3 7 2 64)) 16 := by
  unfold Asks Asked Fits
  decide +kernel

def slotNo (n : Nat) : Octets := le 2 n ++ zeros 22

theorem witness_SlotsChangeState : ∀ p ∈ [((0x8072 : Code), SlotState.active), (0x8072, .quiescing), (0x8072, .quiesced), (0x8072, .destroying), (0x8073, .quiesced),
      (0x8073, .active), (0x8073, .quiescing), (0x8073, .destroying), (0x8071, .active), (0x8071, .quiescing), (0x8071, .quiesced), (0x8071, .destroying), (0x8074, .active), (0x8074, .quiescing),
      (0x8074, .quiesced), (0x8074, .destroying)],
    let c := mgmtCmd p.1 [] (slotNo 1)
    let s := managed .service c { state := p.2 }
    Asks s 0 p.1 0 c ∧ s.boot.mode = .service ∧ 1 = u16 c.d.params 0 ∧ (1 : Nat) < 512 ∧ (lookup s.slots.table 1).map (·.state) = some p.2 ∧
    (lookup s.slots.table 1).map (·.quiesceBy) = some none ∧ (lookup s.slots.table 1).map (·.destroyBy) = some none ∧
    Fits s c 0 ∧ Fits s c (144 + blobBodyLen 4 8) ∧ MayDraw s c := by
  unfold Asks Asked Fits MayDraw
  decide +kernel

theorem witness_DrainsAndCleanups :
    let c := mgmtCmd 0x8072 [] (slotNo 1)
    (∀ y ∈ (managed .service c).so.cmds, y.2.slot ≠ 1) ∧ (∀ y ∈ (managed .service c).so.cmds, y.2.slot = 1 → y.2.status = cancelledSt) ∧
    HeldHere (managed .service c { state := .quiescing, quiesceBy := some 0 }) 0 c ∧ c.slot ≠ 1 ∧
    (let t := onCore plainCore (tenantCmd 3 [])
     (∃ y ∈ t.so.cmds, y.2.slot = 1 ∧ y.2.status ≠ cancelledSt)) := by
  refine ⟨by decide, by decide, ?_, by decide, ⟨(0, tenantCmd 3 []), by decide, by decide, by decide⟩⟩
  unfold HeldHere; decide

theorem witness_DirtyLogs : ∀ p ∈ [(1, true), (1, false), (2, true), (2, false), (3, true), (3, false)],
    let i := hdr 64 ([(0, le 2 1), (2, [BitVec.ofNat 8 p.1])] ++ (if p.1 = 1 then [(4, le 4 (2 ^ 28))] else []))
    let c := mgmtCmd 0x8076 i
    let s := managed .service c { dirtyEn := p.2 }
    Asks s 0 0x8076 0 c ∧ u16 i 0 = 1 ∧ (lookup s.slots.table 1).map (fun x => (x.state, x.dirtyEn)) = some (.active, p.2) ∧ zeroAt i 3 1 = true ∧
    zeroAt i 0x20 32 = true ∧ Fits s c 16 ∧ u8 i 2 = p.1 ∧ (if p.1 = 1 then 1 ≤ u32 i 4 ∧ u32 i 4 ≤ 2 ^ 28 ∧ u64 i 8 % 4096 = 0 else zeroAt i 4 28 = true) := by
  unfold Asks Asked Fits
  decide +kernel

theorem witness_SlotsAreRestored :
    let len := blobBodyLen 8 0
    let h (d : Nat) := hdr 128 [(0, le 4 0x51075A7E), (4, le 2 1), (8, le 4 (128 + len + 16)), (0x0C, le 2 7), (0x0E, [BitVec.ofNat 8 d, 8]), (0x60, le 4 len)]
    let i (n t d : Nat) (chk : Octets) := hdr 64 [(0, le 2 n), (3, [1]), (4, le 2 2), (8, le 4 64)] ++ hdr 128 [(0, h d), (0x0C, le 2 t), (0x10, chk)] ++ zeros len ++ zeros 16
    let s (x : Octets) := managed .service (mgmtCmd 0x8075 x)
    let fields (x : Octets) : Prop := let head := slice x 64 128
      slotRangesOk (s x) (u16 x 0) (restoreFields x) (u8 x 2) = true ∧ zeroAt x 7 1 = true ∧ zeroAt x 12 52 = true ∧ u32 head 0 = 0x51075A7E ∧
      u16 head 4 = 1 ∧ zeroAt head 6 2 = true ∧ zeroAt head 0x64 28 = true ∧ u16 head 0x0C ≠ 0xFFFF ∧ u8 head 0x0E < 16
    let lengths (x : Octets) : Prop := let head := slice x 64 128
      u32 head 0x60 = len ∧ u32 head 8 = 128 + len + 16 ∧ x.length = 64 + 128 + len + 16
    let good := i 3 7 2 (zeros 8)
    Asks (s good) 0 0x8075 0 (mgmtCmd 0x8075 good) ∧ blobBodyLen (restoreFields good).phCount (restoreFields good).ctrCount = len ∧ fields good ∧ lengths good ∧
    ¬ fields (i 4 7 2 (zeros 8)) ∧ ¬ lengths (good ++ [0]) ∧ fields (good ++ [0]) ∧
    slotTaken (s good) 3 (restoreFields good) = false ∧ slotTaken (s good) 3 (restoreFields (i 3 0x0105 2 (zeros 8))) = true ∧
    lookup (s good).warden.roots (restoreFields (i 3 7 3 (zeros 8))).domain.toNat = none ∧
    (lookup (s good).warden.roots (restoreFields good).domain.toNat).map (fun r => decide (fit 8 r.check = slice (slice good 64 128) 0x10 8)) = some true ∧
    (let bad := i 3 7 2 (List.replicate 8 1)
     (lookup (s bad).warden.roots (restoreFields bad).domain.toNat).map (fun r => decide (fit 8 r.check = slice (slice bad 64 128) 0x10 8)) = some false) ∧
    (∃ g ∈ takeFromPools (s good) (restoreFields good), slotArmFails (s good) 0 g = false) ∧ canInstantiate (s good) = true ∧ Fits (s good) (mgmtCmd 0x8075 good) 16 := by
  unfold Asks Asked Fits
  decide +kernel

theorem witness_SlotReads :
    let c (n : Nat) := mgmtCmd 0x8040 [] (le 2 1 ++ le 2 n ++ zeros 20)
    let s (n : Nat) : State := { managed .service (c n) with keys := { (managed .service (c n)).keys with counters := [(7, { limit := 5 })] } }
    (∀ n ∈ [0, 7, 8], Asks (s n) 0 0x8040 0 (c n) ∧ u16 (c n).d.params 0 = 1 ∧ u16 (c n).d.params 2 = n ∧ Fits (s n) (c n) 16) ∧
    (lookup (s 7).slots.table 1).map (fun x => (x.f.ctrBase, x.f.ctrCount)) = some (0, 8) ∧ (lookup (s 7).keys.counters 7).isSome = true ∧
    lookup (s 0).keys.counters 0 = none ∧ lookup (s 0).slots.table 2 = none ∧ 512 ≤ (512 : BitVec 10).toNat := by
  unfold Asks Asked Fits
  decide +kernel

theorem witness_CommitsTakeEffect :
    ∀ f ∈ [Effect.curve 6 (zeros 512), .rngMode 5, .extCfg 0x1111, .ctrAlloc 9 3 1, .ctrUse 0, .slotCreate 3 {}, .slotResume 1, .slotRestore 3 {} (zeros 128) (zeros 1152)],
      let c : Cmd := { mgmtCmd 0x8070 [] with served := true, stateChanging := true, keepsReplay := true, effects := [f] }
      let s := managed .service c
      running s 0 = some (0, c) ∧ (s.core 0).far = none ∧ doneWaits s 0 = false ∧ c.custom = false ∧ wantsFrank c.d = false ∧ (s.core 0).wmuSeen = false ∧
      c.output.length ≤ c.d.outCap.toNat ∧ c.status = stOk ∧ c.replay = false ∧ commitStalls s c = false ∧ s.pair.mirroring = false := by
  decide +kernel

theorem witness_QuorumGuards : ∀ o ∈ [0x8012, 0x8013, 0x8014, 0x8050, 0x8051, 0x8052, 0x8053, 0x8054, 0x8082, 0x8092, 0x8094],
    let op := BitVec.ofNat 16 o
    let c : Cmd := { mgmtCmd op [] with granted := false }
    Asks (managed .service c) 0 op 0 c ∧ Ungranted (managed .service c) c := by
  intro o h
  refine ⟨?_, rfl, fun g hg => absurd hg (by simp [managed, withDrbgs, onCore, withCmd, State.reset, State.setCore])⟩
  revert o
  unfold Asks Asked
  decide +kernel

theorem granted_self (s : State) (c : Cmd) (h : c.granted = true) : Granted s c s c := Or.inl ⟨h, rfl, rfl⟩

/-- A grant that a command of its port, opcode, CMD_ID and digest consumes. -/
theorem granted_once : ∃ s c s' c', (c : Cmd).granted = false ∧ Granted s c s' c' := by
  let c : Cmd := { mgmtCmd 0x8012 [] with granted := false }
  let s : State := { managed .maintenance c with alarms := { (managed .maintenance c).alarms with
    grants := [{ portB := false, opcode := 0x8012, cmdId := 0, digest := quorumDigest c, officers := 3 }] } }
  refine ⟨s, c, _, _, rfl, Or.inr ⟨rfl, { portB := false, opcode := 0x8012, cmdId := 0, digest := quorumDigest c, officers := 3 }, ?_, rfl, rfl⟩⟩
  have h : (quorumDigest c == quorumDigest c) = true := beq_self_eq_true _
  have e : s.alarms.grants = [{ portB := false, opcode := 0x8012, cmdId := 0, digest := quorumDigest c, officers := 3 }] := rfl
  rw [e, List.find?_cons_of_pos]
  show ((false == false && (0x8012 : Code) == 0x8012 && (0 : BitVec 64) == 0) && (quorumDigest c == quorumDigest c)) = true
  rw [h]
  decide

theorem witness_Maintenance :
    (∀ m ∈ [Mode.service, .standby, .staged, .maintenance], let c := mgmtCmd 0x8010 []
      Asks (managed m c) 0 0x8010 0 c ∧ (managed m c).boot.maintDrain ≠ some 0 ∧ changing (managed m c) = false ∧ (managed m c).boot.mode = m ∧
      (managed m c).pair.joined = false ∧ Fits (managed m c) c 0) ∧
    (let s := managed .service (mgmtCmd 0x8010 [])
     changing { s with boot := { s.boot with maintDrain := some 5 } } = true ∧ { s with pair := { s.pair with joined := true } }.pair.joined = true) ∧
    (let c := mgmtCmd 0x8011 []
     let s := managed .maintenance c
     Asks s 0 0x8011 0 c ∧ s.boot.exitBy ≠ some 0 ∧ changing s = false ∧ s.warden.lc = .commissioned ∧ Fits s c 0 ∧
     { s with boot := { s.boot with pdEn := 0 } }.boot.pdEn.getLsbD 8 = false) ∧
    (∀ n ∈ [1, 0x4000000], let i := hdr 64 [(0, le 4 n)]
      let c := mgmtCmd 0x8012 i
      Asks (managed .maintenance c) 0 0x8012 0 c ∧ changing (managed .maintenance c) = false ∧ zeroAt i 4 4 = true ∧ zeroAt i 0x38 8 = true ∧
      1 ≤ u32 i 0 ∧ u32 i 0 ≤ 0x4000000 ∧ Fits (managed .maintenance c) c 0) ∧
    (0x4000000 < u32 (hdr 64 [(0, le 4 0x4000001)]) 0) := by
  unfold Asks Asked Fits
  decide +kernel

theorem witness_LifeCycleEnds :
    (∀ m ∈ [Mode.staged, .maintenance, .locked], ∀ o ∈ [0x8013, 0x8014], let op := BitVec.ofNat 16 o
      let c := mgmtCmd op []
      Asks (managed m c) 0 op 0 c ∧ changing (managed m c) = false ∧ (managed m c).boot.mode = m ∧ u64 c.d.params 0 = (managed m c).warden.serial.toNat ∧
      Fits (managed m c) c 0 ∧ (managed m c).warden.lc = .commissioned) ∧
    u64 (slotNo 1) 0 ≠ State.reset.warden.serial.toNat ∧
    (∀ m ∈ [Mode.diagnostic, .service], let c := mgmtCmd 0x8015 []
      Asks (managed m c) 0 0x8015 0 c ∧ (managed m c).boot.mode = m) := by
  unfold Asks Asked Fits
  decide +kernel

theorem witness_ChallengesAndUnlock :
    (∀ m ∈ quorumModes, ∀ n ∈ [3, 4], let i := hdr 64 [(0, le 2 0x8012)]
      let c := mgmtCmd 0x8090 i
      let s : State := { managed m c with alarms := { (managed m c).alarms with challenges := List.replicate n { id := 1, opcode := 0, cmdId := 0, digest := [], text := [], needVendor := false } } }
      Asks s 0 0x8090 0 c ∧ s.boot.mode ∈ quorumModes ∧ (quorumBit (u16 i 0)).isSome = true ∧ zeroAt i 2 6 = true ∧ s.alarms.challenges.length = n ∧
      Fits s c 168 ∧ s.entropy.failed = false ∧ canServe s 7 = true) ∧
    quorumBit (u16 (zeros 64) 0) = none ∧ Mode.boot ∉ quorumModes ∧
    (let i := hdr 64 [(0, le 4 2), (4, le 2 0x0110)]
     let c := mgmtCmd 0x8092 i
     let s : State := { managed .locked c with warden := { (managed .locked c).warden with lockRec := true, lockSeq := 2, lockCause := 0x0110 } }
     Asks s 0 0x8092 0 c ∧ u32 i 0 = s.warden.lockSeq.toNat ∧ u16 i 4 = s.warden.lockCause.toNat ∧ zeroAt i 6 2 = true ∧
     slice i 8 12 = s.warden.lockPm.octets ∧ zeroAt i 0x14 44 = true ∧ Fits s c 0) := by
  unfold Asks Asked Fits
  decide +kernel

/-- A challenge for IMAGE_REAPPLY. -/
def aChallenge : Challenge := { id := 1, opcode := 0x8012, cmdId := 9, digest := zeros 48, text := zeros 168, needVendor := false }

theorem witness_GrantsAreGiven :
    let i (a b : Octet) := hdr 8 [(0, le 4 1), (4, [2])] ++ hdr 104 [(0, [a])] ++ hdr 104 [(0, [b])]
    let c (a b : Octet) := mgmtCmd 0x8091 (i a b)
    let s (a b : Octet) (ap : Bool) : State :=
      let s := managed .staged (c a b)
      { s with alarms := { s.alarms with challenges := [aChallenge] }, boot := { s.boot with applied := ap, officers := hdr 400 [(0, [3]), (0x38, [0, 1])] } }
    Asks (s 0 1 true) 0 0x8091 0 (c 0 1) ∧ (s 0 1 true).boot.mode ∈ quorumModes ∧ u8 (i 0 1) 4 = 2 ∧ zeroAt (i 0 1) 5 3 = true ∧
    (∀ j, j < 2 → zeroAt (slice (i 0 1) (8 + 104 * j) 104) 1 7 = true) ∧ (i 0 1).length = 8 + 104 * 2 ∧
    (s 0 1 true).alarms.challenges.find? (fun x => x.id.toNat == u32 (i 0 1) 0) = some aChallenge ∧
    (!(s 0 1 true).boot.applied && (s 0 1 true).warden.officers.isSome) = false ∧
    (!(s 0 1 false).boot.applied && (s 0 1 false).warden.officers.isSome) = true ∧
    (let ids := (List.range 2).map (fun j => u8 (slice (i 0 1) (8 + 104 * j) 104) 0)
     ids = [0, 1] ∧ (distinct ids).length = ids.length ∧ ∀ x ∈ ids, x = 0xFF ∨ x < 3) ∧
    (aChallenge.needVendor = true → 0xFF ∈ [0, 1]) ∧ Fits (s 0 1 true) (c 0 1) 0 ∧
    (∀ x ∈ ({ s 0 1 true with alarms := { (s 0 1 true).alarms with challenges := [] } } : State).alarms.challenges, x.id.toNat ≠ 1) := by
  unfold Asks Asked Fits
  decide +kernel

theorem witness_ServicesReport : ∀ o ∈ [0x8095, 0x8081, 0x8061, 0x0A01], let op := BitVec.ofNat 16 o
    let c := mgmtCmd op []
    Asks (managed .service c) 0 op 0 c ∧ Fits (managed .service c) c 2064 ∧ (managed .service c).entropy.failed = false ∧
    canServe (managed .service c) 0 = true ∧ canServe (stamp (managed .service c) (srcCore 0)).2 0 = true := by
  unfold Asks Asked Fits
  decide +kernel

/-- FRANK_CERT fits whatever its certificate. -/
theorem witness_FrankCert : let c := mgmtCmd 0x0A02 []
    Asks (managed .service c) 0 0x0A02 0 c ∧ Fits (managed .service c) c (232 + (Config.identityCert.take 640).length) := by
  refine ⟨by unfold Asks Asked; decide +kernel, ?_⟩
  have h : (Config.identityCert.take 640).length ≤ 640 := by simp <;> omega
  have t : trailerLen (managed .service (mgmtCmd 0x0A02 [])) (mgmtCmd 0x0A02 []) = 0 := by decide +kernel
  have o : (mgmtCmd 0x0A02 []).d.outCap.toNat = 4096 := by decide
  unfold Fits
  rw [t, o]
  omega

theorem witness_TamperServices :
    (∀ m ∈ [Mode.maintenance, .service], ∀ v ∈ [0x3333, 0x8000], let c := mgmtCmd 0x8094 [] (slotNo v)
      Asks (managed m c) 0 0x8094 0 c ∧ (managed m c).boot.mode = m ∧ Fits (managed m c) c 0) ∧
    (∀ n, n < 4 → (0x3333 : BitVec 16).getLsbD (4 * n + 3) = false) ∧ ¬ (∀ n, n < 4 → (0x8000 : BitVec 16).getLsbD (4 * n + 3) = false) ∧
    (∀ n, n < 4 → 2 ≤ extClass 0x3333 n → (15 : BitVec 4).getLsbD n ≠ extHigh 0x3333 n) ∧
    ¬ (∀ n, n < 4 → 2 ≤ extClass 0x3333 n → (0 : BitVec 4).getLsbD n ≠ extHigh 0x3333 n) ∧
    (∀ m ∈ [Mode.staged, .service, .standby, .maintenance, .locked], ∀ n ∈ [0, 17, 18], let c := mgmtCmd 0x8093 [] ([BitVec.ofNat 8 n] ++ zeros 23)
      let s : State := { managed m c with alarms := { (managed m c).alarms with monitors := [(17, { armed := true })] } }
      Asks s 0 0x8093 0 c ∧ s.boot.mode = m ∧ (n ≤ 17 → monRuns s n = true) ∧ s.alarms.dryFire = none ∧ Fits s c 16) := by
  unfold Asks Asked Fits
  decide +kernel

theorem witness_UnitsAreTested :
    (∀ o : Bool, let c := mgmtCmd 0x8060 []
      let s : State := { managed .staged c with entropy := { (managed .staged c).entropy with offline := o } }
      Asks s 0 0x8060 0 c ∧ s.boot.mode = .staged ∧ Fits s c 16 ∧ s.entropy.offline = o ∧
      ~~~s.warden.retCells &&& ~~~(BitVec.allOnes 64) &&& ~~~s.entropy.quarMask = 0 ∧ s.entropy.laneFail = 0 ∧ 24 ≤ healthyCells s ∧ s.entropy.failed = false) ∧
    (∀ n ∈ [2, 9, 16], let c := mgmtCmd 0x8062 [] ([BitVec.ofNat 8 n] ++ zeros 23)
      Asks (managed .maintenance c) 0 0x8062 0 c ∧ (n ∈ condModes ∨ n = 9) ∧ zeroAt c.d.params 1 23 = true ∧ Fits (managed .maintenance c) c 0 ∧
      24 ≤ popCount 64 (~~~(managed .maintenance c).warden.retCells &&& BitVec.allOnes 64).toNat) ∧ 9 ∉ condModes ∧
    (∀ n ∈ [1, 4096], let c := mgmtCmd 0x8063 [] ([63, 0, 0, 0] ++ le 4 n ++ zeros 16)
      Asks (managed .diagnostic c) 0 0x8063 0 c ∧ u8 c.d.params 0 ≤ 63 ∧ zeroAt c.d.params 1 3 = true ∧ 1 ≤ u32 c.d.params 4 ∧
      u32 c.d.params 4 ≤ 65536 ∧ zeroAt c.d.params 8 16 = true ∧ Fits (managed .diagnostic c) c (u32 c.d.params 4)) ∧
    (∀ m ∈ [Mode.staged, .diagnostic], let c := mgmtCmd 0x8030 []
      Asks (managed m c) 0 0x8030 0 c ∧ Fits (managed m c) c 16 ∧ (managed m c).boot.laneMask &&& ~~~(managed m c).warden.retLanes &&& 0 = 0 ∧
      ((managed m c).boot.laneMask &&& ~~~(managed m c).warden.retLanes &&& 1).getLsbD 0 = true) := by
  unfold Asks Asked Fits
  refine ⟨?_, ?_, by decide, ?_, ?_⟩ <;> decide +kernel

theorem witness_PairServices :
    (∀ cop : Bool, let c := mgmtCmd 0x8080 [] ([100] ++ zeros 23)
      let s : State := { managed .service c with pair := { (managed .service c).pair with role := .active, joined := true, mirroring := true, copying := cop } }
      Asks s 0 0x8080 0 c ∧ zeroAt c.d.params 1 23 = true ∧ u8 c.d.params 0 ≤ 100 ∧ leads s = true ∧ s.pair.mirroring = true ∧ s.pair.copying = cop ∧
      s.pair.swap = none ∧ modeBusy s = false ∧ Fits s c 0) ∧ leads (managed .service (mgmtCmd 0x8080 [])) = false ∧ ¬ u8 ([101] ++ zeros 23) 0 ≤ 100 ∧
    (∀ f : Bool, let c := mgmtCmd 0x8082 []
      let s : State := { managed .standby c with pair := { (managed .standby c).pair with role := .detached }, entropy := { (managed .standby c).entropy with failed := f } }
      Asks s 0 0x8082 0 c ∧ s.boot.mode = .standby ∧ s.pair.role = .detached ∧ s.entropy.failed = f ∧ (f = false → canServe s 6 = true) ∧ Fits s c 0) := by
  unfold Asks Asked Fits
  decide +kernel

/-! ### The domain-root ceremony (chapter 09) -/

theorem ceremony_asks (op : Code) (i : Octets) (h : Asks (managed .maintenance (mgmtCmd op i)) 0 op 0 (mgmtCmd op i)) :
    CeremonyAsks (managed .maintenance (mgmtCmd op i)) 0 op 0 (mgmtCmd op i) (managed .maintenance (mgmtCmd op i))
      { mgmtCmd op i with journalled := true } := ⟨h, rfl, mgmtCmd op i, granted_self _ _ rfl, rfl⟩

theorem witness_CeremoniesAsk : ∀ o ∈ [0x8050, 0x8051, 0x8052, 0x8053, 0x8054],
    let op := BitVec.ofNat 16 o
    Asks (managed .maintenance (mgmtCmd op (zeros 64))) 0 op 0 (mgmtCmd op (zeros 64)) := by
  unfold Asks Asked
  decide +kernel

theorem witness_CeremoniesBegin :
    let i (d : Nat) (a : Octet) (m n : Nat) := hdr 64 [(0, [BitVec.ofNat 8 d, a, BitVec.ofNat 8 m, BitVec.ofNat 8 n])]
    let s (x : Octets) := managed .maintenance (mgmtCmd 0x8050 x)
    (∀ x ∈ [i 3 1 2 3, i 15 2 3 3, i 2 1 2 3, i 3 1 1 3], u8 x 0 < 16 ∧ (u8 x 1 = 1 ∨ u8 x 1 = 2) ∧ u8 x 4 < 2 ∧ zeroAt x 5 3 = true ∧ zeroAt x 8 8 = true) ∧
    ¬ (u8 (i 16 1 2 3) 0 < 16) ∧ drInstalled (s (i 2 1 2 3)) 2 = true ∧ drInstalled (s (i 3 1 2 3)) 3 = false ∧
    (2 ≤ u8 (i 3 1 2 3) 2 ∧ u8 (i 3 1 2 3) 2 ≤ u8 (i 3 1 2 3) 3 ∧ u8 (i 3 1 2 3) 3 ≤ 16 ∧ u8 (i 3 1 2 3) 3 ≤ ((s (i 3 1 2 3)).warden.officers.map (fun x => x.2.2)).getD 0 ∧
      u8 (i 3 1 2 3) 4 = 0) ∧ ¬ 2 ≤ u8 (i 3 1 1 3) 2 ∧ (s (i 3 1 2 3)).keys.ceremony = none ∧ Fits (s (i 3 1 2 3)) (mgmtCmd 0x8050 (i 3 1 2 3)) 224 ∧
    (s (i 3 1 2 3)).entropy.failed = false ∧ canServe (s (i 3 1 2 3)) 6 = true ∧ canServe (s (i 3 1 2 3)) 0 = true := by
  unfold Fits
  decide +kernel

/-- Ceremonies that generate three shares, or load. -/
def aCeremony (load : Bool) (shares : List (Nat × Octets × Octets)) (out : List Nat) : Ceremony :=
  { id := zeros 16, index := 3, isLoad := load, m := 2, n := 3, shares := shares, exported := out }

theorem witness_Ceremonies :
    let gen := aCeremony false [(1, zeros 32, zeros 8), (2, zeros 32, zeros 8), (3, zeros 32, zeros 8)] [1, 2]
    let s (op : Code) (i : Octets) (y : Option Ceremony) := withCeremony (managed .maintenance (mgmtCmd op i)) y
    (s 0x8051 (zeros 201) none).keys.ceremony = none ∧ (s 0x8051 (zeros 201) (some gen)).keys.ceremony = some gen ∧
    zeroAt (zeros 201) 1 7 = true ∧ gen.isLoad = false ∧ u8 (zeros 201) 0 < gen.n ∧ u8 (zeros 201) 0 + 1 ∈ gen.exported ∧
    u8 (hdr 201 [(0, [2])]) 0 + 1 ∉ gen.exported ∧ gen.shares.find? (fun x => x.1 == 2 + 1) = some (3, zeros 32, zeros 8) ∧
    u8 (hdr 400 [(0, [3])]) 0 = 3 ∧ gen.exported.length ≠ gen.n ∧ (aCeremony false gen.shares [1, 2, 3]).exported.length = gen.n ∧
    (aCeremony true [] []).isLoad = true ∧ ¬ (aCeremony true [] []).m ≤ (aCeremony true [] []).shares.length ∧
    (aCeremony true gen.shares []).m ≤ (aCeremony true gen.shares []).shares.length ∧
    (let t := managed .maintenance (mgmtCmd 0x8054 [2])
     (∃ x ∈ t.slots.table, x.2.f.domain.toNat = u8 [2] 0) ∧ (∀ x ∈ t.slots.table, x.2.f.domain.toNat ≠ u8 [0] 0) ∧ 16 ≤ u8 [16] 0) ∧
    Fits (managed .maintenance (mgmtCmd 0x8054 [0])) (mgmtCmd 0x8054 [0]) 0 := by
  unfold Fits
  decide +kernel

/-! ### Register writes -/

theorem witness_Writes :
    fnReachable State.reset pf0A = false ∧ (2 : BitVec 16).toNat % 4 ≠ 0 ∧ (4 : BitVec 16).toNat % 8 ≠ 0 ∧
    (let t := managed .service (mgmtCmd 3 [])
     globalPh t ⟨false, 2⟩ 4 = none ∧ globalPh t ⟨false, 2⟩ 63 = none ∧ globalPh t ⟨false, 2⟩ 3 = some 67) ∧
    ((withPh readyPh).port false).linkUp = true ∧ AtPh (withPh { enable := true }) pf0A 0 0 ∧ ((withPh { draining := true }).ph 0).draining = true ∧
    ((withPh {}).ph 0).enable = false ∧ ((withPh {}).ph 0).draining = false ∧ (39 : BitVec 6).toNat < 40 := by
  unfold AtPh
  decide

/-! ### All services -/

theorem witness_ServicesNeedTheirCommand : serviceOf (.nop 0) = some (0, 0x0003) ∧ ∀ e c, ¬ Asked State.reset 0 0x0003 e c := by
  refine ⟨rfl, fun e c h => ?_⟩
  have : running State.reset 0 = none := by decide
  rw [h.1] at this
  exact absurd this (by simp)

theorem witness_LengthsAreChecked : serviceOf (.macGenerate 0) = some (0, 0x0501) ∧
    Asks (service 0x0501 (zeros 63) []) 0 0x0501 0 (tenantCmd 0x0501 (zeros 63)) ∧
    lengthOf (tenantCmd 0x0501 (zeros 63)).input (.macGenerate 0) = some 144 ∧ (tenantCmd 0x0501 (zeros 63)).input.length ≠ 144 := by
  unfold Asks Asked
  decide +kernel

/-! ### Worked examples of the manual, and single steps -/

/-- The next state of a command. -/
def after (i : Instr) (s : State) : State :=
  match exec i s with
  | .next t => t
  | _ => State.reset

/-- Lazy carries (chapter 11): ADD g3, g3, g2, then NORM g4, g3, and NORM g5, g6 with NC 2. -/
theorem test_lazy_carries :
    ((after (.addInsn 0 3 3 2) (withRegs [(2, 0xFFFFFFFF), (3, 0x1FFFFFFFE)])).core 0).reg 3 = 0x2FFFFFFFD ∧
    ((after (.norm 0 4 3) (withRegs [(3, 0x2FFFFFFFD)])).core 0).reg 4 = 0xFFFFFFFD ∧
    ((after (.norm 0 4 3) (withRegs [(3, 0x2FFFFFFFD)])).core 0).st.toNat = 4 ∧
    ((after (.norm 0 5 6) (onCore { plainCore with regs := [(6, 5)], st := 4 } (aCmd 3 []))).core 0).reg 5 = 7 := by decide +kernel

/-- The load-delay slot (chapter 11): ADD g4, g3, g2 in the slot reads the old g3, and ADD g5, g3, g2 after it the new one. -/
theorem test_load_delay :
    let c : Core := { plainCore with regs := [(2, 0x10), (3, 7), (9, 0x10040)], dsram := [(0x42, 0x100)] }
    let t := after (.ld 0 3 9 2) (onCore c (aCmd 3 []))
    let u := after (.addInsn 0 4 3 2) t
    (u.core 0).reg 4 = 0x17 ∧ ((after (.addInsn 0 5 3 2) u).core 0).reg 5 = 0x110 := by decide +kernel

/-- The format-4 translate of chapter 05: F, P_in and P_out. -/
theorem test_format_4 :
    panField 4 [6, 3, 9, 0, 1, 7, 4, 2, 5, 8, 1, 6, 0, 3, 9, 4] =
      [0x46, 0x39, 0x01, 0x74, 0x25, 0x81, 0x60, 0x39, 0x40, 0, 0, 0, 0, 0, 0, 0] ∧
    pinOf 4 4 12 [0x44, 0x73, 0x05, 0xAA, 0xAA, 0xAA, 0xAA, 0xAA, 0x3C, 0x91, 0xE0, 0x57, 0xB2, 0x6D, 0x08, 0xF4] = some [7, 3, 0, 5] ∧
    pinField 4 [7, 3, 0, 5] [0x9E, 0x03, 0x5A, 0xC7, 0x21, 0xF8, 0x6B, 0x44] =
      [0x44, 0x73, 0x05, 0xAA, 0xAA, 0xAA, 0xAA, 0xAA, 0x9E, 0x03, 0x5A, 0xC7, 0x21, 0xF8, 0x6B, 0x44] := by decide +kernel

/-- The decimal nibbles of chapter 05's CVC, and Y of chapter 06's ARQC. -/
theorem test_card_digits :
    decimalise [0xA4, 0xE7, 0x0B, 0x92, 0xFC, 0x38, 0x15, 0xD6] = [4, 7, 0, 9, 2, 3, 8, 1, 5, 6, 0, 4, 1, 5, 2, 3] ∧
    emvY [6, 3, 9, 0, 1, 7, 4, 2, 5, 8, 1, 6, 0, 3, 9, 4] 0x01 = [0x90, 0x17, 0x42, 0x58, 0x16, 0x03, 0x94, 0x01] := by decide +kernel

/-- The KSN counter 0x0000_01F3 of chapter 06 is permitted; a counter with eleven bits set is not. -/
theorem test_ksn : ksnOk true false [0x9C, 0x0E, 0x51, 0xA4, 0x7B, 0x23, 0x60, 0xD8, 0, 0, 0x01, 0xF3] = true ∧
    ksnOk false false [0, 0, 0, 0, 0, 0, 0, 0, 0x07, 0xFF, 0, 0] = false := by decide +kernel

/-- One root octet of chapter 09, M = 2, N = 3: root 0x5A, coefficient 0xC3. -/
theorem test_shares :
    u8 (shareValue [0x5A] [0xC3] 2 1) 0 = 0x99 ∧ u8 (shareValue [0x5A] [0xC3] 2 2) 0 = 0xC7 ∧ u8 (shareValue [0x5A] [0xC3] 2 3) 0 = 0x04 ∧
    gfWeight [1, 3] 1 = 0x8C ∧ gfWeight [1, 3] 3 = 0x8D ∧ u8 (combineShares [(1, [0x99]), (3, [0x04])]) 0 = 0x5A := by decide +kernel

/-- The label of chapter 09: class, usage, algorithm, mode and root generation 1; RGEN_MIN above it refuses the key. -/
theorem test_label :
    (labelKey ([0x01, 0x05, 0x20, 0x01, 0x01, 0x50, 0x30, 0x05, 0, 0, 0, 3, 0x42, 0x4E, 0, 0] ++ zeros 48)).map
      (fun k => (k.cls, k.usage, k.alg, k.mode, k.exp, k.rgen)) = some (1, ascii "P0", 5, 0x42, 0x4E, 1) := by decide +kernel

/-- The ring set-up of chapter 03: RING_CFG 0x0001_0206 and COALESCE 0x0000_1408 of pigeonhole 2 of slot 5. -/
theorem test_ring_setup :
    let s : State := { State.reset with
      portA := { linkUp := true, vfEnable := true, numVfs := 8 },
      slots := { State.reset.slots with table := [(5, { f := { phBase := 64, phCount := 8 } })] } }
    let t := after (wordWrite ⟨false, 6⟩ 0x0850 0x10206) s
    ((t.ph 66).enable, (t.ph 66).depthLog2, (t.ph 66).vector, (t.ph 66).state, (t.ph 66).phase) = (true, 6, 2, .ready, true) ∧
    (let u := after (wordWrite ⟨false, 6⟩ 0x0854 0x1408) s
     ((u.ph 66).count, (u.ph 66).timeUs) = (8, 20)) := by decide +kernel

/-- The OPEN of chapter 03: version 3 of OFFERED 0x0E and CMDSET_MASK 0x0C, and the sixteen output octets. -/
theorem test_open :
    let c : Cmd := { tenantCmd 1 [] 16 with slot := 5, ph := 66, idx := 2, fn := { vf := 6 }, d := { opcode := 1, outCap := 16, cmdId := 1, params := [0x0E, 0, 3] ++ zeros 21 } }
    let x := onCore plainCore c
    let s : State := { x with
      boot := { x.boot with fwBuild := 0x00012A07, policy := [1] ++ zeros 71 },
      slots := { x.slots with table := [(5, { f := { phBase := 64, phCount := 8, maxPrio := 2 } })] },
      so := { x.so with phs := [(66, readyPh)] } }
    ((after (.openCh 0) s).cmd 0).map (fun c => (c.status, c.output)) =
      some (0, [3, 0, 3, 2, 2, 0, 5, 0, 7, 0x2A, 1, 0, 0, 0, 0, 0]) := by decide +kernel

/-! ### Primitives: the examples of the standards, and of ANSI X9.24-3 and X9.24-1 -/

/-- FIPS 197, appendix C.1. -/
theorem test_aes : aesEnc (be 16 0x000102030405060708090A0B0C0D0E0F) (be 16 0x00112233445566778899AABBCCDDEEFF) =
    be 16 0x69C4E0D86A7B0430D8CDB78070B4C55A := by decide +kernel
/-- FIPS 197, appendix C.3, deciphering. -/
theorem test_aes_dec :
    aesDec (be 32 0x000102030405060708090A0B0C0D0E0F101112131415161718191A1B1C1D1E1F) (be 16 0x8EA2B7CA516745BFEAFC49904B496089) =
    be 16 0x00112233445566778899AABBCCDDEEFF := by decide +kernel
/-- The worked DES example in common use. -/
theorem test_des : desEnc (be 8 0x133457799BBCDFF1) (be 8 0x0123456789ABCDEF) = be 8 0x85E813540F0AB405 := by decide +kernel
/-- FIPS 180-4, the digest of "abc". -/
theorem test_sha256 : sha 32 (ascii "abc") = be 32 0xBA7816BF8F01CFEA414140DE5DAE2223B00361A396177A9CB410FF61F20015AD := by
  decide +kernel
theorem test_sha384 : sha 48 (ascii "abc") =
    be 48 0xCB00753F45A35E8BB5A03D699AC65007272C32AB0EDED1631A8B605A43FF5BED8086072BA1E7CC2358BAECA134C825A7 := by
  decide +kernel
/-- The base points of boot ROM lie on their curves (R247). -/
theorem test_rom_curves : (List.range 6).all (fun i =>
    match curveEntry State.reset i with | some c => onCurve c c.gx c.gy | none => false) = true := by decide +kernel
/-- AES DUKPT: BDK FEDC…F1F1, KSN 1234567890123456 00000001 (the test data of X9.24-3). -/
theorem test_aes_dukpt :
    aesWorking 3 (aesIk { alg := 3, bytes := be 16 0xFEDCBA9876543210F1F1F1F1F1F1F1F1 } (be 12 0x123456789012345600000001))
      (be 12 0x123456789012345600000001) 3 0 0 = be 16 0xAF8CB133A78F8DC2D1359F18527593FB := by decide +kernel
/-- TDEA DUKPT: initial key of BDK 0123…3210, KSN FFFF9876543210E00001 (the test data of X9.24-1). -/
theorem test_tdea_dukpt : tdesIk (be 16 0x0123456789ABCDEFFEDCBA9876543210) (be 10 0xFFFF9876543210E00001) =
    be 16 0x6AC292FAA1315B4D858AB3A3D7D5933A := by decide +kernel

/-- A step takes the front command, and idles on an empty queue but for the ticks of its clocks (log entries 1, 4). -/
theorem test_step_takes_the_front :
    (match step { State.reset with pending := [.nop 0, .abort] } with | .next t => decide (t.pending = [.abort]) | _ => false) = true ∧
    (match step State.reset with | .next t => decide (t.pending = []) | _ => false) = true := by decide +kernel

end Sys2Proof.Tests
end

section
/-! Doorbells of a pigeonhole: what a value does that acts (R80, R81), and which doorbell acts, is recorded or is
ignored in each state (R608). -/

namespace Sys2Proof.Machine

/-- The states of R608 in which both doorbells act with their checks. -/
def Ph.takesBells (p : Ph) : Prop := p.state = .ready ∨ p.state = .opened ∨ p.state = .closing

/-! ### A value that acts -/

theorem actTail_beyond_ring (s : State) (n : Nat) {p : Ph} {v : Nat} (hv : p.depth ≤ v) :
    actTail s n p v = s.setPh n (p.fail badField) := if_pos hv

theorem actTail_overrun (s : State) (n : Nat) {p : Ph} {v : Nat} (hv : v < p.depth)
    (hc : (v + p.depth - p.sqHead) % p.depth < (p.sqTail + p.depth - p.sqHead) % p.depth) :
    actTail s n p v = s.setPh n (p.fail badLength) :=
  (if_neg (Nat.not_le.mpr hv)).trans (if_pos hc)

theorem actTail_moves (s : State) (n : Nat) {p : Ph} {v : Nat} (hv : v < p.depth)
    (hc : (p.sqTail + p.depth - p.sqHead) % p.depth ≤ (v + p.depth - p.sqHead) % p.depth) :
    actTail s n p v = s.setPh n { p with sqTail := v } :=
  (if_neg (Nat.not_le.mpr hv)).trans (if_neg (Nat.not_lt.mpr hc))

theorem actHead_beyond_ring (s : State) (n : Nat) {p : Ph} {v : Nat} (hv : p.depth ≤ v) :
    actHead s n p v = s.setPh n (p.fail badField) := if_pos hv

theorem actHead_moves (s : State) (n : Nat) {p : Ph} {v : Nat} (hv : v < p.depth) :
    actHead s n p v = s.setPh n { p with cqHead := v } := if_neg (Nat.not_le.mpr hv)

/-! ### The state of the pigeonhole -/

theorem exec_sqTail (s : State) (fn : Fn) (ph : BitVec 6) (v : BitVec 16) :
    exec (.sqTail fn ph v) s = execSqTail fn ph v s := rfl

theorem exec_cqHead (s : State) (fn : Fn) (ph : BitVec 6) (v : BitVec 16) :
    exec (.cqHead fn ph v) s = execCqHead fn ph v s := rfl

section
variable {s : State} {fn : Fn} {ph : BitVec 6} {n : Nat} (v : BitVec 16)

theorem onPh_of_atPh {i : Nat} (hat : AtPh s fn i n) (f : Nat → Ph → State) : onPh s fn i f = f n (s.ph n) := by
  obtain ⟨hreach, hglobal⟩ := hat
  simp [onPh, hreach, hglobal]

theorem exec_sqTail_acts (hat : AtPh s fn ph.toNat n) (hslot : slotStateOf s (slotOfFn fn) ≠ .destroying)
    (hdrain : (s.ph n).draining = false) (hacts : (s.ph n).takesBells) :
    exec (.sqTail fn ph v) s = answer (actTail s n (s.ph n) v.toNat) := by
  rcases hacts with hst | hst | hst <;> simp [exec_sqTail, execSqTail, onPh_of_atPh hat, hslot, hdrain, hst]

theorem exec_sqTail_quiesced (hat : AtPh s fn ph.toNat n) (hslot : slotStateOf s (slotOfFn fn) ≠ .destroying)
    (hdrain : (s.ph n).draining = false) (hst : (s.ph n).state = .quiesced) :
    PhBecomes (.sqTail fn ph v) s n { s.ph n with recTail := some v.toNat } := by
  simp [PhBecomes, exec_sqTail, execSqTail, onPh_of_atPh hat, hslot, hdrain, hst]

theorem exec_sqTail_ignored (hat : AtPh s fn ph.toNat n)
    (hst : (s.ph n).state = .disabled ∨ (s.ph n).state = .error ∨ (s.ph n).draining = true) :
    exec (.sqTail fn ph v) s = answer s := by
  rcases hst with hst | hst | hst <;> simp [exec_sqTail, execSqTail, onPh_of_atPh hat, hst]

theorem exec_cqHead_acts (hat : AtPh s fn ph.toNat n) (hslot : slotStateOf s (slotOfFn fn) ≠ .destroying)
    (hdrain : (s.ph n).draining = false) (hacts : (s.ph n).takesBells) :
    exec (.cqHead fn ph v) s = answer (actHead s n (s.ph n) v.toNat) := by
  rcases hacts with hst | hst | hst <;> simp [exec_cqHead, execCqHead, onPh_of_atPh hat, hslot, hdrain, hst]

theorem exec_cqHead_quiesced (hat : AtPh s fn ph.toNat n) (hslot : slotStateOf s (slotOfFn fn) ≠ .destroying)
    (hdrain : (s.ph n).draining = false) (hst : (s.ph n).state = .quiesced) :
    PhBecomes (.cqHead fn ph v) s n { s.ph n with recHead := some v.toNat } := by
  simp [PhBecomes, exec_cqHead, execCqHead, onPh_of_atPh hat, hslot, hdrain, hst]

theorem exec_cqHead_disabled (hat : AtPh s fn ph.toNat n) (hslot : slotStateOf s (slotOfFn fn) ≠ .destroying)
    (hdrain : (s.ph n).draining = false) (hst : (s.ph n).state = .disabled) :
    exec (.cqHead fn ph v) s = answer s := by
  simp [exec_cqHead, execCqHead, onPh_of_atPh hat, hslot, hdrain, hst]

/-- In ERROR and during a drain CQ_HEAD still frees completion space, and a value beyond the ring is dropped (R608). -/
theorem exec_cqHead_error_or_draining (hat : AtPh s fn ph.toNat n)
    (hst : (s.ph n).state = .error ∨ (s.ph n).draining = true) :
    exec (.cqHead fn ph v) s =
      answer (if v.toNat < (s.ph n).depth then s.setPh n { s.ph n with cqHead := v.toNat } else s) := by
  rcases hst with hst | hst <;> simp [exec_cqHead, execCqHead, onPh_of_atPh hat, hst]

end

/-- Settles O20: R608's table row by row, with the checks of R80 and R81 on the values that act. -/
theorem doorbellsAct : Obligations.DoorbellsAct := by
  intro s fn ph v n p tail head depth count acts errs hat hslot
  refine ⟨fun hacts hdrain => ?acting, fun hst hdrain => ?quiesced, ?tailIgnored, ?disabled, fun hst => ?freeing⟩
  case acting =>
    have htail : exec tail s = answer (actTail s n p v.toNat) := exec_sqTail_acts v hat hslot hdrain hacts
    have hhead : exec head s = answer (actHead s n p v.toNat) := exec_cqHead_acts v hat hslot hdrain hacts
    refine ⟨fun hv => ⟨?_, ?_⟩, fun hv hc => ?_, fun hv hc => ?_, fun hv => ?_⟩
    · exact htail.trans (congrArg answer (actTail_beyond_ring s n hv))
    · exact hhead.trans (congrArg answer (actHead_beyond_ring s n hv))
    · exact htail.trans (congrArg answer (actTail_overrun s n hv hc))
    · exact htail.trans (congrArg answer (actTail_moves s n hv hc))
    · exact hhead.trans (congrArg answer (actHead_moves s n hv))
  case quiesced =>
    exact ⟨exec_sqTail_quiesced v hat hslot hdrain hst, exec_cqHead_quiesced v hat hslot hdrain hst⟩
  case tailIgnored => exact exec_sqTail_ignored v hat
  case disabled => exact fun hst hdrain => exec_cqHead_disabled v hat hslot hdrain hst
  case freeing =>
    have hhead := exec_cqHead_error_or_draining v hat hst
    exact ⟨fun hv => hhead.trans (congrArg answer (if_pos hv)),
      fun hv => hhead.trans (congrArg answer (if_neg (Nat.not_lt.mpr hv)))⟩

end Sys2Proof.Machine
end

section
/-! RFE (R386): what the core is after it, where control goes, and how it ends the command; with MOVT to ev before it. -/

namespace Sys2Proof.Machine

/-! ### One instruction, up to its settling -/

/-- An instruction that completes without a far access or a repeat settles at once. -/
theorem runInsn_completes {s : State} {k n : Nat} {f : Core → Act} (d : Did) (hcmd : (s.core k).cmd.isSome = true)
    (hfar : (s.core k).far = none) (hsp : (s.core k).fetched n = true) (hf : f (s.core k) = .did d)
    (hdfar : d.far = none) (hdrep : d.rep = none) :
    runInsn s k n f = settle s k { (s.core k).apply d with resume := false } n d.target := by
  have hready : (s.core k).ready = true := by simp [Core.ready, hcmd, hfar]
  simp only [runInsn, hready, hsp, if_true, hf, conclude, hdfar, hdrep]

/-- An instruction that raises a terminal event ends the command where the core stands (R385). -/
theorem runInsn_terminal {s : State} {k n : Nat} {f : Core → Act} {cause : Nat} (hcmd : (s.core k).cmd.isSome = true)
    (hfar : (s.core k).far = none) (hsp : (s.core k).fetched n = true) (hf : f (s.core k) = .terminal cause) :
    runInsn s k n f = programFaultAt s k cause := by
  have hready : (s.core k).ready = true := by simp [Core.ready, hcmd, hfar]
  simp only [runInsn, hready, hsp, if_true, hf, conclude]

/-- Outside a repeat, control that reaches an address outside the fetch rights ends the command by EXEC_BOUND (R383). -/
theorem settle_unfetchable (s : State) (k : Nat) (c : Core) (len : Nat) (target : Option (BitVec 25))
    (hrep : c.rep = none) (hf : fetchable c (target.getD (halfAdd c.pc len)) = false) :
    settle s k c len target =
      programFaultAt (s.setCore k { c with pc := target.getD (halfAdd c.pc len) }) k evExecBound := by
  simp only [settle, hrep, hf, Bool.not_false, if_true]

/-- The effects of an instruction leave the fetch rights as they were. -/
theorem fetchable_apply (c : Core) (d : Did) (t : BitVec 25) :
    fetchable { c.apply d with resume := false } t = fetchable c t := by
  rw [Core.apply_eq]; exact fetchable_congr _ _ _ rfl rfl rfl rfl

/-- A command that changes the cores alone keeps every other part. -/
theorem only_cores (s : State) (cores : Tab Core) : Only [.cores] s (drivePins { s with cores := cores }) := by
  refine ⟨fun p hp => ?_, rfl⟩
  cases p
  case pins | cores => simp at hp
  all_goals rfl

/-! ### A terminal event leaves no command on its core (R385, R393) -/

theorem stampCompletion_cores (s : State) (c : Cmd) : (stampCompletion s c).2.cores = s.cores := rfl

theorem setCmd_cores (s : State) (e : Nat) (c : Cmd) : (s.setCmd e c).cores = s.cores := rfl

theorem journalService_cores (s : State) (e : Nat) (c : Cmd) : (journalService s e c).cores = s.cores := by
  unfold journalService
  split
  · simp only [journal_cores, setCmd_cores, stampCompletion_cores]
  · rfl

/-- PROGRAM_FAULT is neither franked nor committed, so its hand-off reaches no core. -/
theorem completeWith_programFault_cores (s : State) (e : Nat) : (completeWith s e programFault).cores = s.cores := by
  unfold completeWith
  split
  · rfl
  · rename_i c hc
    have hcmd (x : Cmd) : (s.setCmd e x).cmd e = some x := lookup_insertAt_same _ _ _
    have hfrank : frankable programFault = false := rfl
    have hok : (programFault == stOk) = false := rfl
    simp [handOff, hcmd, franks, commits, hfrank, hok, journalService_cores]

theorem endTurn_core_cmd (s : State) (k : Nat) : ((endTurn s k).core k).cmd = none := by
  unfold endTurn
  have h (t : State) : (eraseCoreKeys (t.setCore k (t.core k).ended) k).core k = (t.core k).ended := by
    show (t.setCore k _).core k = _
    exact State.core_setCore ..
  simp only [h]; rfl

theorem programFaultAt_core_cmd (s : State) (k cause : Nat) : ((programFaultAt s k cause).core k).cmd = none := by
  unfold programFaultAt
  split
  · assumption
  · simp only [State.core, completeWith_programFault_cores]
    exact endTurn_core_cmd _ k

/-! ### The fields of ev (R358) -/

theorem evEpc_eq (ev : W36) : evEpc ev = BitVec.ofNat 25 (ev.toNat / 2 ^ 11) := by
  simp [evEpc, BitVec.extractLsb', Nat.shiftRight_eq_div_pow]

theorem evAct_clearAct (ev : W36) : evAct (ev &&& ~~~(0x80 : W36)) = false := by
  simp [evAct]

/-- ev after MOVT: CAUSE and EPC are v's; RPT, ACT, SLOT and the reserved bits between keep their values. -/
def movtEv (v ev : W36) : W36 := (v &&& 0xFFFFFF83F) ||| (ev &&& 0x7C0)

theorem evEpc_movtEv (v ev : W36) : evEpc (movtEv v ev) = evEpc v := by
  have hv : evEpc 0xFFFFFF83F = BitVec.allOnes 25 := by decide
  have hev : evEpc 0x7C0 = 0 := by decide
  unfold evEpc at *
  rw [movtEv, BitVec.extractLsb'_or, BitVec.extractLsb'_and, BitVec.extractLsb'_and, hv, hev]
  simp only [BitVec.and_allOnes, BitVec.and_zero, BitVec.or_zero, BitVec.ofNat_eq_ofNat]

theorem movtEv_cause (v ev : W36) : (movtEv v ev).toNat % 64 = v.toNat % 64 := by
  have hlow : (movtEv v ev).setWidth 6 = v.setWidth 6 := by
    have hv : (0xFFFFFF83F : W36).setWidth 6 = BitVec.allOnes 6 := by decide
    have hev : (0x7C0 : W36).setWidth 6 = 0 := by decide
    rw [movtEv, BitVec.setWidth_or, BitVec.setWidth_and, BitVec.setWidth_and, hv, hev]
    simp only [BitVec.and_allOnes, BitVec.and_zero, BitVec.or_zero, BitVec.ofNat_eq_ofNat]
  simpa using congrArg BitVec.toNat hlow

theorem evAct_movtEv (v ev : W36) : evAct (movtEv v ev) = evAct ev := by
  simp [evAct, movtEv]

/-! ### RFE (R386) -/

/-- What RFE does while ACT is set. -/
def rfeDid (c : Core) : Did := { ev := some (c.ev &&& ~~~(0x80 : W36)), target := some (evEpc c.ev), clocks := 2 }

/-- RFE on its core. -/
def rfeAct (c : Core) : Act := if evAct c.ev then .did (rfeDid c) else .terminal evIllegal

theorem rfeAct_active {c : Core} (h : evAct c.ev = true) : rfeAct c = .did (rfeDid c) := if_pos h

theorem rfeAct_idle {c : Core} (h : evAct c.ev = false) : rfeAct c = .terminal evIllegal := by simp [rfeAct, h]

/-- The core after RFE, before control reaches EPC. -/
def Core.returned (c : Core) : Core := { c.apply (rfeDid c) with resume := false }

theorem Core.returned_cmd (c : Core) : c.returned.cmd = c.cmd := by rw [returned, Core.apply_eq]

theorem Core.returned_rep (c : Core) : c.returned.rep = c.rep := by rw [returned, Core.apply_eq]

theorem Core.returned_wmuPending (c : Core) : c.returned.wmuPending = c.wmuPending := by
  rw [returned, Core.apply_eq]; simp [rfeDid]

theorem Core.returned_act (c : Core) : evAct c.returned.ev = false := by
  rw [returned, Core.apply_eq]; exact evAct_clearAct c.ev

theorem Core.fetchable_returned (c : Core) (t : BitVec 25) : fetchable c.returned t = fetchable c t :=
  fetchable_apply ..

/-- The core once control has reached EPC. -/
def Core.atEpc (c : Core) : Core := c.returned.arrive (evEpc c.ev)

theorem Core.atEpc_cmd (c : Core) : c.atEpc.cmd = c.cmd := by rw [atEpc, arrive_eq]; exact c.returned_cmd

theorem Core.atEpc_pc (c : Core) : c.atEpc.pc = evEpc c.ev := by rw [atEpc, arrive_eq]

theorem Core.atEpc_act (c : Core) : evAct c.atEpc.ev = false := by rw [atEpc, arrive_eq]; exact c.returned_act

/-- The note that RFE leaves for a REPI in t, when ev.RPT was set in s (R381). -/
def noteResume (s t : State) (k : Nat) : State :=
  if (t.core k).cmd.isSome && (s.core k).cmd.isSome && (s.core k).far.isNone && evAct (s.core k).ev &&
      evRpt (s.core k).ev && !evAct (t.core k).ev then
    t.setCore k { t.core k with resume := true }
  else t

theorem exec_rfe (s : State) (k : CoreId) :
    exec (.rfe k) s = answer (noteResume s (runInsn s k.toNat 1 rfeAct) k.toNat) := rfl

theorem noteResume_of_not_act {s : State} (t : State) {k : Nat} (h : evAct (s.core k).ev = false) :
    noteResume s t k = t := by simp [noteResume, h]

theorem noteResume_of_not_rpt {s : State} (t : State) {k : Nat} (h : evRpt (s.core k).ev = false) :
    noteResume s t k = t := by simp [noteResume, h]

theorem noteResume_of_ended (s : State) {t : State} {k : Nat} (h : (t.core k).cmd = none) :
    noteResume s t k = t := by simp [noteResume, h]

theorem noteResume_of_rpt {s : State} {k : Nat} {d : Core} (hcmd : (s.core k).cmd.isSome = true)
    (hfar : (s.core k).far = none) (hact : evAct (s.core k).ev = true) (hrpt : evRpt (s.core k).ev = true)
    (hdcmd : d.cmd.isSome = true) (hdact : evAct d.ev = false) :
    noteResume s (s.setCore k d) k = (s.setCore k d).setCore k { d with resume := true } := by
  simp [noteResume, hcmd, hfar, hact, hrpt, hdcmd, hdact]

section
variable {s : State} {k : CoreId}

/-- RFE with ACT 0 is ILLEGAL (R383). -/
theorem exec_rfe_idle (hcmd : (s.core k.toNat).cmd.isSome = true) (hfar : (s.core k.toNat).far = none)
    (hact : evAct (s.core k.toNat).ev = false) : exec (.rfe k) s = answer (programFaultAt s k.toNat evIllegal) := by
  rw [exec_rfe, noteResume_of_not_act _ hact, runInsn_terminal hcmd hfar rfl (rfeAct_idle hact)]

/-- RFE with ACT set settles at EPC. -/
theorem runInsn_rfeAct {k : Nat} (hcmd : (s.core k).cmd.isSome = true) (hfar : (s.core k).far = none)
    (hact : evAct (s.core k).ev = true) :
    runInsn s k 1 rfeAct = settle s k (s.core k).returned 1 (some (evEpc (s.core k).ev)) :=
  runInsn_completes (rfeDid _) hcmd hfar rfl (rfeAct_active hact) rfl rfl

/-- An EPC outside the fetch rights ends the command there, whatever RPT says. -/
theorem exec_rfe_unfetchable (hcmd : (s.core k.toNat).cmd.isSome = true) (hfar : (s.core k.toNat).far = none)
    (hrep : (s.core k.toNat).rep = none) (hact : evAct (s.core k.toNat).ev = true)
    (hf : fetchable (s.core k.toNat) (evEpc (s.core k.toNat).ev) = false) :
    exec (.rfe k) s = answer (programFaultAt
      (s.setCore k.toNat { (s.core k.toNat).returned with pc := evEpc (s.core k.toNat).ev }) k.toNat evExecBound) := by
  rw [exec_rfe, runInsn_rfeAct hcmd hfar hact,
    settle_unfetchable _ _ _ _ (some (evEpc (s.core k.toNat).ev)) ((Core.returned_rep _).trans hrep)
      ((Core.fetchable_returned _ _).trans hf),
    noteResume_of_ended _ (programFaultAt_core_cmd ..), Option.getD_some]

/-- With RPT 0, RFE retires at EPC with ACT clear. -/
theorem retires_rfe (hg : Going s k.toNat (evEpc (s.core k.toNat).ev)) (hwmu : (s.core k.toNat).wmuPending = false)
    (hact : evAct (s.core k.toNat).ev = true) (hrpt : evRpt (s.core k.toNat).ev = false) :
    Retires (.rfe k) s k.toNat
      { ev := some ((s.core k.toNat).ev &&& ~~~(0x80 : W36)), next := evEpc (s.core k.toNat).ev, clocks := 2 } :=
  have hex := (exec_rfe s k).trans (congrArg answer (noteResume_of_not_rpt _ hrpt))
  retires_of_insn (rfeDid (s.core k.toNat)) hex (rfeAct_active hact) rfl rfl hg rfl
    (Nat.zero_le 1) (Nat.zero_le 1) (.inl rfl) rfl (.inr (.inl hwmu))

/-- Where EPC may be fetched and no WMU fault waits, RFE leaves the core at EPC. -/
theorem runInsn_rfeAct_going {k : Nat} (hg : Going s k (evEpc (s.core k).ev)) (hwmu : (s.core k).wmuPending = false)
    (hact : evAct (s.core k).ev = true) : runInsn s k 1 rfeAct = s.setCore k (s.core k).atEpc := by
  obtain ⟨hcmd, hfar, hrep, -, hf⟩ := hg
  have hpending : (s.core k).returned.wmuPending = true → evAct (s.core k).returned.ev = true := by
    simp [Core.returned_wmuPending, hwmu]
  exact (runInsn_rfeAct hcmd hfar hact).trans (settle_plain _ _ _ _ (some (evEpc (s.core k).ev))
    ((Core.returned_rep _).trans hrep) hpending ((Core.fetchable_returned _ _).trans hf))

/-- With RPT 1, RFE also notes that the REPI at EPC resumes (R381). -/
theorem exec_rfe_resume (hg : Going s k.toNat (evEpc (s.core k.toNat).ev)) (hwmu : (s.core k.toNat).wmuPending = false)
    (hact : evAct (s.core k.toNat).ev = true) (hrpt : evRpt (s.core k.toNat).ev = true) :
    exec (.rfe k) s = answer ((s.setCore k.toNat (s.core k.toNat).atEpc).setCore k.toNat
      { (s.core k.toNat).atEpc with resume := true }) := by
  rw [exec_rfe, runInsn_rfeAct_going hg hwmu hact]
  obtain ⟨hcmd, hfar, -, -, -⟩ := hg
  rw [noteResume_of_rpt hcmd hfar hact hrpt (by rw [Core.atEpc_cmd, hcmd]) (Core.atEpc_act _)]

theorem gives_rfe_resume (hg : Going s k.toNat (evEpc (s.core k.toNat).ev)) (hwmu : (s.core k.toNat).wmuPending = false)
    (hact : evAct (s.core k.toNat).ev = true) (hrpt : evRpt (s.core k.toNat).ev = true) :
    Gives (.rfe k) s fun t => Only [.cores] s t ∧ OnlyCore k.toNat s t ∧
      (t.core k.toNat).pc = evEpc (s.core k.toNat).ev ∧ evAct (t.core k.toNat).ev = false ∧
      (t.core k.toNat).resume = true := by
  refine ⟨_, exec_rfe_resume hg hwmu hact hrpt, only_cores .., fun j hj => ?others, ?core⟩
  case others => simp only [drivePins_core, State.core_setCore_other _ _ _ _ hj]
  case core =>
    simp only [drivePins_core, State.core_setCore]
    exact ⟨Core.atEpc_pc _, Core.atEpc_act _, trivial⟩

end

/-! ### MOVT to ev (R358, R386) -/

/-- MOVT to ev retires at the next half. -/
theorem retires_movt_ev {s : State} {k : CoreId} (a : BitVec 4)
    (hg : Going s k.toNat (halfAdd (s.core k.toNat).pc 1)) :
    Retires (.movt k 3 a) s k.toNat
      { ev := some (movtEv ((s.core k.toNat).reg a.toNat) (s.core k.toNat).ev),
        next := halfAdd (s.core k.toNat).pc 1 } :=
  retires_of_insn { ev := some (movtEv ((s.core k.toNat).reg a.toNat) (s.core k.toNat).ev) } rfl rfl rfl rfl hg rfl
    (Nat.zero_le 1) (Nat.zero_le 1) (.inl rfl) rfl (.inr (.inr ⟨_, rfl, evAct_movtEv _ _⟩))

/-- An instruction that retires leaves its core's ev as its change says. -/
theorem Retires.gives_ev {i : Instr} {s : State} {k : Nat} {r : Change} (h : Retires i s k r) :
    Gives i s fun t => (t.core k).ev = r.ev.getD (s.core k).ev := by
  obtain ⟨t, ht, -, -, -, -, -, -, hcore⟩ := h
  exact ⟨t, ht, congrArg Core.ev hcore⟩

/-- Settles O5: RFE with RPT 0 and with RPT 1, its two terminal ends, and MOVT's fields of ev. -/
theorem returnFromEvent : Obligations.ReturnFromEvent := by
  intro s k a
  simp only [← evEpc_eq]
  refine ⟨retires_rfe, gives_rfe_resume, fun hcmd hfar hrep hact hf => ?unfetchable, exec_rfe_idle, fun hg => ?movt⟩
  case unfetchable =>
    exact ⟨{ (s.core k.toNat).returned with pc := evEpc (s.core k.toNat).ev }, Core.returned_cmd _, rfl,
      exec_rfe_unfetchable hcmd hfar hrep hact hf⟩
  case movt =>
    obtain ⟨t, ht, hev⟩ := (retires_movt_ev a hg).gives_ev
    refine ⟨t, ht, ?_⟩
    simp only [hev, Option.getD_some]
    exact ⟨evEpc_movtEv .., movtEv_cause .., evAct_movtEv ..⟩

end Sys2Proof.Machine
end

section
/-! Output pins: every command answers by driving them, so every step leaves them at their levels (R573, R576, R597). -/

namespace Sys2Proof.Machine

/-- Every command answers: it stops in no fault and no refusal. -/
theorem exec_answers (i : Instr) (s : State) : ∃ b, exec i s = answer b := by
  cases i <;> exact ⟨_, rfl⟩

theorem step_answers (s : State) : ∃ b, step s = answer b := by
  cases hq : s.pending with
  | nil => exact ⟨tick s, step_idle s hq⟩
  | cons i rest =>
    obtain ⟨b, hb⟩ := exec_answers i { s with pending := rest }
    exact ⟨b, by simpa only [step, hq] using hb⟩

theorem pinsFollow_drivePins (s : State) : PinsFollow (drivePins s) := by
  constructor
  · simp [drivePins, outputsOn, alertLow, and_assoc, or_assoc]
  · simp [drivePins]

/-- Settles O29. -/
theorem everyStepDrivesThePins : Obligations.EveryStepDrivesThePins := by
  intro s
  obtain ⟨b, hb⟩ := step_answers s
  exact ⟨drivePins b, hb, pinsFollow_drivePins b⟩

end Sys2Proof.Machine
end

section
/-! Working memory: the operations of the module that leave it as it is, one frame equation each. -/

namespace Sys2Proof.Machine

open Host

theorem foldl_wmem {α : Type} {f : State → α → State} (h : ∀ s x, (f s x).wmem = s.wmem) (l : List α) (s : State) :
    (l.foldl f s).wmem = s.wmem := by
  induction l generalizing s with
  | nil => rfl
  | cons x l ih => rw [List.foldl_cons, ih, h]

theorem choose_wmem {s t : State} {cl e : Nat} {c : Cmd} (h : choose s cl = some (e, c, t)) : t.wmem = s.wmem := by
  unfold choose at h
  dsimp only at h
  split at h
  · cases h
  · split at h
    · cases h
    · simp only [Option.map_eq_some_iff, Prod.mk.injEq] at h
      obtain ⟨_, _, _, _, rfl⟩ := h
      rfl
@[simp] theorem countCompletion_fire_wmem (s n p fn) : (countCompletion.fire s n p fn).wmem = s.wmem := by
  unfold countCompletion.fire
  rw [msixSend_wmem, foldl_wmem (fun s m => by split <;> simp)]; simp

@[simp] theorem setLifeCycle_wmem (s : State) (l : LifeCycle) (trigger : Code) :
    (setLifeCycle s l trigger).wmem = s.wmem := by unfold setLifeCycle; split <;> simp
@[simp] theorem restoreMsix_wmem (s : State) (fn : Fn) (table pend : Octets) :
    (restoreMsix s fn table pend).wmem = s.wmem := rfl
@[simp] theorem blogRecord_wmem (s : State) (opcode : Code) :
    (blogRecord s opcode).wmem = s.wmem := by simp [blogRecord]
@[simp] theorem holdRoots_wmem (s : State) (slot : Nat) :
    (holdRoots s slot).wmem = s.wmem := by unfold holdRoots; split <;> simp
@[simp] theorem cachePut_wmem (s : State) (slot : Nat) (body : Octets) (key : KeyVal) :
    (cachePut s slot body key).wmem = s.wmem := by unfold cachePut; split <;> simp
@[simp] theorem takeSeed_wmem (s : State) : (takeSeed s).2.wmem = s.wmem := by simp [takeSeed]
@[simp] theorem instantiate_wmem (s : State) (i tenant : Nat) :
    (instantiate s i tenant).wmem = s.wmem := by simp [instantiate]
@[simp] theorem zeroise_wmem (s : State) (i : Nat) : (zeroise s i).wmem = s.wmem := by simp [zeroise]
@[simp] theorem redrawCache_wmem (s : State) :
    (redrawCache s).wmem = s.wmem := by unfold redrawCache; dsimp only; split <;> simp
@[simp] theorem freeCounters_wmem (s : State) (f : SlotFields) :
    (freeCounters s f).wmem = s.wmem := by simp [freeCounters]
@[simp] theorem resetPhs_wmem (s : State) (f : SlotFields) : (resetPhs s f).wmem = s.wmem :=
  foldl_wmem (f := fun s i => s.setPh (f.phBase + i) {}) (fun _ _ => rfl) _ s
@[simp] theorem State.setSlot_wmem (s : State) (n : Nat) (x : Slot) :
    (State.setSlot s n x).wmem = s.wmem := by simp [State.setSlot]
@[simp] theorem restoreCounters_wmem (s : State) (f : SlotFields) (same : Bool) (o : Octets) :
    (restoreCounters s f same o).wmem = s.wmem := by
  refine foldl_wmem (fun s i => ?_) _ _
  split
  · rfl
  · split <;> rfl
@[simp] theorem actTail_wmem (s : State) (n : Nat) (p : Ph) (v : Nat) : (actTail s n p v).wmem = s.wmem := by
  unfold actTail
  (repeat' split) <;> simp
@[simp] theorem actHead_wmem (s : State) (n : Nat) (p : Ph) (v : Nat) :
    (actHead s n p v).wmem = s.wmem := by unfold actHead; split <;> simp
@[simp] theorem resumePh_wmem (s : State) (n : Nat) : (resumePh s n).wmem = s.wmem := by
  unfold resumePh
  dsimp only
  (repeat' split) <;> simp
@[simp] theorem resumeSlot_wmem (s : State) (n : Nat) : (resumeSlot s n).wmem = s.wmem := by
  unfold resumeSlot
  split
  · rfl
  · rw [foldl_wmem (by simp)]; rfl
@[simp] theorem commitUse_wmem (s : State) (i : Nat) : (commitUse s i).wmem = s.wmem := by
  unfold commitUse
  dsimp only
  (repeat' split) <;> simp
@[simp] theorem scrubAll_wmem (s : State) : (scrubAll s).wmem = s.wmem := by
  unfold scrubAll
  exact foldl_wmem (by simp) _ _
@[simp] theorem frankTrailer_wmem (s : State) (src : Nat) (c : Cmd) :
    (frankTrailer s src c).2.wmem = s.wmem := by unfold frankTrailer; dsimp only; split <;> simp
@[simp] theorem addReplay_wmem (s : State) (r : Replay) : (addReplay s r).wmem = s.wmem := by simp [addReplay]
@[simp] theorem stampCompletion_wmem (s : State) (c : Cmd) :
    (stampCompletion s c).2.wmem = s.wmem := by simp [stampCompletion]
@[simp] theorem sendCommit_wmem (s : State) (e : Nat) (c : Cmd) :
    (sendCommit s e c).wmem = s.wmem := by unfold sendCommit; split <;> simp
@[simp] theorem journalService_wmem (s : State) (e : Nat) (c : Cmd) :
    (journalService s e c).wmem = s.wmem := by unfold journalService; split <;> simp
@[simp] theorem serve_wmem (s : State) (k : Nat) (st : Code) (out : Octets) : (serve s k st out).wmem = s.wmem := by
  unfold serve
  (repeat' split) <;> simp
@[simp] theorem putSet_wmem (s : State) (gate master : Nat) (set : Nat) (r : RuleSet) :
    (putSet s gate master set r).wmem = s.wmem := by simp [putSet]
@[simp] theorem readyGate_wmem (s : State) (k e : Nat) (c : Cmd) (gate : Nat) :
    (readyGate s k e c gate).wmem = s.wmem := by unfold readyGate; dsimp only; split <;> simp
@[simp] theorem readyAll_wmem (s : State) (k : Nat) : (readyAll s k).wmem = s.wmem := by
  unfold readyAll
  split
  · rfl
  · split
    · rfl
    · split
      · rfl
      · exact foldl_wmem (by simp) _ _
@[simp] theorem beginReady_wmem (s : State) (k : Nat) : (beginReady s k).wmem = s.wmem := by
  unfold beginReady
  dsimp only
  (repeat' split) <;> simp
@[simp] theorem freeArmed_wmem (s : State) (master : Nat) : (freeArmed s master).wmem = s.wmem := by simp [freeArmed]
@[simp] theorem dropPre_wmem (s : State) (k : Nat) : (dropPre s k).wmem = s.wmem := by simp [dropPre]
@[simp] theorem swapSets_wmem (s : State) (master : Nat) : (swapSets s master).wmem = s.wmem := by
  unfold swapSets
  extract_lets t
  have ht : t.wmem = s.wmem := foldl_wmem (fun t g => by rw [putSet_wmem, putSet_wmem]) gateNums s
  clear_value t
  exact ht
@[simp] theorem eraseWorking_wmem (s : State) : (eraseWorking s).wmem = s.wmem := by simp [eraseWorking]
@[simp] theorem eraseCounters_wmem (s : State) : (eraseCounters s).wmem = s.wmem := by simp [eraseCounters]
@[simp] theorem failAll_wmem (s : State) (st : Code) : (failAll s st).wmem = s.wmem := by
  unfold failAll
  rw [State.mapCmds_wmem, foldl_wmem fun s k => by split <;> simp]
@[simp] theorem leavePair_wmem (s : State) : (leavePair s).wmem = s.wmem := by unfold leavePair; split <;> simp
@[simp] theorem eraseQuorum_wmem (s : State) : (eraseQuorum s).wmem = s.wmem := by simp [eraseQuorum]
@[simp] theorem eraseRoots_wmem (s : State) : (eraseRoots s).wmem = s.wmem := by simp [eraseRoots]
@[simp] theorem abandonImage_wmem (s : State) (st : Code) :
    (abandonImage s st).wmem = s.wmem := by unfold abandonImage; split <;> simp
@[simp] theorem logErased_wmem (s : State) (a : AlarmInfo) : (logErased s a).wmem = s.wmem := by simp [logErased]
@[simp] theorem respondL_wmem (s : State) (a : AlarmInfo) :
    (respondL s a).wmem = s.wmem := by unfold respondL; split <;> simp
@[simp] theorem respondE_wmem (s : State) (a : AlarmInfo) :
    (respondE s a).wmem = s.wmem := by unfold respondE; split <;> simp
@[simp] theorem raiseAlarm_wmem (s : State) (a : AlarmInfo) : (raiseAlarm s a).wmem = s.wmem := by
  unfold raiseAlarm
  (repeat' split) <;> simp
@[simp] theorem noteResidue_wmem (s : State) (k : Nat) :
    (noteResidue s k).wmem = s.wmem := by unfold noteResidue; dsimp only; split <;> simp
@[simp] theorem armMain_wmem (s : State) (on : Bool) : (armMain s on).wmem = s.wmem := by simp [armMain]
@[simp] theorem unpowered_wmem (s : State) : (unpowered s).wmem = [] := rfl
@[simp] theorem afterReset_wmem (s : State) : (afterReset s).wmem = [] := rfl
@[simp] theorem warmReset_wmem (s : State) (t : Code) : (warmReset s t).wmem = [] := rfl
@[simp] theorem bootStop_wmem (s : State) (st : Code) : (bootStop s st).wmem = s.wmem := by simp [bootStop]
@[simp] theorem noteDirty_wmem (s : State) (slot : Nat) (addr : BitVec 64) (n : Nat) :
    (noteDirty s slot addr n).wmem = s.wmem := by
  unfold noteDirty
  split
  · rfl
  · split
    · rfl
    · exact foldl_wmem (by simp) _ _
@[simp] theorem resetPh_wmem (s : State) (n : Nat) : (resetPh s n).wmem = s.wmem := by simp [resetPh]
@[simp] theorem unselect_wmem (s : State) (e : Nat) : (unselect s e).wmem = s.wmem := by
  unfold unselect
  exact foldl_wmem (fun s k => by split <;> simp) _ _
@[simp] theorem discardCmds_wmem (s : State) (slots : List Nat) : (discardCmds s slots).wmem = s.wmem :=
  foldl_wmem (by simp) _ _
@[simp] theorem resetMsix_wmem (s : State) (keep : Nat → Bool) : (resetMsix s keep).wmem = s.wmem := by simp [resetMsix]
@[simp] theorem portReset_wmem (s : State) (b : Bool) : (portReset s b).wmem = s.wmem := by
  unfold portReset
  simp [foldl_wmem]
@[simp] theorem refreshDrr_wmem (s : State) (cl level : Nat) :
    (refreshDrr s cl level).wmem = s.wmem := by simp [refreshDrr]
@[simp] theorem preselect_wmem (s : State) (k e : Nat) (c : Cmd) :
    (preselect s k e c).wmem = s.wmem := by unfold preselect; split <;> simp
@[simp] theorem preselectNext_wmem (s : State) (k : Nat) : (preselectNext s k).wmem = s.wmem := by
  unfold preselectNext
  split
  · rename_i h
    rw [preselect_wmem, choose_wmem h]
  · rfl
@[simp] theorem giveBack_wmem (s : State) (c : Cmd) : (giveBack s c).wmem = s.wmem := by unfold giveBack; split <;> simp
@[simp] theorem toHead_wmem (s : State) (e : Nat) (c : Cmd) : (toHead s e c).wmem = s.wmem := by simp [toHead]
@[simp] theorem displace_wmem (s : State) (k : Nat) : (displace s k).wmem = s.wmem := by
  unfold displace
  dsimp only
  (repeat' split) <;> simp
@[simp] theorem noteEligible_wmem (s : State) (cl level : Nat) : (noteEligible s cl level).wmem = s.wmem := by
  unfold noteEligible
  dsimp only
  (repeat' split) <;> simp
@[simp] theorem noteEntry_wmem (s : State) (e : Nat) : (noteEntry s e).wmem = s.wmem := by
  unfold noteEntry
  (repeat' split) <;> simp
theorem onPh_wmem (s : State) (fn : Fn) (i : Nat) {f : Nat → Ph → State} (h : ∀ n p, (f n p).wmem = s.wmem) :
    (onPh s fn i f).wmem = s.wmem := by
  unfold onPh
  split
  · rfl
  · split
    · exact h _ _
    · rfl
@[simp] theorem countCompletion_wmem (s : State) (n : Nat) (fn : Fn) : (countCompletion s n fn).wmem = s.wmem := by
  unfold countCompletion
  dsimp only
  split <;> simp
@[simp] theorem retireCmd_wmem (s : State) (e : Nat) (c : Cmd) :
    (retireCmd s e c).wmem = s.wmem := by unfold retireCmd; split <;> simp
@[simp] theorem countHostFault_wmem (s : State) (b : Bool) :
    (countHostFault s b).wmem = s.wmem := by simp [countHostFault]
@[simp] theorem failHost_wmem (s : State) (e : Nat) (c : Cmd) (written : Nat) :
    (failHost s e c written).wmem = s.wmem := by unfold failHost; split <;> simp
@[simp] theorem waitRandom_wmem (s : State) (k e : Nat) (c : Cmd) (inst limitUs : Nat) :
    (waitRandom s k e c inst limitUs).wmem = s.wmem := by simp [waitRandom]
@[simp] theorem State.setArrays_wmem (s : State) (f : Arrays → Arrays) :
    (State.setArrays s f).wmem = s.wmem := by simp [State.setArrays]
@[simp] theorem setJobResult_wmem (s : State) (hash : Bool) (k tag : Nat) (r : JobResult) :
    (setJobResult s hash k tag r).wmem = s.wmem := by simp [setJobResult]
@[simp] theorem endJob_wmem (s : State) (j : LaneJob) (r : JobResult) : (endJob s j r).wmem = s.wmem := by simp [endJob]
@[simp] theorem setLaneKey_wmem (s : State) (k reg : Nat) (v : LaneKey) :
    (setLaneKey s k reg v).wmem = s.wmem := by simp [setLaneKey]
@[simp] theorem setHashKey_wmem (s : State) (k reg : Nat) (v : LaneKey) :
    (setHashKey s k reg v).wmem = s.wmem := by simp [setHashKey]
@[simp] theorem submitCipher_wmem (s : State) (k mode : Nat) (j : CipherJob) :
    (submitCipher s k mode j).wmem = s.wmem := by
  unfold submitCipher
  dsimp only
  (repeat' split) <;> simp
@[simp] theorem setCause_wmem (s : State) (bit : Nat) (on : Bool) :
    (setCause s bit on).wmem = s.wmem := by simp [setCause]
@[simp] theorem refreshCauses_wmem (s : State) : (refreshCauses s).wmem = s.wmem := by simp [refreshCauses]
@[simp] theorem putLane_wmem (s : State) (hash : Bool) (n : Nat) (l : Lane) :
    (putLane s hash n l).wmem = s.wmem := by simp [putLane]
@[simp] theorem retireLane_wmem (s : State) (hash : Bool) (n : Nat) :
    (retireLane s hash n).wmem = s.wmem := by simp [retireLane]
@[simp] theorem hurtJob_wmem (s : State) (hash : Bool) (k tag : Nat) : (hurtJob s hash k tag).wmem = s.wmem := by
  unfold hurtJob
  (repeat' split) <;> simp
@[simp] theorem State.setEntropy_wmem (s : State) (f : Entropy → Entropy) :
    (State.setEntropy s f).wmem = s.wmem := by simp [State.setEntropy]
@[simp] theorem endFailure_wmem (s : State) :
    (endFailure s).wmem = s.wmem := by unfold endFailure; dsimp only; split <;> simp
@[simp] theorem failCell_wmem (s : State) (n : Nat) (counted : Bool) : (failCell s n counted).wmem = s.wmem := by
  unfold failCell
  dsimp only
  (repeat' split) <;> simp
@[simp] theorem setLaneFail_wmem (s : State) (kind lane : Nat) (on : Bool) :
    (setLaneFail s kind lane on).wmem = s.wmem := by simp [setLaneFail]
@[simp] theorem katDone_wmem (s : State) (lane : Nat) (df ex : Bool) :
    (katDone s lane df ex).wmem = s.wmem := by unfold katDone; split <;> simp
@[simp] theorem setRandResult_wmem (s : State) (k : Nat) (r : RandResult) :
    (setRandResult s k r).wmem = s.wmem := by simp [setRandResult]
@[simp] theorem tripMonitor_wmem (s : State) (n unit : Nat) (value : BitVec 32) :
    (tripMonitor s n unit value).wmem = s.wmem := by
  unfold tripMonitor
  dsimp only
  (repeat' split) <;> simp
@[simp] theorem drawMesh_wmem (s : State) : (drawMesh s).wmem = s.wmem := by simp [drawMesh]
@[simp] theorem modeRecord_wmem (s : State) (next : Mode) (op : Code) :
    (modeRecord s next op).wmem = s.wmem := by simp [modeRecord]
@[simp] theorem quiescePh_wmem (s : State) (n : Nat) :
    (quiescePh s n).wmem = s.wmem := by unfold quiescePh; dsimp only; split <;> simp
@[simp] theorem installRoot_wmem (s : State) (c : Ceremony) (root check : Octets) :
    (installRoot s c root check).wmem = s.wmem := by unfold installRoot; dsimp only; split <;> simp
@[simp] theorem streamN_wmem (n : Nat) (s : State) : (streamN n s).wmem = s.wmem := by
  induction n generalizing s with
  | zero => rfl
  | succ n ih =>
    unfold streamN
    dsimp only
    split
    · rfl
    · rw [ih]; rfl
@[simp] theorem releaseWaiting_wmem (n : Nat) (s : State) : (releaseWaiting n s).wmem = s.wmem := by
  induction n generalizing s with
  | zero => rfl
  | succ n ih =>
    unfold releaseWaiting
    split
    · rfl
    · split
      · simp [ih]
      · split
        · rfl
        · simp [ih]
@[simp] theorem timeEntry_wmem (s : State) (d : Int) (cause : Nat) :
    (timeEntry s d cause).wmem = s.wmem := by simp [timeEntry]
@[simp] theorem setLogical_wmem (s : State) (j v : Nat) : (setLogical s j v).wmem = s.wmem := by simp [setLogical]
@[simp] theorem takeNumber_wmem (s : State) (j cl : Nat) : (takeNumber s j cl).wmem = s.wmem := by simp [takeNumber]
@[simp] theorem becomeSpare_wmem (s : State) (j : Nat) :
    (becomeSpare s j).wmem = s.wmem := by unfold becomeSpare; split <;> simp
@[simp] theorem retireCluster_wmem (s : State) (j : Nat) : (retireCluster s j).wmem = s.wmem := by simp [retireCluster]
@[simp] theorem loseCore_wmem (s : State) (k : Nat) : (loseCore s k).wmem = s.wmem := by simp [loseCore]
@[simp] theorem replaceEntry_wmem (s : State) (e : Nat) : (replaceEntry s e).wmem = s.wmem := by
  unfold replaceEntry
  (repeat' split) <;> simp
@[simp] theorem resteer_wmem (s : State) (cl : Nat) : (resteer s cl).wmem = s.wmem := by
  unfold resteer
  simp only [refreshCauses_wmem]
  rw [foldl_wmem (by simp), foldl_wmem (fun s n => by split <;> rfl)]
@[simp] theorem dropCached_wmem (s : State) (l : List Nat) : (dropCached s l).wmem = s.wmem := by simp [dropCached]
@[simp] theorem wardenReport_wmem (s : State) : (wardenReport s).wmem = s.wmem := by
  unfold wardenReport
  (repeat' split) <;> simp
@[simp] theorem coldBoot_wmem (s : State) (vbatMv : BitVec 16) (xstart : BitVec 3) :
    (coldBoot s vbatMv xstart).wmem = [] := by
  simp [coldBoot]
@[simp] theorem setStep_wmem (s : State) (n : Nat) : (setStep s n).wmem = s.wmem := by simp [setStep]
@[simp] theorem maskMon_wmem (s : State) (i : Nat) (on : Bool) : (maskMon s i on).wmem = s.wmem := by simp [maskMon]
@[simp] theorem layClusters_wmem (s : State) (spare : Bool) :
    (layClusters s spare).wmem = s.wmem := by simp [layClusters]
@[simp] theorem startSegment_wmem (s : State) : (startSegment s).wmem = s.wmem := by simp [startSegment]
@[simp] theorem certify_wmem (s : State) : (certify s).wmem = s.wmem := by simp [certify]
@[simp] theorem drawModuleKeys_wmem (s : State) : (drawModuleKeys s).wmem = s.wmem := by
  unfold drawModuleKeys
  simp [foldl_wmem]
@[simp] theorem enterDiagnostic_wmem (s : State) (trigger : Code) :
    (enterDiagnostic s trigger).wmem = s.wmem := by simp [enterDiagnostic]
@[simp] theorem startCells_wmem (s : State) (passed : BitVec 64) (good : BitVec 64) :
    (startCells s passed good).wmem = s.wmem :=
  foldl_wmem (fun s n => by split <;> simp) _ _
@[simp] theorem startRandom_wmem (s : State) (cells : Nat) : (startRandom s cells).wmem = s.wmem := rfl
@[simp] theorem loseUnit_wmem (s : State) (d : Nat) : (loseUnit s d).wmem = s.wmem := by
  unfold loseUnit
  (repeat' split) <;> simp
@[simp] theorem domainOff_wmem (s : State) (d : Nat) :
    (domainOff s d).wmem = s.wmem := by unfold domainOff; split <;> simp
@[simp] theorem domainOn_wmem (s : State) (d : Nat) : (domainOn s d).wmem = s.wmem := by simp [domainOn]
@[simp] theorem stopSwitch_wmem (s : State) : (stopSwitch s).wmem = s.wmem := by unfold stopSwitch; split <;> simp
@[simp] theorem tick_wmem (s : State) : (tick s).wmem = s.wmem := by unfold tick; dsimp only; split <;> simp
@[simp] theorem pairVector_wmem (s : State) : (pairVector s).wmem = s.wmem := by simp [pairVector]
@[simp] theorem newEpoch_wmem (s : State) : (newEpoch s).wmem = s.wmem := by simp [newEpoch]
@[simp] theorem sendHello_wmem (s : State) : (sendHello s).wmem = s.wmem := by unfold sendHello; split <;> simp
@[simp] theorem announce_wmem (s : State) : (announce s).wmem = s.wmem := by unfold announce; split <;> simp
@[simp] theorem takeTime_wmem (s : State) : (takeTime s).2.wmem = s.wmem := by simp [takeTime]
@[simp] theorem rebuildCache_wmem (s : State) : (rebuildCache s).wmem = s.wmem := by
  unfold rebuildCache
  rw [← List.foldl_reverse]
  exact foldl_wmem (fun s x => by split <;> simp) _ _
@[simp] theorem noteTake_wmem (s : State) : (noteTake s).wmem = s.wmem := by simp [noteTake]
@[simp] theorem beginTake_wmem (s : State) (k : TakeKind) : (beginTake s k).wmem = s.wmem := by simp [beginTake]
@[simp] theorem dropHeld_wmem (s : State) : (dropHeld s).wmem = s.wmem := by
  unfold dropHeld
  rw [State.mapCmds_wmem, foldl_wmem fun s k => by dsimp only; split <;> split <;> simp]
@[simp] theorem endDirty_wmem (s : State) : (endDirty s).wmem = s.wmem := by simp [endDirty]
@[simp] theorem leaveService_wmem (s : State) (role : Role) (trigger : Code) :
    (leaveService s role trigger).wmem = s.wmem := by simp [leaveService]
@[simp] theorem backOff_wmem (s : State) (k : TakeKind) : (backOff s k).wmem = s.wmem := by simp [backOff]
@[simp] theorem missWindow_wmem (s : State) : (missWindow s).wmem = s.wmem := by simp [missWindow]
@[simp] theorem sendClosed_wmem (s : State) : (sendClosed s).wmem = s.wmem :=
  foldl_wmem (by simp) _ _
@[simp] theorem setHealth_wmem (s : State) (g : Nat) (h : GateHealth) :
    (setHealth s g h).wmem = s.wmem := by simp [setHealth]
@[simp] theorem refuse_wmem (s : State) (g master : Nat) (msg : BitVec 640) :
    (refuse s g master msg).wmem = s.wmem := by unfold refuse; dsimp only; split <;> simp
@[simp] theorem sealMismatch_wmem (s : State) (g init : Nat) :
    (sealMismatch s g init).wmem = s.wmem := by unfold sealMismatch; dsimp only; split <;> simp
@[simp] theorem decideRequest_wmem (s : State) (g len : Nat) (msg : BitVec 640) :
    (decideRequest s g len msg).wmem = s.wmem := by
  unfold decideRequest
  dsimp only
  (repeat' split) <;> simp
@[simp] theorem selectSet_wmem (s : State) (master : BitVec 7) (gate : BitVec 8) (set : Bool) :
    (selectSet s master gate set).wmem = s.wmem := by simp [selectSet]
@[simp] theorem bypassGate_wmem (s : State) (g : Nat) (cause : BitVec 2) :
    (bypassGate s g cause).wmem = s.wmem := by simp [bypassGate]
@[simp] theorem countWait_wmem (s : State) (cl : Nat) (c : Cmd) (now : BitVec 64) :
    (countWait s cl c now).wmem = s.wmem := by unfold countWait; split <;> simp
@[simp] theorem takeWork_wmem (s : State) (k : Nat) : (takeWork s k).wmem = s.wmem := by
  unfold takeWork
  split
  · rename_i h
    split
    · rw [preselect_wmem, choose_wmem h]
    · rfl
  · split
    · split
      · rfl
      · dsimp only
        split <;> simp
    · rfl
@[simp] theorem deferTo_wmem (s : State) (k e : Nat) (c : Cmd) (list due : Nat) :
    (deferTo s k e c list due).wmem = s.wmem := by simp [deferTo]
@[simp] theorem sendRelay_wmem (s : State) (cls : BitVec 8) (payload : Octets) :
    (sendRelay s cls payload).wmem = s.wmem := by
  unfold sendRelay
  (repeat' split) <;> simp
@[simp] theorem sendEither_wmem (s : State) (cls : BitVec 8) (payload : Octets) :
    (sendEither s cls payload).wmem = s.wmem := by unfold sendEither; split <;> simp
@[simp] theorem linkDown_wmem (s : State) : (linkDown s).wmem = s.wmem := by simp [linkDown]
@[simp] theorem endSession_wmem (s : State) (ver domain : Bool) :
    (endSession s ver domain).wmem = s.wmem := by simp [endSession]
@[simp] theorem startSession_wmem (s : State) (h : HelloMsg) (key : Octets) :
    (startSession s h key).wmem = s.wmem := by simp [startSession]
@[simp] theorem startCopy_wmem (s : State) : (startCopy s).wmem = s.wmem :=
  foldl_wmem (by simp) _ _
@[simp] theorem resend_wmem (s : State) : (resend s).wmem = s.wmem := by
  unfold resend
  dsimp only
  rw [foldl_wmem (by simp)]
  exact foldl_wmem (by simp) _ _
@[simp] theorem seenTime_wmem (s : State) (t : BitVec 64) : (seenTime s t).wmem = s.wmem := by simp [seenTime]
@[simp] theorem receiveEntry_wmem (s : State) (o : Octets) : (receiveEntry s o).wmem = s.wmem := by simp [receiveEntry]
@[simp] theorem takeRenewal_wmem (s : State) (sent : BitVec 64) (l n : Nat) :
    (takeRenewal s sent l n).wmem = s.wmem := by unfold takeRenewal; split <;> simp
@[simp] theorem ackRenewal_wmem (s : State) (n : BitVec 32) : (ackRenewal s n).wmem = s.wmem := by
  unfold ackRenewal
  dsimp only
  (repeat' split) <;> simp
@[simp] theorem becomeDetached_wmem (s : State) : (becomeDetached s).wmem = s.wmem := by simp [becomeDetached]
@[simp] theorem refuseImage_wmem (s : State) (st : Code) (off : Nat) :
    (refuseImage s st off).wmem = s.wmem := by simp [refuseImage]
@[simp] theorem beginImage_wmem (s : State) (n : Nat) (mctp : Bool) :
    (beginImage s n mctp).wmem = s.wmem := by simp [beginImage]
@[simp] theorem abortImage_wmem (s : State) : (abortImage s).wmem = s.wmem := by unfold abortImage; split <;> simp
@[simp] theorem imageIn_wmem (s : State) (o : Octets) : (imageIn s o).wmem = s.wmem := by simp [imageIn]
@[simp] theorem imageEntry_wmem (s : State) (seq : Nat) (st : Code) :
    (imageEntry s seq st).wmem = s.wmem := by simp [imageEntry]
@[simp] theorem applyFirmware_wmem (s : State) (o : Octets) :
    (applyFirmware s o).wmem = s.wmem := by simp [applyFirmware]
@[simp] theorem applyRoles_wmem (s : State) (o : Octets) :
    (applyRoles s o).wmem = s.wmem := by unfold applyRoles; dsimp only; split <;> simp
@[simp] theorem applyPower_wmem (s : State) (pdEn : Nat) : (applyPower s pdEn).wmem = s.wmem := by
  unfold applyPower
  dsimp only
  rw [foldl_wmem fun s d => by split <;> [skip; split] <;> simp]
@[simp] theorem applyMemory_wmem (s : State) (o : Octets) : (applyMemory s o).wmem = s.wmem := by simp [applyMemory]
@[simp] theorem applyPool_wmem (s : State) (o : Octets) : (applyPool s o).wmem = s.wmem := by simp [applyPool]
@[simp] theorem applySched_wmem (s : State) (o : Option Octets) : (applySched s o).wmem = s.wmem := by simp [applySched]
@[simp] theorem applyCurves_wmem (s : State) (o : Option Octets) :
    (applyCurves s o).wmem = s.wmem := by simp [applyCurves]
@[simp] theorem applyOfficers_wmem (s : State) (o : Octets) :
    (applyOfficers s o).wmem = s.wmem := by unfold applyOfficers; dsimp only; split <;> simp
@[simp] theorem applyPolicy_wmem (s : State) (policy : Octets) (custom : List (Nat × Octets)) :
    (applyPolicy s policy custom).wmem = s.wmem := by simp [applyPolicy]
@[simp] theorem applyAll_wmem (s : State) (l : List Rec) : (applyAll s l).wmem = s.wmem := by simp [applyAll]
@[simp] theorem applyChanged_wmem (s : State) (l : List Rec) (old : List Rec) :
    (applyChanged s l old).wmem = s.wmem := by
  unfold applyChanged
  simp only [apply_ite State.wmem, refreshCauses_wmem, applyOfficers_wmem, applyCurves_wmem, applySched_wmem,
    applyPool_wmem, redrawCache_wmem, applyMemory_wmem, applyPower_wmem, applyRoles_wmem, applyFirmware_wmem, ite_self]
@[simp] theorem mctpAnswer_wmem (s : State) (cmd : Nat) (st : Code) (payload : Octets) :
    (mctpAnswer s cmd st payload).wmem = s.wmem := by simp [mctpAnswer]
@[simp] theorem setKeyResult_wmem (s : State) (k : Nat) (r : KeyResult) :
    (setKeyResult s k r).wmem = s.wmem := by simp [setKeyResult]
@[simp] theorem State.setMgmt_wmem (s : State) (f : Mgmt → Mgmt) :
    (State.setMgmt s f).wmem = s.wmem := by simp [State.setMgmt]
@[simp] theorem answerCcc_wmem (s : State) (o : Octets) :
    (answerCcc s o).wmem = s.wmem := by unfold answerCcc; split <;> simp
@[simp] theorem answerControl_wmem (s : State) (cmd cc : Nat) (o : Octets) :
    (answerControl s cmd cc o).wmem = s.wmem := by unfold answerControl; split <;> simp
@[simp] theorem answerVendor_wmem (s : State) (cmd : Nat) (o : Octets) :
    (answerVendor s cmd o).wmem = s.wmem := by unfold answerVendor; split <;> simp
@[simp] theorem leaveMaintenance_wmem (s : State) (e : Nat) :
    (leaveMaintenance s e).wmem = s.wmem := by unfold leaveMaintenance; dsimp only; split <;> simp
@[simp] theorem backToIssued_wmem (s : State) : (backToIssued s).wmem = s.wmem := by unfold backToIssued; split <;> simp
@[simp] theorem diagnose_wmem (s : State) : (diagnose s).wmem = s.wmem := by simp [diagnose]
@[simp] theorem writeBase_wmem (s : State) (fn : Fn) (i : Nat) (cq : Bool) (f : BitVec 64 → BitVec 64) :
    (writeBase s fn i cq f).wmem = s.wmem := by
  unfold writeBase
  exact onPh_wmem _ _ _ (fun n p => by split <;> simp)
@[simp] theorem writeJournal_wmem (s : State) (portB : Bool) (g : Journal → Journal) :
    (writeJournal s portB g).wmem = s.wmem := by simp [writeJournal]
@[simp] theorem writePair_wmem (s : State) (off : Nat) (v : BitVec 32) : (writePair s off v).wmem = s.wmem := by
  unfold writePair
  (repeat' split) <;> simp
@[simp] theorem writeAlarm_wmem (s : State) (off : Nat) (v : BitVec 32) : (writeAlarm s off v).wmem = s.wmem := by
  unfold writeAlarm
  (repeat' split) <;> simp
@[simp] theorem writePort_wmem (s : State) (portB : Bool) (off : Nat) (v : BitVec 32) :
    (writePort s portB off v).wmem = s.wmem := by unfold writePort; split <;> simp

end Sys2Proof.Machine
end

section
/-! Working memory: the operations that may write or clear it keep its canonical form. -/

namespace Sys2Proof.Machine

open Host

theorem wf_foldl {α : Type} {f : State → α → State}
    (hf : ∀ s x, Memory.wf s.wmem = true → Memory.wf (f s x).wmem = true)
    (l : List α) {s : State} (hs : Memory.wf s.wmem = true) : Memory.wf (l.foldl f s).wmem = true := by
  induction l generalizing s with
  | nil => exact hs
  | cons x l ih => exact ih (hf s x hs)


/-- A step of a service's work keeps the canonical form of working memory, however it ends. -/
def Svc.KeepsForm {α : Type} (b : Svc α) : Prop :=
  ∀ v : Sv, Memory.wf v.s.wmem = true → Memory.wf (b.run.run v).2.s.wmem = true

theorem Svc.KeepsForm.work {α : Type} {b : Svc α} (hb : b.KeepsForm) {s : State} (hs : Memory.wf s.wmem = true)
    (e : Nat) (c : Cmd) :
    Memory.wf (work b s e c).2.s.wmem = true := hb ⟨s, e, c⟩ hs

@[simp] theorem wf_writeCompletion_afterWrite (s : State) (c : Cmd) (hs : Memory.wf s.wmem = true) :
    Memory.wf (writeCompletion.afterWrite s c).wmem = true := by
  unfold writeCompletion.afterWrite
  dsimp only
  (repeat' split) <;> simp [wf_nil, hs]


@[simp] theorem wf_installSlot (s : State) (n : Nat) (f : SlotFields) (st : SlotState)
    (hs : Memory.wf s.wmem = true) : Memory.wf (installSlot s n f st).wmem = true := by
  simp [installSlot, wf_zeroData, hs]
@[simp] theorem wf_restoreSlot (s : State) (n : Nat) (f : SlotFields) (header body : Octets)
    (hs : Memory.wf s.wmem = true) : Memory.wf (restoreSlot s n f header body).wmem = true := by
  unfold restoreSlot
  dsimp only
  rw [restoreMsix_wmem, foldl_wmem fun s _ => s.setPh_wmem _ _, restoreCounters_wmem]
  exact wf_installSlot _ _ _ _ hs
@[simp] theorem wf_releaseSlot (s : State) (n : Nat) (hs : Memory.wf s.wmem = true) :
    Memory.wf (releaseSlot s n).wmem = true := by
  unfold releaseSlot
  split <;> simp [wf_zeroData, hs]
@[simp] theorem wf_applyEffect (s : State) (f : Effect) (hs : Memory.wf s.wmem = true) :
    Memory.wf (applyEffect s f).wmem = true := by unfold applyEffect; split <;> simp [hs]
@[simp] theorem wf_applyEffects (s : State) (l : List Effect) (hs : Memory.wf s.wmem = true) :
    Memory.wf (applyEffects s l).wmem = true := by
  exact wf_foldl (fun s f h => wf_applyEffect s f h) _ hs
@[simp] theorem wf_commitNow (s : State) (e : Nat) (c : Cmd) (hs : Memory.wf s.wmem = true) :
    Memory.wf (commitNow s e c).wmem = true := by
  unfold commitNow
  dsimp only
  (repeat' split) <;> simp [hs]
@[simp] theorem wf_commitOrWait (s : State) (e : Nat) (c : Cmd) (hs : Memory.wf s.wmem = true) :
    Memory.wf (commitOrWait s e c).wmem = true := by
  unfold commitOrWait
  (repeat' split) <;> simp [hs]
@[simp] theorem wf_handOff (s : State) (src e : Nat) (hs : Memory.wf s.wmem = true) :
    Memory.wf (handOff s src e).wmem = true := by
  unfold handOff
  dsimp only
  (repeat' split) <;> simp [hs]
@[simp] theorem wf_completeWith (s : State) (e : Nat) (st : Code) (hs : Memory.wf s.wmem = true) :
    Memory.wf (completeWith s e st).wmem = true := by unfold completeWith; split <;> simp [hs]
@[simp] theorem wf_finishOn (s : State) (k : Nat) (hs : Memory.wf s.wmem = true) :
    Memory.wf (finishOn s k).wmem = true := by unfold finishOn; split <;> simp [hs]
@[simp] theorem wf_programFaultAt (s : State) (k cause : Nat) (hs : Memory.wf s.wmem = true) :
    Memory.wf (programFaultAt s k cause).wmem = true := by unfold programFaultAt; split <;> simp [hs]
@[simp] theorem wf_takeEvent (s : State) (k : Nat) (c : Core) (cause : Nat) (rpt slot : Bool) (epc : BitVec 25)
    (hs : Memory.wf s.wmem = true) : Memory.wf (takeEvent s k c cause rpt slot epc).wmem = true := by
  unfold takeEvent
  (repeat' split) <;> simp [hs]
@[simp] theorem wf_settle (s : State) (k : Nat) (c : Core) (len : Nat) (target : Option (BitVec 25))
    (hs : Memory.wf s.wmem = true) : Memory.wf (settle s k c len target).wmem = true := by
  unfold settle
  dsimp only
  (repeat' split) <;> simp [hs]
@[simp] theorem wf_conclude (s : State) (k len : Nat) (a : Act) (hs : Memory.wf s.wmem = true) :
    Memory.wf (conclude s k len a).wmem = true := by
  unfold conclude
  dsimp only
  (repeat' split) <;> simp [hs]
@[simp] theorem wf_runInsn (s : State) (k len : Nat) (f : Core → Act) (hs : Memory.wf s.wmem = true) :
    Memory.wf (runInsn s k len f).wmem = true := by unfold runInsn; split <;> simp [hs]
@[simp] theorem wf_runAlu (s : State) (k len : Nat) (f : Core → List (Nat × W36)) (hs : Memory.wf s.wmem = true) :
    Memory.wf (runAlu s k len f).wmem = true := by simp [runAlu, hs]
@[simp] theorem wf_issuePiece (s : State) (k : Nat) (read : Bool) (b near : Nat) (far total : Nat) (done : Nat)
    (hs : Memory.wf s.wmem = true) : Memory.wf (issuePiece s k read b near far total done).wmem = true := by
  unfold issuePiece
  dsimp only
  (repeat' split) <;> simp [hs]
@[simp] theorem wf_startMove (s : State) (k : Nat) (read : Bool) (seg d : Nat) (a b : Nat)
    (hs : Memory.wf s.wmem = true) : Memory.wf (startMove s k read seg d a b).wmem = true := by
  unfold startMove
  dsimp only
  (repeat' split) <;> simp [hs]
@[simp] theorem wf_moduleFault (s : State) (hs : Memory.wf s.wmem = true) : Memory.wf (moduleFault s).wmem = true := by
  unfold moduleFault
  split <;> simp [wf_nil, hs]
@[simp] theorem wf_writeCompletion (s : State) (e : Nat) (hs : Memory.wf s.wmem = true) :
    Memory.wf (writeCompletion s e).wmem = true := by
  unfold writeCompletion
  split
  · exact hs
  · split
    · split <;> simp [hs]
    · split
      · exact hs
      · simp only [writeCompletion.dirtyWrite]
        (repeat' split) <;> simp [hs]
@[simp] theorem wf_requeue (s : State) (e : Nat) (c : Cmd) (hs : Memory.wf s.wmem = true) :
    Memory.wf (requeue s e c).wmem = true := by
  unfold requeue
  dsimp only
  split <;> simp [wf_place, hs]
@[simp] theorem wf_runService (s : State) (k : Nat) (op : Code) (charge : Bool) (waitUs : Nat) {body : Svc Octets}
    (hb : body.KeepsForm) (hs : Memory.wf s.wmem = true) :
    Memory.wf (runService s k op charge waitUs body).wmem = true := by
  unfold runService
  split
  · exact hs
  · rename_i e c _
    split
    · exact hs
    · have h := hb ⟨s, e, c⟩ hs
      generalize body.run.run ⟨s, e, c⟩ = rv at h ⊢
      obtain ⟨r, v⟩ := rv
      dsimp only at h ⊢
      (repeat' split) <;> simp [h]
@[simp] theorem wf_beginFailure (s : State) (hs : Memory.wf s.wmem = true) :
    Memory.wf (beginFailure s).wmem = true := by
  unfold beginFailure
  dsimp only
  rw [eventF_wmem]
  refine wf_foldl (fun s e h => ?_) _ hs
  (repeat' split) <;> simp [h]
@[simp] theorem wf_reviewCauses (s : State) (hs : Memory.wf s.wmem = true) :
    Memory.wf (reviewCauses s).wmem = true := by
  unfold reviewCauses
  dsimp only
  (repeat' split) <;> simp [hs]
@[simp] theorem wf_finishHeld (s : State) (e : Nat) (st : Code) (out : Octets) (hs : Memory.wf s.wmem = true) :
    Memory.wf (finishHeld s e st out).wmem = true := by
  unfold finishHeld
  (repeat' split) <;> simp [hs]
@[simp] theorem wf_endUndispatched (s : State) (which : Cmd → Bool) (st : Code) (hs : Memory.wf s.wmem = true) :
    Memory.wf (endUndispatched s which st).wmem = true := by
  exact wf_foldl (fun s x h => wf_completeWith _ _ _ (by rwa [unselect_wmem])) _ hs
@[simp] theorem wf_beginDestroy (s : State) (n e : Nat) (x : Slot) (hs : Memory.wf s.wmem = true) :
    Memory.wf (beginDestroy s n e x).wmem = true := by
  have hends (t : State) (l : List Nat) (ht : t.wmem = s.wmem) : Memory.wf
      (endUndispatched (l.foldl (fun s m => s.setPh m { s.ph m with credits := 0 }) t) (fun c => c.slot == n) cancelledSt).wmem = true :=
    wf_endUndispatched _ _ _ (by rwa [foldl_wmem fun s _ => s.setPh_wmem _ _, ht])
  unfold beginDestroy
  dsimp only
  split
  · exact wf_finishHeld _ _ _ _ (hends _ _ rfl)
  · exact hends _ _ rfl
@[simp] theorem wf_releaseStalled (s : State) (hs : Memory.wf s.wmem = true) :
    Memory.wf (releaseStalled s).wmem = true := by
  refine wf_foldl (fun s x h => ?_) _ hs
  (repeat' split) <;> simp [h]
@[simp] theorem wf_completeReplayed (s : State) (e : Nat) (c : Cmd) (r : Replay) (hs : Memory.wf s.wmem = true) :
    Memory.wf (completeReplayed s e c r).wmem = true := by simp [completeReplayed, hs]
@[simp] theorem wf_takeIn (s : State) (e : Nat) (c : Cmd) (hs : Memory.wf s.wmem = true) :
    Memory.wf (takeIn s e c).wmem = true := by
  unfold takeIn
  dsimp only
  (repeat' split) <;> simp [wf_place, hs]
@[simp] theorem wf_returnLost (s : State) (e : Nat) (hs : Memory.wf s.wmem = true) :
    Memory.wf (returnLost s e).wmem = true := by
  unfold returnLost
  split <;> simp [wf_clearScratch, hs]
@[simp] theorem wf_clusterLost (s : State) (cl : Nat) (hs : Memory.wf s.wmem = true) :
    Memory.wf (clusterLost s cl).wmem = true := by
  unfold clusterLost
  split
  · exact hs
  · split
    · exact hs
    · dsimp only
      split <;> simp only [takeNumber_wmem, resteer_wmem, setLogical_wmem] <;>
        exact wf_foldl wf_returnLost _ (by simp [foldl_wmem, hs])
@[simp] theorem wf_failCmd (s : State) (e : Nat) (st : Code) (hs : Memory.wf s.wmem = true) :
    Memory.wf (failCmd s e st).wmem = true := by
  unfold failCmd
  (repeat' split) <;> simp [hs]
@[simp] theorem wf_loseCopy (s : State) (i : Nat) (hs : Memory.wf s.wmem = true) :
    Memory.wf (loseCopy s i).wmem = true := by
  unfold loseCopy
  dsimp only
  (repeat' split) <;> simp [hs]
@[simp] theorem wf_retireChannel (s : State) (ch : Nat) (hs : Memory.wf s.wmem = true) :
    Memory.wf (retireChannel s ch).wmem = true := by
  exact wf_foldl wf_loseCopy _ (wf_foldl (fun s e h => wf_failCmd s e _ h) _ (by simpa using hs))
@[simp] theorem wf_commitAlone (s : State) (hs : Memory.wf s.wmem = true) :
    Memory.wf (commitAlone s).wmem = true := by simp [commitAlone, hs]
@[simp] theorem wf_abortSwap (s : State) (st : Code) (hs : Memory.wf s.wmem = true) :
    Memory.wf (abortSwap s st).wmem = true := by unfold abortSwap; split <;> simp [hs]
@[simp] theorem wf_runAlone (s : State) (hs : Memory.wf s.wmem = true) :
    Memory.wf (runAlone s).wmem = true := by unfold runAlone; split <;> simp [hs]
@[simp] theorem wf_enterRole (s : State) (m : Mode) (trigger : Code) (hs : Memory.wf s.wmem = true) :
    Memory.wf (enterRole s m trigger).wmem = true := by unfold enterRole; dsimp only; split <;> simp [hs]
@[simp] theorem wf_takeOver (s : State) (trigger : Code) (hs : Memory.wf s.wmem = true) :
    Memory.wf (takeOver s trigger).wmem = true := by simp [takeOver, hs]
@[simp] theorem wf_serveAlone (s : State) (hs : Memory.wf s.wmem = true) :
    Memory.wf (serveAlone s).wmem = true := by unfold serveAlone; split <;> simp [hs]
@[simp] theorem wf_crownTaken (s : State) (k : TakeKind) (hs : Memory.wf s.wmem = true) :
    Memory.wf (crownTaken s k).wmem = true := by
  unfold crownTaken
  dsimp only
  (repeat' split) <;> simp [hs]
@[simp] theorem wf_takeAlone (s : State) (peerIn : Bool) (hs : Memory.wf s.wmem = true) :
    Memory.wf (takeAlone s peerIn).wmem = true := by
  unfold takeAlone
  (repeat' split) <;> simp [hs]
@[simp] theorem wf_loseCrown (s : State) (hs : Memory.wf s.wmem = true) :
    Memory.wf (loseCrown s).wmem = true := by simp [loseCrown, hs]
@[simp] theorem wf_joinAsStandby (s : State) (h : HelloMsg) (hs : Memory.wf s.wmem = true) :
    Memory.wf (joinAsStandby s h).wmem = true := by simp [joinAsStandby, hs]
@[simp] theorem wf_tryJoin (s : State) (h : HelloMsg) (hs : Memory.wf s.wmem = true) :
    Memory.wf (tryJoin s h).wmem = true := by unfold tryJoin; split <;> simp [hs]
@[simp] theorem wf_pairDecide (s : State) (peerIn : Bool) (hs : Memory.wf s.wmem = true) :
    Memory.wf (pairDecide s peerIn).wmem = true := by
  unfold pairDecide
  dsimp only
  (repeat' split) <;> simp [hs]
@[simp] theorem wf_decideDown (s : State) (peerIn : Bool) (hs : Memory.wf s.wmem = true) :
    Memory.wf (decideDown s peerIn).wmem = true := by unfold decideDown; split <;> simp [hs]
@[simp] theorem wf_startCommand (s : State) (k e : Nat) (c : Cmd) (hs : Memory.wf s.wmem = true) :
    Memory.wf (startCommand s k e c).wmem = true := by unfold startCommand; split <;> simp [hs]
@[simp] theorem wf_tryDispatch (s : State) (k : Nat) (hs : Memory.wf s.wmem = true) :
    Memory.wf (tryDispatch s k).wmem = true := by
  unfold tryDispatch
  dsimp only
  (repeat' split) <;> simp [hs]
@[simp] theorem wf_doneCustom (s : State) (k e : Nat) (c : Cmd) (a b : W36) (hs : Memory.wf s.wmem = true) :
    Memory.wf (doneCustom s k e c a b).wmem = true := by
  unfold doneCustom
  dsimp only
  (repeat' split) <;> simp [hs]
@[simp] theorem wf_doneStandard (s : State) (k e : Nat) (c : Cmd) (seen : Bool) (hs : Memory.wf s.wmem = true) :
    Memory.wf (doneStandard s k e c seen).wmem = true := by
  unfold doneStandard
  dsimp only
  (repeat' split) <;> simp [hs]
@[simp] theorem wf_sessionReady (s : State) (h : HelloMsg) (hs : Memory.wf s.wmem = true) :
    Memory.wf (sessionReady s h).wmem = true := by
  unfold sessionReady
  dsimp only
  (repeat' split) <;> simp [hs]
@[simp] theorem wf_mirrorSlot (s : State) (n : Nat) (f : SlotFields) (c : BitVec 2) (hs : Memory.wf s.wmem = true) :
    Memory.wf (mirrorSlot s n f c).wmem = true := by
  unfold mirrorSlot
  dsimp only
  (repeat' split) <;> simp [wf_zeroData, hs]
@[simp] theorem wf_mirrorWrite (s : State) (w : MirrorWrite) (hs : Memory.wf s.wmem = true) :
    Memory.wf (mirrorWrite s w).wmem = true := by
  unfold mirrorWrite
  (repeat' split) <;> simp [hs]
@[simp] theorem wf_applyChunk (s : State) (c : BulkChunk) (hs : Memory.wf s.wmem = true) :
    Memory.wf (applyChunk s c).wmem = true := by
  unfold applyChunk
  split
  · exact hs
  · exact hs
  · exact wf_foldl (fun s x h => wf_mirrorSlot s _ _ _ h) _ hs
  · rw [foldl_wmem (by simp)]; exact hs
  · exact hs
  · exact hs
@[simp] theorem wf_takeDetach (s : State) (hs : Memory.wf s.wmem = true) : Memory.wf (takeDetach s).wmem = true := by
  unfold takeDetach
  (repeat' split) <;> simp [hs]
@[simp] theorem wf_takeDetachAck (s : State) (hs : Memory.wf s.wmem = true) :
    Memory.wf (takeDetachAck s).wmem = true := by unfold takeDetachAck; split <;> simp [hs]
@[simp] theorem wf_afterLayout (s : State) (hs : Memory.wf s.wmem = true) : Memory.wf (afterLayout s).wmem = true := by
  unfold afterLayout
  (repeat' split) <;> simp [hs]
@[simp] theorem wf_keyRequest (s : State) (k : Nat) (customMay fieldsOk : Bool) {body : Nat → Svc KeyDone}
    (hb : ∀ e, (body e).KeepsForm) (hs : Memory.wf s.wmem = true) :
    Memory.wf (keyRequest s k customMay fieldsOk body).wmem = true := by
  unfold keyRequest
  split
  · exact hs
  · rename_i e c _
    have h := hb e ⟨s, e, c⟩ hs
    generalize (body e).run.run ⟨s, e, c⟩ = rv at h ⊢
    obtain ⟨r, v⟩ := rv
    dsimp only at h ⊢
    (repeat' split) <;> simp [h, hs]
@[simp] theorem wf_beginDrain (s : State) (e : Nat) (hs : Memory.wf s.wmem = true) :
    Memory.wf (beginDrain s e).wmem = true := by simp [beginDrain, hs]
@[simp] theorem wf_wmuRun (s : State) (k : Nat) (f : Core → Act) (hs : Memory.wf s.wmem = true) :
    Memory.wf (wmuRun s k f).wmem = true := by simp [wmuRun, hs]

end Sys2Proof.Machine
end

section
/-! Working memory: every step of a service's or a key-unit request's work keeps its canonical form. -/

namespace Sys2Proof.Machine

open Host

theorem keepsForm_bind {α β : Type} {x : Svc α} {f : α → Svc β} (hx : x.KeepsForm) (hf : ∀ a, (f a).KeepsForm) :
    (x >>= f).KeepsForm := by
  intro v hv
  have hxv := hx v hv
  have hbind := work_bind x f v.s v.e v.c
  unfold work at hbind
  rw [hbind]
  generalize (x.run).run v = rv at hxv ⊢
  obtain ⟨r, w⟩ := rv
  cases r with
  | ok a => exact hf a w hxv
  | error y => exact hxv

/-- What is read with `get` is in canonical form. -/
theorem keepsForm_get_bind {β : Type} {f : Sv → Svc β} (hf : ∀ v, Memory.wf v.s.wmem = true → (f v).KeepsForm) :
    ((get : Svc Sv) >>= f).KeepsForm := fun v hv => hf v hv v hv

@[simp] theorem keepsForm_pure {α : Type} (a : α) : (pure a : Svc α).KeepsForm := fun _ hv => hv
@[simp] theorem keepsForm_throw {α : Type} (y : Stop) : (throw y : Svc α).KeepsForm := fun _ hv => hv
@[simp] theorem keepsForm_get : (get : Svc Sv).KeepsForm := fun _ hv => hv
@[simp] theorem keepsForm_set {w : Sv} (hw : Memory.wf w.s.wmem = true) : (set w : Svc PUnit).KeepsForm := fun _ _ => hw
@[simp] theorem keepsForm_map {α β : Type} {g : α → β} {x : Svc α} (hx : x.KeepsForm) : (g <$> x).KeepsForm := by
  rw [← bind_pure_comp]
  exact keepsForm_bind hx fun _ => keepsForm_pure _

@[simp] theorem keepsForm_fail {α : Type} (st : Code) : (fail st : Svc α).KeepsForm := keepsForm_throw _
@[simp] theorem keepsForm_need (b : Bool) (st : Code) : (need b st).KeepsForm := by
  simp only [need]
  repeat' (first
    | with_reducible refine keepsForm_get_bind fun v hv => ?_ | with_reducible refine keepsForm_bind ?_ fun _ => ?_
    | split | simp [*])
@[simp] theorem keepsForm_getS  : (getS ).KeepsForm := by
  exact fun _ hv => hv
@[simp] theorem keepsForm_getC  : (getC ).KeepsForm := by
  exact fun _ hv => hv
@[simp] theorem keepsForm_getIn  : (getIn ).KeepsForm := by
  exact fun _ hv => hv
@[simp] theorem keepsForm_modS {f : State → State} (hf : ∀ s, Memory.wf s.wmem = true → Memory.wf (f s).wmem = true) :
    (modS f).KeepsForm := fun v hv => hf v.s hv
@[simp] theorem keepsForm_modC (f : Cmd → Cmd) : (modC f).KeepsForm := by
  exact fun _ hv => hv
@[simp] theorem keepsForm_liftE {α : Type} (x : Except Code α) :
    (liftE x).KeepsForm := by cases x <;> exact fun _ hv => hv
@[simp] theorem keepsForm_capacity (n : Nat) : (capacity n).KeepsForm := by
  simp only [capacity]
  repeat' (first
    | with_reducible refine keepsForm_get_bind fun v hv => ?_ | with_reducible refine keepsForm_bind ?_ fun _ => ?_
    | split | simp [*])
@[simp] theorem keepsForm_random (n : Nat) (pr : Bool) (add : Octets) : (random n pr add).KeepsForm := by
  simp only [random]
  repeat' (first
    | with_reducible refine keepsForm_get_bind fun v hv => ?_ | with_reducible refine keepsForm_bind ?_ fun _ => ?_
    | split | simp [*])
@[simp] theorem keepsForm_randomFrom (i n : Nat) : (randomFrom i n).KeepsForm := by
  simp only [randomFrom]
  repeat' (first
    | with_reducible refine keepsForm_get_bind fun v hv => ?_ | with_reducible refine keepsForm_bind ?_ fun _ => ?_
    | split | simp [*])
@[simp] theorem keepsForm_journalled  : (journalled ).KeepsForm := by
  simp only [journalled]
  repeat' (first
    | with_reducible refine keepsForm_get_bind fun v hv => ?_ | with_reducible refine keepsForm_bind ?_ fun _ => ?_
    | split | simp [*])
@[simp] theorem keepsForm_needGrant  : (needGrant ).KeepsForm := by
  simp only [needGrant]
  repeat' (first
    | with_reducible refine keepsForm_get_bind fun v hv => ?_ | with_reducible refine keepsForm_bind ?_ fun _ => ?_
    | split | simp [*])
@[simp] theorem keepsForm_inModes (l : List Mode) : (inModes l).KeepsForm := by
  simp only [inModes]
  repeat' (first
    | with_reducible refine keepsForm_get_bind fun v hv => ?_ | with_reducible refine keepsForm_bind ?_ fun _ => ?_
    | split | simp [*])
@[simp] theorem keepsForm_resolveKey (r : KeyRef) : (resolveKey r).KeepsForm := by
  simp only [resolveKey]
  repeat' (first
    | with_reducible refine keepsForm_get_bind fun v hv => ?_ | with_reducible refine keepsForm_bind ?_ fun _ => ?_
    | split | simp [*])
@[simp] theorem keepsForm_takeRefs (ikExport : Bool) (n : Nat) (o : Octets) : (takeRefs ikExport n o).KeepsForm := by
  induction n generalizing o with
  | zero => exact keepsForm_pure _
  | succ n ih =>
    exact keepsForm_bind keepsForm_get fun v => keepsForm_bind (keepsForm_liftE _) fun r =>
      keepsForm_bind (ih _) fun _ => keepsForm_pure _
@[simp] theorem keepsForm_needKey (k : KeyVal) (usages : List String) (modes : String) (alg : Nat → Bool) :
    (needKey k usages modes alg).KeepsForm := by
  simp only [needKey]
  repeat' (first
    | with_reducible refine keepsForm_get_bind fun v hv => ?_ | with_reducible refine keepsForm_bind ?_ fun _ => ?_
    | split | simp [*])
@[simp] theorem keepsForm_svcArraySelftest (failLanes : BitVec 64) (failHash : BitVec 16) :
    (svcArraySelftest failLanes failHash).KeepsForm := by
  simp only [svcArraySelftest]
  repeat' (first
    | with_reducible refine keepsForm_bind ?_ fun _ => ?_ | with_reducible refine keepsForm_modS fun s hs => ?_
    | simp)
  all_goals rwa [foldl_wmem fun s n => by split <;> simp]
@[simp] theorem keepsForm_goOffline  : (goOffline ).KeepsForm := by
  simp only [goOffline]
  repeat' (first
    | with_reducible refine keepsForm_get_bind fun v hv => ?_ | with_reducible refine keepsForm_bind ?_ fun _ => ?_
    | split | simp [*])
@[simp] theorem keepsForm_svcRngSelftest (condPass : BitVec 64) (dfPass : BitVec 4) (expPass : BitVec 4) :
    (svcRngSelftest condPass dfPass expPass).KeepsForm := by
  simp only [svcRngSelftest]
  repeat' (first
    | with_reducible refine keepsForm_bind ?_ fun _ => ?_ | with_reducible refine keepsForm_modS fun s hs => ?_
    | simp)
  · rwa [foldl_wmem fun s n => by split <;> simp]
  · rwa [foldl_wmem (by simp)]
  · simp [hs]
@[simp] theorem keepsForm_svcRngStatus  : (svcRngStatus ).KeepsForm := by
  simp only [svcRngStatus]
  repeat' (first
    | with_reducible refine keepsForm_get_bind fun v hv => ?_ | with_reducible refine keepsForm_bind ?_ fun _ => ?_
    | split | simp [*])
@[simp] theorem keepsForm_svcRngConfig (passed : BitVec 64) : (svcRngConfig passed).KeepsForm := by
  simp only [svcRngConfig]
  repeat' (first
    | with_reducible refine keepsForm_bind ?_ fun _ => ?_ | with_reducible refine keepsForm_modS fun s hs => ?_
    | simp)
  · rwa [foldl_wmem fun s n => by split <;> simp]
  · simp [hs]
@[simp] theorem keepsForm_svcRngRawRead  : (svcRngRawRead ).KeepsForm := by
  simp only [svcRngRawRead]
  repeat' (first
    | with_reducible refine keepsForm_get_bind fun v hv => ?_ | with_reducible refine keepsForm_bind ?_ fun _ => ?_
    | split | simp [*])
@[simp] theorem keepsForm_svcBatteryLog  : (svcBatteryLog ).KeepsForm := by
  simp only [svcBatteryLog]
  repeat' (first
    | with_reducible refine keepsForm_get_bind fun v hv => ?_ | with_reducible refine keepsForm_bind ?_ fun _ => ?_
    | split | simp [*])
@[simp] theorem keepsForm_svcTamperConfig (levels : BitVec 4) : (svcTamperConfig levels).KeepsForm := by
  simp only [svcTamperConfig]
  repeat' (first
    | with_reducible refine keepsForm_get_bind fun v hv => ?_ | with_reducible refine keepsForm_bind ?_ fun _ => ?_
    | split | simp [*])
@[simp] theorem keepsForm_svcDryFire (raw : Bool) : (svcDryFire raw).KeepsForm := by
  simp only [svcDryFire]
  repeat' (first
    | with_reducible refine keepsForm_get_bind fun v hv => ?_ | with_reducible refine keepsForm_bind ?_ fun _ => ?_
    | split | simp [*])
@[simp] theorem keepsForm_svcQuorumChallenge  : (svcQuorumChallenge ).KeepsForm := by
  simp only [svcQuorumChallenge]
  repeat' (first
    | with_reducible refine keepsForm_get_bind fun v hv => ?_ | with_reducible refine keepsForm_bind ?_ fun _ => ?_
    | split | simp [*])
@[simp] theorem keepsForm_svcQuorumGrant  : (svcQuorumGrant ).KeepsForm := by
  simp only [svcQuorumGrant]
  repeat' (first
    | with_reducible refine keepsForm_get_bind fun v hv => ?_ | with_reducible refine keepsForm_bind ?_ fun _ => ?_
    | split | simp [*])
@[simp] theorem keepsForm_svcUnlock  : (svcUnlock ).KeepsForm := by
  simp only [svcUnlock]
  repeat' (first
    | with_reducible refine keepsForm_get_bind fun v hv => ?_ | with_reducible refine keepsForm_bind ?_ fun _ => ?_
    | split | simp [*])
@[simp] theorem keepsForm_takeSlot (n : Nat) (f : SlotFields) : (takeSlot n f).KeepsForm := by
  simp only [takeSlot]
  repeat' (first
    | with_reducible refine keepsForm_get_bind fun v hv => ?_ | with_reducible refine keepsForm_bind ?_ fun _ => ?_
    | split | simp [*])
@[simp] theorem keepsForm_svcSlotCreate  : (svcSlotCreate ).KeepsForm := by
  simp only [svcSlotCreate]
  repeat' (first
    | with_reducible refine keepsForm_get_bind fun v hv => ?_ | with_reducible refine keepsForm_bind ?_ fun _ => ?_
    | split | simp [*])
@[simp] theorem keepsForm_namedSlot (n : Nat) : (namedSlot n).KeepsForm := by
  simp only [namedSlot]
  repeat' (first
    | with_reducible refine keepsForm_get_bind fun v hv => ?_ | with_reducible refine keepsForm_bind ?_ fun _ => ?_
    | split | simp [*])
@[simp] theorem keepsForm_svcSlotQuiesce  : (svcSlotQuiesce ).KeepsForm := by
  simp only [svcSlotQuiesce]
  repeat' (first
    | with_reducible refine keepsForm_get_bind fun v hv => ?_ | with_reducible refine keepsForm_bind ?_ fun _ => ?_
    | with_reducible refine keepsForm_modS fun s hs => ?_ | split | simp [*])
  rwa [foldl_wmem (by simp)]
@[simp] theorem keepsForm_svcSlotResume  : (svcSlotResume ).KeepsForm := by
  simp only [svcSlotResume]
  repeat' (first
    | with_reducible refine keepsForm_get_bind fun v hv => ?_ | with_reducible refine keepsForm_bind ?_ fun _ => ?_
    | split | simp [*])
@[simp] theorem keepsForm_svcSlotDestroy  : (svcSlotDestroy ).KeepsForm := by
  simp only [svcSlotDestroy]
  repeat' (first
    | with_reducible refine keepsForm_get_bind fun v hv => ?_ | with_reducible refine keepsForm_bind ?_ fun _ => ?_
    | with_reducible refine keepsForm_modS fun s hs => ?_ | split | simp [*])
@[simp] theorem keepsForm_svcDirty {act : Octets → Nat → Slot → Svc Octets} (ha : ∀ i n x, (act i n x).KeepsForm) :
    (svcDirty act).KeepsForm := by
  simp only [svcDirty]
  repeat' (first
    | with_reducible refine keepsForm_get_bind fun v hv => ?_ | with_reducible refine keepsForm_bind ?_ fun _ => ?_
    | split | simp [*])
@[simp] theorem keepsForm_svcLogEnable (i : Octets) (n : Nat) (x : Slot) : (svcLogEnable i n x).KeepsForm := by
  simp only [svcLogEnable]
  repeat' (first
    | with_reducible refine keepsForm_get_bind fun v hv => ?_ | with_reducible refine keepsForm_bind ?_ fun _ => ?_
    | split | simp [*])
@[simp] theorem keepsForm_svcHarvest (_i : Octets) (n : Nat) (x : Slot) : (svcHarvest _i n x).KeepsForm := by
  simp only [svcHarvest]
  repeat' (first
    | with_reducible refine keepsForm_get_bind fun v hv => ?_ | with_reducible refine keepsForm_bind ?_ fun _ => ?_
    | split | simp [*])
@[simp] theorem keepsForm_svcLogDisable (_i : Octets) (n : Nat) (x : Slot) : (svcLogDisable _i n x).KeepsForm := by
  simp only [svcLogDisable]
  repeat' (first
    | with_reducible refine keepsForm_get_bind fun v hv => ?_ | with_reducible refine keepsForm_bind ?_ fun _ => ?_
    | split | simp [*])
@[simp] theorem keepsForm_svcSlotSave  : (svcSlotSave ).KeepsForm := by
  simp only [svcSlotSave]
  repeat' (first
    | with_reducible refine keepsForm_get_bind fun v hv => ?_ | with_reducible refine keepsForm_bind ?_ fun _ => ?_
    | split | simp [*])
@[simp] theorem keepsForm_svcSlotRestore  : (svcSlotRestore ).KeepsForm := by
  simp only [svcSlotRestore]
  repeat' (first
    | with_reducible refine keepsForm_get_bind fun v hv => ?_ | with_reducible refine keepsForm_bind ?_ fun _ => ?_
    | split | simp [*])
@[simp] theorem keepsForm_svcCounterRead  : (svcCounterRead ).KeepsForm := by
  simp only [svcCounterRead]
  repeat' (first
    | with_reducible refine keepsForm_get_bind fun v hv => ?_ | with_reducible refine keepsForm_bind ?_ fun _ => ?_
    | split | simp [*])
@[simp] theorem keepsForm_identitySign (k : Nat) (msg : Octets) : (identitySign k msg).KeepsForm := by
  simp only [identitySign]
  repeat' (first
    | with_reducible refine keepsForm_get_bind fun v hv => ?_ | with_reducible refine keepsForm_bind ?_ fun _ => ?_
    | split | simp [*])
@[simp] theorem keepsForm_openCeremony  : (openCeremony ).KeepsForm := by
  simp only [openCeremony]
  repeat' (first
    | with_reducible refine keepsForm_get_bind fun v hv => ?_ | with_reducible refine keepsForm_bind ?_ fun _ => ?_
    | split | simp [*])
@[simp] theorem keepsForm_setCeremony (c : Ceremony) : (setCeremony c).KeepsForm := by
  simp only [setCeremony]
  repeat' (first
    | with_reducible refine keepsForm_get_bind fun v hv => ?_ | with_reducible refine keepsForm_bind ?_ fun _ => ?_
    | split | simp [*])
@[simp] theorem keepsForm_officerOf (i : Nat) : (officerOf i).KeepsForm := by
  simp only [officerOf]
  repeat' (first
    | with_reducible refine keepsForm_get_bind fun v hv => ?_ | with_reducible refine keepsForm_bind ?_ fun _ => ?_
    | split | simp [*])
@[simp] theorem keepsForm_ceremonyStart  : (ceremonyStart ).KeepsForm := by
  simp only [ceremonyStart]
  repeat' (first
    | with_reducible refine keepsForm_get_bind fun v hv => ?_ | with_reducible refine keepsForm_bind ?_ fun _ => ?_
    | split | simp [*])
@[simp] theorem keepsForm_svcCeremonyBegin (k : CoreId) : (svcCeremonyBegin k).KeepsForm := by
  simp only [svcCeremonyBegin]
  repeat' (first
    | with_reducible refine keepsForm_get_bind fun v hv => ?_ | with_reducible refine keepsForm_bind ?_ fun _ => ?_
    | split | simp [*])
@[simp] theorem keepsForm_svcShareExport  : (svcShareExport ).KeepsForm := by
  simp only [svcShareExport]
  repeat' (first
    | with_reducible refine keepsForm_get_bind fun v hv => ?_ | with_reducible refine keepsForm_bind ?_ fun _ => ?_
    | split | simp [*])
@[simp] theorem keepsForm_svcShareSubmit  : (svcShareSubmit ).KeepsForm := by
  simp only [svcShareSubmit]
  repeat' (first
    | with_reducible refine keepsForm_get_bind fun v hv => ?_ | with_reducible refine keepsForm_bind ?_ fun _ => ?_
    | split | simp [*])
@[simp] theorem keepsForm_svcCeremonyCommit  : (svcCeremonyCommit ).KeepsForm := by
  simp only [svcCeremonyCommit]
  repeat' (first
    | with_reducible refine keepsForm_get_bind fun v hv => ?_ | with_reducible refine keepsForm_bind ?_ fun _ => ?_
    | split | simp [*])
@[simp] theorem keepsForm_svcDrErase  : (svcDrErase ).KeepsForm := by
  simp only [svcDrErase]
  repeat' (first
    | with_reducible refine keepsForm_get_bind fun v hv => ?_ | with_reducible refine keepsForm_bind ?_ fun _ => ?_
    | split | simp [*])
@[simp] theorem keepsForm_svcAttest (k : CoreId) : (svcAttest k).KeepsForm := by
  simp only [svcAttest]
  repeat' (first
    | with_reducible refine keepsForm_get_bind fun v hv => ?_ | with_reducible refine keepsForm_bind ?_ fun _ => ?_
    | split | simp [*])
@[simp] theorem keepsForm_svcFrankCert  : (svcFrankCert ).KeepsForm := by
  simp only [svcFrankCert]
  repeat' (first
    | with_reducible refine keepsForm_get_bind fun v hv => ?_ | with_reducible refine keepsForm_bind ?_ fun _ => ?_
    | split | simp [*])
@[simp] theorem keepsForm_needKbpk (k : KeyVal) (exporting : Bool) : (needKbpk k exporting).KeepsForm := by
  simp only [needKbpk]
  repeat' (first
    | with_reducible refine keepsForm_get_bind fun v hv => ?_ | with_reducible refine keepsForm_bind ?_ fun _ => ?_
    | split | simp [*])
@[simp] theorem keepsForm_needTemplate (t : Octets) : (needTemplate t).KeepsForm := by
  simp only [needTemplate]
  repeat' (first
    | with_reducible refine keepsForm_get_bind fun v hv => ?_ | with_reducible refine keepsForm_bind ?_ fun _ => ?_
    | split | simp [*])
@[simp] theorem keepsForm_allocate (limit : Nat) : (allocate limit).KeepsForm := by
  simp only [allocate]
  repeat' (first
    | with_reducible refine keepsForm_get_bind fun v hv => ?_ | with_reducible refine keepsForm_bind ?_ fun _ => ?_
    | split | simp [*])
@[simp] theorem keepsForm_envelopeOut (tmpl key : Octets) (cnum gen : Nat) :
    (envelopeOut tmpl key cnum gen).KeepsForm := by
  simp only [envelopeOut]
  repeat' (first
    | with_reducible refine keepsForm_get_bind fun v hv => ?_ | with_reducible refine keepsForm_bind ?_ fun _ => ?_
    | split | simp [*])
@[simp] theorem keepsForm_checkPinKey (r : KeyRef) (k : KeyVal) (f : Nat) (inSide : Bool) :
    (checkPinKey r k f inSide).KeepsForm := by
  simp only [checkPinKey]
  repeat' (first
    | with_reducible refine keepsForm_get_bind fun v hv => ?_ | with_reducible refine keepsForm_bind ?_ fun _ => ?_
    | split | simp [*])
@[simp] theorem keepsForm_pinTranslate  : (pinTranslate ).KeepsForm := by
  simp only [pinTranslate]
  repeat' (first
    | with_reducible refine keepsForm_get_bind fun v hv => ?_ | with_reducible refine keepsForm_bind ?_ fun _ => ?_
    | split | simp [*])
@[simp] theorem keepsForm_needPvk (k : KeyVal) (method : Nat) (modes : String) :
    (needPvk k method modes).KeepsForm := by
  simp only [needPvk]
  repeat' (first
    | with_reducible refine keepsForm_get_bind fun v hv => ?_ | with_reducible refine keepsForm_bind ?_ fun _ => ?_
    | split | simp [*])
@[simp] theorem keepsForm_needTable (method i : Nat) : (needTable method i).KeepsForm := by
  simp only [needTable]
  repeat' (first
    | with_reducible refine keepsForm_get_bind fun v hv => ?_ | with_reducible refine keepsForm_bind ?_ fun _ => ?_
    | split | simp [*])
@[simp] theorem keepsForm_verifyKeys (i : Octets) (hdr : Nat) (pvkModes : String) :
    (verifyKeys i hdr pvkModes).KeepsForm := by
  simp only [verifyKeys]
  repeat' (first
    | with_reducible refine keepsForm_get_bind fun v hv => ?_ | with_reducible refine keepsForm_bind ?_ fun _ => ?_
    | split | simp [*])
@[simp] theorem keepsForm_readPin (i : Octets) (k : KeyVal) (off : Nat) : (readPin i k off).KeepsForm := by
  simp only [readPin]
  repeat' (first
    | with_reducible refine keepsForm_get_bind fun v hv => ?_ | with_reducible refine keepsForm_bind ?_ fun _ => ?_
    | split | simp [*])
@[simp] theorem keepsForm_pinVerify  : (pinVerify ).KeepsForm := by
  simp only [pinVerify]
  repeat' (first
    | with_reducible refine keepsForm_get_bind fun v hv => ?_ | with_reducible refine keepsForm_bind ?_ fun _ => ?_
    | split | simp [*])
@[simp] theorem keepsForm_pinRefGenerate  : (pinRefGenerate ).KeepsForm := by
  simp only [pinRefGenerate]
  repeat' (first
    | with_reducible refine keepsForm_get_bind fun v hv => ?_ | with_reducible refine keepsForm_bind ?_ fun _ => ?_
    | split | simp [*])
@[simp] theorem keepsForm_pinChange  : (pinChange ).KeepsForm := by
  simp only [pinChange]
  repeat' (first
    | with_reducible refine keepsForm_get_bind fun v hv => ?_ | with_reducible refine keepsForm_bind ?_ fun _ => ?_
    | split | simp [*])
@[simp] theorem keepsForm_pinGenerate  : (pinGenerate ).KeepsForm := by
  simp only [pinGenerate]
  repeat' (first
    | with_reducible refine keepsForm_get_bind fun v hv => ?_ | with_reducible refine keepsForm_bind ?_ fun _ => ?_
    | split | simp [*])
@[simp] theorem keepsForm_cvcCode (gen : Bool) : (cvcCode gen).KeepsForm := by
  simp only [cvcCode]
  repeat' (first
    | with_reducible refine keepsForm_get_bind fun v hv => ?_ | with_reducible refine keepsForm_bind ?_ fun _ => ?_
    | split | simp [*])
@[simp] theorem keepsForm_svcCvcGenerate  : (svcCvcGenerate ).KeepsForm := by
  simp only [svcCvcGenerate]
  repeat' (first
    | with_reducible refine keepsForm_get_bind fun v hv => ?_ | with_reducible refine keepsForm_bind ?_ fun _ => ?_
    | split | simp [*])
@[simp] theorem keepsForm_svcCvcVerify  : (svcCvcVerify ).KeepsForm := by
  simp only [svcCvcVerify]
  repeat' (first
    | with_reducible refine keepsForm_get_bind fun v hv => ?_ | with_reducible refine keepsForm_bind ?_ fun _ => ?_
    | split | simp [*])
@[simp] theorem keepsForm_emvKey (r : EmvRole) (i : Octets) (k : KeyVal) : (emvKey r i k).KeepsForm := by
  simp only [emvKey]
  repeat' (first
    | with_reducible refine keepsForm_get_bind fun v hv => ?_ | with_reducible refine keepsForm_bind ?_ fun _ => ?_
    | split | simp [*])
@[simp] theorem keepsForm_emvParts (r : EmvRole) (refs : Nat) : (emvParts r refs).KeepsForm := by
  simp only [emvParts]
  repeat' (first
    | with_reducible refine keepsForm_get_bind fun v hv => ?_ | with_reducible refine keepsForm_bind ?_ fun _ => ?_
    | split | simp [*])
@[simp] theorem keepsForm_emvArqcVerify  : (emvArqcVerify ).KeepsForm := by
  simp only [emvArqcVerify]
  repeat' (first
    | with_reducible refine keepsForm_get_bind fun v hv => ?_ | with_reducible refine keepsForm_bind ?_ fun _ => ?_
    | split | simp [*])
@[simp] theorem keepsForm_svcEmvArpcGenerate  : (svcEmvArpcGenerate ).KeepsForm := by
  simp only [svcEmvArpcGenerate]
  repeat' (first
    | with_reducible refine keepsForm_get_bind fun v hv => ?_ | with_reducible refine keepsForm_bind ?_ fun _ => ?_
    | split | simp [*])
@[simp] theorem keepsForm_svcEmvScriptMac  : (svcEmvScriptMac ).KeepsForm := by
  simp only [svcEmvScriptMac]
  repeat' (first
    | with_reducible refine keepsForm_get_bind fun v hv => ?_ | with_reducible refine keepsForm_bind ?_ fun _ => ?_
    | split | simp [*])
@[simp] theorem keepsForm_svcEmvScriptEncrypt  : (svcEmvScriptEncrypt ).KeepsForm := by
  simp only [svcEmvScriptEncrypt]
  repeat' (first
    | with_reducible refine keepsForm_get_bind fun v hv => ?_ | with_reducible refine keepsForm_bind ?_ fun _ => ?_
    | split | simp [*])
@[simp] theorem keepsForm_svcEmvSessionKey  : (svcEmvSessionKey ).KeepsForm := by
  simp only [svcEmvSessionKey]
  repeat' (first
    | with_reducible refine keepsForm_get_bind fun v hv => ?_ | with_reducible refine keepsForm_bind ?_ fun _ => ?_
    | split | simp [*])
@[simp] theorem keepsForm_dukptParts (r : DukptRole) (refs : Nat) : (dukptParts r refs).KeepsForm := by
  simp only [dukptParts]
  repeat' (first
    | with_reducible refine keepsForm_get_bind fun v hv => ?_ | with_reducible refine keepsForm_bind ?_ fun _ => ?_
    | split | simp [*])
@[simp] theorem keepsForm_dukptWork (r : DukptRole) : (dukptWork r).KeepsForm := by
  simp only [dukptWork]
  repeat' (first
    | with_reducible refine keepsForm_get_bind fun v hv => ?_ | with_reducible refine keepsForm_bind ?_ fun _ => ?_
    | split | simp [*])
@[simp] theorem keepsForm_svcDukptIkExport  : (svcDukptIkExport ).KeepsForm := by
  simp only [svcDukptIkExport]
  repeat' (first
    | with_reducible refine keepsForm_get_bind fun v hv => ?_ | with_reducible refine keepsForm_bind ?_ fun _ => ?_
    | split | simp [*])
@[simp] theorem keepsForm_svcDukptTerminalKey  : (svcDukptTerminalKey ).KeepsForm := by
  simp only [svcDukptTerminalKey]
  repeat' (first
    | with_reducible refine keepsForm_get_bind fun v hv => ?_ | with_reducible refine keepsForm_bind ?_ fun _ => ?_
    | split | simp [*])
@[simp] theorem keepsForm_svcDukptDecrypt  : (svcDukptDecrypt ).KeepsForm := by
  simp only [svcDukptDecrypt]
  repeat' (first
    | with_reducible refine keepsForm_get_bind fun v hv => ?_ | with_reducible refine keepsForm_bind ?_ fun _ => ?_
    | split | simp [*])
@[simp] theorem keepsForm_svcDukptEncrypt  : (svcDukptEncrypt ).KeepsForm := by
  simp only [svcDukptEncrypt]
  repeat' (first
    | with_reducible refine keepsForm_get_bind fun v hv => ?_ | with_reducible refine keepsForm_bind ?_ fun _ => ?_
    | split | simp [*])
@[simp] theorem keepsForm_svcDukptMacVerify  : (svcDukptMacVerify ).KeepsForm := by
  simp only [svcDukptMacVerify]
  repeat' (first
    | with_reducible refine keepsForm_get_bind fun v hv => ?_ | with_reducible refine keepsForm_bind ?_ fun _ => ?_
    | split | simp [*])
@[simp] theorem keepsForm_svcDukptMacGenerate  : (svcDukptMacGenerate ).KeepsForm := by
  simp only [svcDukptMacGenerate]
  repeat' (first
    | with_reducible refine keepsForm_get_bind fun v hv => ?_ | with_reducible refine keepsForm_bind ?_ fun _ => ?_
    | split | simp [*])
@[simp] theorem keepsForm_macCommand (verify : Bool) : (macCommand verify).KeepsForm := by
  simp only [macCommand]
  repeat' (first
    | with_reducible refine keepsForm_get_bind fun v hv => ?_ | with_reducible refine keepsForm_bind ?_ fun _ => ?_
    | split | simp [*])
@[simp] theorem keepsForm_svcMacVerify  : (svcMacVerify ).KeepsForm := by
  simp only [svcMacVerify]
  repeat' (first
    | with_reducible refine keepsForm_get_bind fun v hv => ?_ | with_reducible refine keepsForm_bind ?_ fun _ => ?_
    | split | simp [*])
@[simp] theorem keepsForm_bulkParts (r : BulkRole) : (bulkParts r).KeepsForm := by
  simp only [bulkParts]
  repeat' (first
    | with_reducible refine keepsForm_get_bind fun v hv => ?_ | with_reducible refine keepsForm_bind ?_ fun _ => ?_
    | split | simp [*])
@[simp] theorem keepsForm_svcGcmEncrypt  : (svcGcmEncrypt ).KeepsForm := by
  simp only [svcGcmEncrypt]
  repeat' (first
    | with_reducible refine keepsForm_get_bind fun v hv => ?_ | with_reducible refine keepsForm_bind ?_ fun _ => ?_
    | split | simp [*])
@[simp] theorem keepsForm_svcGcmDecrypt  : (svcGcmDecrypt ).KeepsForm := by
  simp only [svcGcmDecrypt]
  repeat' (first
    | with_reducible refine keepsForm_get_bind fun v hv => ?_ | with_reducible refine keepsForm_bind ?_ fun _ => ?_
    | with_reducible refine keepsForm_modS fun s hs => ?_ | split | simp [*])
@[simp] theorem keepsForm_svcCbcEncrypt  : (svcCbcEncrypt ).KeepsForm := by
  simp only [svcCbcEncrypt]
  repeat' (first
    | with_reducible refine keepsForm_get_bind fun v hv => ?_ | with_reducible refine keepsForm_bind ?_ fun _ => ?_
    | split | simp [*])
@[simp] theorem keepsForm_svcCbcDecrypt  : (svcCbcDecrypt ).KeepsForm := by
  simp only [svcCbcDecrypt]
  repeat' (first
    | with_reducible refine keepsForm_get_bind fun v hv => ?_ | with_reducible refine keepsForm_bind ?_ fun _ => ?_
    | split | simp [*])
@[simp] theorem keepsForm_svcCtrCrypt  : (svcCtrCrypt ).KeepsForm := by
  simp only [svcCtrCrypt]
  repeat' (first
    | with_reducible refine keepsForm_get_bind fun v hv => ?_ | with_reducible refine keepsForm_bind ?_ fun _ => ?_
    | split | simp [*])
@[simp] theorem keepsForm_svcFf1Encrypt  : (svcFf1Encrypt ).KeepsForm := by
  simp only [svcFf1Encrypt]
  repeat' (first
    | with_reducible refine keepsForm_get_bind fun v hv => ?_ | with_reducible refine keepsForm_bind ?_ fun _ => ?_
    | split | simp [*])
@[simp] theorem keepsForm_svcFf1Decrypt  : (svcFf1Decrypt ).KeepsForm := by
  simp only [svcFf1Decrypt]
  repeat' (first
    | with_reducible refine keepsForm_get_bind fun v hv => ?_ | with_reducible refine keepsForm_bind ?_ fun _ => ?_
    | split | simp [*])
@[simp] theorem keepsForm_svcRandomBytes  : (svcRandomBytes ).KeepsForm := by
  simp only [svcRandomBytes]
  repeat' (first
    | with_reducible refine keepsForm_get_bind fun v hv => ?_ | with_reducible refine keepsForm_bind ?_ fun _ => ?_
    | split | simp [*])
@[simp] theorem keepsForm_svcOpenCh  : (svcOpenCh ).KeepsForm := by
  simp only [svcOpenCh]
  repeat' (first
    | with_reducible refine keepsForm_get_bind fun v hv => ?_ | with_reducible refine keepsForm_bind ?_ fun _ => ?_
    | with_reducible refine keepsForm_modS fun s hs => ?_ | split | simp [*])
@[simp] theorem keepsForm_svcCloseCh  : (svcCloseCh ).KeepsForm := by
  simp only [svcCloseCh]
  repeat' (first
    | with_reducible refine keepsForm_get_bind fun v hv => ?_ | with_reducible refine keepsForm_bind ?_ fun _ => ?_
    | split | simp [*])
@[simp] theorem keepsForm_svcNop  : (svcNop ).KeepsForm := by
  simp only [svcNop]
  repeat' (first
    | with_reducible refine keepsForm_get_bind fun v hv => ?_ | with_reducible refine keepsForm_bind ?_ fun _ => ?_
    | split | simp [*])
@[simp] theorem keepsForm_svcVersion  : (svcVersion ).KeepsForm := by
  simp only [svcVersion]
  repeat' (first
    | with_reducible refine keepsForm_get_bind fun v hv => ?_ | with_reducible refine keepsForm_bind ?_ fun _ => ?_
    | split | simp [*])
@[simp] theorem keepsForm_svcPairForce (peerIn : Bool) : (svcPairForce peerIn).KeepsForm := by
  simp only [svcPairForce]
  repeat' (first
    | with_reducible refine keepsForm_get_bind fun v hv => ?_ | with_reducible refine keepsForm_bind ?_ fun _ => ?_
    | split | simp [*])
@[simp] theorem keepsForm_svcHealthReport  : (svcHealthReport ).KeepsForm := by
  simp only [svcHealthReport]
  repeat' (first
    | with_reducible refine keepsForm_get_bind fun v hv => ?_ | with_reducible refine keepsForm_bind ?_ fun _ => ?_
    | split | simp [*])
@[simp] theorem keepsForm_svcRoleSwap  : (svcRoleSwap ).KeepsForm := by
  simp only [svcRoleSwap]
  repeat' (first
    | with_reducible refine keepsForm_get_bind fun v hv => ?_ | with_reducible refine keepsForm_bind ?_ fun _ => ?_
    | split | simp [*])
@[simp] theorem keepsForm_keymgmtParts (outForm : List Nat) (flags fieldsZero : Bool) (refs : Nat)
    (dataLen : Nat → Bool) : (keymgmtParts outForm flags fieldsZero refs dataLen).KeepsForm := by
  simp only [keymgmtParts]
  repeat' (first
    | with_reducible refine keepsForm_get_bind fun v hv => ?_ | with_reducible refine keepsForm_bind ?_ fun _ => ?_
    | split | simp [*])
@[simp] theorem keepsForm_svcKeyGenerate  : (svcKeyGenerate ).KeepsForm := by
  simp only [svcKeyGenerate]
  repeat' (first
    | with_reducible refine keepsForm_get_bind fun v hv => ?_ | with_reducible refine keepsForm_bind ?_ fun _ => ?_
    | split | simp [*])
@[simp] theorem keepsForm_svcKeyDerive  : (svcKeyDerive ).KeepsForm := by
  simp only [svcKeyDerive]
  repeat' (first
    | with_reducible refine keepsForm_get_bind fun v hv => ?_ | with_reducible refine keepsForm_bind ?_ fun _ => ?_
    | split | simp [*])
@[simp] theorem keepsForm_svcEnvelopeMake  : (svcEnvelopeMake ).KeepsForm := by
  simp only [svcEnvelopeMake]
  repeat' (first
    | with_reducible refine keepsForm_get_bind fun v hv => ?_ | with_reducible refine keepsForm_bind ?_ fun _ => ?_
    | split | simp [*])
@[simp] theorem keepsForm_importForm (blk : Octets) : (importForm blk).KeepsForm := by
  simp only [importForm]
  repeat' (first
    | with_reducible refine keepsForm_get_bind fun v hv => ?_ | with_reducible refine keepsForm_bind ?_ fun _ => ?_
    | split | simp [*])
@[simp] theorem keepsForm_importAllowed (blk : Octets) (kb : KeyVal) : (importAllowed blk kb).KeepsForm := by
  simp only [importAllowed]
  repeat' (first
    | with_reducible refine keepsForm_get_bind fun v hv => ?_ | with_reducible refine keepsForm_bind ?_ fun _ => ?_
    | split | simp [*])
@[simp] theorem keepsForm_importBlock (blk : Octets) (opts : List (Octets × Octets)) (hdr : Nat) (kb : KeyVal) :
    (importBlock blk opts hdr kb).KeepsForm := by
  simp only [importBlock]
  repeat' (first
    | with_reducible refine keepsForm_get_bind fun v hv => ?_ | with_reducible refine keepsForm_bind ?_ fun _ => ?_
    | split | simp [*])
@[simp] theorem keepsForm_svcKeyImport  : (svcKeyImport ).KeepsForm := by
  simp only [svcKeyImport]
  repeat' (first
    | with_reducible refine keepsForm_get_bind fun v hv => ?_ | with_reducible refine keepsForm_bind ?_ fun _ => ?_
    | split | simp [*])
@[simp] theorem keepsForm_exportAllowed (verD : Bool) (key kb : KeyVal) : (exportAllowed verD key kb).KeepsForm := by
  simp only [exportAllowed]
  repeat' (first
    | with_reducible refine keepsForm_get_bind fun v hv => ?_ | with_reducible refine keepsForm_bind ?_ fun _ => ?_
    | split | simp [*])
@[simp] theorem keepsForm_svcKeyExport  : (svcKeyExport ).KeepsForm := by
  simp only [svcKeyExport]
  repeat' (first
    | with_reducible refine keepsForm_get_bind fun v hv => ?_ | with_reducible refine keepsForm_bind ?_ fun _ => ?_
    | split | simp [*])
@[simp] theorem keepsForm_upgraded (key : KeyVal) : (upgraded key).KeepsForm := by
  simp only [upgraded]
  repeat' (first
    | with_reducible refine keepsForm_get_bind fun v hv => ?_ | with_reducible refine keepsForm_bind ?_ fun _ => ?_
    | split | simp [*])
@[simp] theorem keepsForm_svcEnvelopeUpgrade  : (svcEnvelopeUpgrade ).KeepsForm := by
  simp only [svcEnvelopeUpgrade]
  repeat' (first
    | with_reducible refine keepsForm_get_bind fun v hv => ?_ | with_reducible refine keepsForm_bind ?_ fun _ => ?_
    | split | simp [*])
@[simp] theorem keepsForm_svcKeyCheckValue  : (svcKeyCheckValue ).KeepsForm := by
  simp only [svcKeyCheckValue]
  repeat' (first
    | with_reducible refine keepsForm_get_bind fun v hv => ?_ | with_reducible refine keepsForm_bind ?_ fun _ => ?_
    | split | simp [*])
@[simp] theorem keepsForm_needCurve (i : Nat) : (needCurve i).KeepsForm := by
  simp only [needCurve]
  repeat' (first
    | with_reducible refine keepsForm_get_bind fun v hv => ?_ | with_reducible refine keepsForm_bind ?_ fun _ => ?_
    | split | simp [*])
@[simp] theorem keepsForm_scalarOf (c : Curve) (k : KeyVal) : (scalarOf c k).KeepsForm := by
  simp only [scalarOf]
  repeat' (first
    | with_reducible refine keepsForm_get_bind fun v hv => ?_ | with_reducible refine keepsForm_bind ?_ fun _ => ?_
    | split | simp [*])
@[simp] theorem keepsForm_rsaOf (k : KeyVal) (bits : Nat) : (rsaOf k bits).KeepsForm := by
  simp only [rsaOf]
  repeat' (first
    | with_reducible refine keepsForm_get_bind fun v hv => ?_ | with_reducible refine keepsForm_bind ?_ fun _ => ?_
    | split | simp [*])
@[simp] theorem keepsForm_randomInternal (core n : Nat) : (randomInternal core n).KeepsForm := by
  simp only [randomInternal]
  repeat' (first
    | with_reducible refine keepsForm_get_bind fun v hv => ?_ | with_reducible refine keepsForm_bind ?_ fun _ => ?_
    | split | simp [*])
@[simp] theorem keepsForm_invariantFail {α : Type} (core : Nat) : (invariantFail core : Svc α).KeepsForm := by
  simp only [invariantFail]
  repeat' (first
    | with_reducible refine keepsForm_get_bind fun v hv => ?_ | with_reducible refine keepsForm_bind ?_ fun _ => ?_
    | split | simp [*])
@[simp] theorem keepsForm_pkRefs (n : Nat) (rest : Octets) : (pkRefs n rest).KeepsForm := by
  simp only [pkRefs]
  repeat' (first
    | with_reducible refine keepsForm_get_bind fun v hv => ?_ | with_reducible refine keepsForm_bind ?_ fun _ => ?_
    | split | simp [*])
@[simp] theorem keepsForm_svcEcdsaSign (k : CoreId) : (svcEcdsaSign k).KeepsForm := by
  simp only [svcEcdsaSign]
  repeat' (first
    | with_reducible refine keepsForm_get_bind fun v hv => ?_ | with_reducible refine keepsForm_bind ?_ fun _ => ?_
    | split | simp [*])
@[simp] theorem keepsForm_svcEcdsaVerify  : (svcEcdsaVerify ).KeepsForm := by
  simp only [svcEcdsaVerify]
  repeat' (first
    | with_reducible refine keepsForm_get_bind fun v hv => ?_ | with_reducible refine keepsForm_bind ?_ fun _ => ?_
    | split | simp [*])
@[simp] theorem keepsForm_svcEcdh (k : CoreId) : (svcEcdh k).KeepsForm := by
  simp only [svcEcdh]
  repeat' (first
    | with_reducible refine keepsForm_get_bind fun v hv => ?_ | with_reducible refine keepsForm_bind ?_ fun _ => ?_
    | split | simp [*])
@[simp] theorem keepsForm_needKeygen (t : Octets) (alg : Nat) (usages : List String) :
    (needKeygen t alg usages).KeepsForm := by
  simp only [needKeygen]
  repeat' (first
    | with_reducible refine keepsForm_get_bind fun v hv => ?_ | with_reducible refine keepsForm_bind ?_ fun _ => ?_
    | split | simp [*])
@[simp] theorem keepsForm_svcEcKeygen  : (svcEcKeygen ).KeepsForm := by
  simp only [svcEcKeygen]
  repeat' (first
    | with_reducible refine keepsForm_get_bind fun v hv => ?_ | with_reducible refine keepsForm_bind ?_ fun _ => ?_
    | split | simp [*])
@[simp] theorem keepsForm_svcRsaSign  : (svcRsaSign ).KeepsForm := by
  simp only [svcRsaSign]
  repeat' (first
    | with_reducible refine keepsForm_get_bind fun v hv => ?_ | with_reducible refine keepsForm_bind ?_ fun _ => ?_
    | split | simp [*])
@[simp] theorem keepsForm_svcRsaVerify  : (svcRsaVerify ).KeepsForm := by
  simp only [svcRsaVerify]
  repeat' (first
    | with_reducible refine keepsForm_get_bind fun v hv => ?_ | with_reducible refine keepsForm_bind ?_ fun _ => ?_
    | split | simp [*])
@[simp] theorem keepsForm_svcRsaDecrypt  : (svcRsaDecrypt ).KeepsForm := by
  simp only [svcRsaDecrypt]
  repeat' (first
    | with_reducible refine keepsForm_get_bind fun v hv => ?_ | with_reducible refine keepsForm_bind ?_ fun _ => ?_
    | split | simp [*])
@[simp] theorem keepsForm_svcRsaKeygen  : (svcRsaKeygen ).KeepsForm := by
  simp only [svcRsaKeygen]
  repeat' (first
    | with_reducible refine keepsForm_get_bind fun v hv => ?_ | with_reducible refine keepsForm_bind ?_ fun _ => ?_
    | split | simp [*])
@[simp] theorem keepsForm_svcRklRsa  : (svcRklRsa ).KeepsForm := by
  simp only [svcRklRsa]
  repeat' (first
    | with_reducible refine keepsForm_get_bind fun v hv => ?_ | with_reducible refine keepsForm_bind ?_ fun _ => ?_
    | split | simp [*])
@[simp] theorem keepsForm_svcRklEcdh (k : CoreId) : (svcRklEcdh k).KeepsForm := by
  simp only [svcRklEcdh]
  repeat' (first
    | with_reducible refine keepsForm_get_bind fun v hv => ?_ | with_reducible refine keepsForm_bind ?_ fun _ => ?_
    | split | simp [*])
@[simp] theorem keepsForm_svcCurveLoad  : (svcCurveLoad ).KeepsForm := by
  simp only [svcCurveLoad]
  repeat' (first
    | with_reducible refine keepsForm_get_bind fun v hv => ?_ | with_reducible refine keepsForm_bind ?_ fun _ => ?_
    | split | simp [*])
@[simp] theorem keepsForm_readRef (e : Nat) (ref : BitVec 64) : (readRef e ref).KeepsForm := by
  simp only [readRef]
  repeat' (first
    | with_reducible refine keepsForm_get_bind fun v hv => ?_ | with_reducible refine keepsForm_bind ?_ fun _ => ?_
    | split | simp [*])
@[simp] theorem keepsForm_resolveAt (e : Nat) (ref : BitVec 64) (group : BitVec 8) :
    (resolveAt e ref group).KeepsForm := by
  simp only [resolveAt]
  repeat' (first
    | with_reducible refine keepsForm_get_bind fun v hv => ?_ | with_reducible refine keepsForm_bind ?_ fun _ => ?_
    | split | simp [*])
@[simp] theorem keepsForm_writeDst (k e : Nat) (dst : BitVec 64) (o : Octets) : (writeDst k e dst o).KeepsForm := by
  simp only [writeDst]
  repeat' (first
    | with_reducible refine keepsForm_bind ?_ fun _ => ?_ | split
    | with_reducible refine keepsForm_modS fun s hs => wf_farWrite _ _ _ _ hs | simp)
@[simp] theorem keepsForm_toLane (k reg : Nat) (alg : Nat) (o : Octets) : (toLane k reg alg o).KeepsForm := by
  simp only [toLane]
  repeat' (first
    | with_reducible refine keepsForm_get_bind fun v hv => ?_ | with_reducible refine keepsForm_bind ?_ fun _ => ?_
    | split | simp [*])
@[simp] theorem keepsForm_reqLoadLane (k : Nat) (req : KeyReq) (e : Nat) : (reqLoadLane k req e).KeepsForm := by
  simp only [reqLoadLane]
  repeat' (first
    | with_reducible refine keepsForm_get_bind fun v hv => ?_ | with_reducible refine keepsForm_bind ?_ fun _ => ?_
    | split | simp [*])
@[simp] theorem keepsForm_reqLoadHash (k : Nat) (req : KeyReq) (e : Nat) : (reqLoadHash k req e).KeepsForm := by
  simp only [reqLoadHash]
  repeat' (first
    | with_reducible refine keepsForm_get_bind fun v hv => ?_ | with_reducible refine keepsForm_bind ?_ fun _ => ?_
    | split | simp [*])
@[simp] theorem keepsForm_toOpmem (k word : Nat) (l : List W36) : (toOpmem k word l).KeepsForm := by
  refine keepsForm_bind (by simp) fun _ => keepsForm_modS fun s hs => ?_
  dsimp only
  split <;> exact hs
@[simp] theorem keepsForm_loadPrivate (k e : Nat) (word : Nat) (dst : BitVec 64) (key : KeyVal) :
    (loadPrivate k e word dst key).KeepsForm := by
  simp only [loadPrivate]
  repeat' (first
    | with_reducible refine keepsForm_get_bind fun v hv => ?_ | with_reducible refine keepsForm_bind ?_ fun _ => ?_
    | split | simp [*])
@[simp] theorem keepsForm_reqLoadPrivate (k : Nat) (req : KeyReq) (e : Nat) : (reqLoadPrivate k req e).KeepsForm := by
  simp only [reqLoadPrivate]
  repeat' (first
    | with_reducible refine keepsForm_get_bind fun v hv => ?_ | with_reducible refine keepsForm_bind ?_ fun _ => ?_
    | split | simp [*])
@[simp] theorem keepsForm_reqDukpt (k : Nat) (req : KeyReq) (e : Nat) : (reqDukpt k req e).KeepsForm := by
  simp only [reqDukpt]
  repeat' (first
    | with_reducible refine keepsForm_get_bind fun v hv => ?_ | with_reducible refine keepsForm_bind ?_ fun _ => ?_
    | split | simp [*])
@[simp] theorem keepsForm_reqEmv (k : Nat) (req : KeyReq) (e : Nat) : (reqEmv k req e).KeepsForm := by
  simp only [reqEmv]
  repeat' (first
    | with_reducible refine keepsForm_get_bind fun v hv => ?_ | with_reducible refine keepsForm_bind ?_ fun _ => ?_
    | split | simp [*])
@[simp] theorem keepsForm_toTarget (k : Nat) (r : KeyReq) (alg : Nat) (o : Octets) :
    (toTarget k r alg o).KeepsForm := by
  simp only [toTarget]
  repeat' (first
    | with_reducible refine keepsForm_get_bind fun v hv => ?_ | with_reducible refine keepsForm_bind ?_ fun _ => ?_
    | split | simp [*])
@[simp] theorem keepsForm_reqDerive (k : Nat) (req : KeyReq) (e : Nat) : (reqDerive k req e).KeepsForm := by
  simp only [reqDerive]
  repeat' (first
    | with_reducible refine keepsForm_get_bind fun v hv => ?_ | with_reducible refine keepsForm_bind ?_ fun _ => ?_
    | split | simp [*])
@[simp] theorem keepsForm_reqGenerateKey (k : Nat) (req : KeyReq) (x : Nat) : (reqGenerateKey k req x).KeepsForm := by
  simp only [reqGenerateKey]
  repeat' (first
    | with_reducible refine keepsForm_get_bind fun v hv => ?_ | with_reducible refine keepsForm_bind ?_ fun _ => ?_
    | split | simp [*])
@[simp] theorem keepsForm_reqWrap (k : Nat) (req : KeyReq) (e : Nat) : (reqWrap k req e).KeepsForm := by
  simp only [reqWrap]
  repeat' (first
    | with_reducible refine keepsForm_get_bind fun v hv => ?_ | with_reducible refine keepsForm_bind ?_ fun _ => ?_
    | split | simp [*])
@[simp] theorem keepsForm_reqImportKeyBlock (k : Nat) (req : KeyReq) (e : Nat) :
    (reqImportKeyBlock k req e).KeepsForm := by
  simp only [reqImportKeyBlock]
  repeat' (first
    | with_reducible refine keepsForm_get_bind fun v hv => ?_ | with_reducible refine keepsForm_bind ?_ fun _ => ?_
    | split | simp [*])
@[simp] theorem keepsForm_laneVal (s : State) (k reg : Nat) : (laneVal s k reg).KeepsForm := by
  simp only [laneVal]
  repeat' (first
    | with_reducible refine keepsForm_get_bind fun v hv => ?_ | with_reducible refine keepsForm_bind ?_ fun _ => ?_
    | split | simp [*])
@[simp] theorem keepsForm_reqExportKeyBlock (k : Nat) (req : KeyReq) (e : Nat) :
    (reqExportKeyBlock k req e).KeepsForm := by
  simp only [reqExportKeyBlock]
  repeat' (first
    | with_reducible refine keepsForm_get_bind fun v hv => ?_ | with_reducible refine keepsForm_bind ?_ fun _ => ?_
    | split | simp [*])
@[simp] theorem keepsForm_reqSecret (k : Nat) (req : KeyReq) (e : Nat) : (reqSecret k req e).KeepsForm := by
  simp only [reqSecret]
  repeat' (first
    | with_reducible refine keepsForm_get_bind fun v hv => ?_ | with_reducible refine keepsForm_bind ?_ fun _ => ?_
    | split | simp [*])
@[simp] theorem keepsForm_reqUpgrade (k : Nat) (req : KeyReq) (e : Nat) : (reqUpgrade k req e).KeepsForm := by
  simp only [reqUpgrade]
  repeat' (first
    | with_reducible refine keepsForm_get_bind fun v hv => ?_ | with_reducible refine keepsForm_bind ?_ fun _ => ?_
    | split | simp [*])
@[simp] theorem keepsForm_reqOaepKey (k : Nat) (req : KeyReq) (x : Nat) : (reqOaepKey k req x).KeepsForm := by
  simp only [reqOaepKey]
  repeat' (first
    | with_reducible refine keepsForm_get_bind fun v hv => ?_ | with_reducible refine keepsForm_bind ?_ fun _ => ?_
    | split | simp [*])
@[simp] theorem keepsForm_modeService (modes : List Mode) : (modeService modes).KeepsForm := by
  simp only [modeService]
  repeat' (first
    | with_reducible refine keepsForm_get_bind fun v hv => ?_ | with_reducible refine keepsForm_bind ?_ fun _ => ?_
    | split | simp [*])
@[simp] theorem keepsForm_svcMaintEnter  : (svcMaintEnter ).KeepsForm := by
  simp only [svcMaintEnter]
  repeat' (first
    | with_reducible refine keepsForm_get_bind fun v hv => ?_ | with_reducible refine keepsForm_bind ?_ fun _ => ?_
    | with_reducible refine keepsForm_modS fun s hs => ?_ | split | simp [*])
@[simp] theorem keepsForm_svcMaintExit  : (svcMaintExit ).KeepsForm := by
  simp only [svcMaintExit]
  repeat' (first
    | with_reducible refine keepsForm_get_bind fun v hv => ?_ | with_reducible refine keepsForm_bind ?_ fun _ => ?_
    | split | simp [*])
@[simp] theorem keepsForm_svcImageReapply  : (svcImageReapply ).KeepsForm := by
  simp only [svcImageReapply]
  repeat' (first
    | with_reducible refine keepsForm_get_bind fun v hv => ?_ | with_reducible refine keepsForm_bind ?_ fun _ => ?_
    | split | simp [*])
@[simp] theorem keepsForm_svcModuleRetire  : (svcModuleRetire ).KeepsForm := by
  simp only [svcModuleRetire]
  repeat' (first
    | with_reducible refine keepsForm_get_bind fun v hv => ?_ | with_reducible refine keepsForm_bind ?_ fun _ => ?_
    | split | simp [*])
@[simp] theorem keepsForm_svcDiagEnter  : (svcDiagEnter ).KeepsForm := by
  simp only [svcDiagEnter]
  repeat' (first
    | with_reducible refine keepsForm_get_bind fun v hv => ?_ | with_reducible refine keepsForm_bind ?_ fun _ => ?_
    | split | simp [*])
@[simp] theorem keepsForm_svcDiagExit  : (svcDiagExit ).KeepsForm := by
  simp only [svcDiagExit]
  repeat' (first
    | with_reducible refine keepsForm_get_bind fun v hv => ?_ | with_reducible refine keepsForm_bind ?_ fun _ => ?_
    | split | simp [*])

end Sys2Proof.Machine
end

section
/-! Working memory: every command keeps its canonical form, so every step does. -/

namespace Sys2Proof.Machine

open Host

/-- An outcome leaves working memory in its canonical form. -/
def FormAfter (o : Outcome State Fault Refusal) : Prop := ∀ t, o = .next t → Memory.wf t.wmem = true

@[simp] theorem formAfter_answer (b : State) : FormAfter (answer b) ↔ Memory.wf b.wmem = true :=
  ⟨fun h => h (drivePins b) rfl, fun h t ht => by cases ht; exact h⟩

@[simp] theorem wf_leave {o : Outcome State Fault Refusal} {s : State} (ho : FormAfter o)
    (hs : Memory.wf s.wmem = true) :
    Memory.wf (leave o s).wmem = true := by
  cases o with
  | next t => exact ho t rfl
  | _ => exact hs

@[simp] theorem wf_onPh {s : State} {fn : Fn} {i : Nat} {f : Nat → Ph → State}
    (hf : ∀ n p, Memory.wf (f n p).wmem = true)
    (hs : Memory.wf s.wmem = true) : Memory.wf (onPh s fn i f).wmem = true := by
  unfold onPh
  split
  · exact hs
  · split
    · exact hf _ _
    · exact hs

@[simp] theorem wf_runDirty {s : State} {k : Nat} {covers : Nat → Bool} {body : Octets → Nat → Slot → Svc Octets}
    (hb : ∀ i n x, (body i n x).KeepsForm) (hs : Memory.wf s.wmem = true) :
    Memory.wf (runDirty s k covers body).wmem = true := by
  unfold runDirty
  split
  · exact hs
  · split
    · exact hs
    · exact wf_runService _ _ _ _ _ (keepsForm_svcDirty hb) hs

/-- An accepted message acts on a state that differs from s in the pair alone. -/
theorem wf_accept {s : State} {relay : Bool} {h : MsgHead} {act : State → State}
    (ha : ∀ t, Memory.wf t.wmem = true → Memory.wf (act t).wmem = true) (hs : Memory.wf s.wmem = true) :
    Memory.wf (accept s relay h act).wmem = true := by
  unfold accept
  dsimp only
  generalize (!_ || _ || _ : Bool) = b
  cases b
  · exact ha _ hs
  · exact hs

@[simp] theorem formAfter_execFld (k : CoreId) (seg : BitVec 3) (d : BitVec 5) (a : BitVec 5) (off : BitVec 10)
    (s : State) (hs : Memory.wf s.wmem = true) : FormAfter (execFld k seg d a off s) := by
  simp only [execFld, formAfter_answer]; (repeat' split) <;> simp [hs]
@[simp] theorem formAfter_execFst (k : CoreId) (seg : BitVec 3) (v : BitVec 5) (a : BitVec 5) (off : BitVec 10)
    (s : State) (hs : Memory.wf s.wmem = true) : FormAfter (execFst k seg v a off s) := by
  simp only [execFst, formAfter_answer]; (repeat' split) <;> simp [hs]
@[simp] theorem formAfter_execFmr (k : CoreId) (seg : BitVec 3) (d : BitVec 5) (a : BitVec 5) (b : BitVec 5)
    (s : State) (hs : Memory.wf s.wmem = true) : FormAfter (execFmr k seg d a b s) := by
  simp [execFmr, hs]
@[simp] theorem formAfter_execFmw (k : CoreId) (seg : BitVec 3) (d : BitVec 5) (a : BitVec 5) (b : BitVec 5)
    (s : State) (hs : Memory.wf s.wmem = true) : FormAfter (execFmw k seg d a b s) := by
  simp [execFmw, hs]
@[simp] theorem formAfter_execFarAnswer (k : CoreId) (r : FarReply) (s : State) (hs : Memory.wf s.wmem = true) :
    FormAfter (execFarAnswer k r s) := by
  simp only [execFarAnswer, formAfter_answer]
  (repeat' split) <;> simp [wf_farWrite, hs]
@[simp] theorem formAfter_execModuleFault (s : State) (hs : Memory.wf s.wmem = true) :
    FormAfter (execModuleFault s) := by
  simp [execModuleFault, hs]
@[simp] theorem formAfter_execPerstAssert (portB : Bool) (s : State) (hs : Memory.wf s.wmem = true) :
    FormAfter (execPerstAssert portB s) := by
  simp [execPerstAssert, hs]
@[simp] theorem formAfter_execPortLinkDown (portB : Bool) (s : State) (hs : Memory.wf s.wmem = true) :
    FormAfter (execPortLinkDown portB s) := by
  simp only [execPortLinkDown, formAfter_answer]; split <;> simp [hs]
@[simp] theorem formAfter_execPerstRelease (portB : Bool) (s : State) (hs : Memory.wf s.wmem = true) :
    FormAfter (execPerstRelease portB s) := by
  simp [execPerstRelease, hs]
@[simp] theorem formAfter_execLinkTrained (portB : Bool) (rate : BitVec 3) (width : BitVec 5) (s : State)
    (hs : Memory.wf s.wmem = true) : FormAfter (execLinkTrained portB rate width s) := by
  simp only [execLinkTrained, formAfter_answer]; (repeat' split) <;> simp [hs]
@[simp] theorem formAfter_execVfEnable (portB enable : Bool) (numVfs : BitVec 16) (s : State)
    (hs : Memory.wf s.wmem = true) : FormAfter (execVfEnable portB enable numVfs s) := by
  simp only [execVfEnable, formAfter_answer]; (repeat' split) <;> simp [hs]
@[simp] theorem formAfter_execFlrVf (fn : Fn) (s : State) (hs : Memory.wf s.wmem = true) :
    FormAfter (execFlrVf fn s) := by
  simp only [execFlrVf, formAfter_answer]
  split <;> simp [foldl_wmem, hs]
@[simp] theorem formAfter_execFlrPf0 (portB : Bool) (s : State) (hs : Memory.wf s.wmem = true) :
    FormAfter (execFlrPf0 portB s) := by
  simp only [execFlrPf0, formAfter_answer]
  (repeat' split) <;> simp [foldl_wmem, hs]
@[simp] theorem formAfter_execMsixUnmask (fn : Fn) (vector : BitVec 6) (s : State) (hs : Memory.wf s.wmem = true) :
    FormAfter (execMsixUnmask fn vector s) := by
  simp only [execMsixUnmask, formAfter_answer]; (repeat' split) <;> simp [hs]
@[simp] theorem formAfter_execPendingPlacement (s : State) (hs : Memory.wf s.wmem = true) :
    FormAfter (execPendingPlacement s) := by
  simp only [execPendingPlacement, formAfter_answer]
  split <;> simp [wf_place, hs]
@[simp] theorem formAfter_execEnable (fn : Fn) (ph : BitVec 6) (depthLog2 : BitVec 5) (vector : BitVec 6)
    (s : State) (hs : Memory.wf s.wmem = true) : FormAfter (execEnable fn ph depthLog2 vector s) := by
  refine (formAfter_answer _).2 (wf_onPh (fun n p => ?_) hs)
  dsimp only
  (repeat' split) <;> simp [hs]
@[simp] theorem formAfter_execEnableOff (fn : Fn) (ph : BitVec 6) (s : State) (hs : Memory.wf s.wmem = true) :
    FormAfter (execEnableOff fn ph s) := by
  refine (formAfter_answer _).2 (wf_onPh (fun n p => ?_) hs)
  (repeat' split) <;> simp [hs]
@[simp] theorem formAfter_execRingDrainEnd (ph : BitVec 12) (s : State) (hs : Memory.wf s.wmem = true) :
    FormAfter (execRingDrainEnd ph s) := by
  simp only [execRingDrainEnd, formAfter_answer]; split <;> simp [hs]
@[simp] theorem formAfter_execSqTail (fn : Fn) (ph : BitVec 6) (value : BitVec 16) (s : State)
    (hs : Memory.wf s.wmem = true) : FormAfter (execSqTail fn ph value s) := by
  refine (formAfter_answer _).2 (wf_onPh (fun n p => ?_) hs)
  (repeat' split) <;> simp [hs]
@[simp] theorem formAfter_execCqHead (fn : Fn) (ph : BitVec 6) (value : BitVec 16) (s : State)
    (hs : Memory.wf s.wmem = true) : FormAfter (execCqHead fn ph value s) := by
  refine (formAfter_answer _).2 (wf_onPh (fun n p => ?_) hs)
  (repeat' split) <;> simp [hs]
@[simp] theorem formAfter_execFetchCredit (portB : Bool) (s : State) (hs : Memory.wf s.wmem = true) :
    FormAfter (execFetchCredit portB s) := by
  simp only [execFetchCredit, formAfter_answer]; (repeat' split) <;> simp [hs]
@[simp] theorem formAfter_execCompletionWrite (e : Nat) (s : State) (hs : Memory.wf s.wmem = true) :
    FormAfter (execCompletionWrite e s) := by
  simp [execCompletionWrite, hs]
@[simp] theorem formAfter_execCoalesceTimer (ph : BitVec 12) (s : State) (hs : Memory.wf s.wmem = true) :
    FormAfter (execCoalesceTimer ph s) := by
  simp only [execCoalesceTimer, formAfter_answer]; (repeat' split) <;> simp [hs]
@[simp] theorem formAfter_execHostAccessFault (e : Nat) (translation : Bool) (written : Nat) (s : State)
    (hs : Memory.wf s.wmem = true) : FormAfter (execHostAccessFault e translation written s) := by
  simp only [execHostAccessFault, formAfter_answer]; (repeat' split) <;> simp [hs]
@[simp] theorem formAfter_execRingAccessFault (ph : BitVec 12) (s : State) (hs : Memory.wf s.wmem = true) :
    FormAfter (execRingAccessFault ph s) := by
  simp only [execRingAccessFault, formAfter_answer]; (repeat' split) <;> simp [hs]
@[simp] theorem formAfter_execPageGrant (e : Nat) (s : State) (hs : Memory.wf s.wmem = true) :
    FormAfter (execPageGrant e s) := by
  simp only [execPageGrant, formAfter_answer]; (repeat' split) <;> simp [hs]
@[simp] theorem formAfter_execPageWaitExpiry (e : Nat) (s : State) (hs : Memory.wf s.wmem = true) :
    FormAfter (execPageWaitExpiry e s) := by
  simp only [execPageWaitExpiry, formAfter_answer]; (repeat' split) <;> simp [hs]
@[simp] theorem formAfter_execReplayExpiry (slot : Nat) (ph : BitVec 12) (cmdId : BitVec 64) (s : State)
    (hs : Memory.wf s.wmem = true) : FormAfter (execReplayExpiry slot ph cmdId s) := by
  simp [execReplayExpiry, hs]
@[simp] theorem formAfter_execEcb (k : CoreId) (j : CipherJob) (s : State) (hs : Memory.wf s.wmem = true) :
    FormAfter (execEcb k j s) := by
  simp [execEcb, hs]
@[simp] theorem formAfter_execCbc (k : CoreId) (j : CipherJob) (s : State) (hs : Memory.wf s.wmem = true) :
    FormAfter (execCbc k j s) := by
  simp [execCbc, hs]
@[simp] theorem formAfter_execCtr (k : CoreId) (j : CipherJob) (s : State) (hs : Memory.wf s.wmem = true) :
    FormAfter (execCtr k j s) := by
  simp [execCtr, hs]
@[simp] theorem formAfter_execCbcMac (k : CoreId) (j : CipherJob) (s : State) (hs : Memory.wf s.wmem = true) :
    FormAfter (execCbcMac k j s) := by
  simp [execCbcMac, hs]
@[simp] theorem formAfter_execCmac (k : CoreId) (j : CipherJob) (s : State) (hs : Memory.wf s.wmem = true) :
    FormAfter (execCmac k j s) := by
  simp [execCmac, hs]
@[simp] theorem formAfter_execGcm (k : CoreId) (j : CipherJob) (s : State) (hs : Memory.wf s.wmem = true) :
    FormAfter (execGcm k j s) := by
  simp [execGcm, hs]
@[simp] theorem formAfter_execKeychain (k : CoreId) (byCore : Bool) (j : CipherJob) (s : State)
    (hs : Memory.wf s.wmem = true) : FormAfter (execKeychain k byCore j s) := by
  simp only [execKeychain, formAfter_answer]; (repeat' split) <;> simp [hs]
@[simp] theorem formAfter_execHashJob (k : CoreId) (j : HashJob) (s : State) (hs : Memory.wf s.wmem = true) :
    FormAfter (execHashJob k j s) := by
  simp only [execHashJob, formAfter_answer]; (repeat' split) <;> simp [hs]
@[simp] theorem formAfter_execJobEnd (k : CoreId) (hash : Bool) (tag : BitVec 2) (r : JobReply) (s : State)
    (hs : Memory.wf s.wmem = true) : FormAfter (execJobEnd k hash tag r s) := by
  simp only [execJobEnd, formAfter_answer]
  (repeat' split) <;> simp [wf_farWrite, hs]
@[simp] theorem formAfter_execArraySwitch (s : State) (hs : Memory.wf s.wmem = true) :
    FormAfter (execArraySwitch s) := by
  simp [execArraySwitch, hs]
@[simp] theorem formAfter_execRebuildEnd (s : State) (hs : Memory.wf s.wmem = true) : FormAfter (execRebuildEnd s) := by
  simp [execRebuildEnd, hs]
@[simp] theorem formAfter_execLaneParity (hash : Bool) (at_ : ParityAt) (s : State) (hs : Memory.wf s.wmem = true) :
    FormAfter (execLaneParity hash at_ s) := by
  simp only [execLaneParity, formAfter_answer]
  (repeat' split) <;> simp [foldl_wmem, hs]
@[simp] theorem formAfter_execLaneKatEnd (hash : Bool) (lane : BitVec 6) (pass : Bool) (s : State)
    (hs : Memory.wf s.wmem = true) : FormAfter (execLaneKatEnd hash lane pass s) := by
  simp only [execLaneKatEnd, formAfter_answer]; (repeat' split) <;> simp [hs]
@[simp] theorem formAfter_execArraySelftest (k : CoreId) (failLanes : BitVec 64) (failHash : BitVec 16) (s : State)
    (hs : Memory.wf s.wmem = true) : FormAfter (execArraySelftest k failLanes failHash s) := by
  simp [execArraySelftest, hs]
@[simp] theorem formAfter_execAptWindowClose (cell : BitVec 6) (failed : Bool) (s : State)
    (hs : Memory.wf s.wmem = true) : FormAfter (execAptWindowClose cell failed s) := by
  simp only [execAptWindowClose, formAfter_answer]; (repeat' split) <;> simp [hs]
@[simp] theorem formAfter_execCellRetest (cell : BitVec 6) (pass : Bool) (s : State) (hs : Memory.wf s.wmem = true) :
    FormAfter (execCellRetest cell pass s) := by
  simp only [execCellRetest, formAfter_answer]; (repeat' split) <;> simp [hs]
@[simp] theorem formAfter_execEntropyFailDeadline (s : State) (hs : Memory.wf s.wmem = true) :
    FormAfter (execEntropyFailDeadline s) := by
  simp only [execEntropyFailDeadline, formAfter_answer]; split <;> simp [hs]
@[simp] theorem formAfter_execDrbgKat (lane : BitVec 2) (df expander : Bool) (s : State)
    (hs : Memory.wf s.wmem = true) : FormAfter (execDrbgKat lane df expander s) := by
  simp [execDrbgKat, hs]
@[simp] theorem formAfter_execDrbgLaneParity (lane : BitVec 2) (s : State) (hs : Memory.wf s.wmem = true) :
    FormAfter (execDrbgLaneParity lane s) := by
  simp [execDrbgLaneParity, hs]
@[simp] theorem formAfter_execKuMaskRedraw (s : State) (hs : Memory.wf s.wmem = true) :
    FormAfter (execKuMaskRedraw s) := by
  simp only [execKuMaskRedraw, formAfter_answer]; split <;> simp [hs]
@[simp] theorem formAfter_execRandomRequest (k : CoreId) (req : RandReq) (s : State) (hs : Memory.wf s.wmem = true) :
    FormAfter (execRandomRequest k req s) := by
  simp only [execRandomRequest, formAfter_answer]; (repeat' split) <;> simp [hs]
@[simp] theorem formAfter_execRandomRequestEnd (k : CoreId) (s : State) (hs : Memory.wf s.wmem = true) :
    FormAfter (execRandomRequestEnd k s) := by
  simp only [execRandomRequestEnd, formAfter_answer]
  (repeat' split) <;> simp [wf_farWrite, hs]
@[simp] theorem formAfter_execEntropyRelease (e : Nat) (s : State) (hs : Memory.wf s.wmem = true) :
    FormAfter (execEntropyRelease e s) := by
  simp only [execEntropyRelease, formAfter_answer]; (repeat' split) <;> simp [hs]
@[simp] theorem formAfter_execEntropyWaitExpiry (e : Nat) (s : State) (hs : Memory.wf s.wmem = true) :
    FormAfter (execEntropyWaitExpiry e s) := by
  simp only [execEntropyWaitExpiry, formAfter_answer]; (repeat' split) <;> simp [hs]
@[simp] theorem formAfter_execRngSelftest (k : CoreId) (condPass : BitVec 64) (dfPass : BitVec 4)
    (expPass : BitVec 4) (s : State) (hs : Memory.wf s.wmem = true) :
    FormAfter (execRngSelftest k condPass dfPass expPass s) := by
  simp [execRngSelftest, hs]
@[simp] theorem formAfter_execRngStatus (k : CoreId) (s : State) (hs : Memory.wf s.wmem = true) :
    FormAfter (execRngStatus k s) := by
  simp [execRngStatus, hs]
@[simp] theorem formAfter_execRngConfig (k : CoreId) (passed : BitVec 64) (s : State)
    (hs : Memory.wf s.wmem = true) : FormAfter (execRngConfig k passed s) := by
  simp [execRngConfig, hs]
@[simp] theorem formAfter_execRngRawRead (k : CoreId) (s : State) (hs : Memory.wf s.wmem = true) :
    FormAfter (execRngRawRead k s) := by
  simp [execRngRawRead, hs]
@[simp] theorem formAfter_execMeshOpen (net : BitVec 2) (s : State) (hs : Memory.wf s.wmem = true) :
    FormAfter (execMeshOpen net s) := by
  simp [execMeshOpen, hs]
@[simp] theorem formAfter_execMeshShort (net : BitVec 2) (s : State) (hs : Memory.wf s.wmem = true) :
    FormAfter (execMeshShort net s) := by
  simp [execMeshShort, hs]
@[simp] theorem formAfter_execMeshDrift (net : BitVec 2) (dev : BitVec 16) (s : State)
    (hs : Memory.wf s.wmem = true) : FormAfter (execMeshDrift net dev s) := by
  simp [execMeshDrift, hs]
@[simp] theorem formAfter_execLid (contact : BitVec 2) (s : State) (hs : Memory.wf s.wmem = true) :
    FormAfter (execLid contact s) := by
  simp [execLid, hs]
@[simp] theorem formAfter_execLight (sensor : BitVec 8) (s : State) (hs : Memory.wf s.wmem = true) :
    FormAfter (execLight sensor s) := by
  simp [execLight, hs]
@[simp] theorem formAfter_execTjExtreme (sensor : BitVec 8) (dc : BitVec 16) (s : State)
    (hs : Memory.wf s.wmem = true) : FormAfter (execTjExtreme sensor dc s) := by
  simp [execTjExtreme, hs]
@[simp] theorem formAfter_execTwExtreme (dc : BitVec 16) (s : State) (hs : Memory.wf s.wmem = true) :
    FormAfter (execTwExtreme dc s) := by
  simp [execTwExtreme, hs]
@[simp] theorem formAfter_execZeroize (s : State) (hs : Memory.wf s.wmem = true) : FormAfter (execZeroize s) := by
  simp [execZeroize, hs]
@[simp] theorem formAfter_execTamperExt (n : BitVec 2) (s : State) (hs : Memory.wf s.wmem = true) :
    FormAfter (execTamperExt n s) := by
  simp [execTamperExt, hs]
@[simp] theorem formAfter_execVbatCrit (mv : BitVec 16) (s : State) (hs : Memory.wf s.wmem = true) :
    FormAfter (execVbatCrit mv s) := by
  simp only [execVbatCrit, formAfter_answer]; split <;> simp [hs]
@[simp] theorem formAfter_execVbatLow (mv : BitVec 16) (s : State) (hs : Memory.wf s.wmem = true) :
    FormAfter (execVbatLow mv s) := by
  simp only [execVbatLow, formAfter_answer]; (repeat' split) <;> simp [hs]
@[simp] theorem formAfter_execVbatLowClear (mv : BitVec 16) (s : State) (hs : Memory.wf s.wmem = true) :
    FormAfter (execVbatLowClear mv s) := by
  simp only [execVbatLowClear, formAfter_answer]; split <;> simp [hs]
@[simp] theorem formAfter_execSupply (rail : BitVec 3) (mv : BitVec 16) (s : State) (hs : Memory.wf s.wmem = true) :
    FormAfter (execSupply rail mv s) := by
  simp only [execSupply, formAfter_answer]; split <;> simp [hs]
@[simp] theorem formAfter_execTjLimit (sensor : BitVec 8) (dc : BitVec 16) (s : State)
    (hs : Memory.wf s.wmem = true) : FormAfter (execTjLimit sensor dc s) := by
  simp [execTjLimit, hs]
@[simp] theorem formAfter_execTjWarn (sensor : BitVec 8) (dc : BitVec 16) (s : State)
    (hs : Memory.wf s.wmem = true) : FormAfter (execTjWarn sensor dc s) := by
  simp [execTjWarn, hs]
@[simp] theorem formAfter_execMeshRedraw (s : State) (hs : Memory.wf s.wmem = true) : FormAfter (execMeshRedraw s) := by
  simp [execMeshRedraw, hs]
@[simp] theorem formAfter_execMaskRotation (s : State) (hs : Memory.wf s.wmem = true) :
    FormAfter (execMaskRotation s) := by
  simp only [execMaskRotation, formAfter_answer]; split <;> simp [hs]
@[simp] theorem formAfter_execBatteryLog (k : CoreId) (s : State) (hs : Memory.wf s.wmem = true) :
    FormAfter (execBatteryLog k s) := by
  simp [execBatteryLog, hs]
@[simp] theorem formAfter_execTamperConfig (k : CoreId) (levels : BitVec 4) (s : State)
    (hs : Memory.wf s.wmem = true) : FormAfter (execTamperConfig k levels s) := by
  simp [execTamperConfig, hs]
@[simp] theorem formAfter_execDryFire (k : CoreId) (raw : Bool) (s : State) (hs : Memory.wf s.wmem = true) :
    FormAfter (execDryFire k raw s) := by
  simp [execDryFire, hs]
@[simp] theorem formAfter_execDryfireWindowEnd (detected cleared : Bool) (detectNs : BitVec 32)
    (windowNs : BitVec 32) (raw : Bool) (unit : BitVec 16) (value : BitVec 32) (s : State)
    (hs : Memory.wf s.wmem = true) :
    FormAfter (execDryfireWindowEnd detected cleared detectNs windowNs raw unit value s) := by
  simp only [execDryfireWindowEnd, formAfter_answer]; (repeat' split) <;> simp [hs]
@[simp] theorem formAfter_execQuorumChallenge (k : CoreId) (s : State) (hs : Memory.wf s.wmem = true) :
    FormAfter (execQuorumChallenge k s) := by
  simp [execQuorumChallenge, hs]
@[simp] theorem formAfter_execQuorumGrant (k : CoreId) (s : State) (hs : Memory.wf s.wmem = true) :
    FormAfter (execQuorumGrant k s) := by
  simp [execQuorumGrant, hs]
@[simp] theorem formAfter_execChallengeExpiry (id : BitVec 32) (s : State) (hs : Memory.wf s.wmem = true) :
    FormAfter (execChallengeExpiry id s) := by
  simp [execChallengeExpiry, hs]
@[simp] theorem formAfter_execGrantExpiry (portB : Bool) (opcode : Code) (cmdId : BitVec 64) (s : State)
    (hs : Memory.wf s.wmem = true) : FormAfter (execGrantExpiry portB opcode cmdId s) := by
  simp [execGrantExpiry, hs]
@[simp] theorem formAfter_execUnlock (k : CoreId) (s : State) (hs : Memory.wf s.wmem = true) :
    FormAfter (execUnlock k s) := by
  simp [execUnlock, hs]
@[simp] theorem formAfter_execUnlockReset (s : State) (hs : Memory.wf s.wmem = true) :
    FormAfter (execUnlockReset s) := by
  simp only [execUnlockReset, formAfter_answer]; split <;> simp [wf_nil, hs]
@[simp] theorem formAfter_execSlotCreate (k : CoreId) (s : State) (hs : Memory.wf s.wmem = true) :
    FormAfter (execSlotCreate k s) := by
  simp [execSlotCreate, hs]
@[simp] theorem formAfter_execSlotQuiesce (k : CoreId) (s : State) (hs : Memory.wf s.wmem = true) :
    FormAfter (execSlotQuiesce k s) := by
  simp [execSlotQuiesce, hs]
@[simp] theorem formAfter_execQuiesceDrainEnd (slot : Nat) (s : State) (hs : Memory.wf s.wmem = true) :
    FormAfter (execQuiesceDrainEnd slot s) := by
  simp only [execQuiesceDrainEnd, formAfter_answer]; (repeat' split) <;> simp [hs]
@[simp] theorem formAfter_execSlotResume (k : CoreId) (s : State) (hs : Memory.wf s.wmem = true) :
    FormAfter (execSlotResume k s) := by
  simp [execSlotResume, hs]
@[simp] theorem formAfter_execSlotDestroy (k : CoreId) (s : State) (hs : Memory.wf s.wmem = true) :
    FormAfter (execSlotDestroy k s) := by
  simp [execSlotDestroy, hs]
@[simp] theorem formAfter_execSlotCleanupEnd (slot : Nat) (s : State) (hs : Memory.wf s.wmem = true) :
    FormAfter (execSlotCleanupEnd slot s) := by
  simp only [execSlotCleanupEnd, formAfter_answer]; (repeat' split) <;> simp [hs]
@[simp] theorem formAfter_execLogEnable (k : CoreId) (s : State) (hs : Memory.wf s.wmem = true) :
    FormAfter (execLogEnable k s) := by
  simp [execLogEnable, hs]
@[simp] theorem formAfter_execHarvest (k : CoreId) (s : State) (hs : Memory.wf s.wmem = true) :
    FormAfter (execHarvest k s) := by
  simp [execHarvest, hs]
@[simp] theorem formAfter_execLogDisable (k : CoreId) (s : State) (hs : Memory.wf s.wmem = true) :
    FormAfter (execLogDisable k s) := by
  simp [execLogDisable, hs]
@[simp] theorem formAfter_execSlotSave (k : CoreId) (s : State) (hs : Memory.wf s.wmem = true) :
    FormAfter (execSlotSave k s) := by
  simp [execSlotSave, hs]
@[simp] theorem formAfter_execSlotRestore (k : CoreId) (s : State) (hs : Memory.wf s.wmem = true) :
    FormAfter (execSlotRestore k s) := by
  simp [execSlotRestore, hs]
@[simp] theorem formAfter_execSlotTabSel (portB : Bool) (value : BitVec 10) (s : State)
    (hs : Memory.wf s.wmem = true) : FormAfter (execSlotTabSel portB value s) := by
  simp [execSlotTabSel, hs]
@[simp] theorem formAfter_execCounterRead (k : CoreId) (s : State) (hs : Memory.wf s.wmem = true) :
    FormAfter (execCounterRead k s) := by
  simp [execCounterRead, hs]
@[simp] theorem formAfter_execCeremonyBegin (k : CoreId) (s : State) (hs : Memory.wf s.wmem = true) :
    FormAfter (execCeremonyBegin k s) := by
  simp [execCeremonyBegin, hs]
@[simp] theorem formAfter_execShareExport (k : CoreId) (s : State) (hs : Memory.wf s.wmem = true) :
    FormAfter (execShareExport k s) := by
  simp [execShareExport, hs]
@[simp] theorem formAfter_execShareSubmit (k : CoreId) (s : State) (hs : Memory.wf s.wmem = true) :
    FormAfter (execShareSubmit k s) := by
  simp [execShareSubmit, hs]
@[simp] theorem formAfter_execCeremonyCommit (k : CoreId) (s : State) (hs : Memory.wf s.wmem = true) :
    FormAfter (execCeremonyCommit k s) := by
  simp [execCeremonyCommit, hs]
@[simp] theorem formAfter_execCeremonyTimeout (s : State) (hs : Memory.wf s.wmem = true) :
    FormAfter (execCeremonyTimeout s) := by
  simp [execCeremonyTimeout, hs]
@[simp] theorem formAfter_execDrErase (k : CoreId) (s : State) (hs : Memory.wf s.wmem = true) :
    FormAfter (execDrErase k s) := by
  simp [execDrErase, hs]
@[simp] theorem formAfter_execCheckpointSign (s : State) (hs : Memory.wf s.wmem = true) :
    FormAfter (execCheckpointSign s) := by
  simp only [execCheckpointSign, formAfter_answer]; (repeat' split) <;> simp [hs]
@[simp] theorem formAfter_execJournalStream (s : State) (hs : Memory.wf s.wmem = true) :
    FormAfter (execJournalStream s) := by
  simp only [execJournalStream, formAfter_answer]; (repeat' split) <;> simp [hs]
@[simp] theorem formAfter_execStreamEn (portB on : Bool) (s : State) (hs : Memory.wf s.wmem = true) :
    FormAfter (execStreamEn portB on s) := by
  simp only [execStreamEn, formAfter_answer]; (repeat' split) <;> simp [hs]
@[simp] theorem formAfter_execJournalHead (portB : Bool) (value : BitVec 64) (s : State)
    (hs : Memory.wf s.wmem = true) : FormAfter (execJournalHead portB value s) := by
  simp only [execJournalHead, formAfter_answer]; (repeat' split) <;> simp [hs]
@[simp] theorem formAfter_execPtmExchange (host : Option (BitVec 64)) (s : State) (hs : Memory.wf s.wmem = true) :
    FormAfter (execPtmExchange host s) := by
  simp only [execPtmExchange, formAfter_answer]; (repeat' split) <;> simp [hs]
@[simp] theorem formAfter_execSlewEnd (s : State) (hs : Memory.wf s.wmem = true) : FormAfter (execSlewEnd s) := by
  simp only [execSlewEnd, formAfter_answer]; split <;> simp [hs]
@[simp] theorem formAfter_execAttest (k : CoreId) (s : State) (hs : Memory.wf s.wmem = true) :
    FormAfter (execAttest k s) := by
  simp [execAttest, hs]
@[simp] theorem formAfter_execFrankCert (k : CoreId) (s : State) (hs : Memory.wf s.wmem = true) :
    FormAfter (execFrankCert k s) := by
  simp [execFrankCert, hs]
@[simp] theorem formAfter_execPinTranslate (k : CoreId) (s : State) (hs : Memory.wf s.wmem = true) :
    FormAfter (execPinTranslate k s) := by
  simp [execPinTranslate, hs]
@[simp] theorem formAfter_execPinVerify (k : CoreId) (s : State) (hs : Memory.wf s.wmem = true) :
    FormAfter (execPinVerify k s) := by
  simp [execPinVerify, hs]
@[simp] theorem formAfter_execPinRefGenerate (k : CoreId) (s : State) (hs : Memory.wf s.wmem = true) :
    FormAfter (execPinRefGenerate k s) := by
  simp [execPinRefGenerate, hs]
@[simp] theorem formAfter_execPinChange (k : CoreId) (s : State) (hs : Memory.wf s.wmem = true) :
    FormAfter (execPinChange k s) := by
  simp [execPinChange, hs]
@[simp] theorem formAfter_execPinGenerate (k : CoreId) (s : State) (hs : Memory.wf s.wmem = true) :
    FormAfter (execPinGenerate k s) := by
  simp [execPinGenerate, hs]
@[simp] theorem formAfter_execCvcGenerate (k : CoreId) (s : State) (hs : Memory.wf s.wmem = true) :
    FormAfter (execCvcGenerate k s) := by
  simp [execCvcGenerate, hs]
@[simp] theorem formAfter_execCvcVerify (k : CoreId) (s : State) (hs : Memory.wf s.wmem = true) :
    FormAfter (execCvcVerify k s) := by
  simp [execCvcVerify, hs]
@[simp] theorem formAfter_execEmvArqcVerify (k : CoreId) (s : State) (hs : Memory.wf s.wmem = true) :
    FormAfter (execEmvArqcVerify k s) := by
  simp [execEmvArqcVerify, hs]
@[simp] theorem formAfter_execEmvArpcGenerate (k : CoreId) (s : State) (hs : Memory.wf s.wmem = true) :
    FormAfter (execEmvArpcGenerate k s) := by
  simp [execEmvArpcGenerate, hs]
@[simp] theorem formAfter_execEmvScriptMac (k : CoreId) (s : State) (hs : Memory.wf s.wmem = true) :
    FormAfter (execEmvScriptMac k s) := by
  simp [execEmvScriptMac, hs]
@[simp] theorem formAfter_execEmvScriptEncrypt (k : CoreId) (s : State) (hs : Memory.wf s.wmem = true) :
    FormAfter (execEmvScriptEncrypt k s) := by
  simp [execEmvScriptEncrypt, hs]
@[simp] theorem formAfter_execEmvSessionKey (k : CoreId) (s : State) (hs : Memory.wf s.wmem = true) :
    FormAfter (execEmvSessionKey k s) := by
  simp [execEmvSessionKey, hs]
@[simp] theorem formAfter_execDukptIkExport (k : CoreId) (s : State) (hs : Memory.wf s.wmem = true) :
    FormAfter (execDukptIkExport k s) := by
  simp [execDukptIkExport, hs]
@[simp] theorem formAfter_execDukptTerminalKey (k : CoreId) (s : State) (hs : Memory.wf s.wmem = true) :
    FormAfter (execDukptTerminalKey k s) := by
  simp [execDukptTerminalKey, hs]
@[simp] theorem formAfter_execDukptDecrypt (k : CoreId) (s : State) (hs : Memory.wf s.wmem = true) :
    FormAfter (execDukptDecrypt k s) := by
  simp [execDukptDecrypt, hs]
@[simp] theorem formAfter_execDukptEncrypt (k : CoreId) (s : State) (hs : Memory.wf s.wmem = true) :
    FormAfter (execDukptEncrypt k s) := by
  simp [execDukptEncrypt, hs]
@[simp] theorem formAfter_execDukptMacVerify (k : CoreId) (s : State) (hs : Memory.wf s.wmem = true) :
    FormAfter (execDukptMacVerify k s) := by
  simp [execDukptMacVerify, hs]
@[simp] theorem formAfter_execDukptMacGenerate (k : CoreId) (s : State) (hs : Memory.wf s.wmem = true) :
    FormAfter (execDukptMacGenerate k s) := by
  simp [execDukptMacGenerate, hs]
@[simp] theorem formAfter_execMacGenerate (k : CoreId) (s : State) (hs : Memory.wf s.wmem = true) :
    FormAfter (execMacGenerate k s) := by
  simp [execMacGenerate, hs]
@[simp] theorem formAfter_execMacVerify (k : CoreId) (s : State) (hs : Memory.wf s.wmem = true) :
    FormAfter (execMacVerify k s) := by
  simp [execMacVerify, hs]
@[simp] theorem formAfter_execGcmEncrypt (k : CoreId) (s : State) (hs : Memory.wf s.wmem = true) :
    FormAfter (execGcmEncrypt k s) := by
  simp [execGcmEncrypt, hs]
@[simp] theorem formAfter_execGcmDecrypt (k : CoreId) (s : State) (hs : Memory.wf s.wmem = true) :
    FormAfter (execGcmDecrypt k s) := by
  simp [execGcmDecrypt, hs]
@[simp] theorem formAfter_execCbcEncrypt (k : CoreId) (s : State) (hs : Memory.wf s.wmem = true) :
    FormAfter (execCbcEncrypt k s) := by
  simp [execCbcEncrypt, hs]
@[simp] theorem formAfter_execCbcDecrypt (k : CoreId) (s : State) (hs : Memory.wf s.wmem = true) :
    FormAfter (execCbcDecrypt k s) := by
  simp [execCbcDecrypt, hs]
@[simp] theorem formAfter_execCtrCrypt (k : CoreId) (s : State) (hs : Memory.wf s.wmem = true) :
    FormAfter (execCtrCrypt k s) := by
  simp [execCtrCrypt, hs]
@[simp] theorem formAfter_execFf1Encrypt (k : CoreId) (s : State) (hs : Memory.wf s.wmem = true) :
    FormAfter (execFf1Encrypt k s) := by
  simp [execFf1Encrypt, hs]
@[simp] theorem formAfter_execFf1Decrypt (k : CoreId) (s : State) (hs : Memory.wf s.wmem = true) :
    FormAfter (execFf1Decrypt k s) := by
  simp [execFf1Decrypt, hs]
@[simp] theorem formAfter_execRandomBytes (k : CoreId) (s : State) (hs : Memory.wf s.wmem = true) :
    FormAfter (execRandomBytes k s) := by
  simp [execRandomBytes, hs]
@[simp] theorem formAfter_execDescriptorFetch (ph : BitVec 12) (d : Descriptor) (s : State)
    (hs : Memory.wf s.wmem = true) : FormAfter (execDescriptorFetch ph d s) := by
  simp only [execDescriptorFetch, formAfter_answer]; (repeat' split) <;> simp [hs]
@[simp] theorem formAfter_execInputLanded (e : Nat) (data : Octets) (s : State) (hs : Memory.wf s.wmem = true) :
    FormAfter (execInputLanded e data s) := by
  simp only [execInputLanded, formAfter_answer]
  (repeat' split) <;> simp [wf_wmemWrite, hs]
@[simp] theorem formAfter_execOpenCh (k : CoreId) (s : State) (hs : Memory.wf s.wmem = true) :
    FormAfter (execOpenCh k s) := by
  simp [execOpenCh, hs]
@[simp] theorem formAfter_execCloseCh (k : CoreId) (s : State) (hs : Memory.wf s.wmem = true) :
    FormAfter (execCloseCh k s) := by
  simp [execCloseCh, hs]
@[simp] theorem formAfter_execNop (k : CoreId) (s : State) (hs : Memory.wf s.wmem = true) :
    FormAfter (execNop k s) := by
  simp [execNop, hs]
@[simp] theorem formAfter_execVersion (k : CoreId) (s : State) (hs : Memory.wf s.wmem = true) :
    FormAfter (execVersion k s) := by
  simp [execVersion, hs]
@[simp] theorem formAfter_execCloseComplete (ph : BitVec 12) (s : State) (hs : Memory.wf s.wmem = true) :
    FormAfter (execCloseComplete ph s) := by
  simp only [execCloseComplete, formAfter_answer]; split <;> simp [hs]
@[simp] theorem formAfter_execLockstepMismatch (k : CoreId) (s : State) (hs : Memory.wf s.wmem = true) :
    FormAfter (execLockstepMismatch k s) := by
  simp [execLockstepMismatch, hs]
@[simp] theorem formAfter_execClusterReplaced (cluster : BitVec 3) (s : State) (hs : Memory.wf s.wmem = true) :
    FormAfter (execClusterReplaced cluster s) := by
  simp only [execClusterReplaced, formAfter_answer]; split <;> simp [hs]
@[simp] theorem formAfter_execFailedClusterTest (unit : BitVec 4) (pass : Bool) (s : State)
    (hs : Memory.wf s.wmem = true) : FormAfter (execFailedClusterTest unit pass s) := by
  simp only [execFailedClusterTest, formAfter_answer]; (repeat' split) <;> simp [hs]
@[simp] theorem formAfter_execSpareTest (pass : Bool) (s : State) (hs : Memory.wf s.wmem = true) :
    FormAfter (execSpareTest pass s) := by
  simp only [execSpareTest, formAfter_answer]; (repeat' split) <;> simp [hs]
@[simp] theorem formAfter_execMemoryError (addr : BitVec 31) (retryOk : Bool) (cached : List Nat)
    (table : Option (BitVec 2)) (s : State) (hs : Memory.wf s.wmem = true) :
    FormAfter (execMemoryError addr retryOk cached table s) := by
  have hfail (t : State) (l : List Nat) (ht : t.wmem = s.wmem) :
      Memory.wf (l.foldl (fun s e => failCmd s e integrityFault) t).wmem = true :=
    wf_foldl (fun s e h => wf_failCmd s e _ h) l (by rwa [ht])
  simp only [execMemoryError, formAfter_answer]
  (repeat' split) <;> simp [hfail, hs]
@[simp] theorem formAfter_execNewSecondCopy (table : BitVec 2) (copy page : Bool) (s : State)
    (hs : Memory.wf s.wmem = true) : FormAfter (execNewSecondCopy table copy page s) := by
  simp only [execNewSecondCopy, formAfter_answer]; (repeat' split) <;> simp [hs]
@[simp] theorem formAfter_execPwrGoodRise (vbatMv : BitVec 16) (xstart : BitVec 3) (s : State)
    (hs : Memory.wf s.wmem = true) : FormAfter (execPwrGoodRise vbatMv xstart s) := by
  simp only [execPwrGoodRise, formAfter_answer]; split <;> simp [wf_nil, hs]
@[simp] theorem formAfter_execPwrGoodFall (s : State) (hs : Memory.wf s.wmem = true) :
    FormAfter (execPwrGoodFall s) := by
  simp only [execPwrGoodFall, formAfter_answer]; split <;> simp [wf_nil, hs]
@[simp] theorem formAfter_execPwrGoodHoldoff (level : Bool) (vbatMv : BitVec 16) (xstart : BitVec 3) (s : State)
    (hs : Memory.wf s.wmem = true) : FormAfter (execPwrGoodHoldoff level vbatMv xstart s) := by
  simp only [execPwrGoodHoldoff, formAfter_answer]; (repeat' split) <;> simp [wf_nil, hs]
@[simp] theorem formAfter_execResetNAssert (s : State) (hs : Memory.wf s.wmem = true) :
    FormAfter (execResetNAssert s) := by
  simp only [execResetNAssert, formAfter_answer]; split <;> simp [wf_nil, hs]
@[simp] theorem formAfter_execWarm (key : BitVec 8) (s : State) (hs : Memory.wf s.wmem = true) :
    FormAfter (execWarm key s) := by
  simp only [execWarm, formAfter_answer]; split <;> simp [wf_nil, hs]
@[simp] theorem formAfter_execResetRelease (xaRan : Bool) (s : State) (hs : Memory.wf s.wmem = true) :
    FormAfter (execResetRelease xaRan s) := by
  simp only [execResetRelease, formAfter_answer]; split <;> simp [hs]
@[simp] theorem formAfter_execXaDelayEnd (s : State) (hs : Memory.wf s.wmem = true) : FormAfter (execXaDelayEnd s) := by
  simp only [execXaDelayEnd, formAfter_answer]; split <;> simp [hs]
@[simp] theorem formAfter_execXaQualify (count : Nat) (s : State) (hs : Memory.wf s.wmem = true) :
    FormAfter (execXaQualify count s) := by
  simp only [execXaQualify, formAfter_answer]; (repeat' split) <;> simp [hs]
@[simp] theorem formAfter_execPllLock (i : Nat) (s : State) (hs : Memory.wf s.wmem = true) :
    FormAfter (execPllLock i s) := by
  simp only [execPllLock, formAfter_answer]; (repeat' split) <;> simp [hs]
@[simp] theorem formAfter_execBootRom (linkOk : Bool) (s : State) (hs : Memory.wf s.wmem = true) :
    FormAfter (execBootRom linkOk s) := by
  simp only [execBootRom, formAfter_answer]; (repeat' split) <;> simp [hs]
@[simp] theorem formAfter_execBootSelftest (r : SelfTest) (s : State) (hs : Memory.wf s.wmem = true) :
    FormAfter (execBootSelftest r s) := by
  have hlanes (t : State) (f : Nat → Bool) (kind : UnitKind) (l : List Nat) :
      (l.foldl (fun s n => if f n then journalRetire s kind n else s) t).wmem = t.wmem :=
    foldl_wmem (fun s n => by split <;> simp) l t
  have hclusters (t : State) (f : Nat → Bool) (l : List Nat) :
      (l.foldl (fun s n => if f n then retireCluster s n else s) t).wmem = t.wmem :=
    foldl_wmem (fun s n => by split <;> simp) l t
  unfold execBootSelftest
  rw [formAfter_answer]
  dsimp only
  split
  · exact hs
  · split
    · split <;> simp [hs]
    · split <;> simp only [bootStop_wmem, setStep_wmem, layClusters_wmem, hlanes, hclusters] <;> exact hs
@[simp] theorem formAfter_execEntropyStartup (passed : BitVec 64) (condPass : BitVec 64) (katOk : Bool) (s : State)
    (hs : Memory.wf s.wmem = true) : FormAfter (execEntropyStartup passed condPass katOk s) := by
  simp only [execEntropyStartup, formAfter_answer]; (repeat' split) <;> simp [hs]
@[simp] theorem formAfter_execMonitorWindow (i : BitVec 3) (count : BitVec 8) (s : State)
    (hs : Memory.wf s.wmem = true) : FormAfter (execMonitorWindow i count s) := by
  simp only [execMonitorWindow, formAfter_answer, apply_ite State.wmem, tripMonitor_wmem, stopSwitch_wmem, ite_self]
  exact hs
@[simp] theorem formAfter_execXbCheck (edges : Nat) (s : State) (hs : Memory.wf s.wmem = true) :
    FormAfter (execXbCheck edges s) := by
  simp only [execXbCheck, formAfter_answer]; split <;> simp [hs]
@[simp] theorem formAfter_execClkGateCtrl (master : BitVec 7) (gate : BitVec 5) (on : Bool) (s : State)
    (hs : Memory.wf s.wmem = true) : FormAfter (execClkGateCtrl master gate on s) := by
  simp only [execClkGateCtrl, formAfter_answer]; (repeat' split) <;> simp [hs]
@[simp] theorem formAfter_execPdCtrl (master : BitVec 7) (pd : BitVec 5) (on : Bool) (s : State)
    (hs : Memory.wf s.wmem = true) : FormAfter (execPdCtrl master pd on s) := by
  simp only [execPdCtrl, formAfter_answer]; (repeat' split) <;> simp [hs]
@[simp] theorem formAfter_execPdSwitchEnd (s : State) (hs : Memory.wf s.wmem = true) :
    FormAfter (execPdSwitchEnd s) := by
  simp only [execPdSwitchEnd, formAfter_answer]; (repeat' split) <;> simp [hs]
@[simp] theorem formAfter_execNopInsn (k : CoreId) (s : State) (hs : Memory.wf s.wmem = true) :
    FormAfter (execNopInsn k s) := by
  simp [execNopInsn, hs]
@[simp] theorem formAfter_execMov (k : CoreId) (d : BitVec 4) (a : BitVec 4) (s : State)
    (hs : Memory.wf s.wmem = true) : FormAfter (execMov k d a s) := by
  simp [execMov, hs]
@[simp] theorem formAfter_execAddInsn (k : CoreId) (d : BitVec 4) (a : BitVec 4) (b : BitVec 4) (s : State)
    (hs : Memory.wf s.wmem = true) : FormAfter (execAddInsn k d a b s) := by
  simp [execAddInsn, hs]
@[simp] theorem formAfter_execSubInsn (k : CoreId) (d : BitVec 4) (a : BitVec 4) (b : BitVec 4) (s : State)
    (hs : Memory.wf s.wmem = true) : FormAfter (execSubInsn k d a b s) := by
  simp [execSubInsn, hs]
@[simp] theorem formAfter_execAndInsn (k : CoreId) (d : BitVec 4) (a : BitVec 4) (b : BitVec 4) (s : State)
    (hs : Memory.wf s.wmem = true) : FormAfter (execAndInsn k d a b s) := by
  simp [execAndInsn, hs]
@[simp] theorem formAfter_execOrInsn (k : CoreId) (d : BitVec 4) (a : BitVec 4) (b : BitVec 4) (s : State)
    (hs : Memory.wf s.wmem = true) : FormAfter (execOrInsn k d a b s) := by
  simp [execOrInsn, hs]
@[simp] theorem formAfter_execXorInsn (k : CoreId) (d : BitVec 4) (a : BitVec 4) (b : BitVec 4) (s : State)
    (hs : Memory.wf s.wmem = true) : FormAfter (execXorInsn k d a b s) := by
  simp [execXorInsn, hs]
@[simp] theorem formAfter_execAddcInsn (k : CoreId) (d : BitVec 4) (a : BitVec 4) (b : BitVec 4) (s : State)
    (hs : Memory.wf s.wmem = true) : FormAfter (execAddcInsn k d a b s) := by
  simp [execAddcInsn, hs]
@[simp] theorem formAfter_execSubbInsn (k : CoreId) (d : BitVec 4) (a : BitVec 4) (b : BitVec 4) (s : State)
    (hs : Memory.wf s.wmem = true) : FormAfter (execSubbInsn k d a b s) := by
  simp [execSubbInsn, hs]
@[simp] theorem formAfter_execShlInsn (k : CoreId) (d : BitVec 4) (a : BitVec 4) (b : BitVec 4) (s : State)
    (hs : Memory.wf s.wmem = true) : FormAfter (execShlInsn k d a b s) := by
  simp [execShlInsn, hs]
@[simp] theorem formAfter_execShrInsn (k : CoreId) (d : BitVec 4) (a : BitVec 4) (b : BitVec 4) (s : State)
    (hs : Memory.wf s.wmem = true) : FormAfter (execShrInsn k d a b s) := by
  simp [execShrInsn, hs]
@[simp] theorem formAfter_execSltuInsn (k : CoreId) (d : BitVec 4) (a : BitVec 4) (b : BitVec 4) (s : State)
    (hs : Memory.wf s.wmem = true) : FormAfter (execSltuInsn k d a b s) := by
  simp [execSltuInsn, hs]
@[simp] theorem formAfter_execMulInsn (k : CoreId) (d : BitVec 4) (a : BitVec 4) (b : BitVec 4) (s : State)
    (hs : Memory.wf s.wmem = true) : FormAfter (execMulInsn k d a b s) := by
  simp [execMulInsn, hs]
@[simp] theorem formAfter_execMulhuInsn (k : CoreId) (d : BitVec 4) (a : BitVec 4) (b : BitVec 4) (s : State)
    (hs : Memory.wf s.wmem = true) : FormAfter (execMulhuInsn k d a b s) := by
  simp [execMulhuInsn, hs]
@[simp] theorem formAfter_execNorm (k : CoreId) (d : BitVec 4) (a : BitVec 4) (s : State)
    (hs : Memory.wf s.wmem = true) : FormAfter (execNorm k d a s) := by
  simp [execNorm, hs]
@[simp] theorem formAfter_execGget (k : CoreId) (d : BitVec 4) (a : BitVec 4) (s : State)
    (hs : Memory.wf s.wmem = true) : FormAfter (execGget k d a s) := by
  simp [execGget, hs]
@[simp] theorem formAfter_execGclr (k : CoreId) (d : BitVec 4) (a : BitVec 4) (s : State)
    (hs : Memory.wf s.wmem = true) : FormAfter (execGclr k d a s) := by
  simp [execGclr, hs]
@[simp] theorem formAfter_execLi (k : CoreId) (d : BitVec 4) (imm : BitVec 8) (s : State)
    (hs : Memory.wf s.wmem = true) : FormAfter (execLi k d imm s) := by
  simp [execLi, hs]
@[simp] theorem formAfter_execAddi (k : CoreId) (d : BitVec 4) (imm : BitVec 8) (s : State)
    (hs : Memory.wf s.wmem = true) : FormAfter (execAddi k d imm s) := by
  simp [execAddi, hs]
@[simp] theorem formAfter_execShli (k : CoreId) (d : BitVec 4) (imm : BitVec 8) (s : State)
    (hs : Memory.wf s.wmem = true) : FormAfter (execShli k d imm s) := by
  simp [execShli, hs]
@[simp] theorem formAfter_execShri (k : CoreId) (d : BitVec 4) (imm : BitVec 8) (s : State)
    (hs : Memory.wf s.wmem = true) : FormAfter (execShri k d imm s) := by
  simp [execShri, hs]
@[simp] theorem formAfter_execLd (k : CoreId) (d : BitVec 4) (a : BitVec 4) (u : BitVec 4) (s : State)
    (hs : Memory.wf s.wmem = true) : FormAfter (execLd k d a u s) := by
  simp [execLd, hs]
@[simp] theorem formAfter_execSt (k : CoreId) (v : BitVec 4) (a : BitVec 4) (u : BitVec 4) (s : State)
    (hs : Memory.wf s.wmem = true) : FormAfter (execSt k v a u s) := by
  simp [execSt, hs]
@[simp] theorem formAfter_execNorms (k : CoreId) (a : BitVec 4) (s : State) (hs : Memory.wf s.wmem = true) :
    FormAfter (execNorms k a s) := by
  simp [execNorms, hs]
@[simp] theorem formAfter_execZeros (k : CoreId) (a : BitVec 4) (s : State) (hs : Memory.wf s.wmem = true) :
    FormAfter (execZeros k a s) := by
  simp [execZeros, hs]
@[simp] theorem formAfter_execBeqz (k : CoreId) (a : BitVec 4) (off : BitVec 8) (s : State)
    (hs : Memory.wf s.wmem = true) : FormAfter (execBeqz k a off s) := by
  simp [execBeqz, hs]
@[simp] theorem formAfter_execBnez (k : CoreId) (a : BitVec 4) (off : BitVec 8) (s : State)
    (hs : Memory.wf s.wmem = true) : FormAfter (execBnez k a off s) := by
  simp [execBnez, hs]
@[simp] theorem formAfter_execJr (k : CoreId) (a : BitVec 4) (s : State) (hs : Memory.wf s.wmem = true) :
    FormAfter (execJr k a s) := by
  simp [execJr, hs]
@[simp] theorem formAfter_execJalr (k : CoreId) (a : BitVec 4) (s : State) (hs : Memory.wf s.wmem = true) :
    FormAfter (execJalr k a s) := by
  simp [execJalr, hs]
@[simp] theorem formAfter_execRep (k : CoreId) (n : BitVec 6) (body : BitVec 36) (s : State)
    (hs : Memory.wf s.wmem = true) : FormAfter (execRep k n body s) := by
  simp [execRep, hs]
@[simp] theorem formAfter_execRepi (k : CoreId) (n : BitVec 12) (body : BitVec 36) (s : State)
    (hs : Memory.wf s.wmem = true) : FormAfter (execRepi k n body s) := by
  simp [execRepi, hs]
@[simp] theorem formAfter_execRfe (k : CoreId) (s : State) (hs : Memory.wf s.wmem = true) :
    FormAfter (execRfe k s) := by
  simp only [execRfe, formAfter_answer]; split <;> simp [hs]
@[simp] theorem formAfter_execCyc (k : CoreId) (d : BitVec 4) (s : State) (hs : Memory.wf s.wmem = true) :
    FormAfter (execCyc k d s) := by
  simp only [execCyc, formAfter_answer]; split <;> simp [hs]
@[simp] theorem formAfter_execMovs (k : CoreId) (d : BitVec 4) (sp : BitVec 4) (s : State)
    (hs : Memory.wf s.wmem = true) : FormAfter (execMovs k d sp s) := by
  simp [execMovs, hs]
@[simp] theorem formAfter_execMovt (k : CoreId) (sp : BitVec 4) (a : BitVec 4) (s : State)
    (hs : Memory.wf s.wmem = true) : FormAfter (execMovt k sp a s) := by
  simp [execMovt, hs]
@[simp] theorem formAfter_execAlu (k : CoreId) (op : BitVec 5) (d : BitVec 5) (a : BitVec 5) (b : BitVec 5)
    (s : State) (hs : Memory.wf s.wmem = true) : FormAfter (execAlu k op d a b s) := by
  simp [execAlu, hs]
@[simp] theorem formAfter_execSel (k : CoreId) (d : BitVec 5) (a : BitVec 5) (b : BitVec 5) (c : BitVec 5)
    (s : State) (hs : Memory.wf s.wmem = true) : FormAfter (execSel k d a b c s) := by
  simp [execSel, hs]
@[simp] theorem formAfter_execAddiLong (k : CoreId) (d : BitVec 5) (a : BitVec 5) (imm : BitVec 18) (s : State)
    (hs : Memory.wf s.wmem = true) : FormAfter (execAddiLong k d a imm s) := by
  simp [execAddiLong, hs]
@[simp] theorem formAfter_execAndi (k : CoreId) (d : BitVec 5) (a : BitVec 5) (imm : BitVec 18) (s : State)
    (hs : Memory.wf s.wmem = true) : FormAfter (execAndi k d a imm s) := by
  simp [execAndi, hs]
@[simp] theorem formAfter_execOri (k : CoreId) (d : BitVec 5) (a : BitVec 5) (imm : BitVec 18) (s : State)
    (hs : Memory.wf s.wmem = true) : FormAfter (execOri k d a imm s) := by
  simp [execOri, hs]
@[simp] theorem formAfter_execXori (k : CoreId) (d : BitVec 5) (a : BitVec 5) (imm : BitVec 18) (s : State)
    (hs : Memory.wf s.wmem = true) : FormAfter (execXori k d a imm s) := by
  simp [execXori, hs]
@[simp] theorem formAfter_execMovi (k : CoreId) (d : BitVec 5) (imm : BitVec 18) (s : State)
    (hs : Memory.wf s.wmem = true) : FormAfter (execMovi k d imm s) := by
  simp [execMovi, hs]
@[simp] theorem formAfter_execLui (k : CoreId) (d : BitVec 5) (imm : BitVec 18) (s : State)
    (hs : Memory.wf s.wmem = true) : FormAfter (execLui k d imm s) := by
  simp [execLui, hs]
@[simp] theorem formAfter_execShliLong (k : CoreId) (d : BitVec 5) (a : BitVec 5) (imm : BitVec 18) (s : State)
    (hs : Memory.wf s.wmem = true) : FormAfter (execShliLong k d a imm s) := by
  simp [execShliLong, hs]
@[simp] theorem formAfter_execShriLong (k : CoreId) (d : BitVec 5) (a : BitVec 5) (imm : BitVec 18) (s : State)
    (hs : Memory.wf s.wmem = true) : FormAfter (execShriLong k d a imm s) := by
  simp [execShriLong, hs]
@[simp] theorem formAfter_execLdLong (k : CoreId) (d : BitVec 5) (a : BitVec 5) (off : BitVec 18) (s : State)
    (hs : Memory.wf s.wmem = true) : FormAfter (execLdLong k d a off s) := by
  simp [execLdLong, hs]
@[simp] theorem formAfter_execStLong (k : CoreId) (v : BitVec 5) (a : BitVec 5) (off : BitVec 18) (s : State)
    (hs : Memory.wf s.wmem = true) : FormAfter (execStLong k v a off s) := by
  simp [execStLong, hs]
@[simp] theorem formAfter_execBeq (k : CoreId) (a : BitVec 5) (b : BitVec 5) (off : BitVec 18) (s : State)
    (hs : Memory.wf s.wmem = true) : FormAfter (execBeq k a b off s) := by
  simp [execBeq, hs]
@[simp] theorem formAfter_execBne (k : CoreId) (a : BitVec 5) (b : BitVec 5) (off : BitVec 18) (s : State)
    (hs : Memory.wf s.wmem = true) : FormAfter (execBne k a b off s) := by
  simp [execBne, hs]
@[simp] theorem formAfter_execBltu (k : CoreId) (a : BitVec 5) (b : BitVec 5) (off : BitVec 18) (s : State)
    (hs : Memory.wf s.wmem = true) : FormAfter (execBltu k a b off s) := by
  simp [execBltu, hs]
@[simp] theorem formAfter_execBgeu (k : CoreId) (a : BitVec 5) (b : BitVec 5) (off : BitVec 18) (s : State)
    (hs : Memory.wf s.wmem = true) : FormAfter (execBgeu k a b off s) := by
  simp [execBgeu, hs]
@[simp] theorem formAfter_execJal (k : CoreId) (off : BitVec 18) (s : State) (hs : Memory.wf s.wmem = true) :
    FormAfter (execJal k off s) := by
  simp [execJal, hs]
@[simp] theorem formAfter_execCycleLimit (k : CoreId) (s : State) (hs : Memory.wf s.wmem = true) :
    FormAfter (execCycleLimit k s) := by
  simp only [execCycleLimit, formAfter_answer]; (repeat' split) <;> simp [hs]
@[simp] theorem formAfter_execPeerCrownInRise (s : State) (hs : Memory.wf s.wmem = true) :
    FormAfter (execPeerCrownInRise s) := by
  simp only [execPeerCrownInRise, formAfter_answer]; (repeat' split) <;> simp [hs]
@[simp] theorem formAfter_execCrownRecheck (peerIn : Bool) (s : State) (hs : Memory.wf s.wmem = true) :
    FormAfter (execCrownRecheck peerIn s) := by
  simp only [execCrownRecheck, formAfter_answer]; (repeat' split) <;> simp [hs]
@[simp] theorem formAfter_execRetake (peerIn : Bool) (s : State) (hs : Memory.wf s.wmem = true) :
    FormAfter (execRetake peerIn s) := by
  simp only [execRetake, formAfter_answer]; (repeat' split) <;> simp [hs]
@[simp] theorem formAfter_execLeaseGuard (s : State) (hs : Memory.wf s.wmem = true) : FormAfter (execLeaseGuard s) := by
  simp only [execLeaseGuard, formAfter_answer]; (repeat' split) <;> simp [hs]
@[simp] theorem formAfter_execLeaseExpiry (s : State) (hs : Memory.wf s.wmem = true) :
    FormAfter (execLeaseExpiry s) := by
  simp only [execLeaseExpiry, formAfter_answer]; (repeat' split) <;> simp [hs]
@[simp] theorem formAfter_execReclaim (peerIn : Bool) (s : State) (hs : Memory.wf s.wmem = true) :
    FormAfter (execReclaim peerIn s) := by
  simp only [execReclaim, formAfter_answer]; (repeat' split) <;> simp [hs]
@[simp] theorem formAfter_execTakeWindow (peerIn : Bool) (s : State) (hs : Memory.wf s.wmem = true) :
    FormAfter (execTakeWindow peerIn s) := by
  simp only [execTakeWindow, formAfter_answer]; (repeat' split) <;> simp [hs]
@[simp] theorem formAfter_execTakeWindowMiss (s : State) (hs : Memory.wf s.wmem = true) :
    FormAfter (execTakeWindowMiss s) := by
  simp only [execTakeWindowMiss, formAfter_answer]; split <;> simp [hs]
@[simp] theorem formAfter_execPairDecision (peerIn : Bool) (s : State) (hs : Memory.wf s.wmem = true) :
    FormAfter (execPairDecision peerIn s) := by
  simp only [execPairDecision, formAfter_answer]; split <;> simp [hs]
@[simp] theorem formAfter_execPairWaitExpiry (peerIn : Bool) (s : State) (hs : Memory.wf s.wmem = true) :
    FormAfter (execPairWaitExpiry peerIn s) := by
  simp only [execPairWaitExpiry, formAfter_answer]; split <;> simp [hs]
@[simp] theorem formAfter_execPairRetry (peerIn : Bool) (s : State) (hs : Memory.wf s.wmem = true) :
    FormAfter (execPairRetry peerIn s) := by
  simp only [execPairRetry, formAfter_answer]; (repeat' split) <;> simp [hs]
@[simp] theorem formAfter_execPairForce (k : CoreId) (peerIn : Bool) (s : State) (hs : Memory.wf s.wmem = true) :
    FormAfter (execPairForce k peerIn s) := by
  simp [execPairForce, hs]
@[simp] theorem formAfter_execDrillOverdue (s : State) (hs : Memory.wf s.wmem = true) :
    FormAfter (execDrillOverdue s) := by
  simp only [execDrillOverdue, formAfter_answer]; split <;> simp [hs]
@[simp] theorem formAfter_execGateRequest (init : BitVec 7) (len : Nat) (msg : BitVec 640) (sl : BitVec 24)
    (s : State) (hs : Memory.wf s.wmem = true) : FormAfter (execGateRequest init len msg sl s) := by
  simp only [execGateRequest, formAfter_answer]; (repeat' split) <;> simp [hs]
@[simp] theorem formAfter_execSetFree (gate : BitVec 5) (master : BitVec 7) (s : State)
    (hs : Memory.wf s.wmem = true) : FormAfter (execSetFree gate master s) := by
  simp only [execSetFree, formAfter_answer]; (repeat' split) <;> simp [hs]
@[simp] theorem formAfter_execLoadSet (master : BitVec 7) (gate : BitVec 8) (set : Bool)
    (regions : List (BitVec 64)) (s : State) (hs : Memory.wf s.wmem = true) :
    FormAfter (execLoadSet master gate set regions s) := by
  simp only [execLoadSet, formAfter_answer]
  split
  · simp [hs]
  · rw [foldl_wmem fun s g => ite_wmem _ _ _ (by simp)]; simp [hs]
@[simp] theorem formAfter_execArmSet (master : BitVec 7) (gate : BitVec 8) (set : Bool) (s : State)
    (hs : Memory.wf s.wmem = true) : FormAfter (execArmSet master gate set s) := by
  simp only [execArmSet, formAfter_answer]
  generalize (if set then 1 else 0) = i
  split
  · simp [hs]
  · rw [foldl_wmem fun s g => ite_wmem _ _ _ (by simp)]; simp [hs]
@[simp] theorem formAfter_execSwapSet (master : BitVec 7) (s : State) (hs : Memory.wf s.wmem = true) :
    FormAfter (execSwapSet master s) := by
  simp only [execSwapSet, formAfter_answer]; split <;> simp [hs]
@[simp] theorem formAfter_execFreeSet (master : BitVec 7) (gate : BitVec 8) (set : Bool) (s : State)
    (hs : Memory.wf s.wmem = true) : FormAfter (execFreeSet master gate set s) := by
  simp only [execFreeSet, formAfter_answer]
  generalize (if set then 1 else 0) = i
  split
  · simp [hs]
  · rw [foldl_wmem fun s g => ite_wmem _ _ _ (by simp)]; simp [hs]
@[simp] theorem formAfter_execGateSelfCheck (gate : BitVec 5) (cause : BitVec 2) (central : Bool) (s : State)
    (hs : Memory.wf s.wmem = true) : FormAfter (execGateSelfCheck gate cause central s) := by
  simp only [execGateSelfCheck, formAfter_answer]; (repeat' split) <;> simp [hs]
@[simp] theorem formAfter_execDispatch (k : CoreId) (s : State) (hs : Memory.wf s.wmem = true) :
    FormAfter (execDispatch k s) := by
  simp only [execDispatch, formAfter_answer]; (repeat' split) <;> simp [hs]
@[simp] theorem formAfter_execRuleTableReturn (k : CoreId) (primary secondary : Bool) (s : State)
    (hs : Memory.wf s.wmem = true) : FormAfter (execRuleTableReturn k primary secondary s) := by
  simp only [execRuleTableReturn, formAfter_answer]; (repeat' split) <;> simp [hs]
@[simp] theorem formAfter_execSoDefer (k : CoreId) (ticks : BitVec 16) (s : State) (hs : Memory.wf s.wmem = true) :
    FormAfter (execSoDefer k ticks s) := by
  simp only [execSoDefer, formAfter_answer]; (repeat' split) <;> simp [hs]
@[simp] theorem formAfter_execDeferExpiry (e : Nat) (s : State) (hs : Memory.wf s.wmem = true) :
    FormAfter (execDeferExpiry e s) := by
  simp only [execDeferExpiry, formAfter_answer]; (repeat' split) <;> simp [hs]
@[simp] theorem formAfter_execEnq (master : BitVec 7) (value : BitVec 32) (s : State)
    (hs : Memory.wf s.wmem = true) : FormAfter (execEnq master value s) := by
  simp only [execEnq, formAfter_answer]; split <;> simp [hs]
@[simp] theorem formAfter_execSupervisorTimer (insert : Option (BitVec 25 × BitVec 32)) (s : State)
    (hs : Memory.wf s.wmem = true) : FormAfter (execSupervisorTimer insert s) := by
  simp only [execSupervisorTimer, formAfter_answer]; (repeat' split) <;> simp [hs]
@[simp] theorem formAfter_execPhSel (portB : Bool) (value : BitVec 12) (s : State) (hs : Memory.wf s.wmem = true) :
    FormAfter (execPhSel portB value s) := by
  simp [execPhSel, hs]
@[simp] theorem formAfter_execSlotSel (portB : Bool) (value : BitVec 10) (s : State) (hs : Memory.wf s.wmem = true) :
    FormAfter (execSlotSel portB value s) := by
  simp [execSlotSel, hs]
@[simp] theorem formAfter_execHistSel (portB : Bool) (cluster : BitVec 3) (level : BitVec 3) (s : State)
    (hs : Memory.wf s.wmem = true) : FormAfter (execHistSel portB cluster level s) := by
  simp [execHistSel, hs]
@[simp] theorem formAfter_execClrMax (portB : Bool) (s : State) (hs : Memory.wf s.wmem = true) :
    FormAfter (execClrMax portB s) := by
  simp [execClrMax, hs]
@[simp] theorem formAfter_execClrSlot (portB : Bool) (s : State) (hs : Memory.wf s.wmem = true) :
    FormAfter (execClrSlot portB s) := by
  simp [execClrSlot, hs]
@[simp] theorem formAfter_execClrHist (portB : Bool) (s : State) (hs : Memory.wf s.wmem = true) :
    FormAfter (execClrHist portB s) := by
  simp [execClrHist, hs]
@[simp] theorem formAfter_execClrDstall (s : State) (hs : Memory.wf s.wmem = true) : FormAfter (execClrDstall s) := by
  simp [execClrDstall, hs]
@[simp] theorem formAfter_execBusyWindowEnd (second : Bool) (k : CoreId) (busy : BitVec 16) (s : State)
    (hs : Memory.wf s.wmem = true) : FormAfter (execBusyWindowEnd second k busy s) := by
  simp [execBusyWindowEnd, hs]
@[simp] theorem formAfter_execDoneInsn (k : CoreId) (a : BitVec 4) (b : BitVec 4) (s : State)
    (hs : Memory.wf s.wmem = true) : FormAfter (execDoneInsn k a b s) := by
  simp only [execDoneInsn, formAfter_answer]; (repeat' split) <;> simp [hs]
@[simp] theorem formAfter_execHealthReport (k : CoreId) (s : State) (hs : Memory.wf s.wmem = true) :
    FormAfter (execHealthReport k s) := by
  simp [execHealthReport, hs]
@[simp] theorem formAfter_execIdleFrame (s : State) (hs : Memory.wf s.wmem = true) : FormAfter (execIdleFrame s) := by
  simp only [execIdleFrame, formAfter_answer]; split <;> simp [hs]
@[simp] theorem formAfter_execFrameReplay (seq : Nat) (s : State) (hs : Memory.wf s.wmem = true) :
    FormAfter (execFrameReplay seq s) := by
  simp only [execFrameReplay, formAfter_answer]; (repeat' split) <;> simp [hs]
@[simp] theorem formAfter_execMirrorLinkDown (s : State) (hs : Memory.wf s.wmem = true) :
    FormAfter (execMirrorLinkDown s) := by
  simp [execMirrorLinkDown, hs]
@[simp] theorem formAfter_execMirrorLinkUp (s : State) (hs : Memory.wf s.wmem = true) :
    FormAfter (execMirrorLinkUp s) := by
  simp only [execMirrorLinkUp, formAfter_answer]; split <;> simp [hs]
@[simp] theorem formAfter_execMirrorLaneError (lane : BitVec 2) (lock : Bool) (s : State)
    (hs : Memory.wf s.wmem = true) : FormAfter (execMirrorLaneError lane lock s) := by
  simp only [execMirrorLaneError, formAfter_answer]; (repeat' split) <;> simp [hs]
@[simp] theorem formAfter_execHello (h : HelloMsg) (s : State) (hs : Memory.wf s.wmem = true) :
    FormAfter (execHello h s) := by
  simp only [execHello, formAfter_answer]; (repeat' split) <;> simp [hs]
@[simp] theorem formAfter_execKeyConfirm (ok : Bool) (s : State) (hs : Memory.wf s.wmem = true) :
    FormAfter (execKeyConfirm ok s) := by
  simp only [execKeyConfirm, formAfter_answer]; (repeat' split) <;> simp [hs]
@[simp] theorem formAfter_execCommitMsg (h : MsgHead) (m : CommitMsg) (s : State) (hs : Memory.wf s.wmem = true) :
    FormAfter (execCommitMsg h m s) := by
  refine (formAfter_answer _).2 (wf_accept (fun t ht => ?_) hs)
  dsimp only
  split
  · exact ht
  · simpa using wf_foldl wf_mirrorWrite m.writes (s := addReplay t (recordOf m)) (by simpa using ht)
@[simp] theorem formAfter_execCommitAck (h : MsgHead) (seq : Nat) (s : State) (hs : Memory.wf s.wmem = true) :
    FormAfter (execCommitAck h seq s) := by
  refine (formAfter_answer _).2 (wf_accept (fun t ht => ?_) hs)
  (repeat' split) <;> simp [ht]
@[simp] theorem formAfter_execJournalMsg (h : MsgHead) (entries : List Octets) (head : BitVec 64) (s : State)
    (hs : Memory.wf s.wmem = true) : FormAfter (execJournalMsg h entries head s) := by
  refine (formAfter_answer _).2 (wf_accept (fun t ht => ?_) hs)
  dsimp only
  split <;> simp [foldl_wmem, ht]
@[simp] theorem formAfter_execStandbyEvent (h : MsgHead) (entry : Octets) (s : State)
    (hs : Memory.wf s.wmem = true) : FormAfter (execStandbyEvent h entry s) := by
  refine (formAfter_answer _).2 (wf_accept (fun t ht => ?_) hs)
  (repeat' split) <;> simp [ht]
@[simp] theorem formAfter_execCacheListTimer (s : State) (hs : Memory.wf s.wmem = true) :
    FormAfter (execCacheListTimer s) := by
  simp only [execCacheListTimer, formAfter_answer]
  split <;> simp [foldl_wmem, hs]
@[simp] theorem formAfter_execCacheList (h : MsgHead) (labels : List (Nat × Octets)) (s : State)
    (hs : Memory.wf s.wmem = true) : FormAfter (execCacheList h labels s) := by
  refine (formAfter_answer _).2 (wf_accept (fun t ht => ?_) hs)
  (repeat' split) <;> simp [ht]
@[simp] theorem formAfter_execTimeSync (h : MsgHead) (skew : BitVec 64) (s : State) (hs : Memory.wf s.wmem = true) :
    FormAfter (execTimeSync h skew s) := by
  refine (formAfter_answer _).2 (wf_accept (fun t ht => ?_) hs)
  dsimp only
  (repeat' split) <;> simp [ht]
@[simp] theorem formAfter_execBulk (h : MsgHead) (chunk : BulkChunk) (last : Bool) (s : State)
    (hs : Memory.wf s.wmem = true) : FormAfter (execBulk h chunk last s) := by
  refine (formAfter_answer _).2 (wf_accept (fun t ht => ?_) hs)
  (repeat' split) <;> simp [ht]
@[simp] theorem formAfter_execBulkAck (h : MsgHead) (last : Bool) (s : State) (hs : Memory.wf s.wmem = true) :
    FormAfter (execBulkAck h last s) := by
  refine (formAfter_answer _).2 (wf_accept (fun t ht => ?_) hs)
  (repeat' split) <;> simp [ht]
@[simp] theorem formAfter_execLeaseRenewTimer (s : State) (hs : Memory.wf s.wmem = true) :
    FormAfter (execLeaseRenewTimer s) := by
  simp only [execLeaseRenewTimer, formAfter_answer]; (repeat' split) <;> simp [hs]
@[simp] theorem formAfter_execLeaseRenew (h : MsgHead) (sent : BitVec 64) (leaseUs : BitVec 32) (n : BitVec 32)
    (s : State) (hs : Memory.wf s.wmem = true) : FormAfter (execLeaseRenew h sent leaseUs n s) := by
  refine (formAfter_answer _).2 (wf_accept (fun t ht => ?_) hs)
  (repeat' split) <;> simp [ht]
@[simp] theorem formAfter_execLeaseAck (h : MsgHead) (n : BitVec 32) (s : State) (hs : Memory.wf s.wmem = true) :
    FormAfter (execLeaseAck h n s) := by
  refine (formAfter_answer _).2 (wf_accept (fun t ht => ?_) hs)
  (repeat' split) <;> simp [ht]
@[simp] theorem formAfter_execDetach (relay : Bool) (h : MsgHead) (s : State) (hs : Memory.wf s.wmem = true) :
    FormAfter (execDetach relay h s) := by
  refine (formAfter_answer _).2 (wf_accept (fun t ht => ?_) hs)
  (repeat' split) <;> simp [ht]
@[simp] theorem formAfter_execDetachAck (relay : Bool) (h : MsgHead) (s : State) (hs : Memory.wf s.wmem = true) :
    FormAfter (execDetachAck relay h s) := by
  refine (formAfter_answer _).2 (wf_accept (fun t ht => ?_) hs)
  (repeat' split) <;> simp [ht]
@[simp] theorem formAfter_execDetachTimeout (s : State) (hs : Memory.wf s.wmem = true) :
    FormAfter (execDetachTimeout s) := by
  simp only [execDetachTimeout, formAfter_answer]; split <;> simp [hs]
@[simp] theorem formAfter_execSelfDetach (s : State) (hs : Memory.wf s.wmem = true) : FormAfter (execSelfDetach s) := by
  simp only [execSelfDetach, formAfter_answer]; split <;> simp [hs]
@[simp] theorem formAfter_execRelayIn (value : BitVec 64) (s : State) (hs : Memory.wf s.wmem = true) :
    FormAfter (execRelayIn value s) := by
  unfold execRelayIn
  rw [formAfter_answer]
  dsimp only
  split
  · exact hs
  · split
    · exact hs
    · refine wf_accept (fun t ht => ?_) hs
      (repeat' split) <;> simp [ht]
@[simp] theorem formAfter_execRoleSwap (k : CoreId) (s : State) (hs : Memory.wf s.wmem = true) :
    FormAfter (execRoleSwap k s) := by
  simp [execRoleSwap, hs]
@[simp] theorem formAfter_execRoleSwapDrainEnd (inTime : Bool) (s : State) (hs : Memory.wf s.wmem = true) :
    FormAfter (execRoleSwapDrainEnd inTime s) := by
  simp only [execRoleSwapDrainEnd, formAfter_answer]; (repeat' split) <;> simp [hs]
@[simp] theorem formAfter_execHandover (h : MsgHead) (tm : BitVec 64) (peerIn : Bool) (s : State)
    (hs : Memory.wf s.wmem = true) : FormAfter (execHandover h tm peerIn s) := by
  refine (formAfter_answer _).2 (wf_accept (fun t ht => ?_) hs)
  dsimp only
  (repeat' split) <;> simp [ht]
@[simp] theorem formAfter_execHandoverAck (h : MsgHead) (s : State) (hs : Memory.wf s.wmem = true) :
    FormAfter (execHandoverAck h s) := by
  refine (formAfter_answer _).2 (wf_accept (fun t ht => ?_) hs)
  (repeat' split) <;> simp [ht]
@[simp] theorem formAfter_execStart (_portB : Bool) (s : State) (hs : Memory.wf s.wmem = true) :
    FormAfter (execStart _portB s) := by
  simp only [execStart, formAfter_answer]; (repeat' split) <;> simp [hs]
@[simp] theorem formAfter_execAbort (s : State) (hs : Memory.wf s.wmem = true) : FormAfter (execAbort s) := by
  simp [execAbort, hs]
@[simp] theorem formAfter_execImageReceived (r : HostRead) (s : State) (hs : Memory.wf s.wmem = true) :
    FormAfter (execImageReceived r s) := by
  simp only [execImageReceived, formAfter_answer]; (repeat' split) <;> simp [hs]
@[simp] theorem formAfter_execImageArmLapse (s : State) (hs : Memory.wf s.wmem = true) :
    FormAfter (execImageArmLapse s) := by
  simp [execImageArmLapse, hs]
@[simp] theorem formAfter_execImageVerified (s : State) (hs : Memory.wf s.wmem = true) :
    FormAfter (execImageVerified s) := by
  simp only [execImageVerified, formAfter_answer]; (repeat' split) <;> simp [hs]
@[simp] theorem formAfter_execLayoutApplied (s : State) (hs : Memory.wf s.wmem = true) :
    FormAfter (execLayoutApplied s) := by
  simp only [execLayoutApplied, formAfter_answer]; (repeat' split) <;> simp [hs]
@[simp] theorem formAfter_execKeyGenerate (k : CoreId) (s : State) (hs : Memory.wf s.wmem = true) :
    FormAfter (execKeyGenerate k s) := by
  simp [execKeyGenerate, hs]
@[simp] theorem formAfter_execKeyDerive (k : CoreId) (s : State) (hs : Memory.wf s.wmem = true) :
    FormAfter (execKeyDerive k s) := by
  simp [execKeyDerive, hs]
@[simp] theorem formAfter_execEnvelopeMake (k : CoreId) (s : State) (hs : Memory.wf s.wmem = true) :
    FormAfter (execEnvelopeMake k s) := by
  simp [execEnvelopeMake, hs]
@[simp] theorem formAfter_execKeyImport (k : CoreId) (s : State) (hs : Memory.wf s.wmem = true) :
    FormAfter (execKeyImport k s) := by
  simp [execKeyImport, hs]
@[simp] theorem formAfter_execKeyExport (k : CoreId) (s : State) (hs : Memory.wf s.wmem = true) :
    FormAfter (execKeyExport k s) := by
  simp [execKeyExport, hs]
@[simp] theorem formAfter_execEnvelopeUpgrade (k : CoreId) (s : State) (hs : Memory.wf s.wmem = true) :
    FormAfter (execEnvelopeUpgrade k s) := by
  simp [execEnvelopeUpgrade, hs]
@[simp] theorem formAfter_execKeyCheckValue (k : CoreId) (s : State) (hs : Memory.wf s.wmem = true) :
    FormAfter (execKeyCheckValue k s) := by
  simp [execKeyCheckValue, hs]
@[simp] theorem formAfter_execEcdsaSign (k : CoreId) (s : State) (hs : Memory.wf s.wmem = true) :
    FormAfter (execEcdsaSign k s) := by
  simp [execEcdsaSign, hs]
@[simp] theorem formAfter_execEcdsaVerify (k : CoreId) (s : State) (hs : Memory.wf s.wmem = true) :
    FormAfter (execEcdsaVerify k s) := by
  simp [execEcdsaVerify, hs]
@[simp] theorem formAfter_execEcdh (k : CoreId) (s : State) (hs : Memory.wf s.wmem = true) :
    FormAfter (execEcdh k s) := by
  simp [execEcdh, hs]
@[simp] theorem formAfter_execEcKeygen (k : CoreId) (s : State) (hs : Memory.wf s.wmem = true) :
    FormAfter (execEcKeygen k s) := by
  simp [execEcKeygen, hs]
@[simp] theorem formAfter_execRsaSign (k : CoreId) (s : State) (hs : Memory.wf s.wmem = true) :
    FormAfter (execRsaSign k s) := by
  simp [execRsaSign, hs]
@[simp] theorem formAfter_execRsaVerify (k : CoreId) (s : State) (hs : Memory.wf s.wmem = true) :
    FormAfter (execRsaVerify k s) := by
  simp [execRsaVerify, hs]
@[simp] theorem formAfter_execRsaDecrypt (k : CoreId) (s : State) (hs : Memory.wf s.wmem = true) :
    FormAfter (execRsaDecrypt k s) := by
  simp [execRsaDecrypt, hs]
@[simp] theorem formAfter_execRsaKeygen (k : CoreId) (s : State) (hs : Memory.wf s.wmem = true) :
    FormAfter (execRsaKeygen k s) := by
  simp [execRsaKeygen, hs]
@[simp] theorem formAfter_execRklRsa (k : CoreId) (s : State) (hs : Memory.wf s.wmem = true) :
    FormAfter (execRklRsa k s) := by
  simp [execRklRsa, hs]
@[simp] theorem formAfter_execRklEcdh (k : CoreId) (s : State) (hs : Memory.wf s.wmem = true) :
    FormAfter (execRklEcdh k s) := by
  simp [execRklEcdh, hs]
@[simp] theorem formAfter_execCurveLoad (k : CoreId) (s : State) (hs : Memory.wf s.wmem = true) :
    FormAfter (execCurveLoad k s) := by
  simp [execCurveLoad, hs]
@[simp] theorem formAfter_execLoadLane (k : CoreId) (req : KeyReq) (s : State) (hs : Memory.wf s.wmem = true) :
    FormAfter (execLoadLane k req s) := by
  simp only [execLoadLane, formAfter_answer]; split <;> simp [hs]
@[simp] theorem formAfter_execLoadHash (k : CoreId) (req : KeyReq) (s : State) (hs : Memory.wf s.wmem = true) :
    FormAfter (execLoadHash k req s) := by
  simp only [execLoadHash, formAfter_answer]; split <;> simp [hs]
@[simp] theorem formAfter_execLoadPrivate (k : CoreId) (req : KeyReq) (s : State) (hs : Memory.wf s.wmem = true) :
    FormAfter (execLoadPrivate k req s) := by
  simp [execLoadPrivate, hs]
@[simp] theorem formAfter_execDukpt (k : CoreId) (req : KeyReq) (s : State) (hs : Memory.wf s.wmem = true) :
    FormAfter (execDukpt k req s) := by
  simp only [execDukpt, formAfter_answer]; split <;> simp [hs]
@[simp] theorem formAfter_execEmv (k : CoreId) (req : KeyReq) (s : State) (hs : Memory.wf s.wmem = true) :
    FormAfter (execEmv k req s) := by
  simp only [execEmv, formAfter_answer]; split <;> simp [hs]
@[simp] theorem formAfter_execDerive (k : CoreId) (req : KeyReq) (s : State) (hs : Memory.wf s.wmem = true) :
    FormAfter (execDerive k req s) := by
  simp only [execDerive, formAfter_answer]; split <;> simp [hs]
@[simp] theorem formAfter_execGenerateKey (k : CoreId) (req : KeyReq) (s : State) (hs : Memory.wf s.wmem = true) :
    FormAfter (execGenerateKey k req s) := by
  simp only [execGenerateKey, formAfter_answer]; split <;> simp [hs]
@[simp] theorem formAfter_execWrap (k : CoreId) (req : KeyReq) (s : State) (hs : Memory.wf s.wmem = true) :
    FormAfter (execWrap k req s) := by
  simp [execWrap, hs]
@[simp] theorem formAfter_execImportKeyBlock (k : CoreId) (req : KeyReq) (s : State) (hs : Memory.wf s.wmem = true) :
    FormAfter (execImportKeyBlock k req s) := by
  simp [execImportKeyBlock, hs]
@[simp] theorem formAfter_execExportKeyBlock (k : CoreId) (req : KeyReq) (s : State) (hs : Memory.wf s.wmem = true) :
    FormAfter (execExportKeyBlock k req s) := by
  simp [execExportKeyBlock, hs]
@[simp] theorem formAfter_execSecret (k : CoreId) (req : KeyReq) (s : State) (hs : Memory.wf s.wmem = true) :
    FormAfter (execSecret k req s) := by
  simp only [execSecret, formAfter_answer]; split <;> simp [hs]
@[simp] theorem formAfter_execUpgrade (k : CoreId) (req : KeyReq) (s : State) (hs : Memory.wf s.wmem = true) :
    FormAfter (execUpgrade k req s) := by
  simp [execUpgrade, hs]
@[simp] theorem formAfter_execOaepKey (k : CoreId) (req : KeyReq) (s : State) (hs : Memory.wf s.wmem = true) :
    FormAfter (execOaepKey k req s) := by
  simp [execOaepKey, hs]
@[simp] theorem formAfter_execKeyRequestEnd (k : CoreId) (s : State) (hs : Memory.wf s.wmem = true) :
    FormAfter (execKeyRequestEnd k s) := by
  simp only [execKeyRequestEnd, formAfter_answer]; split <;> simp [hs]
@[simp] theorem formAfter_execEntdaa (chainIn : Bool) (addr : Option (BitVec 7)) (s : State)
    (hs : Memory.wf s.wmem = true) : FormAfter (execEntdaa chainIn addr s) := by
  simp only [execEntdaa, formAfter_answer]; (repeat' split) <;> simp [hs]
@[simp] theorem formAfter_execRstdaa (s : State) (hs : Memory.wf s.wmem = true) : FormAfter (execRstdaa s) := by
  simp only [execRstdaa, formAfter_answer]; split <;> simp [hs]
@[simp] theorem formAfter_execEnec (events : BitVec 8) (s : State) (hs : Memory.wf s.wmem = true) :
    FormAfter (execEnec events s) := by
  simp only [execEnec, formAfter_answer]; split <;> simp [hs]
@[simp] theorem formAfter_execDisec (events : BitVec 8) (s : State) (hs : Memory.wf s.wmem = true) :
    FormAfter (execDisec events s) := by
  simp only [execDisec, formAfter_answer]; split <;> simp [hs]
@[simp] theorem formAfter_execSetmwl (n : BitVec 16) (s : State) (hs : Memory.wf s.wmem = true) :
    FormAfter (execSetmwl n s) := by
  simp only [execSetmwl, formAfter_answer]; split <;> simp [hs]
@[simp] theorem formAfter_execSetmrl (n : BitVec 16) (s : State) (hs : Memory.wf s.wmem = true) :
    FormAfter (execSetmrl n s) := by
  simp only [execSetmrl, formAfter_answer]; split <;> simp [hs]
@[simp] theorem formAfter_execGetmwl (s : State) (hs : Memory.wf s.wmem = true) : FormAfter (execGetmwl s) := by
  simp [execGetmwl, hs]
@[simp] theorem formAfter_execGetmrl (s : State) (hs : Memory.wf s.wmem = true) : FormAfter (execGetmrl s) := by
  simp [execGetmrl, hs]
@[simp] theorem formAfter_execGetpid (s : State) (hs : Memory.wf s.wmem = true) : FormAfter (execGetpid s) := by
  simp [execGetpid, hs]
@[simp] theorem formAfter_execGetbcr (s : State) (hs : Memory.wf s.wmem = true) : FormAfter (execGetbcr s) := by
  simp [execGetbcr, hs]
@[simp] theorem formAfter_execGetdcr (s : State) (hs : Memory.wf s.wmem = true) : FormAfter (execGetdcr s) := by
  simp [execGetdcr, hs]
@[simp] theorem formAfter_execGetstatus (s : State) (hs : Memory.wf s.wmem = true) : FormAfter (execGetstatus s) := by
  simp only [execGetstatus, formAfter_answer]; split <;> simp [hs]
@[simp] theorem formAfter_execChainInRise (s : State) (hs : Memory.wf s.wmem = true) :
    FormAfter (execChainInRise s) := by
  simp [execChainInRise, hs]
@[simp] theorem formAfter_execHotJoin (s : State) (hs : Memory.wf s.wmem = true) : FormAfter (execHotJoin s) := by
  simp only [execHotJoin, formAfter_answer]; split <;> simp [hs]
@[simp] theorem formAfter_execSetEndpointId (op : BitVec 2) (eid : BitVec 8) (s : State)
    (hs : Memory.wf s.wmem = true) : FormAfter (execSetEndpointId op eid s) := by
  simp only [execSetEndpointId, formAfter_answer]; (repeat' split) <;> simp [hs]
@[simp] theorem formAfter_execGetEndpointId (s : State) (hs : Memory.wf s.wmem = true) :
    FormAfter (execGetEndpointId s) := by
  simp [execGetEndpointId, hs]
@[simp] theorem formAfter_execGetMctpVersionSupport (msgType : BitVec 8) (s : State) (hs : Memory.wf s.wmem = true) :
    FormAfter (execGetMctpVersionSupport msgType s) := by
  simp only [execGetMctpVersionSupport, formAfter_answer]; split <;> simp [hs]
@[simp] theorem formAfter_execGetMessageTypeSupport (s : State) (hs : Memory.wf s.wmem = true) :
    FormAfter (execGetMessageTypeSupport s) := by
  simp [execGetMessageTypeSupport, hs]
@[simp] theorem formAfter_execGetVendorDefinedMessageSupport (selector : BitVec 8) (s : State)
    (hs : Memory.wf s.wmem = true) : FormAfter (execGetVendorDefinedMessageSupport selector s) := by
  simp only [execGetVendorDefinedMessageSupport, formAfter_answer]; split <;> simp [hs]
@[simp] theorem formAfter_execGetIdentity (s : State) (hs : Memory.wf s.wmem = true) :
    FormAfter (execGetIdentity s) := by
  simp [execGetIdentity, hs]
@[simp] theorem formAfter_execGetMode (s : State) (hs : Memory.wf s.wmem = true) : FormAfter (execGetMode s) := by
  simp [execGetMode, hs]
@[simp] theorem formAfter_execMctpBatteryLog (s : State) (hs : Memory.wf s.wmem = true) :
    FormAfter (execMctpBatteryLog s) := by
  simp [execMctpBatteryLog, hs]
@[simp] theorem formAfter_execMctpHealthReport (s : State) (hs : Memory.wf s.wmem = true) :
    FormAfter (execMctpHealthReport s) := by
  simp [execMctpHealthReport, hs]
@[simp] theorem formAfter_execImageStatus (s : State) (hs : Memory.wf s.wmem = true) :
    FormAfter (execImageStatus s) := by
  simp [execImageStatus, hs]
@[simp] theorem formAfter_execImageBegin (len : BitVec 32) (s : State) (hs : Memory.wf s.wmem = true) :
    FormAfter (execImageBegin len s) := by
  simp only [execImageBegin, formAfter_answer]; (repeat' split) <;> simp [hs]
@[simp] theorem formAfter_execImageData (off : BitVec 32) (data : Octets) (s : State)
    (hs : Memory.wf s.wmem = true) : FormAfter (execImageData off data s) := by
  simp only [execImageData, formAfter_answer]; (repeat' split) <;> simp [hs]
@[simp] theorem formAfter_execImageEnd (s : State) (hs : Memory.wf s.wmem = true) : FormAfter (execImageEnd s) := by
  simp only [execImageEnd, formAfter_answer]; (repeat' split) <;> simp [hs]
@[simp] theorem formAfter_execImageAbort (s : State) (hs : Memory.wf s.wmem = true) : FormAfter (execImageAbort s) := by
  simp only [execImageAbort, formAfter_answer]; split <;> simp [hs]
@[simp] theorem formAfter_execImageTransferTimeout (s : State) (hs : Memory.wf s.wmem = true) :
    FormAfter (execImageTransferTimeout s) := by
  simp only [execImageTransferTimeout, formAfter_answer]; split <;> simp [hs]
@[simp] theorem formAfter_execBoundaryScan (ir : ScanIr) (tdi pins : Octets) (s : State)
    (hs : Memory.wf s.wmem = true) : FormAfter (execBoundaryScan ir tdi pins s) := by
  simp only [execBoundaryScan, formAfter_answer]; (repeat' split) <;> simp [hs]
@[simp] theorem formAfter_execMaintEnter (k : CoreId) (s : State) (hs : Memory.wf s.wmem = true) :
    FormAfter (execMaintEnter k s) := by
  simp [execMaintEnter, hs]
@[simp] theorem formAfter_execMaintDrainEnd (s : State) (hs : Memory.wf s.wmem = true) :
    FormAfter (execMaintDrainEnd s) := by
  simp only [execMaintDrainEnd, formAfter_answer]; (repeat' split) <;> simp [hs]
@[simp] theorem formAfter_execMaintExit (k : CoreId) (s : State) (hs : Memory.wf s.wmem = true) :
    FormAfter (execMaintExit k s) := by
  simp only [execMaintExit, formAfter_answer]; split <;> simp [hs]
@[simp] theorem formAfter_execImageReapply (k : CoreId) (s : State) (hs : Memory.wf s.wmem = true) :
    FormAfter (execImageReapply k s) := by
  simp [execImageReapply, hs]
@[simp] theorem formAfter_execModuleRetire (k : CoreId) (s : State) (hs : Memory.wf s.wmem = true) :
    FormAfter (execModuleRetire k s) := by
  simp [execModuleRetire, hs]
@[simp] theorem formAfter_execRetireErase (s : State) (hs : Memory.wf s.wmem = true) :
    FormAfter (execRetireErase s) := by
  simp only [execRetireErase, formAfter_answer]; split <;> simp [hs]
@[simp] theorem formAfter_execDiagEnter (k : CoreId) (s : State) (hs : Memory.wf s.wmem = true) :
    FormAfter (execDiagEnter k s) := by
  simp [execDiagEnter, hs]
@[simp] theorem formAfter_execDiagExit (k : CoreId) (s : State) (hs : Memory.wf s.wmem = true) :
    FormAfter (execDiagExit k s) := by
  simp [execDiagExit, hs]
@[simp] theorem formAfter_execWmuClr (k : CoreId) (s : State) (hs : Memory.wf s.wmem = true) :
    FormAfter (execWmuClr k s) := by
  simp [execWmuClr, hs]
@[simp] theorem formAfter_execWmuSetp (k : CoreId) (gl : BitVec 4) (go : BitVec 4) (s : State)
    (hs : Memory.wf s.wmem = true) : FormAfter (execWmuSetp k gl go s) := by
  simp [execWmuSetp, hs]
@[simp] theorem formAfter_execWmuLdm (k : CoreId) (m1 : Bool) (ga : BitVec 4) (s : State)
    (hs : Memory.wf s.wmem = true) : FormAfter (execWmuLdm k m1 ga s) := by
  simp [execWmuLdm, hs]
@[simp] theorem formAfter_execWmuMac (k : CoreId) (m1 : Bool) (b : BitVec 4) (s : State)
    (hs : Memory.wf s.wmem = true) : FormAfter (execWmuMac k m1 b s) := by
  simp [execWmuMac, hs]
@[simp] theorem formAfter_execWmuMacs (k : CoreId) (m1 : Bool) (s : State) (hs : Memory.wf s.wmem = true) :
    FormAfter (execWmuMacs k m1 s) := by
  simp [execWmuMacs, hs]
@[simp] theorem formAfter_execWmuMacsSh (k : CoreId) (m1 : Bool) (s : State) (hs : Memory.wf s.wmem = true) :
    FormAfter (execWmuMacsSh k m1 s) := by
  simp [execWmuMacsSh, hs]
@[simp] theorem formAfter_execWmuPeek (k : CoreId) (d : BitVec 4) (s : State) (hs : Memory.wf s.wmem = true) :
    FormAfter (execWmuPeek k d s) := by
  simp [execWmuPeek, hs]
@[simp] theorem formAfter_execWmuPop (k : CoreId) (d : BitVec 4) (s : State) (hs : Memory.wf s.wmem = true) :
    FormAfter (execWmuPop k d s) := by
  simp [execWmuPop, hs]
@[simp] theorem formAfter_execWmuPops (k : CoreId) (s : State) (hs : Memory.wf s.wmem = true) :
    FormAfter (execWmuPops k s) := by
  simp [execWmuPops, hs]
@[simp] theorem formAfter_execWmuStat (k : CoreId) (d : BitVec 4) (s : State) (hs : Memory.wf s.wmem = true) :
    FormAfter (execWmuStat k d s) := by
  simp [execWmuStat, hs]
@[simp] theorem formAfter_execScrubEnd (k : CoreId) (s : State) (hs : Memory.wf s.wmem = true) :
    FormAfter (execScrubEnd k s) := by
  simp only [execScrubEnd, formAfter_answer]; (repeat' split) <;> simp [hs]
@[simp] theorem formAfter_execDSramCleared (k : CoreId) (s : State) (hs : Memory.wf s.wmem = true) :
    FormAfter (execDSramCleared k s) := by
  simp [execDSramCleared, hs]
@[simp] theorem wf_writeConfig (s : State) (fn : Fn) (i off : Nat) (v : BitVec 32) (hs : Memory.wf s.wmem = true) :
    Memory.wf (writeConfig s fn i off v).wmem = true := by
  unfold writeConfig
  split
  · refine wf_onPh (fun n p => ?_) hs
    (repeat' split) <;> simp [hs]
  · split
    · exact wf_onPh (fun n p => hs) hs
    · exact hs
@[simp] theorem wf_writeBell (s : State) (fn : Fn) (i off : Nat) (v : BitVec 32) (hs : Memory.wf s.wmem = true) :
    Memory.wf (writeBell s fn i off v).wmem = true := by
  unfold writeBell
  (repeat' split) <;> simp [hs]
@[simp] theorem wf_writeMsix (s : State) (fn : Fn) (n off : Nat) (v : BitVec 32) (hs : Memory.wf s.wmem = true) :
    Memory.wf (writeMsix s fn n off v).wmem = true := by
  unfold writeMsix
  (repeat' split) <;> simp [hs]
@[simp] theorem wf_writeBoot (s : State) (portB : Bool) (off : Nat) (v : BitVec 32) (hs : Memory.wf s.wmem = true) :
    Memory.wf (writeBoot s portB off v).wmem = true := by
  unfold writeBoot
  (repeat' split) <;> simp [hs]
@[simp] theorem wf_writeClear (s : State) (portB : Bool) (v : BitVec 32) (hs : Memory.wf s.wmem = true) :
    Memory.wf (writeClear s portB v).wmem = true := by
  have hstep (b : Bool) (o : State → Outcome State Fault Refusal) (ho : ∀ t, Memory.wf t.wmem = true → FormAfter (o t)) (t : State)
      (ht : Memory.wf t.wmem = true) : Memory.wf (if b then leave (o t) t else t).wmem = true := by
    split
    · exact wf_leave (ho t ht) ht
    · exact ht
  exact hstep _ _ (fun t ht => by simp [ht]) _ <| hstep _ _ (fun t ht => by simp [ht]) _ <|
    hstep _ _ (fun t ht => by simp [ht]) _ <| hstep _ _ (fun t ht => by simp [ht]) _ hs
@[simp] theorem wf_writeSorting (s : State) (portB : Bool) (off : Nat) (v : BitVec 32) (hs : Memory.wf s.wmem = true) :
    Memory.wf (writeSorting s portB off v).wmem = true := by
  unfold writeSorting
  (repeat' split) <;> simp [hs]
@[simp] theorem wf_writeStreamCtrl (s : State) (portB : Bool) (v : BitVec 32) (hs : Memory.wf s.wmem = true) :
    Memory.wf (writeStreamCtrl s portB v).wmem = true := by
  unfold writeStreamCtrl
  dsimp only
  have hstream (f : Journal → Journal) : Memory.wf (leave (execStreamEn portB (v.getLsbD 0) (writeJournal s portB f))
      (writeJournal s portB f)).wmem = true := wf_leave (formAfter_execStreamEn _ _ _ hs) hs
  split
  · exact wf_releaseStalled _ (by rw [releaseWaiting_wmem]; exact hstream _)
  · exact hstream _
@[simp] theorem wf_writeJournalWord (s : State) (portB : Bool) (off : Nat) (v : BitVec 32)
    (hs : Memory.wf s.wmem = true) :
    Memory.wf (writeJournalWord s portB off v).wmem = true := by
  unfold writeJournalWord
  (repeat' split) <;> simp [hs]
@[simp] theorem wf_writePf0 (s : State) (portB : Bool) (off : Nat) (v : BitVec 32) (hs : Memory.wf s.wmem = true) :
    Memory.wf (writePf0 s portB off v).wmem = true := by
  unfold writePf0
  (repeat' split) <;> simp [hs]
/-- A write of a 64-bit register, where the offset holds one. -/
theorem wf_of_writeLong {s t : State} {fn : Fn} {off : Nat} {f : BitVec 64 → BitVec 64} {acts : Bool}
    (hs : Memory.wf s.wmem = true)
    (h : writeLong s fn off f acts = some t) : Memory.wf t.wmem = true := by
  unfold writeLong at h
  dsimp only at h
  (repeat' split at h) <;> cases h <;> simp [hs]
@[simp] theorem wf_writeWord (s : State) (fn : Fn) (bar2 : Bool) (off : Nat) (v : BitVec 32)
    (hs : Memory.wf s.wmem = true) :
    Memory.wf (writeWord s fn bar2 off v).wmem = true := by
  unfold writeWord
  split
  · split <;> simp [hs]
  · split
    · rename_i h; exact wf_of_writeLong hs h
    · (repeat' split) <;> simp [hs]
@[simp] theorem formAfter_execRegisterWrite (fn : Fn) (bar2 : Bool) (off : BitVec 16) (wide : Bool)
    (value : BitVec 64) (s : State) (hs : Memory.wf s.wmem = true) :
    FormAfter (execRegisterWrite fn bar2 off wide value s) := by
  simp only [execRegisterWrite, formAfter_answer]
  split
  · exact hs
  · split
    · simp [hs]
    · split
      · exact hs
      · split
        · rename_i h
          split at h
          · cases h
          · exact wf_of_writeLong hs h
        · simp [hs]

theorem exec_formAfter (i : Instr) {s : State} (hs : Memory.wf s.wmem = true) : FormAfter (exec i s) := by
  cases i <;> simp only [exec]
  all_goals simp [hs]

theorem step_formAfter {s : State} (hs : Memory.wf s.wmem = true) : FormAfter (step s) := by
  unfold step
  split
  · rw [formAfter_answer, tick_wmem]; exact hs
  · exact exec_formAfter _ hs

/-- Settles O14: each command's meaning is made of operations that keep the form. -/
theorem memoryKeepsItsForm : Obligations.MemoryKeepsItsForm := fun _ t hs ht => step_formAfter hs t ht

end Sys2Proof.Machine
end

section
/-! Arithmetic, logic and immediate instructions (R359, R360, R373): the operations, and how their forms retire. -/

namespace Sys2Proof.Machine

theorem low32_toNat (v : W36) : (low32 v).toNat = v.toNat % 2 ^ 32 := by
  simp [low32, BitVec.extractLsb'_toNat]

theorem guardBits_setWidth (v : W36) : (guardBits v).setWidth 36 = BitVec.ofNat 36 (v.toNat / 2 ^ 32) := by
  apply BitVec.eq_of_toNat_eq
  have := v.isLt
  simp only [guardBits, BitVec.extractLsb'_toNat, BitVec.toNat_setWidth, BitVec.toNat_ofNat, Nat.shiftRight_eq_div_pow]
  omega

theorem subbOp_fst (x y : W36) {c : Nat} (hc : c < 2) :
    (subbOp x y c).1 =
      BitVec.ofNat 36 ((((x.toNat % 2 ^ 32 : Nat) : Int) - ((y.toNat % 2 ^ 32 : Nat) : Int) - c) % 2 ^ 32).toNat := by
  simp only [subbOp, fromNat36, low32_toNat]
  congr 1
  omega

/-- The operations of the model's table are those of R373's: the value, and st where the operation writes it. -/
theorem sopAct_of_aluSpec {op d a b : Nat} {c : Core} {v st : W36}
    (h : aluSpec op (c.reg a) (c.reg b) c.st = some (v, st)) :
    ∃ st', st'.getD c.st = st ∧ sopAct op d a b c = .did { regs := [(d, v)], st := st' } := by
  unfold aluSpec at h
  dsimp only at h
  split at h <;> simp only [Option.some.injEq, Prod.mk.injEq, reduceCtorEq] at h
  all_goals obtain ⟨rfl, rfl⟩ := h
  case h_1 => exact ⟨none, rfl, rfl⟩
  case h_2 => exact ⟨none, rfl, by rw [sopAct, BitVec.add_def]⟩
  case h_3 => exact ⟨none, rfl, by
    have : c.reg a - c.reg b = BitVec.ofNat 36 ((c.reg a).toNat + 2 ^ 36 - (c.reg b).toNat) := by
      have := (c.reg a).isLt; have := (c.reg b).isLt
      apply BitVec.eq_of_toNat_eq
      simp only [BitVec.toNat_sub, BitVec.toNat_ofNat]
      omega
    rw [sopAct, this]⟩
  case h_4 | h_5 | h_6 | h_9 | h_10 | h_11 => exact ⟨none, rfl, rfl⟩
  case h_7 => exact ⟨some _, rfl, by simp only [sopAct, addcOp, fromNat36, low32_toNat, stC]; rfl⟩
  case h_8 => exact ⟨some _, rfl, by
    rw [sopAct, subbOp_fst _ _ (by unfold stC; omega)]
    simp only [subbOp, low32_toNat, stC]; rfl⟩
  case h_12 => exact ⟨none, rfl, by simp only [sopAct, mulOp, fromNat36, low32_toNat]⟩
  case h_13 => exact ⟨none, rfl, by simp only [sopAct, mulhuOp, fromNat36, low32_toNat]⟩
  case h_14 => exact ⟨some _, rfl, rfl⟩
  case h_15 => exact ⟨none, rfl, by simp only [sopAct, ggetOp, guardBits_setWidth]⟩
  case h_16 => exact ⟨none, rfl, by
    simp only [sopAct, gclrOp, word32]; congr; apply BitVec.eq_of_toNat_eq; simp [low32_toNat]⟩

theorem aluRetires_of_sopAct {i : Instr} {s : State} {k n op d a b : Nat}
    (hex : exec i s = answer (runInsn s k n (sopAct op d a b))) : AluRetires i s k n op d a b := by
  intro v st hspec hg hsp
  obtain ⟨st', hst, hact⟩ := sopAct_of_aluSpec (d := d) hspec
  have h := retires_of_insn { regs := [(d, v)], st := st' } hex hact rfl rfl hg hsp (Nat.le_refl 1) (Nat.zero_le 1)
    (.inl rfl) rfl (.inl rfl)
  subst hst
  exact h
theorem shortOperationsRetire : Claims.ShortOperationsRetire := by
  intro s k d a b
  refine ⟨?_, ?_, ?_, ?_, ?_, ?_, ?_, ?_, ?_, ?_, ?_, ?_, ?_, ?_, ?_, ?_⟩ <;> exact aluRetires_of_sopAct rfl


/-- An instruction that writes one register goes on at the next one. -/
theorem retires_of_runAlu {i : Instr} {s : State} {k n : Nat} {f : Core → List (Nat × W36)} {d : Nat} {v : W36}
    (hex : exec i s = answer (runAlu s k n f)) (hf : f (s.core k) = [(d, v)])
    (hg : Going s k (halfAdd (s.core k).pc n)) (hsp : (s.core k).fetched n = true) :
    Retires i s k { regs := [(d, v)], next := halfAdd (s.core k).pc n } :=
  retires_of_insn { regs := [(d, v)] } hex (by rw [hf]) rfl rfl hg hsp (Nat.le_refl 1) (Nat.zero_le 1)
    (.inl rfl) rfl (.inl rfl)

theorem retires_of_shiftImm {i : Instr} {s : State} {k n : Nat} {left : Bool} {d a imm : Nat} {v : W36}
    (hex : exec i s = answer (runInsn s k n (shiftImm left d a imm))) (himm : imm ≤ 35)
    (hv : (if left then (s.core k).reg a <<< imm else (s.core k).reg a >>> imm) = v)
    (hg : Going s k (halfAdd (s.core k).pc n)) (hsp : (s.core k).fetched n = true) :
    Retires i s k { regs := [(d, v)], next := halfAdd (s.core k).pc n } :=
  retires_of_insn { regs := [(d, v)] } hex (by rw [shiftImm, if_neg (by omega), hv]) rfl rfl hg hsp (Nat.le_refl 1)
    (Nat.zero_le 1) (.inl rfl) rfl (.inl rfl)

theorem longOperationsRetire : Claims.LongOperationsRetire := by
  intro s k op d a b c
  refine ⟨aluRetires_of_sopAct rfl, fun ⟨hg, hsp⟩ => ?sel⟩
  case sel =>
    refine retires_of_runAlu (i := .sel k d a b c) rfl ?_ hg hsp
    simp only [ne_eq, ite_not, apply_ite (s.core k.toNat).reg]

theorem add_signExtend_eq_ofInt {w m : Nat} (x : BitVec m) (v : BitVec w) :
    x + v.signExtend m = BitVec.ofInt m (x.toNat + v.toInt) := by
  rw [BitVec.ofInt_add, BitVec.signExtend, BitVec.ofInt_natCast, BitVec.ofNat_toNat, BitVec.setWidth_eq]

theorem shiftLeft_eq_ofNat (x : W36) (n : Nat) : x <<< n = BitVec.ofNat 36 (x.toNat * 2 ^ n) := by
  apply BitVec.eq_of_toNat_eq
  rw [BitVec.toNat_shiftLeft, BitVec.toNat_ofNat, Nat.shiftLeft_eq]

theorem ushiftRight_eq_ofNat (x : W36) (n : Nat) : x >>> n = BitVec.ofNat 36 (x.toNat / 2 ^ n) := by
  apply BitVec.eq_of_toNat_eq
  rw [BitVec.toNat_ushiftRight, BitVec.toNat_ofNat, Nat.shiftRight_eq_div_pow, Nat.mod_eq_of_lt]
  exact Nat.lt_of_le_of_lt (Nat.div_le_self ..) x.isLt

theorem immediateFormsRetire : Claims.ImmediateFormsRetire := by
  intro s k d4 i8 d a i18 c one two x short long
  refine ⟨fun hg => ⟨?nop, ?li, ?addi, fun himm => ⟨?shli, ?shri⟩⟩, fun ⟨hg, hsp⟩ =>
    ⟨?addiLong, ?andi, ?ori, ?xori, ?movi, ?lui, fun himm => ⟨?shliLong, ?shriLong⟩⟩⟩
  case nop =>
    exact retires_of_insn {} rfl rfl rfl rfl hg rfl (Nat.zero_le 1) (Nat.zero_le 1) (.inl rfl) rfl (.inl rfl)
  case li => exact retires_of_runAlu rfl (by rw [BitVec.ofNat_toNat]) hg rfl
  case addi => exact retires_of_runAlu rfl (by rw [add_signExtend_eq_ofInt]) hg rfl
  case shli => exact retires_of_shiftImm rfl himm (shiftLeft_eq_ofNat ..) hg rfl
  case shri => exact retires_of_shiftImm rfl himm (ushiftRight_eq_ofNat ..) hg rfl
  case addiLong => exact retires_of_runAlu rfl (by rw [add_signExtend_eq_ofInt]) hg hsp
  case andi | ori | xori | movi => exact retires_of_runAlu rfl (by rw [BitVec.ofNat_toNat]) hg hsp
  case lui =>
    refine retires_of_runAlu rfl ?_ hg hsp
    rw [shiftLeft_eq_ofNat, BitVec.toNat_setWidth, Nat.mod_eq_of_lt (by have := i18.isLt; omega)]
  case shliLong => exact retires_of_shiftImm rfl himm (shiftLeft_eq_ofNat ..) hg hsp
  case shriLong => exact retires_of_shiftImm rfl himm (ushiftRight_eq_ofNat ..) hg hsp

/-- Settles O2, form by form of R373's tables. -/
theorem aluInstructionsRetire : Obligations.AluInstructionsRetire :=
  ⟨shortOperationsRetire, longOperationsRetire, immediateFormsRetire⟩

end Sys2Proof.Machine
end

section
/-! Branches, jumps and the iterations of a repeat (R373, R375, R379). -/

namespace Sys2Proof.Machine

section
variable {i : Instr} {s : State} {k n : Nat}

/-- A conditional branch retires at its target in two clocks when taken, and else at the next instruction. -/
theorem retires_of_branchAct {w : Nat} {off : BitVec w} {t : Core → Bool} {p : Prop}
    (hex : exec i s = answer (runInsn s k n fun c => branchAct (t c) (off.signExtend 25) c)) (ht : t (s.core k) = true ↔ p) :
    (p → Going s k (BitVec.ofInt 25 ((s.core k).pc.toNat + off.toInt)) → (s.core k).fetched n = true →
      Retires i s k { next := BitVec.ofInt 25 ((s.core k).pc.toNat + off.toInt), clocks := 2 }) ∧
    (¬ p → Going s k (halfAdd (s.core k).pc n) → (s.core k).fetched n = true →
      Retires i s k { next := halfAdd (s.core k).pc n }) := by
  constructor
  · intro hp hg hsp
    have hact : branchAct (t (s.core k)) (off.signExtend 25) (s.core k) =
        .did { target := some (BitVec.ofInt 25 ((s.core k).pc.toNat + off.toInt)), clocks := 2 } := by
      rw [branchAct, if_pos (ht.2 hp), add_signExtend_eq_ofInt]
    exact retires_of_insn { target := some (BitVec.ofInt 25 ((s.core k).pc.toNat + off.toInt)), clocks := 2 } hex hact rfl rfl hg
      hsp (Nat.zero_le 1) (Nat.zero_le 1) (.inl rfl) rfl (.inl rfl)
  · intro hp hg hsp
    have hact : branchAct (t (s.core k)) (off.signExtend 25) (s.core k) = .did {} := by
      rw [branchAct, if_neg (mt ht.1 hp)]
    exact retires_of_insn {} hex hact rfl rfl hg hsp (Nat.zero_le 1) (Nat.zero_le 1) (.inl rfl) rfl (.inl rfl)

/-- A jump retires at its target in two clocks, with the link register where it writes one. -/
theorem retires_of_jump {f : Core → Did} {regs : List (Nat × W36)} {t : BitVec 25}
    (hex : exec i s = answer (runInsn s k n fun c => .did (f c)))
    (hf : f (s.core k) = { regs := regs, target := some t, clocks := 2 }) (hlen : regs.length ≤ 1) (hg : Going s k t)
    (hsp : (s.core k).fetched n = true) : Retires i s k { regs := regs, next := t, clocks := 2 } :=
  retires_of_insn { regs := regs, target := some t, clocks := 2 } hex (congrArg Act.did hf) rfl rfl hg hsp hlen
    (Nat.zero_le 1) (.inl rfl) rfl (.inl rfl)

end

theorem extractLsb'_eq_ofNat (x : W36) (n : Nat) : x.extractLsb' 0 n = BitVec.ofNat n x.toNat := by
  simp [BitVec.extractLsb']

theorem branchesRetire : Claims.BranchesRetire := by
  intro s k a4 o8 a b o18 c to8 to18 branch x y z there
  refine ⟨?beqz, ?bnez, ?beq, ?bne, ?bltu, ?bgeu, fun hg => ?jr, fun hg => ?jalr, fun ⟨hg, hsp⟩ => ?jal⟩
  case beqz => exact retires_of_branchAct rfl beq_iff_eq
  case bnez => exact retires_of_branchAct rfl bne_iff_ne
  case beq => exact retires_of_branchAct rfl (beq_iff_eq.trans BitVec.toNat_inj.symm)
  case bne => exact retires_of_branchAct rfl (bne_iff_ne.trans (not_congr BitVec.toNat_inj.symm))
  case bltu | bgeu => exact retires_of_branchAct rfl decide_eq_true_iff
  case jr => exact retires_of_jump rfl (by rw [extractLsb'_eq_ofNat]) (Nat.zero_le 1) hg rfl
  case jalr => exact retires_of_jump rfl (by rw [extractLsb'_eq_ofNat, halfAdd, ← BitVec.ofNat_toNat]; rfl) (Nat.le_refl 1) hg rfl
  case jal => exact retires_of_jump rfl (by rw [add_signExtend_eq_ofInt, halfAdd, ← BitVec.ofNat_toNat]; rfl) (Nat.le_refl 1) hg hsp

/-- After an iteration of a repeat repc counts down: control stays at the body, or leaves it after the last one (R379). -/
theorem settle_repeat (s : State) (k : Nat) {c : Core} {r : Repeat} (len : Nat) (target : Option (BitVec 25))
    (hrep : c.rep = some r) (hwmu : c.wmuPending = false) :
    (c.repc.toNat % 4096 = 1 → fetchable c (halfAdd c.pc len) = true →
      settle s k c len target = s.setCore k ({ c with repc := 0, rep := none }.arrive (halfAdd c.pc len))) ∧
    (2 ≤ c.repc.toNat % 4096 → fetchable c c.pc = true →
      settle s k c len target = s.setCore k ({ c with repc := BitVec.ofNat 36 (c.repc.toNat % 4096 - 1) }.arrive c.pc)) := by
  constructor
  · intro hleft hf
    have hf' : fetchable { c with repc := BitVec.ofNat 36 0, rep := none } (halfAdd c.pc len) = true :=
      (fetchable_congr c _ _ rfl rfl rfl rfl).trans hf
    simp only [settle, hrep, hleft, Nat.sub_self, if_true, hf']
    simp [Core.arrive_eq, hwmu]
  · intro hleft hf
    have hf' : fetchable { c with repc := BitVec.ofNat 36 (c.repc.toNat % 4096 - 1), rep := some r } c.pc = true :=
      (fetchable_congr c _ _ rfl rfl rfl rfl).trans hf
    simp only [settle, hrep, if_neg (by omega : ¬ c.repc.toNat % 4096 - 1 = 0), hf']
    simp [Core.arrive_eq, hwmu]

section
variable {i : Instr} {s : State} {k : Nat} {f : Core → Act} {d : Did} {r : Repeat}

/-- An iteration of a repeat applies its body and settles. -/
theorem runInsn_in_repeat (hcmd : (s.core k).cmd.isSome = true) (hfar : (s.core k).far = none) (hf : f (s.core k) = .did d)
    (hd : d.far = none ∧ d.rep = none) :
    runInsn s k 1 f = settle s k { (s.core k).apply d with resume := false } 1 d.target := by
  have hready : (s.core k).ready = true := by simp [Core.ready, hcmd, hfar]
  have hsp : (s.core k).fetched 1 = true := rfl
  simp only [runInsn, hready, hsp, if_true, hf, conclude, hd.1, hd.2]

/-- An iteration of a repeat whose body writes registers retires and counts repc down (R379). -/
theorem retires_in_repeat {regs : List (Nat × W36)} (hex : exec i s = answer (runInsn s k 1 f))
    (hf : f (s.core k) = .did { regs := regs }) (hlen : regs.length ≤ 1) (hcmd : (s.core k).cmd.isSome = true)
    (hfar : (s.core k).far = none) (hrep : (s.core k).rep = some r) (hwmu : (s.core k).wmuPending = false) :
    ((s.core k).repc.toNat % 4096 = 1 → fetchable (s.core k) (halfAdd (s.core k).pc 1) = true →
      Retires i s k { regs := regs, repc := some 0, rep := none, next := halfAdd (s.core k).pc 1 }) ∧
    (2 ≤ (s.core k).repc.toNat % 4096 → fetchable (s.core k) (s.core k).pc = true →
      Retires i s k { regs := regs, repc := some (BitVec.ofNat 36 ((s.core k).repc.toNat % 4096 - 1)), rep := some r,
                      next := (s.core k).pc }) := by
  rw [runInsn_in_repeat hcmd hfar hf ⟨rfl, rfl⟩] at hex
  generalize hc : s.core k = c at *
  have hap := Core.apply_eq c { regs := regs }
  have hpc : (c.apply { regs := regs }).pc = c.pc := by rw [hap]
  have hre : (c.apply { regs := regs }).repc = c.repc := by rw [hap]; rfl
  obtain ⟨hlast, hmore⟩ := settle_repeat s k (c := { c.apply { regs := regs } with resume := false }) (r := r) 1 none
    (by rw [hap]; exact hrep) (by rw [hap]; simpa using hwmu)
  constructor
  · intro hleft hgo
    have hend := hlast (hre ▸ hleft) (by rw [fetchable_apply]; exact hpc ▸ hgo)
    refine retires_of_core { regs := regs } (halfAdd c.pc 1) none (some 0) hlen (Nat.zero_le 1) (.inl rfl)
      (by rw [hc, hfar]) rfl ?_
    rw [hex, hend, Core.arrive_eq, hc, hap]
    rfl
  · intro hleft hgo
    have hend := hmore (hre ▸ hleft) (by rw [fetchable_apply]; exact hpc ▸ hgo)
    refine retires_of_core { regs := regs } c.pc (some r) (some (BitVec.ofNat 36 (c.repc.toNat % 4096 - 1))) hlen
      (Nat.zero_le 1) (.inl rfl) (by rw [hc, hfar]) rfl ?_
    rw [hex, hend, Core.arrive_eq, hc, hap]
    simp only [hrep]
    rfl

end

theorem repeatCountsDown : Claims.RepeatCountsDown := by
  intro s k d a r c left hcmd hfar hrep hwmu _
  exact retires_in_repeat rfl rfl (Nat.le_refl 1) hcmd hfar hrep hwmu

/-- Settles O3: branches and jumps are instructions with a target, and a repeat's body settles by counting repc down. -/
theorem controlFlowRetires : Obligations.ControlFlowRetires := ⟨branchesRetire, repeatCountsDown⟩

end Sys2Proof.Machine
end

section
/-! Reads of a core (R357, R362), the values of reset, and the step's order (tier 1). -/

namespace Sys2Proof.Machine

theorem registerReadsBack : Claims.RegisterReadsBack := by
  intro c n m v
  refine ⟨Core.reg_setReg c n m v, ?_⟩
  unfold Core.setReg
  split <;> exact ⟨rfl, rfl, rfl⟩

/-- The five areas of NEAR space, in the order of R362. -/
theorem nearArea_program {a : Nat} (h : a < 0x8000) : nearArea a = .program := if_pos h

theorem nearArea_shared {a : Nat} (h : 0x100000 ≤ a) (h' : a < 0x180000) : nearArea a = .shared := by
  rw [nearArea, if_neg (by omega), if_neg (by omega), if_pos ⟨h, h'⟩]

theorem nearArea_none {a : Nat} (h : (0x8000 ≤ a ∧ a < 0x10000) ∨ (0x18000 ≤ a ∧ a < 0x100000) ∨
    (0x180000 ≤ a ∧ a < 0x200000) ∨ 0x200800 ≤ a) : nearArea a = .none := by
  rw [nearArea, if_neg (by omega), if_neg (by omega), if_neg (by omega), if_neg (by omega)]

theorem nearMap : Claims.NearMap := by
  intro s c a
  refine ⟨fun h => ?program, fun h h' => ?dsram, fun h h' => ?shared, fun h h' => ?opmem, fun h => ?unmapped⟩
  case program =>
    rw [nearStorable, nearLoad, nearArea_program h]
    refine ⟨rfl, if_congr ?_ rfl rfl⟩
    simp only [Bool.and_eq_true, Bool.not_eq_true', Bool.and_eq_false_iff, decide_eq_false_iff_not, not_and_or]
  case dsram =>
    have harea : nearArea a = .dsram (a - 0x10000) := (nearArea_dsram _ _).2 (by omega)
    rw [nearStorable, nearLoad, harea]
    exact ⟨rfl, rfl⟩
  case shared =>
    rw [nearStorable, nearLoad, nearArea_shared h h']
    exact ⟨rfl, congrArg some (BitVec.ofNat_toNat (m := 36) _).symm⟩
  case opmem =>
    have harea : nearArea a = .opmem (a - 0x200000) := (nearArea_opmem _ _).2 (by omega)
    rw [nearStorable, nearLoad, harea]
    exact ⟨rfl, rfl⟩
  case unmapped =>
    rw [nearStorable, nearLoad, nearArea_none h]
    exact ⟨rfl, rfl⟩

/-- Settles O1: the register file by the read after a write, the NEAR map area by area. -/
theorem coreStateReads : Obligations.CoreStateReads := ⟨registerReadsBack, nearMap⟩

/-- Settles O30: every clause is a field of the reset record; the pins by the levels it gives. -/
theorem resetValues : Obligations.ResetValues := by
  refine ⟨rfl, rfl, rfl, rfl, rfl, rfl, rfl, rfl, rfl, rfl, rfl, rfl, rfl, rfl, rfl, rfl, rfl, rfl, rfl, rfl, rfl, rfl,
    rfl, rfl, rfl, rfl, rfl, rfl, rfl, fun n => ⟨rfl, rfl, rfl, rfl⟩, fun k m => ?regs, ?pins⟩
  case regs => 
    show (if m = 0 then 0 else _) = _
    split <;> rfl
  case pins => 
    refine ⟨?_, ?_⟩
    all_goals simp [State.reset]

/-- The RTC counts 32,768 ticks a second: n ns, at most 10, add 32,768 n units, with the carries in range (R456). -/
theorem rtcUnits_rtcAfter (w : Warden) {n : Nat} (hn : n ≤ 10) (hticks : w.rtcTicks.toNat < 32768)
    (hphase : w.rtcPhase < 1000000000) (hs : w.rtcS ≠ BitVec.allOnes 32) :
    rtcUnits (rtcAfter w n) = rtcUnits w + 32768 * n ∧ (rtcAfter w n).rtcTicks.toNat < 32768 ∧
      (rtcAfter w n).rtcPhase < 1000000000 := by
  have hs' : w.rtcS.toNat ≠ 2 ^ 32 - 1 := fun h => hs (BitVec.eq_of_toNat_eq (by simpa using h))
  have hs32 := w.rtcS.isLt
  unfold rtcUnits rtcAfter
  dsimp only
  split
  · exact ⟨by simp only; omega, hticks, by simpa⟩
  · split
    · have htick : (w.rtcTicks + 1).toNat = w.rtcTicks.toNat + 1 := by bv_omega
      exact ⟨by simp only [htick]; omega, by simp only [htick]; omega, by simp only; omega⟩
    · have hsec : (w.rtcS + 1).toNat = w.rtcS.toNat + 1 := by bv_omega
      exact ⟨by simp only [hsec]; simp; omega, by simp, by simp only; omega⟩

/-- What keeps all but some parts answers with the pins that its state gives. -/
theorem only_drivePins {ps : List Part} {s t : State} (h : Keeps ps s t) : Only ps s (drivePins t) := by
  refine ⟨fun p hp => ?_, rfl⟩
  have hsame := h p (fun hmem => hp (List.mem_cons_of_mem _ hmem))
  cases p
  case pins => simp at hp
  all_goals exact hsame

/-- A step of the slew moves OFFSET by what it takes from the slew (R457). -/
theorem slewStep_sum (t : Timebase) : (slewStep t).offset + (slewStep t).slewLeft = t.offset + t.slewLeft := by
  unfold slewStep
  split
  · rfl
  · split <;> simp only <;> bv_omega

@[simp] theorem slewStep_timeLocal (t : Timebase) : (slewStep t).timeLocal = t.timeLocal := by
  unfold slewStep
  split
  · rfl
  · split <;> rfl

theorem slewStep_offset_of_not_slewing {t : Timebase} (h : t.slewing = false) : (slewStep t).offset = t.offset := by
  simp [slewStep, h]

theorem slewStep_offset_of_pos {t : Timebase} (h : t.slewing = true) (hpos : 0 < t.slewLeft.toInt) :
    (slewStep t).offset = t.offset + 1 := by
  have hne : t.slewLeft ≠ 0 := fun hz => by simp [hz] at hpos
  unfold slewStep
  rw [if_neg (by simpa [h] using hne), if_pos hpos]

@[simp] theorem localAfter_timeLocal (t : Timebase) (n : Nat) :
    (localAfter t n).timeLocal = t.timeLocal + BitVec.ofNat 64 n := by
  unfold localAfter
  dsimp only
  split
  · rfl
  · rw [slewStep_timeLocal]

/-- What a count of LOCAL does to OFFSET: nothing within 5,000 ns, and a step of the slew at their end (R457, R458). -/
theorem localAfter_offset (t : Timebase) (n : Nat) :
    (t.slewing = false → (localAfter t n).offset = t.offset) ∧
    (t.timeLocal.toNat / 5000 = (localAfter t n).timeLocal.toNat / 5000 → (localAfter t n).offset = t.offset) ∧
    (localAfter t n).offset + (localAfter t n).slewLeft = t.offset + t.slewLeft ∧
    (t.slewing = true → 0 < t.slewLeft.toInt → t.timeLocal.toNat / 5000 ≠ (localAfter t n).timeLocal.toNat / 5000 →
      (localAfter t n).offset = t.offset + 1) := by
  rw [localAfter_timeLocal]
  unfold localAfter
  dsimp only
  split
  next hsame => exact ⟨fun _ => rfl, fun _ => rfl, rfl, fun _ _ h => absurd hsame.symm h⟩
  next hdiff =>
    exact ⟨fun h => slewStep_offset_of_not_slewing (by exact h), fun h => absurd h.symm hdiff, slewStep_sum _, fun h hpos _ =>
      slewStep_offset_of_pos (by exact h) (by exact hpos)⟩

/-- Settles O28: a step with a queue runs its front by definition; on an empty queue the RTC and LOCAL advance. -/
theorem stepRunsTheFrontCommand : Obligations.StepRunsTheFrontCommand := by
  refine ⟨fun c rest s hp => by rw [step, hp], fun s hp => ?_⟩
  intro n
  have hn : n = if (s.pwrGood && s.clocks.onFosc) = true then 10 else 1 := if_congr (by simp) rfl rfl
  have hn10 : n ≤ 10 := by rw [hn]; split <;> omega
  refine ⟨drivePins (tick s), by rw [step, hp]; rfl, ?_⟩
  have htick : tick s = if s.pwrGood then { s with warden := rtcAfter s.warden n, tb := localAfter s.tb n }
      else { s with warden := rtcAfter s.warden n } := by rw [hn]; rfl
  have hwarden : (tick s).warden = rtcAfter s.warden n := by rw [htick]; split <;> rfl
  refine ⟨only_drivePins ?frame, fun h1 h2 h3 => ?rtc, fun h => ?off, fun h => ?on⟩
  case frame =>
    intro p hp
    rw [htick]
    split <;> cases p
    case isTrue.warden | isTrue.tb | isFalse.warden | isFalse.tb => simp at hp
    all_goals rfl
  case rtc => exact hwarden ▸ rtcUnits_rtcAfter s.warden hn10 h1 h2 h3
  case off => rw [htick, if_neg (by simp [h])]; rfl
  case on =>
    have htb : (drivePins (tick s)).tb = localAfter s.tb n := by rw [htick, if_pos h]; rfl
    rw [htb]
    exact ⟨localAfter_timeLocal s.tb n, localAfter_offset s.tb n⟩

end Sys2Proof.Machine
end

section
/-! NEAR loads and stores, the special registers and the prefixes of repeats (R358, R362, R378 to R380). -/

namespace Sys2Proof.Machine

section
variable {i : Instr} {s : State} {k n : Nat} {f : Core → Act}

/-- A load brings its word after the delay slot. -/
theorem retires_of_load {d addr : Nat} {v : W36} (hex : exec i s = answer (runInsn s k n f))
    (hf : f (s.core k) = loadAct s d addr (s.core k)) (hv : nearLoad s (s.core k) addr = some v)
    (hg : Going s k (halfAdd (s.core k).pc n)) (hsp : (s.core k).fetched n = true) :
    Retires i s k { load := some (d, v), next := halfAdd (s.core k).pc n } :=
  retires_of_insn { load := some (d, v) } hex (by rw [hf, loadAct, hv]) rfl rfl hg hsp (Nat.zero_le 1) (Nat.zero_le 1)
    (.inl rfl) rfl (.inl rfl)

/-- A store leaves its word where the map allows it. -/
theorem retires_of_store {v addr : Nat} (hex : exec i s = answer (runInsn s k n f))
    (hf : f (s.core k) = storeAct v addr (s.core k)) (ha : nearStorable addr = true)
    (hg : Going s k (halfAdd (s.core k).pc n)) (hsp : (s.core k).fetched n = true) :
    Retires i s k { store := some (addr, (s.core k).reg v), next := halfAdd (s.core k).pc n } :=
  retires_of_insn { stores := [(addr, (s.core k).reg v)] } hex (by rw [hf, storeAct, if_pos ha]) rfl rfl hg hsp
    (Nat.zero_le 1) (Nat.le_refl 1) (.inr rfl) rfl (.inl rfl)

end

/-- The address of a long form: base and signed offset modulo 2^24 (R362). -/
theorem near24_add_signExtend (x : W36) (off : BitVec 18) :
    near24 (x + off.signExtend 36) = ((x.toNat + off.toInt) % 2 ^ 24).toNat := by
  rw [add_signExtend_eq_ofInt, near24, BitVec.toNat_ofInt]
  omega

theorem nearAccessesRetire : Claims.NearAccessesRetire := by
  intro s k d4 a4 u4 d a o18 v c one two at4 at18 here sum
  have hat18 : near24 (c.reg a.toNat + o18.signExtend 36) = at18 := near24_add_signExtend _ _
  refine ⟨fun hg => ⟨fun hv => ?ld, fun hs => ?st, fun hs hv => ?norms, fun hs => ?zeros⟩,
    fun ⟨hg, hsp⟩ => ⟨fun hv => ?ldLong, fun hs => ?stLong⟩⟩
  case ld => exact retires_of_load rfl rfl hv hg rfl
  case st => exact retires_of_store rfl rfl hs hg rfl
  case norms =>
    have hs' : nearStorable (near24 ((s.core k.toNat).reg a4.toNat)) = true := hs
    have hv' : nearLoad s (s.core k.toNat) (near24 ((s.core k.toNat).reg a4.toNat)) = some v := hv
    exact retires_of_insn
      { stores := [(here, (normOp v (stNC c.st)).1)], st := some (withNC c.st (normOp v (stNC c.st)).2),
        regs := [(a4.toNat, c.reg a4.toNat + 1)] } rfl (by simp only [hs', hv']; rfl) rfl rfl hg rfl (Nat.le_refl 1)
      (Nat.le_refl 1) (.inr rfl) rfl (.inl rfl)
  case zeros =>
    exact retires_of_insn { stores := [(here, 0)], regs := [(a4.toNat, c.reg a4.toNat + 1)] } rfl (if_pos hs) rfl rfl hg
      rfl (Nat.le_refl 1) (Nat.le_refl 1) (.inr rfl) rfl (.inl rfl)
  case ldLong => exact retires_of_load rfl (by rw [hat18]) hv hg hsp
  case stLong => exact retires_of_store rfl (by rw [hat18]) hs hg hsp

/-- A short form that writes one register retires at the next half. -/
theorem retires_of_write {i : Instr} {s : State} {k d : Nat} {f : Core → Act} {v : W36}
    (hex : exec i s = answer (runInsn s k 1 f)) (hf : f (s.core k) = .did { regs := [(d, v)] })
    (hg : Going s k (halfAdd (s.core k).pc 1)) : Retires i s k { regs := [(d, v)], next := halfAdd (s.core k).pc 1 } :=
  retires_of_insn { regs := [(d, v)] } hex hf rfl rfl hg rfl (Nat.le_refl 1) (Nat.zero_le 1) (.inl rfl) rfl (.inl rfl)

/-- A prefix sets repc and turns to its body (R379, R380). -/
theorem retires_of_prefix {i : Instr} {s : State} {k : Nat} {f : Core → Act} {repc : W36} {r : Repeat}
    (hex : exec i s = answer (runInsn s k 1 f)) (hf : f (s.core k) = .did { repc := some repc, rep := some r })
    (hg : Going s k (halfAdd (s.core k).pc 1)) :
    Retires i s k { repc := some repc, rep := some r, next := halfAdd (s.core k).pc 1 } := by
  obtain ⟨hcmd, hfar, hrep, hwmu, hfetch⟩ := hg
  refine retires_of_core { repc := some repc, rep := some r } _ (some r) (some repc) (Nat.zero_le 1) (Nat.zero_le 1) (.inl rfl)
    hfar rfl ?_
  have hready : (s.core k).ready = true := by simp [Core.ready, hcmd, hfar]
  have hsp : (s.core k).fetched 1 = true := rfl
  have hap (d : Did) := fetchable_apply (s.core k) d (halfAdd (s.core k).pc 1)
  rw [hex]
  simp only [runInsn, hready, hsp, if_true, hf, conclude, hap, hfetch, Bool.not_true, Bool.false_eq_true, if_false,
    Core.arrive_eq]
  rw [Core.apply_eq]
  rfl

/-- The module once CYC has drawn its stall clocks and core k has counted them. -/
def stalled (s : State) (k : Nat) : State :=
  State.setCore { s with free := s.free + 1 } k { s.core k with cycles := (s.core k).cycles + Config.freeNat s.free }

theorem specialRegistersRetire : Claims.SpecialRegistersRetire := by
  intro s k d a n6 n12 body c one x movs hg
  refine ⟨retires_of_write rfl (by rw [BitVec.ofNat_toNat]; rfl) hg, retires_of_write rfl rfl hg, retires_of_write rfl rfl hg,
    retires_of_write rfl rfl hg, retires_of_write rfl rfl hg, ?st, ?repc,
    retires_movt_ev a hg, ⟨Config.freeNat s.free, ?cyc⟩, fun hb => ?rep, fun hb hn hr => ?repi, fun hb hn hr hleft => ?resumed⟩
  case st =>
    exact retires_of_insn { st := some (x &&& 0x1FF) } rfl rfl rfl rfl hg rfl (Nat.zero_le 1) (Nat.zero_le 1) (.inl rfl)
      rfl (.inl rfl)
  case repc =>
    exact retires_of_insn { repc := some (x &&& 0xFFF) } rfl rfl rfl rfl hg rfl (Nat.zero_le 1) (Nat.zero_le 1) (.inl rfl)
      rfl (.inl rfl)
  case cyc =>
    have hready : ((s.core k.toNat).cmd.isSome && (s.core k.toNat).far.isNone) = true := by simp [hg.1, hg.2.1]
    have hcore : (stalled s k.toNat).core k.toNat = { c with cycles := c.cycles + Config.freeNat s.free } :=
      State.core_setCore ..
    have hgo : Going (stalled s k.toNat) k.toNat (halfAdd ((stalled s k.toNat).core k.toNat).pc 1) := by
      obtain ⟨hcmd, hfar, hrep, hwmu, hfetch⟩ := hg
      unfold Going
      rw [hcore]
      exact ⟨hcmd, hfar, hrep, hwmu, (fetchable_congr c _ _ rfl rfl rfl rfl).trans hfetch⟩
    have hret := retires_of_insn (i := .cyc k d) (s := s) (b := stalled s k.toNat) (k := k.toNat) (n := 1)
      { regs := [(d.toNat, fromNat36 ((stalled s k.toNat).core k.toNat).cycles)] }
      (congrArg (fun b => answer (runAlu b k.toNat 1 fun c => [(d.toNat, fromNat36 c.cycles)])) (if_pos hready)) rfl rfl rfl
      hgo rfl (Nat.le_refl 1) (Nat.zero_le 1) (.inl rfl) rfl (.inl rfl)
    rw [hcore] at hret
    exact hret
  case rep => exact retires_of_prefix rfl (if_pos hb) hg
  case repi =>
    have hgo : ¬ (n12 = 0 || !bodyLegal body) = true := by simpa [hb] using hn
    have hleft : ¬ (if (s.core k.toNat).resume then (s.core k.toNat).repc.toNat % 4096 else n12.toNat) = 0 := by
      simpa [show (s.core k.toNat).resume = false from hr] using fun h => hn (BitVec.eq_of_toNat_eq h)
    refine retires_of_prefix rfl ?_ hg
    rw [if_neg hgo, if_neg hleft, if_neg (by simp [show (s.core k.toNat).resume = false from hr])]
    rfl
  case resumed =>
    have hgo : ¬ (n12 = 0 || !bodyLegal body) = true := by simpa [hb] using hn
    have hr' : (s.core k.toNat).resume = true := hr
    refine retires_of_prefix rfl ?_ hg
    simp only [if_neg hgo, hr', if_true]
    exact if_neg hleft

/-- Settles O4: each form is one completing instruction; CYC runs on the core that has counted its stall clocks. -/
theorem nearAndSpecialRegistersRetire : Obligations.NearAndSpecialRegistersRetire :=
  ⟨nearAccessesRetire, specialRegistersRetire⟩

end Sys2Proof.Machine
end

section
/-! From here on the theorems are checked in their order. A default argument `by decide`, as `Keeps.comp` takes it, waits
for every declaration before it to be checked; side by side, the waiting proofs hold a thread and its stack each. -/

set_option Elab.async false

section
/-! Completion without output: what a status outside R472 leaves (R94, R97, R385, R393). -/

namespace Sys2Proof.Machine

theorem insertAt_insertAt {α : Type} (t : List (Nat × α)) (n : Nat) (v w : α) :
    insertAt (insertAt t n v) n w = insertAt t n w := by
  induction t with
  | nil => simp [insertAt]
  | cons x t ih =>
    obtain ⟨k, u⟩ := x
    by_cases hlt : n < k
    · simp [insertAt, hlt]
    · by_cases heq : n = k
      · simp [insertAt, heq]
      · simp [insertAt, hlt, heq, ih]

@[simp] theorem State.cmd_setCmd (s : State) (e : Nat) (c : Cmd) : (s.setCmd e c).cmd e = some c :=
  lookup_insertAt_same _ _ _

theorem State.cmd_setCmd_other (s : State) {e j : Nat} (c : Cmd) (h : j ≠ e) : (s.setCmd e c).cmd j = s.cmd j :=
  lookup_insertAt_other _ _ _ _ h

@[simp] theorem State.setCmd_setCmd (s : State) (e : Nat) (c d : Cmd) : (s.setCmd e c).setCmd e d = s.setCmd e d := by
  simp only [State.setCmd, insertAt_insertAt]

@[simp] theorem State.core_setCmd (s : State) (e : Nat) (c : Cmd) (k : Nat) : (s.setCmd e c).core k = s.core k := rfl

@[simp] theorem State.cmd_setCore (s : State) (k : Nat) (c : Core) (e : Nat) : (s.setCore k c).cmd e = s.cmd e := rfl

/-- A command is found in the sorting office alone. -/
theorem State.cmd_congr {s t : State} (h : t.so = s.so) (e : Nat) : t.cmd e = s.cmd e := by rw [State.cmd, State.cmd, h]

theorem State.core_congr {s t : State} (h : t.cores = s.cores) (k : Nat) : t.core k = s.core k := by
  rw [State.core, State.core, h]

@[simp] theorem stampCompletion_so (s : State) (c : Cmd) : (stampCompletion s c).2.so = s.so := rfl

/-- Where a journalled command that commits nothing ends: done, perhaps with a Postmark (R97). -/
theorem journalService_cmd (s : State) (e : Nat) {c : Cmd} (heff : c.effects = []) :
    ∃ p b, (journalService s e c).cmd e =
      some { c with completion := p, stamped := b, stage := .done, effects := [] } := by
  unfold journalService
  split
  · refine ⟨(stampCompletion s c).1.completion, true,
      (State.cmd_congr (journal_so ..) e).trans ((State.cmd_setCmd ..).trans ?_)⟩
    rw [← heff]
    rfl
  · exact ⟨c.completion, c.stamped, State.cmd_setCmd ..⟩

/-- What a hand-over without output leaves of its command. -/
def Cmd.failed (c : Cmd) (st : Code) : Cmd :=
  { c with status := st, output := [], outLen := 0, effects := [], reserved := [], served := true, list := none,
           eligible := false }

/-- A status that is never franked is not OK either, so its completion is journalled at most (R472, R97). -/
theorem completeWith_eq {s : State} {e : Nat} {c : Cmd} {st : Code} (hc : s.cmd e = some c) (hst : frankable st = false) :
    completeWith s e st =
      journalService (s.setCmd e { c with status := st, output := [], outLen := 0, effects := [], reserved := [],
                                          served := true }) e (c.failed st) := by
  have hok : (st == stOk) = false := by
    simp only [frankable, Bool.or_eq_false_iff] at hst
    exact hst.1.1
  simp only [completeWith, hc, handOff, State.cmd_setCmd, franks, hst, Bool.and_false, Bool.false_and, Bool.false_eq_true, if_false, List.length_nil, Nat.not_lt_zero,
    gt_iff_lt, ite_self, commits, hok]
  rfl

/-- A completion with a status that is never franked: no output, no effects, done (R94, R106). -/
theorem completeWith_cmd {s : State} {e : Nat} {c : Cmd} {st : Code} (hc : s.cmd e = some c) (hst : frankable st = false) :
    ∃ p b, (completeWith s e st).cmd e = some { c.failed st with completion := p, stamped := b, stage := .done } := by
  rw [completeWith_eq hc hst]
  exact journalService_cmd _ _ rfl

/-! ### Frames as one statement -/

theorem Keeps.refl (ps : List Part) (s : State) : Keeps ps s s := by
  intro p _
  cases p <;> rfl

theorem Keeps.trans {ps : List Part} {s t u : State} (h : Keeps ps s t) (h' : Keeps ps t u) : Keeps ps s u := by
  intro p hp
  have h1 := h p hp
  have h2 := h' p hp
  cases p <;> exact Eq.trans h2 h1

theorem Keeps.mono {ps qs : List Part} {s t : State} (h : Keeps ps s t) (hsub : ps ⊆ qs) : Keeps qs s t :=
  fun p hp => h p fun hmem => hp (hsub hmem)

section
variable {ps : List Part} {s t : State}

theorem Keeps.pending (h : Keeps ps s t) (hp : .pending ∉ ps := by decide) : t.pending = s.pending := h .pending hp
theorem Keeps.free (h : Keeps ps s t) (hp : .free ∉ ps := by decide) : t.free = s.free := h .free hp
theorem Keeps.outbox (h : Keeps ps s t) (hp : .outbox ∉ ps := by decide) : t.outbox = s.outbox := h .outbox hp
theorem Keeps.pwrGood (h : Keeps ps s t) (hp : .pwrGood ∉ ps := by decide) : t.pwrGood = s.pwrGood := h .pwrGood hp
theorem Keeps.pins (h : Keeps ps s t) (hp : .pins ∉ ps := by decide) : t.pins = s.pins := h .pins hp
theorem Keeps.boot (h : Keeps ps s t) (hp : .boot ∉ ps := by decide) : t.boot = s.boot := h .boot hp
theorem Keeps.warden (h : Keeps ps s t) (hp : .warden ∉ ps := by decide) : t.warden = s.warden := h .warden hp
theorem Keeps.alarms (h : Keeps ps s t) (hp : .alarms ∉ ps := by decide) : t.alarms = s.alarms := h .alarms hp
theorem Keeps.clocks (h : Keeps ps s t) (hp : .clocks ∉ ps := by decide) : t.clocks = s.clocks := h .clocks hp
theorem Keeps.mgmt (h : Keeps ps s t) (hp : .mgmt ∉ ps := by decide) : t.mgmt = s.mgmt := h .mgmt hp
theorem Keeps.portA (h : Keeps ps s t) (hp : .portA ∉ ps := by decide) : t.portA = s.portA := h .portA hp
theorem Keeps.portB (h : Keeps ps s t) (hp : .portB ∉ ps := by decide) : t.portB = s.portB := h .portB hp
theorem Keeps.msix (h : Keeps ps s t) (hp : .msix ∉ ps := by decide) : t.msix = s.msix := h .msix hp
theorem Keeps.so (h : Keeps ps s t) (hp : .so ∉ ps := by decide) : t.so = s.so := h .so hp
theorem Keeps.cores (h : Keeps ps s t) (hp : .cores ∉ ps := by decide) : t.cores = s.cores := h .cores hp
theorem Keeps.wmem (h : Keeps ps s t) (hp : .wmem ∉ ps := by decide) : t.wmem = s.wmem := h .wmem hp
theorem Keeps.arrays (h : Keeps ps s t) (hp : .arrays ∉ ps := by decide) : t.arrays = s.arrays := h .arrays hp
theorem Keeps.keys (h : Keeps ps s t) (hp : .keys ∉ ps := by decide) : t.keys = s.keys := h .keys hp
theorem Keeps.entropy (h : Keeps ps s t) (hp : .entropy ∉ ps := by decide) : t.entropy = s.entropy := h .entropy hp
theorem Keeps.gates (h : Keeps ps s t) (hp : .gates ∉ ps := by decide) : t.gates = s.gates := h .gates hp
theorem Keeps.slots (h : Keeps ps s t) (hp : .slots ∉ ps := by decide) : t.slots = s.slots := h .slots hp
theorem Keeps.tb (h : Keeps ps s t) (hp : .tb ∉ ps := by decide) : t.tb = s.tb := h .tb hp
theorem Keeps.journal (h : Keeps ps s t) (hp : .journal ∉ ps := by decide) : t.journal = s.journal := h .journal hp
theorem Keeps.pair (h : Keeps ps s t) (hp : .pair ∉ ps := by decide) : t.pair = s.pair := h .pair hp
theorem Keeps.units (h : Keeps ps s t) (hp : .units ∉ ps := by decide) : t.units = s.units := h .units hp

end

/-- Two changes in a row keep what neither names. -/
theorem Keeps.comp {ps qs rs : List Part} {s t u : State} (h : Keeps ps s t) (h' : Keeps qs t u) (hp : ps ⊆ rs := by decide)
    (hq : qs ⊆ rs := by decide) : Keeps rs s u :=
  (h.mono hp).trans (h'.mono hq)

theorem keeps_setCmd (s : State) (e : Nat) (c : Cmd) : Keeps [.so] s (s.setCmd e c) := by
  intro p hp
  cases p
  case so => simp at hp
  all_goals rfl

theorem keeps_setCore (s : State) (k : Nat) (c : Core) : Keeps [.cores] s (s.setCore k c) := by
  intro p hp
  cases p
  case cores => simp at hp
  all_goals rfl

theorem keeps_journal (s : State) (e : JEntry) : Keeps [.outbox, .journal, .pair] s (journal s e) := by
  intro p hp
  cases p
  case outbox | journal | pair => simp at hp
  all_goals simp [Part.same]

theorem keeps_stampCompletion (s : State) (c : Cmd) : Keeps [.free, .tb] s (stampCompletion s c).2 := by
  intro p hp
  cases p
  case free | tb => simp at hp
  all_goals rfl

theorem keeps_eventF (s : State) (c : Code) (u : Nat) (v : BitVec 32) (a : Nat) :
    Keeps [.free, .outbox, .alarms, .msix, .tb, .journal, .pair] s (eventF s c u v a) := by
  intro p hp
  cases p
  case free | outbox | alarms | msix | tb | journal | pair => simp at hp
  all_goals simp [Part.same]

theorem keeps_journalService (s : State) (e : Nat) (c : Cmd) :
    Keeps [.free, .outbox, .so, .tb, .journal, .pair] s (journalService s e c) := by
  unfold journalService
  split
  · exact ((keeps_stampCompletion s c).comp (keeps_setCmd _ e _) (rs := [.free, .tb, .so])).comp (keeps_journal _ _)
  · exact (keeps_setCmd s e _).mono (by decide)

theorem keeps_completeWith {s : State} {e : Nat} {st : Code} (hst : frankable st = false) :
    Keeps [.free, .outbox, .so, .tb, .journal, .pair] s (completeWith s e st) := by
  cases hc : s.cmd e with
  | none =>
    rw [completeWith, hc]
    exact Keeps.refl _ _
  | some c =>
    rw [completeWith_eq hc hst]
    exact (keeps_setCmd s e _).comp (keeps_journalService _ e _)

theorem keeps_endTurn (s : State) (k : Nat) : Keeps [.cores, .arrays, .keys, .entropy] s (endTurn s k) := by
  intro p hp
  cases p
  case cores | arrays | keys | entropy => simp at hp
  all_goals simp [Part.same]

theorem keeps_noteResidue (s : State) (k : Nat) :
    Keeps [.free, .outbox, .alarms, .cores, .msix, .tb, .journal, .pair] s (noteResidue s k) := by
  unfold noteResidue
  dsimp only
  split
  · exact Keeps.refl _ _
  · exact (keeps_eventF s _ _ _ _).comp (keeps_setCore _ k _)

/-- A terminal event reaches neither working memory nor the module's tables but the one entry (R385). -/
theorem keeps_programFaultAt (s : State) (k cause : Nat) :
    Keeps [.free, .outbox, .alarms, .msix, .so, .cores, .arrays, .keys, .entropy, .tb, .journal, .pair] s
      (programFaultAt s k cause) := by
  unfold programFaultAt
  split
  · exact Keeps.refl _ _
  · exact ((((keeps_eventF s _ _ _ _).comp (keeps_noteResidue _ k)
      (rs := [.free, .outbox, .alarms, .cores, .msix, .tb, .journal, .pair])).comp (keeps_endTurn _ k)
      (rs := [.free, .outbox, .alarms, .cores, .msix, .tb, .journal, .pair, .arrays, .keys, .entropy])).comp
      (keeps_completeWith rfl))

/-- Of the sorting office a completion without output touches the table of commands alone. -/
theorem journalService_so (s : State) (e : Nat) (c : Cmd) :
    (journalService s e c).so = { s.so with cmds := (journalService s e c).so.cmds } := by
  unfold journalService
  split
  · simp only [journal_so]
    rfl
  · rfl

theorem completeWith_so {s : State} {e : Nat} {st : Code} (hst : frankable st = false) :
    (completeWith s e st).so = { s.so with cmds := (completeWith s e st).so.cmds } := by
  cases hc : s.cmd e with
  | none => simp only [completeWith, hc]
  | some c =>
    rw [completeWith_eq hc hst, journalService_so]
    rfl

/-! ### The core after its turn (R393) -/

@[simp] theorem endTurn_core (s : State) (k : Nat) : (endTurn s k).core k = (s.core k).ended := by
  have h (t : State) : (eraseCoreKeys (t.setCore k (t.core k).ended) k).core k = (t.core k).ended :=
    State.core_setCore t k _
  unfold endTurn
  simp only [h]
  split <;> rfl

theorem endTurn_core_other (s : State) {k j : Nat} (hj : j ≠ k) : (endTurn s k).core j = s.core j := by
  have h (t : State) : (eraseCoreKeys (t.setCore k (t.core k).ended) k).core j = t.core j :=
    State.core_setCore_other t k j _ hj
  unfold endTurn
  simp only [h]
  split <;> rfl

@[simp] theorem endTurn_counters (s : State) (k : Nat) : (endTurn s k).keys.counters = s.keys.counters := by
  unfold endTurn
  dsimp only
  split <;> rfl

theorem Core.ended_clear (c : Core) :
    c.ended.cmd = none ∧ (∀ m, c.ended.reg m = 0) ∧ c.ended.st = 0 ∧ c.ended.repc = 0 ∧ c.ended.ev = 0 := by
  refine ⟨rfl, fun m => ?_, rfl, rfl, rfl⟩
  show (if m = 0 then 0 else _) = _
  split <;> rfl

theorem completeWith_core {s : State} {e : Nat} {st : Code} (hst : frankable st = false) (k : Nat) :
    (completeWith s e st).core k = s.core k :=
  State.core_congr (keeps_completeWith hst .cores (by decide)) k

end Sys2Proof.Machine
end

section
/-! Terminal and handled events (R371, R373, R381, R383 to R385). -/

namespace Sys2Proof.Machine

section
variable {s : State} {k n : Nat} {f : Core → Act}

theorem runInsn_of_ready (h : (s.core k).ready = true) (hsp : (s.core k).fetched n = true) :
    runInsn s k n f = conclude s k n (f (s.core k)) := by
  rw [runInsn, if_pos h, if_pos hsp]

/-- A long form whose second half lies outside the fetch rights is EXEC_BOUND (R371). -/
theorem runInsn_unfetched (h : (s.core k).ready = true) (hsp : (s.core k).spans = false) :
    runInsn s k 2 f = programFaultAt s k evExecBound := by
  have hfetched : (s.core k).fetched 2 = false := hsp
  rw [runInsn, if_pos h, hfetched]
  rfl

theorem wmuRun_of_ready (h : (s.core k).ready = true) (hw : (s.core k).wmu.scrubbing = false) :
    wmuRun s k f = conclude s k 1 (f (s.core k)) := by
  rw [wmuRun, runInsn_of_ready h rfl, hw]
  rfl

end

theorem shiftImm_illegal {left : Bool} {d a imm : Nat} (c : Core) (h : 35 < imm) :
    shiftImm left d a imm c = .terminal evIllegal := if_pos h

/-- ALU names no operation with code 0 or above 0x10 (R373). -/
theorem sopAct_illegal {op d a b : Nat} (c : Core) (h : op = 0 ∨ 16 < op) : sopAct op d a b c = .terminal evIllegal := by
  unfold sopAct
  dsimp only
  split
  case h_17 => rfl
  all_goals omega

theorem terminalForms : Claims.TerminalForms := by
  intro s k d4 a4 u4 sp i8 op d a b i18 n6 n12 body c ends hready
  have hrun {f : Core → Act} {cause : Nat} (hf : f c = .terminal cause) :
      answer (runInsn s k.toNat 1 f) = answer (programFaultAt s k.toNat cause) := by
    rw [runInsn_of_ready hready rfl, hf]
    rfl
  have hlong {f : Core → Act} {cause : Nat} (hsp : c.spans = true) (hf : f c = .terminal cause) :
      answer (runInsn s k.toNat 2 f) = answer (programFaultAt s k.toNat cause) := by
    rw [runInsn_of_ready hready (n := 2) hsp, hf]
    rfl
  have hbound {f : Core → Act} (hsp : c.spans = false) :
      answer (runInsn s k.toNat 2 f) = answer (programFaultAt s k.toNat evExecBound) := by
    rw [runInsn_unfetched hready hsp]
  refine ⟨fun h => ⟨hrun (shiftImm_illegal _ h), hrun (shiftImm_illegal _ h)⟩,
    fun hsp h => ⟨hlong hsp (shiftImm_illegal _ h), hlong hsp (shiftImm_illegal _ h)⟩,
    fun hsp h => hlong hsp (sopAct_illegal _ h),
    fun hsp => ⟨?_, ?_, ?_, ?_, ?_, ?_, ?_, ?_, ?_, ?_, ?_, ?_, ?_, ?_, ?_, ?_, ?_⟩,
    fun h => hrun ?movs, fun h => hrun ?movt, fun h => ⟨hrun ?rep, hrun ?repi⟩, fun h => hrun ?zero,
    fun h => hrun ?st, fun h => hrun ?ld, fun h => ⟨hrun ?zeros, hrun ?norms⟩⟩
  case movs =>
    split
    case h_6 => rfl
    all_goals omega
  case movt =>
    dsimp only
    split
    case h_4 => rfl
    all_goals omega
  case rep => exact if_neg (by simp [h])
  case repi => exact if_pos (by simp [h])
  case zero => exact if_pos (by simp [h])
  case st => exact if_neg (by rw [Bool.not_eq_true]; exact h)
  case ld =>
    have hload : nearLoad s (s.core k.toNat) ((near24 ((s.core k.toNat).reg a4.toNat) + u4.toNat) % 2 ^ 24) = none := h
    rw [loadAct, hload]
    rfl
  case zeros => exact if_neg (by rw [Bool.not_eq_true]; exact h)
  case norms =>
    dsimp only
    split
    next hs _ => exact absurd hs (by rw [show nearStorable (near24 (c.reg a4.toNat)) = false from h]; decide)
    next => rfl
  all_goals exact hbound hsp

theorem startMove_of_ready {s : State} {k : Nat} {read : Bool} {seg d a b : Nat} (h : (s.core k).ready = true)
    (hsp : (s.core k).spans = true) :
    startMove s k read seg d a b =
      match farAddr (s.core k) seg ((s.core k).reg a) with
      | none => conclude s k 2 (.terminal evIllegal)
      | some x =>
        let n := ((s.core k).reg b).toNat
        if x % 4 ≠ 0 ∨ n % 4 ≠ 0 ∨ n < 4 ∨ n > 65536 then conclude s k 2 (.handled evAlign false {})
        else if !moveRange read (near24 ((s.core k).reg d)) (n / 4) then conclude s k 2 (.terminal evNearAccess)
        else issuePiece (s.setCore k { s.core k with cycles := (s.core k).cycles + 1 }) k read b
          (near24 ((s.core k).reg d)) x n 0 := by
  simp only [startMove, h, hsp, Bool.not_true, Bool.false_eq_true, if_false] <;> rfl

theorem farAddr_none {c : Core} {seg : Nat} (x : W36) (h : 5 ≤ seg) : farAddr c seg x = none := by
  rw [farAddr, if_neg (by omega), if_neg (by omega)]

/-- A handled event without a handler, or under ACT, is DOUBLE, on the core that the event has reached (R383). -/
theorem takeEvent_double {s : State} {k cause : Nat} {c : Core} {rpt slot : Bool} {epc : BitVec 25}
    (h : c.handler = none ∨ (evAct c.ev = true ∧ cause ≠ evWmuFault)) :
    takeEvent s k c cause rpt slot epc = programFaultAt (s.setCore k c) k evDouble := by
  unfold takeEvent
  split
  · rfl
  next hsome =>
    obtain hnone | ⟨hact, hne⟩ := h
    · rw [hnone] at hsome
      cases hsome
    · rw [if_pos (by simp [hact, hne])]

section
variable {s : State} {k : CoreId} {seg : BitVec 3} {d a b : BitVec 5} {off : BitVec 10} {x : Nat}

theorem exec_fld_unfetched (h : (s.core k.toNat).ready = true) (hsp : (s.core k.toNat).spans = false) :
    exec (.fld k seg d a off) s = answer (programFaultAt s k.toNat evExecBound) := by
  show execFld k seg d a off s = _
  unfold execFld
  dsimp only
  split
  · rw [runInsn_unfetched h hsp]
  · simp only [runInsn_unfetched h hsp, hsp, Bool.and_false, Bool.false_eq_true, if_false, ite_self]

theorem exec_fst_unfetched (h : (s.core k.toNat).ready = true) (hsp : (s.core k.toNat).spans = false) :
    exec (.fst k seg d a off) s = answer (programFaultAt s k.toNat evExecBound) := by
  show execFst k seg d a off s = _
  unfold execFst
  dsimp only
  split
  · rw [runInsn_unfetched h hsp]
  · simp only [runInsn_unfetched h hsp, hsp, Bool.and_false, Bool.false_eq_true, if_false, ite_self]

theorem startMove_unfetched {j seg d a b : Nat} {read : Bool} (h : (s.core j).ready = true) (hsp : (s.core j).spans = false) :
    startMove s j read seg d a b = programFaultAt s j evExecBound := by
  simp only [startMove, h, hsp, Bool.not_true, Bool.not_false, Bool.false_eq_true, if_false, if_true]
  rfl

/-- FLD and FST outside the segments are ILLEGAL (R365). -/
theorem exec_fld_illegal (h : (s.core k.toNat).ready = true) (hsp : (s.core k.toNat).spans = true)
    (hx : farAddr (s.core k.toNat) seg.toNat ((s.core k.toNat).reg a.toNat + off.signExtend 36) = none) :
    exec (.fld k seg d a off) s = answer (programFaultAt s k.toNat evIllegal) := by
  show execFld k seg d a off s = _
  simp only [execFld, hx]
  rw [runInsn_of_ready (n := 2) h hsp]
  rfl

theorem exec_fst_illegal (h : (s.core k.toNat).ready = true) (hsp : (s.core k.toNat).spans = true)
    (hx : farAddr (s.core k.toNat) seg.toNat ((s.core k.toNat).reg a.toNat + off.signExtend 36) = none) :
    exec (.fst k seg d a off) s = answer (programFaultAt s k.toNat evIllegal) := by
  show execFst k seg d a off s = _
  simp only [execFst, hx]
  rw [runInsn_of_ready (n := 2) h hsp]
  rfl

theorem exec_fld_unaligned (h : (s.core k.toNat).ready = true) (hsp : (s.core k.toNat).spans = true)
    (hx : farAddr (s.core k.toNat) seg.toNat ((s.core k.toNat).reg a.toNat + off.signExtend 36) = some x) (hx4 : x % 4 ≠ 0) :
    exec (.fld k seg d a off) s = answer (conclude s k.toNat 2 (.handled evAlign false {})) := by
  show execFld k seg d a off s = _
  simp only [execFld, hx, if_pos hx4]
  rw [runInsn_of_ready (n := 2) h hsp]

theorem exec_fst_unaligned (h : (s.core k.toNat).ready = true) (hsp : (s.core k.toNat).spans = true)
    (hx : farAddr (s.core k.toNat) seg.toNat ((s.core k.toNat).reg a.toNat + off.signExtend 36) = some x) (hx4 : x % 4 ≠ 0) :
    exec (.fst k seg d a off) s = answer (conclude s k.toNat 2 (.handled evAlign false {})) := by
  show execFst k seg d a off s = _
  simp only [execFst, hx, if_pos hx4]
  rw [runInsn_of_ready (n := 2) h hsp]

theorem exec_fst_guarded (h : (s.core k.toNat).ready = true) (hsp : (s.core k.toNat).spans = true)
    (hx : farAddr (s.core k.toNat) seg.toNat ((s.core k.toNat).reg a.toNat + off.signExtend 36) = some x) (hx4 : x % 4 = 0)
    (hg : guardBits ((s.core k.toNat).reg d.toNat) ≠ 0) :
    exec (.fst k seg d a off) s = answer (conclude s k.toNat 2 (.handled evGuard false {})) := by
  show execFst k seg d a off s = _
  simp only [execFst, hx, if_neg (not_not.2 hx4), if_pos hg]
  rw [runInsn_of_ready (n := 2) h hsp]

end

/-- The terminal events of a far-move's start (R365, R367). -/
theorem startMove_illegal {s : State} {k seg d a b : Nat} {read : Bool} (h : (s.core k).ready = true)
    (hsp : (s.core k).spans = true) (hx : farAddr (s.core k) seg ((s.core k).reg a) = none) :
    startMove s k read seg d a b = programFaultAt s k evIllegal := by
  rw [startMove_of_ready h hsp, hx]
  rfl

theorem startMove_nearAccess {s : State} {k seg d a b x : Nat} {read : Bool} (h : (s.core k).ready = true)
    (hsp : (s.core k).spans = true) (hx : farAddr (s.core k) seg ((s.core k).reg a) = some x)
    (hlen : ¬ (x % 4 ≠ 0 ∨ ((s.core k).reg b).toNat % 4 ≠ 0 ∨ ((s.core k).reg b).toNat < 4 ∨ ((s.core k).reg b).toNat > 65536))
    (hrange : moveRange read (near24 ((s.core k).reg d)) (((s.core k).reg b).toNat / 4) = false) :
    startMove s k read seg d a b = programFaultAt s k evNearAccess := by
  rw [startMove_of_ready h hsp, hx]
  simp only [if_neg hlen, hrange]
  rfl

theorem startMove_unaligned {s : State} {k seg d a b x : Nat} {read : Bool} (h : (s.core k).ready = true)
    (hsp : (s.core k).spans = true) (hx : farAddr (s.core k) seg ((s.core k).reg a) = some x)
    (hlen : x % 4 ≠ 0 ∨ ((s.core k).reg b).toNat % 4 ≠ 0 ∨ ((s.core k).reg b).toNat < 4 ∨ ((s.core k).reg b).toNat > 65536) :
    startMove s k read seg d a b = conclude s k 2 (.handled evAlign false {}) := by
  rw [startMove_of_ready h hsp, hx]
  simp only [if_pos hlen]

theorem farAndWmuTerminals : Claims.FarAndWmuTerminals := by
  intro s k seg d a b off x m1 g c n ends hready
  refine ⟨fun hsp => ⟨exec_fld_unfetched hready hsp, exec_fst_unfetched hready hsp,
      congrArg answer (startMove_unfetched hready hsp), congrArg answer (startMove_unfetched hready hsp)⟩,
    fun hsp hseg => ⟨exec_fld_illegal hready hsp (farAddr_none _ hseg), exec_fst_illegal hready hsp (farAddr_none _ hseg),
      congrArg answer (startMove_illegal hready hsp (farAddr_none _ hseg)),
      congrArg answer (startMove_illegal hready hsp (farAddr_none _ hseg))⟩,
    fun hsp hx hx4 hn4 hn hn' => ?nearAccess, fun hw hg hlim => ?limit, fun hsp hx hx4 hdouble => ?double⟩
  case nearAccess =>
    have hlen : ¬ (x % 4 ≠ 0 ∨ n % 4 ≠ 0 ∨ n < 4 ∨ n > 65536) := by omega
    exact ⟨fun hr => congrArg answer (startMove_nearAccess hready hsp hx hlen hr),
      fun hr => congrArg answer (startMove_nearAccess hready hsp hx hlen hr)⟩
  case limit =>
    have hat : atLimit c.wmu = true := beq_iff_eq.2 (BitVec.eq_of_toNat_eq (by simpa using hlim))
    show answer (wmuRun s k.toNat _) = _
    rw [wmuRun_of_ready hready hw, if_neg (not_not.2 hg), if_pos hat]
    rfl
  case double =>
    refine ⟨{ c.apply {} with rep := none }, by rw [Core.apply_eq], by rw [Core.apply_eq], ?_⟩
    rw [exec_fld_unaligned hready hsp hx hx4]
    refine congrArg answer (takeEvent_double ?_)
    rw [Core.apply_eq]
    exact hdouble.imp_right fun h => ⟨h, by decide⟩

/-- An entry that a core runs is the command of that core and of the table. -/
theorem running_eq_some {s : State} {k e : Nat} {c : Cmd} :
    running s k = some (e, c) ↔ (s.core k).cmd = some e ∧ s.cmd e = some c := by
  unfold running
  cases h : (s.core k).cmd with
  | none => simp
  | some e' =>
    simp only [Option.map_eq_some_iff, Prod.mk.injEq, Option.some.injEq]
    constructor
    · rintro ⟨c', hc, rfl, rfl⟩
      exact ⟨rfl, hc⟩
    · rintro ⟨rfl, hc⟩
      exact ⟨c, hc, rfl, rfl⟩

/-- A terminal event notes its F-class event and the residue faults, ends the turn and completes the command (R385). -/
theorem programFaultAt_eq {s : State} {k cause e : Nat} (h : (s.core k).cmd = some e) :
    ∃ b, Keeps [.free, .outbox, .alarms, .cores, .msix, .tb, .journal, .pair] s b ∧
      programFaultAt s k cause = completeWith (endTurn b k) e programFault := by
  refine ⟨_, ?_, by rw [programFaultAt, h]⟩
  exact (keeps_eventF s _ _ _ _).comp (keeps_noteResidue _ k)

theorem programFaultEndsCommand : Claims.ProgramFaultEndsCommand := by
  intro s k cause e c hrun t
  obtain ⟨hcore, hcmd⟩ := running_eq_some.1 hrun
  obtain ⟨b, hb, hend⟩ := programFaultAt_eq (cause := cause) hcore
  have hbcmd : (endTurn b k.toNat).cmd e = some c := by
    rw [State.cmd_congr (endTurn_so ..), State.cmd_congr (hb .so (by decide)), hcmd]
  obtain ⟨p, q, hdone⟩ := completeWith_cmd (st := programFault) hbcmd rfl
  have hso : t.so = (completeWith (endTurn b k.toNat) e programFault).so := by rw [← hend]
  refine ⟨⟨_, (State.cmd_congr hso e).trans hdone, rfl, rfl, rfl, rfl, rfl, rfl⟩, ?replays, ?counters, ?core⟩
  case replays =>
    rw [hso, completeWith_so rfl, endTurn_so, hb .so (by decide)]
  case counters =>
    show (programFaultAt s k.toNat cause).keys.counters = _
    rw [hend, keeps_completeWith rfl .keys (by decide), endTurn_counters, hb .keys (by decide)]
  case core =>
    have hcore' : t.core k.toNat = (b.core k.toNat).ended := by
      show (programFaultAt s k.toNat cause).core k.toNat = _
      rw [hend, completeWith_core rfl, endTurn_core]
    rw [hcore']
    exact Core.ended_clear _

/-- Settles O6: the terminal forms by the branch of each instruction, and their common end by the completion without
output. -/
theorem terminalEventsEndCommands : Obligations.TerminalEventsEndCommands :=
  ⟨terminalForms, farAndWmuTerminals, programFaultEndsCommand⟩

/-! ### Handled events (R381, R384) -/

/-- Without a store the effects of an instruction leave D-SRAM and operand memory to the WMU alone. -/
theorem Core.apply_eq_of_no_stores (c : Core) {d : Did} (h : d.stores = []) :
    c.apply d = { c with
      regs := (c.apply d).regs, st := d.st.getD c.st, repc := d.repc.getD c.repc, ev := d.ev.getD c.ev, load := d.load,
      far := d.far, wmuPending := c.wmuPending || d.wmuFault, wmuSeen := c.wmuSeen || d.wmuFault,
      wmuRpt := if d.wmuFault && !c.wmuPending then c.rep.isSome else c.wmuRpt,
      wmuSlot := if d.wmuFault && !c.wmuPending then c.load.isSome else c.wmuSlot,
      cycles := c.cycles + d.clocks, wmu := d.wmu.getD c.wmu } := by
  unfold Core.apply
  simp only [h, List.foldl_nil]
  rw [foldl_setReg_eq, Core.landLoad_eq]

/-- A handled event that is admitted, with no load pending (R384). -/
theorem takeEvent_enters {s : State} {k cause : Nat} {c : Core} {rpt slot : Bool} {epc h : BitVec 25}
    (hh : c.handler = some h) (hact : evAct c.ev = false) (hload : c.load = none) :
    takeEvent s k c cause rpt slot epc =
      s.setCore k { c with ev := mkEv cause rpt true slot epc, pc := h, rep := none, resume := false,
                           cycles := c.cycles + 3 } := by
  simp only [takeEvent, hh, hact, Bool.false_and, Bool.false_eq_true, if_false, Core.landLoad, hload]

/-- A handled event whose instruction writes at most registers and st enters the handler (R384). -/
theorem takesEvent_of_conclude {i : Instr} {s b : State} {k n cause : Nat} {next : Bool} {regs : List (Nat × W36)}
    {st : Option W36} {clocks : Nat} {epc : BitVec 25}
    (hex : exec i s = answer (conclude b k n (.handled cause next { regs := regs, st := st, clocks := clocks })))
    (hlen : regs.length ≤ 1)
    (hepc : epc = match (b.core k).rep with
      | none => if next then halfAdd (b.core k).pc n else (b.core k).pc
      | some r => if r.interruptible then r.prefixPc else halfAdd (b.core k).pc n) :
    TakesEventFrom i s b k cause (b.core k).rep.isSome epc regs st clocks := by
  intro h hh hact
  refine ⟨drivePins (takeEvent b k { (b.core k).apply { regs := regs, st := st, clocks := clocks } with rep := none } cause
    (b.core k).rep.isSome (b.core k).load.isSome epc), by rw [hex, hepc]; rfl, ?_⟩
  generalize hc : b.core k = c at *
  have hap := c.apply_eq_of_no_stores (d := { regs := regs, st := st, clocks := clocks }) rfl
  rw [takeEvent_enters (h := h) (by rw [hap]; exact hh) (by rw [hap]; exact hact) (by rw [hap])]
  simp only [drivePins_core, State.core_setCore]
  refine ⟨trivial, fun m => Core.apply_reg c { regs := regs, st := st, clocks := clocks } m hlen, ?_⟩
  rw [hap]
  simp

/-- An event of an instruction without effects returns to it, or to the prefix of an interruptible repeat (R381). -/
theorem takesEvent_of_handled {i : Instr} {s : State} {k n cause : Nat}
    (hex : exec i s = answer (conclude s k n (.handled cause false {}))) :
    TakesEvent i s k cause (s.core k).rep.isSome
      (match (s.core k).rep with
        | none => (s.core k).pc
        | some r => if r.interruptible then r.prefixPc else halfAdd (s.core k).pc n) :=
  takesEvent_of_conclude (regs := []) (st := none) (clocks := 1) hex (Nat.zero_le 1) rfl

/-- The limb at LP with guard bits stops a streamed accumulation (R241). -/
theorem streamed_guarded {w : Wmu} {q : Nat} {m1 : Bool} (h : guardBits (tget 0 w.opmem w.lp.toNat) ≠ 0) :
    streamed w q m1 = .error (.handled evGuard false {}) := if_pos h

/-- Settles O9: each form's check raises its event, and the event enters the handler. -/
theorem handledEvents : Obligations.HandledEvents := by
  intro s k seg d a b off x m1 g c rpt epc hready
  have hwmu {i : Instr} {f : Core → Act} (hw : c.wmu.scrubbing = false) (hex : exec i s = answer (wmuRun s k.toNat f))
      (hf : f c = .handled evGuard false {}) : TakesEvent i s k.toNat 4 rpt (epc 1) :=
    takesEvent_of_handled (by rw [hex, wmuRun_of_ready hready hw, hf]; rfl)
  refine ⟨fun hsp hx hx4 => ⟨takesEvent_of_handled (exec_fld_unaligned hready hsp hx hx4),
      takesEvent_of_handled (exec_fst_unaligned hready hsp hx hx4)⟩,
    fun hsp hx hx4 hg => takesEvent_of_handled (exec_fst_guarded hready hsp hx hx4 hg),
    fun hsp hx hbad => ⟨takesEvent_of_handled (congrArg answer (startMove_unaligned hready hsp hx hbad)),
      takesEvent_of_handled (congrArg answer (startMove_unaligned hready hsp hx hbad))⟩,
    fun hw hg => hwmu hw rfl (if_pos hg), fun hw hg => ⟨hwmu hw rfl ?macs, hwmu hw rfl ?macsSh⟩,
    fun hw ⟨n, hn, hg⟩ => hwmu hw rfl (if_pos ?ldm)⟩
  case macs => rw [streamed_guarded hg]
  case macsSh => rw [streamed_guarded hg]
  case ldm =>
    simp only [Wmu.words, List.any_map, List.any_eq_true, List.mem_range]
    exact ⟨n, hn, by simpa using hg⟩

end Sys2Proof.Machine
end

section
/-! The wide multiplier: its operations, its readouts, its residues and its scrub (R238 to R246). -/

namespace Sys2Proof.Machine

section
variable {i : Instr} {s : State} {k : Nat} {f : Core → Act}

/-- A WMU instruction outside a scrub that changes the unit alone. -/
theorem retires_of_wmu {v : Wmu} (hex : exec i s = answer (wmuRun s k f)) (hw : (s.core k).wmu.scrubbing = false)
    (hf : f (s.core k) = .did { wmu := some v }) (hg : Going s k (halfAdd (s.core k).pc 1)) :
    Retires i s k { wmu := some v, next := halfAdd (s.core k).pc 1 } :=
  retires_of_insn { wmu := some v } hex (by simpa [hw] using hf) rfl rfl hg rfl (Nat.zero_le 1) (Nat.zero_le 1)
    (.inl rfl) rfl (.inl rfl)

/-- During a scrub a WMU instruction does nothing (R245). -/
theorem retires_of_scrub (hex : exec i s = answer (wmuRun s k f)) (hw : (s.core k).wmu.scrubbing = true)
    (hg : Going s k (halfAdd (s.core k).pc 1)) : Retires i s k { next := halfAdd (s.core k).pc 1 } :=
  retires_of_insn {} hex (if_pos hw) rfl rfl hg rfl (Nat.zero_le 1) (Nat.zero_le 1) (.inl rfl) rfl (.inl rfl)

/-- An instruction that writes one register and the unit. -/
theorem retires_of_wmuReg {d : Nat} {x : W36} {v : Wmu} (hex : exec i s = answer (runInsn s k 1 f))
    (hf : f (s.core k) = .did { regs := [(d, x)], wmu := some v }) (hg : Going s k (halfAdd (s.core k).pc 1)) :
    Retires i s k { regs := [(d, x)], wmu := some v, next := halfAdd (s.core k).pc 1 } :=
  retires_of_insn { regs := [(d, x)], wmu := some v } hex hf rfl rfl hg rfl (Nat.le_refl 1) (Nat.zero_le 1)
    (.inl rfl) rfl (.inl rfl)

end

/-- The accumulator takes the product modulo 2^640 (R239). -/
theorem Wmu.accumulate_eq (w : Wmu) (q : Nat) (m1 : Bool) (limb : BitVec 32) :
    w.accumulate q m1 limb = { w with
      acc := BitVec.ofNat 640 (w.acc.toNat + (w.mcand m1).toNat * limb.toNat),
      resAcc := (w.resAcc + w.mres m1 * limb.toNat) % q, acnt := w.acnt + 1, used := true } := by
  have hacc : w.acc + (w.mcand m1).setWidth 640 * limb.setWidth 640 =
      BitVec.ofNat 640 (w.acc.toNat + (w.mcand m1).toNat * limb.toNat) := by
    have h1 := (w.mcand m1).isLt
    have h2 := limb.isLt
    apply BitVec.eq_of_toNat_eq
    simp [BitVec.toNat_add, BitVec.toNat_mul]
  rw [Wmu.accumulate, hacc]

theorem Wmu.shift_eq (w : Wmu) (q : Nat) :
    w.shift q = { w with
      acc := BitVec.ofNat 640 (w.acc.toNat / 2 ^ 32),
      resAcc := (w.resAcc + q - (BitVec.ofNat 32 w.acc.toNat).toNat % q) % q * invPrime (2 ^ 32) q % q, acnt := 0 } := by
  have hacc : w.acc >>> 32 = BitVec.ofNat 640 (w.acc.toNat / 2 ^ 32) := by
    apply BitVec.eq_of_toNat_eq
    rw [BitVec.toNat_ushiftRight, BitVec.toNat_ofNat, Nat.shiftRight_eq_div_pow, Nat.mod_eq_of_lt]
    exact Nat.lt_of_le_of_lt (Nat.div_le_self ..) w.acc.isLt
  have hlow : w.acc.extractLsb' 0 32 = BitVec.ofNat 32 w.acc.toNat := by simp [BitVec.extractLsb']
  rw [Wmu.shift, hacc, hlow]

theorem atLimit_eq_false {w : Wmu} (h : w.acnt.toNat ≠ 2 ^ 32 - 1) : atLimit w = false := by
  rw [atLimit, beq_eq_false_iff_ne]
  intro hall
  exact h (by rw [hall]; rfl)

theorem streamed_ok {w : Wmu} (q : Nat) (m1 : Bool) (hg : guardBits (tget 0 w.opmem w.lp.toNat) = 0)
    (hlim : w.acnt.toNat ≠ 2 ^ 32 - 1) :
    streamed w q m1 = .ok { w.accumulate q m1 (low32 (tget 0 w.opmem w.lp.toNat)) with lp := w.lp + 1 } := by
  unfold streamed
  dsimp only
  rw [if_neg (not_not.2 hg), atLimit_eq_false hlim]
  rfl

theorem Wmu.status_eq {w : Wmu} (h : w.scrubbing = false) :
    w.status = w.lp.toNat + w.op.toNat * 2 ^ 11 + (if w.rfault then 2 ^ 23 else 0) + (if w.used then 2 ^ 24 else 0) := by
  simp [Wmu.status, h]

theorem wmuOperationsRetire : Claims.WmuOperationsRetire := by
  intro s k m1 a b d c w q one x y mm mr limb acc ends hg hw
  have hacc (v : BitVec 32) : w.accumulate q m1 v = acc v := Wmu.accumulate_eq ..
  refine ⟨retires_of_wmu rfl hw rfl hg, retires_of_wmu rfl hw ?setp hg, fun hguard => ?ldm,
    fun hguard hlim => retires_of_wmu rfl hw ?mac hg, fun hguard hlim => retires_of_wmu rfl hw ?macs hg,
    retires_of_wmuReg rfl ?stat hg⟩
  case setp => rw [extractLsb'_eq_ofNat, extractLsb'_eq_ofNat]
  case ldm =>
    intro m
    have hno : ¬ (c.wmu.words (x.toNat % 2048) 18).any (fun v => guardBits v ≠ 0) = true := by
      simp only [Wmu.words, List.any_map, List.any_eq_true, List.mem_range, not_exists, not_and]
      intro n hn
      simpa using hguard n hn
    cases m1 with
    | true => exact retires_of_wmu rfl hw (if_neg hno) hg
    | false => exact retires_of_wmu rfl hw (if_neg hno) hg
  case mac =>
    have hlim' : atLimit c.wmu = false := atLimit_eq_false hlim
    rw [if_neg (not_not.2 hguard), if_neg (Bool.eq_false_iff.1 hlim'), hacc]
  case macs => rw [streamed_ok q m1 hguard hlim, hacc]
  case stat => rw [Wmu.status_eq hw, if_neg (Bool.eq_false_iff.1 hw)]

/-- The low limb leaves a unit whose residue check passes. -/
theorem Wmu.limbOut_ok {w : Wmu} {q : Nat} (hw : w.scrubbing = false) (hres : w.acc.toNat % q = w.resAcc) :
    w.limbOut q = BitVec.ofNat 32 w.acc.toNat := by
  simp [Wmu.limbOut, hw, Wmu.residueOk, hres, BitVec.extractLsb']

theorem readoutDid_ok {w0 w : Wmu} {q : Nat} {d : Did} (h : w0.acc.toNat % q = w0.resAcc) :
    readoutDid w0 w q d = .did { d with wmu := some w } := if_pos (beq_iff_eq.2 h)

theorem word32_eq (v : BitVec 32) : word32 v = BitVec.ofNat 36 v.toNat := (BitVec.ofNat_toNat (m := 36) v).symm

theorem wmuReadoutsRetire : Claims.WmuReadoutsRetire := by
  intro s k m1 d c w q one low shifted written limb v hg hw
  have hshift (u : Wmu) : u.shift q = shifted u := Wmu.shift_eq ..
  refine ⟨fun hres => ⟨retires_of_wmuReg rfl ?peek hg, retires_of_wmuReg rfl ?pop hg, retires_of_wmu rfl hw ?pops hg⟩,
    fun hguard hlim hres => retires_of_wmu rfl hw ?macsSh hg⟩
  case peek =>
    rw [if_neg (Bool.eq_false_iff.1 hw), readoutDid_ok hres, Wmu.limbOut_ok hw hres, word32_eq]
  case pop =>
    rw [if_neg (Bool.eq_false_iff.1 hw), readoutDid_ok hres, Wmu.limbOut_ok hw hres, word32_eq, hshift]
  case pops =>
    rw [readoutDid_ok hres, Wmu.limbOut_ok hw hres, hshift, Wmu.put, word32_eq]
  case macsSh =>
    rw [streamed_ok q m1 hguard hlim]
    show readoutDid v ((v.put (v.limbOut q)).shift q) q {} = _
    rw [readoutDid_ok hres, Wmu.limbOut_ok (show v.scrubbing = false from hw) hres, hshift, Wmu.put, word32_eq]

/-- Settles O7: each operation's arithmetic in natural numbers, and the readouts that pass their check. -/
theorem wmuInstructionsRetire : Obligations.WmuInstructionsRetire := ⟨wmuOperationsRetire, wmuReadoutsRetire⟩

/-! ### Residues and the scrub (R242 to R246) -/

/-- The residue of the shifted accumulator: the outgoing limb is taken off, and the inverse of 2^32 divides (R242). -/
theorem residue_shift {q r acc inv : Nat} (hq : 0 < q) (hinv : 2 ^ 32 * inv % q = 1) (hr : r = acc % q) :
    (r + q - acc % 2 ^ 32 % q) % q * inv % q = acc / 2 ^ 32 % q := by
  have hone : 2 ^ 32 * inv ≡ 1 [MOD q] := by
    rw [Nat.ModEq, hinv]
    rcases Nat.lt_or_ge 1 q with h | h
    · exact (Nat.mod_eq_of_lt h).symm
    · rw [show q = 1 by omega] at hinv
      omega
  have hlow : acc % 2 ^ 32 % q < q := Nat.mod_lt _ hq
  have hsub : (r + q - acc % 2 ^ 32 % q) % q ≡ 2 ^ 32 * (acc / 2 ^ 32) [MOD q] := by
    refine (Nat.mod_modEq _ q).trans (Nat.ModEq.add_right_cancel' (acc % 2 ^ 32 % q) ?_)
    calc r + q - acc % 2 ^ 32 % q + acc % 2 ^ 32 % q = r + q := Nat.sub_add_cancel (by omega)
      _ ≡ r [MOD q] := Nat.add_modEq_right
      _ ≡ acc [MOD q] := hr ▸ Nat.mod_modEq _ _
      _ = 2 ^ 32 * (acc / 2 ^ 32) + acc % 2 ^ 32 := (Nat.div_add_mod _ _).symm
      _ ≡ 2 ^ 32 * (acc / 2 ^ 32) + acc % 2 ^ 32 % q [MOD q] := (Nat.ModEq.refl _).add (Nat.mod_modEq _ _).symm
  calc (r + q - acc % 2 ^ 32 % q) % q * inv ≡ 2 ^ 32 * (acc / 2 ^ 32) * inv [MOD q] := hsub.mul_right inv
    _ = acc / 2 ^ 32 * (2 ^ 32 * inv) := by ring
    _ ≡ acc / 2 ^ 32 * 1 [MOD q] := hone.mul_left _
    _ = acc / 2 ^ 32 := Nat.mul_one _

theorem residueFollowsAccumulator : Claims.ResidueFollowsAccumulator := by
  intro w q m1 limb hq hinv hacc hm
  constructor
  · intro hlt
    rw [Wmu.accumulate_eq]
    simp only [BitVec.toNat_ofNat, Nat.mod_eq_of_lt hlt, hacc, hm]
    exact ((Nat.mod_modEq _ q).add ((Nat.mod_modEq _ q).mul_right _))
  · have hdiv : w.acc.toNat / 2 ^ 32 < 2 ^ 640 := Nat.lt_of_le_of_lt (Nat.div_le_self ..) w.acc.isLt
    rw [Wmu.shift_eq]
    simp only [BitVec.toNat_ofNat, Nat.mod_eq_of_lt hdiv]
    exact residue_shift hq hinv hacc

/-- A pending WMU fault is taken at the next instruction outside a repeat, or after a repeat's last iteration (R384). -/
theorem settle_takes_wmuFault (s : State) (k : Nat) {c : Core} {len : Nat} {h : BitVec 25} (hpend : c.wmuPending = true)
    (hact : evAct c.ev = false) (hh : c.handler = some h) (hload : c.load = none)
    (hf : fetchable c (halfAdd c.pc len) = true) (hend : c.rep = none ∨ (c.rep.isSome = true ∧ c.repc.toNat % 4096 = 1)) :
    ∃ repc, settle s k c len none = s.setCore k { c with
      repc := repc, rep := none, wmuPending := false, ev := mkEv evWmuFault c.wmuRpt true c.wmuSlot (halfAdd c.pc len),
      pc := h, inLibrary := entered c (halfAdd c.pc len), resume := false, cycles := c.cycles + 3 } := by
  have htake (repc : W36) : takeEvent s k { c with
        repc := repc, rep := none, pc := halfAdd c.pc len,
        inLibrary := entered c (halfAdd c.pc len), wmuPending := false } evWmuFault c.wmuRpt c.wmuSlot (halfAdd c.pc len) =
      s.setCore k { c with
        repc := repc, rep := none, wmuPending := false, ev := mkEv evWmuFault c.wmuRpt true c.wmuSlot (halfAdd c.pc len), pc := h,
        inLibrary := entered c (halfAdd c.pc len), resume := false, cycles := c.cycles + 3 } :=
    takeEvent_enters hh hact hload
  obtain hrep | ⟨hrep, hlast⟩ := hend
  · refine ⟨c.repc, ?_⟩
    rw [← htake c.repc]
    simp only [settle, hrep, Option.getD_none, hf, Core.arrive_eq, hpend, hact]
    rfl
  · obtain ⟨r, hr⟩ := Option.isSome_iff_exists.1 hrep
    have hf' : fetchable { c with repc := BitVec.ofNat 36 0, rep := none } (halfAdd c.pc len) = true :=
      (fetchable_congr c _ _ rfl rfl rfl rfl).trans hf
    refine ⟨BitVec.ofNat 36 0, ?_⟩
    rw [← htake (BitVec.ofNat 36 0)]
    simp only [settle, hr, hlast, Nat.sub_self, if_true, hf']
    simp only [Core.arrive_eq, hpend, hact]
    rfl

/-- A readout on a mismatch: RFAULT is set and the fault is pending (R242). -/
theorem readoutDid_bad {w0 w : Wmu} {q : Nat} {d : Did} (h : w0.residueOk q = false) :
    readoutDid w0 w q d = .did { d with wmu := some { w with rfault := true }, wmuFault := true } :=
  if_neg (Bool.eq_false_iff.1 h)

/-- A readout on a mismatch enters the handler with WMU_FAULT: the core that it leaves (R242, R384). -/
theorem gives_of_readout {i : Instr} {s : State} {k : Nat} {f : Core → Act} {regs : List (Nat × W36)} {w : Wmu}
    {h : BitVec 25} (hex : exec i s = answer (runInsn s k 1 f))
    (hf : f (s.core k) = .did { regs := regs, wmu := some w, wmuFault := true }) (hlen : regs.length ≤ 1)
    (hpend : (s.core k).wmuPending = false) (hact : evAct (s.core k).ev = false) (hh : (s.core k).handler = some h)
    (hgo : Going s k (halfAdd (s.core k).pc 1) ∨ ((s.core k).cmd.isSome = true ∧ (s.core k).far = none ∧
      (s.core k).rep.isSome = true ∧ (s.core k).repc.toNat % 4096 = 1 ∧
      fetchable (s.core k) (halfAdd (s.core k).pc 1) = true)) :
    Gives i s fun t => Only [.cores] s t ∧ OnlyCore k s t ∧ (t.core k).wmu = w ∧ (t.core k).wmuSeen = true ∧
      (t.core k).pc = h ∧
      (t.core k).ev = mkEv 7 (s.core k).rep.isSome true (s.core k).load.isSome (halfAdd (s.core k).pc 1) ∧
      ∀ m, (t.core k).reg m = if m = 0 then 0 else (lookup regs m).getD (landed (s.core k) m) := by
  have hready : (s.core k).ready = true := by
    obtain ⟨hcmd, hfar, -⟩ | ⟨hcmd, hfar, -⟩ := hgo <;> simp [Core.ready, hcmd, hfar]
  have hfetch : fetchable (s.core k) (halfAdd (s.core k).pc 1) = true := by
    obtain ⟨-, -, -, -, hfetch⟩ | ⟨-, -, -, -, hfetch⟩ := hgo <;> exact hfetch
  have hend : (s.core k).rep = none ∨ ((s.core k).rep.isSome = true ∧ (s.core k).repc.toNat % 4096 = 1) := by
    obtain ⟨-, -, hrep, -⟩ | ⟨-, -, hrep, hlast, -⟩ := hgo
    · exact .inl hrep
    · exact .inr ⟨hrep, hlast⟩
  have hreg := fun m => Core.apply_reg (s.core k) { regs := regs, wmu := some w, wmuFault := true } m hlen
  have hap := (s.core k).apply_eq_of_no_stores (d := { regs := regs, wmu := some w, wmuFault := true }) rfl
  obtain ⟨repc, hset⟩ := settle_takes_wmuFault s k (len := 1) (h := h)
    (c := { (s.core k).apply { regs := regs, wmu := some w, wmuFault := true } with resume := false })
    (by rw [hap]; exact Bool.or_true _) (by rw [hap]; exact hact) (by rw [hap]; exact hh) (by rw [hap])
    (by rw [fetchable_apply, hap]; exact hfetch) (by rw [hap]; exact hend)
  have hrun : runInsn s k 1 f = _ :=
    (runInsn_of_ready hready rfl).trans ((congrArg (conclude s k 1) hf).trans hset)
  refine ⟨_, hex.trans (congrArg answer hrun), only_drivePins (keeps_setCore _ _ _), fun j hj => State.core_setCore_other _ _ _ _ hj, ?_⟩
  simp only [drivePins_core, State.core_setCore]
  refine ⟨?_, ?_, ?_, ?_, fun m => hreg m⟩
  · rw [hap]; rfl
  · rw [hap]; exact Bool.or_true _
  · exact trivial
  · rw [hap]
    simp only [hpend]
    rfl

theorem residueMismatchFaults : Claims.ResidueMismatchFaults := by
  intro s k d h c w one hpend hact hh hw hres faulted hgo
  have hbad : c.wmu.residueOk (checkPrime s) = false := beq_eq_false_iff_ne.2 hres
  have hout : c.wmu.limbOut (checkPrime s) = 0 := by simp [Wmu.limbOut, hbad]
  have hreadout {i : Instr} {f : Core → Act} {regs : List (Nat × W36)} {v : Wmu}
      (hex : exec i s = answer (runInsn s k.toNat 1 f))
      (hf : f c = readoutDid c.wmu v (checkPrime s) { regs := regs }) (hlen : regs.length ≤ 1) :=
    gives_of_readout hex (hf.trans (readoutDid_bad hbad)) hlen hpend hact hh hgo
  refine ⟨?peek, ?pop, ?pops⟩
  case peek =>
    obtain ⟨t, ht, honly, hother, hwmu, hseen, hpc, hev, hreg⟩ := hreadout (i := .wmuPeek k d) rfl
      (if_neg (Bool.eq_false_iff.1 hw)) (Nat.le_refl 1)
    refine ⟨t, ht, ⟨honly, hother, by rw [hwmu], hseen, hpc, hev⟩, ?_, by rw [hwmu]⟩
    rw [hreg, hout]
    simp [lookup, word32]
  case pop =>
    obtain ⟨t, ht, honly, hother, hwmu, hseen, hpc, hev, hreg⟩ := hreadout (i := .wmuPop k d) rfl
      (if_neg (Bool.eq_false_iff.1 hw)) (Nat.le_refl 1)
    refine ⟨t, ht, ⟨honly, hother, by rw [hwmu], hseen, hpc, hev⟩, ?_⟩
    rw [hreg, hout]
    simp [lookup, word32]
  case pops =>
    obtain ⟨t, ht, honly, hother, hwmu, hseen, hpc, hev, -⟩ := hreadout (i := .wmuPops k) (regs := []) rfl
      (if_neg (Bool.eq_false_iff.1 hw)) (Nat.zero_le 1)
    refine ⟨t, ht, ⟨honly, hother, by rw [hwmu], hseen, hpc, hev⟩, ?_, by rw [hwmu]; rfl⟩
    rw [hwmu, hout]
    show tget 0 (tset 0 c.wmu.opmem c.wmu.op.toNat (word32 0)) c.wmu.op.toNat = 0
    rw [tget_tset_same]
    rfl


theorem scrubHoldsTheWmu : Claims.ScrubHoldsTheWmu := by
  intro s k m1 a b d c one still hw
  refine ⟨fun hg => ⟨retires_of_scrub rfl hw hg, retires_of_scrub rfl hw hg, retires_of_scrub rfl hw hg, retires_of_scrub rfl hw hg,
    retires_of_scrub rfl hw hg, retires_of_scrub rfl hw hg, retires_of_scrub rfl hw hg, retires_of_write rfl (if_pos hw) hg,
    retires_of_write rfl (if_pos hw) hg⟩, ?_⟩
  intro ended
  show answer (if _ then _ else _) = _
  rw [if_neg (by rw [Bool.not_eq_true', hw]; decide)]

/-- Settles O8: residues by their congruences, a mismatch by the pending fault, the scrub by the unit's idle branch. -/
theorem residuesGuardTheWmu : Obligations.ResiduesGuardTheWmu :=
  ⟨residueFollowsAccumulator, residueMismatchFaults, scrubHoldsTheWmu⟩

end Sys2Proof.Machine
end

section
/-! Far accesses and far-moves: issue, answers and refusals (R365 to R369). -/

namespace Sys2Proof.Machine

/-! ### Issue (R365 to R368) -/

/-- An instruction that issues a far access stalls its core until the answer. -/
theorem runInsn_issues {s : State} {k n : Nat} {f : Core → Act} {op : FarOp} (h : (s.core k).ready = true)
    (hsp : (s.core k).fetched n = true) (hf : f (s.core k) = .did { far := some op }) :
    runInsn s k n f = s.setCore k { s.core k with far := some op, resume := false, cycles := (s.core k).cycles + 1 } := by
  rw [runInsn_of_ready h hsp, hf]
  rfl

theorem exec_fld_issues {s : State} {k : CoreId} {seg : BitVec 3} {d a : BitVec 5} {off : BitVec 10} {x : Nat}
    (h : (s.core k.toNat).ready = true) (hsp : (s.core k.toNat).spans = true)
    (hx : farAddr (s.core k.toNat) seg.toNat ((s.core k.toNat).reg a.toNat + off.signExtend 36) = some x) (hx4 : x % 4 = 0) :
    exec (.fld k seg d a off) s = answer (emit (s.setCore k.toNat
      { s.core k.toNat with far := some (.load d.toNat x), resume := false, cycles := (s.core k.toNat).cycles + 1 })
      (.far k.toNat x false [])) := by
  show execFld k seg d a off s = _
  simp only [execFld, hx, if_neg (not_not.2 hx4), h, hsp, Bool.and_self, if_true]
  rw [runInsn_issues h (n := 2) hsp rfl]

theorem exec_fst_issues {s : State} {k : CoreId} {seg : BitVec 3} {d a : BitVec 5} {off : BitVec 10} {x : Nat}
    (h : (s.core k.toNat).ready = true) (hsp : (s.core k.toNat).spans = true)
    (hx : farAddr (s.core k.toNat) seg.toNat ((s.core k.toNat).reg a.toNat + off.signExtend 36) = some x) (hx4 : x % 4 = 0)
    (hg : guardBits ((s.core k.toNat).reg d.toNat) = 0) :
    exec (.fst k seg d a off) s = answer (emit (s.setCore k.toNat
      { s.core k.toNat with far := some (.store x (low32 ((s.core k.toNat).reg d.toNat))), resume := false,
                            cycles := (s.core k.toNat).cycles + 1 })
      (.far k.toNat x true (le 4 (((s.core k.toNat).reg d.toNat).toNat % 2 ^ 32)))) := by
  show execFst k seg d a off s = _
  simp only [execFst, hx, if_neg (not_not.2 hx4), if_neg (not_not.2 hg), h, hsp, Bool.and_self, if_true]
  rw [runInsn_issues h (n := 2) hsp rfl, low32_toNat]

theorem keeps_emit (s : State) (m : Emit) : Keeps [.outbox] s (emit s m) := by
  intro p hp
  cases p
  case outbox => simp at hp
  all_goals rfl

theorem keeps_setCore_emit (s : State) (k : Nat) (c : Core) (m : Emit) :
    Keeps [.cores, .outbox] s (emit (s.setCore k c) m) :=
  (keeps_setCore s k c).comp (keeps_emit _ m)

/-- A far-move that passes its checks issues its first piece (R367, R368). -/
theorem startMove_issues {s : State} {k seg d a b x : Nat} {read : Bool} (h : (s.core k).ready = true)
    (hsp : (s.core k).spans = true) (hx : farAddr (s.core k) seg ((s.core k).reg a) = some x)
    (hlen : ¬ (x % 4 ≠ 0 ∨ ((s.core k).reg b).toNat % 4 ≠ 0 ∨ ((s.core k).reg b).toNat < 4 ∨ ((s.core k).reg b).toNat > 65536))
    (hrange : moveRange read (near24 ((s.core k).reg d)) (((s.core k).reg b).toNat / 4) = true) :
    startMove s k read seg d a b =
      issuePiece (s.setCore k { s.core k with cycles := (s.core k).cycles + 1 }) k read b (near24 ((s.core k).reg d)) x
        ((s.core k).reg b).toNat 0 := by
  rw [startMove_of_ready h hsp, hx]
  simp only [if_neg hlen, hrange]
  rfl

theorem issuePiece_read (s : State) (k b near far total done : Nat) :
    issuePiece s k true b near far total done =
      emit (s.setCore k { s.core k with far := some (.move true b near far total done) }) (.far k (far + done) false []) := rfl

theorem issuePiece_write {s : State} {k b near far total done : Nat} {o : Octets}
    (h : nearOctets s (s.core k) (near + done / 4) (pieceLen (far + done) (total - done) / 4) = some o) :
    issuePiece s k false b near far total done =
      emit (s.setCore k { s.core k with far := some (.move false b near far total done) }) (.far k (far + done) true o) := by
  simp only [issuePiece, Bool.false_eq_true, if_false, h]

/-- A NEAR word depends on the core and on the loaded image alone. -/
theorem nearOctets_congr {s t : State} (h : t.boot = s.boot) (c : Core) (a n : Nat) : nearOctets t c a n = nearOctets s c a n := by
  have hload (a : Nat) : nearLoad t c a = nearLoad s c a := by
    simp only [nearLoad, iword, sharedWord, h]
  induction n generalizing a with
  | zero => rfl
  | succ n ih => simp only [nearOctets, hload, ih]

theorem onlyCore_setCore (s : State) (k : Nat) (c : Core) : OnlyCore k s (s.setCore k c) :=
  fun j hj => State.core_setCore_other s k j c hj

theorem onlyCore_setCore_setCore (s : State) (k : Nat) (c d : Core) : OnlyCore k s ((s.setCore k c).setCore k d) :=
  fun j hj => (onlyCore_setCore _ k d j hj).trans (onlyCore_setCore s k c j hj)

theorem farAccessesIssue : Claims.FarAccessesIssue := by
  intro s k seg d a b off x o c n near issued hready hsp
  refine ⟨fun hx hx4 => ⟨exec_fld_issues hready hsp hx hx4, fun hg => exec_fst_issues hready hsp hx hx4 hg⟩, fun hx hx4 hn4 hn hn' => ?move⟩
  case move =>
    intro len
    have hlen : ¬ (x % 4 ≠ 0 ∨ n % 4 ≠ 0 ∨ n < 4 ∨ n > 65536) := by omega
    refine ⟨fun hr => ⟨_, congrArg answer (startMove_issues hready hsp hx hlen hr), ?read⟩,
      fun hr ho => ⟨_, congrArg answer (startMove_issues hready hsp hx hlen hr), ?write⟩⟩
    case read =>
      rw [issuePiece_read]
      refine ⟨only_drivePins ((keeps_setCore s _ _).comp (keeps_setCore_emit _ _ _ _)),
        onlyCore_setCore_setCore _ _ _ _, rfl, ?_⟩
      show (State.setCore _ _ _).core _ = _
      rw [State.core_setCore, State.core_setCore]
      rfl
    case write =>
      rw [issuePiece_write (o := o)]
      · refine ⟨only_drivePins ((keeps_setCore s _ _).comp (keeps_setCore_emit _ _ _ _)),
          onlyCore_setCore_setCore _ _ _ _, rfl, ?_⟩
        show (State.setCore _ _ _).core _ = _
        rw [State.core_setCore, State.core_setCore]
        rfl
      · simp only [State.core_setCore, Nat.zero_div, Nat.add_zero, Nat.sub_zero]
        exact (nearOctets_congr (s := s) (t := s.setCore k.toNat { c with cycles := c.cycles + 1 }) rfl _ _ _).trans ho

/-! ### Refusals and answers (R366 to R369, R422) -/

/-- An answer counts at the gate of its request alone (R422). -/
theorem keeps_answered (s : State) (k a : Nat) : Keeps [.gates] s (answered s k a) := by
  have hdown (g m : Nat) (tag : BitVec 8) : Keeps [.gates] s (countDown s g m tag) := by
    unfold countDown
    split
    · exact Keeps.refl _ _
    · intro p hp
      cases p
      case gates => simp at hp
      all_goals rfl
  unfold answered
  split
  · exact hdown _ _ _
  · exact Keeps.refl _ _

/-- The module when core k's access at address a has been answered: the gate has counted it, the core waits no more. -/
def freed (s : State) (k a : Nat) : State := (answered s k a).setCore k { s.core k with far := none }

theorem freed_core (s : State) (k a : Nat) : (freed s k a).core k = { s.core k with far := none } := State.core_setCore ..

theorem keeps_freed (s : State) (k a : Nat) : Keeps [.cores, .gates] s (freed s k a) :=
  (keeps_answered s k a).comp (keeps_setCore _ _ _)

theorem onlyCore_freed (s : State) (k a : Nat) : OnlyCore k s (freed s k a) :=
  fun j hj => (onlyCore_setCore _ k _ j hj).trans (State.core_congr (keeps_answered s k a .cores (by decide)) j)

section
variable {s : State} {k : CoreId} {d x b near far total done : Nat} {v : BitVec 32} {read : Bool} {o : Octets} {ff : BitVec 3}

theorem exec_farAnswer_load (hcmd : (s.core k.toNat).cmd.isSome = true) (hfar : (s.core k.toNat).far = some (.load d x)) :
    exec (.farAnswer k (.ok o)) s = answer (conclude (freed s k.toNat x) k.toNat 2
      (.did { regs := [(d, BitVec.ofNat 36 (leNat (farData (answered s k.toNat x) x 4 o)))], clocks := 0 })) := by
  obtain ⟨e, he⟩ := Option.isSome_iff_exists.1 hcmd
  show execFarAnswer k (.ok o) s = _
  simp only [execFarAnswer, freed, he, hfar]
  rfl

theorem exec_farAnswer_store (hcmd : (s.core k.toNat).cmd.isSome = true)
    (hfar : (s.core k.toNat).far = some (.store x v)) :
    exec (.farAnswer k (.ok o)) s =
      answer (conclude (farWrite (freed s k.toNat x) k.toNat x (le 4 v.toNat)) k.toNat 2 (.did { clocks := 0 })) := by
  obtain ⟨e, he⟩ := Option.isSome_iff_exists.1 hcmd
  show execFarAnswer k (.ok o) s = _
  simp only [execFarAnswer, freed, he, hfar]
  rfl

theorem exec_farAnswer_refused (hcmd : (s.core k.toNat).cmd.isSome = true)
    (hfar : (s.core k.toNat).far = some (.load d x) ∨ (s.core k.toNat).far = some (.store x v)) :
    exec (.farAnswer k (.refused ff)) s = answer (conclude (freed s k.toNat x) k.toNat 2
      (.handled evFarFault true { st := some (withFF (s.core k.toNat).st ff.toNat), clocks := 0 })) := by
  obtain ⟨e, he⟩ := Option.isSome_iff_exists.1 hcmd
  show execFarAnswer k (.refused ff) s = _
  obtain hfar | hfar := hfar
  · simp only [execFarAnswer, freed, he, hfar]
    rfl
  · simp only [execFarAnswer, freed, he, hfar]
    rfl

theorem exec_farAnswer_moveRefused (hcmd : (s.core k.toNat).cmd.isSome = true)
    (hfar : (s.core k.toNat).far = some (.move read b near far total done)) :
    exec (.farAnswer k (.refused ff)) s = answer (conclude (freed s k.toNat (far + done)) k.toNat 2
      (.handled evFarFault true { st := some (withFF (s.core k.toNat).st ff.toNat), regs := [(b, BitVec.ofNat 36 done)],
                                  clocks := 0 })) := by
  obtain ⟨e, he⟩ := Option.isSome_iff_exists.1 hcmd
  show execFarAnswer k (.refused ff) s = _
  simp only [execFarAnswer, freed, he, hfar]
  rfl

end

theorem refusedAccesses : Claims.RefusedAccesses := by
  intro s k ff h c hcmd hrep hact hh faulted
  have htake {i : Instr} {a : Nat} {regs : List (Nat × W36)} (hlen : regs.length ≤ 1)
      (hex : exec i s = answer (conclude (freed s k.toNat a) k.toNat 2
        (.handled evFarFault true { regs := regs, st := some (withFF c.st ff.toNat), clocks := 0 }))) :
      Gives i s fun t => faulted t ∧ ∀ m, (t.core k.toNat).reg m = if m = 0 then 0 else (lookup regs m).getD (landed c m) := by
    have hcore := freed_core s k.toNat a
    have hepc : halfAdd c.pc 2 = match ((freed s k.toNat a).core k.toNat).rep with
        | none => if true then halfAdd ((freed s k.toNat a).core k.toNat).pc 2 else ((freed s k.toNat a).core k.toNat).pc
        | some r => if r.interruptible then r.prefixPc else halfAdd ((freed s k.toNat a).core k.toNat).pc 2 := by
      rw [hcore]
      simp only [show (s.core k.toNat).rep = none from hrep]
      rfl
    obtain ⟨t, ht, hdrive, hreg, hd⟩ := takesEvent_of_conclude hex hlen hepc h (by rw [hcore]; exact hh) (by rw [hcore]; exact hact)
    rw [hcore] at hd
    have hrep' : (s.core k.toNat).rep = none := hrep
    refine ⟨t, ht, ⟨?_, fun j hj => ?_, by rw [hd], by rw [hd], by rw [hd]; rfl, by rw [hd]; simp only [hrep']; rfl⟩, fun m => ?_⟩
    · rw [hdrive]
      exact only_drivePins ((keeps_freed s _ a).comp (keeps_setCore _ _ _))
    · rw [hdrive]
      exact (onlyCore_setCore _ _ _ j hj).trans (onlyCore_freed s _ a j hj)
    · rw [hreg m, hcore]
      rfl
  refine ⟨fun d x hfar => htake (regs := []) (Nat.zero_le 1) (exec_farAnswer_refused (d := d) (v := 0) hcmd (.inl hfar)),
    fun x v hfar => htake (regs := []) (Nat.zero_le 1) (exec_farAnswer_refused (d := 0) hcmd (.inr hfar)),
    fun rd b near far total done hfar hb => ?_⟩
  obtain ⟨t, ht, hf, hreg⟩ := htake (regs := [(b, BitVec.ofNat 36 done)]) (Nat.le_refl 1) (exec_farAnswer_moveRefused hcmd hfar)
  exact ⟨t, ht, hf, by rw [hreg b, if_neg hb]; simp [lookup]⟩

/-- An answered access completes: registers are written, the pending load lands, and the core goes on (R366, R378). -/
theorem conclude_writes {b : State} {k n : Nat} {regs : List (Nat × W36)} (hlen : regs.length ≤ 1)
    (hfar : (b.core k).far = none) (hrep : (b.core k).rep = none)
    (hwmu : (b.core k).wmuPending = true → evAct (b.core k).ev = true)
    (hfetch : fetchable (b.core k) (halfAdd (b.core k).pc n) = true) :
    ∃ d : Core, conclude b k n (.did { regs := regs, clocks := 0 }) = b.setCore k d ∧
      (∀ m, d.reg m = if m = 0 then 0 else (lookup regs m).getD (landed (b.core k) m)) ∧
      d = { b.core k with regs := d.regs, load := none, pc := halfAdd (b.core k).pc n, resume := false,
                          inLibrary := entered (b.core k) (halfAdd (b.core k).pc n) } := by
  generalize hc : b.core k = c at *
  have hap := c.apply_eq_of_no_stores (d := { regs := regs, clocks := 0 }) rfl
  refine ⟨{ c.apply { regs := regs, clocks := 0 } with
    resume := false, pc := halfAdd c.pc n, inLibrary := entered c (halfAdd c.pc n) }, ?_,
    fun m => Core.apply_reg c { regs := regs, clocks := 0 } m hlen, ?_⟩
  · simp only [conclude, hc]
    rw [settle_plain _ _ _ _ _ (by rw [hap]; exact hrep) (by rw [hap]; simpa using hwmu)
      (by rw [fetchable_apply, hap]; exact hfetch), Core.arrive_eq, hap]
    rfl
  · rw [hap]
    simp [hfar]

/-- What a completed access leaves of its core. -/
theorem conclude_writes_freed {s b : State} {k : Nat} {c : Core} {regs : List (Nat × W36)} (hcore : b.core k = { c with far := none })
    (hlen : regs.length ≤ 1) (hrep : c.rep = none) (hwmu : c.wmuPending = true → evAct c.ev = true)
    (hfetch : fetchable c (halfAdd c.pc 2) = true) (hother : OnlyCore k s b) :
    ∃ d : Core, conclude b k 2 (.did { regs := regs, clocks := 0 }) = b.setCore k d ∧ OnlyCore k s (b.setCore k d) ∧
      (∀ m, d.reg m = if m = 0 then 0 else (lookup regs m).getD (landed c m)) ∧ d.far = none ∧ d.pc = halfAdd c.pc 2 ∧
      d.st = c.st ∧ d.ev = c.ev ∧ d.wmu = c.wmu ∧ d.dsram = c.dsram := by
  obtain ⟨d, hd, hreg, heq⟩ := conclude_writes (b := b) (k := k) (n := 2) hlen (by rw [hcore]) (by rw [hcore]; exact hrep)
    (by rw [hcore]; exact hwmu) (by rw [hcore]; exact (fetchable_congr c _ _ rfl rfl rfl rfl).trans hfetch)
  rw [hcore] at hreg heq
  exact ⟨d, hd, fun j hj => (onlyCore_setCore b k d j hj).trans (hother j hj), hreg, by rw [heq], by rw [heq], by rw [heq],
    by rw [heq], by rw [heq], by rw [heq]⟩

theorem State.setCmd_so_congr {s t : State} (h : t.so = s.so) (e : Nat) (c : Cmd) : (t.setCmd e c).so = (s.setCmd e c).so := by
  simp only [State.setCmd, h]

theorem farData_eq {s t : State} (h : t.wmem = s.wmem) (x n : Nat) (o : Octets) :
    farData t x n o = if x < 0x80000000 then wmemRead s x n else fit n o := by
  simp only [farData, inWorkMem, wmemRead, h, decide_eq_true_eq]

theorem farWrite_inWorkMem {s : State} {k x : Nat} {o : Octets} (h : x < 0x80000000) :
    farWrite s k x o = { s with wmem := wmemWrite s.wmem x o } := if_pos (decide_eq_true h)

@[simp] theorem le_length (n v : Nat) : (le n v).length = n := by
  induction n generalizing v with
  | zero => rfl
  | succ n ih => simp [le, ih]

/-- Octet i of a little-endian number (R4). -/
theorem le_getElem? {n i : Nat} (v : Nat) (h : i < n) : (le n v)[i]? = some (BitVec.ofNat 8 (v / 2 ^ (8 * i))) := by
  induction n generalizing v i with
  | zero => omega
  | succ n ih =>
    cases i with
    | zero => simp [le]
    | succ i =>
      rw [le, List.getElem?_cons_succ, ih _ (by omega), Nat.div_div_eq_div_mul, show 8 * (i + 1) = 8 + 8 * i by omega, pow_add]
      rfl

/-- A far write to working memory writes it and nothing else. -/
theorem keeps_farWrite_inWorkMem {s : State} {k x : Nat} {o : Octets} (h : x < 0x80000000) :
    Keeps [.wmem] s (farWrite s k x o) := by
  rw [farWrite_inWorkMem h]
  intro p hp
  cases p
  case wmem => simp at hp
  all_goals rfl

theorem farAnswersRetire : Claims.FarAnswersRetire := by
  intro s k o x d e v cm c two data on hcmd hrep hwmu hfetch
  have hfreed := onlyCore_freed s k.toNat x
  refine ⟨fun hfar => ?load, fun hfar hx => ?store, fun hfar hrun => ?output⟩
  case load =>
    obtain ⟨d', hd, hother, hreg, hon⟩ := conclude_writes_freed (regs := [(d, BitVec.ofNat 36 (leNat data))])
      (freed_core s k.toNat x) (Nat.le_refl 1) hrep hwmu hfetch hfreed
    refine ⟨_, (exec_farAnswer_load hcmd hfar).trans (congrArg answer ?_),
      only_drivePins ((keeps_freed s _ x).comp (keeps_setCore _ _ d')), ⟨hother, ?_⟩, fun m => ?_⟩
    · rw [farData_eq (s := s) (keeps_answered s k.toNat x .wmem (by decide))]
      exact hd
    · simpa only [drivePins_core, State.core_setCore] using hon
    · simp only [drivePins_core, State.core_setCore, hreg, lookup]
      split
      · rfl
      · split <;> rfl
  case store =>
    have hw := keeps_farWrite_inWorkMem (s := freed s k.toNat x) (k := k.toNat) (o := le 4 v.toNat) hx
    obtain ⟨d', hd, hother, hreg, hon⟩ := conclude_writes_freed (regs := [])
      ((State.core_congr (hw .cores (by decide)) _).trans (freed_core s k.toNat x)) (Nat.zero_le 1) hrep hwmu hfetch
      (fun j hj => (State.core_congr (hw .cores (by decide)) j).trans (hfreed j hj))
    refine ⟨_, (exec_farAnswer_store hcmd hfar).trans (congrArg answer hd),
      only_drivePins (((keeps_freed s _ x).comp hw (rs := [.cores, .gates, .wmem])).comp (keeps_setCore _ _ d')),
      ⟨hother, ?_⟩, fun m => ?_, fun y => ?_⟩
    · simpa only [drivePins_core, State.core_setCore] using hon
    · simp only [drivePins_core, State.core_setCore, hreg, lookup, Option.getD_none]
      rfl
    · rw [farWrite_inWorkMem hx]
      show tget 0 (wmemWrite (freed s k.toNat x).wmem x (le 4 v.toNat)) y = _
      rw [tget_wmemWrite, keeps_freed s k.toNat x .wmem (by decide), le_length]
      split
      next hy => rw [le_getElem? _ (by omega)]; rfl
      next => rfl
  case output =>
    intro base hlo hhi
    obtain ⟨hce, he⟩ := running_eq_some.1 hrun
    have hso := keeps_freed s k.toNat x .so (by decide)
    have hrun' : running (freed s k.toNat x) k.toNat = some (e, cm) :=
      running_eq_some.2 ⟨by rw [freed_core]; exact hce, (State.cmd_congr hso e).trans he⟩
    have hb : ¬ x < 0x80000000 := by
      have : base = (1 + c.ctxPort) * 2 ^ 36 + hsOut k.toNat cm := rfl
      omega
    have hwrite : farWrite (freed s k.toNat x) k.toNat x (le 4 v.toNat) =
        (freed s k.toNat x).setCmd e { cm with output := writeAt cm.output (x - base) (le 4 v.toNat) } := by
      have hport : ((freed s k.toNat x).core k.toNat).ctxPort = c.ctxPort := by rw [freed_core]; rfl
      simp only [farWrite, inWorkMem, decide_eq_true_eq, if_neg hb, hrun', hport, le_length]
      exact if_pos ⟨hlo, hhi⟩
    obtain ⟨d', hd, hother, hreg, hon⟩ := conclude_writes_freed (regs := [])
      (b := (freed s k.toNat x).setCmd e { cm with output := writeAt cm.output (x - base) (le 4 v.toNat) })
      (freed_core s k.toNat x) (Nat.zero_le 1) hrep hwmu hfetch hfreed
    refine ⟨_, (exec_farAnswer_store hcmd hfar).trans (congrArg answer (by rw [hwrite]; exact hd)),
      only_drivePins (((keeps_freed s _ x).comp (keeps_setCmd _ e _) (rs := [.cores, .gates, .so])).comp
        (keeps_setCore _ _ d')), ⟨hother, ?_⟩, State.setCmd_so_congr hso _ _⟩
    simpa only [drivePins_core, State.core_setCore] using hon

/-! ### Pieces of a far-move (R367, R368) -/

theorem landOctets_eq (c : Core) (a : Nat) (o : Octets) (n : Nat) :
    landOctets c a o n = { c with
      dsram := (landOctets c a o n).dsram, dirty := (landOctets c a o n).dirty,
      wmu := { c.wmu with opmem := (landOctets c a o n).wmu.opmem, used := (landOctets c a o n).wmu.used } } := by
  induction n generalizing c a o with
  | zero => rfl
  | succ n ih =>
    rw [landOctets, ih, Core.nearStore_eq]

theorem nearStorable_iff (a : Nat) :
    nearStorable a = true ↔ (∃ i, nearArea a = .dsram i) ∨ ∃ i, nearArea a = .opmem i := by
  unfold nearStorable
  split <;> simp_all

@[simp] theorem Core.nearStore_scrubbing (c : Core) (a : Nat) (v : W36) :
    (c.nearStore a v).wmu.scrubbing = c.wmu.scrubbing := by rw [Core.nearStore_eq]

/-- A NEAR word that a store reaches reads as stored, every other one as before, outside a scrub. -/
theorem nearLoad_nearStore (s : State) {c : Core} {a b : Nat} (v : W36) (hw : c.wmu.scrubbing = false)
    (hb : nearStorable b = true) : nearLoad s (c.nearStore a v) b = if b = a then some v else nearLoad s c b := by
  obtain ⟨i, hi⟩ | ⟨i, hi⟩ := (nearStorable_iff b).1 hb
  · have hab : nearArea a = .dsram i ↔ b = a := by
      rw [nearArea_dsram] at hi ⊢
      omega
    simp only [nearLoad, hi, Core.nearStore_dsram, hab]
    split <;> rfl
  · have hab : nearArea a = .opmem i ↔ b = a := by
      rw [nearArea_opmem] at hi ⊢
      omega
    simp only [nearLoad, hi, Core.nearStore_opmem, Core.nearStore_scrubbing, hw, hab, Bool.false_eq_true, if_false]
    split <;> rfl

/-- The words of a piece read as its octets give, every other one as before. -/
theorem landOctets_reads (s : State) {c : Core} {a n : Nat} (o : Octets) (hw : c.wmu.scrubbing = false) {b : Nat}
    (hb : nearStorable b = true) :
    nearLoad s (landOctets c a o n) b =
      if a ≤ b ∧ b < a + n then some (BitVec.ofNat 36 (leNat ((o.drop (4 * (b - a))).take 4))) else nearLoad s c b := by
  induction n generalizing c a o with
  | zero => rw [landOctets, if_neg (by omega)]
  | succ n ih =>
    rw [landOctets, ih _ (by simpa using hw), nearLoad_nearStore s _ hw hb]
    by_cases hlater : a + 1 ≤ b ∧ b < a + 1 + n
    · rw [if_pos hlater, if_pos (by omega), List.drop_drop, show 4 + 4 * (b - (a + 1)) = 4 * (b - a) by omega]
    · rw [if_neg hlater]
      by_cases hfirst : b = a
      · rw [if_pos hfirst, if_pos (by omega), hfirst, Nat.sub_self, Nat.mul_zero, List.drop_zero]
      · rw [if_neg hfirst, if_neg (by omega)]

/-- The words of an admitted destination are words that a store reaches (R367). -/
theorem nearStorable_of_moveRange {near words j : Nat} (h : moveRange true near words = true) (hj : j < words) :
    nearStorable (near + j) = true := by
  simp only [moveRange, Bool.not_true, Bool.false_and, Bool.or_false, Bool.or_eq_true, Bool.and_eq_true,
    decide_eq_true_eq] at h
  rw [nearStorable_iff]
  obtain h | h := h
  · exact .inl ⟨near + j - 0x10000, (nearArea_dsram _ _).2 (by omega)⟩
  · exact .inr ⟨near + j - 0x200000, (nearArea_opmem _ _).2 (by omega)⟩

theorem nearOctets_length {s : State} {c : Core} {a n : Nat} {o : Octets} (h : nearOctets s c a n = some o) :
    o.length = 4 * n := by
  induction n generalizing a o with
  | zero =>
    rw [nearOctets, Option.some.injEq] at h
    rw [← h]
    rfl
  | succ n ih =>
    simp only [nearOctets] at h
    split at h
    · cases h
    · split at h
      · cases h
      · obtain ⟨o', ho', rfl⟩ := Option.map_eq_some_iff.1 h
        rw [List.length_append, le_length, ih ho']
        omega

section
variable {s : State} {k : CoreId} {b near far total done : Nat} {o w : Octets}

/-- An accepted piece moves its octets; then the move ends, or its next piece is issued. -/
theorem exec_farAnswer_piece {read : Bool} (hcmd : (s.core k.toNat).cmd.isSome = true)
    (hfar : (s.core k.toNat).far = some (.move read b near far total done)) :
    exec (.farAnswer k (.ok o)) s = answer (
      let n := pieceLen (far + done) (total - done)
      let f := freed s k.toNat (far + done)
      let t :=
        if read then
          f.setCore k.toNat (landOctets (f.core k.toNat) (near + done / 4)
            (farData (answered s k.toNat (far + done)) (far + done) n o) (n / 4))
        else farWrite f k.toNat (far + done)
          ((nearOctets (answered s k.toNat (far + done)) (s.core k.toNat) (near + done / 4) (n / 4)).getD [])
      if done + n ≥ total then conclude t k.toNat 2 (.did { regs := [(b, BitVec.ofNat 36 total)], clocks := 0 })
      else issuePiece t k.toNat read b near far total (done + n)) := by
  obtain ⟨e, he⟩ := Option.isSome_iff_exists.1 hcmd
  show execFarAnswer k (.ok o) s = _
  simp only [execFarAnswer, freed, he, hfar]
  rfl

end

/-- The core of a move whose piece has landed in NEAR memory. -/
def landedCore (s : State) (k near far done n : Nat) (data : Octets) : Core :=
  landOctets ((freed s k (far + done)).core k) (near + done / 4) data (n / 4)

theorem landedCore_eq (s : State) (k near far done n : Nat) (data : Octets) :
    landedCore s k near far done n data = { s.core k with
      far := none, dsram := (landedCore s k near far done n data).dsram,
      dirty := (landedCore s k near far done n data).dirty,
      wmu := { (s.core k).wmu with opmem := (landedCore s k near far done n data).wmu.opmem,
                                   used := (landedCore s k near far done n data).wmu.used } } := by
  unfold landedCore
  conv_lhs => rw [landOctets_eq]
  rw [freed_core]

/-- A word of D-SRAM or operand memory depends on these memories alone. -/
theorem nearLoad_congr {s t : State} {c d : Core} {a : Nat} (ha : nearStorable a = true) (hd : d.dsram = c.dsram)
    (hw : d.wmu = c.wmu) : nearLoad t d a = nearLoad s c a := by
  obtain ⟨i, hi⟩ | ⟨i, hi⟩ := (nearStorable_iff a).1 ha <;> simp only [nearLoad, hi, hd, hw]

theorem farMovePieces : Claims.FarMovePieces := by
  intro s k o w b near far total done c two n data hcmd hrep hwmu hfetch ht4 hd4 hn4 hle
  have hdata : farData (answered s k.toNat (far + done)) (far + done) n o = data :=
    farData_eq (keeps_answered s k.toNat (far + done) .wmem (by decide)) _ _ _
  refine ⟨fun hfar hx hend hw => ?write, fun hfar hw hrange => ?read⟩
  case write =>
    have hboot := keeps_answered s k.toNat (far + done) .boot (by decide)
    have hkeep := keeps_farWrite_inWorkMem (s := freed s k.toNat (far + done)) (k := k.toNat) (o := w) hx
    obtain ⟨d, hd, hother, hreg, hdfar, hdpc, -⟩ := conclude_writes_freed (regs := [(b, BitVec.ofNat 36 total)])
      ((State.core_congr (hkeep .cores (by decide)) _).trans (freed_core s k.toNat _)) (Nat.le_refl 1) hrep hwmu hfetch
      (fun j hj => (State.core_congr (hkeep .cores (by decide)) j).trans (onlyCore_freed s k.toNat _ j hj))
    have hex : exec (.farAnswer k (.ok o)) s = _ := exec_farAnswer_piece hcmd hfar
    have hsame : nearOctets (answered s k.toNat (far + done)) (s.core k.toNat) (near + done / 4) (n / 4) = some w :=
      (nearOctets_congr hboot _ _ _).trans hw
    refine ⟨drivePins ((farWrite (freed s k.toNat (far + done)) k.toNat (far + done) w).setCore k.toNat d),
      hex.trans (congrArg answer ?_), hother, only_drivePins
      (((keeps_freed s _ _).comp hkeep (rs := [.cores, .gates, .wmem])).comp (keeps_setCore _ _ d)), ?_⟩
    · show (if done + n ≥ total then _ else _) = _
      rw [if_pos (by omega), hsame]
      exact hd
    · simp only [drivePins_core, State.core_setCore]
      refine ⟨hdfar, hdpc, fun hb => by rw [hreg, if_neg hb]; simp [lookup], fun y => ?_⟩
      rw [farWrite_inWorkMem hx]
      show tget 0 (wmemWrite (freed s k.toNat (far + done)).wmem (far + done) w) y = _
      rw [tget_wmemWrite, keeps_freed s k.toNat _ .wmem (by decide), nearOctets_length hw, Nat.mul_div_cancel' (Nat.dvd_of_mod_eq_zero hn4)]
  case read =>
    have hland := landedCore_eq s k.toNat near far done n data
    have hex : exec (.farAnswer k (.ok o)) s = answer (
        if done + n ≥ total then
          conclude ((freed s k.toNat (far + done)).setCore k.toNat (landedCore s k.toNat near far done n data)) k.toNat 2
            (.did { regs := [(b, BitVec.ofNat 36 total)], clocks := 0 })
        else issuePiece ((freed s k.toNat (far + done)).setCore k.toNat (landedCore s k.toNat near far done n data)) k.toNat
          true b near far total (done + n)) := by
      rw [exec_farAnswer_piece hcmd hfar]
      show answer (if done + n ≥ total then _ else _) = _
      rw [hdata]
      rfl
    have hother : OnlyCore k.toNat s ((freed s k.toNat (far + done)).setCore k.toNat (landedCore s k.toNat near far done n data)) :=
      fun j hj => (onlyCore_setCore _ _ _ j hj).trans (onlyCore_freed s k.toNat _ j hj)
    have hkeep := (keeps_freed s k.toNat (far + done)).comp
      (keeps_setCore _ k.toNat (landedCore s k.toNat near far done n data)) (rs := [.cores, .gates])
    have hreads {t : State} {e : Core} (hd : e.dsram = (landedCore s k.toNat near far done n data).dsram)
        (hwm : e.wmu = (landedCore s k.toNat near far done n data).wmu) (j : Nat) (hj : j < n / 4) :
        nearLoad t e (near + done / 4 + j) = some (BitVec.ofNat 36 (leNat ((data.drop (4 * j)).take 4))) := by
      have hstore : nearStorable (near + done / 4 + j) = true := by
        rw [Nat.add_assoc]
        exact nearStorable_of_moveRange hrange (by omega)
      rw [nearLoad_congr (s := t) hstore hd hwm, landedCore, landOctets_reads t data (by rw [freed_core]; exact hw) hstore,
        if_pos (by omega), Nat.add_sub_cancel_left]
    by_cases hlast : done + n = total
    · obtain ⟨d, hd, hoth, hreg, hdfar, hdpc, -, -, hdw, hds⟩ := conclude_writes_freed (s := s)
        (b := (freed s k.toNat (far + done)).setCore k.toNat (landedCore s k.toNat near far done n data))
        (c := landedCore s k.toNat near far done n data) (regs := [(b, BitVec.ofNat 36 total)])
        (by rw [State.core_setCore, hland]) (Nat.le_refl 1) (by rw [hland]; exact hrep) (by rw [hland]; exact hwmu)
        (by rw [hland]; exact hfetch) hother
      rw [if_pos (by omega), hd] at hex
      refine ⟨_, hex, hoth, fun j hj => ?_, fun _ => ⟨only_drivePins (hkeep.comp (keeps_setCore _ _ d)), ?_⟩, fun h => by omega⟩
      · exact hreads (by rw [drivePins_core, State.core_setCore]; exact hds)
          (by rw [drivePins_core, State.core_setCore]; exact hdw) j hj
      · simp only [drivePins_core, State.core_setCore]
        refine ⟨hdfar, by rw [hdpc, hland], fun hb => ?_⟩
        rw [hreg, if_neg hb]
        simp [lookup]
    · rw [if_neg (by omega), issuePiece_read] at hex
      refine ⟨_, hex, fun j hj => ?_, fun j hj => ?_, fun h => absurd h hlast, fun _ => ⟨only_drivePins (hkeep.comp
        (keeps_setCore_emit _ _ _ _)), ?_⟩⟩
      · exact (onlyCore_setCore _ k.toNat _ j hj).trans (hother j hj)
      · refine hreads ?_ ?_ j hj
        · show (State.core (State.setCore _ _ _) _).dsram = _
          rw [State.core_setCore, State.core_setCore]
        · show (State.core (State.setCore _ _ _) _).wmu = _
          rw [State.core_setCore, State.core_setCore]
      · have hout := keeps_freed s k.toNat (far + done) .outbox (by decide)
        refine ⟨?_, ?_, ?_⟩
        · show (State.core (State.setCore _ _ _) _).far = _
          rw [State.core_setCore]
        · show (State.core (State.setCore _ _ _) _).pc = _
          rw [State.core_setCore, State.core_setCore, hland]
        · show _ :: (freed s k.toNat (far + done)).outbox = _
          rw [hout, Nat.add_assoc]

/-- Settles O10: issue, refusal and answer by the equation of each case; pieces by what lands in NEAR memory. -/
theorem farAccesses : Obligations.FarAccesses := ⟨farAccessesIssue, refusedAccesses, farAnswersRetire, farMovePieces⟩

end Sys2Proof.Machine
end

section
/-! DONE, the cycle limit and the clearing of D-SRAM (R244, R393, R395, R399). -/

namespace Sys2Proof.Machine

/-! ### The hand-over of a result that is neither franked, journalled nor committed (R95) -/

/-- A hand-over within the capacity: the command is done, and its output length stands. -/
theorem handOff_fits {s : State} {src e : Nat} {c : Cmd} (hc : s.cmd e = some c) (hf : wantsFrank c.d = false)
    (hj : c.journalled = false) (hs : c.stateChanging = false) (hcap : c.output.length ≤ c.d.outCap.toNat) :
    handOff s src e = s.setCmd e { c with
      list := none, eligible := false, served := true, outLen := if c.isPartial then c.outLen else c.output.length,
      stage := .done, effects := [] } := by
  simp only [handOff, hc, franks, hf, Bool.false_and, Bool.false_eq_true, if_false, if_neg (Nat.not_lt.2 hcap), commits, hs,
    journalService, hj, gt_iff_lt]

/-- A hand-over beyond the capacity: BAD_LENGTH, no output, and the required length (R95). -/
theorem handOff_exceeds {s : State} {src e : Nat} {c : Cmd} (hc : s.cmd e = some c) (hf : wantsFrank c.d = false)
    (hcap : c.d.outCap.toNat < c.output.length) :
    handOff s src e = s.setCmd e { c with
      list := none, eligible := false, served := true, status := badLength, output := [], outLen := c.output.length,
      effects := [], franked := false, stage := .done } := by
  simp only [handOff, hc, franks, hf, Bool.false_and, Bool.false_eq_true, if_false, gt_iff_lt, if_pos hcap]

/-! ### Residue faults at the end of a turn (R244) -/

theorem noteResidue_unseen {s : State} {k : Nat} (h : (s.core k).wmuSeen = false) : noteResidue s k = s := by
  simp [noteResidue, h]

theorem onlyCore_noteResidue (s : State) (k : Nat) : OnlyCore k s (noteResidue s k) := by
  unfold noteResidue
  dsimp only
  split
  · exact fun _ _ => rfl
  · exact fun j hj => (onlyCore_setCore _ k _ j hj).trans (State.core_congr (eventF_cores ..) j)

/-- A WMU that has seen a residue fault, or was used, is scrubbed at the end of the turn (R244, R245). -/
theorem noteResidue_used (s : State) (k : Nat) (h : (s.core k).wmuSeen = true ∨ (s.core k).wmu.used = true) :
    ((noteResidue s k).core k).wmu.used = true := by
  unfold noteResidue
  dsimp only
  split
  next hseen =>
    obtain h | h := h
    · rw [h] at hseen
      cases hseen
    · exact h
  next => rw [State.core_setCore]

theorem Core.ended_scrubbing {c : Core} (h : c.wmu.used = true) : c.ended.wmu.scrubbing = true := by
  simp only [Core.ended, h, if_true, Wmu.scrub]
  split
  next hs => exact hs
  next => rfl

/-- The result of a command that has seen a residue fault (R244). -/
def Cmd.faulted (c : Cmd) : Cmd := { c with status := invariantFailed, output := [], outLen := 0, effects := [] }

/-- DONE of a service whose result asks for no franking hands it over at the end of the turn. -/
theorem doneStandard_unfranked {s : State} {k e : Nat} {c : Cmd} {seen : Bool} (hf : wantsFrank c.d = false) :
    doneStandard s k e c seen = handOff (endTurn (s.setCmd e (if seen then c.faulted else c)) k) (srcCore k) e := by
  have hnonce : nonceWaits s k (if seen then c.faulted else c) = false := by
    cases seen <;> simp [nonceWaits, franks, Cmd.faulted, hf]
  show (if nonceWaits s k (if seen then c.faulted else c) then _ else _) = _
  rw [hnonce]
  rfl

theorem exec_doneInsn_standard {s : State} {k : CoreId} {a b : BitVec 4} {e : Nat} {c : Cmd}
    (hrun : running s k.toNat = some (e, c)) (hfar : (s.core k.toNat).far = none) (hwait : doneWaits s k.toNat = false)
    (hcustom : c.custom = false) (hserved : c.served = true) (hf : wantsFrank c.d = false) :
    exec (.doneInsn k a b) s = answer (handOff (endTurn ((noteResidue s k.toNat).setCmd e
      (if (s.core k.toNat).wmuSeen then c.faulted else c)) k.toNat) (srcCore k.toNat) e) := by
  show execDoneInsn k a b s = _
  simp only [execDoneInsn, hrun, hfar, hwait, hcustom, hserved, Option.isSome_none, Bool.not_true, Bool.and_false,
    Bool.or_false, Bool.false_eq_true, if_false, Bool.false_and, doneStandard_unfranked hf]

/-- The core after its turn, once the command is entered: the shape that R393 gives. -/
theorem ended_core {s b : State} {k : Nat} (hb : OnlyCore k s b) (e : Nat) (d : Cmd) :
    let t := drivePins ((endTurn b k).setCmd e d)
    (t.core k).cmd = none ∧ (∀ m, (t.core k).reg m = 0) ∧ (t.core k).st = 0 ∧ (t.core k).repc = 0 ∧ (t.core k).ev = 0 ∧
      OnlyCore k s t := by
  have ht (j : Nat) : (drivePins ((endTurn b k).setCmd e d)).core j = (endTurn b k).core j := rfl
  intro t
  rw [ht k, endTurn_core]
  obtain ⟨h1, h2, h3, h4, h5⟩ := (b.core k).ended_clear
  exact ⟨h1, h2, h3, h4, h5, fun j hj => (ht j).trans ((endTurn_core_other b hj).trans (hb j hj))⟩

theorem doneHandsOver : Claims.DoneHandsOver := by
  intro s k a b e c hrun hfar hwait hcustom hserved hf hj hs ended
  have hex := exec_doneInsn_standard (a := a) (b := b) hrun hfar hwait hcustom hserved hf
  have hcmd (t : State) (d : Cmd) : (endTurn (t.setCmd e d) k.toNat).cmd e = some d :=
    (State.cmd_congr (endTurn_so ..) e).trans (State.cmd_setCmd ..)
  have hkeep (d f : Cmd) : Keeps [.cores, .so, .arrays, .keys, .entropy] s ((endTurn (s.setCmd e d) k.toNat).setCmd e f) :=
    ((keeps_setCmd s e d).comp (keeps_endTurn _ _) (rs := [.cores, .so, .arrays, .keys, .entropy])).comp (keeps_setCmd _ e f)
  refine ⟨fun hseen hcap => ?fits, fun hseen hcap => ?exceeds, fun hseen _ => ?residue⟩
  case fits =>
    rw [noteResidue_unseen hseen, if_neg (Bool.eq_false_iff.1 hseen), handOff_fits (hcmd s c) hf hj hs hcap] at hex
    refine ⟨_, hex, only_drivePins (hkeep _ _), ended_core (b := s.setCmd e c) (fun _ _ => rfl) e _, ?_⟩
    refine (State.cmd_setCmd ..).trans (congrArg some ?_)
    rw [← hserved]
  case exceeds =>
    rw [noteResidue_unseen hseen, if_neg (Bool.eq_false_iff.1 hseen), handOff_exceeds (hcmd s c) hf hcap] at hex
    refine ⟨_, hex, only_drivePins (hkeep _ _), ended_core (b := s.setCmd e c) (fun _ _ => rfl) e _, ?_⟩
    exact ⟨_, State.cmd_setCmd .., rfl, rfl, rfl, rfl⟩
  case residue =>
    rw [if_pos hseen, handOff_fits (hcmd _ c.faulted) hf hj hs (Nat.zero_le _)] at hex
    have hnote := keeps_noteResidue s k.toNat
    have hused := noteResidue_used s k.toNat (.inl hseen)
    refine ⟨_, hex, ended_core (b := (noteResidue s k.toNat).setCmd e c.faulted) (onlyCore_noteResidue s k.toNat) e _,
      ?_, ?_, ?_, _, State.cmd_setCmd .., rfl, rfl, rfl⟩
    · simp only [drivePins_wmem, State.setCmd_wmem, endTurn_wmem, hnote.wmem]
    · simp only [drivePins_keys, State.setCmd_keys, endTurn_counters, hnote.keys]
    · rw [drivePins_core, State.core_setCmd, endTurn_core]
      exact Core.ended_scrubbing hused

/-- The core at its cycle limit: its WMU is scrubbed whatever USED says (R245, R399). -/
def limited (s : State) (k m : Nat) : State :=
  s.setCore k { s.core k with cycles := m, wmu := { (s.core k).wmu with used := true } }

/-- A terminal event frees its core alone, and scrubs a used WMU (R245, R385). -/
theorem programFaultAt_core {s : State} {k cause e : Nat} (he : (s.core k).cmd = some e)
    (hused : (s.core k).wmu.used = true) :
    ((programFaultAt s k cause).core k).cmd = none ∧ OnlyCore k s (programFaultAt s k cause) ∧
      ((programFaultAt s k cause).core k).wmu.scrubbing = true := by
  have hevent (c : Code) (u : Nat) (v : BitVec 32) (a j : Nat) : (eventF s c u v a).core j = s.core j :=
    State.core_congr (eventF_cores ..) j
  have hcore (j : Nat) : ∃ b, OnlyCore k s b ∧ (b.core k).wmu.used = true ∧
      (programFaultAt s k cause).core j = (endTurn b k).core j := by
    simp only [programFaultAt, he]
    exact ⟨_, fun i hi => (onlyCore_noteResidue _ k i hi).trans (hevent ..),
      noteResidue_used _ k (.inr (by rw [hevent]; exact hused)), completeWith_core rfl j⟩
  obtain ⟨b, -, hb, heq⟩ := hcore k
  refine ⟨by rw [heq, endTurn_core]; rfl, fun j hj => ?_, by rw [heq, endTurn_core]; exact Core.ended_scrubbing hb⟩
  obtain ⟨b, hother, -, heq⟩ := hcore j
  rw [heq, endTurn_core_other b hj, hother j hj]

theorem cycleLimitAndClearing : Claims.CycleLimitAndClearing := by
  intro s k m e c
  refine ⟨fun r hr hi => ?waits, fun hm hrun hr => ?ends, rfl⟩
  case waits =>
    show execCycleLimit k s = _
    unfold execCycleLimit
    dsimp only
    split
    · rfl
    · rw [if_pos (by simp [hr, hi])]
  case ends =>
    have hstop : ((s.core k.toNat).rep.any fun r => !r.interruptible) = false := by
      cases h : (s.core k.toNat).rep with
      | none => rfl
      | some r => simp [hr r h]
    have hex : exec (.cycleLimit k) s = answer (programFaultAt (limited s k.toNat m) k.toNat evCycleLimit) := by
      show execCycleLimit k s = _
      unfold execCycleLimit
      dsimp only
      split
      next hnone =>
        rw [hm] at hnone
        cases hnone
      next m' hm' =>
        obtain rfl : m = m' := Option.some.inj (hm.symm.trans hm')
        rw [if_neg (Bool.eq_false_iff.1 hstop)]
        rfl
    obtain ⟨hce, hcmd⟩ := running_eq_some.1 hrun
    have hother : OnlyCore k.toNat s (limited s k.toNat m) := onlyCore_setCore _ _ _
    have hcore : (limited s k.toNat m).core k.toNat = _ := State.core_setCore ..
    obtain ⟨hdcmd, hdother, hscrub⟩ := programFaultAt_core (s := limited s k.toNat m) (k := k.toNat) (e := e)
      (cause := evCycleLimit) (by rw [hcore]; exact hce) (by rw [hcore])
    obtain ⟨⟨c', hc', hst, hout, -, -, hstage, -⟩, -⟩ :=
      programFaultEndsCommand (limited s k.toNat m) k evCycleLimit e c (running_eq_some.2 ⟨by rw [hcore]; exact hce, hcmd⟩)
    exact ⟨_, hex, hdcmd, hscrub, keeps_programFaultAt _ _ _ .wmem (by decide),
      fun j hj => (hdother j hj).trans (hother j hj), c', hc', hst, hout, hstage⟩

/-- Settles O11: DONE by the hand-over it makes, the cycle limit by its terminal event. -/
theorem completionsHandOver : Obligations.CompletionsHandOver := ⟨doneHandsOver, cycleLimitAndClearing⟩

end Sys2Proof.Machine
end

section
/-! Jobs of the cipher and hash arrays: submission (R217 to R222). -/

namespace Sys2Proof.Machine

theorem keeps_setArrays (s : State) (f : Arrays → Arrays) : Keeps [.arrays] s (s.setArrays f) := by
  intro p hp
  cases p
  case arrays => simp at hp
  all_goals rfl

theorem keeps_setJobResult (s : State) (hash : Bool) (k tag : Nat) (r : JobResult) :
    Keeps [.arrays] s (setJobResult s hash k tag r) := keeps_setArrays s _

theorem keeps_setLaneKey (s : State) (k reg : Nat) (v : LaneKey) : Keeps [.arrays] s (setLaneKey s k reg v) :=
  keeps_setArrays s _

/-- A job that ends at once shows its status in its result area, and no job is queued. -/
theorem gives_setJobResult {i : Instr} {s : State} {k tag : Nat} {r : JobResult}
    (hex : exec i s = answer (setJobResult s false k tag r)) :
    Gives i s fun t => Only [.arrays] s t ∧ t.arrays.jobs = s.arrays.jobs ∧
      lookup t.arrays.results (4 * k + tag) = some r :=
  ⟨_, hex, only_drivePins (keeps_setJobResult s false k tag r), rfl, lookup_insertAt_same _ _ _⟩

theorem gives_setHashResult {i : Instr} {s : State} {k tag : Nat} {r : JobResult}
    (hex : exec i s = answer (setJobResult s true k tag r)) :
    Gives i s fun t => Only [.arrays] s t ∧ t.arrays.jobs = s.arrays.jobs ∧
      lookup t.arrays.hashResults (4 * k + tag) = some r :=
  ⟨_, hex, only_drivePins (keeps_setJobResult s true k tag r), rfl, lookup_insertAt_same _ _ _⟩

/-- What a cipher descriptor does: held, refused with 0x0001 or 0x0003, or queued (R217, R218). -/
theorem submitCipher_eq {s : State} {k mode : Nat} {j : CipherJob} (hcmd : (s.core k).cmd.isSome = true)
    (hfree : findJob s false k (j.ctl.toNat / 2 % 4) = none) :
    submitCipher s k mode j =
      if !(cipherFieldsOk mode j) then setJobResult s false k (j.ctl.toNat / 2 % 4) { status := 1 }
      else
        match laneKey s k j.key.toNat with
        | none => setJobResult s false k (j.ctl.toNat / 2 % 4) { status := 3 }
        | some key =>
          if !(laneAlgOk j.cipher.toNat key.alg) then setJobResult s false k (j.ctl.toNat / 2 % 4) { status := 3 }
          else s.setArrays (fun a => { a with jobs := a.jobs ++ [cipherEntry k mode j] }) := by
  obtain ⟨e, he⟩ := Option.isSome_iff_exists.1 hcmd
  simp only [submitCipher, he, hfree, Option.isNone_some, Option.isSome_none, Bool.or_self, Bool.false_eq_true, if_false]
  rfl

theorem submits {i : Instr} {s : State} {k mode : Nat} {j : CipherJob} {key : LaneKey}
    (hex : exec i s = answer (submitCipher s k mode j)) (hcmd : (s.core k).cmd.isSome = true)
    (hfree : findJob s false k (j.ctl.toNat / 2 % 4) = none) :
    (cipherFieldsOk mode j = true → laneKey s k j.key.toNat = some key → laneAlgOk j.cipher.toNat key.alg = true →
      Gives i s fun t => Only [.arrays] s t ∧
        t.arrays = { s.arrays with jobs := s.arrays.jobs ++ [cipherEntry k mode j] }) ∧
    (cipherFieldsOk mode j = false →
      Gives i s fun t => Only [.arrays] s t ∧ t.arrays.jobs = s.arrays.jobs ∧
        lookup t.arrays.results (4 * k + j.ctl.toNat / 2 % 4) = some { status := 1 }) ∧
    (cipherFieldsOk mode j = true →
      laneKey s k j.key.toNat = none ∨
        (laneKey s k j.key.toNat = some key ∧ laneAlgOk j.cipher.toNat key.alg = false) →
      Gives i s fun t => Only [.arrays] s t ∧ t.arrays.jobs = s.arrays.jobs ∧
        lookup t.arrays.results (4 * k + j.ctl.toNat / 2 % 4) = some { status := 3 }) := by
  rw [submitCipher_eq hcmd hfree] at hex
  refine ⟨fun hf hk ha => ?queued, fun hf => ?badField, fun hf hk => ?noKey⟩
  case queued =>
    rw [hf, hk] at hex
    simp only [ha, Bool.not_true, Bool.false_eq_true, if_false] at hex
    exact ⟨_, hex, only_drivePins (keeps_setArrays s _), rfl⟩
  case badField =>
    rw [hf] at hex
    exact gives_setJobResult hex
  case noKey =>
    rw [hf] at hex
    obtain hk | ⟨hk, ha⟩ := hk
    · rw [hk] at hex
      exact gives_setJobResult hex
    · rw [hk] at hex
      simp only [ha, Bool.not_true, Bool.false_eq_true, if_false, Bool.not_false, if_true] at hex
      exact gives_setJobResult hex

theorem cipherJobsSubmit : Claims.CipherJobsSubmit := by
  intro s k j key tag each hcmd hfree
  exact ⟨submits rfl hcmd hfree, submits rfl hcmd hfree, submits rfl hcmd hfree, submits rfl hcmd hfree,
    submits rfl hcmd hfree, submits rfl hcmd hfree⟩

theorem hashJobsSubmit : Claims.HashJobsSubmit := by
  intro s k j tag ends resume unkeyed hcmd hfree
  obtain ⟨e, he⟩ := Option.isSome_iff_exists.1 hcmd
  have hex : exec (.hashJob k j) s = answer (
      if !(hashFieldsOk j) then setJobResult s true k.toNat tag { status := 1 }
      else if j.ctl.getLsbD 1 && (lookup s.arrays.hashStates (4 * k.toNat + tag)).isNone then
        setJobResult s true k.toNat tag { status := 1 }
      else if j.ctl.getLsbD 2 && (hashKey s k.toNat j.key.toNat).isNone then setJobResult s true k.toNat tag { status := 3 }
      else s.setArrays (fun a => { a with jobs := a.jobs ++ [hashEntry k.toNat j] })) := by
    show execHashJob k j s = _
    have hfree' : findJob s true k.toNat (j.ctl.toNat / 8 % 4) = none := hfree
    simp only [execHashJob, he, hfree', Option.isNone_some, Option.isSome_none, Bool.or_self, Bool.false_eq_true, if_false]
    rfl
  have hresume : (j.ctl.getLsbD 1 && (lookup s.arrays.hashStates (4 * k.toNat + tag)).isNone) = true ↔ resume := by
    simp [resume]
  have hunkeyed : (j.ctl.getLsbD 2 && (hashKey s k.toNat j.key.toNat).isNone) = true ↔ unkeyed := by simp [unkeyed]
  refine ⟨fun hf => ?field, fun hf hr => ?noState, fun hf hr hu => ?noKey, fun hf hr hu => ?queued⟩
  case field =>
    rw [hf] at hex
    exact gives_setHashResult hex
  case noState =>
    rw [hf, if_neg (by decide), if_pos (hresume.2 hr)] at hex
    exact gives_setHashResult hex
  case noKey =>
    rw [hf, if_neg (by decide), if_neg (mt hresume.1 hr), if_pos (hunkeyed.2 hu)] at hex
    exact gives_setHashResult hex
  case queued =>
    rw [hf, if_neg (by decide), if_neg (mt hresume.1 hr), if_neg (mt hunkeyed.1 hu)] at hex
    exact ⟨_, hex, only_drivePins (keeps_setArrays s _), rfl⟩

/-- What KEYCHAIN puts into its target: the whole block, or one half beside what the register held (R219). -/
def keychainBytes (old x : Octets) (high : Bool) : Octets :=
  if x.length ≥ 16 then x else if (if high then 1 else 0) = 0 then x ++ slice old 8 8 else old.take 8 ++ x

theorem keychainBytes_spec (old x : Octets) (high : Bool) :
    (16 ≤ x.length → keychainBytes old x high = x) ∧
    (x.length < 16 → high = false → (keychainBytes old x high).take x.length = x) ∧
    (x.length = 8 → high = true → (keychainBytes old x high).drop 8 = x ∨ (keychainBytes old x high).length < 16) := by
  refine ⟨fun h => if_pos h, fun h hh => ?_, fun h hh => ?_⟩
  · rw [keychainBytes, if_neg (by omega), hh]
    exact List.take_left' rfl
  · rw [keychainBytes, if_neg (by omega), hh]
    rcases Nat.lt_or_ge old.length 8 with hlt | hge
    · right
      simp only [if_true, Nat.one_ne_zero, if_false, List.length_append, List.length_take]
      omega
    · left
      exact List.drop_left' (by simp [hge])

theorem keychainJobs : Claims.KeychainJobs := by
  intro s k j key target n blk e m x hcmd
  obtain ⟨c, hc⟩ := Option.isSome_iff_exists.1 hcmd
  refine ⟨?byCore, fun hk huse halg hn => ?byUnit⟩
  case byCore =>
    have hex : exec (.keychain k true j) s =
        answer (setJobResult s false k.toNat (j.ctl.toNat / 2 % 4) { status := 1 }) := by
      show execKeychain k true j s = _
      simp only [execKeychain, hc, Option.isNone_some, Bool.false_eq_true, if_false, if_true]
    exact ⟨_, hex, only_drivePins (keeps_setJobResult _ _ _ _ _), rfl, lookup_insertAt_same _ _ _⟩
  case byUnit =>
    have hn' : (n == 8 || n == 16) = true := by simpa using hn
    have hex : exec (.keychain k false j) s = answer (setLaneKey s k.toNat target
        { alg := if j.cipher = 1 then 3 else 1,
          bytes := keychainBytes (((laneKey s k.toNat target).map (·.bytes)).getD (zeros 16)) x (j.aux.getLsbD 5) }) := by
      show execKeychain k false j s = _
      simp only [execKeychain, hc, hk, Option.isNone_some, Bool.false_eq_true, if_false]
      exact congrArg answer (if_neg (by rw [huse, halg, hn']; decide))
    exact ⟨_, hex, only_drivePins (keeps_setLaneKey _ _ _ _), rfl, rfl, _, lookup_insertAt_same _ _ _, rfl,
      keychainBytes_spec _ x _⟩

/-- Settles O12: each job by the branch that its checks choose. -/
theorem arrayJobsSubmit : Obligations.ArrayJobsSubmit := ⟨cipherJobsSubmit, hashJobsSubmit, keychainJobs⟩

end Sys2Proof.Machine
end

section
/-! The journal of a lone module, and what logging an alarm leaves (R465, R466, R524, R548). -/

namespace Sys2Proof.Machine

/-! ### The journal of a module without a partner -/

/-- No partner takes part in the journal: the module is neither standby nor joining, and mirrors nothing. -/
def State.lone (s : State) : Prop := s.pair.role ≠ .standby ∧ s.pair.role ≠ .joining ∧ s.pair.mirroring = false

theorem journal_of_lone {s : State} (h : s.lone) (e : JEntry) : journal s e = { s with journal := s.journal.append e } := by
  obtain ⟨h1, h2, h3⟩ := h
  rw [journal, if_neg (by simp [h1, h2])]
  dsimp only [journalHere]
  rw [if_neg (by simp [h3])]

theorem Journal.full_eq_false {j : Journal} (h : j.ring.length < journalCap) : j.full = false := by
  simp [Journal.full, Nat.not_le.2 h]

/-- In a ring with room an entry is numbered, chained and appended (R465, R466). -/
theorem Journal.append_of_room {j : Journal} (h : j.ring.length < journalCap) (e : JEntry) :
    j.append e = { j with
      ring := j.ring ++ [{ e with
        jseq := j.next, seg := j.seg, chain := sha 48 (j.chain ++ ({ e with jseq := j.next, seg := j.seg } : JEntry).head) }],
      next := j.next + 1, chain := sha 48 (j.chain ++ ({ e with jseq := j.next, seg := j.seg } : JEntry).head) } := by
  simp only [Journal.append, Journal.full_eq_false h, Bool.false_and, Bool.false_eq_true, if_false, Journal.put,
    if_neg (Nat.not_le.2 h), ge_iff_le]

theorem keeps_stamp (s : State) (src : Nat) : Keeps [.free, .tb] s (stamp s src).2 := by
  intro p hp
  cases p
  case free | tb => simp at hp
  all_goals rfl

theorem keeps_setJournal (s : State) (j : Journal) : Keeps [.journal] s { s with journal := j } := by
  intro p hp
  cases p
  case journal => simp at hp
  all_goals rfl

theorem journalEntries : Claims.JournalEntries := by
  intro s ty d h1 h2 h3 hroom t
  have ht : t = { (stamp s srcSupervisor).2 with
      journal := s.journal.append { pm := (stamp s srcSupervisor).1, type := ty, detail := d } } :=
    journal_of_lone (s := (stamp s srcSupervisor).2) ⟨h1, h2, h3⟩ _
  have hj : t.journal = s.journal.append { pm := (stamp s srcSupervisor).1, type := ty, detail := d } := by rw [ht]
  rw [Journal.append_of_room hroom] at hj
  refine ⟨?frame, ⟨_, by rw [hj], rfl, rfl, rfl, rfl, rfl, rfl, rfl, by rw [hj]⟩, by rw [hj], by rw [hj], fun m tr hm => ?mode,
    fun l tr hl => ?lc⟩
  case frame =>
    rw [ht]
    exact (keeps_stamp s _).comp (keeps_setJournal _ _)
  case mode => exact if_neg hm.symm
  case lc => exact if_neg hl.symm

/-! ### What an alarm leaves of the alarm registers (R524, R548) -/

/-- The alarm registers after an alarm: its class's event bit, LAST_CAUSE, and TRIPS of the monitor that it names. -/
def alarmsAfter (x : Alarms) (a : AlarmInfo) : Alarms :=
  if a.dryfire then x
  else
    let y := { setEvent x a.cls with lastCause := a.cause }
    if a.cause.toNat / 256 = 1 then
      let m := tget {} y.monitors (a.cause.toNat - 0x0100)
      { y with monitors := tset {} y.monitors (a.cause.toNat - 0x0100) { m with trips := satInc m.trips } }
    else y

/-- The module when an alarm is entered in the registers and in the journal, before its message. -/
def logged (s : State) (a : AlarmInfo) : State :=
  let r := { (stamp s srcAlarm).2 with alarms := alarmsAfter s.alarms a }
  if a.cls ≥ clsF || a.named || a.dryfire then
    journal r { pm := (stamp s srcAlarm).1, type := 3, cls := BitVec.ofNat 8 a.cls,
                detail := a.detail (!s.boot.mode.powered) }
  else r

theorem logAlarm_eq (s : State) (a : AlarmInfo) :
    logAlarm s a = if signals (logged s a).alarms a.cls && !a.dryfire then
      msixBoth (logged s a) (32 + (logged s a).alarms.vec.toNat) else logged s a := by
  have hr : (let r := (stamp s srcAlarm).2
      let r := if a.dryfire then r else { r with alarms := { setEvent r.alarms a.cls with lastCause := a.cause } }
      if a.cause.toNat / 256 = 1 && !a.dryfire then
        r.setMonitor (a.cause.toNat - 0x0100)
          { r.monitor (a.cause.toNat - 0x0100) with trips := satInc (r.monitor (a.cause.toNat - 0x0100)).trips }
      else r) = { (stamp s srcAlarm).2 with alarms := alarmsAfter s.alarms a } := by
    dsimp only
    unfold alarmsAfter
    cases hd : a.dryfire <;> by_cases hn : a.cause.toNat / 256 = 1 <;> simp [hn] <;> rfl
  unfold logAlarm logged
  dsimp only at hr ⊢
  rw [hr]
  rfl

theorem logged_alarms (s : State) (a : AlarmInfo) : (logged s a).alarms = alarmsAfter s.alarms a := by
  unfold logged
  dsimp only
  split
  · rw [journal_alarms]
  · rfl

theorem logAlarm_alarms (s : State) (a : AlarmInfo) : (logAlarm s a).alarms = alarmsAfter s.alarms a := by
  rw [logAlarm_eq]
  split
  · rw [msixBoth_alarms, logged_alarms]
  · exact logged_alarms s a

/-- An alarm that is not a dry-fire: event bits, LAST_CAUSE, and the fields that it leaves. -/
theorem alarmsAfter_eq (x : Alarms) {a : AlarmInfo} (hd : a.dryfire = false) :
    alarmsAfter x a = { x with
      evE := x.evE || a.cls == 4, evL := x.evL || a.cls == 3, evF := x.evF || a.cls == 2,
      evN := x.evN || (a.cls != 4 && a.cls != 3 && a.cls != 2), lastCause := a.cause,
      monitors := (alarmsAfter x a).monitors } := by
  have hev : setEvent x a.cls = { x with
      evE := x.evE || a.cls == 4, evL := x.evL || a.cls == 3, evF := x.evF || a.cls == 2,
      evN := x.evN || (a.cls != 4 && a.cls != 3 && a.cls != 2) } := by
    unfold setEvent clsE clsL clsF
    split
    next h => simp [h]
    next h4 =>
      split
      next h => simp [h]
      next h3 =>
        split
        next h => simp [h]
        next h2 => simp [h4, h3, h2]
  have hmon : (setEvent x a.cls).monitors = x.monitors := by rw [hev]
  unfold alarmsAfter
  rw [hd]
  simp only [Bool.false_eq_true, if_false]
  split
  · rw [hev]
  · rw [hev]

theorem alarmsAfter_monitor (x : Alarms) {a : AlarmInfo} (hd : a.dryfire = false) (n : Nat) :
    tget ({} : Monitor) (alarmsAfter x a).monitors n =
      if a.cause.toNat / 256 = 1 ∧ n = a.cause.toNat - 0x0100 then
        { tget {} x.monitors n with trips := satInc (tget ({} : Monitor) x.monitors n).trips }
      else tget {} x.monitors n := by
  have hmon : (setEvent x a.cls).monitors = x.monitors := by
    unfold setEvent
    split
    · rfl
    · split
      · rfl
      · split <;> rfl
  unfold alarmsAfter
  rw [hd]
  simp only [Bool.false_eq_true, if_false, hmon]
  by_cases hc : a.cause.toNat / 256 = 1
  · by_cases hn : n = a.cause.toNat - 0x0100
    · rw [if_pos hc, if_pos ⟨hc, hn⟩, hn, tget_tset_same]
    · rw [if_pos hc, if_neg (fun h => hn h.2), tget_tset_other _ _ _ _ _ hn]
  · rw [if_neg hc, if_neg (fun h => hc h.1), ← hmon]

/-! ### The journal entry and the message (R465, R524) -/

theorem logAlarm_journal (s : State) (a : AlarmInfo) : (logAlarm s a).journal = (logged s a).journal := by
  rw [logAlarm_eq]
  split
  · rw [msixBoth_journal]
  · rfl

theorem keeps_msixSend (s : State) (fn : Fn) (v : Nat) : Keeps [.outbox, .msix] s (msixSend s fn v) := by
  intro p hp
  cases p
  case outbox | msix => simp at hp
  all_goals simp [Part.same]

theorem keeps_msixBoth (s : State) (v : Nat) : Keeps [.outbox, .msix] s (msixBoth s v) :=
  (keeps_msixSend s _ v).trans (keeps_msixSend _ _ v)

/-- Without a partner an alarm reaches the registers and the journal of this module alone. -/
theorem logged_of_lone {s : State} (h : s.lone) (a : AlarmInfo) :
    logged s a = { (stamp s srcAlarm).2 with
      alarms := alarmsAfter s.alarms a,
      journal := if a.cls ≥ clsF || a.named || a.dryfire then
          s.journal.append { pm := (stamp s srcAlarm).1, type := 3, cls := BitVec.ofNat 8 a.cls,
                             detail := a.detail (!s.boot.mode.powered) }
        else s.journal } := by
  unfold logged
  dsimp only
  split
  · exact journal_of_lone (s := { (stamp s srcAlarm).2 with alarms := alarmsAfter s.alarms a }) h _
  · rfl

theorem keeps_logged_of_lone {s : State} (h : s.lone) (a : AlarmInfo) : Keeps [.free, .alarms, .tb, .journal] s (logged s a) := by
  rw [logged_of_lone h]
  intro p hp
  cases p
  case free | alarms | tb | journal => simp at hp
  all_goals rfl

/-- The message of an unmasked vector goes out on both PF0s (R524). -/
theorem msixBoth_outbox {s : State} {v : Nat} (ha : (tget ({} : MsixVec) s.msix (msixKey ⟨false, 0⟩ v)).masked = false)
    (hb : (tget ({} : MsixVec) s.msix (msixKey ⟨true, 0⟩ v)).masked = false) :
    (msixBoth s v).outbox = .msix ⟨true, 0⟩ v :: .msix ⟨false, 0⟩ v :: s.outbox := by
  have h1 : msixSend s ⟨false, 0⟩ v = emit s (.msix ⟨false, 0⟩ v) := if_neg (Bool.eq_false_iff.1 ha)
  have h2 : msixSend (emit s (.msix ⟨false, 0⟩ v)) ⟨true, 0⟩ v = emit (emit s (.msix ⟨false, 0⟩ v)) (.msix ⟨true, 0⟩ v) :=
    if_neg (Bool.eq_false_iff.1 hb)
  rw [msixBoth, h1, h2]
  rfl

theorem alarmsAreLogged : Claims.AlarmsAreLogged := by
  intro s a h1 h2 h3 hroom hdry hlo hhi t
  have hlone : s.lone := ⟨h1, h2, h3⟩
  have halarms : t.alarms = alarmsAfter s.alarms a := logAlarm_alarms s a
  have heq := alarmsAfter_eq s.alarms hdry
  have hkeep := keeps_logged_of_lone hlone a
  have hjournal : t.journal = (logged s a).journal := logAlarm_journal s a
  rw [logged_of_lone hlone] at hjournal
  refine ⟨?frame, by rw [halarms, heq], by rw [halarms, heq], by rw [halarms, heq], by rw [halarms, heq], ?evN, fun n => ?trips,
    fun hent => ?entry, fun hc hn => ?none, ?message⟩
  case frame =>
    have ht : t = logAlarm s a := rfl
    rw [ht, logAlarm_eq]
    split
    · exact hkeep.comp (keeps_msixBoth _ _)
    · exact hkeep.mono (by decide)
  case evN =>
    have hcls : (a.cls != 4 && a.cls != 3 && a.cls != 2) = (a.cls == 1) := by
      rw [Bool.eq_iff_iff]
      simp only [Bool.and_eq_true, bne_iff_ne, beq_iff_eq]
      omega
    rw [halarms, heq, hcls]
  case trips =>
    rw [State.monitor, halarms, alarmsAfter_monitor _ hdry]
    split <;> rfl
  case entry =>
    have hlogs : (decide (a.cls ≥ clsF) || a.named || a.dryfire) = true := by
      obtain h | h := hent
      · simp [clsF, h]
      · simp [h]
    rw [hlogs, if_pos rfl, Journal.append_of_room hroom] at hjournal
    exact ⟨_, by rw [hjournal], rfl, rfl, List.take_left' (le_length 2 _)⟩
  case none =>
    rw [hjournal, if_neg (by simp [hc, hn, hdry, clsF])]
  case message =>
    intro fires v
    have hvec : (logged s a).alarms.vec = s.alarms.vec := by rw [logged_alarms, heq]
    have hfires : (signals (logged s a).alarms a.cls && !a.dryfire) = true ↔ fires := by
      rw [logged_alarms, heq]
      simp [signals, hdry, clsL, clsF, clsN, fires, or_assoc]
    have ht : t = if fires then msixBoth (logged s a) v else logged s a := by
      show logAlarm s a = _
      rw [logAlarm_eq, hvec]
      exact if_congr hfires rfl rfl
    refine ⟨fun hno => ?_, fun hyes hA hB => ?_⟩
    · rw [ht, if_neg hno, hkeep.outbox, hkeep.msix]
      exact ⟨rfl, rfl⟩
    · rw [ht, if_pos hyes, msixBoth_outbox (by rw [hkeep.msix]; exact hA) (by rw [hkeep.msix]; exact hB), hkeep.outbox]

/-- Settles O31: entries by the ring's append, alarms by the registers, the entry and the message of one logging. -/
theorem journalAndAlarms : Obligations.JournalAndAlarms := ⟨journalEntries, alarmsAreLogged⟩

/-! ### Events of class F and notices -/

/-- An event whose cause names no monitor touches its event bit and LAST_CAUSE alone. -/
theorem alarmsAfter_of_no_monitor (x : Alarms) {a : AlarmInfo} (hd : a.dryfire = false) (hc : a.cause.toNat / 256 ≠ 1) :
    alarmsAfter x a = { setEvent x a.cls with lastCause := a.cause } := by
  simp only [alarmsAfter, hd, Bool.false_eq_true, if_false, if_neg hc]

theorem eventF_alarms (s : State) {c : Code} (u : Nat) (v : BitVec 32) (n : Nat) (hc : c.toNat / 256 ≠ 1) :
    (eventF s c u v n).alarms = { s.alarms with evF := true, lastCause := c } :=
  (logAlarm_alarms s _).trans (alarmsAfter_of_no_monitor _ rfl hc)

theorem notice_alarms (s : State) {c : Code} (u : Nat) (v : BitVec 32) (n : Bool) (hc : c.toNat / 256 ≠ 1) :
    (notice s c u v n).alarms = { s.alarms with evN := true, lastCause := c } :=
  (logAlarm_alarms s _).trans (alarmsAfter_of_no_monitor _ rfl hc)

theorem keeps_logAlarm (s : State) (a : AlarmInfo) :
    Keeps [.free, .outbox, .alarms, .msix, .tb, .journal, .pair] s (logAlarm s a) := by
  intro p hp
  cases p
  case free | outbox | alarms | msix | tb | journal | pair => simp at hp
  all_goals simp [Part.same]

theorem keeps_notice (s : State) (c : Code) (u : Nat) (v : BitVec 32) (n : Bool) :
    Keeps [.free, .outbox, .alarms, .msix, .tb, .journal, .pair] s (notice s c u v n) := keeps_logAlarm s _

theorem keeps_journalNow (s : State) (ty : BitVec 16) (d : Octets) :
    Keeps [.free, .outbox, .tb, .journal, .pair] s (journalNow s ty d) :=
  (keeps_stamp s _).comp (keeps_journal _ _)

theorem keeps_journalRetire (s : State) (kind : UnitKind) (u : Nat) :
    Keeps [.free, .outbox, .tb, .journal, .pair] s (journalRetire s kind u) := keeps_journalNow s _ _

end Sys2Proof.Machine
end

section
/-! Jobs of the arrays end, parity errors, lane tests and the switch (R218 to R235). -/

namespace Sys2Proof.Machine

/-! ### Jobs in their lanes -/

theorem findJob_some {s : State} {hash : Bool} {k tag : Nat} {j : LaneJob} (h : findJob s hash k tag = some j) :
    j.core = k ∧ j.hash = hash ∧ j.tag = tag := by
  have hp := List.find?_some h
  simpa [and_assoc] using hp

theorem keeps_endJob (s : State) (j : LaneJob) (r : JobResult) : Keeps [.arrays] s (endJob s j r) :=
  (keeps_setArrays s _).trans (keeps_setJobResult _ _ _ _ _)

/-- The jobs that stay when one ends. -/
theorem endJob_jobs (s : State) (j : LaneJob) (r : JobResult) : (endJob s j r).arrays.jobs =
    s.arrays.jobs.filter (fun x => !(x.core == j.core && x.hash == j.hash && x.tag == j.tag)) := by
  unfold endJob setJobResult
  cases j.hash <;> rfl

theorem findJob_endJob (s : State) (j : LaneJob) (r : JobResult) : findJob (endJob s j r) j.hash j.core j.tag = none := by
  rw [findJob, endJob_jobs, List.find?_eq_none]
  intro x hx
  simpa only [Bool.not_eq_true', Bool.not_eq_true] using (List.mem_filter.1 hx).2

theorem endJob_result {s : State} {j : LaneJob} (r : JobResult) (h : j.hash = false) :
    lookup (endJob s j r).arrays.results (4 * j.core + j.tag) = some r := by
  simp only [endJob, setJobResult, State.setArrays, h, Bool.false_eq_true, if_false, lookup_insertAt_same]

theorem endJob_hashResult {s : State} {j : LaneJob} (r : JobResult) (h : j.hash = true) :
    lookup (endJob s j r).arrays.hashResults (4 * j.core + j.tag) = some r := by
  simp only [endJob, setJobResult, State.setArrays, h, if_true, lookup_insertAt_same]

/-- The end of a job touches neither keys nor saved states nor lanes. -/
theorem endJob_arrays (s : State) (j : LaneJob) (r : JobResult) : (endJob s j r).arrays = { s.arrays with
    jobs := (endJob s j r).arrays.jobs, results := (endJob s j r).arrays.results,
    hashResults := (endJob s j r).arrays.hashResults } := by
  unfold endJob setJobResult
  cases j.hash <;> rfl

section
variable {s : State} {k : CoreId} {tag : BitVec 2} {j : LaneJob}

theorem exec_jobEnd_refused {hash : Bool} (h : findJob s hash k.toNat tag.toNat = some j) (done : Nat) :
    exec (.jobEnd k hash tag (.refused done)) s = answer (endJob s j { status := 2, done := done }) := by
  show execJobEnd k hash tag (.refused done) s = _
  simp only [execJobEnd, h]

theorem exec_jobEnd_cipher {key : LaneKey} (h : findJob s false k.toNat tag.toNat = some j)
    (hk : laneKey s k.toNat j.key = some key) (o : Octets) :
    exec (.jobEnd k false tag (.ok o)) s = answer (
      if j.dst = 0 then endJob s j { out := fit 16 (if (cipherResult j key (jobInput s j o)).1.isEmpty || j.mode = 5 then
        (cipherResult j key (jobInput s j o)).2 else (cipherResult j key (jobInput s j o)).1) }
      else endJob (farWrite s k.toNat j.dst (cipherResult j key (jobInput s j o)).1) j
        { done := (cipherResult j key (jobInput s j o)).1.length, out := fit 16 (cipherResult j key (jobInput s j o)).2 }) := by
  show execJobEnd k false tag (.ok o) s = _
  simp only [execJobEnd, h, hk, Bool.false_eq_true, if_false]

theorem exec_jobEnd_hash (h : findJob s true k.toNat tag.toNat = some j) (o : Octets) :
    exec (.jobEnd k true tag (.ok o)) s = answer (
      let i := 4 * k.toNat + tag.toNat
      let all := (if j.ctl / 2 % 2 = 1 then ((lookup s.arrays.hashStates i).map (·.2)).getD [] else []) ++ jobInput s j o
      if j.ctl % 2 = 1 then
        endJob (s.setArrays (fun a => { a with hashStates := removeAt a.hashStates i })) j
          { out := if j.ctl / 4 % 2 = 1 then
              hmac (hashLenOf j.cipher) (((hashKey s k.toNat j.key).map (·.bytes)).getD []) all
            else sha (hashLenOf j.cipher) all }
      else endJob (s.setArrays (fun a => { a with hashStates := insertAt a.hashStates i (j.cipher, all) })) j {}) := by
  show execJobEnd k true tag (.ok o) s = _
  simp only [execJobEnd, h, if_true]

end

theorem jobsEnd : Claims.JobsEnd := by
  intro s k tag o done j key i r before all
  refine ⟨fun h => ?cipher, fun h => ?hash⟩
  case cipher =>
    obtain ⟨hc, hh, ht⟩ := findJob_some h
    have hgone (t : State) (x : JobResult) : findJob (endJob t j x) false k.toNat tag.toNat = none := by
      rw [← hc, ← hh, ← ht]
      exact findJob_endJob t j x
    have hres (t : State) (x : JobResult) : lookup (endJob t j x).arrays.results i = some x := by
      show lookup _ (4 * k.toNat + tag.toNat) = _
      rw [← hc, ← ht]
      exact endJob_result x hh
    refine ⟨⟨_, exec_jobEnd_refused h done, only_drivePins (keeps_endJob _ _ _), hgone _ _, hres _ _⟩,
      fun hk hd => ?area, fun hk hd hd' => ?dst⟩
    case area =>
      have hex := exec_jobEnd_cipher h hk o
      rw [if_pos hd] at hex
      exact ⟨_, hex, only_drivePins (keeps_endJob _ _ _), hgone _ _, hres _ _⟩
    case dst =>
      have hex := exec_jobEnd_cipher h hk o
      rw [if_neg hd] at hex
      refine ⟨_, hex, only_drivePins ((keeps_farWrite_inWorkMem hd').comp (keeps_endJob _ _ _)), hgone _ _, hres _ _, fun y => ?_⟩
      rw [drivePins_wmem, (keeps_endJob _ _ _).wmem, farWrite_inWorkMem hd']
      exact tget_wmemWrite _ _ _ _
  case hash =>
    obtain ⟨hc, hh, ht⟩ := findJob_some h
    have hgone (t : State) (x : JobResult) : findJob (endJob t j x) true k.toNat tag.toNat = none := by
      rw [← hc, ← hh, ← ht]
      exact findJob_endJob t j x
    have hres (t : State) (x : JobResult) : lookup (endJob t j x).arrays.hashResults i = some x := by
      show lookup _ (4 * k.toNat + tag.toNat) = _
      rw [← hc, ← ht]
      exact endJob_hashResult x hh
    have hex := exec_jobEnd_hash h o
    refine ⟨fun hf => ?partial_, fun hf hm => ?final⟩
    case partial_ =>
      dsimp only at hex
      rw [if_neg (by omega)] at hex
      refine ⟨_, hex, only_drivePins ((keeps_setArrays s _).trans (keeps_endJob _ _ _)), hgone _ _, hres _ _, ?_⟩
      rw [drivePins_arrays, endJob_arrays]
      exact lookup_insertAt_same _ _ _
    case final =>
      dsimp only at hex
      rw [if_pos hf, if_neg (by omega)] at hex
      refine ⟨_, hex, only_drivePins ((keeps_setArrays s _).trans (keeps_endJob _ _ _)), hgone _ _, ?_, hres _ _⟩
      rw [drivePins_arrays, endJob_arrays]
      exact lookup_removeAt_same _ _

/-! ### Parity errors (R228, R229, R232) -/

theorem keeps_putLane (s : State) (hash : Bool) (n : Nat) (l : Lane) : Keeps [.arrays] s (putLane s hash n l) :=
  keeps_setArrays s _

@[simp] theorem getLane_putLane (s : State) (hash : Bool) (n : Nat) (l : Lane) : getLane (putLane s hash n l) hash n = l := by
  cases hash <;> exact tget_tset_same _ _ _ _

/-- A change to one job: the job of a tag that has not ended is changed with it, where tags stay. -/
theorem find?_map_of_comp {α : Type} {p : α → Bool} {f : α → α} (h : ∀ x, p (f x) = p x) (l : List α) :
    (l.map f).find? p = (l.find? p).map f := by
  rw [List.find?_map]
  congr 2
  exact funext h

theorem hurtJob_restarts {s : State} {hash : Bool} {k tag : Nat} {j : LaneJob} (h : findJob s hash k tag = some j)
    (hp : j.parity < 2) : findJob (hurtJob s hash k tag) hash k tag = some { j with parity := j.parity + 1 } := by
  obtain ⟨hc, hh, ht⟩ := findJob_some h
  simp only [hurtJob, h, if_neg (Nat.not_le.2 hp)]
  unfold findJob State.setArrays
  dsimp only
  rw [find?_map_of_comp]
  · rw [findJob] at h
    rw [h, Option.map_some, if_pos (by simp [hc, hh, ht])]
  · intro x
    split <;> rfl

theorem hurtJob_ends {s : State} {hash : Bool} {k tag : Nat} {j : LaneJob} (h : findJob s hash k tag = some j)
    (hp : 2 ≤ j.parity) : hurtJob s hash k tag = endJob s j { status := 4 } := by
  simp only [hurtJob, h, if_pos hp]

theorem keeps_hurtJob (s : State) (hash : Bool) (k tag : Nat) : Keeps [.arrays] s (hurtJob s hash k tag) := by
  unfold hurtJob
  split
  · exact Keeps.refl _ _
  · split
    · exact keeps_endJob _ _ _
    · exact keeps_setArrays s _

/-- A parity error's victim touches neither keys nor lanes. -/
theorem hurtJob_arrays (s : State) (hash : Bool) (k tag : Nat) :
    (hurtJob s hash k tag).arrays = { s.arrays with
      jobs := (hurtJob s hash k tag).arrays.jobs, results := (hurtJob s hash k tag).arrays.results,
      hashResults := (hurtJob s hash k tag).arrays.hashResults } := by
  unfold hurtJob
  split
  · rfl
  · split
    · exact endJob_arrays _ _ _
    · rfl

/-- Ending jobs one after another removes each of them, and touches no key. -/
theorem foldl_endJob (r : JobResult) (l : List LaneJob) (s : State) :
    Keeps [.arrays] s (l.foldl (fun s j => endJob s j r) s) ∧
    (l.foldl (fun s j => endJob s j r) s).arrays.laneKeys = s.arrays.laneKeys ∧
    (l.foldl (fun s j => endJob s j r) s).arrays.hashKeys = s.arrays.hashKeys ∧
    ∀ x ∈ (l.foldl (fun s j => endJob s j r) s).arrays.jobs, x ∈ s.arrays.jobs ∧ x ∉ l := by
  induction l generalizing s with
  | nil => exact ⟨Keeps.refl _ _, rfl, rfl, fun x hx => ⟨hx, List.not_mem_nil⟩⟩
  | cons j l ih =>
    obtain ⟨hk, hl, hh, hj⟩ := ih (endJob s j r)
    refine ⟨(keeps_endJob s j r).trans hk, hl.trans (by rw [endJob_arrays]), hh.trans (by rw [endJob_arrays]), fun x hx => ?_⟩
    obtain ⟨hmem, hnot⟩ := hj x hx
    rw [endJob_jobs, List.mem_filter] at hmem
    refine ⟨hmem.1, fun h => ?_⟩
    obtain rfl | h := List.mem_cons.1 h
    · simp at hmem
    · exact hnot h

section
variable (s : State)

theorem exec_laneParity_lane (n : BitVec 6) (k : CoreId) (tag : BitVec 2) :
    exec (.laneParity false (.lane n (some (k, tag)))) s = answer (hurtJob
      (eventF (putLane s false n.toNat { getLane s false n.toNat with
        testing := true, errors := s.time.toNat :: (getLane s false n.toNat).errors.take 3,
        parity := satInc (getLane s false n.toNat).parity }) 0x0303 n.toNat 0 64) false k.toNat tag.toNat) := rfl

/-- The jobs of a core that name a key register of its key file. -/
def namesKey (hash : Bool) (k reg : Nat) (j : LaneJob) : Bool :=
  j.core == k && j.hash == hash && j.key == reg && (!hash || j.ctl / 4 % 2 == 1)

/-- The state whose key file has lost an entry. -/
def withoutKey (hash : Bool) (k reg : Nat) : State :=
  s.setArrays (fun a => if hash then { a with hashKeys := removeAt a.hashKeys (16 * k + reg) }
    else { a with laneKeys := removeAt a.laneKeys (16 * k + reg) })

theorem exec_laneParity_keyFile (hash : Bool) (k : CoreId) (reg : BitVec 2) :
    exec (.laneParity hash (.keyFile k reg)) s = answer
      (((withoutKey s hash k.toNat reg.toNat).arrays.jobs.filter (namesKey hash k.toNat reg.toNat)).foldl
        (fun s j => endJob s j { status := 3 }) (withoutKey s hash k.toNat reg.toNat)) := rfl

theorem keeps_withoutKey (hash : Bool) (k reg : Nat) : Keeps [.arrays] s (withoutKey s hash k reg) := keeps_setArrays s _

end

theorem parityErrors : Claims.ParityErrors := by
  intro s n k tag reg j
  refine ⟨fun h => ?lane, ?keyFile, ?hashKeyFile⟩
  case lane =>
    have hex := exec_laneParity_lane s n k tag
    generalize hl : ({ getLane s false n.toNat with
      testing := true, errors := s.time.toNat :: (getLane s false n.toNat).errors.take 3,
      parity := satInc (getLane s false n.toNat).parity } : Lane) = l at hex
    generalize hu : eventF (putLane s false n.toNat l) 0x0303 n.toNat 0 64 = u at hex
    have ha : u.arrays = (putLane s false n.toNat l).arrays := by
      rw [← hu]
      exact (keeps_eventF _ _ _ _ _).arrays
    have hw : u.wmem = s.wmem := by
      rw [← hu]
      exact (keeps_eventF _ _ _ _ _).wmem
    have hc : u.alarms.lastCause = 0x0303 := by
      rw [← hu, eventF_alarms _ _ _ _ (by decide)]
    have hj : findJob u false k.toNat tag.toNat = some j := by
      rw [← h, findJob, findJob, ha]
      rfl
    refine ⟨_, hex, ?_, ?_, ?_, ?_, fun hp => ?_, fun hp => ?_⟩
    · rw [getLane, drivePins_arrays, hurtJob_arrays, ha, if_neg Bool.false_ne_true]
      show (getLane (putLane s false n.toNat l) false n.toNat).testing = true
      rw [getLane_putLane, ← hl]
    · rw [drivePins_alarms, (keeps_hurtJob _ _ _ _).alarms, hc]
    · rw [drivePins_wmem, (keeps_hurtJob _ _ _ _).wmem, hw]
    · rw [drivePins_arrays, hurtJob_arrays, ha]
      rfl
    · refine ⟨_, ?_, rfl⟩
      rw [findJob, drivePins_arrays]
      exact hurtJob_restarts hj hp
    · obtain ⟨hc, hh, ht⟩ := findJob_some hj
      rw [hurtJob_ends hj hp, findJob, drivePins_arrays, ← hc, ← ht]
      exact ⟨hh ▸ findJob_endJob u j _, endJob_result _ hh⟩
  case keyFile =>
    have hex := exec_laneParity_keyFile s false k reg
    obtain ⟨hk, hl, -, hj⟩ := foldl_endJob { status := 3 }
      ((withoutKey s false k.toNat reg.toNat).arrays.jobs.filter (namesKey false k.toNat reg.toNat))
      (withoutKey s false k.toNat reg.toNat)
    refine ⟨_, hex, only_drivePins ((keeps_withoutKey s _ _ _).trans hk), ?_, ?_⟩
    · rw [laneKey, drivePins_arrays, hl]
      exact lookup_removeAt_same _ _
    · rw [keyInUse, drivePins_arrays, List.any_eq_false]
      intro x hx hnames
      obtain ⟨hmem, hnot⟩ := hj x hx
      exact hnot (List.mem_filter.2 ⟨hmem, by simpa [namesKey] using hnames⟩)
  case hashKeyFile =>
    have hex := exec_laneParity_keyFile s true k reg
    obtain ⟨hk, -, hl, -⟩ := foldl_endJob { status := 3 }
      ((withoutKey s true k.toNat reg.toNat).arrays.jobs.filter (namesKey true k.toNat reg.toNat))
      (withoutKey s true k.toNat reg.toNat)
    refine ⟨_, hex, only_drivePins ((keeps_withoutKey s _ _ _).trans hk), ?_⟩
    rw [hashKey, drivePins_arrays, hl]
    exact lookup_removeAt_same _ _

/-! ### The end of a lane's tests, and the switch (R223, R226, R233) -/

theorem exec_laneKatEnd {s : State} {lane : BitVec 6} (pass : Bool) (h : (getLane s false lane.toNat).testing = true) :
    exec (.laneKatEnd false lane pass) s = answer (
      let u := putLane s false lane.toNat { getLane s false lane.toNat with testing := false }
      if !pass || within24h s (getLane s false lane.toNat).errors ≥ 3 then retireLane u false lane.toNat else u) := by
  show execLaneKatEnd false lane pass s = _
  simp only [execLaneKatEnd, h, Bool.false_eq_true, if_false, Bool.not_true]
  rfl

/-- Retiring a lane: the warden keeps it in its mask, and the arrays change in their causes alone (R233). -/
theorem retireLane_keeps (s : State) (n : Nat) :
    (retireLane s false n).warden.retLanes = s.warden.retLanes ||| BitVec.ofNat 64 (2 ^ n) ∧
    (retireLane s false n).wmem = s.wmem ∧
    (retireLane s false n).arrays = { s.arrays with causes := (retireLane s false n).arrays.causes } := by
  have h := keeps_journalRetire
    { s with warden := { s.warden with retLanes := s.warden.retLanes ||| BitVec.ofNat 64 (2 ^ n) } } .lane n
  refine ⟨congrArg Warden.retLanes h.warden, h.wmem, ?_⟩
  simp only [retireLane, refreshCauses, State.setArrays, Bool.false_eq_true, if_false, h.arrays]

theorem laneTestsEnd : Claims.LaneTestsEnd := by
  intro s lane pass l htest
  have hex := exec_laneKatEnd pass htest
  dsimp only at hex
  refine ⟨fun hp ht => ?passes, fun hf => ?retires⟩
  case passes =>
    rw [if_neg (by simpa [hp] using ht)] at hex
    refine ⟨_, hex, only_drivePins (keeps_putLane _ _ _ _), ?_⟩
    rw [getLane, drivePins_arrays]
    exact getLane_putLane _ _ _ _
  case retires =>
    rw [if_pos (by simpa using hf)] at hex
    obtain ⟨hwarden, hwmem, harr⟩ := retireLane_keeps
      (putLane s false lane.toNat { getLane s false lane.toNat with testing := false }) lane.toNat
    refine ⟨_, hex, ?_, ?_, ?_, ?_⟩
    · rw [drivePins_warden, hwarden]
      rfl
    · rw [getLane, drivePins_arrays, harr]
      show (getLane (putLane s false lane.toNat _) false lane.toNat).testing = false
      rw [getLane_putLane]
    · rw [drivePins_wmem, hwmem]
      rfl
    · rw [drivePins_arrays, harr]
      rfl

/-- No cause that follows from the clusters is the rebuild's. -/
theorem derivedCauses_rebuild (s : State) : (derivedCauses s).getLsbD 2 = false := by
  simp only [derivedCauses, BitVec.getLsbD_or]
  split <;> split <;> rfl

theorem arraySwitches : Claims.ArraySwitches := by
  intro s
  refine ⟨⟨_, rfl, only_drivePins (keeps_setArrays s _), ?_⟩, ⟨_, rfl, ?_, ?_, ?_, ?_, ?_⟩⟩
  · rw [drivePins_arrays]
    show ({ s.arrays with pooled := s.arrays.causes != 0 } : Arrays) = _
    congr 1
    by_cases h : s.arrays.causes = 0
    · rw [h]
      rfl
    · rw [bne_iff_ne.2 h, decide_eq_true h]
  · refine only_drivePins (fun p hp => ?_)
    cases p
    case keys | arrays => simp at hp
    all_goals rfl
  · rw [drivePins_arrays]
    show ((s.arrays.causes &&& ~~~(BitVec.ofNat 5 (2 ^ 2)) &&& 7) ||| derivedCauses s).getLsbD 2 = false
    rw [BitVec.getLsbD_or, derivedCauses_rebuild]
    simp
  · rw [drivePins_arrays]
    rfl
  · rw [drivePins_arrays]
    rfl
  · rw [drivePins_keys]
    rfl

/-- Settles O13: a job that ends leaves the list of jobs with its result in place; a parity error's victim is counted
up or ended; a lane's tests bring it back or into the warden's mask; the mode follows the causes. -/
theorem arrayEvents : Obligations.ArrayEvents := ⟨jobsEnd, parityErrors, laneTestsEnd, arraySwitches⟩

end Sys2Proof.Machine
end

section
/-! Key-unit requests: their outcomes, what they leave and their end (R304 to R308). -/

namespace Sys2Proof.Machine

/-! ### What a request does -/

theorem keeps_setKeyResult (s : State) (k : Nat) (r : KeyResult) : Keeps [.keys] s (setKeyResult s k r) := by
  intro p hp
  cases p
  case keys => simp at hp
  all_goals rfl

@[simp] theorem lookup_setKeyResult (s : State) (k : Nat) (r : KeyResult) :
    lookup (setKeyResult s k r).keys.results k = some r := lookup_insertAt_same _ _ _

/-- A request of the thirteen is held, or goes to the key unit with its checks and its work. -/
theorem exec_keyOp {i : Instr} {s : State} {o : KeyOp} (h : keyOpOf s i = some o) (hheld : o.held = false) :
    exec i s = answer (keyRequest s o.core o.custom o.fields o.body) := by
  have hrun : exec i s = answer (if o.held then s else keyRequest s o.core o.custom o.fields o.body) := by
    unfold keyOpOf at h
    split at h
    case h_14 => exact absurd h (by simp)
    all_goals
      obtain rfl := Option.some.inj h
      rfl
  rw [hrun, hheld, if_neg Bool.false_ne_true]

section
variable {s : State} {k e : Nat} {c : Cmd} {may fields : Bool} {body : Nat → Svc KeyDone}

/-- The request of a core that may request, by its two checks and its work. -/
theorem keyRequest_denied (h : MayRequest s k e c) (hc : c.custom = true) (hm : may = false) :
    keyRequest s k may fields body = setKeyResult s k { busy := true, status := policyDenied } := by
  obtain ⟨hrun, hbusy⟩ := h
  simp only [keyRequest, hrun, hbusy, hc, hm, Bool.false_eq_true, Bool.not_false, Bool.and_self, if_false, if_true]

theorem keyRequest_badField (h : MayRequest s k e c) (hm : c.custom = true → may = true) (hf : fields = false) :
    keyRequest s k may fields body = setKeyResult s k { busy := true, status := badField } := by
  obtain ⟨hrun, hbusy⟩ := h
  have hmay : (c.custom && !may) = false := by
    rcases hc : c.custom
    · rfl
    · simp [hm hc]
  simp only [keyRequest, hrun, hbusy, hmay, hf, Bool.false_eq_true, Bool.not_false, if_false, if_true]

theorem keyRequest_works (h : MayRequest s k e c) (hm : c.custom = true → may = true) (hf : fields = true) :
    (∀ d v, work (body e) s e c = (.ok d, v) → keyRequest s k may fields body = setKeyResult (v.s.setCmd e v.c) k
      { busy := true, status := stOk, key := { d.key with bytes := [] }, done := d.done, kcv := d.kcv }) ∧
    (∀ st v, work (body e) s e c = (.error (.fail st), v) →
      keyRequest s k may fields body = setKeyResult (v.s.setCmd e v.c) k { busy := true, status := st }) := by
  obtain ⟨hrun, hbusy⟩ := h
  have hmay : (c.custom && !may) = false := by
    rcases hc : c.custom
    · rfl
    · simp [hm hc]
  constructor
  all_goals
    intro x v hw
    unfold work at hw
    simp only [keyRequest, hrun, hbusy, hmay, hf, hw, Bool.false_eq_true, Bool.not_true, if_false]

end

/-- Settles O15: the port's checks come in their order, and what the request's work gives is what the area takes. -/
theorem keyRequestOutcomes : Obligations.KeyRequestOutcomes := by
  intro i s o e c hop hheld hmay area w
  have hex := exec_keyOp hop hheld
  refine ⟨fun hc hm => ?denied, fun hm hf => ?badField, fun hm hf => ⟨fun d hw => ?ok, fun st hw => ?fail⟩⟩
  case denied =>
    rw [keyRequest_denied hmay hc hm] at hex
    exact ⟨_, hex, only_drivePins (keeps_setKeyResult _ _ _), lookup_setKeyResult _ _ _⟩
  case badField =>
    rw [keyRequest_badField hmay hm hf] at hex
    exact ⟨_, hex, only_drivePins (keeps_setKeyResult _ _ _), lookup_setKeyResult _ _ _⟩
  case ok =>
    rw [(keyRequest_works hmay hm hf).1 d w.2 (Prod.ext hw rfl)] at hex
    exact ⟨_, hex, State.cmd_setCmd _ _ _, rfl, rfl, rfl, lookup_setKeyResult _ _ _⟩
  case fail =>
    rw [(keyRequest_works hmay hm hf).2 st w.2 (Prod.ext hw rfl)] at hex
    exact ⟨_, hex, State.cmd_setCmd _ _ _, lookup_setKeyResult _ _ _⟩

/-! ### What the loading requests leave -/

/-- A request of a standard service whose work succeeds. -/
theorem gives_of_keyOp {i : Instr} {s s' : State} {o : KeyOp} {e : Nat} {c c' : Cmd} {d : KeyDone}
    (hop : keyOpOf s i = some o) (hheld : o.held = false) (hmay : MayRequest s o.core e c) (hc : c.custom = false)
    (hf : o.fields = true) (hw : work (o.body e) s e c = (.ok d, ⟨s', e, c'⟩)) :
    Gives i s fun t => t.arrays = s'.arrays ∧ t.cmd e = some c' ∧ t.wmem = s'.wmem ∧
      lookup t.keys.results o.core =
        some { busy := true, status := stOk, key := { d.key with bytes := [] }, done := d.done, kcv := d.kcv } := by
  obtain ⟨t, hex, hcmd, hwmem, harr, -, harea⟩ :=
    ((keyRequestOutcomes i s o e c hop hheld hmay).2.2 (by simp [hc]) hf).1 d (by rw [hw])
  rw [hw] at hcmd hwmem harr
  exact ⟨t, hex, harr, hcmd, hwmem, harea⟩

section
variable {s s' : State} {k e : Nat} {r : KeyReq} {c c' : Cmd} {key child : KeyVal}

theorem work_reqLoadLane (h : Resolves e r.ref r.group s c key s' c') (hk : key.cls ≠ 4) :
    work (reqLoadLane k r e) s e c = (.ok (doneKey key),
      ⟨setLaneKey s' k r.target.toNat { alg := key.alg, bytes := key.bytes }, e, c'⟩) := by
  unfold Resolves at h
  simp only [reqLoadLane, toLane, work_bind, h, work_need, bne_iff_ne.2 hk, if_true, work_modS, work_pure]

theorem work_reqLoadHash (h : Resolves e r.ref r.group s c key s' c') (hk : key.alg = 6) :
    work (reqLoadHash k r e) s e c = (.ok (doneKey key),
      ⟨setHashKey s' k r.target.toNat { alg := u8 r.param 0, bytes := key.bytes }, e, c'⟩) := by
  unfold Resolves at h
  simp only [reqLoadHash, work_bind, h, work_need, hk, beq_self_eq_true, if_true, work_modS, work_pure]

/-- The session key that EMV leaves (R182, R305). -/
def emvSession (r : KeyReq) (key : KeyVal) : Octets :=
  emvSk (u8 r.param 0 == 1)
    (if u8 r.param 1 = 4 then key.bytes else emvMk (u8 r.param 0 == 1) key.bytes (slice r.param 4 8))
    (slice r.param 12 2) (u8 r.param 2)

theorem work_reqEmv (h : Resolves e r.ref r.group s c key s' c') (hk : key.alg = (if u8 r.param 0 = 1 then 1 else 3)) :
    work (reqEmv k r e) s e c = (.ok (doneKey key),
      ⟨setLaneKey s' k r.target.toNat { alg := key.alg, bytes := emvSession r key }, e, c'⟩) := by
  unfold Resolves at h
  have hok : (if (u8 r.param 0 == 1) = true then key.alg == 1 else key.alg == 3) = true := by
    rw [hk]
    by_cases h1 : u8 r.param 0 = 1 <;> simp [h1]
  simp only [reqEmv, toLane, work_bind, h, work_need, hok, if_true, work_modS, work_pure, emvSession]

/-- The key that DERIVE leaves (R271, R279). -/
def derivedKey (r : KeyReq) (key child : KeyVal) : Octets :=
  if isTdea child.alg then oddParity (kdf key.bytes (fit 64 r.block) (8 * algLen child.alg))
  else kdf key.bytes (fit 64 r.block) (8 * algLen child.alg)

theorem work_reqDerive (h : Resolves e r.ref r.group s c key s' c') (hl : labelKey r.block = some child)
    (hc : child.cls ≠ 4) (ht : seedTarget r = false) (hk : key.alg = 5) :
    work (reqDerive k r e) s e c = (.ok (doneKey key),
      ⟨setLaneKey s' k r.target.toNat { alg := child.alg, bytes := derivedKey r key child }, e, c'⟩) := by
  unfold Resolves at h
  have hcls : ((child.cls == 4) == false) = true := by simp [hc]
  simp only [reqDerive, hl, toTarget, toLane, ht, Bool.false_eq_true, work_bind, h, work_need, hcls, hk, beq_self_eq_true,
    if_true, if_false, work_modS, work_pure, derivedKey]

/-- The key that SECRET leaves without a FixedInfo (R200, R261). -/
def secretKey (r : KeyReq) : Octets :=
  let d := oneStep ((fit 64 r.block).take (Config.secretLen r.block)) [] (u8 r.param 1)
  if isTdea (u8 r.param 0) then oddParity d else d

theorem work_reqSecret (s : State) (c : Cmd) (h : r.auxLen = 0) :
    work (reqSecret k r e) s e c = (.ok {},
      ⟨setLaneKey s k r.target.toNat { alg := u8 r.param 0, bytes := secretKey r }, e, c⟩) := by
  have h0 : r.auxLen.toNat = 0 := by
    rw [h]
    rfl
  simp only [reqSecret, toLane, work_bind, work_need, h0, beq_self_eq_true, Bool.true_or, if_true,
    work_getS, work_modS, work_pure, secretKey]

end

@[simp] theorem laneKey_setLaneKey (s : State) (k reg : Nat) (v : LaneKey) : laneKey (setLaneKey s k reg v) k reg = some v :=
  lookup_insertAt_same _ _ _

@[simp] theorem hashKey_setHashKey (s : State) (k reg : Nat) (v : LaneKey) : hashKey (setHashKey s k reg v) k reg = some v :=
  lookup_insertAt_same _ _ _

theorem keyRequestsLoad : Claims.KeyRequestsLoad := by
  intro s s' k r e c c' key child hmay hc hres reg runs
  refine ⟨fun hk o hop hheld hf => ?lane, fun hk o hop hheld hf => ?hash, fun hk o hop hheld hf => ?emv,
    fun hl hcl hs hk o hop hheld hf => ?derive⟩
  case lane =>
    obtain rfl := Option.some.inj hop
    obtain ⟨t, hex, harr, hcmd, hwmem, harea⟩ := gives_of_keyOp hop hheld hmay hc hf (work_reqLoadLane hres hk)
    refine ⟨t, hex, ?_, hcmd, hwmem, by rw [harea]; rfl⟩
    show lookup t.arrays.laneKeys _ = _
    rw [harr]
    exact laneKey_setLaneKey _ _ _ _
  case hash =>
    obtain rfl := Option.some.inj hop
    obtain ⟨t, hex, harr, hcmd, hwmem, harea⟩ := gives_of_keyOp hop hheld hmay hc hf (work_reqLoadHash hres hk)
    refine ⟨t, hex, ?_, hcmd, hwmem, by rw [harea]; rfl⟩
    show lookup t.arrays.hashKeys _ = _
    rw [harr]
    exact hashKey_setHashKey _ _ _ _
  case emv =>
    obtain rfl := Option.some.inj hop
    obtain ⟨t, hex, harr, hcmd, hwmem, harea⟩ := gives_of_keyOp hop hheld hmay hc hf (work_reqEmv hres hk)
    refine ⟨t, hex, ?_, hcmd, hwmem, by rw [harea]; rfl⟩
    show lookup t.arrays.laneKeys _ = _
    rw [harr]
    exact laneKey_setLaneKey _ _ _ _
  case derive =>
    obtain rfl := Option.some.inj hop
    obtain ⟨t, hex, harr, hcmd, hwmem, harea⟩ :=
      gives_of_keyOp hop hheld hmay hc hf (work_reqDerive hres hl hcl hs hk)
    refine ⟨t, hex, ?_, hcmd, hwmem, by rw [harea]; rfl⟩
    show lookup t.arrays.laneKeys _ = _
    rw [harr]
    exact laneKey_setLaneKey _ _ _ _

theorem secretAndRequestEnd : Claims.SecretAndRequestEnd := by
  intro s k r e c o v
  refine ⟨fun hmay hc hop hheld hf haux => ?secret, fun hv => ?requestEnd⟩
  case secret =>
    obtain rfl := Option.some.inj hop
    obtain ⟨t, hex, harr, -, hwmem, harea⟩ := gives_of_keyOp hop hheld hmay hc hf (work_reqSecret s c haux)
    refine ⟨t, hex, hwmem, ?_, harea⟩
    show lookup t.arrays.laneKeys _ = _
    rw [harr]
    exact laneKey_setLaneKey _ _ _ _
  case requestEnd =>
    have hex : exec (.keyRequestEnd k) s = answer (setKeyResult s k.toNat { v with busy := false }) := by
      show execKeyRequestEnd k s = _
      simp only [execKeyRequestEnd, hv]
    exact ⟨_, hex, only_drivePins (keeps_setKeyResult _ _ _), lookup_setKeyResult _ _ _, rfl⟩

/-- Settles O16: the work of each loading request, run once, and the end of a request. -/
theorem keyRequestsServe : Obligations.KeyRequestsServe := ⟨keyRequestsLoad, secretAndRequestEnd⟩

end Sys2Proof.Machine
end

section
/-! The responses of the classes L and E: what is erased, ended and recorded (R325, R522, R523, R543). -/

namespace Sys2Proof.Machine

/-! ### Tables of mapped values -/

/-- A table whose values are mapped under their keys. -/
theorem lookup_map {α β : Type} (f : Nat → α → β) (t : List (Nat × α)) (n : Nat) :
    lookup (t.map (fun x => (x.1, f x.1 x.2))) n = (lookup t n).map (f n) := by
  induction t with
  | nil => rfl
  | cons x t ih =>
    obtain ⟨k, v⟩ := x
    by_cases h : n = k
    · simp [lookup, h]
    · simpa [lookup, h] using ih

/-! ### The journal leaves the Crown and the role alone -/

/-- A message to the partner counts or waits, and nothing else of the pair changes. -/
theorem sendLink_pair (s : State) (cls : BitVec 8) (o : Octets) : (sendLink s cls o).pair =
    { s.pair with mseqTx := (sendLink s cls o).pair.mseqTx, unsent := (sendLink s cls o).pair.unsent } := by
  unfold sendLink
  dsimp only
  split
  · rfl
  · split
    · rfl
    · rfl

theorem journal_pair (s : State) (x : JEntry) : (journal s x).pair =
    { s.pair with mseqTx := (journal s x).pair.mseqTx, unsent := (journal s x).pair.unsent } := by
  unfold journal
  dsimp only
  split
  · exact sendLink_pair _ _ _
  · split
    · exact sendLink_pair _ _ _
    · rfl

theorem journalNow_pair (s : State) (ty : BitVec 16) (d : Octets) : (journalNow s ty d).pair =
    { s.pair with mseqTx := (journalNow s ty d).pair.mseqTx, unsent := (journalNow s ty d).pair.unsent } :=
  journal_pair _ _

/-! ### Mode and life cycle -/

@[simp] theorem setMode_boot (s : State) (m : Mode) (c : Code) : (setMode s m c).boot = { s.boot with mode := m } := by
  unfold setMode
  split
  next h => rw [← h]
  next => exact (keeps_journalNow _ _ _).boot

@[simp] theorem setLifeCycle_warden (s : State) (l : LifeCycle) (c : Code) :
    (setLifeCycle s l c).warden = { s.warden with lc := l } := by
  unfold setLifeCycle
  split
  next h => rw [← h]
  next => exact (keeps_journalNow _ _ _).warden

theorem keeps_setMode (s : State) (m : Mode) (c : Code) :
    Keeps [.free, .outbox, .tb, .journal, .pair, .boot] s (setMode s m c) := by
  unfold setMode
  split
  · exact Keeps.refl _ _
  · have h : Keeps [.boot] s { s with boot := { s.boot with mode := m } } := by
      intro p hp
      cases p
      case boot => simp at hp
      all_goals rfl
    exact h.comp (keeps_journalNow _ _ _)

theorem keeps_setLifeCycle (s : State) (l : LifeCycle) (c : Code) :
    Keeps [.free, .outbox, .tb, .journal, .pair, .warden] s (setLifeCycle s l c) := by
  unfold setLifeCycle
  split
  · exact Keeps.refl _ _
  · have h : Keeps [.warden] s { s with warden := { s.warden with lc := l } } := by
      intro p hp
      cases p
      case warden => simp at hp
      all_goals rfl
    exact h.comp (keeps_journalNow _ _ _)

theorem setMode_pair (s : State) (m : Mode) (c : Code) : (setMode s m c).pair =
    { s.pair with mseqTx := (setMode s m c).pair.mseqTx, unsent := (setMode s m c).pair.unsent } := by
  unfold setMode
  split
  · rfl
  · exact journalNow_pair _ _ _

theorem setLifeCycle_pair (s : State) (l : LifeCycle) (c : Code) : (setLifeCycle s l c).pair =
    { s.pair with mseqTx := (setLifeCycle s l c).pair.mseqTx, unsent := (setLifeCycle s l c).pair.unsent } := by
  unfold setLifeCycle
  split
  · rfl
  · exact journalNow_pair _ _ _

/-! ### The battery log (R530) -/

/-- The entry of an alarm in a log with room. -/
theorem blogWrite_of_room {s : State} (b : BlogEntry) (h : s.warden.blog.length < 64) :
    ∃ x ∈ (blogWrite s b).warden.blog, x.cause = b.cause ∧ x.cls = b.cls ∧ x.unit = b.unit ∧ x.value = b.value := by
  simp only [blogWrite, h, if_true]
  exact ⟨_, List.mem_append_right _ (List.mem_singleton.2 rfl), rfl, rfl, rfl, rfl⟩

/-- The battery log is all that a write to it changes. -/
theorem blogWrite_warden (s : State) (b : BlogEntry) : (blogWrite s b).warden =
    { s.warden with blog := (blogWrite s b).warden.blog, blogNewest := (blogWrite s b).warden.blogNewest,
                    blogSeq := (blogWrite s b).warden.blogSeq, blogDropped := (blogWrite s b).warden.blogDropped } := by
  unfold blogWrite
  dsimp only
  split
  · rfl
  · split <;> rfl

theorem keeps_blogWrite (s : State) (b : BlogEntry) : Keeps [.warden] s (blogWrite s b) := by
  intro p hp
  cases p
  case warden => simp at hp
  all_goals simp [Part.same]

/-! ### Every command ends (R523) -/

/-- Turns have ended: of the keys only result areas and seeds changed, of the entropy unit no instance, and an empty key
file stays empty. -/
structure TurnsEnded (s t : State) : Prop where
  keeps : Keeps [.cores, .arrays, .keys, .entropy, .gates] s t
  keys : t.keys = { s.keys with results := t.keys.results, seeds := t.keys.seeds }
  insts : t.entropy.insts = s.entropy.insts
  laneKeys : s.arrays.laneKeys = [] → t.arrays.laneKeys = []
  hashKeys : s.arrays.hashKeys = [] → t.arrays.hashKeys = []

theorem TurnsEnded.refl (s : State) : TurnsEnded s s := ⟨Keeps.refl _ _, rfl, rfl, id, id⟩

theorem TurnsEnded.trans {s t u : State} (h : TurnsEnded s t) (g : TurnsEnded t u) : TurnsEnded s u :=
  ⟨h.keeps.trans g.keeps, by rw [g.keys, h.keys], g.insts.trans h.insts, g.laneKeys ∘ h.laneKeys, g.hashKeys ∘ h.hashKeys⟩

theorem turnsEnded_endTurn (s : State) (k : Nat) : TurnsEnded s (endTurn s k) := by
  refine ⟨(keeps_endTurn s k).mono (by decide), ?_, ?_, fun h => ?_, fun h => ?_⟩
  · unfold endTurn
    dsimp only
    split <;> rfl
  · unfold endTurn
    dsimp only
    split <;> rfl
  · have hk : (endTurn s k).arrays.laneKeys = s.arrays.laneKeys.filter (fun e => e.1 / 16 ≠ k) := by
      unfold endTurn
      dsimp only
      split <;> rfl
    rw [hk, h]
    rfl
  · have hk : (endTurn s k).arrays.hashKeys = s.arrays.hashKeys.filter (fun e => e.1 / 16 ≠ k) := by
      unfold endTurn
      dsimp only
      split <;> rfl
    rw [hk, h]
    rfl

theorem turnsEnded_dropPre (s : State) (k : Nat) : TurnsEnded s (dropPre s k) := by
  refine ⟨?_, rfl, rfl, id, id⟩
  intro p hp
  cases p
  case cores | gates => simp at hp
  all_goals rfl

/-- Every core that runs or holds a command leaves it (the first half of R523). -/
def leaveCores (s : State) : State :=
  coreNums.foldl (fun s k => if (s.core k).cmd.isSome || (s.core k).pre.isSome then dropPre (endTurn s k) k else s) s

theorem turnsEnded_leaveCores (s : State) : TurnsEnded s (leaveCores s) := by
  unfold leaveCores
  induction coreNums generalizing s with
  | nil => exact TurnsEnded.refl s
  | cons k l ih =>
    rw [List.foldl_cons]
    refine TurnsEnded.trans ?_ (ih _)
    split
    · exact (turnsEnded_endTurn s k).trans (turnsEnded_dropPre _ k)
    · exact TurnsEnded.refl s

/-- A command as the end of everything leaves it. -/
def Cmd.cutOff (c : Cmd) (st : Code) : Cmd :=
  if c.stage = .done then c
  else { c with stage := .done, served := true, status := st, output := [], outLen := 0, effects := [], list := none,
                eligible := false, reserved := [], commitSeq := none }

theorem failAll_eq (s : State) (st : Code) : failAll s st = (leaveCores s).mapCmds (fun _ c => c.cutOff st) := rfl

theorem keeps_mapCmds (s : State) (f : Nat → Cmd → Cmd) : Keeps [.so] s (s.mapCmds f) := by
  intro p hp
  cases p
  case so => simp at hp
  all_goals rfl

theorem cmd_mapCmds (s : State) (f : Nat → Cmd → Cmd) (e : Nat) : (s.mapCmds f).cmd e = (s.cmd e).map (f e) :=
  lookup_map f s.so.cmds e

theorem keeps_failAll (s : State) (st : Code) : Keeps [.cores, .arrays, .keys, .entropy, .gates, .so] s (failAll s st) := by
  rw [failAll_eq]
  exact (turnsEnded_leaveCores s).keeps.comp (keeps_mapCmds _ _)

theorem failAll_stage (s : State) (st : Code) : ∀ x ∈ (failAll s st).so.cmds, x.2.stage = .done := by
  rw [failAll_eq]
  generalize leaveCores s = u
  intro x hx
  obtain ⟨y, -, rfl⟩ := List.mem_map.1 hx
  show (y.2.cutOff st).stage = .done
  unfold Cmd.cutOff
  split
  next h => exact h
  next => rfl

theorem failAll_cmd {s : State} {e : Nat} {c : Cmd} (st : Code) (hc : s.cmd e = some c) (hst : c.stage ≠ .done) :
    ∃ c', (failAll s st).cmd e = some c' ∧ c'.status = st ∧ c'.output = [] ∧ c'.effects = [] := by
  refine ⟨c.cutOff st, ?_, ?_⟩
  · rw [failAll_eq, cmd_mapCmds, State.cmd_congr (turnsEnded_leaveCores s).keeps.so, hc]
    rfl
  · simp only [Cmd.cutOff, if_neg hst, and_self]

/-! ### The parts of a response -/

theorem keeps_leavePair (s : State) : Keeps [.outbox, .pair] s (leavePair s) := by
  have hsend : Keeps [.outbox, .pair] s
      (if (s.pair.role = .standby ∨ s.pair.role = .joining) ∧ linkLive s then
        sendLink s 0x72 (le 2 (Config.detachCause 0).toNat) else s) := by
    split
    · intro p hp
      cases p
      case outbox | pair => simp at hp
      all_goals simp [Part.same]
    · exact Keeps.refl _ _
  refine hsend.trans ?_
  intro p hp
  cases p
  case pair => simp at hp
  all_goals rfl

theorem leavePair_crownOut (s : State) : (leavePair s).pair.crownOut = false := rfl

theorem keeps_scrubAll (s : State) : Keeps [.cores] s (scrubAll s) := by
  unfold scrubAll
  induction coreNums generalizing s with
  | nil => exact Keeps.refl _ _
  | cons k l ih => exact (keeps_setCore s k _).trans (ih _)

theorem keeps_eraseWorking (s : State) : Keeps [.arrays, .keys, .entropy] s (eraseWorking s) := by
  intro p hp
  cases p
  case arrays | keys | entropy => simp at hp
  all_goals rfl

theorem keeps_eraseQuorum (s : State) : Keeps [.alarms] s (eraseQuorum s) := by
  intro p hp
  cases p
  case alarms => simp at hp
  all_goals rfl

theorem keeps_abandonImage (s : State) (st : Code) : Keeps [.boot] s (abandonImage s st) := by
  unfold abandonImage
  split
  case h_4 => exact Keeps.refl _ _
  all_goals
    intro p hp
    cases p
    case boot => simp at hp
    all_goals rfl

/-- Working material is gone (R325). -/
structure WorkingGone (s t : State) : Prop where
  frankPriv : t.keys.frankPriv = none
  cacheKey : t.keys.cacheKey = none
  indexKey : t.keys.indexKey = none
  cache : t.keys.cache = []
  rootFile : t.keys.rootFile = []
  ceremony : t.keys.ceremony = none
  counters : t.keys.counters = s.keys.counters
  laneKeys : t.arrays.laneKeys = []
  hashKeys : t.arrays.hashKeys = []
  insts : t.entropy.insts = []

theorem WorkingGone.failAll {s t : State} (h : WorkingGone s t) (st : Code) : WorkingGone s (failAll t st) := by
  have he := turnsEnded_leaveCores t
  rw [failAll_eq]
  generalize leaveCores t = u at he
  have hk : (u.mapCmds fun _ c => c.cutOff st).keys =
      { t.keys with results := u.keys.results, seeds := u.keys.seeds } := he.keys
  exact ⟨by rw [hk]; exact h.frankPriv, by rw [hk]; exact h.cacheKey, by rw [hk]; exact h.indexKey,
    by rw [hk]; exact h.cache, by rw [hk]; exact h.rootFile, by rw [hk]; exact h.ceremony, by rw [hk]; exact h.counters,
    he.laneKeys h.laneKeys, he.hashKeys h.hashKeys, he.insts.trans h.insts⟩

theorem WorkingGone.of_keeps {ps : List Part} {s t u : State} (h : WorkingGone s t) (hk : Keeps ps t u)
    (h1 : Part.keys ∉ ps := by decide) (h2 : Part.arrays ∉ ps := by decide) (h3 : Part.entropy ∉ ps := by decide) :
    WorkingGone s u := by
  have e1 := hk.keys h1
  have e2 := hk.arrays h2
  have e3 := hk.entropy h3
  exact ⟨by rw [e1]; exact h.frankPriv, by rw [e1]; exact h.cacheKey, by rw [e1]; exact h.indexKey,
    by rw [e1]; exact h.cache, by rw [e1]; exact h.rootFile, by rw [e1]; exact h.ceremony, by rw [e1]; exact h.counters,
    by rw [e2]; exact h.laneKeys, by rw [e2]; exact h.hashKeys, by rw [e3]; exact h.insts⟩

/-- Every command has ended with a status, or had ended before. -/
structure CommandsEnded (s t : State) (st : Code) : Prop where
  stage : ∀ x ∈ t.so.cmds, x.2.stage = .done
  cut : ∀ e c, s.cmd e = some c → c.stage ≠ .done →
    ∃ c', t.cmd e = some c' ∧ c'.status = st ∧ c'.output = [] ∧ c'.effects = []

theorem commandsEnded_failAll (s : State) (st : Code) : CommandsEnded s (failAll s st) st :=
  ⟨failAll_stage s st, fun _ _ hc hst => failAll_cmd st hc hst⟩

theorem CommandsEnded.congr {s s' t t' : State} {st : Code} (h : CommandsEnded s t st) (hs : s'.so = s.so)
    (ht : t'.so = t.so) : CommandsEnded s' t' st := by
  refine ⟨by rw [ht]; exact h.stage, fun e c hc hst => ?_⟩
  obtain ⟨c', hc', hrest⟩ := h.cut e c ((State.cmd_congr hs e).symm.trans hc) hst
  exact ⟨c', (State.cmd_congr ht e).trans hc', hrest⟩

/-! ### Class L: the lock (R522, R543) -/

/-- The pair is left and the wide multipliers are scrubbed. -/
def stoodDown (s : State) : State := scrubAll (leavePair s)

theorem keeps_stoodDown (s : State) : Keeps [.outbox, .pair, .cores] s (stoodDown s) :=
  (keeps_leavePair s).comp (keeps_scrubAll _)

theorem stoodDown_crownOut (s : State) : (stoodDown s).pair.crownOut = false := by
  rw [stoodDown, (keeps_scrubAll (leavePair s)).pair, leavePair_crownOut]

/-- The pair is left, and working material, challenges and grants are erased. -/
def quieted (s : State) : State := eraseQuorum (eraseWorking (stoodDown s))

theorem keeps_erasures (s : State) : Keeps [.arrays, .keys, .entropy, .alarms] s (eraseQuorum (eraseWorking s)) :=
  (keeps_eraseWorking _).comp (keeps_eraseQuorum _)

theorem erasures_alarms (s : State) :
    (eraseQuorum (eraseWorking s)).alarms = { s.alarms with challenges := [], grants := [] } := rfl

theorem workingGone_erasures (s : State) : WorkingGone s (eraseQuorum (eraseWorking s)) :=
  ⟨rfl, rfl, rfl, rfl, rfl, rfl, rfl, rfl, rfl, rfl⟩

theorem keeps_quieted (s : State) : Keeps [.outbox, .pair, .cores, .arrays, .keys, .entropy, .alarms] s (quieted s) :=
  (keeps_stoodDown s).comp (keeps_erasures _)

theorem workingGone_quieted (s : State) : WorkingGone s (quieted s) := by
  have h := workingGone_erasures (stoodDown s)
  exact { h with counters := by rw [quieted, h.counters, (keeps_stoodDown s).keys] }

theorem quieted_alarms (s : State) : (quieted s).alarms = { s.alarms with challenges := [], grants := [] } := by
  rw [quieted, erasures_alarms, (keeps_stoodDown s).alarms]

theorem quieted_crownOut (s : State) : (quieted s).pair.crownOut = false := by
  rw [quieted, (keeps_erasures _).pair, stoodDown_crownOut]

/-- Every command ended and the image path abandoned. -/
def wentDown (s : State) (st : Code) : State := abandonImage (failAll s st) st

theorem keeps_wentDown (s : State) (st : Code) :
    Keeps [.cores, .arrays, .keys, .entropy, .gates, .so, .boot] s (wentDown s st) :=
  (keeps_failAll s st).comp (keeps_abandonImage _ st)

theorem commandsEnded_wentDown (s : State) (st : Code) : CommandsEnded s (wentDown s st) st := by
  have h := commandsEnded_failAll s st
  unfold wentDown
  generalize failAll s st = u at h ⊢
  exact h.congr rfl (keeps_abandonImage u st).so

theorem WorkingGone.wentDown {s t : State} (h : WorkingGone s t) (st : Code) : WorkingGone s (wentDown t st) :=
  (h.failAll st).of_keeps (keeps_abandonImage _ st)

/-- The Postmark that the lock record takes: the last of the alarm source. -/
def alarmPm (s : State) : Postmark :=
  { time := (tget {} s.tb.sources srcAlarm).last, src := BitVec.ofNat 16 srcAlarm, seq := (tget {} s.tb.sources srcAlarm).seq }

/-- The lock record, with the module sealed and every running ceremony of mode, image and dry-fire dropped. -/
def lockRecorded (s : State) (cause : Code) (pm : Postmark) : State :=
  { s with
    warden := { s.warden with lockRec := true, lockSeq := satInc s.warden.lockSeq, lockCause := cause, lockPm := pm },
    boot := { s.boot with unsealed := false, maintDrain := none, armed := none },
    alarms := { s.alarms with dryFire := none } }

theorem keeps_lockRecorded (s : State) (cause : Code) (pm : Postmark) :
    Keeps [.warden, .boot, .alarms] s (lockRecorded s cause pm) := by
  intro p hp
  cases p
  case warden | boot | alarms => simp at hp
  all_goals rfl

/-- The entry that a response leaves in the battery log. -/
def responseEntry (a : AlarmInfo) (cls flags : BitVec 8) : BlogEntry :=
  { cause := a.cause, cls := cls, unit := BitVec.ofNat 16 a.unit, value := a.value, flags := flags }

theorem respondL_eq {s : State} (a : AlarmInfo) (h1 : s.boot.mode ≠ .erased) (h2 : s.boot.mode ≠ .battery)
    (h3 : s.boot.mode ≠ .diagnostic) : respondL s a =
      (let u := logAlarm s { a with actions := 14 }
       blogWrite (setMode (lockRecorded (wentDown (quieted u) lockedSt) a.cause (alarmPm u)) .locked a.cause)
        (responseEntry a 3 (if a.deferred then 4 else 0))) := by
  unfold respondL
  split
  next h => exact absurd h h1
  next h => exact absurd h h2
  next h => exact absurd h h3
  next => simp only [wentDown, quieted, stoodDown, lockRecorded, alarmPm, responseEntry]

/-- What class L leaves of a module whose alarm this is. -/
structure LockedBy (s t : State) (a : AlarmInfo) : Prop where
  mode : t.boot.mode = .locked
  unsealed : t.boot.unsealed = false
  working : WorkingGone s t
  crownOut : t.pair.crownOut = false
  alarms : t.alarms = { alarmsAfter s.alarms a with challenges := [], grants := [], dryFire := none }
  lockRec : t.warden.lockRec = true
  lockCause : t.warden.lockCause = a.cause
  lockSeq : t.warden.lockSeq = satInc s.warden.lockSeq
  lc : t.warden.lc = s.warden.lc
  km : t.warden.km = s.warden.km
  mr : t.warden.mr = s.warden.mr
  roots : t.warden.roots = s.warden.roots
  identity : t.warden.identity = s.warden.identity
  commands : CommandsEnded s t lockedSt
  blog : s.warden.blog.length < 64 → ∃ b ∈ t.warden.blog,
    b.cause = a.cause ∧ b.cls = 3 ∧ b.unit = BitVec.ofNat 16 a.unit ∧ b.value = a.value

theorem respondL_locks {s : State} (a : AlarmInfo) (h1 : s.boot.mode ≠ .erased) (h2 : s.boot.mode ≠ .battery)
    (h3 : s.boot.mode ≠ .diagnostic) : LockedBy s (respondL s a) a := by
  rw [respondL_eq a h1 h2 h3]
  dsimp only
  have hlog := keeps_logAlarm s { a with actions := 14 }
  have halarms : (logAlarm s { a with actions := 14 }).alarms = alarmsAfter s.alarms a := logAlarm_alarms s _
  generalize logAlarm s { a with actions := 14 } = u at hlog halarms
  have hq := keeps_quieted u
  have hd := keeps_wentDown (quieted u) lockedSt
  have hr := keeps_lockRecorded (wentDown (quieted u) lockedSt) a.cause (alarmPm u)
  have hm := keeps_setMode (lockRecorded (wentDown (quieted u) lockedSt) a.cause (alarmPm u)) .locked a.cause
  have hw : (wentDown (quieted u) lockedSt).warden = s.warden := by rw [hd.warden, hq.warden, hlog.warden]
  have hwarden : (setMode (lockRecorded (wentDown (quieted u) lockedSt) a.cause (alarmPm u)) .locked a.cause).warden =
      { s.warden with lockRec := true, lockSeq := satInc s.warden.lockSeq, lockCause := a.cause, lockPm := alarmPm u } := by
    rw [hm.warden, lockRecorded, hw]
  generalize hv : setMode (lockRecorded (wentDown (quieted u) lockedSt) a.cause (alarmPm u)) .locked a.cause = v at hm hwarden
  have hb := keeps_blogWrite v (responseEntry a 3 (if a.deferred then 4 else 0))
  have hbw := blogWrite_warden v (responseEntry a 3 (if a.deferred then 4 else 0))
  have hboot : v.boot = { (wentDown (quieted u) lockedSt).boot with
      unsealed := false, maintDrain := none, armed := none, mode := .locked } := by
    rw [← hv, setMode_boot, lockRecorded]
  refine
    { mode := by rw [hb.boot, hboot]
      unsealed := by rw [hb.boot, hboot]
      working := ?working
      crownOut := ?crownOut
      alarms := by rw [hb.alarms, hm.alarms, lockRecorded, hd.alarms, quieted_alarms, halarms]
      lockRec := by rw [hbw, hwarden]
      lockCause := by rw [hbw, hwarden]
      lockSeq := by rw [hbw, hwarden]
      lc := by rw [hbw, hwarden]
      km := by rw [hbw, hwarden]
      mr := by rw [hbw, hwarden]
      roots := by rw [hbw, hwarden]
      identity := by rw [hbw, hwarden]
      commands := ?commands
      blog := fun hroom => blogWrite_of_room _ (by rw [hwarden]; exact hroom) }
  case working =>
    have h : WorkingGone u (wentDown (quieted u) lockedSt) := (workingGone_quieted u).wentDown lockedSt
    have h' := ((h.of_keeps hr).of_keeps hm).of_keeps hb
    exact { h' with counters := by rw [h'.counters, hlog.keys] }
  case crownOut =>
    rw [hb.pair, ← hv, setMode_pair, hr.pair, hd.pair, quieted_crownOut]
  case commands =>
    exact (commandsEnded_wentDown (quieted u) lockedSt).congr (by rw [hq.so, hlog.so]) (by rw [hb.so, hm.so, hr.so])

/-! ### Class E: the erase (R522, R325) -/

/-- The life cycle and the mode after an erase. -/
def retired (s : State) (cause : Code) : State :=
  setMode (setLifeCycle { s with boot := { s.boot with unsealed := false, maintDrain := none, armed := none },
                                 alarms := { s.alarms with dryFire := none } } .retired cause) .erased cause

theorem keeps_retired (s : State) (cause : Code) :
    Keeps [.free, .outbox, .tb, .journal, .pair, .boot, .warden, .alarms] s (retired s cause) := by
  have h : Keeps [.boot, .alarms] s { s with
      boot := { s.boot with unsealed := false, maintDrain := none, armed := none },
      alarms := { s.alarms with dryFire := none } } := by
    intro p hp
    cases p
    case boot | alarms => simp at hp
    all_goals rfl
  have h' : Keeps [.free, .outbox, .tb, .journal, .pair, .boot, .warden] _ (retired s cause) :=
    (keeps_setLifeCycle _ .retired cause).comp (keeps_setMode _ .erased cause)
  exact h.comp h'

theorem retired_boot (s : State) (cause : Code) : (retired s cause).boot =
    { s.boot with unsealed := false, maintDrain := none, armed := none, mode := .erased } := by
  rw [retired, setMode_boot, (keeps_setLifeCycle _ _ _).boot]

theorem retired_warden (s : State) (cause : Code) : (retired s cause).warden = { s.warden with lc := .retired } := by
  rw [retired, (keeps_setMode _ _ _).warden, setLifeCycle_warden]

theorem retired_alarms (s : State) (cause : Code) : (retired s cause).alarms = { s.alarms with dryFire := none } := by
  rw [retired, (keeps_setMode _ _ _).alarms, (keeps_setLifeCycle _ _ _).alarms]

theorem retired_pair (s : State) (cause : Code) : (retired s cause).pair.crownOut = s.pair.crownOut := by
  rw [retired, setMode_pair, setLifeCycle_pair]

/-- The erase of class E before the commands end. -/
def wiped (s : State) : State := eraseQuorum (eraseCounters (eraseWorking (stoodDown (eraseRoots s))))

theorem respondE_eq {s : State} (a : AlarmInfo) (h1 : s.boot.mode ≠ .erased) (h2 : s.boot.mode ≠ .battery) :
    respondE s a = blogWrite (retired (wentDown (wiped (logAlarm s { a with actions := 23 })) erasedSt) a.cause)
      (responseEntry a 4 (BitVec.ofNat 8 (2 + if a.deferred then 4 else 0))) := by
  unfold respondE
  split
  next h => exact absurd h h1
  next h => exact absurd h h2
  next => simp only [wentDown, wiped, stoodDown, retired, responseEntry]

theorem keeps_eraseRoots (s : State) : Keeps [.warden] s (eraseRoots s) := by
  intro p hp
  cases p
  case warden => simp at hp
  all_goals rfl

theorem keeps_erasuresE (s : State) :
    Keeps [.arrays, .keys, .entropy, .alarms] s (eraseQuorum (eraseCounters (eraseWorking s))) := by
  intro p hp
  cases p
  case arrays | keys | entropy | alarms => simp at hp
  all_goals rfl

theorem erasuresE_alarms (s : State) :
    (eraseQuorum (eraseCounters (eraseWorking s))).alarms = { s.alarms with challenges := [], grants := [] } := rfl

theorem keeps_wiped (s : State) : Keeps [.outbox, .pair, .cores, .arrays, .keys, .entropy, .alarms, .warden] s (wiped s) :=
  ((keeps_eraseRoots s).comp (keeps_stoodDown _) (rs := [.outbox, .pair, .cores, .warden])).comp (keeps_erasuresE _)

theorem wiped_warden (s : State) :
    (wiped s).warden = { s.warden with km := none, mr := none, roots := [], identity := none } := by
  rw [wiped, (keeps_erasuresE _).warden, (keeps_stoodDown _).warden, eraseRoots]

theorem wiped_alarms (s : State) : (wiped s).alarms = { s.alarms with challenges := [], grants := [] } := by
  rw [wiped, erasuresE_alarms, (keeps_stoodDown _).alarms, (keeps_eraseRoots s).alarms]

theorem wiped_crownOut (s : State) : (wiped s).pair.crownOut = false := by
  rw [wiped, (keeps_erasuresE _).pair, stoodDown_crownOut]

/-- Working material is gone of a module that has lost its counter table too. -/
theorem workingGone_wiped (s : State) : WorkingGone (eraseCounters s) (wiped s) := by
  unfold wiped
  generalize stoodDown (eraseRoots s) = u
  exact ⟨rfl, rfl, rfl, rfl, rfl, rfl, rfl, rfl, rfl, rfl⟩

/-- What class E leaves of a module whose alarm this is. -/
structure ErasedBy (s t : State) (a : AlarmInfo) : Prop where
  mode : t.boot.mode = .erased
  unsealed : t.boot.unsealed = false
  working : WorkingGone (eraseCounters s) t
  crownOut : t.pair.crownOut = false
  alarms : t.alarms = { alarmsAfter s.alarms a with challenges := [], grants := [], dryFire := none }
  lc : t.warden.lc = .retired
  km : t.warden.km = none
  mr : t.warden.mr = none
  roots : t.warden.roots = []
  identity : t.warden.identity = none
  commands : CommandsEnded s t erasedSt
  blog : s.warden.blog.length < 64 → ∃ b ∈ t.warden.blog,
    b.cause = a.cause ∧ b.cls = 4 ∧ b.unit = BitVec.ofNat 16 a.unit ∧ b.value = a.value

theorem respondE_erases {s : State} (a : AlarmInfo) (h1 : s.boot.mode ≠ .erased) (h2 : s.boot.mode ≠ .battery) :
    ErasedBy s (respondE s a) a := by
  rw [respondE_eq a h1 h2]
  have hlog := keeps_logAlarm s { a with actions := 23 }
  have halarms : (logAlarm s { a with actions := 23 }).alarms = alarmsAfter s.alarms a := logAlarm_alarms s _
  generalize logAlarm s { a with actions := 23 } = u at hlog halarms
  have hq := keeps_wiped u
  have hd := keeps_wentDown (wiped u) erasedSt
  have hr := keeps_retired (wentDown (wiped u) erasedSt) a.cause
  have hwarden : (retired (wentDown (wiped u) erasedSt) a.cause).warden =
      { s.warden with km := none, mr := none, roots := [], identity := none, lc := .retired } := by
    rw [retired_warden, hd.warden, wiped_warden, hlog.warden]
  generalize hv : retired (wentDown (wiped u) erasedSt) a.cause = v at hr hwarden
  have hb := keeps_blogWrite v (responseEntry a 4 (BitVec.ofNat 8 (2 + if a.deferred then 4 else 0)))
  have hbw := blogWrite_warden v (responseEntry a 4 (BitVec.ofNat 8 (2 + if a.deferred then 4 else 0)))
  refine
    { mode := by rw [hb.boot, ← hv, retired_boot]
      unsealed := by rw [hb.boot, ← hv, retired_boot]
      working := ?working
      crownOut := by rw [hb.pair, ← hv, retired_pair, hd.pair, wiped_crownOut]
      alarms := by rw [hb.alarms, ← hv, retired_alarms, hd.alarms, wiped_alarms, halarms]
      lc := by rw [hbw, hwarden]
      km := by rw [hbw, hwarden]
      mr := by rw [hbw, hwarden]
      roots := by rw [hbw, hwarden]
      identity := by rw [hbw, hwarden]
      commands := ?commands
      blog := fun hroom => blogWrite_of_room _ (by rw [hwarden]; exact hroom) }
  case working =>
    have h' := (((workingGone_wiped u).wentDown erasedSt).of_keeps hr).of_keeps hb
    exact { h' with counters := h'.counters }
  case commands =>
    exact (commandsEnded_wentDown (wiped u) erasedSt).congr (by rw [hq.so, hlog.so]) (by rw [hb.so, hr.so])

end Sys2Proof.Machine
end

section
/-! A refutation: the beginning of entropy failure may clear a scratch area (R346). -/

namespace Sys2Proof.Machine

/-- A module of one command that waits on delay list 0 with its result made, in no ready list and before its first turn,
and with an octet in its scratch area; core 0's random request is in progress. -/
def servedWaiter : State :=
  { State.reset with
    boot := { State.reset.boot with rngReady := true }
    wmem := [(scratchAddr 0, 1)]
    entropy := { State.reset.entropy with results := [(0, { busy := true })] }
    so := { State.reset.so with
      cmds := [(0, { stage := .delayed 0 0, served := true })]
      phs := [(0, { home := some 0 })] } }

/-- The parity error of a DRBG lane begins entropy failure, the served command is placed anew, and its placement clears
its scratch area. -/
theorem servedWaiter_clears {t : State} (h : exec (.drbgLaneParity 0) servedWaiter = .next t) : t.wmem = [] := by
  have hex : exec (.drbgLaneParity 0) servedWaiter = answer (reviewCauses (setLaneFail servedWaiter 2 0 true)) := rfl
  obtain rfl := Host.Outcome.next.inj (hex.symm.trans h)
  rfl

/-- Refutes O17: entropy failure does not always leave working memory alone. A waiting command that has its result goes
back to a ready list, and one that holds no place in a list and has had no turn is placed with its scratch area cleared. -/
theorem not_entropyHealth : ¬ Obligations.EntropyHealth := by
  rintro ⟨-, -, hbegins, -⟩
  obtain ⟨⟨t, hex, ⟨-, -, -, hwmem, -⟩, -⟩, -⟩ :=
    hbegins servedWaiter 0 true true 0 0 { busy := true } {} rfl rfl rfl rfl
  rw [servedWaiter_clears hex] at hwmem
  exact absurd hwmem (by decide)

end Sys2Proof.Machine
end

section
/-! Requests for randomness, and the commands that wait for it (R339, R340, R350, R356). -/

namespace Sys2Proof.Machine

/-! ### Requests (R339, R346, R350) -/

theorem keeps_setEntropy (s : State) (f : Entropy → Entropy) : Keeps [.entropy] s (s.setEntropy f) := by
  intro p hp
  cases p
  case entropy => simp at hp
  all_goals rfl

theorem keeps_setRandResult (s : State) (k : Nat) (r : RandResult) : Keeps [.entropy] s (setRandResult s k r) :=
  keeps_setEntropy s _

@[simp] theorem lookup_setRandResult (s : State) (k : Nat) (r : RandResult) :
    lookup (setRandResult s k r).entropy.results k = some r := lookup_insertAt_same _ _ _

theorem keeps_generate (s : State) (i n : Nat) (pr : Bool) (add : Octets) :
    Keeps [.entropy, .free] s (generate s i n pr add).2 := by
  intro p hp
  cases p
  case entropy | free => simp at hp
  all_goals simp [Part.same]

/-- The fields of a random request that every requester must have in range, and the class that its command may use. -/
def requestOk (c : Cmd) (r : RandReq) : Bool :=
  decide (r.cls.toNat ≤ 1) && (r.cls == 0 || classOneOk c) && decide (r.flags.toNat ≤ 1) && r.reserved == 0 &&
    decide (1 ≤ r.len.toNat ∧ r.len.toNat ≤ 65536) && r.dst.toNat % 16 == 0 && (r.dst != 0 || decide (r.len.toNat ≤ 64))

theorem requestOk_iff (c : Cmd) (r : RandReq) : requestOk c r = true ↔
    r.cls.toNat ≤ 1 ∧ (r.cls = 0 ∨ classOneOk c = true) ∧ r.flags.toNat ≤ 1 ∧ r.reserved = 0 ∧ 1 ≤ r.len.toNat ∧
      r.len.toNat ≤ 65536 ∧ r.dst.toNat % 16 = 0 ∧ (r.dst ≠ 0 ∨ r.len.toNat ≤ 64) := by
  simp only [requestOk, Bool.and_eq_true, decide_eq_true_eq, Bool.or_eq_true, beq_iff_eq, bne_iff_ne, and_assoc]

section
variable {s : State} {k : CoreId} {r : RandReq} {e : Nat} {c : Cmd} {x : RandResult}

theorem exec_randomRequest (hrun : running s k.toNat = some (e, c))
    (hbusy : ((lookup s.entropy.results k.toNat).getD {}).busy = false) :
    exec (.randomRequest k r) s = answer (
      let i := if r.cls = 0 then instOf c.slot c.idx else k.toNat / 16
      if !(requestOk c r) then setRandResult s k.toNat { busy := true, status := 1 }
      else if s.entropy.failed then setRandResult s k.toNat { busy := true, status := 4 }
      else if !(canServe s i (r.flags.getLsbD 0)) then
        setRandResult (s.setCmd e { c with
          waitDue := some (c.waitDue.getD (dueTick s (ceilDiv (waitLimitUs c * 10) s.so.sched.tick100ns)))
          waiting := true, waitInst := i }) k.toNat { busy := true, status := 3 }
      else setRandResult (generate s i r.len.toNat (r.flags.getLsbD 0)).2 k.toNat
        { busy := true, out := (generate s i r.len.toNat (r.flags.getLsbD 0)).1, dst := r.dst.toNat }) := by
  show execRandomRequest k r s = _
  simp only [execRandomRequest, hrun, hbusy, Bool.false_eq_true, if_false]
  rfl

/-- The end of a request that has drawn its octets, by where they go. -/
theorem exec_randomRequestEnd_empty (h : lookup s.entropy.results k.toNat = some x) (hb : x.busy = true) (ho : x.out = []) :
    exec (.randomRequestEnd k) s = answer (setRandResult s k.toNat { x with busy := false }) := by
  show execRandomRequestEnd k s = _
  simp only [execRandomRequestEnd, h, hb, ho, List.isEmpty_nil, Bool.not_true, Bool.false_eq_true, if_false, if_true]

theorem exec_randomRequestEnd_area (h : lookup s.entropy.results k.toNat = some x) (hb : x.busy = true) (ho : x.out ≠ [])
    (hd : x.dst = 0) : exec (.randomRequestEnd k) s = answer (setRandResult s k.toNat
      { busy := false, status := 0, done := x.out.length, data := fit 64 x.out }) := by
  show execRandomRequestEnd k s = _
  simp only [execRandomRequestEnd, h, hb, List.isEmpty_eq_false_iff.2 ho, hd, Bool.not_true, Bool.false_eq_true, if_false,
    if_true]

theorem exec_randomRequestEnd_staging (h : lookup s.entropy.results k.toNat = some x) (hb : x.busy = true) (ho : x.out ≠ [])
    (hrun : running s k.toNat = some (e, c)) (hlo : stagingAddr e ≤ x.dst)
    (hhi : x.dst + x.out.length ≤ stagingAddr e + 4096) :
    exec (.randomRequestEnd k) s = answer (setRandResult (farWrite s k.toNat x.dst x.out) k.toNat
      { busy := false, status := 0, done := x.out.length }) := by
  have hd : x.dst ≠ 0 := by
    unfold stagingAddr at hlo
    omega
  show execRandomRequestEnd k s = _
  simp only [execRandomRequestEnd, h, hb, List.isEmpty_eq_false_iff.2 ho, hd, hrun, decide_eq_true hlo, decide_eq_true hhi,
    Bool.and_self, Bool.true_or, Bool.not_true, Bool.false_eq_true, if_false, if_true]

end

theorem randomRequests : Claims.RandomRequests := by
  intro s k r e c x n i area ok
  refine ⟨fun hrun hbusy => ?request, fun hx hb ho hd => ?area_, fun hx hb ho hrun hlo hhi he => ?staging, fun hx hb ho => ?empty⟩
  case request =>
    have hex := exec_randomRequest (r := r) hrun hbusy
    dsimp only at hex
    have hok : requestOk c r = true ↔ ok := requestOk_iff c r
    refine ⟨fun hno => ?bad, fun hyes hf => ?failed, fun hyes hf hs => ?waits, fun hyes hs => ?runs⟩
    case bad =>
      rw [if_pos (by simpa using mt hok.1 hno)] at hex
      exact ⟨_, hex, only_drivePins (keeps_setRandResult _ _ _), lookup_setRandResult _ _ _⟩
    all_goals rw [if_neg (by simpa using hok.2 hyes)] at hex
    case failed =>
      rw [if_pos hf] at hex
      exact ⟨_, hex, only_drivePins (keeps_setRandResult _ _ _), lookup_setRandResult _ _ _⟩
    case waits =>
      have hno : (!canServe s (if r.cls = 0 then instOf c.slot c.idx else k.toNat / 16) (r.flags.getLsbD 0)) = true :=
        congrArg not hs
      rw [if_neg (by simp [hf]), if_pos hno] at hex
      exact ⟨_, hex, only_drivePins ((keeps_setCmd _ _ _).comp (keeps_setRandResult _ _ _)), lookup_setRandResult _ _ _,
        _, State.cmd_setCmd _ _ _, rfl, rfl⟩
    case runs =>
      have hf : s.entropy.failed = false := by
        simp only [canServe, Bool.and_eq_true, Bool.not_eq_true'] at hs
        exact hs.1.2
      have hyes : (!canServe s (if r.cls = 0 then instOf c.slot c.idx else k.toNat / 16) (r.flags.getLsbD 0)) = false :=
        congrArg not hs
      rw [if_neg (by simp [hf]), if_neg (Bool.eq_false_iff.1 hyes)] at hex
      exact ⟨_, hex, only_drivePins ((keeps_generate _ _ _ _ _).comp (keeps_setRandResult _ _ _)),
        lookup_setRandResult _ _ _, rfl, rfl⟩
  case area_ =>
    exact ⟨_, exec_randomRequestEnd_area hx hb ho hd, only_drivePins (keeps_setRandResult _ _ _), lookup_setRandResult _ _ _⟩
  case staging =>
    have hin : x.dst < 0x80000000 := by
      have := List.length_pos_iff.2 ho
      unfold stagingAddr at hhi
      omega
    refine ⟨_, exec_randomRequestEnd_staging hx hb ho hrun hlo hhi,
      only_drivePins ((keeps_farWrite_inWorkMem hin).comp (keeps_setRandResult _ _ _)), lookup_setRandResult _ _ _,
      fun y => ?_⟩
    rw [drivePins_wmem, (keeps_setRandResult _ _ _).wmem, farWrite_inWorkMem hin]
    exact tget_wmemWrite _ _ _ _
  case empty =>
    exact ⟨_, exec_randomRequestEnd_empty hx hb ho, only_drivePins (keeps_setRandResult _ _ _), lookup_setRandResult _ _ _⟩

/-! ### A command that returns to its ready list (R133, R340) -/

theorem keeps_refreshDrr (s : State) (cl level : Nat) : Keeps [.so] s (refreshDrr s cl level) := by
  intro p hp
  cases p
  case so => simp at hp
  all_goals rfl

/-- A new eligible entry takes no pre-selection from a cluster that still has room (R126). -/
theorem noteEligible_of_roomy {s : State} {cl : Nat} (level : Nat) (h : roomy s cl = true) :
    noteEligible s cl level = refreshDrr s cl level := by
  exact if_pos h

theorem roomy_congr {s t : State} (h : t.cores = s.cores) (cl : Nat) : roomy t cl = roomy s cl := by
  simp only [roomy, State.core_congr h]

/-- An entry noted on a ready list with room touches the Sorting Office alone, and no command of it. -/
theorem noteEntry_of_roomy {s : State} {e l : Nat} {c : Cmd} (hc : s.cmd e = some c) (hl : c.list = some l)
    (h : roomy s l = true) : Keeps [.so] s (noteEntry s e) ∧ (noteEntry s e).so.cmds = s.so.cmds := by
  simp only [noteEntry, hc, hl]
  split
  · rw [noteEligible_of_roomy _ h]
    exact ⟨keeps_refreshDrr _ _ _, rfl⟩
  · exact ⟨Keeps.refl _ _, rfl⟩

/-- The command at the tail of the placement order, ready again. -/
def tailed (s : State) (e : Nat) (c : Cmd) : State :=
  ({ s with so := { s.so with nextOrder := s.so.nextOrder + 1 } }).setCmd e
    { c with stage := .ready, eligible := c.landed, order := s.so.nextOrder + 1 }

theorem tailed_cmd (s : State) (e : Nat) (c : Cmd) : (tailed s e c).cmd e = some { c with
    stage := .ready, eligible := c.landed, order := s.so.nextOrder + 1 } := State.cmd_setCmd _ _ _

theorem keeps_tailed (s : State) (e : Nat) (c : Cmd) : Keeps [.so] s (tailed s e c) := by
  intro p hp
  cases p
  case so => simp at hp
  all_goals rfl

/-- A command that holds its place in a ready list with room returns to the list's tail. -/
theorem requeue_of_roomy {s : State} {e l : Nat} {c : Cmd} (hl : c.list = some l) (h : roomy s l = true) :
    Keeps [.so] s (requeue s e c) ∧ (requeue s e c).cmd e = some { c with
      stage := .ready, eligible := c.landed, order := s.so.nextOrder + 1 } := by
  have heq : requeue s e c = noteEntry (tailed s e c) e := by
    unfold requeue
    dsimp only
    split
    next => rfl
    next h => exact absurd (hl.symm.trans h) (by simp)
  have hk := keeps_tailed s e c
  obtain ⟨hn, hcmds⟩ := noteEntry_of_roomy (tailed_cmd s e c) hl ((roomy_congr hk.cores l).trans h)
  rw [heq]
  refine ⟨hk.trans hn, ?_⟩
  rw [State.cmd, hcmds]
  exact tailed_cmd s e c

section
variable {s : State} {e due : Nat} {c : Cmd}

theorem exec_entropyRelease (hc : s.cmd e = some c) (hst : c.stage = .delayed 0 due) :
    exec (.entropyRelease e) s =
      answer (if waitOver s c.waitInst then requeue s e { c with waiting := false } else s) := by
  show execEntropyRelease e s = _
  simp only [execEntropyRelease, hc, hst]

theorem exec_entropyWaitExpiry (hc : s.cmd e = some c) (hst : c.stage = .delayed 0 due) :
    exec (.entropyWaitExpiry e) s = answer (if waitOver s c.waitInst then requeue s e { c with waiting := false }
      else completeWith s e entropyNotReady) := by
  show execEntropyWaitExpiry e s = _
  simp only [execEntropyWaitExpiry, hc, hst]

end

theorem entropyWaits : Claims.EntropyWaits := by
  intro s e due c hc hst
  have hrel := exec_entropyRelease hc hst
  have hexp := exec_entropyWaitExpiry hc hst
  refine ⟨fun hover => ?releases, fun hover => ?waits⟩
  case releases =>
    rw [if_pos hover] at hrel hexp
    refine ⟨hrel, hexp, fun l hl hroom => ?_⟩
    obtain ⟨hk, hcmd⟩ := requeue_of_roomy (e := e) (c := { c with waiting := false }) hl hroom
    exact ⟨_, hrel, only_drivePins hk, hcmd⟩
  case waits =>
    rw [if_neg (by simp [hover])] at hrel hexp
    have hk := keeps_completeWith (s := s) (e := e) (st := entropyNotReady) rfl
    obtain ⟨p, b, hcmd⟩ := completeWith_cmd (st := entropyNotReady) hc rfl
    refine ⟨hrel, _, hexp, ?_, ?_, _, hcmd, rfl, rfl, rfl, rfl⟩
    · rw [drivePins_wmem, hk.wmem]
    · rw [drivePins_keys, hk.keys]

/-- Settles O18: each request by the check that stops it or by its draw, each wait by whether its instance can serve. -/
theorem entropyServes : Obligations.EntropyServes := ⟨randomRequests, entropyWaits⟩

end Sys2Proof.Machine
end

section
/-! ENABLE starts a ring, and its clearing drains it (R78, R79, R443). -/

namespace Sys2Proof.Machine

/-! ### The pigeonhole table -/

@[simp] theorem State.ph_setPh (s : State) (n : Nat) (p : Ph) : (s.setPh n p).ph n = p := tget_tset_same _ _ _ _

theorem State.ph_setPh_other (s : State) {n m : Nat} (p : Ph) (h : m ≠ n) : (s.setPh n p).ph m = s.ph m :=
  tget_tset_other _ _ _ _ _ h

theorem keeps_setPh (s : State) (n : Nat) (p : Ph) : Keeps [.so] s (s.setPh n p) := by
  intro q hq
  cases q
  case so => simp at hq
  all_goals rfl

/-! ### ENABLE (R78, R79) -/

section
variable {s : State} {fn : Fn} {ph vector : BitVec 6} {dl : BitVec 5} {n : Nat}

/-- A ring configuration that ENABLE refuses with BAD_FIELD (R78). -/
def ringInvalid (p : Ph) (fn : Fn) (dl : BitVec 5) (vector : BitVec 6) : Prop :=
  dl.toNat < 6 ∨ dl.toNat > 16 ∨ p.sqBase.toNat % 4096 ≠ 0 ∨ p.cqBase.toNat % 4096 ≠ 0 ∨ (fn.vf = 0 ∧ vector.toNat > 31)

theorem exec_enable_ignored (hat : AtPh s fn ph.toNat n)
    (h : (s.ph n).enable = true ∨ (s.ph n).draining = true) : exec (.enable fn ph dl vector) s = answer s := by
  show answer (onPh s fn ph.toNat _) = _
  rw [onPh_of_atPh hat]
  exact congrArg answer (if_pos (by simpa [or_assoc] using Or.inl h))

section
variable (hat : AtPh s fn ph.toNat n) (he : (s.ph n).enable = false) (hd : (s.ph n).draining = false)
  (hslot : slotStateOf s (slotOfFn fn) ≠ .destroying)
include hat he hd hslot

theorem exec_enable_invalid (h : ringInvalid (s.ph n) fn dl vector) : exec (.enable fn ph dl vector) s =
    answer (s.setPh n ({ s.ph n with enable := true, depthLog2 := dl, vector := vector }.fail badField)) := by
  show answer (onPh s fn ph.toNat _) = _
  rw [onPh_of_atPh hat]
  exact congrArg answer ((if_neg (by simp [he, hd, hslot])).trans (if_pos h))

theorem exec_enable_valid (h : ¬ ringInvalid (s.ph n) fn dl vector) : exec (.enable fn ph dl vector) s =
    answer (s.setPh n { s.ph n with
      enable := true, depthLog2 := dl, vector := vector, sqHead := 0, sqTail := 0, cqHead := 0, cqTail := 0,
      phase := true, state := if slotStateOf s (slotOfFn fn) = .active then .ready else .quiesced, resume := .ready,
      recTail := none, recHead := none, error := 0, credits := 0 }) := by
  show answer (onPh s fn ph.toNat _) = _
  rw [onPh_of_atPh hat]
  exact congrArg answer ((if_neg (by simp [he, hd, hslot])).trans (if_neg h))

end

theorem exec_enableOff (hat : AtPh s fn ph.toNat n) (he : (s.ph n).enable = true) (hd : (s.ph n).draining = false)
    (hslot : slotStateOf s (slotOfFn fn) ≠ .destroying) : exec (.enableOff fn ph) s =
      answer (s.setPh n { s.ph n with enable := false, draining := true, credits := 0 }) := by
  show answer (onPh s fn ph.toNat _) = _
  rw [onPh_of_atPh hat]
  exact congrArg answer (if_neg (by simp [he, hd, hslot]))

end

theorem ringEnables : Claims.RingEnables := by
  intro s fn ph vector dl n p st i valid hat
  have hvalid : ringInvalid p fn dl vector ↔ ¬ valid := by
    by_cases hvf : fn.vf = 0
    · simp only [ringInvalid, valid, hvf, true_and, true_implies]
      omega
    · simp only [ringInvalid, valid, hvf, false_and, false_implies, or_false, and_true]
      omega
  refine ⟨fun he hd hst hv => exec_enable_valid hat he hd hst (fun h => hvalid.1 h hv), fun he hd hst hv => ?invalid,
    fun h => exec_enable_ignored hat h⟩
  case invalid =>
    refine ⟨_, exec_enable_invalid hat he hd hst (hvalid.2 hv), only_drivePins (keeps_setPh _ _ _),
      fun m hm => State.ph_setPh_other s _ hm, ?_⟩
    have hph (q : Ph) : (drivePins (s.setPh n q)).ph n = q := State.ph_setPh s n q
    rw [hph]
    exact ⟨rfl, rfl, rfl, rfl⟩

/-! ### The drain (R79) -/

theorem exec_ringDrainEnd (s : State) (g : BitVec 12) : exec (.ringDrainEnd g) s = answer (
    if (s.ph g.toNat).draining && !(s.so.cmds.any (fun x => x.2.ph == g.toNat)) then
      s.setPh g.toNat { (s.ph g.toNat).unforce with
        state := .disabled, draining := false, error := 0, timer := none, unsignalled := 0 }
    else s) := rfl

theorem ringDrains : Claims.RingDrains := by
  intro s fn ph g n p q
  refine ⟨fun hat he hd hst => exec_enableOff hat he hd hst, fun hd hnone => ?ends, fun ⟨x, hx, hph⟩ => ?stays⟩
  case ends =>
    have hany : s.so.cmds.any (fun x => x.2.ph == g.toNat) = false := by
      rw [List.any_eq_false]
      exact fun x hx h => hnone x hx (eq_of_beq h)
    exact (exec_ringDrainEnd s g).trans (congrArg answer (if_pos (by simp [show (s.ph g.toNat).draining = true from hd, hany])))
  case stays =>
    have hany : s.so.cmds.any (fun x => x.2.ph == g.toNat) = true := List.any_eq_true.2 ⟨x, hx, beq_iff_eq.2 hph⟩
    exact (exec_ringDrainEnd s g).trans (congrArg answer (if_neg (by simp [hany])))

/-- Settles O19: ENABLE by the validity of the configuration, the drain by whether a command of the ring is left. -/
theorem ringsStartAndDrain : Obligations.RingsStartAndDrain := ⟨ringEnables, ringDrains⟩

end Sys2Proof.Machine
end

section
/-! Fetch credits and the placement of pending commands (R83, R113, R115 to R122). -/

namespace Sys2Proof.Machine

/-! ### The rotation of one slot (R117) -/

/-- Among one active slot a rotation that lists it at most once holds it alone. -/
theorem drrRefresh_single {rot : List DrrEntry} {slot : Nat} (h : (rot.filter (fun r => r.slot == slot)).length ≤ 1) :
    ∃ r, drrRefresh rot [slot] = [r] ∧ r.slot = slot := by
  have hkeep : rot.filter (fun r => [slot].contains r.slot) = rot.filter (fun r => r.slot == slot) :=
    List.filter_congr (fun r _ => by rw [Bool.eq_iff_iff]; simp)
  unfold drrRefresh
  rw [hkeep]
  rcases hl : rot.filter (fun r => r.slot == slot) with _ | ⟨r, _ | ⟨r', l⟩⟩
  · have hany : rot.any (fun r => r.slot == slot) = false := by
      rw [List.any_eq_false]
      exact fun r hr hs => List.filter_eq_nil_iff.1 hl r hr hs
    exact ⟨⟨slot, 0, false⟩, by simp only [hl, List.filter_cons, hany, Bool.not_false, if_true, List.filter_nil, List.map_cons,
      List.map_nil, List.nil_append], rfl⟩
  · have hr : r ∈ rot.filter (fun r => r.slot == slot) := by rw [hl]; exact List.mem_singleton.2 rfl
    obtain ⟨hmem, hs⟩ := List.mem_filter.1 hr
    have hany : rot.any (fun r => r.slot == slot) = true := List.any_eq_true.2 ⟨r, hmem, hs⟩
    exact ⟨r, by simp only [hl, List.filter_cons, hany, Bool.not_true, Bool.false_eq_true, if_false, List.filter_nil,
      List.map_nil, List.append_nil], eq_of_beq hs⟩
  · rw [hl] at h
    simp at h

/-- The one slot of a rotation is picked within two rounds, where its quantum pays for one fetch. -/
theorem drrPick_single {q : Nat → Nat} {r : DrrEntry} {f : Nat} (h : 1 ≤ q r.slot) :
    ∃ rot, drrPick q (fun _ => 1) (f + 2) [r] = some (r.slot, rot) := by
  unfold drrPick
  by_cases hd : (if r.visited then r.deficit else r.deficit + q r.slot) ≥ 1
  · exact ⟨_, if_pos hd⟩
  · rw [if_neg hd, List.nil_append]
    unfold drrPick
    have hpay : ∀ d : Nat, (if false = true then d else d + q r.slot) ≥ 1 := fun d => by
      rw [if_neg Bool.false_ne_true]
      omega
    exact ⟨_, if_pos (hpay _)⟩

theorem two_le_drrFuel (q c : Nat → Nat) (l : List Nat) : ∃ f, drrFuel q c l = f + 2 := by
  refine ⟨drrFuel q c l - 2, (Nat.sub_add_cancel ?_).symm⟩
  unfold drrFuel
  calc 2 = 2 * 1 := rfl
    _ ≤ _ := Nat.mul_le_mul (Nat.le_add_left _ _) (Nat.le_add_left _ _)

theorem exec_fetchCredit_none {s : State} {b : Bool} (h : creditList s b = []) : exec (.fetchCredit b) s = answer s := by
  show execFetchCredit b s = _
  simp only [execFetchCredit, h, List.map_nil, argMin]

/-- The fetch state after a credit to one pigeonhole. -/
def creditGiven (s : State) (key slot n : Nat) (rot : List DrrEntry) : State :=
  ({ s with so := { s.so with fetchDrr := tset [] s.so.fetchDrr key rot,
                              lastPh := tset 0 s.so.lastPh slot (n + 1) } }).setPh n
    { s.ph n with credits := (s.ph n).credits + 1 }

theorem keeps_creditGiven (s : State) (key slot n : Nat) (rot : List DrrEntry) :
    Keeps [.so] s (creditGiven s key slot n rot) := by
  intro p hp
  cases p
  case so => simp at hp
  all_goals rfl

theorem exec_fetchCredit_one {s : State} {b : Bool} {n slot lv : Nat} (h : creditList s b = [(n, slot, lv)])
    (hw : 1 ≤ slotWeight s slot)
    (hr : ((tget [] s.so.fetchDrr ((if b then 8 else 0) + lv)).filter (fun r => r.slot == slot)).length ≤ 1) :
    ∃ rot, exec (.fetchCredit b) s = answer (emit (creditGiven s ((if b then 8 else 0) + lv) slot n rot)
      (.fetch n (((s.ph n).sqHead + (s.ph n).credits) % (s.ph n).depth))) := by
  obtain ⟨r, hrot, hslot⟩ := drrRefresh_single hr
  obtain ⟨f, hf⟩ := two_le_drrFuel (slotWeight s) (fun _ => 1) [slot]
  obtain ⟨rot, hpick⟩ := drrPick_single (f := f) (show 1 ≤ slotWeight s r.slot by rw [hslot]; exact hw)
  refine ⟨rot, ?_⟩
  show execFetchCredit b s = _
  have hhead : ((([n].filter (fun n => decide (n ≥ tget 0 s.so.lastPh slot))) ++ [n]).head?) = some n := by
    by_cases hn : n ≥ tget 0 s.so.lastPh slot <;> simp [hn]
  simp only [execFetchCredit, h, List.map_cons, List.map_nil, argMin, List.filter_cons, beq_self_eq_true, if_true,
    List.filter_nil, distinct, hrot, hf, hpick, hslot]
  simp only [List.filter_cons, List.filter_nil] at hhead
  rw [hhead]
  rfl

theorem fetchCredits : Claims.FetchCredits := by
  intro s b n slot lv
  refine ⟨fun h hw hr => ?one, exec_fetchCredit_none⟩
  case one =>
    obtain ⟨rot, hex⟩ := exec_fetchCredit_one h hw hr
    refine ⟨_, hex, only_drivePins ((keeps_creditGiven s _ _ _ _).comp (keeps_emit _ _)), ?_, rfl, ?_⟩
    · exact State.ph_setPh _ _ _
    · rw [drivePins_outbox]
      rfl

/-! ### Placement (R115, R122) -/

/-- What a running choice ends with is one of the list, or what it began with. -/
theorem mem_of_foldl_choice {α : Type} {choose : Option α → α → Option α}
    (hc : ∀ b x, choose b x = some x ∨ choose b x = b) (l : List α) (i : Option α) {x : α}
    (h : l.foldl choose i = some x) : x ∈ l ∨ i = some x := by
  induction l generalizing i with
  | nil => exact Or.inr h
  | cons y l ih =>
    obtain hmem | hi := ih _ h
    · exact Or.inl (List.mem_cons_of_mem _ hmem)
    · obtain hy | hb := hc i y
      · exact Or.inl (List.mem_cons.2 (Or.inl (Option.some.inj (hi.symm.trans hy))))
      · exact Or.inr (hb.symm.trans hi)

/-- The next pending command can be placed. -/
theorem nextPending_placeable {s : State} {e : Nat} {c : Cmd} (h : nextPending s = some (e, c)) : placeable s c = true := by
  unfold nextPending at h
  obtain hmem | hnone := mem_of_foldl_choice (fun b x => by
    split
    · exact Or.inl rfl
    · split
      · exact Or.inl rfl
      · exact Or.inr rfl) _ none h
  · exact (List.mem_filter.1 hmem).2
  · exact absurd hnone (by simp)

/-- A table reads through a filter on its keys. -/
theorem lookup_filter_key {α : Type} (p : Nat → Bool) (t : List (Nat × α)) (n : Nat) :
    lookup (t.filter (fun x => p x.1)) n = if p n then lookup t n else none := by
  induction t with
  | nil => simp [lookup]
  | cons x t ih =>
    obtain ⟨k, v⟩ := x
    rw [List.filter_cons]
    by_cases hk : p k
    · rw [if_pos hk]
      by_cases hn : n = k
      · simp [lookup, hn, hk]
      · simp only [lookup, if_neg hn, ih]
    · rw [if_neg hk, ih]
      by_cases hn : n = k
      · simp [hn, hk]
      · simp only [lookup, if_neg hn]

theorem clearScratch_octet (s : State) (e y : Nat) : tget 0 (clearScratch s e).wmem y =
    if scratchAddr e ≤ y ∧ y < scratchAddr e + 512 then 0 else tget 0 s.wmem y := by
  unfold tget clearScratch
  dsimp only
  rw [lookup_filter_key (fun x => decide (x < scratchAddr e ∨ scratchAddr e + 512 ≤ x))]
  by_cases hy : scratchAddr e ≤ y ∧ y < scratchAddr e + 512
  · rw [if_pos hy, if_neg (by simp; omega)]
    rfl
  · rw [if_neg hy, if_pos (by simp; omega)]

/-- The command on its ready list, its scratch area zero on its first turn. -/
def placedOn (s : State) (e l : Nat) (c : Cmd) : State :=
  ({ (if c.turn = 0 then clearScratch s e else s) with
      so := { s.so with nextOrder := s.so.nextOrder + 1 } }).setCmd e
    { c with level := cmdLevel s c, stage := .ready, list := some l, order := s.so.nextOrder + 1, eligible := c.landed }

theorem place_eq {s : State} {e l : Nat} {c : Cmd} (hs : ((s.ph c.ph).serial && earlierOn s c) = false)
    (hl : targetList s { c with level := cmdLevel s c } = some l) (hr : readyCount s l < 1024) :
    place s e c = placedOn s e l c := by
  unfold place
  dsimp only
  rw [hl]
  dsimp only
  have hs' : ((s.ph c.ph).serial && earlierOn s { c with level := cmdLevel s c }) = false := hs
  rw [if_neg (by simp only [hs', Bool.false_or, decide_eq_true_eq]; omega)]
  unfold placedOn
  split <;> rfl

theorem keeps_placedOn (s : State) (e l : Nat) (c : Cmd) : Keeps [.so, .wmem] s (placedOn s e l c) := by
  intro p hp
  unfold placedOn
  split
  all_goals
    cases p
    case so | wmem => simp at hp
    all_goals rfl

theorem placedOn_octet (s : State) (e l : Nat) (c : Cmd) (y : Nat) : tget 0 (placedOn s e l c).wmem y =
    if c.turn = 0 ∧ scratchAddr e ≤ y ∧ y < scratchAddr e + 512 then 0 else tget 0 s.wmem y := by
  unfold placedOn
  by_cases ht : c.turn = 0
  · simp only [ht, if_true, true_and]
    exact clearScratch_octet s e y
  · simp only [ht, if_false, false_and]
    rfl

/-- An entry that is not eligible makes no note. -/
theorem noteEntry_of_ineligible {s : State} {e : Nat} {c : Cmd} (hc : s.cmd e = some c) (h : c.eligible = false) :
    noteEntry s e = s := by
  simp only [noteEntry, hc, h, Bool.and_false, Bool.false_eq_true, if_false]

theorem pendingIsPlaced : Claims.PendingIsPlaced := by
  intro s e l c
  refine ⟨fun hnext hland hl => ?placed, fun hnone => ?none⟩
  case placed =>
    have hp := nextPending_placeable hnext
    simp only [placeable, Bool.and_eq_true, Bool.not_eq_true'] at hp
    obtain ⟨⟨-, hserial⟩, hroom⟩ := hp
    rw [show targetList s c = some l from hl] at hroom
    have hplace := place_eq (e := e) hserial hl (of_decide_eq_true hroom)
    have hcmd : (placedOn s e l c).cmd e = some { c with
        level := cmdLevel s c, stage := .ready, list := some l, order := s.so.nextOrder + 1, eligible := c.landed } :=
      State.cmd_setCmd _ _ _
    have hex : exec .pendingPlacement s = answer (placedOn s e l c) := by
      show execPendingPlacement s = _
      simp only [execPendingPlacement, hnext, hplace]
      rw [noteEntry_of_ineligible hcmd hland]
    exact ⟨_, hex, only_drivePins (keeps_placedOn _ _ _ _), hcmd.trans (by rw [hland]), placedOn_octet s e l c⟩
  case none =>
    show execPendingPlacement s = _
    simp only [execPendingPlacement, hnone]

/-- Settles O21: the rotation of one slot picks it, and the next pending command's list has room. -/
theorem descriptorsAreScheduled : Obligations.DescriptorsAreScheduled := ⟨fetchCredits, pendingIsPlaced⟩

end Sys2Proof.Machine
end

section
/-! The checks at the fetch, in their order, and replayed results (R85, R94, R105, R108, R109). -/

namespace Sys2Proof.Machine

/-! ### A descriptor that arrives -/

/-- The command of a fetched descriptor (R94). -/
def fetchedCmd (s : State) (n slot idx : Nat) (d : Descriptor) : Cmd :=
  { fn := fnOfSlot slot, idx := idx, ph := n, slot := slot, d := d, arrival := (stamp s n).1,
    fetchNo := s.so.nextFetch + 1 }

/-- The pigeonhole after the fetch: a credit less, SQ_HEAD moved on (R85). -/
def fetchedPh (s : State) (n : Nat) : Ph :=
  let p := s.ph n
  let depth := phDepth s n + 1
  { p with credits := p.credits - 1, sqHead := (p.sqHead + 1) % p.depth,
           maxDepth := if depth > p.maxDepth.toNat then BitVec.ofNat 16 depth else p.maxDepth }

/-- The module with the descriptor counted, before its command enters the table. -/
def fetchCounted (s : State) (n slot : Nat) : State :=
  let t := (stamp s n).2.setPh n (fetchedPh s n)
  { t with so := { t.so with
      fetched := tset ({} : Stat) t.so.fetched slot (tget ({} : Stat) t.so.fetched slot).inc
      nextFetch := t.so.nextFetch + 1 } }

/-- The module with the fetched descriptor's command in its table. -/
def fetched (s : State) (n slot idx e : Nat) (d : Descriptor) : State :=
  (fetchCounted s n slot).setCmd e (fetchedCmd s n slot idx d)

/-- A command in the table is completed by the first check that fails, or taken in. -/
def checkedIn (s : State) (e : Nat) (c : Cmd) : State :=
  match fetchCheck s c with
  | some st => completeWith s e st
  | none => takeIn s e c

theorem checkedIn_refused {s : State} {e : Nat} {c : Cmd} {st : Code} (h : fetchCheck s c = some st) :
    checkedIn s e c = completeWith s e st := by simp only [checkedIn, h]

theorem checkedIn_taken {s : State} {e : Nat} {c : Cmd} (h : fetchCheck s c = none) :
    checkedIn s e c = takeIn s e c := by simp only [checkedIn, h]

section
variable {s : State} {ph : BitVec 12} {d : Descriptor} {slot idx e : Nat}

theorem fetched_cmd (s : State) (n slot idx e : Nat) (d : Descriptor) :
    (fetched s n slot idx e d).cmd e = some (fetchedCmd s n slot idx d) := State.cmd_setCmd _ _ _

theorem fetched_ph (s : State) (n slot idx e : Nat) (d : Descriptor) : (fetched s n slot idx e d).ph n = fetchedPh s n :=
  State.ph_setPh _ _ _

theorem keeps_fetched (s : State) (n slot idx e : Nat) (d : Descriptor) :
    Keeps [.so, .free, .tb] s (fetched s n slot idx e d) := by
  intro p hp
  cases p
  case so | free | tb => simp at hp
  all_goals rfl

section
variable (howner : phOwner s ph.toNat = some (slot, idx)) (hfree : freeEntry s = some e) (hcred : 0 < (s.ph ph.toNat).credits)
  (hstate : (s.ph ph.toNat).state = .ready ∨ (s.ph ph.toNat).state = .opened) (hdrain : (s.ph ph.toNat).draining = false)
include howner hfree hcred hstate hdrain

theorem exec_descriptorFetch : exec (.descriptorFetch ph d) s =
    answer (checkedIn (fetched s ph.toNat slot idx e d) e (fetchedCmd s ph.toNat slot idx d)) := by
  have hfetches : (!((s.ph ph.toNat).state == .ready || (s.ph ph.toNat).state == .opened) || (s.ph ph.toNat).draining) = false := by
    obtain h | h := hstate <;> simp [h, hdrain]
  show execDescriptorFetch ph d s = _
  simp only [execDescriptorFetch, howner, hfree, if_neg (Nat.pos_iff_ne_zero.1 hcred), hfetches, Bool.false_eq_true, if_false]
  rfl

end
end

/-! ### The checks in their order (R94) -/

section
variable {s : State} {c : Cmd}

/-- Whether the pigeonhole's function may take commands now (R58, R50). -/
def tenantServed (s : State) : Prop := s.boot.mode = .service ∧ s.boot.tenantStop = false

theorem checkMode_tenant (h : c.slot < 512) :
    (¬ tenantServed s → checkMode s c = some (modeStatus s.boot.mode)) ∧ (tenantServed s → checkMode s c = none) := by
  refine ⟨fun hno => ?_, fun ⟨hm, ht⟩ => ?_⟩
  · have hout : (s.boot.mode != .service || s.boot.tenantStop) = true := by
      by_contra hx
      simp only [Bool.or_eq_true, not_or, Bool.not_eq_true, bne_eq_false_iff_eq] at hx
      exact hno hx
    simp only [checkMode, if_pos h, hout, if_true]
  · simp only [checkMode, if_pos h, hm, ht, bne_self_eq_false, Bool.or_self, Bool.false_eq_true, if_false]

theorem fetchCheck_mode (h : c.slot < 512) (hs : ¬ tenantServed s) : fetchCheck s c = some (modeStatus s.boot.mode) := by
  simp only [fetchCheck, (checkMode_tenant h).1 hs]

section
variable (h : c.slot < 512) (hs : tenantServed s)
include h hs

theorem fetchCheck_version (hv : versionOk (s.ph c.ph) c.d = false) : fetchCheck s c = some badVersion := by
  simp only [fetchCheck, (checkMode_tenant h).2 hs, hv, Bool.not_false, if_true]

variable (hv : versionOk (s.ph c.ph) c.d = true)
include hv

theorem fetchCheck_opcode
    (ho : opDefined s c.fn c.d.opcode (if (s.ph c.ph).inForce then (s.ph c.ph).version.toNat else 3) = false) :
    fetchCheck s c = some badOpcode := by
  simp only [fetchCheck, (checkMode_tenant h).2 hs, hv, ho, Bool.not_false, Bool.not_true, Bool.false_eq_true, if_false,
    if_true]

theorem fetchCheck_fields
    (ho : opDefined s c.fn c.d.opcode (if (s.ph c.ph).inForce then (s.ph c.ph).version.toNat else 3) = true) :
    fetchCheck s c = checkFields s c (if c.d.version = 0 then 0 else (s.ph c.ph).version.toNat) := by
  simp only [fetchCheck, (checkMode_tenant h).2 hs, hv, ho, Bool.not_true, Bool.false_eq_true, if_false]

end

/-- Flag bits 6 and 7 are reserved (R94 step 4). -/
theorem checkFields_flags (ver : Nat) (hf : c.d.flags.extractLsb' 6 2 ≠ 0) : checkFields s c ver = some badField := by
  simp only [checkFields]
  exact if_pos (Or.inl hf)

/-- A NOP with every other field zero passes (R94 steps 4 to 7). -/
theorem checkFields_nop (ver : Nat) (hop : c.d.opcode = 0x0003) (hflags : c.d.flags = 0) (hres : c.d.reserved = 0)
    (hlen : c.d.inLen = 0) (hin : c.d.inAddr = 0) (hout : c.d.outAddr = 0) (hpar : zeroAt c.d.params 0 24 = true) :
    checkFields s c ver = none := by
  have hfrank : wantsFrank c.d = false := by rw [wantsFrank, hflags]; rfl
  have hcrit : isCritical c.d = false := by rw [isCritical, hflags]; rfl
  have hinl : isInline c.d = false := by rw [isInline, hflags]; rfl
  have hfix : fixedLen c.d.opcode = some 0 := by rw [hop]; rfl
  have hused : inlineUsed c.d.opcode = 0 := by rw [hop]; rfl
  simp only [checkFields, hflags, hfrank, hcrit, hres, hinl, hlen, hin, hout, hfix, hused]
  simp [hop, hpar]

end

/-! ### Placement, whatever its outcome -/

/-- Placement changes the Sorting Office and, on a first turn, the scratch area; no pigeonhole. -/
theorem place_keeps (s : State) (e : Nat) (c : Cmd) :
    Keeps [.so, .wmem] s (place s e c) ∧ (place s e c).so.phs = s.so.phs ∧
    ∃ c', (place s e c).cmd e = some c' ∧ (c'.stage = .ready ∨ c'.stage = .pending) ∧
      c' = { c with level := cmdLevel s c, list := c'.list, stage := c'.stage, order := c'.order, eligible := c'.eligible } := by
  have hpend (c' : Cmd) : Keeps [.so, .wmem] s (s.setCmd e c') := (keeps_setCmd s e c').mono (by decide)
  unfold place
  dsimp only
  split
  next k _ =>
    split
    · exact ⟨hpend _, rfl, _, State.cmd_setCmd _ _ _, Or.inr rfl, rfl⟩
    · refine ⟨?_, ?_, _, State.cmd_setCmd _ _ _, Or.inl rfl, rfl⟩
      · intro p hp
        split
        all_goals
          cases p
          case so | wmem => simp at hp
          all_goals rfl
      · split <;> rfl
  next => exact ⟨hpend _, rfl, _, State.cmd_setCmd _ _ _, Or.inr rfl, rfl⟩

/-- A NOP that has passed its checks is placed (R94 steps 8 and 9). -/
theorem takeIn_nop {s : State} {e : Nat} {c : Cmd} (hop : c.d.opcode = 0x0003) :
    takeIn s e c = place s e { c with custom := false } := by
  have hcustom : customBody s c.d.opcode = none := by rw [hop]; rfl
  have halways : alwaysState s c.d.opcode = false := by
    rw [alwaysState, alwaysMirrored, hcustom, hop]
    rfl
  have hmay : mayCommit s c.d.opcode = false := by
    rw [mayCommit, halways, hop]
    rfl
  have h2 : c.d.opcode ≠ 0x0002 := by rw [hop]; decide
  simp only [takeIn, hmay, halways, hcustom, if_neg h2, Bool.false_eq_true, if_false, false_and, Option.isSome_none]

theorem frankable_modeStatus (m : Mode) : frankable (modeStatus m) = false := by
  cases m <;> rfl

theorem descriptorsAreChecked : Claims.DescriptorsAreChecked := by
  intro s ph d slot idx e p howner hfree hcred hstate hdrain hslot taken fails serves plain
  have hex := exec_descriptorFetch (d := d) howner hfree hcred hstate hdrain
  have hk := keeps_fetched s ph.toNat slot idx e d
  have hcmd := fetched_cmd s ph.toNat slot idx e d
  have hph := fetched_ph s ph.toNat slot idx e d
  have hserves : tenantServed (fetched s ph.toNat slot idx e d) ↔ serves := by
    rw [tenantServed, hk.boot]
  have hv : versionOk ((fetched s ph.toNat slot idx e d).ph (fetchedCmd s ph.toNat slot idx d).ph) d = versionOk p d := by
    rw [show (fetchedCmd s ph.toNat slot idx d).ph = ph.toNat from rfl, hph]
    rfl
  have hop : opDefined (fetched s ph.toNat slot idx e d) (fnOfSlot slot) d.opcode
      (if ((fetched s ph.toNat slot idx e d).ph (fetchedCmd s ph.toNat slot idx d).ph).inForce then
        ((fetched s ph.toNat slot idx e d).ph (fetchedCmd s ph.toNat slot idx d).ph).version.toNat else 3) =
      opDefined s (fnOfSlot slot) d.opcode (if p.inForce then p.version.toNat else 3) := by
    rw [show (fetchedCmd s ph.toNat slot idx d).ph = ph.toNat from rfl, hph]
    simp only [opDefined, customBody, hk.boot]
    rfl
  have hfails {st : Code} (hst : frankable st = false)
      (h : fetchCheck (fetched s ph.toNat slot idx e d) (fetchedCmd s ph.toNat slot idx d) = some st) : fails st := by
    rw [checkedIn_refused h] at hex
    obtain ⟨pm, b, hc⟩ := completeWith_cmd hcmd hst
    have hkc := keeps_completeWith (s := fetched s ph.toNat slot idx e d) (e := e) hst
    have hso := completeWith_so (s := fetched s ph.toNat slot idx e d) (e := e) hst
    refine ⟨_, hex, _, ⟨hc, rfl, rfl, rfl, ?_, ?_, ?_⟩, rfl, rfl, rfl, rfl, ?_⟩
    · show (tget ({} : Ph) (completeWith _ e st).so.phs ph.toNat).sqHead = _
      rw [hso]
      exact congrArg Ph.sqHead hph
    · rw [drivePins_keys, hkc.keys, hk.keys]
    · rw [drivePins_boot, hkc.boot, hk.boot]
    · rw [drivePins_wmem, hkc.wmem, hk.wmem]
  refine ⟨fun hno => ?mode, fun hs hver => ?version, fun hs hver hdef => ?opcode, fun hs hver hdef hflag => ?flags,
    fun hs hver hnop hplain => ?nop⟩
  case mode =>
    have h := fetchCheck_mode (c := fetchedCmd s ph.toNat slot idx d) hslot (mt hserves.1 hno)
    rw [hk.boot] at h
    exact hfails (frankable_modeStatus _) h
  case version =>
    exact hfails rfl (fetchCheck_version (c := fetchedCmd s ph.toNat slot idx d) hslot (hserves.2 hs) (hv.trans hver))
  case opcode =>
    exact hfails rfl (fetchCheck_opcode (c := fetchedCmd s ph.toNat slot idx d) hslot (hserves.2 hs) (hv.trans hver)
      (hop.trans hdef))
  case flags =>
    exact hfails rfl ((fetchCheck_fields (c := fetchedCmd s ph.toNat slot idx d) hslot (hserves.2 hs) (hv.trans hver)
      (hop.trans hdef)).trans (checkFields_flags _ hflag))
  case nop =>
    obtain ⟨hflags, hres, hlen, hin, hout, hpar⟩ := hplain
    have hdef : opDefined s (fnOfSlot slot) d.opcode (if p.inForce then p.version.toNat else 3) = true := by
      simp only [opDefined, hnop]
      rfl
    have hnone := (fetchCheck_fields (c := fetchedCmd s ph.toNat slot idx d) hslot (hserves.2 hs) (hv.trans hver)
      (hop.trans hdef)).trans (checkFields_nop _ hnop hflags hres hlen hin hout hpar)
    rw [checkedIn_taken hnone, takeIn_nop hnop] at hex
    obtain ⟨hkp, hphs, c', hc', hstage, heq⟩ :=
      place_keeps (fetched s ph.toNat slot idx e d) e { fetchedCmd s ph.toNat slot idx d with custom := false }
    refine ⟨_, hex, c', ⟨hc', by rw [heq]; rfl, by rw [heq]; rfl, by rw [heq]; rfl, ?_, ?_, ?_⟩, by rw [heq]; rfl,
      by rw [heq]; rfl, hstage⟩
    · show (tget ({} : Ph) (place _ e _).so.phs ph.toNat).sqHead = _
      rw [hphs]
      exact congrArg Ph.sqHead hph
    · rw [drivePins_keys, hkp.keys, hk.keys]
    · rw [drivePins_boot, hkp.boot, hk.boot]

/-! ### Replays (R108, R109) -/

section
variable {s : State} {e : Nat} {c : Cmd} {r : Replay}

theorem takeIn_found (hm : mayCommit s c.d.opcode = true) (hr : findReplay s c.slot c.ph c.d.cmdId = some r) :
    takeIn s e c = if r.opcode ≠ c.d.opcode then completeWith s e badField else completeReplayed s e c r := by
  simp only [takeIn, hm, hr, if_true]

theorem replayOutput_length (r : Replay) : (replayOutput r).length = 24 + r.output.length := by
  simp [replayOutput, Postmark.octets, zeros]
  omega

/-- The record's result is handed over where it fits (R108). -/
theorem completeReplayed_cmd (hj : c.journalled = false) (hs : c.stateChanging = false)
    (hcap : (replayOutput r).length ≤ c.d.outCap.toNat) :
    ∃ c', (completeReplayed s e c r).cmd e = some c' ∧ c'.status = replayedSt ∧ c'.output = replayOutput r ∧
      c'.franked = r.franked ∧ c'.stage = .done ∧ c'.dispatched = c.dispatched := by
  simp only [completeReplayed, handOff, State.cmd_setCmd, franks, Bool.not_true, Bool.and_false, Bool.false_eq_true, if_false,
    if_neg (Nat.not_lt.2 hcap), commits, hs, Bool.false_and, journalService, hj, gt_iff_lt]
  exact ⟨_, rfl, rfl, rfl, rfl, rfl, rfl⟩

end

theorem replayedCommands : Claims.ReplayedCommands := by
  intro s e c r hm hr hj hs header
  have htake : takeIn (s.setCmd e c) e c =
      if r.opcode ≠ c.d.opcode then completeWith (s.setCmd e c) e badField else completeReplayed (s.setCmd e c) e c r :=
    takeIn_found hm hr
  refine ⟨fun hne => ?other, fun heq hcap => ?same⟩
  case other =>
    rw [htake, if_pos hne]
    obtain ⟨p, b, hc⟩ := completeWith_cmd (State.cmd_setCmd s e c) (st := badField) rfl
    exact ⟨_, hc, rfl, rfl, rfl⟩
  case same =>
    rw [htake, if_neg (not_not.2 heq)]
    obtain ⟨c', hc, hst, hout, hrest⟩ := completeReplayed_cmd (s := s.setCmd e c) (e := e) hj hs
      (by rw [replayOutput_length]; exact hcap)
    exact ⟨c', hc, hst, hout, hrest⟩

/-- Settles O22: the checks of R94 one after another on the command that the fetch made, and the record of its key. -/
theorem fetchedCommandsAreChecked : Obligations.FetchedCommandsAreChecked := ⟨descriptorsAreChecked, replayedCommands⟩

end Sys2Proof.Machine
end

section
/-! The completion entry and its write (R86, R87, R96, R98, R103). -/

namespace Sys2Proof.Machine

/-! ### Octets at their offsets (R4) -/

theorem leNat_le (n v : Nat) : leNat (le n v) = v % 2 ^ (8 * n) := by
  induction n generalizing v with
  | zero => simp [le, leNat, Nat.mod_one]
  | succ n ih =>
    rw [le, leNat, ih, BitVec.toNat_ofNat, show 8 * (n + 1) = 8 + 8 * n by omega, pow_add, Nat.mod_mul]
    rfl

/-- A field of a record: what stands before it is as long as its offset. -/
theorem slice_field {a b : Octets} (c : Octets) {off n : Nat} (ha : a.length = off) (hb : b.length = n) :
    slice (a ++ (b ++ c)) off n = b := by
  rw [slice, fit, ← ha, List.drop_left, List.append_assoc, ← hb, List.take_left]

theorem slice_first {b : Octets} (c : Octets) {n : Nat} (hb : b.length = n) : slice (b ++ c) 0 n = b :=
  slice_field (a := []) c rfl hb

theorem slice_last {a b : Octets} {off n : Nat} (ha : a.length = off) (hb : b.length = n) : slice (a ++ b) off n = b := by
  have h := slice_field (b := b) [] ha hb
  rwa [List.append_nil] at h

theorem Postmark.octets_length (p : Postmark) : p.octets.length = 12 := by
  simp [Postmark.octets]

theorem completionEntryLayout : Claims.CompletionEntryLayout := by
  intro c phase pm svc o
  have hid : (le 8 c.d.cmdId.toNat).length = 8 := le_length _ _
  have hst : (le 2 c.status.toNat).length = 2 := le_length _ _
  have hlen : (le 4 c.outLen).length = 4 := le_length _ _
  have hsvc : (le 4 svc.toNat).length = 4 := le_length _ _
  have hpm := pm.octets_length
  have hflag : (if phase then 1 else 0) + (if c.franked then 2 else 0) + (if c.isPartial then 4 else 0) < 256 := by
    split <;> split <;> split <;> omega
  generalize hf : (if phase then 1 else 0) + (if c.franked then 2 else 0) + (if c.isPartial then 4 else 0) = f at hflag
  have ho : o = le 8 c.d.cmdId.toNat ++ (le 2 c.status.toNat ++ ([BitVec.ofNat 8 f] ++ ([0] ++ (le 4 c.outLen ++
      (pm.octets ++ le 4 svc.toNat))))) := by
    show completionOctets c phase pm svc = _
    simp only [completionOctets, hf, List.append_assoc, List.cons_append, List.nil_append]
  have hfield {a b : Octets} (c : Octets) {off n : Nat} (ha : a.length = off) (hb : b.length = n) :
      slice (a ++ (b ++ c)) off n = b := slice_field c ha hb
  refine ⟨?_, ?_, ?_, ?_, ?_, ?_, ?_, ?_⟩
  · rw [ho]
    simp [hpm]
  · rw [u64, ho, slice_first _ hid, leNat_le]
    exact Nat.mod_eq_of_lt c.d.cmdId.isLt
  · rw [u16, ho, hfield _ hid hst, leNat_le]
    exact Nat.mod_eq_of_lt c.status.isLt
  · rw [u8, ho, ← List.append_assoc, hfield (b := [BitVec.ofNat 8 f]) _ (by simp) (n := 1) rfl]
    simpa [leNat] using hflag
  · rw [u8, ho, ← List.append_assoc, ← List.append_assoc, hfield (b := [0]) _ (by simp) (n := 1) rfl]
    rfl
  · rw [u32, ho, ← List.append_assoc, ← List.append_assoc, ← List.append_assoc, hfield _ (by simp) hlen, leNat_le]
  · rw [ho, ← List.append_assoc, ← List.append_assoc, ← List.append_assoc, ← List.append_assoc, hfield _ (by simp) hpm]
  · rw [u32, ho, ← List.append_assoc, ← List.append_assoc, ← List.append_assoc, ← List.append_assoc, ← List.append_assoc,
      slice_last (by simp [hpm]) hsvc, leNat_le]
    exact Nat.mod_eq_of_lt svc.isLt

/-! ### What counting a completion leaves (R98) -/

/-- Pigeonhole n changes in its interrupt counting alone, the command table stays, and every message stays sent. -/
structure Counts (n : Nat) (s t : State) : Prop where
  keeps : Keeps [.so, .outbox, .msix, .slots] s t
  cmds : t.so.cmds = s.so.cmds
  ph : t.ph n = { s.ph n with unsignalled := (t.ph n).unsignalled, timer := (t.ph n).timer }
  sent : ∀ x ∈ s.outbox, x ∈ t.outbox

theorem Counts.refl (n : Nat) (s : State) : Counts n s s := ⟨Keeps.refl _ _, rfl, rfl, fun _ h => h⟩

theorem Counts.trans {n : Nat} {s t u : State} (h : Counts n s t) (g : Counts n t u) : Counts n s u :=
  ⟨h.keeps.trans g.keeps, g.cmds.trans h.cmds, by rw [g.ph, h.ph], fun x hx => g.sent x (h.sent x hx)⟩

/-- A pigeonhole's interrupt counting is changed. -/
theorem counts_setPh (n : Nat) (s : State) (m : Nat) (u : Nat) (t : Option Nat) :
    Counts n s (s.setPh m { s.ph m with unsignalled := u, timer := t }) := by
  refine ⟨(keeps_setPh s m _).mono (by decide), rfl, ?_, fun _ h => h⟩
  by_cases hm : n = m
  · rw [hm, State.ph_setPh]
  · rw [State.ph_setPh_other _ _ hm]

theorem counts_msixSend (n : Nat) (s : State) (fn : Fn) (v : Nat) : Counts n s (msixSend s fn v) := by
  have hso : (msixSend s fn v).so = s.so := (keeps_msixSend s fn v).so
  refine ⟨(keeps_msixSend s fn v).mono (by decide), by rw [hso], ?_, fun x hx => ?_⟩
  · simp only [State.ph, hso]
  · unfold msixSend
    dsimp only
    split
    · exact hx
    · exact List.mem_cons_of_mem _ hx

theorem counts_foldl {n : Nat} {f : State → Nat → State} (h : ∀ s m, Counts n s (f s m)) (l : List Nat) (s : State) :
    Counts n s (l.foldl f s) := by
  induction l generalizing s with
  | nil => exact Counts.refl n s
  | cons m l ih => exact (h s m).trans (ih _)

/-- Clearing the counts of the pigeonholes of a vector. -/
def cleared (s : State) (own : List Nat) (v : BitVec 6) : State :=
  own.foldl (fun s m => if (s.ph m).vector = v then s.setPh m { s.ph m with unsignalled := 0, timer := none } else s) s

theorem counts_cleared (n : Nat) (s : State) (own : List Nat) (v : BitVec 6) : Counts n s (cleared s own v) :=
  counts_foldl (fun s m => by
    dsimp only
    split
    · exact counts_setPh n s m 0 none
    · exact Counts.refl n s) own s

theorem fire_eq (s : State) (n : Nat) (p : Ph) (fn : Fn) : countCompletion.fire s n p fn =
    msixSend (cleared (s.setPh n p) (slotPhs (s.setPh n p) (slotOfFn fn)) p.vector) fn p.vector.toNat := rfl

theorem counts_fire (n : Nat) (s : State) (fn : Fn) (u : Nat) (t : Option Nat) :
    Counts n s (countCompletion.fire s n { s.ph n with unsignalled := u, timer := t } fn) := by
  rw [fire_eq]
  exact ((counts_setPh n s n u t).trans (counts_cleared n _ _ _)).trans (counts_msixSend n _ fn _)

theorem counts_countCompletion (s : State) (n : Nat) (fn : Fn) : Counts n s (countCompletion s n fn) := by
  unfold countCompletion
  dsimp only
  split
  · exact counts_fire n s fn _ _
  · split
    · exact counts_setPh n s n _ _
    · exact counts_setPh n s n _ _

/-! ### The completion write (R86, R96) -/

theorem counts_emit (n : Nat) (s : State) (m : Emit) : Counts n s (emit s m) :=
  ⟨(keeps_emit s m).mono (by decide), rfl, rfl, fun _ h => List.mem_cons_of_mem _ h⟩

/-- A note of pages written: only the slot's log and messages. -/
theorem counts_noteDirty (n : Nat) (s : State) (slot : Nat) (a : BitVec 64) (len : Nat) : Counts n s (noteDirty s slot a len) := by
  have hslot (s : State) (slot : Nat) (x : Slot) : Counts n s (s.setSlot slot x) :=
    ⟨by
      intro p hp
      cases p
      case slots => simp at hp
      all_goals rfl, rfl, rfl, fun _ h => h⟩
  unfold noteDirty
  split
  · exact Counts.refl n s
  · split
    · exact Counts.refl n s
    · exact (hslot s slot _).trans (counts_foldl (fun s j => counts_emit n s _) _ _)

/-- The output that the program has not written, then the completion entry, in host memory; the pages noted. -/
def entryWritten (s : State) (c : Cmd) : State :=
  let p := s.ph c.ph
  let a := p.cqBase + BitVec.ofNat 64 (32 * p.cqTail)
  let out := if (c.output.drop c.written).isEmpty then s
    else emit s (.hostWrite c.fn.portB (c.d.outAddr + BitVec.ofNat 64 c.written) (c.output.drop c.written))
  noteDirty (emit (noteDirty out c.slot c.d.outAddr c.output.length)
    (.hostWrite c.fn.portB a (completionOctets c p.phase c.completion (serviceTime c)))) c.slot a 32

theorem counts_entryWritten (n : Nat) (s : State) (c : Cmd) : Counts n s (entryWritten s c) := by
  unfold entryWritten
  dsimp only
  refine (((?_ : Counts n s _).trans (counts_noteDirty n _ _ _ _)).trans (counts_emit n _ _)).trans (counts_noteDirty n _ _ _ _)
  split
  · exact Counts.refl n s
  · exact counts_emit n s _

theorem entryWritten_sends (s : State) (c : Cmd) :
    Emit.hostWrite c.fn.portB ((s.ph c.ph).cqBase + BitVec.ofNat 64 (32 * (s.ph c.ph).cqTail))
      (completionOctets c (s.ph c.ph).phase c.completion (serviceTime c)) ∈ (entryWritten s c).outbox :=
  (counts_noteDirty 0 _ _ _ _).sent _ (List.mem_cons_self ..)

/-- CQ_TAIL after a completion, with the phase that turns at the wrap (R86). -/
def Ph.completed (p : Ph) : Ph :=
  { p with cqTail := (p.cqTail + 1) % p.depth, phase := if (p.cqTail + 1) % p.depth = 0 then !p.phase else p.phase }

section
variable {s : State} {e : Nat} {c : Cmd}

theorem writeCompletion_waits (hc : s.cmd e = some c) (hd : c.discarded = false) (hw : writable s c = false) :
    writeCompletion s e = s := by
  simp only [writeCompletion, hc, hd, hw, Bool.false_eq_true, if_false, Bool.not_false, if_true]

theorem writeCompletion_eq (hc : s.cmd e = some c) (hd : c.discarded = false) (hw : writable s c = true)
    (hst : c.stamped = true) (ha : c.after = .nothing) (hcl : c.closes = false) :
    writeCompletion s e = countCompletion
      (retireCmd ((entryWritten s c).setPh c.ph (s.ph c.ph).completed) e c) c.ph c.fn := by
  simp only [writeCompletion, hc, hd, hw, hst, Bool.false_eq_true, if_false, Bool.not_true, if_true,
    writeCompletion.afterWrite, ha, hcl, Bool.not_false]
  rfl

end

theorem retireCmd_facts (s : State) (e : Nat) (c : Cmd) : Keeps [.so] s (retireCmd s e c) ∧
    (retireCmd s e c).so.phs = s.so.phs ∧ (retireCmd s e c).cmd e = none := by
  have hcmd : lookup (removeAt s.so.cmds e) e = none := lookup_removeAt_same _ _
  unfold retireCmd
  dsimp only
  split
  all_goals
    refine ⟨?_, rfl, hcmd⟩
    intro p hp
    cases p
    case so => simp at hp
    all_goals rfl

/-- A written completion: the entry in the ring, the pigeonhole moved on, the command gone. -/
theorem writeCompletion_writes {s : State} {e : Nat} {c : Cmd} (hc : s.cmd e = some c) (hd : c.discarded = false)
    (hw : writable s c = true) (hst : c.stamped = true) (ha : c.after = .nothing) (hcl : c.closes = false) :
    Keeps [.so, .outbox, .msix, .slots] s (writeCompletion s e) ∧ (writeCompletion s e).cmd e = none ∧
    Emit.hostWrite c.fn.portB ((s.ph c.ph).cqBase + BitVec.ofNat 64 (32 * (s.ph c.ph).cqTail))
      (completionOctets c (s.ph c.ph).phase c.completion (serviceTime c)) ∈ (writeCompletion s e).outbox ∧
    ∃ u t, (writeCompletion s e).ph c.ph = { (s.ph c.ph).completed with unsignalled := u, timer := t } := by
  rw [writeCompletion_eq hc hd hw hst ha hcl]
  have hent := counts_entryWritten c.ph s c
  have hsends := entryWritten_sends s c
  generalize entryWritten s c = a at hent hsends
  obtain ⟨hk, hphs, hcmd⟩ := retireCmd_facts (a.setPh c.ph (s.ph c.ph).completed) e c
  have hph : (retireCmd (a.setPh c.ph (s.ph c.ph).completed) e c).ph c.ph = (s.ph c.ph).completed := by
    rw [State.ph, hphs]
    exact State.ph_setPh a c.ph _
  have hcount := counts_countCompletion (retireCmd (a.setPh c.ph (s.ph c.ph).completed) e c) c.ph c.fn
  have hkr : Keeps [.so] a (retireCmd (a.setPh c.ph (s.ph c.ph).completed) e c) := (keeps_setPh a c.ph _).trans hk
  refine ⟨(hent.keeps.comp hkr (rs := [.so, .outbox, .msix, .slots])).trans hcount.keeps, ?_, ?_, ?_⟩
  · rw [State.cmd, hcount.cmds]
    exact hcmd
  · exact hcount.sent _ (by rw [hkr.outbox]; exact hsends)
  · exact ⟨_, _, hcount.ph.trans (by rw [hph])⟩

theorem completionsAreWritten : Claims.CompletionsAreWritten := by
  intro s e c p t' hc hd
  have hex : exec (.completionWrite e) s = answer (writeCompletion s e) := rfl
  have hwaits (hw : writable s c = false) : exec (.completionWrite e) s = answer s := by
    rw [hex, writeCompletion_waits hc hd hw]
  refine ⟨fun hw hst ha hcl => ?written, fun hfull => hwaits ?full, fun ho he => hwaits ?order, fun hstage => hwaits ?stage⟩
  case written =>
    obtain ⟨hk, hcmd, hsent, u, v, hph⟩ := writeCompletion_writes hc hd hw hst ha hcl
    have hph' : (drivePins (writeCompletion s e)).ph c.ph = { p.completed with unsignalled := u, timer := v } := hph
    refine ⟨_, hex, only_drivePins hk, hcmd, by rw [drivePins_outbox]; exact hsent, ?_⟩
    rw [hph']
    exact ⟨rfl, rfl, rfl, rfl, rfl⟩
  case full =>
    have hroom : cqRoom (s.ph c.ph) = false := bne_eq_false_iff_eq.2 hfull
    simp only [writable, hroom, Bool.and_false, Bool.false_and]
  case order =>
    simp only [writable, show (s.ph c.ph).ordered = true from ho, he, Bool.and_self, Bool.not_true, Bool.and_false,
      Bool.false_and]
  case stage =>
    simp only [writable, beq_eq_false_iff_ne.2 hstage, Bool.false_and]

/-- Settles O23: the entry field by field, and the write by what stops it or by its effects in turn. -/
theorem completionsReachTheRing : Obligations.CompletionsReachTheRing := ⟨completionEntryLayout, completionsAreWritten⟩

end Sys2Proof.Machine
end

section
/-! Interrupts, faults of host memory, and the replay window (R71, R72, R98, R99, R108). -/

namespace Sys2Proof.Machine

/-! ### The interrupt of a vector (R98, R99) -/

theorem keeps_cleared (s : State) (own : List Nat) (v : BitVec 6) : Keeps [.so] s (cleared s own v) := by
  unfold cleared
  induction own generalizing s with
  | nil => exact Keeps.refl _ _
  | cons m own ih =>
    refine Keeps.trans ?_ (ih _)
    dsimp only
    split
    · exact keeps_setPh s m _
    · exact Keeps.refl _ _

/-- A pigeonhole mapped to the vector has nothing left to count. -/
theorem cleared_clears {s : State} {own : List Nat} {v : BitVec 6} {n : Nat} (hn : n ∈ own) (hv : (s.ph n).vector = v) :
    ((cleared s own v).ph n).unsignalled = 0 ∧ ((cleared s own v).ph n).timer = none := by
  have hstays (own : List Nat) : ∀ s : State, (s.ph n).unsignalled = 0 ∧ (s.ph n).timer = none →
      ((cleared s own v).ph n).unsignalled = 0 ∧ ((cleared s own v).ph n).timer = none := by
    unfold cleared
    induction own with
    | nil => exact fun s h => h
    | cons m own ih =>
      intro s h
      refine ih _ ?_
      dsimp only
      split
      · by_cases hm : n = m
        · rw [hm, State.ph_setPh]
          exact ⟨rfl, rfl⟩
        · rw [State.ph_setPh_other _ _ hm]
          exact h
      · exact h
  induction own generalizing s with
  | nil => exact absurd hn List.not_mem_nil
  | cons m own ih =>
    by_cases hm : n = m
    · refine hstays own _ ?_
      dsimp only
      rw [← hm, if_pos hv, State.ph_setPh]
      exact ⟨rfl, rfl⟩
    · refine ih (List.mem_of_ne_of_mem hm hn) ?_
      dsimp only
      split
      · rw [State.ph_setPh_other _ _ hm, hv]
      · exact hv

theorem msixSend_unmasked {s : State} {fn : Fn} {v : Nat} (h : (tget ({} : MsixVec) s.msix (msixKey fn v)).masked = false) :
    msixSend s fn v = emit s (.msix fn v) := if_neg (Bool.eq_false_iff.1 h)

theorem msixSend_masked {s : State} {fn : Fn} {v : Nat} (h : (tget ({} : MsixVec) s.msix (msixKey fn v)).masked = true) :
    msixSend s fn v = { s with
      msix := tset {} s.msix (msixKey fn v) { tget ({} : MsixVec) s.msix (msixKey fn v) with pending := true } } := if_pos h

theorem exec_coalesceTimer {s : State} {g : BitVec 12} {slot idx due : Nat} (ht : (s.ph g.toNat).timer = some due)
    (ho : phOwner s g.toNat = some (slot, idx)) : exec (.coalesceTimer g) s = answer (
      if (s.ph g.toNat).unsignalled > 0 then
        countCompletion.fire s g.toNat { s.ph g.toNat with timer := none } (fnOfSlot slot)
      else s.setPh g.toNat { s.ph g.toNat with timer := none }) := by
  show execCoalesceTimer g s = _
  simp only [execCoalesceTimer, ht, ho]

theorem exec_msixUnmask {s : State} {fn : Fn} {v : BitVec 6} (h : fn.vf ≠ 0 ∨ v.toNat < 40) :
    exec (.msixUnmask fn v) s = answer (
      let m := tget ({} : MsixVec) s.msix (msixKey fn v.toNat)
      let t := { s with msix := tset {} s.msix (msixKey fn v.toNat) { m with masked := false, pending := false } }
      if m.pending then emit t (.msix fn v.toNat) else t) := by
  have hno : ¬ ((fn.vf == 0) && decide (v.toNat ≥ 40)) = true := by
    simp only [Bool.and_eq_true, beq_iff_eq, decide_eq_true_eq, not_and, not_le]
    exact fun h0 => h.resolve_left (fun hne => hne h0)
  show execMsixUnmask fn v s = _
  exact congrArg answer (if_neg hno)

theorem interruptsSignal : Claims.InterruptsSignal := by
  intro s g slot idx due fn v p f key m
  refine ⟨fun ht ho hown => ⟨fun hu => ?signals, fun hu => ?quiet⟩, fun hfn => ?unmask⟩
  case signals =>
    have hex := exec_coalesceTimer ht ho
    rw [if_pos hu] at hex
    have hc := counts_fire g.toNat s f p.unsignalled none
    rw [fire_eq] at hex hc
    have hkeep : Keeps [.so] s (cleared (s.setPh g.toNat { p with timer := none })
        (slotPhs (s.setPh g.toNat { p with timer := none }) (slotOfFn f)) p.vector) :=
      (keeps_setPh s g.toNat _).trans (keeps_cleared _ _ _)
    have hzero := cleared_clears (s := s.setPh g.toNat { p with timer := none })
      (own := slotPhs (s.setPh g.toNat { p with timer := none }) (slotOfFn f)) (v := p.vector) hown (by rw [State.ph_setPh])
    generalize cleared (s.setPh g.toNat { p with timer := none })
      (slotPhs (s.setPh g.toNat { p with timer := none }) (slotOfFn f)) p.vector = t at hex hc hkeep hzero
    have hph : (drivePins (msixSend t f p.vector.toNat)).ph g.toNat = t.ph g.toNat := by
      simp only [State.ph, drivePins_so, (keeps_msixSend t f p.vector.toNat).so]
    refine ⟨_, hex, only_drivePins (hkeep.comp (keeps_msixSend t f _)), by rw [hph]; exact hzero.1,
      by rw [hph]; exact hzero.2, ?_, fun hm => ?_, fun hm => ?_⟩
    · rw [drivePins_so]
      exact hc.cmds
    · rw [drivePins_outbox, msixSend_unmasked (by rw [hkeep.msix]; exact hm), ← hkeep.outbox]
      rfl
    · rw [drivePins_outbox, drivePins_msix, msixSend_masked (by rw [hkeep.msix]; exact hm)]
      exact ⟨hkeep.outbox, by rw [tget_tset_same]⟩
  case quiet =>
    exact (exec_coalesceTimer ht ho).trans (congrArg answer (if_neg (Nat.not_lt.2 hu.le)))
  case unmask =>
    have hex := exec_msixUnmask (s := s) hfn
    dsimp only at hex
    have hk : Keeps [.msix] s { s with msix := tset {} s.msix (msixKey fn v.toNat) { m with masked := false, pending := false } } := by
      intro q hq
      cases q
      case msix => simp at hq
      all_goals rfl
    cases hpend : m.pending with
    | true =>
      rw [if_pos hpend] at hex
      refine ⟨_, hex, only_drivePins (hk.comp (keeps_emit _ _)), ?_, ?_⟩
      · rw [drivePins_msix]
        exact tget_tset_same _ _ _ _
      · rw [drivePins_outbox]
        rfl
    | false =>
      rw [if_neg (Bool.eq_false_iff.1 hpend)] at hex
      refine ⟨_, hex, only_drivePins (hk.mono (by decide)), ?_, ?_⟩
      · rw [drivePins_msix]
        exact tget_tset_same _ _ _ _
      · rw [drivePins_outbox]
        rfl

/-! ### Faults of host memory (R71, R72) -/

theorem keeps_countHostFault (s : State) (b : Bool) : Keeps [.portA, .portB] s (countHostFault s b) := by
  intro p hp
  cases b
  all_goals
    cases p
    case portA | portB => simp at hp
    all_goals rfl

/-- A command as a fault of host memory leaves it. -/
def Cmd.hostFailed (c : Cmd) (w : Nat) : Cmd :=
  { c with stage := .done, list := none, eligible := false, served := true, status := hostFault, output := [], outLen := w,
           written := 0, isPartial := decide (w > 0), effects := [], reserved := [] }

/-- A fault of a command that no core holds. -/
theorem failHost_of_waiting {s : State} {e w : Nat} {c : Cmd} (h1 : ∀ k, c.stage ≠ .running k)
    (h2 : ∀ k, c.stage ≠ .preselected k) :
    failHost s e c w = (countHostFault s c.fn.portB).setCmd e (c.hostFailed w) := by
  unfold failHost
  dsimp only
  split
  next k h => exact absurd h (h1 k)
  next k h => exact absurd h (h2 k)
  next => rfl

section
variable {s : State} {e n : Nat} {c : Cmd}

theorem exec_hostAccessFault_waits (hc : s.cmd e = some c) (hst : c.stage = .ready ∨ c.stage = .pending)
    (hp : (s.port c.fn.portB).priEnable = true) : exec (.hostAccessFault e true n) s = answer
      (emit (s.setCmd e { c with stage := .delayed 1 (dueTick s (ceilDiv 100000 s.so.sched.tick100ns)), eligible := false })
        (.pageRequest c.fn)) := by
  show execHostAccessFault e true n s = _
  obtain h | h := hst <;> simp only [execHostAccessFault, hc, h, hp, Bool.and_self, if_true] <;> rfl

theorem exec_hostAccessFault_fails {translation : Bool} (hc : s.cmd e = some c)
    (hst : c.stage = .ready ∨ c.stage = .pending) (hp : translation = false ∨ (s.port c.fn.portB).priEnable = false) :
    exec (.hostAccessFault e translation n) s = answer (failHost s e c (min n c.d.outCap.toNat)) := by
  have hno : (translation && (s.port c.fn.portB).priEnable) = false := by
    obtain h | h := hp <;> simp [h]
  show execHostAccessFault e translation n s = _
  obtain h | h := hst <;> simp only [execHostAccessFault, hc, h, hno, Bool.false_eq_true, if_false] <;> rfl

theorem exec_pageWaitExpiry {due : Nat} (hc : s.cmd e = some c) (hst : c.stage = .delayed 1 due) :
    exec (.pageWaitExpiry e) s = answer (failHost s e c c.written) := by
  show execPageWaitExpiry e s = _
  simp only [execPageWaitExpiry, hc, hst]

theorem exec_pageGrant {due : Nat} (hc : s.cmd e = some c) (hst : c.stage = .delayed 1 due) :
    exec (.pageGrant e) s = answer (requeue s e c) := by
  show execPageGrant e s = _
  simp only [execPageGrant, hc, hst]

end

theorem exec_ringAccessFault {s : State} {g : BitVec 12} {slot idx : Nat} (ho : phOwner s g.toNat = some (slot, idx))
    (h1 : (s.ph g.toNat).state ≠ .disabled) (h2 : (s.ph g.toNat).state ≠ .error) : exec (.ringAccessFault g) s =
      answer ((countHostFault s (fnOfSlot slot).portB).setPh g.toNat ((s.ph g.toNat).fail hostFault)) := by
  show execRingAccessFault g s = _
  simp only [execRingAccessFault, ho, beq_eq_false_iff_ne.2 h1, beq_eq_false_iff_ne.2 h2, Bool.or_self, Bool.false_eq_true,
    if_false]

theorem countHostFault_counts (s : State) (b : Bool) :
    ((countHostFault s b).port b).hostFaults = (s.port b).hostFaults.inc := by
  rw [countHostFault, State.port_setPort]

theorem hostFaults : Claims.HostFaults := by
  intro s e n due c g slot idx failed
  have hfails {i : Instr} {w : Nat} (h1 : ∀ k, c.stage ≠ .running k) (h2 : ∀ k, c.stage ≠ .preselected k)
      (hex : exec i s = answer (failHost s e c w)) : Gives i s fun t => Only [.so, .portA, .portB] s t ∧ failed t w ∧
        (t.port c.fn.portB).hostFaults = (s.port c.fn.portB).hostFaults.inc := by
    rw [failHost_of_waiting h1 h2] at hex
    refine ⟨_, hex, only_drivePins ((keeps_countHostFault s _).comp (keeps_setCmd _ _ _)),
      ⟨_, State.cmd_setCmd _ e _, rfl, rfl, rfl, rfl, rfl, by simp [Cmd.hostFailed]⟩, ?_⟩
    exact countHostFault_counts s c.fn.portB
  refine ⟨fun hc hst => ?access, fun hc hst => ?expired, fun ho h1 h2 => ?ring⟩
  case access =>
    have h1 : ∀ k, c.stage ≠ .running k := fun k => by obtain h | h := hst <;> simp [h]
    have h2 : ∀ k, c.stage ≠ .preselected k := fun k => by obtain h | h := hst <;> simp [h]
    refine ⟨fun hp => ?_, fun hp => ?_, ?_⟩
    · refine ⟨_, exec_hostAccessFault_waits hc hst hp, only_drivePins ((keeps_setCmd s e _).comp (keeps_emit _ _)), ?_,
        _, _, State.cmd_setCmd _ e _, rfl, rfl, rfl⟩
      rw [drivePins_outbox]
      rfl
    · obtain ⟨t, hex, hk, hf, -⟩ := hfails h1 h2 (exec_hostAccessFault_fails (translation := true) (n := n) hc hst (Or.inr hp))
      exact ⟨t, hex, hk, hf⟩
    · exact hfails h1 h2 (exec_hostAccessFault_fails hc hst (Or.inl rfl))
  case expired =>
    refine ⟨?_, fun l hl hroom => ?_⟩
    · obtain ⟨t, hex, hk, hf, -⟩ := hfails (by simp [hst]) (by simp [hst]) (exec_pageWaitExpiry hc hst)
      exact ⟨t, hex, hk, hf⟩
    · obtain ⟨hk, hcmd⟩ := requeue_of_roomy (e := e) (c := c) hl hroom
      exact ⟨_, exec_pageGrant hc hst, only_drivePins hk, hcmd⟩
  case ring =>
    have hph (q : Ph) : (drivePins ((countHostFault s (fnOfSlot slot).portB).setPh g.toNat q)).ph g.toNat = q :=
      State.ph_setPh _ _ q
    refine ⟨_, exec_ringAccessFault ho h1 h2, only_drivePins ((keeps_countHostFault s _).comp (keeps_setPh _ _ _)), ?_, ?_, ?_, ?_⟩
    · rw [hph]
      rfl
    · rw [hph]
      rfl
    · have hso : (countHostFault s (fnOfSlot slot).portB).so = s.so := (keeps_countHostFault s _).so
      rw [drivePins_so, State.setPh, hso]
    · exact countHostFault_counts s _

/-! ### The window of a replay record (R108) -/

theorem replayWindowEnds : Claims.ReplayWindowEnds := by
  intro s slot g id
  have hk : Keeps [.so] s { s with so := { s.so with
      replays := s.so.replays.filter (fun r => !(decide (r.slot = slot ∧ r.ph = g.toNat ∧ r.cmdId = id))) } } := by
    intro p hp
    cases p
    case so => simp at hp
    all_goals rfl
  refine ⟨_, rfl, only_drivePins hk, rfl, ?_, fun sl ph i hne => ?_⟩
  · rw [findReplay, drivePins_so, List.find?_filter, List.find?_eq_none]
    intro r _ h
    rw [decide_eq_true_eq, Bool.not_eq_true', decide_eq_false_iff_not, decide_eq_true_eq] at h
    exact h.1 h.2
  · rw [findReplay, findReplay, drivePins_so, List.find?_filter]
    congr 1
    funext r
    by_cases hr : r.slot = sl ∧ r.ph = ph ∧ r.cmdId = i
    · obtain ⟨rfl, rfl, rfl⟩ := hr
      have hother : ¬ (r.slot = slot ∧ r.ph = g.toNat ∧ r.cmdId = id) :=
        fun ⟨h1, h2, h3⟩ => hne (by rw [h1, h2, h3])
      simp [hother]
    · simp [hr]

/-- Settles O24: the vector's message by its mask, a fault by who waits, the window's end by the record's key. -/
theorem hostSideEvents : Obligations.HostSideEvents := ⟨interruptsSignal, hostFaults, replayWindowEnds⟩

end Sys2Proof.Machine
end

section
/-! Channel services, the landing of inputs, and which command a service acts on (R94, R100 to R105, R126, R390). -/

namespace Sys2Proof.Machine

/-! ### A service that changes no state of its own -/

/-- A service that makes its command no more state-changing than it was answers with its output. -/
theorem serves_of_work {i : Instr} {s b : State} {k w e : Nat} {op : Code} {body : Svc Octets} {c c' : Cmd} {out : Octets}
    (hx : exec i s = answer (runService s k op false w body)) (ha : Asked s k op e c)
    (hr : work body s e c = (.ok out, ⟨b, e, c'⟩)) (hsc : c'.stateChanging = c.stateChanging) : Serves i s b e c' out := by
  obtain ⟨hrun, hop, hcustom, hserved, hlanded⟩ := ha
  have hno : (c'.stateChanging && !c.stateChanging) = false := by
    rw [hsc]
    cases c.stateChanging <;> rfl
  unfold work at hr
  unfold Serves
  rw [hx]
  simp only [runService, hrun, hop, hcustom, hserved, hlanded, hr, hno, bne_self_eq_false, Bool.not_true, Bool.or_self,
    Bool.false_eq_true, if_false, Bool.false_and]
  rfl

theorem work_capacity_fits {s : State} {c : Cmd} {n : Nat} (h : Fits s c n) (e : Nat) :
    work (capacity n) s e c = (.ok (), ⟨s, e, c⟩) := by
  rw [work_capacity, if_neg (Nat.not_lt.2 h)]

/-! ### OPEN (R100, R101) -/

/-- The fields that OPEN must have in range (R100). -/
def openFieldsOk (c : Cmd) : Bool :=
  decide (u8 c.d.params 0 % 2 = 0 ∧ u8 c.d.params 0 < 16 ∧ u8 c.d.params 1 < 4 ∧ u8 c.d.params 2 ≤ 7) &&
    (decide (c.slot ≥ 512) || decide (u8 c.d.params 2 ≥ 1)) && zeroAt c.d.params 3 21

/-- The pigeonhole after an OPEN of a READY one. -/
def opened (s : State) (c : Cmd) (v : Nat) : State :=
  s.setPh c.ph { s.ph c.ph with
    state := .opened, resume := .opened, version := BitVec.ofNat 2 v, ordered := (u8 c.d.params 1).testBit 0,
    serial := (u8 c.d.params 1).testBit 1,
    defaultPrio := BitVec.ofNat 3 (max (u8 c.d.params 2) (slotMaxPrio s c.slot)), home := homeFor s c.slot }

/-- The 16 octets that OPEN answers (R101). -/
def openOutput (s : State) (c : Cmd) (v : Nat) : Octets :=
  le 1 v ++ le 1 (u8 c.d.params 1) ++ le 1 (max (u8 c.d.params 2) (slotMaxPrio s c.slot)) ++
    le 1 (slotMaxPrio s c.slot) ++ le 2 c.idx ++ le 2 c.slot ++ le 4 s.boot.fwBuild.toNat ++ zeros 4

section
variable {s : State} {c : Cmd} {v : Nat} (hstate : (s.ph c.ph).state = .ready) (hf : openFieldsOk c = true)
include hstate hf

theorem work_svcOpenCh (hv : commonVersion (u8 c.d.params 0) (cmdsetMask s c.slot) = some v)
    (ho : (u8 c.d.params 1).testBit 0 = true → v = 3) (hcap : Fits s c 16) (e : Nat) :
    work svcOpenCh s e c = (.ok (openOutput s c v), ⟨opened s c v, e, c⟩) := by
  have hcan : canOpen (s.ph c.ph) = true := by simp [canOpen, Ph.inForce, hstate]
  have hord : (!((u8 c.d.params 1).testBit 0 && decide (v < 3))) = true := by
    cases hb : (u8 c.d.params 1).testBit 0
    · rfl
    · simp [ho hb]
  unfold openFieldsOk at hf
  simp only [svcOpenCh, work_bind, work_getS, work_getC, work_need, hcan, hf, if_true, hv, work_pure, hord,
    work_capacity_fits hcap, work_modS]
  simp only [hstate, beq_self_eq_true, if_true]
  rfl

theorem work_svcOpenCh_refused (hv : commonVersion (u8 c.d.params 0) (cmdsetMask s c.slot) = none) (e : Nat) :
    work svcOpenCh s e c = (.error (.fail badVersion), ⟨s, e, c⟩) := by
  have hcan : canOpen (s.ph c.ph) = true := by simp [canOpen, Ph.inForce, hstate]
  unfold openFieldsOk at hf
  simp only [svcOpenCh, work_bind, work_getS, work_getC, work_need, hcan, hf, if_true, hv, work_fail]

end

/-! ### CLOSE's completion (R105) -/

/-- A written completion of a CLOSE on a CLOSING pigeonhole brings it back to READY. -/
theorem writeCompletion_closes {s : State} {e : Nat} {c : Cmd} (hc : s.cmd e = some c) (hd : c.discarded = false)
    (hw : writable s c = true) (hst : c.stamped = true) (ha : c.after = .nothing) (hcl : c.closes = true)
    (hstate : (s.ph c.ph).state = .closing) :
    Keeps [.so, .outbox, .msix, .slots] s (writeCompletion s e) ∧ (writeCompletion s e).cmd e = none ∧
    ((writeCompletion s e).ph c.ph).state = .ready ∧ ((writeCompletion s e).ph c.ph).version = 0 ∧
    ((writeCompletion s e).ph c.ph).ordered = false := by
  have hent := counts_entryWritten c.ph s c
  obtain ⟨hk, hphs, hcmd⟩ := retireCmd_facts ((entryWritten s c).setPh c.ph (s.ph c.ph).completed) e c
  have hcount := counts_countCompletion (retireCmd ((entryWritten s c).setPh c.ph (s.ph c.ph).completed) e c) c.ph c.fn
  have hph : ((countCompletion (retireCmd ((entryWritten s c).setPh c.ph (s.ph c.ph).completed) e c) c.ph c.fn).ph
      c.ph).state = .closing := by
    rw [hcount.ph]
    show ((retireCmd _ e c).ph c.ph).state = _
    rw [State.ph, hphs]
    show (((entryWritten s c).setPh c.ph (s.ph c.ph).completed).ph c.ph).state = _
    rw [State.ph_setPh]
    exact hstate
  have heq : writeCompletion s e =
      (let t := countCompletion (retireCmd ((entryWritten s c).setPh c.ph (s.ph c.ph).completed) e c) c.ph c.fn
       if (t.ph c.ph).state == .closing then t.setPh c.ph { (t.ph c.ph).unforce with state := .ready }
       else if (t.ph c.ph).state == .quiesced then t.setPh c.ph (t.ph c.ph).unforce else t) := by
    simp only [writeCompletion, hc, hd, hw, hst, Bool.false_eq_true, if_false, Bool.not_true, if_true,
      writeCompletion.afterWrite, ha, hcl]
    rfl
  have hkr : Keeps [.so] (entryWritten s c) (retireCmd ((entryWritten s c).setPh c.ph (s.ph c.ph).completed) e c) :=
    (keeps_setPh _ c.ph _).trans hk
  generalize countCompletion (retireCmd ((entryWritten s c).setPh c.ph (s.ph c.ph).completed) e c) c.ph c.fn = t
    at hph heq hcount
  dsimp only at heq
  rw [hph, beq_self_eq_true, if_pos rfl] at heq
  rw [heq]
  refine ⟨?_, ?_, ?_⟩
  · exact (((hent.keeps.comp hkr (rs := [.so, .outbox, .msix, .slots])).trans hcount.keeps).comp (keeps_setPh t c.ph _))
  · show lookup t.so.cmds e = none
    rw [hcount.cmds]
    exact hcmd
  · rw [State.ph_setPh]
    exact ⟨rfl, rfl, rfl⟩

theorem exec_closeComplete {s : State} {g : BitVec 12} {e : Nat} {c : Cmd}
    (h : s.so.cmds.find? (fun x => x.2.ph == g.toNat && x.2.closes) = some (e, c)) :
    exec (.closeComplete g) s = answer (writeCompletion s e) := by
  show execCloseComplete g s = _
  simp only [execCloseComplete, h]

theorem channelServices : Claims.ChannelServices := by
  intro s k e c p q mask prio
  refine ⟨fun ha hfit => ?nop, fun ha hfit => ?close, fun ha hfit => ?version, fun ha hp h0 h1 h2 h3 h4 h5 => ?opens,
    fun g hfind hc hd hw hst haft hclosing => ?closed⟩
  case nop =>
    exact serves_of_work (w := defaultWait) (body := svcNop) rfl ha
      (by simp only [svcNop, work_bind, work_capacity_fits hfit, work_pure]) rfl
  case close =>
    exact serves_of_work (w := defaultWait) (body := svcCloseCh) rfl ha
      (by simp only [svcCloseCh, work_bind, work_capacity_fits hfit, work_pure]) rfl
  case version =>
    refine serves_of_work (w := defaultWait) (body := svcVersion) rfl ha ?_ rfl
    simp only [svcVersion, work_bind, work_capacity_fits hfit, work_getS, work_getC, work_pure]
    simp only [List.append_assoc]
    rfl
  case opens =>
    have hf : openFieldsOk c = true := by
      have h4' : c.slot ≥ 512 ∨ u8 c.d.params 2 ≥ 1 := by
        by_cases h : c.slot < 512
        · exact Or.inr (h4 h)
        · exact Or.inl (Nat.not_lt.1 h)
      simp only [openFieldsOk, Bool.and_eq_true, Bool.or_eq_true, decide_eq_true_eq]
      exact ⟨⟨⟨h0, h1, h2, h3⟩, h4'⟩, h5⟩
    refine ⟨fun v hv ho hfit => ?_, fun hv => ?_⟩
    · exact serves_of_work (w := defaultWait) (body := svcOpenCh) rfl ha (work_svcOpenCh hp hf hv ho hfit e) rfl
    · exact answers_fail (w := defaultWait) (body := svcOpenCh) (ch := false) rfl ha (work_svcOpenCh_refused hp hf hv e)
  case closed =>
    have hpred := List.find?_some hfind
    simp only [Bool.and_eq_true, beq_iff_eq] at hpred
    obtain ⟨hph, hcl⟩ := hpred
    obtain ⟨hk, hcmd, hready, hver, hord⟩ := writeCompletion_closes hc hd hw hst haft hcl (by rw [hph]; exact hclosing)
    rw [hph] at hready hver hord
    exact ⟨_, exec_closeComplete hfind, only_drivePins hk, hcmd, hready, hver, hord⟩

/-! ### The landing of an input (R126, R390) -/

/-- The state with the staged descriptor and input. -/
def staged (s : State) (e : Nat) (c : Cmd) (input : Octets) : State :=
  ({ s with wmem := wmemWrite s.wmem (stagingAddr e) (descOctets c.d ++ input.take (stagedLen c.d)) }).setCmd e
    { c with landed := true, input := input, eligible := decide (c.stage = Stage.ready) }

theorem staged_wmem (s : State) (e : Nat) (c : Cmd) (input : Octets) :
    (staged s e c input).wmem = wmemWrite s.wmem (stagingAddr e) (descOctets c.d ++ input.take (stagedLen c.d)) := rfl

theorem keeps_staged (s : State) (e : Nat) (c : Cmd) (input : Octets) : Keeps [.so, .wmem] s (staged s e c input) := by
  intro p hp
  cases p
  case so | wmem => simp at hp
  all_goals rfl

theorem exec_inputLanded {s : State} {e : Nat} {c : Cmd} (data : Octets) (hc : s.cmd e = some c) (hl : c.landed = false)
    (hst : c.stage = .pending ∨ c.stage = .ready) : exec (.inputLanded e data) s = answer (noteEntry (staged s e c
      (if isInline c.d then c.d.params.take c.d.inLen.toNat else fit c.d.inLen.toNat data)) e) := by
  have hgo : (c.landed || !(c.stage == .ready || c.stage == .pending)) = false := by
    obtain h | h := hst <;> simp [h, hl]
  show execInputLanded e data s = _
  simp only [execInputLanded, hc, hgo, Bool.false_eq_true, if_false]
  rfl

/-- An entry that is on no list makes no note, as one in a list with room makes none in the command table. -/
theorem noteEntry_staged {s : State} {e : Nat} {c : Cmd} (hc : s.cmd e = some c)
    (h : c.stage = .pending ∨ (c.stage = .ready ∧ ∀ l, c.list = some l → roomy s l = true)) :
    Keeps [.so] s (noteEntry s e) ∧ (noteEntry s e).so.cmds = s.so.cmds := by
  have hstay (he : noteEntry s e = s) : Keeps [.so] s (noteEntry s e) ∧ (noteEntry s e).so.cmds = s.so.cmds := by
    rw [he]
    exact ⟨Keeps.refl _ _, rfl⟩
  obtain hp | ⟨-, hroom⟩ := h
  · exact hstay (by simp [noteEntry, hc, hp])
  · cases hl : c.list with
    | none => exact hstay (by simp [noteEntry, hc, hl])
    | some l => exact noteEntry_of_roomy hc hl (hroom l hl)

theorem inputsLand : Claims.InputsLand := by
  intro s e data c n input staged' hc hl hst
  have hex := exec_inputLanded data hc hl (hst.imp_right And.left)
  have hcmd : (staged s e c input).cmd e = some { c with
      landed := true, input := input, eligible := decide (c.stage = .ready) } := State.cmd_setCmd _ _ _
  have hk := keeps_staged s e c input
  obtain ⟨hkn, hcmds⟩ := noteEntry_staged hcmd (hst.imp id fun ⟨hr, hroom⟩ =>
    ⟨hr, fun l h => (roomy_congr hk.cores l).trans (hroom l h)⟩)
  refine ⟨_, hex, only_drivePins (hk.comp hkn), ?_, fun y => ?_⟩
  · show lookup (noteEntry (staged s e c input) e).so.cmds e = _
    rw [hcmds]
    exact hcmd
  · rw [drivePins_wmem]
    show tget 0 (noteEntry (staged s e c input) e).wmem y = _
    rw [hkn.wmem, staged_wmem, stagedLen, tget_wmemWrite]

/-! ### Which command a service acts on, and its input's length (R94, R126) -/

theorem runDirty_other (s : State) (k : Nat) (covers : Nat → Bool) (body : Octets → Nat → Slot → Svc Octets)
    (h : ∀ e c, ¬ Asked s k 0x8076 e c) : runDirty s k covers body = s := by
  unfold runDirty
  split
  · rfl
  · split
    · rfl
    · exact runService_other s k _ _ _ _ h

theorem servicesNeedTheirCommand : Claims.ServicesNeedTheirCommand := by
  intro i s k op hs hno
  have hmaint (h : ∀ e c, ¬ Asked s k.toNat 0x8011 e c) : exec (.maintExit k) s = answer s := by
    show execMaintExit k s = _
    unfold execMaintExit
    rw [runService_other _ _ _ _ _ _ h]
    exact congrArg answer (if_neg (by cases s.boot.exitBy <;> simp))
  unfold serviceOf at hs
  split at hs
  case h_88 => exact absurd hs (by simp)
  all_goals
    simp only [Option.some.injEq, Prod.mk.injEq] at hs
    obtain ⟨rfl, rfl⟩ := hs
  case h_53 => exact hmaint hno
  case h_76 | h_77 | h_78 => exact congrArg answer (runDirty_other _ _ _ _ hno)
  all_goals exact congrArg answer (runService_other _ _ _ _ _ _ hno)

/-- The parts of a DUKPT input are checked by their length first (R187). -/
theorem work_dukptParts_badLength {r : DukptRole} {refs : Nat} {s : State} {e : Nat} {c : Cmd}
    (h : (c.input.length == 64 + refsLen refs (c.input.drop 64) + (if r.isData || r.isMac then u32 c.input 4 else 0)) = false) :
    work (dukptParts r refs) s e c = (.error (.fail badLength), ⟨s, e, c⟩) := by
  simp only [dukptParts, work_bind, work_getIn, work_need, h, Bool.false_eq_true, if_false]

/-- The length check stands before every other check of a service's input. -/
theorem lengthsAreChecked : Claims.LengthsAreChecked := by
  intro i s k op e c n hs ⟨hask, _⟩ hl hne
  unfold lengthOf at hl
  split at hl
  case h_41 => exact absurd hl (by simp)
  all_goals
    obtain rfl := Option.some.inj hl
    simp only [serviceOf, Option.some.injEq, Prod.mk.injEq] at hs
    obtain ⟨rfl, rfl⟩ := hs
    have hb := beq_eq_false_iff_ne.2 hne
    refine answers_fail rfl hask ?_
  -- chapter 05
  case h_1 | h_2 | h_3 | h_4 | h_5 =>
    simp only [pinTranslate, pinVerify, pinRefGenerate, pinChange, pinGenerate, work_bind, work_getS, work_getC, work_getIn,
      work_need, hb, Bool.false_eq_true, if_false]
  case h_6 | h_7 =>
    simp only [svcCvcGenerate, svcCvcVerify, cvcCode, work_bind, work_getIn, work_need, hb, Bool.false_eq_true, if_false]
  -- chapter 06
  case h_8 | h_9 | h_10 | h_11 | h_12 =>
    simp only [emvArqcVerify, svcEmvArpcGenerate, svcEmvScriptMac, svcEmvScriptEncrypt, svcEmvSessionKey, emvParts, work_bind,
      work_getC, work_getIn, work_need, hb, Bool.false_eq_true, if_false]
  case h_13 =>
    simp only [svcDukptIkExport, work_bind, work_getIn, work_dukptParts_badLength (r := .ikExport) hb]
  case h_14 =>
    simp only [svcDukptTerminalKey, work_bind, work_getIn, work_dukptParts_badLength (r := .terminalKey) hb]
  case h_15 =>
    simp only [svcDukptDecrypt, dukptWork, work_bind, work_getIn, work_dukptParts_badLength (r := .decrypt) hb]
  case h_16 =>
    simp only [svcDukptEncrypt, dukptWork, work_bind, work_getIn, work_dukptParts_badLength (r := .encrypt) hb]
  case h_17 =>
    simp only [svcDukptMacVerify, dukptWork, work_bind, work_getIn, work_dukptParts_badLength (r := .macVerify) hb]
  case h_18 =>
    simp only [svcDukptMacGenerate, dukptWork, work_bind, work_getIn, work_dukptParts_badLength (r := .macGenerate) hb]
  case h_19 | h_20 =>
    simp only [macCommand, svcMacVerify, work_bind, work_getC, work_getIn, work_need, hb, Bool.false_eq_true, if_false]
  case h_21 | h_22 | h_23 | h_24 | h_25 | h_26 | h_27 =>
    simp only [svcGcmEncrypt, svcGcmDecrypt, svcCbcEncrypt, svcCbcDecrypt, svcCtrCrypt, svcFf1Encrypt, svcFf1Decrypt,
      bulkParts, work_bind, work_getIn, work_need, hb, Bool.false_eq_true, if_false]
  case h_28 =>
    simp only [svcKeyGenerate, keymgmtParts, work_bind, work_getIn, work_need, refsLen, Nat.add_zero, hb, Bool.false_eq_true,
      if_false]
  case h_29 | h_30 | h_31 | h_32 | h_33 | h_34 | h_35 =>
    simp only [svcKeyDerive, svcKeyImport, svcEnvelopeMake, svcEnvelopeUpgrade, svcKeyCheckValue, svcRklRsa, svcKeyExport,
      keymgmtParts, work_bind, work_getIn, work_need, hb, Bool.false_eq_true, if_false]
  -- chapter 08
  case h_36 | h_37 | h_38 | h_39 | h_40 =>
    simp only [svcEcdsaSign, svcRsaSign, svcRsaDecrypt, svcEcKeygen, svcRsaKeygen, work_bind, work_getIn, work_need, hb,
      Bool.false_eq_true, if_false]

/-- Settles O25: each service by its work, the landing by the staged octets, and every service by its first checks. -/
theorem channelControl : Obligations.ChannelControl :=
  ⟨channelServices, inputsLand, servicesNeedTheirCommand, lengthsAreChecked⟩

end Sys2Proof.Machine
end

section
/-! A refutation: a command that stands twice in the table is pre-selected again (R128). -/

namespace Sys2Proof.Machine

/-- A fold of steps that keep a frame keeps it. -/
theorem Keeps.foldl {α : Type} {ps : List Part} {f : State → α → State} (hf : ∀ s a, Keeps ps s (f s a)) (l : List α)
    (s : State) : Keeps ps s (l.foldl f s) := by
  induction l generalizing s with
  | nil => exact Keeps.refl ps s
  | cons a l ih => exact (hf s a).trans (ih _)

theorem keeps_readyGate (s : State) (k e : Nat) (c : Cmd) (g : Nat) : Keeps [.gates] s (readyGate s k e c g) := by
  unfold readyGate
  dsimp only
  split
  next => exact Keeps.refl _ s
  next =>
    intro p hp
    cases p
    case gates => simp at hp
    all_goals rfl

theorem keeps_readyAll (s : State) (k : Nat) : Keeps [.gates] s (readyAll s k) := by
  unfold readyAll
  split
  next => exact Keeps.refl _ s
  next _ e _ =>
    split
    next => exact Keeps.refl _ s
    next _ c _ =>
      split
      next => exact Keeps.refl _ s
      next => exact Keeps.foldl (fun s g => keeps_readyGate s k e c g) gateNums s

theorem beginReady_so (s : State) (k : Nat) : (beginReady s k).so = s.so := by
  unfold beginReady
  split
  next => rfl
  next =>
    dsimp only
    split
    next => rfl
    next => exact (keeps_readyAll s k).so

/-- The command that the choice names is the one pre-selected. -/
theorem preselectNext_cmd {s t : State} {k e : Nat} {c : Cmd} (h : choose s (k / 8) = some (e, c, t)) :
    (preselectNext s k).cmd e = some { c with stage := .preselected k } := by
  unfold preselectNext
  rw [h]
  unfold preselect
  refine (State.cmd_congr (beginReady_so _ k) e).trans ?_
  split <;> exact State.cmd_setCmd t e { c with stage := .preselected k }

/-- A command that core 0 has pre-selected, its rule-table read in progress, stands a second time in the table,
eligible on the ready list of core 0's cluster. -/
def listedTwice : State :=
  { State.reset with
    cores := [(0, { pre := some 0 })]
    gates := { State.reset.gates with reads := [0] }
    so := { State.reset.so with
      cmds := [(0, { stage := .preselected 0 }), (0, { slot := 512, stage := .ready, list := some 0, eligible := true })] } }

/-- The state in which the next pre-selection is made: the first listing is completed, the second stands as it was. -/
def listedTwiceFailed : State := completeWith (dropPre listedTwice 0) 0 integrityFault

theorem choose_listedTwiceFailed {u : State} (h : u.so = listedTwiceFailed.so) :
    ∃ t, choose u 0 = some (0, { slot := 512, stage := .ready, list := some 0, eligible := true }, t) := by
  cases u
  dsimp only at h
  subst h
  exact ⟨_, rfl⟩

/-- Refutes O26: the statement quantifies over tables that list a command twice. When neither copy of the rule table
is usable, the pre-selection that follows the completion picks the second listing, and the command that was completed
reads as pre-selected. -/
theorem not_dispatchAndDeferral : ¬ Obligations.DispatchAndDeferral := by
  rintro ⟨-, hreads, -⟩
  obtain ⟨-, t, hex, -, -, -, c', hcmd, -, -, -, hstage⟩ :=
    hreads listedTwice 0 0 { stage := .preselected 0 } false false rfl rfl rfl
  have hruns : exec (.ruleTableReturn 0 false false) listedTwice =
      answer (preselectNext (eventF listedTwiceFailed (Config.gateEvent 2) 0 0 0) 0) := rfl
  obtain rfl := Host.Outcome.next.inj (hruns.symm.trans hex)
  obtain ⟨u, hchoice⟩ := choose_listedTwiceFailed (keeps_eventF listedTwiceFailed (Config.gateEvent 2) 0 0 0).so
  have hagain := preselectNext_cmd (k := 0) hchoice
  rw [← Option.some.inj (hagain.symm.trans hcmd)] at hstage
  exact absurd hstage (by simp)

end Sys2Proof.Machine
end

section
/-! O27: level-0 internal work, its timers, and the observability registers (R122, R130, R132, R141, R143, R415). -/

namespace Sys2Proof.Machine

/-! ### The timer due first -/

theorem firstTimer_of_earliest {l : List (Nat × Nat)} {x : Nat × Nat} (hx : x ∈ l)
    (hfirst : ∀ y ∈ l, y = x ∨ x.1 < y.1) : execSupervisorTimer.firstTimer l = some x := by
  induction l with
  | nil => simp at hx
  | cons a t ih =>
    have htail : ∀ y ∈ t, y = x ∨ x.1 < y.1 := fun y hy => hfirst y (List.mem_cons_of_mem a hy)
    have hmem : ∀ {l : List (Nat × Nat)} {y}, execSupervisorTimer.firstTimer l = some y → y ∈ l := by
      intro l
      induction l with
      | nil => intro y h; simp [execSupervisorTimer.firstTimer] at h
      | cons b u ihu =>
        intro y h
        unfold execSupervisorTimer.firstTimer at h
        split at h
        next => simp_all
        next z hz =>
          split at h
          next => simp_all
          next => exact List.mem_cons_of_mem b (Option.some.inj h ▸ ihu hz)
    unfold execSupervisorTimer.firstTimer
    split
    next hnone =>
      obtain rfl | ht := List.mem_cons.1 hx
      · rfl
      · exact absurd ((ih ht htail).symm.trans hnone) (by simp)
    next y hy =>
      obtain rfl | ht := List.mem_cons.1 hx
      · rw [if_pos]
        obtain h | h := htail y (hmem hy)
        · rw [h]
        · exact Nat.le_of_lt h
      · obtain rfl := Option.some.inj (hy.symm.trans (ih ht htail))
        obtain rfl | hlt := hfirst a List.mem_cons_self
        · simp
        · rw [if_neg (Nat.not_le.2 hlt)]

theorem internalWork : Claims.InternalWork := by
  intro s m v due id d w
  refine ⟨rfl, fun hm => congrArg answer (if_neg hm), fun hlo hhi => ?_, fun hnone => ?_, fun hin hfirst => ?_⟩
  case refine_1 =>
    have hrange : ¬ (d.toNat = 0 ∨ d.toNat > 2 ^ 24) := by omega
    refine congrArg answer ((if_neg hrange).trans ?_)
    by_cases hfull : 16384 ≤ s.so.timers.length + (s.so.phs.filter (fun x => x.2.timer.isSome)).length
    · have hl : list3Full s = true := decide_eq_true hfull
      rw [if_pos hl, if_neg (Nat.not_lt.2 hfull)]
    · have hl : ¬ list3Full s = true := fun h => hfull (of_decide_eq_true h)
      rw [if_neg hl, if_pos (Nat.lt_of_not_le hfull)]
  case refine_2 =>
    refine congrArg answer ?_
    rw [hnone]
    rfl
  case refine_3 =>
    refine congrArg answer ?_
    rw [firstTimer_of_earliest hin hfirst]

/-! ### The selectors and clear registers -/

theorem keeps_setPort (s : State) (b : Bool) (p : Port) : Keeps [if b then .portB else .portA] s (s.setPort b p) := by
  cases b
  case false =>
    intro q hq
    cases q
    case portA => simp at hq
    all_goals rfl
  case true =>
    intro q hq
    cases q
    case portB => simp at hq
    all_goals rfl

/-- A row of entries written one after another reads back entry by entry. -/
theorem tget_foldl_tset {α : Type} [DecidableEq α] (d : α) (f : Nat → α) (base n : Nat) (t : Tab α) {j : Nat} (hj : j < n) :
    tget d ((List.range n).foldl (fun t b => tset d t (base + b) (f b)) t) (base + j) = f j := by
  induction n with
  | zero => omega
  | succ n ih =>
    rw [List.range_succ, List.foldl_append]
    by_cases h : j = n
    · subst h
      exact tget_tset_same ..
    · exact (tget_tset_other _ _ _ _ _ (by omega)).trans (ih (by omega))

theorem tget_histOf (s : State) (cl lv : Nat) {j : Nat} (hj : j < 16) :
    tget {} (histOf s cl lv) j = tget {} s.so.hist (128 * cl + 16 * lv + j) := by
  have h := tget_foldl_tset ({} : Stat) (fun b => tget {} s.so.hist (128 * cl + 16 * lv + b)) 0 16 [] hj
  simp only [Nat.zero_add] at h
  exact h

/-- The Sorting Office with a slot's counters cleared (R143). -/
def Sorting.slotCleared (o : Sorting) (n : Nat) : Sorting :=
  { o with fetched := tset {} o.fetched n {}, completed := tset {} o.completed n {}, cancelled := tset {} o.cancelled n {} }

/-- The Sorting Office with a row of a histogram cleared (R143). -/
def Sorting.rowCleared (o : Sorting) (base : Nat) : Sorting :=
  { o with hist := (List.range 16).foldl (fun t b => tset ({} : Stat) t (base + b) {}) o.hist }

theorem Sorting.rowCleared_cmds (o : Sorting) (base : Nat) : (o.rowCleared base).cmds = o.cmds := by
  simp only [Sorting.rowCleared]

theorem Sorting.rowCleared_row (o : Sorting) (base : Nat) {j : Nat} (hj : j < 16) :
    tget {} (o.rowCleared base).hist (base + j) = {} := by
  have hread := tget_foldl_tset ({} : Stat) (fun _ => ({} : Stat)) base 16 o.hist hj
  simp only [Sorting.rowCleared]
  exact hread

theorem observabilityActs : Claims.ObservabilityActs := by
  intro s b g sl cl lv k busy
  have hport := keeps_setPort s b
  have hcleared (o : Sorting) (p : Port) :
      Keeps [if b then .portB else .portA, .so] s (({ s with so := o } : State).setPort b p) := by
    have hso : Keeps [.so] s { s with so := o } := by
      intro q hq
      cases q
      case so => simp at hq
      all_goals rfl
    exact (hso.mono (by simp)).trans ((keeps_setPort _ b p).mono (by simp))
  have hso (o : Sorting) (p : Port) : (drivePins (({ s with so := o } : State).setPort b p)).so = o := by cases b <;> rfl
  refine ⟨?phSel, fun hn => ?slotSel, ?histSel, ?clrMax, ?clrSlot, ?clrHist, rfl, ?busy1ms, ?busy1s⟩
  case phSel => exact ⟨_, rfl, only_drivePins (hport _), State.port_setPort ..⟩
  case slotSel =>
    refine ⟨_, rfl, only_drivePins (hport _), (State.port_setPort ..).trans ?_⟩
    simp only [snapSlotOf, if_pos hn]
  case histSel =>
    have hp := State.port_setPort s b { s.port b with histCluster := cl, histLevel := lv, snapHist := histOf s cl.toNat lv.toNat }
    refine ⟨_, rfl, only_drivePins (hport _), congrArg (·.histCluster) hp, congrArg (·.histLevel) hp, fun j hj => ?_⟩
    exact (congrArg (fun p : Port => tget {} p.snapHist j) hp).trans (tget_histOf s _ _ hj)
  case clrMax =>
    refine ⟨_, rfl, only_drivePins (hcleared _ _), ?_, ?_, fun m hm => ?_⟩
    · exact congrArg (·.snapMax) (State.port_setPort ..)
    · cases b <;> exact State.ph_setPh ..
    · cases b <;> exact State.ph_setPh_other s _ hm
  case clrSlot =>
    have hex : exec (.clrSlot b) s = answer (({ s with so := s.so.slotCleared (s.port b).slotSel.toNat } : State).setPort b
      { s.port b with snapFetched := {}, snapCompleted := {}, snapCancelled := {} }) := rfl
    refine ⟨_, hex, only_drivePins (hcleared _ _), ?_⟩
    rw [hso]
    exact ⟨tget_tset_same {} s.so.fetched _ {}, tget_tset_same {} s.so.completed _ {}, tget_tset_same {} s.so.cancelled _ {},
      fun m hm => ⟨tget_tset_other {} s.so.fetched _ m {} hm, tget_tset_other {} s.so.completed _ m {} hm,
        tget_tset_other {} s.so.cancelled _ m {} hm⟩⟩
  case clrHist =>
    have hex (base : Nat) (hb : 128 * (s.port b).histCluster.toNat + 16 * (s.port b).histLevel.toNat = base) :
        exec (.clrHist b) s = answer (({ s with so := s.so.rowCleared base } : State).setPort b
          { s.port b with snapHist := [] }) := by
      subst hb
      rfl
    obtain ⟨base, hb⟩ : ∃ base, 128 * (s.port b).histCluster.toNat + 16 * (s.port b).histLevel.toNat = base := ⟨_, rfl⟩
    refine ⟨_, hex base hb, only_drivePins (hcleared _ _), ?_⟩
    rw [hso]
    refine ⟨fun j hj => ?_, s.so.rowCleared_cmds base⟩
    exact (congrArg (fun i => tget {} (s.so.rowCleared base).hist (i + j)) hb).trans (s.so.rowCleared_row base hj)
  case busy1ms =>
    exact ⟨_, rfl, only_drivePins (keeps_setCore _ _ _), onlyCore_setCore _ _ _, State.core_setCore ..⟩
  case busy1s =>
    exact ⟨_, rfl, only_drivePins (keeps_setCore _ _ _), onlyCore_setCore _ _ _, State.core_setCore ..⟩

/-- Settles O27: internal work by the model's branches, the timer due first, and the tables of the observability block. -/
theorem sortingOfficeUpkeep : Obligations.SortingOfficeUpkeep := ⟨internalWork, observabilityActs⟩

end Sys2Proof.Machine
end

section
/-! O32: the rise and fall of power-good, warm resets and the release of reset (R54, R63, R582, R583). -/

namespace Sys2Proof.Machine

/-! ### What an entry of the supervisor leaves of the timebase and, in a lone module, of the pair -/

/-- Of the timebase at most the supervisor's Postmark source moved on. -/
def Stamped (s t : State) : Prop :=
  t.tb = { s.tb with sources := t.tb.sources } ∧
    ∀ src, src ≠ srcSupervisor → tget {} t.tb.sources src = tget {} s.tb.sources src

theorem Stamped.of_tb {s t : State} (h : t.tb = s.tb) : Stamped s t := ⟨by rw [h], fun _ _ => by rw [h]⟩

theorem stamped_journalNow (s : State) (ty : BitVec 16) (d : Octets) : Stamped s (journalNow s ty d) := by
  have htb : (journalNow s ty d).tb = (stamp s srcSupervisor).2.tb := (keeps_journal _ _).tb
  refine ⟨?_, fun src hsrc => ?_⟩
  · rw [htb]
    rfl
  · rw [htb]
    exact tget_tset_other _ _ _ _ _ hsrc

theorem stamped_setMode (s : State) (m : Mode) (c : Code) : Stamped s (setMode s m c) := by
  unfold setMode
  split
  next => exact .of_tb rfl
  next => exact stamped_journalNow _ _ _

theorem stamped_setLifeCycle (s : State) (l : LifeCycle) (c : Code) : Stamped s (setLifeCycle s l c) := by
  unfold setLifeCycle
  split
  next => exact .of_tb rfl
  next => exact stamped_journalNow _ _ _

theorem keeps_journalNow_of_lone {s : State} (h : s.lone) (ty : BitVec 16) (d : Octets) :
    Keeps [.free, .tb, .journal] s (journalNow s ty d) := by
  have hjournal : journalNow s ty d = _ := journal_of_lone (s := (stamp s srcSupervisor).2) h _
  rw [hjournal]
  exact (keeps_stamp s srcSupervisor).comp (keeps_setJournal _ _)

theorem keeps_setMode_of_lone {s : State} (h : s.lone) (m : Mode) (c : Code) :
    Keeps [.free, .tb, .journal, .boot] s (setMode s m c) := by
  unfold setMode
  split
  next => exact Keeps.refl _ _
  next =>
    have hb : Keeps [.boot] s { s with boot := { s.boot with mode := m } } := by
      intro p hp
      cases p
      case boot => simp at hp
      all_goals rfl
    exact hb.comp (keeps_journalNow_of_lone (s := { s with boot := { s.boot with mode := m } }) h _ _)

theorem keeps_setLifeCycle_of_lone {s : State} (h : s.lone) (l : LifeCycle) (c : Code) :
    Keeps [.free, .tb, .journal, .warden] s (setLifeCycle s l c) := by
  unfold setLifeCycle
  split
  next => exact Keeps.refl _ _
  next =>
    have hw : Keeps [.warden] s { s with warden := { s.warden with lc := l } } := by
      intro p hp
      cases p
      case warden => simp at hp
      all_goals rfl
    exact hw.comp (keeps_journalNow_of_lone (s := { s with warden := { s.warden with lc := l } }) h _ _)

/-! ### What the warden reports -/

/-- The warden holds the record of an erase (R54). -/
def Warden.gone (w : Warden) : Prop := w.lc = .retired ∨ w.blog.any (fun b => b.cls == 4) = true

theorem eLogged_eq (s : State) : eLogged s = s.warden.blog.any (fun b => b.cls == 4) := by
  unfold eLogged
  refine congrArg (s.warden.blog.any ·) (funext fun b => ?_)
  rw [Bool.eq_iff_iff, beq_iff_eq, beq_iff_eq, ← BitVec.toNat_inj]
  rfl

theorem wardenReport_gone {s : State} (h : s.warden.gone) : wardenReport s =
    setMode (setLifeCycle s .retired (Config.modeTrigger 4)) .erased (Config.modeTrigger 4) := by
  rw [wardenReport, eLogged_eq, if_pos (by simpa [Warden.gone] using h)]

theorem wardenReport_locked {s : State} (h : ¬ s.warden.gone) (hl : s.warden.lockRec = true) :
    wardenReport s = bootStop s lockedSt := by
  rw [wardenReport, eLogged_eq, if_neg (by simpa [Warden.gone] using h), if_pos hl]

theorem wardenReport_silent {s : State} (h : ¬ s.warden.gone) (hl : s.warden.lockRec = false) : wardenReport s = s := by
  rw [wardenReport, eLogged_eq, if_neg (by simpa [Warden.gone] using h), if_neg (by simp [hl])]

theorem wardenReport_gone_boot {s : State} (h : s.warden.gone) : (wardenReport s).boot = { s.boot with mode := .erased } := by
  rw [wardenReport_gone h, setMode_boot, (keeps_setLifeCycle s .retired _).boot]

theorem wardenReport_gone_warden {s : State} (h : s.warden.gone) :
    (wardenReport s).warden = { s.warden with lc := .retired } := by
  rw [wardenReport_gone h, (keeps_setMode _ .erased _).warden, setLifeCycle_warden]

theorem bootStop_boot (s : State) (st : Code) : (bootStop s st).boot = { s.boot with mode := .locked, fail := st } := by
  rw [bootStop, setMode_boot]
  rfl

theorem bootStop_warden (s : State) (st : Code) : (bootStop s st).warden = s.warden := by
  rw [bootStop, (keeps_setMode _ .locked _).warden]
  rfl

theorem wardenReport_warden {s : State} (h : ¬ s.warden.gone) : (wardenReport s).warden = s.warden := by
  cases hl : s.warden.lockRec
  case false => rw [wardenReport_silent h hl]
  case true => rw [wardenReport_locked h hl, bootStop_warden]

/-- The report changes the mode, and with a lock record BOOT_FAIL, and nothing else of the boot unit. -/
theorem wardenReport_boot (s : State) : ∃ st, (wardenReport s).boot = { s.boot with
    mode := if s.warden.lc = .retired ∨ s.warden.blog.any (fun b => b.cls == 4) then .erased
      else if s.warden.lockRec then .locked else s.boot.mode,
    fail := st } := by
  by_cases hgone : s.warden.lc = .retired ∨ s.warden.blog.any (fun b => b.cls == 4) = true
  · rw [wardenReport_gone_boot hgone, if_pos hgone]
    exact ⟨_, rfl⟩
  · rw [if_neg hgone]
    cases hl : s.warden.lockRec
    case false =>
      rw [wardenReport_silent hgone hl]
      exact ⟨_, rfl⟩
    case true =>
      rw [wardenReport_locked hgone hl, bootStop_boot]
      exact ⟨_, rfl⟩

theorem stamped_bootStop (s : State) (st : Code) : Stamped s (bootStop s st) := stamped_setMode _ _ _

theorem keeps_bootStop_of_lone {s : State} (h : s.lone) (st : Code) :
    Keeps [.free, .tb, .journal, .boot, .arrays, .keys, .entropy] s (bootStop s st) := by
  have herase : Keeps [.boot, .arrays, .keys, .entropy] s (eraseWorking { s with boot := { s.boot with fail := st } }) := by
    intro p hp
    cases p
    case boot | arrays | keys | entropy => simp at hp
    all_goals rfl
  exact herase.comp (keeps_setMode_of_lone (s := eraseWorking { s with boot := { s.boot with fail := st } }) h .locked _)

theorem stamped_wardenReport (s : State) : Stamped s (wardenReport s) := by
  unfold wardenReport
  split
  next =>
    have h1 := stamped_setLifeCycle s .retired (Config.modeTrigger 4)
    have h2 := stamped_setMode (setLifeCycle s .retired (Config.modeTrigger 4)) .erased (Config.modeTrigger 4)
    exact ⟨by rw [h2.1, h1.1], fun src hsrc => (h2.2 src hsrc).trans (h1.2 src hsrc)⟩
  next =>
    split
    next => exact stamped_bootStop s lockedSt
    next => exact .of_tb rfl

theorem keeps_wardenReport_gone {s : State} (h : s.lone) (hgone : s.warden.gone) :
    Keeps [.free, .tb, .journal, .boot, .warden] s (wardenReport s) := by
  rw [wardenReport_gone hgone]
  have hkeep := keeps_setLifeCycle_of_lone h .retired (Config.modeTrigger 4)
  have hlone : (setLifeCycle s .retired (Config.modeTrigger 4)).lone := by
    unfold State.lone
    rw [hkeep.pair]
    exact h
  exact hkeep.comp (keeps_setMode_of_lone hlone .erased _)

theorem keeps_wardenReport {s : State} (h : s.lone) :
    Keeps [.free, .tb, .journal, .boot, .warden, .arrays, .keys, .entropy] s (wardenReport s) := by
  by_cases hgone : s.warden.gone
  · exact (keeps_wardenReport_gone h hgone).mono (by decide)
  · cases hl : s.warden.lockRec
    case false =>
      rw [wardenReport_silent hgone hl]
      exact Keeps.refl _ _
    case true =>
      rw [wardenReport_locked hgone hl]
      exact (keeps_bootStop_of_lone h lockedSt).mono (by decide)

/-! ### Cold boot -/

/-- The module at the rise of power-good, before the warden's report. -/
def coldStart (s : State) (mv : BitVec 16) (x : BitVec 3) : State :=
  let w := { s.warden with rtcOnSosc := false, transitCell := s.warden.transitCell && decide (mv.toNat < 2500) }
  let now := rtcLocal w
  drawMesh
    { pending := s.pending, free := s.free, outbox := s.outbox, pwrGood := true, warden := w,
      boot := { step := 1, tStart := now }, tb := { timeLocal := now },
      clocks := { foscTrimmed := true, xstart := x }, alarms := { vbatMv := mv },
      portA := { perst := true }, portB := { perst := true }, pair := { drillFrom := now } }

/-- The parts that a cold boot may leave unlike reset, but for the pins. -/
def coldParts : List Part :=
  [.pending, .free, .outbox, .pwrGood, .boot, .warden, .alarms, .clocks, .portA, .portB, .tb, .journal, .pair]

theorem keeps_coldStart (s : State) (mv : BitVec 16) (x : BitVec 3) : Keeps coldParts State.reset (coldStart s mv x) := by
  intro p hp
  cases p
  case pending | free | outbox | pwrGood | boot | warden | alarms | clocks | portA | portB | tb | journal | pair =>
    simp [coldParts] at hp
  all_goals rfl

theorem coldStart_lone (s : State) (mv : BitVec 16) (x : BitVec 3) : (coldStart s mv x).lone := ⟨nofun, nofun, rfl⟩

/-- At a cold boot there is no working material to erase. -/
theorem keeps_bootStop_coldStart (s : State) (mv : BitVec 16) (x : BitVec 3) (st : Code) :
    Keeps coldParts State.reset (bootStop (coldStart s mv x) st) := by
  have herased : Keeps coldParts State.reset
      (eraseWorking { coldStart s mv x with boot := { (coldStart s mv x).boot with fail := st } }) := by
    intro p hp
    cases p
    case pending | free | outbox | pwrGood | boot | warden | alarms | clocks | portA | portB | tb | journal | pair =>
      simp [coldParts] at hp
    all_goals rfl
  have hlone : (eraseWorking { coldStart s mv x with boot := { (coldStart s mv x).boot with fail := st } }).lone :=
    coldStart_lone s mv x
  exact herased.comp (keeps_setMode_of_lone hlone .locked _)

theorem keeps_coldBoot (s : State) (mv : BitVec 16) (x : BitVec 3) :
    Keeps coldParts State.reset (wardenReport (coldStart s mv x)) := by
  by_cases hgone : (coldStart s mv x).warden.gone
  · exact (keeps_coldStart s mv x).comp (keeps_wardenReport_gone (coldStart_lone s mv x) hgone)
  · cases hl : (coldStart s mv x).warden.lockRec
    case false =>
      rw [wardenReport_silent hgone hl]
      exact keeps_coldStart s mv x
    case true =>
      rw [wardenReport_locked hgone hl]
      exact keeps_bootStop_coldStart s mv x lockedSt

theorem rtcLocal_toNat (w : Warden) :
    (rtcLocal w).toNat = w.rtcS.toNat * 1000000000 + w.rtcTicks.toNat * 1000000000 / 32768 := by
  have h1 := w.rtcS.isLt
  have h2 := w.rtcTicks.isLt
  rw [rtcLocal, BitVec.toNat_ofNat]
  omega

theorem coldBoot_boots {i : Instr} {s : State} {mv : BitVec 16} {x : BitVec 3} (hex : exec i s = answer (coldBoot s mv x)) :
    let w := s.warden
    Gives i s fun t =>
      AllLost [.pending, .free, .outbox, .pwrGood, .pins, .boot, .warden, .alarms, .clocks, .portA, .portB, .tb, .journal,
        .pair] t ∧
      t.pending = s.pending ∧ t.outbox = s.outbox ∧ t.pwrGood = true ∧ t.boot.step = 1 ∧ t.boot.warm = false ∧
      t.boot.mode = (if w.lc = .retired ∨ w.blog.any (fun b => b.cls == 4) then .erased
        else if w.lockRec then .locked else .boot) ∧
      t.clocks = { foscTrimmed := true, xstart := x } ∧ t.portA = { perst := true } ∧ t.portB = { perst := true } ∧
      t.tb.timeLocal.toNat = w.rtcS.toNat * 1000000000 + w.rtcTicks.toNat * 1000000000 / 32768 ∧ t.tb.offset = 0 ∧
      t.alarms.vbatMv = mv ∧ t.pair.crownOut = false ∧ t.pair.role = .lone ∧
      (w.gone → t.warden = { w with lc := .retired, rtcOnSosc := false, transitCell := w.transitCell && decide (mv.toNat < 2500) }) ∧
      (¬ w.gone → t.warden = { w with rtcOnSosc := false, transitCell := w.transitCell && decide (mv.toNat < 2500) }) := by
  have hcold : exec i s = answer (wardenReport (coldStart s mv x)) := hex
  have hkeep := keeps_wardenReport (coldStart_lone s mv x)
  have hlost := (only_drivePins (keeps_coldBoot s mv x)).1.mono (qs := .pins :: coldParts) (List.Subset.refl _)
  obtain ⟨htb, -⟩ := stamped_wardenReport (coldStart s mv x)
  obtain ⟨st, hboot⟩ := wardenReport_boot (coldStart s mv x)
  have hpair := hkeep.pair
  refine ⟨_, hcold, hlost.mono (by decide), hkeep.pending, hkeep.outbox, hkeep.pwrGood, congrArg Boot.step hboot,
    congrArg Boot.warm hboot, congrArg Boot.mode hboot, hkeep.clocks, hkeep.portA, hkeep.portB, ?_,
    congrArg Timebase.offset htb, congrArg Alarms.vbatMv hkeep.alarms, congrArg Pair.crownOut hpair,
    congrArg Pair.role hpair, wardenReport_gone_warden (s := coldStart s mv x),
    wardenReport_warden (s := coldStart s mv x)⟩
  exact (congrArg (fun b : Timebase => b.timeLocal.toNat) htb).trans (rtcLocal_toNat _)

theorem powerComes : Claims.PowerComes := by
  intro s mv x
  refine ⟨fun hoff hhold => ?_, fun hon => ?_, fun hhold => ?_, fun hhold => ?_⟩
  case refine_1 => exact coldBoot_boots (congrArg answer (if_neg (by simp [hoff, hhold])))
  case refine_2 => exact congrArg answer (if_pos (by simpa using hon))
  case refine_3 =>
    have hex : exec (.pwrGoodHoldoff true mv x) s = answer (coldBoot s mv x) := congrArg answer (if_neg (by simp [hhold]))
    exact coldBoot_boots hex
  case refine_4 => exact congrArg answer (if_neg (by simp [hhold]))

theorem powerGoes : Claims.PowerGoes := by
  intro s hon
  have hex : exec .pwrGoodFall s = answer (unpowered s) := congrArg answer (if_pos hon)
  refine ⟨_, hex, fun p hp => ?_, rfl, rfl, rfl, rfl, rfl, rfl, rfl⟩
  cases p
  case pending | free | outbox | warden | boot | clocks => simp at hp
  all_goals rfl

/-! ### Warm resets -/

/-- Nothing that a module loses at a warm reset is left in it. -/
theorem allLost_afterReset (s : State) :
    AllLost [.pending, .free, .outbox, .pwrGood, .boot, .warden, .alarms, .clocks, .mgmt, .portA, .portB, .tb,
      .journal, .pair, .units] (afterReset s) := by
  intro p hp
  cases p
  case pending | free | outbox | pwrGood | boot | warden | alarms | clocks | mgmt | portA | portB | tb | journal | pair
    | units => simp at hp
  all_goals rfl

theorem warmReset_resets {i : Instr} {s u : State} {trigger : Code} (hex : exec i s = answer (warmReset u trigger))
    (hu : Keeps [.boot] s u) : WarmResets i s := by
  have hkeep := (keeps_leavePair u).comp (keeps_setMode (leavePair u) .boot trigger) (rs := [.free, .outbox, .pair, .tb, .journal, .boot])
  have hall := hu.comp hkeep (rs := [.free, .outbox, .pair, .tb, .journal, .boot])
  obtain ⟨htb, hsrc⟩ := stamped_setMode (leavePair u) .boot trigger
  have htb' : (leavePair u).tb = s.tb := (keeps_leavePair u).tb.trans hu.tb
  rw [htb'] at htb hsrc
  have hlost := (only_drivePins (allLost_afterReset (setMode (leavePair u) .boot trigger))).1
  refine ⟨_, hex, hlost.mono (by decide), rfl, hall.warden, hall.pwrGood, rfl, rfl, rfl, rfl,
    congrArg (fun p : Port => ({ perst := p.perst } : Port)) hall.portA,
    congrArg (fun p : Port => ({ perst := p.perst } : Port)) hall.portB, ?_, ?_, hsrc,
    ?_, ?_, rfl⟩
  · show (setMode (leavePair u) .boot trigger).tb.timeLocal = s.tb.timeLocal
    rw [htb]
  · show (setMode (leavePair u) .boot trigger).tb.offset = s.tb.offset
    rw [htb]
  · show (setMode (leavePair u) .boot trigger).clocks.xstart = s.clocks.xstart
    rw [hall.clocks]
  · show (setMode (leavePair u) .boot trigger).mgmt.addr = s.mgmt.addr
    rw [hall.mgmt]

theorem warmResetsHappen : Claims.WarmResetsHappen := by
  intro s
  have hself := Keeps.refl [.boot] s
  refine ⟨fun hon hmode => ?_, fun hmode => ⟨?_, fun key => ?_⟩, fun hon hmode hstep => ?_, fun key hkey => ?_, fun hmode => ?_,
    fun hdue => ?_⟩
  case refine_1 => exact warmReset_resets (congrArg answer (if_neg (by simp [hon, hmode]))) hself
  case refine_2 => exact congrArg answer (if_pos (by simp [hmode]))
  case refine_3 => exact congrArg answer (if_pos (by simp [hmode]))
  case refine_4 => exact warmReset_resets (congrArg answer (if_neg (by simp [hon, hmode, hstep]))) hself
  case refine_5 => exact congrArg answer (if_pos (by simp only [hkey, decide_true, ne_eq, not_false_eq_true, Bool.true_or]))
  case refine_6 =>
    have hfault : moduleFault s = warmReset s (Config.modeTrigger 2) := by
      unfold moduleFault
      obtain h | h | h | h | h := hmode
      all_goals rw [h]
    exact warmReset_resets (congrArg answer hfault) hself
  case refine_7 =>
    have hb : Keeps [.boot] s { s with boot := { s.boot with mode := .boot } } := by
      intro p hp
      cases p
      case boot => simp at hp
      all_goals rfl
    exact warmReset_resets (congrArg answer (if_neg (by simp [hdue]))) hb

/-- The module that reset has let go, before the warden's report. -/
def released (s : State) (xa : Bool) : State :=
  { s with boot := { s.boot with inReset := false, step := if xa then 2 else 1, tStart := s.time } }

theorem resetIsReleased : Claims.ResetIsReleased := by
  intro s xa hin
  have hex : exec (.resetRelease xa) s = answer (wardenReport (released s xa)) := congrArg answer (if_neg (by simp [hin]))
  refine ⟨fun hgone hl => ?_, fun hgone => ?_, fun hgone hl => ?_⟩
  case refine_1 => exact hex.trans (congrArg answer (wardenReport_silent (s := released s xa) hgone hl))
  case refine_2 =>
    exact ⟨_, hex, wardenReport_gone_boot (s := released s xa) hgone, wardenReport_gone_warden (s := released s xa) hgone⟩
  case refine_3 =>
    rw [wardenReport_locked (s := released s xa) hgone hl] at hex
    exact ⟨_, hex, bootStop_boot (released s xa) lockedSt, bootStop_warden (released s xa) lockedSt⟩

/-- Settles O32: each reset by what its last function leaves, and the warden's report by its three branches. -/
theorem powerAndReset : Obligations.PowerAndReset := ⟨powerComes, powerGoes, warmResetsHappen, resetIsReleased⟩

end Sys2Proof.Machine
end

section
/-! O33, first part: the hardware boot steps and the self-tests of step 6 (R59, R60, R62, R556 to R558). -/

namespace Sys2Proof.Machine

/-! ### Steps and stops -/

theorem keeps_setClocks (s : State) (c : Clocks) : Keeps [.clocks] s { s with clocks := c } := by
  intro p hp
  cases p
  case clocks => simp at hp
  all_goals rfl

theorem keeps_setBoot (s : State) (b : Boot) : Keeps [.boot] s { s with boot := b } := by
  intro p hp
  cases p
  case boot => simp at hp
  all_goals rfl

theorem bootAt_of_atStep {s : State} {n : Nat} (h : AtStep s n) : bootAt s n = true := by
  obtain ⟨hon, hin, hstep, hmode⟩ := h
  simp [bootAt, hon, hin, hstep, hmode]

theorem keeps_bootStop (s : State) (st : Code) :
    Keeps [.free, .outbox, .boot, .arrays, .keys, .entropy, .tb, .journal, .pair] s (bootStop s st) :=
  ((keeps_setBoot s _).comp (keeps_eraseWorking _) (rs := [.boot, .arrays, .keys, .entropy])).comp (keeps_setMode _ .locked _)

/-- A stop of boot reached from a state in which only the named parts differ. -/
theorem bootStops_of {i : Instr} {s u : State} {st : Code} {ps qs : List Part} (hex : exec i s = answer (bootStop u st))
    (hu : Keeps qs s u)
    (hq : qs ⊆ [.free, .outbox, .boot, .arrays, .keys, .entropy, .tb, .journal, .pair] ++ ps := by decide) :
    BootStops i s st ps := by
  have hmode := keeps_setMode (eraseWorking { u with boot := { u.boot with fail := st } }) .locked (Config.modeTrigger 3)
  have hkeys : (bootStop u st).keys = _ := hmode.keys
  have harrays : (bootStop u st).arrays = _ := hmode.arrays
  have hent : (bootStop u st).entropy = _ := hmode.entropy
  have hboot := bootStop_boot u st
  refine ⟨_, hex, only_drivePins ((hu.mono hq).trans ((keeps_bootStop u st).mono (List.subset_append_left _ _))), congrArg Boot.mode hboot,
    congrArg Boot.fail hboot, congrArg KeyUnit.frankPriv hkeys, congrArg KeyUnit.cacheKey hkeys,
    congrArg KeyUnit.rootFile hkeys, congrArg Arrays.laneKeys harrays, congrArg Arrays.hashKeys harrays,
    congrArg Entropy.insts hent⟩

/-! ### Steps 2 to 5 -/

/-- The attempt to qualify XA is counted at its first window (R556). -/
def Clocks.tried (c : Clocks) : Clocks := if c.goodWindow then c else { c with qualTries := satInc c.qualTries }

theorem Clocks.tried_eq (c : Clocks) :
    c.tried = { c with qualTries := if c.goodWindow then c.qualTries else satInc c.qualTries } := by
  unfold Clocks.tried
  split <;> rfl

theorem exec_xaQualify {s : State} (h : AtStep s 2) (hfails : s.clocks.qualFails < 3) (count : Nat) :
    exec (.xaQualify count) s = answer (
      if 9700 ≤ count ∧ count ≤ 10300 then
        if s.clocks.tried.goodWindow then
          maskMon (setStep { s with clocks := { s.clocks.tried with goodWindow := false, xaQual := true } } 3) 0 false
        else { s with clocks := { s.clocks.tried with goodWindow := true } }
      else if s.clocks.tried.qualFails + 1 ≥ 3 then
        bootStop { s with clocks := { s.clocks.tried with goodWindow := false, qualFails := s.clocks.tried.qualFails + 1 } }
          (Config.bootStatus 3)
      else { s with clocks := { s.clocks.tried with goodWindow := false, qualFails := s.clocks.tried.qualFails + 1 } }) :=
  congrArg answer (if_neg (by simp [bootAt_of_atStep h, hfails]))

theorem crystalQualifies : Claims.CrystalQualifies := by
  intro s count
  refine ⟨fun h => congrArg answer (if_pos (bootAt_of_atStep h)), fun h hfails => ?_⟩
  have hex := exec_xaQualify h hfails count
  rw [Clocks.tried_eq] at hex
  refine ⟨fun hgood hw => ?_, fun hgood hw => ?_, fun hbad hlt => ?_, fun hbad heq => ?_⟩
  case refine_1 => rw [hex, if_pos hgood, if_neg (by simp [hw])]
  case refine_2 =>
    rw [if_pos hgood, if_pos hw] at hex
    refine ⟨_, hex, only_drivePins ?_, rfl, rfl, if_pos hw, ?_⟩
    · exact (keeps_setClocks s _).comp ((keeps_setBoot _ _).comp (keeps_setClocks _ _) (rs := [.boot, .clocks]))
    · exact congrArg ClkMon.masked (tget_tset_same _ _ _ _)
  case refine_3 => rw [hex, if_neg hbad, if_neg (Nat.not_le.2 (Nat.succ_lt_succ hlt))]
  case refine_4 =>
    have hthird : s.clocks.qualFails + 1 ≥ 3 := by omega
    rw [if_neg hbad, if_pos hthird] at hex
    exact bootStops_of hex (keeps_setClocks s _)

/-- The lock of PLL i after those before it. -/
theorem pllLock_next {l : BitVec 5} {i : Nat} (hi : i < 5) (h : l.toNat = 2 ^ i - 1) :
    (l ||| BitVec.ofNat 5 (2 ^ i)).toNat = 2 ^ (i + 1) - 1 := by
  obtain rfl : l = BitVec.ofNat 5 (2 ^ i - 1) := BitVec.eq_of_toNat_eq (by rw [h, BitVec.toNat_ofNat]; interval_cases i <;> rfl)
  interval_cases i <;> rfl

theorem monitor_drivePins (s : State) (n : Nat) : (drivePins s).monitor n = s.monitor n := by
  rw [State.monitor, State.monitor, drivePins_alarms]

theorem armMain_monitor (s : State) (on : Bool) : ∀ n ∈ [5, 13, 14, 15, 16, 17],
    ((armMain s on).monitor n).armed = on ∧ ((armMain s on).monitor n).tripped = false := by
  have hset (s : State) (n m : Nat) (h : n = m ∨ ((s.monitor n).armed = on ∧ (s.monitor n).tripped = false)) :
      ((s.setMonitor m { s.monitor m with armed := on, tripped := false }).monitor n).armed = on ∧
        ((s.setMonitor m { s.monitor m with armed := on, tripped := false }).monitor n).tripped = false := by
    by_cases hnm : n = m
    · subst hnm
      have hsame := tget_tset_same {} s.alarms.monitors n { s.monitor n with armed := on, tripped := false }
      exact ⟨congrArg Monitor.armed hsame, congrArg Monitor.tripped hsame⟩
    · have hother := tget_tset_other {} s.alarms.monitors m n { s.monitor m with armed := on, tripped := false } hnm
      obtain h | ⟨harmed, htripped⟩ := h
      · exact absurd h hnm
      · exact ⟨(congrArg Monitor.armed hother).trans harmed, (congrArg Monitor.tripped hother).trans htripped⟩
  have hfold (l : List Nat) (n : Nat) (s : State)
      (h : n ∈ l ∨ ((s.monitor n).armed = on ∧ (s.monitor n).tripped = false)) :
      let t := l.foldl (fun s n => s.setMonitor n { s.monitor n with armed := on, tripped := false }) s
      (t.monitor n).armed = on ∧ (t.monitor n).tripped = false := by
    induction l generalizing s with
    | nil => exact h.resolve_left (List.not_mem_nil)
    | cons m l ih =>
      refine ih _ ?_
      by_cases hl : n ∈ l
      · exact .inl hl
      · refine .inr (hset s n m (h.imp_left fun hmem => ?_))
        exact (List.mem_cons.1 hmem).resolve_right hl
  exact fun n hn => hfold _ n s (.inl hn)

theorem keeps_armMain (s : State) (on : Bool) : Keeps [.alarms] s (armMain s on) := by
  refine Keeps.foldl (fun s n => ?_) _ s
  intro p hp
  cases p
  case alarms => simp at hp
  all_goals rfl

theorem bootDomains_on (w : Warden) {d : Nat} (hd : d < 25) (h8 : d ≠ 8)
    (hret : 10 ≤ d → d ≤ 18 → w.retClusters.getLsbD (d - 10) = false) : (bootDomains w).getLsbD d = true := by
  have hplan : ∀ d < 25, d ≠ 8 → (0x1FFFEFF : BitVec 26).getLsbD d = true := by decide
  have hshift : ((w.retClusters.setWidth 26) <<< 10).getLsbD d = false := by
    rw [BitVec.getLsbD_shiftLeft, BitVec.getLsbD_setWidth]
    by_cases hlo : d < 10
    · simp [hlo]
    · by_cases hhi : d ≤ 18
      · simp [hret (by omega) hhi]
      · simp [BitVec.getLsbD_of_ge w.retClusters (d - 10) (by omega)]
  have hbit : ((0x1FFFEFF : BitVec 26) &&& ~~~((w.retClusters.setWidth 26) <<< 10)).getLsbD d = true := by
    rw [BitVec.getLsbD_and, BitVec.getLsbD_not, hshift, hplan d hd h8]
    simp
    omega
  exact hbit

/-- PLL i has locked; with the first LOCAL leaves FOSC (R557, R558). -/
def locked (s : State) (i : Nat) : State :=
  { s with clocks := { s.clocks with
      pllLock := s.clocks.pllLock ||| BitVec.ofNat 5 (2 ^ i), onFosc := if i = 0 then false else s.clocks.onFosc } }

/-- The domains and gates of the standard plan are on (R59). -/
def powered (s : State) : State :=
  { s with clocks := { s.clocks with
      pd := s.clocks.pd ||| bootDomains s.warden, gates := s.clocks.gates ||| bootGates s.warden } }

theorem exec_bootRom {s : State} (h : AtStep s 4) (linkOk : Bool) : exec (.bootRom linkOk) s = answer (
    if linkOk || (armMain (setStep (powered s) 5) true).boot.mode != .boot then armMain (setStep (powered s) 5) true
    else bootStop (armMain (setStep (powered s) 5) true) (Config.bootStatus 5)) :=
  congrArg answer (if_neg (by simp [bootAt_of_atStep h]))

theorem clocksAndRomStart : Claims.ClocksAndRomStart := by
  intro s i
  have hpow : Keeps [.boot, .clocks] s (setStep (powered s) 5) := (keeps_setClocks s _).comp (keeps_setBoot _ _)
  refine ⟨fun h hi hlock => ?_, fun h => ?_, fun h => ?_⟩
  case refine_1 =>
    have hnext : ¬ (!(bootAt s 3) || decide (i ≥ 5) || decide (s.clocks.pllLock.toNat + 1 ≠ 2 ^ i)) = true := by
      have hpos : 0 < 2 ^ i := Nat.two_pow_pos i
      simp [bootAt_of_atStep h, hi]
      omega
    have hex : exec (.pllLock i) s = answer (if i = 4 then setStep (maskMon (locked s i) (i + 1) false) 4
        else maskMon (locked s i) (i + 1) false) := congrArg answer (if_neg hnext)
    have hmon := congrArg ClkMon.masked
      (tget_tset_same {} s.clocks.mons (i + 1) { tget {} s.clocks.mons (i + 1) with masked := false })
    have hkeep : Keeps [.clocks] s (maskMon (locked s i) (i + 1) false) := (keeps_setClocks s _).trans (keeps_setClocks _ _)
    have hlocked := pllLock_next hi hlock
    by_cases h4 : i = 4
    · rw [if_pos h4] at hex
      rw [if_pos h4]
      exact ⟨_, hex, only_drivePins (hkeep.comp (keeps_setBoot _ _)), hlocked, rfl, hmon, rfl⟩
    · rw [if_neg h4] at hex
      rw [if_neg h4]
      refine ⟨_, hex, only_drivePins (hkeep.mono (by decide)), hlocked, rfl, hmon, ?_⟩
      obtain ⟨-, -, hstep, -⟩ := h
      rw [← hstep]
      rfl
  case refine_2 =>
    have hex := exec_bootRom h true
    rw [Bool.true_or, if_pos rfl] at hex
    refine ⟨_, hex, only_drivePins (hpow.comp (keeps_armMain (setStep (powered s) 5) true)),
      (drivePins_boot _).trans (keeps_armMain (setStep (powered s) 5) true).boot,
      fun n hn => ?_, fun d hd h8 hret => ?_⟩
    · rw [monitor_drivePins]
      exact armMain_monitor (setStep (powered s) 5) true n hn
    have hclocks : (armMain (setStep (powered s) 5) true).clocks = (powered s).clocks :=
      (keeps_armMain (setStep (powered s) 5) true).clocks
    rw [drivePins_clocks, hclocks]
    exact (BitVec.getLsbD_or).trans (by rw [bootDomains_on s.warden hd h8 hret, Bool.or_true])
  case refine_3 =>
    have hmode : (armMain (setStep (powered s) 5) true).boot.mode = .boot := by
      obtain ⟨-, -, -, hmode⟩ := h
      exact (congrArg Boot.mode (keeps_armMain (setStep (powered s) 5) true).boot).trans hmode
    have hstop : ¬ (false || (armMain (setStep (powered s) 5) true).boot.mode != .boot) = true := by
      rw [hmode]
      decide
    have hex := exec_bootRom h false
    rw [if_neg hstop] at hex
    exact bootStops_of hex ((hpow.comp (keeps_armMain _ _) (rs := [.boot, .clocks, .alarms])))

/-! ### The self-tests of step 6 -/

/-- What the warden holds after step 6, but for the clusters. -/
def testedWarden (s : State) (r : SelfTest) : State :=
  let w := s.warden
  { s with warden := { w with retLanes := w.retLanes ||| (r.lanes &&& ~~~w.retLanes),
                              retHash := w.retHash ||| (r.hash &&& ~~~w.retHash),
                              retChannels := w.retChannels ||| (r.channels &&& ~~~w.retChannels) } }

/-- The journal entries of the lanes, hash lanes and channels retired in step 6. -/
def testedUnits (s : State) (r : SelfTest) : State :=
  let s' := testedWarden s r
  let s' := (List.range 64).foldl (fun t n => if (r.lanes &&& ~~~s.warden.retLanes).getLsbD n then journalRetire t .lane n else t) s'
  let s' := (List.range 16).foldl (fun t n => if (r.hash &&& ~~~s.warden.retHash).getLsbD n then journalRetire t .hashLane n else t) s'
  (List.range 8).foldl (fun t n => if (r.channels &&& ~~~s.warden.retChannels).getLsbD n then journalRetire t .channel n else t) s'

/-- The module after the retirements of step 6. -/
def tested (s : State) (r : SelfTest) : State :=
  (List.range 9).foldl (fun t n => if (r.clusters &&& ~~~s.warden.retClusters).getLsbD n then retireCluster t n else t)
    (testedUnits s r)

theorem exec_bootSelftest {s : State} {r : SelfTest} (h : AtStep s 5) (hr : r.fatal = none) :
    exec (.bootSelftest r) s = answer (if lanesShort (tested s r) && (tested s r).boot.mode == .boot
      then bootStop (tested s r) (Config.bootStatus 6) else setStep (layClusters (tested s r) false) 6) := by
  refine congrArg answer ((if_neg (by simp [bootAt_of_atStep h])).trans ?_)
  rw [hr]
  rfl

theorem or_andNot {w : Nat} (x y : BitVec w) : x ||| (y &&& ~~~x) = x ||| y := by
  ext i hi
  simp only [BitVec.getElem_or, BitVec.getElem_and, BitVec.getElem_not]
  cases x[i] <;> cases y[i] <;> rfl

theorem keeps_retireEach (m : Nat → Bool) (kind : UnitKind) (l : List Nat) (s : State) :
    Keeps [.free, .outbox, .tb, .journal, .pair] s
      (l.foldl (fun t n => if m n then journalRetire t kind n else t) s) :=
  Keeps.foldl (fun t n => by
    split
    next => exact keeps_journalRetire t kind n
    next => exact Keeps.refl _ t) l s

theorem keeps_testedUnits (s : State) (r : SelfTest) :
    Keeps [.free, .outbox, .tb, .journal, .pair] (testedWarden s r) (testedUnits s r) :=
  ((keeps_retireEach _ .lane _ _).trans (keeps_retireEach _ .hashLane _ _)).trans (keeps_retireEach _ .channel _ _)

theorem retireCluster_keeps (s : State) (j : Nat) :
    Keeps [.free, .outbox, .warden, .clocks, .tb, .journal, .pair, .units] s (retireCluster s j) ∧
      (retireCluster s j).warden = { s.warden with retClusters := s.warden.retClusters ||| BitVec.ofNat 9 (2 ^ j) } := by
  unfold retireCluster
  dsimp only
  refine ⟨Keeps.comp (qs := [.free, .outbox, .tb, .journal, .pair]) (ps := [.warden, .clocks, .units]) ?_
    (keeps_journalRetire _ _ _), (keeps_journalRetire _ _ _).warden⟩
  intro p hp
  cases p
  case warden | clocks | units => simp at hp
  all_goals rfl

/-- The retirement of the clusters that a predicate names. -/
theorem retireClusters (m : Nat → Bool) (l : List Nat) (s : State) :
    let t := l.foldl (fun t n => if m n then retireCluster t n else t) s
    Keeps [.free, .outbox, .warden, .clocks, .tb, .journal, .pair, .units] s t ∧
      t.warden = { s.warden with retClusters := t.warden.retClusters } ∧
      ∀ i, i < 9 → t.warden.retClusters.getLsbD i = (s.warden.retClusters.getLsbD i || (l.contains i && m i)) := by
  induction l generalizing s with
  | nil => exact ⟨Keeps.refl _ _, rfl, fun i _ => by simp⟩
  | cons n l ih =>
    dsimp only [List.foldl_cons]
    cases hm : m n
    case false =>
      obtain ⟨hkeep, hw, hbits⟩ := ih s
      refine ⟨hkeep, hw, fun i hi => (hbits i hi).trans ?_⟩
      by_cases hin : i = n
      · subst hin
        simp [hm]
      · simp [hin]
    case true =>
      obtain ⟨hkeep1, hw1⟩ := retireCluster_keeps s n
      obtain ⟨hkeep, hw, hbits⟩ := ih (retireCluster s n)
      rw [hw1] at hbits
      refine ⟨hkeep1.trans hkeep, by rw [if_pos rfl, hw, hw1], fun i hi => (hbits i hi).trans ?_⟩
      rw [BitVec.getLsbD_or, BitVec.getLsbD_ofNat, Nat.testBit_two_pow]
      by_cases hin : i = n
      · subst hin
        simp [hm, hi]
      · simp [hin, Ne.symm hin]

/-- What step 6 leaves before the module judges it. -/
theorem tested_facts (s : State) (r : SelfTest) :
    Keeps [.free, .outbox, .warden, .clocks, .tb, .journal, .pair, .units] s (tested s r) ∧
      (tested s r).warden.retLanes = s.warden.retLanes ||| r.lanes ∧
      (tested s r).warden.retHash = s.warden.retHash ||| r.hash ∧
      (tested s r).warden.retChannels = s.warden.retChannels ||| r.channels ∧
      (tested s r).warden.retClusters = s.warden.retClusters ||| r.clusters := by
  obtain ⟨hkeep, hw, hbits⟩ := retireClusters (fun n => (r.clusters &&& ~~~s.warden.retClusters).getLsbD n) (List.range 9)
    (testedUnits s r)
  have hunits := keeps_testedUnits s r
  have hwarden : Keeps [.warden] s (testedWarden s r) := by
    intro p hp
    cases p
    case warden => simp at hp
    all_goals rfl
  have hw1 : (tested s r).warden = { (testedWarden s r).warden with retClusters := (tested s r).warden.retClusters } := by
    rw [← hunits.warden]
    exact hw
  refine ⟨(hwarden.comp hunits (rs := [.free, .outbox, .warden, .tb, .journal, .pair])).comp hkeep, ?_, ?_, ?_, ?_⟩
  · rw [hw1]
    exact or_andNot _ _
  · rw [hw1]
    exact or_andNot _ _
  · rw [hw1]
    exact or_andNot _ _
  · refine BitVec.eq_of_getLsbD_eq fun i hi => (hbits i hi).trans ?_
    have hin : (List.range 9).contains i = true := by simpa using hi
    rw [hunits.warden, hin, Bool.true_and, ← BitVec.getLsbD_or]
    exact congrArg (fun x : BitVec 9 => x.getLsbD i) (or_andNot _ _)

/-- The self-tests of step 6: they stop boot with too few lanes and end the step with enough (R59, R60, R234, R477). -/
theorem selfTests {s : State} {r : SelfTest} (h : AtStep s 5) (hr : r.fatal = none) :
    let many := 8 ≤ popCount 64 (s.boot.laneMask &&& ~~~(s.warden.retLanes ||| r.lanes)).toNat ∧
       2 ≤ popCount 16 (~~~(s.warden.retHash ||| r.hash)).toNat
    (¬ many → Gives (.bootSelftest r) s fun t => t.boot.mode = .locked ∧ t.boot.fail = Config.bootStatus 6 ∧
        t.boot.step = s.boot.step ∧ t.warden.retLanes = s.warden.retLanes ||| r.lanes ∧ t.keys.frankPriv = none) ∧
    (many → Gives (.bootSelftest r) s fun t =>
      Only [.free, .outbox, .boot, .warden, .clocks, .so, .tb, .journal, .pair, .units] s t ∧
      t.boot = { s.boot with step := 6 } ∧
      t.warden.retLanes = s.warden.retLanes ||| r.lanes ∧ t.warden.retHash = s.warden.retHash ||| r.hash ∧
      t.warden.retChannels = s.warden.retChannels ||| r.channels ∧
      t.warden.retClusters = s.warden.retClusters ||| r.clusters ∧ t.so.clusterOut = t.warden.retClusters.setWidth 8) := by
  intro many
  obtain ⟨hkeep, hlanes, hhash, hchans, hcls⟩ := tested_facts s r
  have hex := exec_bootSelftest h hr
  obtain ⟨-, -, -, hmode⟩ := h
  generalize tested s r = u at hkeep hlanes hhash hchans hcls hex
  have hboot := hkeep.boot
  have hshort : lanesShort u = true ↔ ¬ many := by
    rw [lanesShort, testable, hboot, hlanes, hhash]
    simp only [Bool.or_eq_true, decide_eq_true_eq, many]
    omega
  have hin : (u.boot.mode == .boot) = true := by rw [hboot, hmode]; rfl
  rw [hin, Bool.and_true] at hex
  refine ⟨fun hfew => ?_, fun hmany => ?_⟩
  · rw [if_pos (hshort.2 hfew)] at hex
    have hstop := bootStop_boot u (Config.bootStatus 6)
    refine ⟨_, hex, congrArg Boot.mode hstop, congrArg Boot.fail hstop, ?_, ?_, ?_⟩
    · rw [drivePins_boot, hstop, hboot]
    · exact (congrArg Warden.retLanes (bootStop_warden u _)).trans hlanes
    · exact congrArg KeyUnit.frankPriv (keeps_setMode (eraseWorking { u with boot := { u.boot with
        fail := Config.bootStatus 6 } }) .locked (Config.modeTrigger 3)).keys
  · rw [if_neg (fun hs => hshort.1 hs hmany)] at hex
    have hlay : Keeps [.so, .units] u (layClusters u false) := by
      intro p hp
      cases p
      case so | units => simp at hp
      all_goals rfl
    refine ⟨_, hex, only_drivePins ?_, ?_, hlanes, hhash, hchans, hcls, rfl⟩
    · exact hkeep.comp (hlay.comp (keeps_setBoot _ _) (rs := [.so, .units, .boot]))
    · exact congrArg (fun b : Boot => { b with step := 6 }) hboot

/-- A failure of a unit without a spare stops boot (R60). -/
theorem fatalSelfTest {s : State} {r : SelfTest} {st : Code} (h : AtStep s 5) (hr : r.fatal = some st) :
    BootStops (.bootSelftest r) s st [] := by
  have hex : exec (.bootSelftest r) s = answer (bootStop s st) := by
    refine congrArg answer ((if_neg (by simp [bootAt_of_atStep h])).trans ?_)
    obtain ⟨-, -, -, hmode⟩ := h
    rw [hr]
    exact if_pos (by rw [hmode]; rfl)
  exact bootStops_of hex (Keeps.refl [] s)

end Sys2Proof.Machine
end

section
/-! O33, second part: entropy start-up and the unsealing (R343, R344). -/

namespace Sys2Proof.Machine

/-! ### TIME through stamps and journal entries -/

theorem stamp_time (s : State) (src : Nat) : (stamp s src).2.time = s.time := rfl

theorem State.time_congr {s t : State} (h : t.tb = s.tb) : t.time = s.time := by rw [State.time, State.time, h]

/-! ### Masks of one bit -/

theorem and_not_bit_of_clear {x : BitVec 64} {n : Nat} (h : x.getLsbD n = false) :
    x &&& ~~~(BitVec.ofNat 64 (2 ^ n)) = x := by
  apply BitVec.eq_of_getLsbD_eq
  intro i hi
  rw [BitVec.getLsbD_and, BitVec.getLsbD_not, BitVec.getLsbD_ofNat, Nat.testBit_two_pow]
  by_cases hn : n = i
  · rw [← hn, h, Bool.false_and]
  · simp [hn, hi]

/-- Quarantine of a cell takes its bit out of the healthy cells. -/
theorem mask_of_quarantine (p q r m : BitVec 64) : p &&& ~~~(q ||| m) &&& ~~~r = p &&& ~~~q &&& ~~~r &&& ~~~m := by
  ext i hi
  simp only [BitVec.getElem_and, BitVec.getElem_not, BitVec.getElem_or]
  cases p[i] <;> cases q[i] <;> cases r[i] <;> cases m[i] <;> rfl

/-- So does its retirement. -/
theorem mask_of_retirement (p q r m : BitVec 64) :
    p &&& ~~~((q ||| m) &&& ~~~m) &&& ~~~(r ||| m) = p &&& ~~~q &&& ~~~r &&& ~~~m := by
  ext i hi
  simp only [BitVec.getElem_and, BitVec.getElem_not, BitVec.getElem_or]
  cases p[i] <;> cases q[i] <;> cases r[i] <;> cases m[i] <;> rfl

/-! ### Cells that fail their start-up test (R332, R343) -/

/-- What failures of cells leave: of the entropy unit the quarantine and the counters, of the warden the retired cells. -/
structure CellsFailed (s t : State) : Prop where
  keeps : Keeps [.entropy, .warden, .free, .outbox, .alarms, .msix, .tb, .journal, .pair] s t
  entropy : t.entropy = { s.entropy with quarMask := t.entropy.quarMask, cellFails := t.entropy.cellFails,
                                         healthFails := t.entropy.healthFails }
  warden : t.warden = { s.warden with retCells := t.warden.retCells }

theorem CellsFailed.refl (s : State) : CellsFailed s s := ⟨Keeps.refl _ _, rfl, rfl⟩

theorem CellsFailed.trans {s t u : State} (h : CellsFailed s t) (g : CellsFailed t u) : CellsFailed s u :=
  ⟨h.keeps.trans g.keeps, by rw [g.entropy, h.entropy], by rw [g.warden, h.warden]⟩

/-- The times of a cell's failures with the one that comes now. -/
def failTimes (s : State) (n : Nat) : List Nat := s.time.toNat :: (tget [] s.entropy.cellFails n).take 3

/-- The cell is in quarantine, its event raised. -/
def quarantined (s : State) (n : Nat) (counted : Bool) : State :=
  eventF (s.setEntropy (fun u => { u with
    quarMask := u.quarMask ||| BitVec.ofNat 64 (2 ^ n), cellFails := tset [] u.cellFails n (failTimes s n),
    healthFails := if counted then u.healthFails.inc else u.healthFails })) 0x0304 n 0 0

/-- The cell is retired: in the warden's mask, and no longer in quarantine. -/
def retiredCell (s : State) (n : Nat) : State :=
  journalRetire (({ s with warden := { s.warden with retCells := s.warden.retCells ||| BitVec.ofNat 64 (2 ^ n) } }).setEntropy
    (fun u => { u with quarMask := u.quarMask &&& ~~~(BitVec.ofNat 64 (2 ^ n)) })) .cell n

theorem quarantined_entropy (s : State) (n : Nat) (counted : Bool) : (quarantined s n counted).entropy =
    { s.entropy with quarMask := s.entropy.quarMask ||| BitVec.ofNat 64 (2 ^ n),
                     cellFails := tset [] s.entropy.cellFails n (failTimes s n),
                     healthFails := if counted then s.entropy.healthFails.inc else s.entropy.healthFails } := by
  rw [quarantined, (keeps_eventF _ _ _ _ _).entropy]
  rfl

theorem quarantined_fails (s : State) (n : Nat) (counted : Bool) : CellsFailed s (quarantined s n counted) := by
  have hkeep : Keeps [.entropy, .free, .outbox, .alarms, .msix, .tb, .journal, .pair] s (quarantined s n counted) :=
    (keeps_setEntropy s _).comp (keeps_eventF _ _ _ _ _)
  exact ⟨hkeep.mono (by decide), by rw [quarantined_entropy], by rw [hkeep.warden]⟩

theorem retiredCell_entropy (s : State) (n : Nat) : (retiredCell s n).entropy =
    { s.entropy with quarMask := s.entropy.quarMask &&& ~~~(BitVec.ofNat 64 (2 ^ n)) } :=
  (keeps_journalRetire _ _ _).entropy

theorem retiredCell_warden (s : State) (n : Nat) : (retiredCell s n).warden =
    { s.warden with retCells := s.warden.retCells ||| BitVec.ofNat 64 (2 ^ n) } :=
  (keeps_journalRetire _ _ _).warden

theorem retiredCell_fails (s : State) (n : Nat) : CellsFailed s (retiredCell s n) := by
  have h : Keeps [.entropy, .warden] s (({ s with
      warden := { s.warden with retCells := s.warden.retCells ||| BitVec.ofNat 64 (2 ^ n) } }).setEntropy
      (fun u => { u with quarMask := u.quarMask &&& ~~~(BitVec.ofNat 64 (2 ^ n)) })) := by
    intro p hp
    cases p
    case entropy | warden => simp at hp
    all_goals rfl
  exact ⟨h.comp (keeps_journalRetire _ _ _), by rw [retiredCell_entropy], by rw [retiredCell_warden]⟩

/-- A cell that fails is quarantined, and where that is one failure too many retired as well. -/
theorem failCell_cases (s : State) (n : Nat) (counted : Bool) :
    failCell s n counted = retiredCell (quarantined s n counted) n ∨ failCell s n counted = quarantined s n counted := by
  have heq : failCell s n counted = if within24h (quarantined s n counted) (failTimes s n) ≥ 2
      then retiredCell (quarantined s n counted) n else quarantined s n counted := rfl
  rw [heq]
  split
  next => exact .inl rfl
  next => exact .inr rfl

theorem failCell_fails (s : State) (n : Nat) (counted : Bool) : CellsFailed s (failCell s n counted) := by
  obtain h | h := failCell_cases s n counted
  · rw [h]
    exact (quarantined_fails s n counted).trans (retiredCell_fails _ n)
  · rw [h]
    exact quarantined_fails s n counted

theorem failCell_healthy (s : State) (n : Nat) (counted : Bool) :
    healthyMask (failCell s n counted) = healthyMask s &&& ~~~(BitVec.ofNat 64 (2 ^ n)) := by
  have hq := quarantined_entropy s n counted
  have hw : (quarantined s n counted).warden = s.warden := (keeps_eventF _ _ _ _ _).warden
  obtain h | h := failCell_cases s n counted
  · rw [h, healthyMask, retiredCell_entropy, retiredCell_warden, hq, hw]
    exact mask_of_retirement _ _ _ _
  · rw [h, healthyMask, hq, hw]
    exact mask_of_quarantine _ _ _ _

/-- The failures of cells that are not among the healthy ones leave those as they are. -/
theorem failCells (bad : BitVec 64) (counted : Nat → Bool) (l : List Nat) (s : State)
    (hbad : ∀ n, bad.getLsbD n = true → (healthyMask s).getLsbD n = false) :
    let t := l.foldl (fun s n => if bad.getLsbD n then failCell s n (counted n) else s) s
    CellsFailed s t ∧ healthyMask t = healthyMask s := by
  induction l generalizing s with
  | nil => exact ⟨.refl s, rfl⟩
  | cons n l ih =>
    rw [List.foldl_cons]
    cases hn : bad.getLsbD n
    case false => exact ih s hbad
    case true =>
      have hsame : healthyMask (failCell s n (counted n)) = healthyMask s := by
        rw [failCell_healthy, and_not_bit_of_clear (hbad n hn)]
      obtain ⟨hfails, hmask⟩ := ih (failCell s n (counted n)) (by rw [hsame]; exact hbad)
      exact ⟨(failCell_fails s n (counted n)).trans hfails, hmask.trans hsame⟩

/-! ### Draws of the entropy unit -/

/-- What draws for the module's own keys leave: keys, instances, pool and counters alone moved on, TIME stands, and no
instance is lost. -/
structure Drawn (s t : State) : Prop where
  keeps : Keeps [.entropy, .free, .tb, .keys] s t
  time : t.time = s.time
  entropy : t.entropy = { s.entropy with wmuIndex := t.entropy.wmuIndex, pool := t.entropy.pool,
                                         reseeds := t.entropy.reseeds, insts := t.entropy.insts }
  insts : ∀ i, (lookup s.entropy.insts i).isSome = true → (lookup t.entropy.insts i).isSome = true

theorem Drawn.refl (s : State) : Drawn s s := ⟨Keeps.refl _ _, rfl, rfl, fun _ => id⟩

theorem Drawn.trans {s t u : State} (h : Drawn s t) (g : Drawn t u) : Drawn s u :=
  ⟨h.keeps.trans g.keeps, g.time.trans h.time, by rw [g.entropy, h.entropy], fun i hi => g.insts i (h.insts i hi)⟩

theorem lookup_insertAt_isSome {α : Type} {t : List (Nat × α)} {n m : Nat} {v : α} (h : (lookup t m).isSome = true) :
    (lookup (insertAt t n v) m).isSome = true := by
  by_cases hm : m = n
  · rw [hm, lookup_insertAt_same]
    rfl
  · rw [lookup_insertAt_other _ _ _ _ hm]
    exact h

theorem drawn_generate (s : State) (i n : Nat) (pr : Bool) (add : Octets) : Drawn s (generate s i n pr add).2 := by
  refine ⟨(keeps_generate s i n pr add).mono (by decide), State.time_congr (keeps_generate s i n pr add).tb, ?_, fun m hm => ?_⟩
  · unfold generate
    dsimp only
    split <;> rfl
  · unfold generate
    dsimp only
    split
    next => exact lookup_insertAt_isSome hm
    next => exact lookup_insertAt_isSome hm

/-- The instance that an instantiation makes. -/
def instance_ (s : State) (i tenant : Nat) : Drbg :=
  ({ v := zeros 16, key := zeros 32 } : Drbg).seed s.time
    ((takeSeed (stamp s srcEntropy).2).1 ++ personal (takeSeed (stamp s srcEntropy).2).2 i tenant (stamp s srcEntropy).1)

theorem instantiate_insts (s : State) (i tenant : Nat) :
    (instantiate s i tenant).entropy.insts = insertAt s.entropy.insts i (instance_ s i tenant) := rfl

/-- A new instance is not due (R333). -/
theorem instance_not_due (s : State) (i tenant : Nat) : (instance_ s i tenant).isDue s.time = false := by
  have hdue : (instance_ s i tenant).due = false := rfl
  have hreq : (instance_ s i tenant).requests = 0 := rfl
  have hseed : (instance_ s i tenant).seeded = s.time := rfl
  rw [Drbg.isDue, hdue, hreq, hseed, BitVec.sub_self]
  rfl

theorem keeps_instantiate (s : State) (i tenant : Nat) : Keeps [.entropy, .free, .tb] s (instantiate s i tenant) := by
  intro p hp
  cases p
  case entropy | free | tb => simp at hp
  all_goals rfl

theorem drawn_instantiate (s : State) (i tenant : Nat) : Drawn s (instantiate s i tenant) := by
  refine ⟨(keeps_instantiate s i tenant).mono (by decide), rfl, rfl, fun m hm => ?_⟩
  · rw [instantiate_insts]
    exact lookup_insertAt_isSome hm

/-- A row of instantiations: every instance named is there, and none that one of them made is due. -/
theorem instantiations (base n : Nat) (s : State) :
    let t := (List.range n).foldl (fun s i => instantiate s (base + i)) s
    Drawn s t ∧ ∀ i, base ≤ i → i < base + n → ∃ d, lookup t.entropy.insts i = some d ∧ d.isDue t.time = false := by
  induction n with
  | zero => exact ⟨.refl s, fun i h1 h2 => by omega⟩
  | succ n ih =>
    obtain ⟨hdrawn, hall⟩ := ih
    rw [List.range_succ, List.foldl_append, List.foldl_cons, List.foldl_nil]
    generalize (List.range n).foldl (fun s i => instantiate s (base + i)) s = t at hdrawn hall
    have hnew := drawn_instantiate t (base + n) 0
    refine ⟨hdrawn.trans hnew, fun i h1 h2 => ?_⟩
    rw [hnew.time, instantiate_insts]
    by_cases hi : i = base + n
    · rw [hi, lookup_insertAt_same]
      exact ⟨_, rfl, instance_not_due t (base + n) 0⟩
    · rw [lookup_insertAt_other _ _ _ _ hi]
      exact hall i h1 (by omega)

theorem keeps_instantiations (base n : Nat) (s : State) :
    Keeps [.entropy, .free, .tb] s ((List.range n).foldl (fun s i => instantiate s (base + i)) s) :=
  Keeps.foldl (fun s i => keeps_instantiate s (base + i) 0) _ s

theorem generate_insts_other (s : State) {i m : Nat} (n : Nat) (pr : Bool) (add : Octets) (h : m ≠ i) :
    lookup (generate s i n pr add).2.entropy.insts m = lookup s.entropy.insts m := by
  unfold generate
  dsimp only
  split
  next => exact lookup_insertAt_other _ _ _ _ h
  next => exact lookup_insertAt_other _ _ _ _ h

/-- The random service runs, and instance I6 is fresh. -/
def Serving (s : State) : Prop :=
  s.boot.rngReady = true ∧ s.entropy.offline = false ∧ s.entropy.failed = false ∧
    ∃ d, lookup s.entropy.insts 6 = some d ∧ d.isDue s.time = false

theorem canServe_of_serving {s : State} (h : Serving s) : canServe s 6 = true := by
  obtain ⟨hready, hoffline, hfailed, d, hd, hdue⟩ := h
  simp [canServe, hready, hoffline, hfailed, hd, hdue]

/-- The module with the cache and its keys erased. -/
def cacheless (s : State) : State := { s with keys := { s.keys with cacheKey := none, indexKey := none, cache := [] } }

theorem drawn_setKeys (s : State) (k : KeyUnit) : Drawn s { s with keys := k } := by
  refine ⟨fun p hp => ?_, rfl, rfl, fun _ => id⟩
  cases p
  case keys => simp at hp
  all_goals rfl

theorem redrawCache_facts {s : State} (h : Serving s) : Drawn s (redrawCache s) ∧
    (redrawCache s).keys.cacheKey.isSome = true ∧ (redrawCache s).keys.indexKey.isSome = true := by
  have hserve : canServe (cacheless s) 6 = true := canServe_of_serving h
  have heq : redrawCache s =
      if canServe (cacheless s) 6 then
        { (generate (generate (cacheless s) 6 32 false).2 6 32 false).2 with
          keys := { (generate (generate (cacheless s) 6 32 false).2 6 32 false).2.keys with
            cacheKey := some (generate (cacheless s) 6 32 false).1,
            indexKey := some (generate (generate (cacheless s) 6 32 false).2 6 32 false).1 } }
      else cacheless s := rfl
  rw [heq, if_pos hserve]
  refine ⟨(((drawn_setKeys s _).trans (drawn_generate (cacheless s) 6 32 false [])).trans (drawn_generate _ 6 32 false [])).trans
    (drawn_setKeys _ _), rfl, rfl⟩

theorem be_length (n v : Nat) : (be n v).length = n := by rw [be, List.length_reverse, le_length]

theorem signP384_length (priv digest kp : Octets) : (signP384 priv digest kp).length = 96 := by
  unfold signP384
  split
  next => rw [List.length_append, be_length, be_length]
  next => rfl

theorem fit_length (n : Nat) (o : Octets) : (fit n o).length = n := by simp [fit, zeros]

theorem frankId_length (s : State) : (frankId s).length = 8 := by
  rw [frankId, List.length_take, sha, fit_length]
  rfl

/-- The certified text of the Franking key, 128 octets (R473). -/
def frankText (s : State) (pm : Postmark) : Octets := fit 97 s.keys.frankPub ++ zeros 7 ++ frankId s ++ pm.octets ++ zeros 4

theorem frankText_length (s : State) (pm : Postmark) : (frankText s pm).length = 128 := by
  simp only [frankText, List.length_append, fit_length, frankId_length, Postmark.octets_length, zeros, List.length_replicate]

theorem drawn_stamp (s : State) (src : Nat) : Drawn s (stamp s src).2 :=
  ⟨(keeps_stamp s src).mono (by decide), stamp_time s src, rfl, fun _ => id⟩

/-- The certification of the Franking key leaves the other keys alone. -/
theorem certify_facts (s : State) : Drawn s (certify s) ∧ (certify s).keys.frankCert.length = 224 ∧
    (certify s).keys = { s.keys with frankCert := (certify s).keys.frankCert } := by
  have hkeys : (generate (stamp s srcKeyUnit).2 7 48 false).2.keys = s.keys := (keeps_generate _ 7 48 false []).keys
  refine ⟨((drawn_stamp s srcKeyUnit).trans (drawn_generate _ 7 48 false [])).trans (drawn_setKeys _ _), ?_, ?_⟩
  · have hcert : (certify s).keys.frankCert =
        frankText (generate (stamp s srcKeyUnit).2 7 48 false).2 (stamp s srcKeyUnit).1 ++ signP384 _ _ _ := rfl
    rw [hcert, List.length_append, frankText_length, signP384_length]
  · have heq : (certify s).keys = { (generate (stamp s srcKeyUnit).2 7 48 false).2.keys with
        frankCert := (certify s).keys.frankCert } := rfl
    rw [hkeys] at heq
    exact heq

/-! ### The keys of the boot (R344) -/

/-- The index of the check prime is drawn, and the cache keys with it. -/
def indexed (s : State) : State :=
  { (generate s 4 1 false).2 with
    entropy := { (generate s 4 1 false).2.entropy with wmuIndex := (generate s 4 1 false).1.headD 0 } }

theorem drawn_indexed (s : State) : Drawn s (indexed s) := by
  have h := drawn_generate s 4 1 false []
  refine ⟨fun p hp => ?_, h.time, ?_, h.insts⟩
  · cases p
    case entropy | free | tb | keys => simp at hp
    all_goals exact h.keeps _ hp
  · rw [indexed]
    dsimp only
    rw [h.entropy]

theorem serving_indexed {s : State} (h : Serving s) : Serving (indexed s) := by
  obtain ⟨hready, hoffline, hfailed, d, hd, hdue⟩ := h
  have hdrawn := drawn_indexed s
  refine ⟨?_, ?_, ?_, d, (generate_insts_other s 1 false [] (by decide)).trans hd, ?_⟩
  · rw [hdrawn.keeps.boot, hready]
  · rw [hdrawn.entropy, hoffline]
  · rw [hdrawn.entropy, hfailed]
  · rw [hdrawn.time, hdue]

/-- The Franking key is there and the key store unsealed. -/
def unsealed (s : State) (priv : Octets) : State :=
  { s with keys := { s.keys with frankPriv := some priv, frankPub := publicP384 priv }, boot := { s.boot with unsealed := true } }

/-- What the drawing of the module's keys leaves. -/
structure KeysDrawn (s t : State) : Prop where
  keeps : Keeps [.entropy, .free, .tb, .keys, .boot] s t
  boot : t.boot = { s.boot with unsealed := true }
  entropy : t.entropy = { s.entropy with wmuIndex := t.entropy.wmuIndex, pool := t.entropy.pool,
                                         reseeds := t.entropy.reseeds, insts := t.entropy.insts }
  insts : ∀ i, (lookup s.entropy.insts i).isSome = true ∨ 8 ≤ i ∧ i < 24 → (lookup t.entropy.insts i).isSome = true
  frankPriv : t.keys.frankPriv.isSome = true
  frankCert : t.keys.frankCert.length = 224
  cacheKey : t.keys.cacheKey.isSome = true
  indexKey : t.keys.indexKey.isSome = true

theorem drawModuleKeys_draws {s : State} (h : Serving s) : KeysDrawn s (drawModuleKeys s) := by
  obtain ⟨hcache, hck, hik⟩ := redrawCache_facts (serving_indexed h)
  have hfirst := ((drawn_indexed s).trans hcache).trans (drawn_generate (redrawCache (indexed s)) 6 56 false [])
  have hkeys : (generate (redrawCache (indexed s)) 6 56 false).2.keys = (redrawCache (indexed s)).keys :=
    (keeps_generate _ 6 56 false []).keys
  have heq : drawModuleKeys s = (List.range 16).foldl (fun s i => instantiate s (8 + i))
      (certify (unsealed (generate (redrawCache (indexed s)) 6 56 false).2
        (be 48 (scalarDraw (generate (redrawCache (indexed s)) 6 56 false).1)))) := rfl
  rw [heq]
  generalize (generate (redrawCache (indexed s)) 6 56 false).2 = u at hfirst hkeys
  generalize be 48 (scalarDraw (generate (redrawCache (indexed s)) 6 56 false).1) = priv
  obtain ⟨hcert, hlen, hsame⟩ := certify_facts (unsealed u priv)
  obtain ⟨hrow, hall⟩ := instantiations 8 16 (certify (unsealed u priv))
  have hrowKeeps := keeps_instantiations 8 16 (certify (unsealed u priv))
  generalize certify (unsealed u priv) = v at hcert hlen hsame hrow hall hrowKeeps
  generalize (List.range 16).foldl (fun s i => instantiate s (8 + i)) v = t at hrow hall hrowKeeps
  have hlast := hcert.trans hrow
  have hun : Keeps [.keys, .boot] u (unsealed u priv) := by
    intro p hp
    cases p
    case keys | boot => simp at hp
    all_goals rfl
  refine ⟨(hfirst.keeps.comp hun (rs := [.entropy, .free, .tb, .keys, .boot])).comp hlast.keeps, ?_, ?_, ?_, ?_, ?_, ?_, ?_⟩
  case refine_1 =>
    have hb : t.boot = { u.boot with unsealed := true } := hlast.keeps.boot
    rw [hb, hfirst.keeps.boot]
  case refine_2 =>
    have he : t.entropy = { u.entropy with wmuIndex := t.entropy.wmuIndex, pool := t.entropy.pool,
                                           reseeds := t.entropy.reseeds, insts := t.entropy.insts } := hlast.entropy
    rw [he, hfirst.entropy]
  case refine_3 =>
    rintro i (hi | ⟨h1, h2⟩)
    · exact hlast.insts i (hfirst.insts i hi)
    · obtain ⟨d, hd, -⟩ := hall i h1 h2
      rw [hd]
      rfl
  all_goals rw [hrowKeeps.keys]
  case refine_4 =>
    rw [hsame]
    rfl
  case refine_5 => exact hlen
  case refine_6 =>
    rw [hsame]
    exact (congrArg (fun k : KeyUnit => k.cacheKey.isSome) hkeys).trans hck
  case refine_7 =>
    rw [hsame]
    exact (congrArg (fun k : KeyUnit => k.indexKey.isSome) hkeys).trans hik

/-! ### The review that finds nothing (R345) -/

theorem reviewCauses_calm {s : State} (h : calm s (healthyMask s)) :
    reviewCauses s = s.setEntropy (fun n => { n with failCause := 0 }) := by
  obtain ⟨hready, hfailed, hlane, hcells⟩ := h
  have hcause : failCauses s = 0 := by
    rw [failCauses, hlane, healthyCells, if_neg (Nat.not_lt.2 hcells)]
    rfl
  have hf : (s.setEntropy (fun n => { n with failCause := 0 })).entropy.failed = false := hfailed
  simp only [reviewCauses, hready, Bool.not_true, Bool.false_eq_true, if_false, hcause, ne_eq, not_true_eq_false,
    decide_false, Bool.false_and, hf, Bool.and_false]

/-! ### Entropy start-up -/

theorem exec_entropyStartup {s : State} (h : AtStep s 6) (passed cond : BitVec 64) (kat : Bool) :
    let live := ~~~s.warden.retCells
    let good := passed &&& cond &&& live
    exec (.entropyStartup passed cond kat) s = answer (
      if decide (cellCount (passed &&& live) < 24) || !kat then bootStop (startCells s passed good) entropyFailed
      else if (startRandom (startCells s passed good) (cellCount good)).warden.lc = .manufacture then
        reviewCauses (enterDiagnostic (startRandom (startCells s passed good) (cellCount good)) (Config.modeTrigger 0))
      else reviewCauses (setMode (startSegment (drawModuleKeys (startRandom (startCells s passed good) (cellCount good))))
        .staged (Config.modeTrigger 0))) := by
  have hrun : ¬ (!(bootAt s 6) || s.boot.mode != .boot) = true := by
    obtain ⟨-, -, -, hmode⟩ := id h
    simp [bootAt_of_atStep h, hmode]
  exact congrArg answer (if_neg hrun)

/-- The cells that pass are the healthy ones when none was in quarantine before. -/
theorem startCells_facts {s : State} (passed cond : BitVec 64) (hq : s.entropy.quarMask = 0) :
    let good := passed &&& cond &&& ~~~s.warden.retCells
    CellsFailed (s.setEntropy fun u => { u with passed := good }) (startCells s passed good) ∧
      healthyMask (startCells s passed good) = good := by
  intro good
  have hmask : healthyMask (s.setEntropy fun u => { u with passed := good }) = good := by
    have hq' : (s.setEntropy fun u => { u with passed := good }).entropy.quarMask = 0 := hq
    rw [healthyMask, hq']
    show passed &&& cond &&& ~~~s.warden.retCells &&& ~~~(0 : BitVec 64) &&& ~~~s.warden.retCells = good
    have hall : ~~~(0 : BitVec 64) = BitVec.allOnes 64 := rfl
    rw [hall, BitVec.and_allOnes, BitVec.and_assoc, BitVec.and_self]
  obtain ⟨hfails, hsame⟩ := failCells (~~~s.warden.retCells &&& ~~~good) (fun n => !passed.getLsbD n) (List.range 64)
    (s.setEntropy fun u => { u with passed := good }) (fun n hn => by
      rw [BitVec.getLsbD_and, BitVec.getLsbD_not, BitVec.getLsbD_not] at hn
      rw [hmask]
      simp only [Bool.and_eq_true, Bool.not_eq_true', decide_eq_true_eq] at hn
      exact hn.2.2)
  exact ⟨hfails, hsame.trans hmask⟩

/-- What the start of the random service leaves. -/
theorem startRandom_facts (s : State) (cells : Nat) (hoffline : s.entropy.offline = false) (hfailed : s.entropy.failed = false) :
    let t := startRandom s cells
    Serving t ∧ Keeps [.entropy, .free, .tb, .keys, .boot] s t ∧
      t.boot = { s.boot with step := 8, rngReady := true, tRng := t.boot.tRng } ∧
      t.entropy = { s.entropy with wmuIndex := t.entropy.wmuIndex, pool := t.entropy.pool, reseeds := t.entropy.reseeds,
                                   insts := t.entropy.insts } ∧
      ∀ i, i < 8 → (lookup t.entropy.insts i).isSome = true := by
  have hrow := instantiations 0 8 (s.setEntropy fun u => { u with pool := u.pool + 1024 * cells })
  simp only [Nat.zero_add] at hrow
  obtain ⟨hdrawn, hall⟩ := hrow
  have hkeep := keeps_instantiations 0 8 (s.setEntropy fun u => { u with pool := u.pool + 1024 * cells })
  simp only [Nat.zero_add] at hkeep
  obtain ⟨us, heq⟩ : ∃ us, startRandom s cells =
      { (List.range 8).foldl instantiate (s.setEntropy fun u => { u with pool := u.pool + 1024 * cells }) with
        boot := { ((List.range 8).foldl instantiate (s.setEntropy fun u => { u with pool := u.pool + 1024 * cells })).boot with
          step := 8, rngReady := true, tRng := us } } := ⟨_, rfl⟩
  dsimp only
  rw [heq]
  generalize (List.range 8).foldl instantiate (s.setEntropy fun u => { u with pool := u.pool + 1024 * cells }) = u
    at hdrawn hall hkeep
  have he := hdrawn.entropy
  have hb : u.boot = s.boot := hkeep.boot
  have hser : u.entropy.offline = false ∧ u.entropy.failed = false := by
    rw [he]
    exact ⟨hoffline, hfailed⟩
  refine ⟨⟨rfl, hser.1, hser.2, hall 6 (Nat.zero_le _) (by decide)⟩, ?_, by rw [hb], ?_, fun i hi => ?_⟩
  · exact ((keeps_setEntropy s _).comp hkeep (rs := [.entropy, .free, .tb])).comp
      (keeps_setBoot u { u.boot with step := 8, rngReady := true, tRng := us })
  · exact he
  · obtain ⟨d, hd, -⟩ := hall i (Nat.zero_le _) (by omega)
    exact (congrArg Option.isSome hd)

/-- A calm module stays calm while keys are drawn. -/
theorem calm_congr {s t : State} (h : calm s (healthyMask s)) (hb : t.boot.rngReady = true)
    (he : t.entropy = { s.entropy with wmuIndex := t.entropy.wmuIndex, pool := t.entropy.pool, reseeds := t.entropy.reseeds,
                                       insts := t.entropy.insts })
    (hw : t.warden.retCells = s.warden.retCells) : calm t (healthyMask t) := by
  obtain ⟨-, hfailed, hlane, hcells⟩ := h
  rw [healthyMask, he, hw]
  exact ⟨hb, by rw [he]; exact hfailed, by rw [he]; exact hlane, hcells⟩

/-- The random service as entropy start-up leaves it with cells enough: calm, serving, and nothing else touched. -/
structure RandomReady (s t : State) : Prop where
  calm : calm t (healthyMask t)
  serving : Serving t
  keeps : Keeps [.entropy, .warden, .free, .outbox, .alarms, .msix, .tb, .journal, .pair, .keys, .boot] s t
  lc : t.warden.lc = s.warden.lc
  mode : t.boot.mode = s.boot.mode
  step : t.boot.step = 8
  insts : ∀ i, i < 8 → (lookup t.entropy.insts i).isSome = true

theorem startRandom_ready {s : State} (passed cond : BitVec 64)
    (hgood : 24 ≤ popCount 64 (passed &&& cond &&& ~~~s.warden.retCells).toNat) (hlane : s.entropy.laneFail = 0)
    (hq : s.entropy.quarMask = 0) (hfailed : s.entropy.failed = false) (hoffline : s.entropy.offline = false) :
    let good := passed &&& cond &&& ~~~s.warden.retCells
    RandomReady s (startRandom (startCells s passed good) (cellCount good)) := by
  intro good
  obtain ⟨hfails, hmask⟩ := startCells_facts passed cond hq
  generalize startCells s passed good = u at hfails hmask
  have hue := hfails.entropy
  have hlane' : u.entropy.laneFail = 0 := by rw [hue]; exact hlane
  have hfailed' : u.entropy.failed = false := by rw [hue]; exact hfailed
  have hoffline' : u.entropy.offline = false := by rw [hue]; exact hoffline
  obtain ⟨hserving, hkeep, hboot, hent, hinsts⟩ := startRandom_facts u (cellCount good) hoffline' hfailed'
  generalize startRandom u (cellCount good) = t at hserving hkeep hboot hent hinsts
  have hw : t.warden = u.warden := hkeep.warden
  have hb : u.boot = s.boot := hfails.keeps.boot
  refine ⟨?_, hserving, ?_, ?_, ?_, ?_, hinsts⟩
  case refine_1 =>
    have hmask' : healthyMask t = good := by
      rw [healthyMask, hent, hw]
      exact hmask
    obtain ⟨hready, -, hfailed, -⟩ := hserving
    exact ⟨hready, hfailed, by rw [hent]; exact hlane', by rw [hmask']; exact hgood⟩
  case refine_2 =>
    exact ((keeps_setEntropy s _).comp hfails.keeps (rs := [.entropy, .warden, .free, .outbox, .alarms, .msix, .tb,
      .journal, .pair])).comp hkeep
  case refine_3 =>
    rw [hw, hfails.warden]
    rfl
  case refine_4 => rw [hboot, hb]
  case refine_5 => rw [hboot]

theorem keeps_startSegment (s : State) : Keeps [.free, .outbox, .tb, .journal, .pair] s (startSegment s) :=
  (keeps_setJournal s _).comp (keeps_journalNow _ _ _)

theorem staged_keeps (s : State) :
    Keeps [.free, .outbox, .tb, .journal, .pair, .boot] s (setMode (startSegment s) .staged (Config.modeTrigger 0)) :=
  (keeps_startSegment s).comp (keeps_setMode _ .staged _)

/-- The module of MANUFACTURE before its mode changes (R54). -/
def diagnosed (s : State) : State :=
  { s with
    clocks := { s.clocks with pd := s.clocks.pd ||| 0x2000000, gates := s.clocks.gates ||| 0x8000000 },
    portA := { s.portA with vfEnable := false }, portB := { s.portB with vfEnable := false },
    boot := { s.boot with unsealed := false } }

/-- Entropy start-up (R343, R344). -/
theorem entropyStartup {s : State} (h : AtStep s 6) (passed cond : BitVec 64) (kat : Bool) :
    let live := ~~~s.warden.retCells
    let enough := 24 ≤ popCount 64 (passed &&& live).toNat ∧ kat = true
    let well := 24 ≤ popCount 64 (passed &&& cond &&& live).toNat ∧ s.entropy.laneFail = 0 ∧ s.entropy.quarMask = 0 ∧
       s.entropy.failed = false ∧ s.entropy.offline = false ∧ s.boot.rngReady = false
    (¬ enough → Gives (.entropyStartup passed cond kat) s fun t => t.boot.mode = .locked ∧ t.boot.fail = entropyFailed ∧
        t.boot.rngReady = s.boot.rngReady ∧ t.boot.unsealed = s.boot.unsealed ∧ t.keys.frankPriv = none ∧ t.entropy.insts = []) ∧
    (enough → well → s.warden.lc ≠ .manufacture → Gives (.entropyStartup passed cond kat) s fun t =>
        t.boot.mode = .staged ∧ t.boot.step = 8 ∧ t.boot.rngReady = true ∧ t.boot.unsealed = true ∧
        t.keys.frankPriv.isSome = true ∧ t.keys.frankCert.length = 224 ∧ t.keys.cacheKey.isSome = true ∧
        t.keys.indexKey.isSome = true ∧ (∀ i, i < 24 → (lookup t.entropy.insts i).isSome = true) ∧
        t.so = s.so ∧ t.cores = s.cores ∧ t.slots = s.slots) ∧
    (enough → well → s.warden.lc = .manufacture → Gives (.entropyStartup passed cond kat) s fun t =>
        t.boot.mode = .diagnostic ∧ t.boot.rngReady = true ∧ t.boot.unsealed = false ∧
        t.portA.vfEnable = false ∧ t.portB.vfEnable = false ∧ t.clocks.pd.getLsbD 25 = true) := by
  intro live enough well
  have hex := exec_entropyStartup h passed cond kat
  dsimp only at hex
  obtain ⟨-, -, hstep, hmode⟩ := h
  have henough (hmany : enough) : ¬ (decide (cellCount (passed &&& ~~~s.warden.retCells) < 24) || !kat) = true := by
    obtain ⟨hcells, hkat⟩ := hmany
    simp only [hkat, Bool.not_true, Bool.or_false, cellCount]
    exact fun hfew => absurd hcells (Nat.not_le.2 (of_decide_eq_true hfew))
  refine ⟨fun hfew => ?_, fun hmany hwell hlc => ?_, fun hmany hwell hlc => ?_⟩
  case refine_1 =>
    have hkeep : Keeps [.entropy, .warden, .free, .outbox, .alarms, .msix, .tb, .journal, .pair] s
        (startCells s passed (passed &&& cond &&& ~~~s.warden.retCells)) := by
      refine ((keeps_setEntropy s _).mono (by decide)).trans (Keeps.foldl (fun t n => ?_) _ _)
      split
      next => exact (failCell_fails t n _).keeps
      next => exact Keeps.refl _ t
    rw [if_pos (by
      simp only [Bool.or_eq_true, Bool.not_eq_true', cellCount]
      by_contra hno
      obtain ⟨hcells, hkat⟩ := not_or.1 hno
      exact hfew ⟨Nat.not_lt.1 fun hlt => hcells (decide_eq_true hlt), by simpa using hkat⟩)] at hex
    generalize startCells s passed (passed &&& cond &&& ~~~s.warden.retCells) = u at hkeep hex
    have hb := bootStop_boot u entropyFailed
    have hkeys := keeps_setMode (eraseWorking { u with boot := { u.boot with fail := entropyFailed } }) .locked
      (Config.modeTrigger 3)
    rw [hkeep.boot] at hb
    refine ⟨_, hex, ?_, ?_, ?_, ?_, congrArg KeyUnit.frankPriv hkeys.keys, congrArg Entropy.insts hkeys.entropy⟩
    all_goals rw [drivePins_boot, hb]
  case refine_2 =>
    obtain ⟨hgood, hlane, hq, hfailed, hoffline, -⟩ := hwell
    have hready := startRandom_ready passed cond hgood hlane hq hfailed hoffline
    dsimp only at hready
    rw [if_neg (henough hmany), if_neg (by rw [hready.lc]; exact hlc)] at hex
    generalize startRandom (startCells s passed (passed &&& cond &&& ~~~s.warden.retCells)) _ = v at hready hex
    have hdrawn := drawModuleKeys_draws hready.serving
    have hstaged := staged_keeps (drawModuleKeys v)
    have hmode' := setMode_boot (startSegment (drawModuleKeys v)) .staged (Config.modeTrigger 0)
    rw [(keeps_startSegment (drawModuleKeys v)).boot, hdrawn.boot] at hmode'
    generalize drawModuleKeys v = d at hdrawn hstaged hmode' hex
    generalize setMode (startSegment d) .staged (Config.modeTrigger 0) = w at hstaged hmode' hex
    have hcalm : calm w (healthyMask w) := by
      refine calm_congr hready.calm (by rw [hmode']; exact hready.serving.1) ?_ ?_
      · rw [hstaged.entropy]
        exact hdrawn.entropy
      · rw [hstaged.warden, hdrawn.keeps.warden]
    rw [reviewCauses_calm hcalm] at hex
    have hb : (w.setEntropy fun n => { n with failCause := 0 }).boot = _ := hmode'
    have hk : (w.setEntropy fun n => { n with failCause := 0 }).keys = d.keys := hstaged.keys
    have hi : (w.setEntropy fun n => { n with failCause := 0 }).entropy.insts = d.entropy.insts := by
      rw [← hstaged.entropy]
      rfl
    have hkeep := (hready.keeps.comp hdrawn.keeps (rs := [.entropy, .warden, .free, .outbox, .alarms, .msix, .tb, .journal,
      .pair, .keys, .boot])).comp (hstaged.comp (keeps_setEntropy w fun n => { n with failCause := 0 })
        (rs := [.free, .outbox, .tb, .journal, .pair, .boot, .entropy]))
        (rs := [.entropy, .warden, .free, .outbox, .alarms, .msix, .tb, .journal, .pair, .keys, .boot])
    generalize w.setEntropy (fun n => { n with failCause := 0 }) = x at hb hk hi hkeep hex
    refine ⟨_, hex, ?_⟩
    dsimp only
    rw [drivePins_boot, drivePins_keys, drivePins_entropy, drivePins_so, drivePins_cores, drivePins_slots, hb, hk, hi]
    exact ⟨rfl, hready.step, hready.serving.1, rfl, hdrawn.frankPriv, hdrawn.frankCert, hdrawn.cacheKey, hdrawn.indexKey,
      fun i hi => hdrawn.insts i (if h : i < 8 then .inl (hready.insts i h) else .inr ⟨Nat.not_lt.1 h, hi⟩),
      hkeep.so, hkeep.cores, hkeep.slots⟩
  case refine_3 =>
    obtain ⟨hgood, hlane, hq, hfailed, hoffline, -⟩ := hwell
    have hready := startRandom_ready passed cond hgood hlane hq hfailed hoffline
    dsimp only at hready
    rw [if_neg (henough hmany), if_pos (by rw [hready.lc]; exact hlc)] at hex
    generalize startRandom (startCells s passed (passed &&& cond &&& ~~~s.warden.retCells)) _ = v at hready hex
    have hmode' := setMode_boot (diagnosed v) .diagnostic (Config.modeTrigger 0)
    have hset := keeps_setMode (diagnosed v) .diagnostic (Config.modeTrigger 0)
    have hw : enterDiagnostic v (Config.modeTrigger 0) = setMode (diagnosed v) .diagnostic (Config.modeTrigger 0) := rfl
    rw [hw] at hex
    generalize setMode (diagnosed v) .diagnostic (Config.modeTrigger 0) = w at hmode' hset hex
    have hcalm : calm w (healthyMask w) :=
      calm_congr hready.calm (by rw [hmode']; exact hready.serving.1) (by rw [hset.entropy]; rfl) (by rw [hset.warden]; rfl)
    rw [reviewCauses_calm hcalm] at hex
    refine ⟨_, hex, congrArg Boot.mode hmode', (congrArg Boot.rngReady hmode').trans hready.serving.1,
      congrArg Boot.unsealed hmode', congrArg Port.vfEnable hset.portA, congrArg Port.vfEnable hset.portB, ?_⟩
    refine (congrArg (fun c : Clocks => c.pd.getLsbD 25) hset.clocks).trans ?_
    exact BitVec.getLsbD_or.trans (Bool.or_true _)

/-- Settles O33: the hardware steps, the retirements of step 6 and entropy start-up, each by its branches. -/
theorem bootSteps : Obligations.BootSteps :=
  ⟨crystalQualifies, clocksAndRomStart, fun _ _ passed cond kat =>
    ⟨selfTests, fun _ => fatalSelfTest, fun h => entropyStartup h passed cond kat⟩⟩

end Sys2Proof.Machine
end

section
/-! O34: the image path: START, the arrival, the verification and the application of an image (R43 to R54). -/

namespace Sys2Proof.Machine

/-! ### START and what ends a fetch -/

theorem imageBusy_iff (s : State) : imageBusy s = true ↔
    s.boot.imgState = .fetching ∨ s.boot.imgState = .verifying ∨ s.boot.imgState = .applying := by
  simp [imageBusy, or_assoc]

theorem imageAllowed_iff (s : State) : imageAllowed s = true ↔
    s.boot.mode = .staged ∨ (s.boot.mode = .maintenance ∧ s.boot.armed.isSome = true) := by
  simp [imageAllowed]

theorem lengthOk_iff (s : State) (n : Nat) : lengthOk s n = true ↔
    64 ≤ n ∧ n ≤ 64 * 1024 * 1024 ∧ ∀ x, s.boot.armed = some x → x.1.toNat = n := by
  rw [lengthOk, Bool.and_eq_true, decide_eq_true_eq, and_assoc]
  refine and_congr_right fun _ => and_congr_right fun _ => ?_
  cases s.boot.armed with
  | none => simp
  | some x => simp

theorem exec_start {s : State} (hon : s.pwrGood = true) (p : Bool) : exec (.start p) s = answer (
    if imageBusy s then { s with boot := { s.boot with imgStatus := busyRetry } }
    else if !imageAllowed s then { s with boot := { s.boot with imgStatus := modeRefused } }
    else if s.boot.imgAddr.toNat % 64 ≠ 0 then refuseImage s badAlignment 0
    else if !lengthOk s s.boot.imgLen.toNat then refuseImage s badLength 0
    else beginImage s s.boot.imgLen.toNat false) := congrArg answer (if_neg (by simp [hon]))

theorem startActs : Claims.StartActs := by
  intro s p hon
  have hex := exec_start hon p
  refine ⟨fun hb => ?_, fun hb ha => ?_, fun hb ha hal => ?_, fun hb ha hal hsz => ?_, fun hb ha hal hsz => ?_⟩
  case refine_1 => exact hex.trans (congrArg answer (if_pos ((imageBusy_iff s).2 hb)))
  all_goals
    have hfree : ¬ imageBusy s = true := fun h => hb ((imageBusy_iff s).1 h)
    rw [if_neg hfree] at hex
  case refine_2 =>
    have hno : (!imageAllowed s) = true := by
      rw [Bool.not_eq_true', ← Bool.not_eq_true]
      exact fun h => ha ((imageAllowed_iff s).1 h)
    exact hex.trans (congrArg answer (if_pos hno))
  all_goals
    have hacts := (imageAllowed_iff s).2 ha
    rw [hacts, if_neg (by decide)] at hex
  case refine_3 => exact hex.trans (congrArg answer (if_pos hal))
  all_goals rw [if_neg (not_not.2 hal)] at hex
  case refine_4 =>
    have hno : (!lengthOk s s.boot.imgLen.toNat) = true := by
      rw [Bool.not_eq_true', ← Bool.not_eq_true]
      exact fun h => hsz ((lengthOk_iff s _).1 h)
    exact hex.trans (congrArg answer (if_pos hno))
  case refine_5 =>
    have hok := (lengthOk_iff s s.boot.imgLen.toNat).2 hsz
    rw [hok, if_neg (by decide)] at hex
    exact hex

theorem imagesArrive : Claims.ImagesArrive := by
  intro s o
  refine ⟨fun h => ?_, fun h => ?_, rfl, fun hf hm => ⟨?_, ?_⟩⟩
  case refine_1 =>
    refine congrArg answer ?_
    unfold abortImage
    obtain h | h := h
    all_goals rw [h]
  case refine_2 =>
    refine congrArg answer ?_
    unfold abortImage
    rw [h]
  all_goals
    have hgo : ¬ (s.boot.imgState ≠ .fetching || s.boot.byMctp) = true := by simp [hf, hm]
  case refine_3 =>
    have hstep : (s.boot.mode == .staged) = true ↔ s.boot.mode = .staged := beq_iff_eq
    refine congrArg answer ((if_neg hgo).trans ?_)
    simp only [imageIn, hstep]
  case refine_4 => exact congrArg answer (if_neg hgo)

/-! ### Verification -/

/-- The journal entry of a lone or an active module is appended; a standby's goes to its partner (R466). -/
theorem journal_journal (s : State) (x : JEntry) : (journal s x).journal =
    if s.pair.role = .standby ∨ s.pair.role = .joining then s.journal else s.journal.append x := by
  unfold journal
  dsimp only
  split
  next => exact sendLink_journal _ _ _
  next =>
    split
    next => exact sendLink_journal _ _ _
    next => rfl

theorem journalNow_journal (s : State) (ty : BitVec 16) (d : Octets) : (journalNow s ty d).journal =
    if s.pair.role = .standby ∨ s.pair.role = .joining then s.journal
    else s.journal.append { pm := (stamp s srcSupervisor).1, type := ty, detail := d } :=
  journal_journal (stamp s srcSupervisor).2 _

/-- An entry's place in the journal does not depend on the boot unit. -/
theorem journalNow_setBoot (s : State) (b : Boot) (ty : BitVec 16) (d : Octets) :
    (journalNow { s with boot := b } ty d).journal = (journalNow s ty d).journal := by
  rw [journalNow_journal, journalNow_journal]
  rfl

/-- The module after the draw of the bases of the curve checks (R252). -/
def basesDrawn (s : State) : State :=
  if curveCount s.boot.data = 0 then s else (generate s 4 (9216 * curveCount s.boot.data) false).2

/-- Those bases. -/
def curveBases (s : State) : Octets :=
  if curveCount s.boot.data = 0 then [] else (generate s 4 (9216 * curveCount s.boot.data) false).1

theorem keeps_basesDrawn (s : State) : Keeps [.entropy, .free] s (basesDrawn s) := by
  unfold basesDrawn
  split
  next => exact Keeps.refl _ s
  next => exact keeps_generate s 4 _ false []

section
variable {s : State} (h : s.boot.imgState = .verifying)
  (hready : curveCount s.boot.data = 0 ∨ (canServe s 4 = true ∧ s.entropy.failed = false))
include h hready

theorem exec_imageVerified_refused {st : Code} {off : Nat}
    (hc : checkImage (basesDrawn s) s.boot.data (curveBases s) (s.boot.mode == .maintenance) = .error (st, off)) :
    exec .imageVerified s = answer (imageEntry (refuseImage (basesDrawn s) st off) (u32 s.boot.data 0x10) st) := by
  refine congrArg answer ((if_neg (by simp [h])).trans ?_)
  dsimp only
  by_cases hn : curveCount s.boot.data = 0
  · simp only [basesDrawn, curveBases, if_pos hn] at hc ⊢
    simp [hn, hc]
  · obtain ⟨hserve, hfailed⟩ := hready.resolve_left hn
    simp only [basesDrawn, curveBases, if_neg hn] at hc ⊢
    simp [hn, hserve, hfailed, hc]

theorem exec_imageVerified_accepted {l : List Rec}
    (hc : checkImage (basesDrawn s) s.boot.data (curveBases s) (s.boot.mode == .maintenance) = .ok l) :
    exec .imageVerified s = answer { basesDrawn s with boot := { s.boot with
      imgState := .applying, step := if s.boot.mode = .staged then 10 else s.boot.step } } := by
  refine congrArg answer ((if_neg (by simp [h])).trans ?_)
  dsimp only
  by_cases hn : curveCount s.boot.data = 0
  · simp only [basesDrawn, curveBases, if_pos hn] at hc ⊢
    simp [hn, hc]
  · obtain ⟨hserve, hfailed⟩ := hready.resolve_left hn
    have hf : (basesDrawn s).entropy.failed = s.entropy.failed := by
      unfold basesDrawn
      rw [if_neg hn, (drawn_generate s 4 _ false []).entropy]
    simp only [basesDrawn, curveBases, if_neg hn] at hc hf ⊢
    simp [hn, hserve, hfailed, hf, hc]

end

theorem imagesAreVerified : Claims.ImagesAreVerified := by
  intro s hv
  dsimp only
  intro hready
  have hbases : (if curveCount s.boot.data = 0 then s else (generate s 4 (9216 * curveCount s.boot.data) false).2) = basesDrawn s :=
    rfl
  have hoctets : (if curveCount s.boot.data = 0 then [] else (generate s 4 (9216 * curveCount s.boot.data) false).1) =
      curveBases s := rfl
  rw [hbases, hoctets]
  have hkeep := keeps_basesDrawn s
  refine ⟨fun st off hc => ?_, fun l hc => ?_⟩
  case refine_1 =>
    have hex := exec_imageVerified_refused hv hready hc
    generalize basesDrawn s = u at hkeep hex
    have hrefused := keeps_setBoot u (refusedBoot u.boot st off)
    have hentry := keeps_journalNow (refuseImage u st off) 6 (le 4 (u32 s.boot.data 0x10) ++ le 2 st.toNat)
    refine ⟨_, hex, only_drivePins ?_, ?_, congrArg Journal.next (journalNow_setBoot u _ _ _)⟩
    · exact hkeep.comp (hrefused.comp hentry (rs := [.free, .outbox, .tb, .journal, .pair, .boot]))
    · exact hentry.boot.trans (congrArg (refusedBoot · st off) hkeep.boot)
  case refine_2 =>
    exact ⟨_, exec_imageVerified_accepted hv hready hc, only_drivePins (hkeep.comp (keeps_setBoot _ _)), rfl⟩

/-! ### Application -/

/-- What the application of a layout leaves for the modes: the mode, the random service, the exit that waits, the Crown,
and of the warden all but the officers. -/
structure LayoutKept (s t : State) : Prop where
  mode : t.boot.mode = s.boot.mode
  exitBy : t.boot.exitBy = s.boot.exitBy
  rngReady : t.boot.rngReady = s.boot.rngReady
  step : t.boot.step = s.boot.step
  warden : t.warden = { s.warden with officers := t.warden.officers }
  crownOut : t.pair.crownOut = s.pair.crownOut

theorem LayoutKept.refl (s : State) : LayoutKept s s := ⟨rfl, rfl, rfl, rfl, rfl, rfl⟩

theorem LayoutKept.trans {s t u : State} (h : LayoutKept s t) (g : LayoutKept t u) : LayoutKept s u :=
  ⟨g.mode.trans h.mode, g.exitBy.trans h.exitBy, g.rngReady.trans h.rngReady, g.step.trans h.step, by rw [g.warden, h.warden],
    g.crownOut.trans h.crownOut⟩

theorem LayoutKept.of_keeps {s t : State} {ps : List Part} (h : Keeps ps s t) (h1 : .boot ∉ ps := by decide)
    (h2 : .warden ∉ ps := by decide) (h3 : .pair ∉ ps := by decide) : LayoutKept s t := by
  have hb := h.boot h1
  have hw := h.warden h2
  have hp := h.pair h3
  exact ⟨by rw [hb], by rw [hb], by rw [hb], by rw [hb], by rw [hw], by rw [hp]⟩

theorem keeps_dropPre (s : State) (k : Nat) : Keeps [.cores, .gates] s (dropPre s k) := by
  intro p hp
  cases p
  case cores | gates => simp at hp
  all_goals rfl

theorem keeps_unselect (s : State) (e : Nat) : Keeps [.cores, .gates] s (unselect s e) :=
  Keeps.foldl (fun s k => by
    split
    next => exact keeps_dropPre s k
    next => exact Keeps.refl _ s) coreNums s

theorem keeps_discardCmds (s : State) (slots : List Nat) : Keeps [.so, .cores, .gates] s (discardCmds s slots) := by
  have hun := Keeps.foldl (fun (t : State) (x : Nat × Cmd) => keeps_unselect t x.1)
    (s.so.cmds.filter (fun x => slots.contains x.2.slot && !x.2.dispatched)) s
  have hset (t : State) (o : Sorting) : Keeps [.so] t { t with so := o } := by
    intro p hp
    cases p
    case so => simp at hp
    all_goals rfl
  exact hun.comp (hset _ _)

/-- The parts of the host side that the loss of a port takes. -/
def portParts : List Part := [.so, .cores, .gates, .msix, .portA, .portB]

theorem keeps_portReset (s : State) (b : Bool) : Keeps portParts s (portReset s b) := by
  have hdiscard := keeps_discardCmds s ((512 + (if b then 1 else 0)) :: portSlots s b)
  have hphs := Keeps.foldl (fun t n => keeps_setPh t n {})
    (((512 + (if b then 1 else 0)) :: portSlots s b).flatMap
      (slotPhs (discardCmds s ((512 + (if b then 1 else 0)) :: portSlots s b))))
    (discardCmds s ((512 + (if b then 1 else 0)) :: portSlots s b))
  have hmsix (t : State) (f : Nat → Bool) : Keeps [.msix] t (resetMsix t f) := by
    intro p hp
    cases p
    case msix => simp at hp
    all_goals rfl
  have hport (t : State) (p : Port) : Keeps [.portA, .portB] t (t.setPort b p) :=
    (keeps_setPort t b p).mono (by cases b <;> decide)
  exact ((hdiscard.comp hphs (rs := [.so, .cores, .gates])).comp (hmsix _ _) (rs := [.so, .cores, .gates, .msix])).comp
    (hport _ _)

theorem keeps_loseUnit (s : State) (d : Nat) : Keeps (.pair :: portParts) s (loseUnit s d) ∧
    (loseUnit s d).pair.crownOut = s.pair.crownOut := by
  unfold loseUnit
  split
  next =>
    have hkeep (p : Port) : Keeps portParts s ((portReset s (d == 7)).setPort (d == 7) p) :=
      (keeps_portReset s (d == 7)).trans ((keeps_setPort (portReset s (d == 7)) (d == 7) p).mono
        (by cases d == 7 <;> decide))
    exact ⟨(hkeep _).mono (by decide), congrArg Pair.crownOut (hkeep _).pair⟩
  next =>
    split
    next =>
      refine ⟨fun p hp => ?_, rfl⟩
      cases p
      case pair => simp at hp
      all_goals rfl
    next => exact ⟨Keeps.refl _ s, rfl⟩

theorem keeps_domainOff (s : State) (d : Nat) : Keeps (.clocks :: .pair :: portParts) s (domainOff s d) ∧
    (domainOff s d).pair.crownOut = s.pair.crownOut := by
  have hlost : Keeps (.pair :: portParts) s (if s.clocks.pd.getLsbD d then loseUnit s d else s) ∧
      (if s.clocks.pd.getLsbD d then loseUnit s d else s).pair.crownOut = s.pair.crownOut := by
    split
    next => exact keeps_loseUnit s d
    next => exact ⟨Keeps.refl _ s, rfl⟩
  obtain ⟨hkeep, hcrown⟩ := hlost
  exact ⟨hkeep.comp (keeps_setClocks _ _), hcrown⟩

/-- The parts that a power plan touches, but for the boot unit. -/
def powerParts : List Part := .clocks :: .pair :: portParts

/-- Domains follow a plan (R37, R565). -/
theorem applyPower_facts (s : State) (pdEn : Nat) : Keeps (.boot :: powerParts) s (applyPower s pdEn) ∧
    (applyPower s pdEn).boot = { s.boot with pdEn := BitVec.ofNat 32 pdEn } ∧
    (applyPower s pdEn).pair.crownOut = s.pair.crownOut := by
  have hstep (t : State) (d : Nat) : Keeps powerParts t (if !pdEn.testBit d then domainOff t d
      else if t.clocks.pd.getLsbD d || (d == 18 && t.warden.retClusters.getLsbD 8) then t else domainOn t d) ∧
      (if !pdEn.testBit d then domainOff t d
      else if t.clocks.pd.getLsbD d || (d == 18 && t.warden.retClusters.getLsbD 8) then t else domainOn t d).pair.crownOut =
        t.pair.crownOut := by
    split
    next => exact keeps_domainOff t d
    next =>
      split
      next => exact ⟨Keeps.refl _ t, rfl⟩
      next => exact ⟨(keeps_setClocks t _).mono (by decide), rfl⟩
  have hfold (l : List Nat) (t : State) :
      let u := l.foldl (fun s d => if !pdEn.testBit d then domainOff s d
        else if s.clocks.pd.getLsbD d || (d == 18 && s.warden.retClusters.getLsbD 8) then s else domainOn s d) t
      Keeps powerParts t u ∧ u.pair.crownOut = t.pair.crownOut := by
    induction l generalizing t with
    | nil => exact ⟨Keeps.refl _ t, rfl⟩
    | cons d l ih =>
      obtain ⟨hk, hc⟩ := hstep t d
      obtain ⟨hk', hc'⟩ := ih _
      exact ⟨hk.trans hk', hc'.trans hc⟩
  obtain ⟨hkeep, hcrown⟩ := hfold [6, 7, 8, 18] { s with boot := { s.boot with pdEn := BitVec.ofNat 32 pdEn } }
  exact ⟨((keeps_setBoot s _).mono (by decide)).trans (hkeep.mono (by decide)), hkeep.boot, hcrown⟩

/-- The roles of the clusters (R36, R482). -/
theorem applyRoles_facts (s : State) (o : Octets) : Keeps [.boot, .units, .so] s (applyRoles s o) ∧
    (applyRoles s o).boot = { s.boot with pubKey := (applyRoles s o).boot.pubKey, laneMask := (applyRoles s o).boot.laneMask,
                                          spare := rolesSpare o } := by
  have hspare (t : State) (j : Nat) : Keeps [.units] t (becomeSpare t j) := by
    unfold becomeSpare takeNumber setLogical
    split
    all_goals
      intro p hp
      cases p
      case units => simp at hp
      all_goals rfl
  have hlay (t : State) : Keeps [.so, .units] t (layClusters t (rolesSpare o)) := by
    intro p hp
    cases p
    case so | units => simp at hp
    all_goals rfl
  unfold applyRoles
  dsimp only
  split
  next =>
    have h (t : State) : Keeps [.so, .units] t (becomeSpare (layClusters t (rolesSpare o)) 8) := (hlay t).comp (hspare _ 8)
    refine ⟨(keeps_setBoot s _).comp (h _), ?_⟩
    rw [(h _).boot]
  next => exact ⟨(keeps_setBoot s _).comp (hlay _), rfl⟩

theorem layoutKept_setBoot (s : State) {b : Boot} (h1 : b.mode = s.boot.mode) (h2 : b.exitBy = s.boot.exitBy)
    (h3 : b.rngReady = s.boot.rngReady) (h4 : b.step = s.boot.step) : LayoutKept s { s with boot := b } :=
  ⟨h1, h2, h3, h4, rfl, rfl⟩

/-- The parts that a layout touches. -/
def layoutParts : List Part := [.boot, .units, .warden, .alarms, .arrays] ++ powerParts

/-- A part of the layout other than the power plan comes into force. -/
structure LayoutStep (s t : State) : Prop where
  kept : LayoutKept s t
  keeps : Keeps layoutParts s t
  pdEn : t.boot.pdEn = s.boot.pdEn

theorem LayoutStep.trans {s t u : State} (h : LayoutStep s t) (g : LayoutStep t u) : LayoutStep s u :=
  ⟨h.kept.trans g.kept, h.keeps.trans g.keeps, g.pdEn.trans h.pdEn⟩

theorem layoutStep_setBoot (s : State) {b : Boot} (h1 : b.mode = s.boot.mode) (h2 : b.exitBy = s.boot.exitBy)
    (h3 : b.rngReady = s.boot.rngReady) (h4 : b.step = s.boot.step) (h5 : b.pdEn = s.boot.pdEn) :
    LayoutStep s { s with boot := b } :=
  ⟨layoutKept_setBoot s h1 h2 h3 h4, (keeps_setBoot s b).mono (by decide), h5⟩

theorem layoutStep_applyFirmware (s : State) (o : Octets) : LayoutStep s (applyFirmware s o) :=
  layoutStep_setBoot s rfl rfl rfl rfl rfl

theorem layoutStep_applyRoles (s : State) (o : Octets) : LayoutStep s (applyRoles s o) := by
  obtain ⟨hkeep, hboot⟩ := applyRoles_facts s o
  exact ⟨⟨by rw [hboot], by rw [hboot], by rw [hboot], by rw [hboot], by rw [hkeep.warden], by rw [hkeep.pair]⟩,
    hkeep.mono (by decide), by rw [hboot]⟩

theorem layoutStep_applyMemory (s : State) (o : Octets) : LayoutStep s (applyMemory s o) := by
  refine ⟨⟨rfl, rfl, rfl, rfl, rfl, rfl⟩, fun p hp => ?_, rfl⟩
  cases p
  case boot | units => simp [layoutParts] at hp
  all_goals rfl

theorem layoutStep_applyPool (s : State) (o : Octets) : LayoutStep s (applyPool s o) :=
  layoutStep_setBoot s rfl rfl rfl rfl rfl

theorem layoutStep_applySched (s : State) (o : Option Octets) : LayoutStep s (applySched s o) := by
  refine ⟨⟨rfl, rfl, rfl, rfl, rfl, rfl⟩, fun p hp => ?_, rfl⟩
  cases p
  case so => simp [layoutParts, powerParts, portParts] at hp
  all_goals rfl

theorem layoutStep_applyCurves (s : State) (o : Option Octets) : LayoutStep s (applyCurves s o) :=
  layoutStep_setBoot s rfl rfl rfl rfl rfl

theorem layoutStep_applyOfficers (s : State) (o : Octets) : LayoutStep s (applyOfficers s o) := by
  unfold applyOfficers
  dsimp only
  split
  next =>
    refine ⟨⟨rfl, rfl, rfl, rfl, rfl, rfl⟩, fun p hp => ?_, rfl⟩
    cases p
    case boot | warden => simp [layoutParts] at hp
    all_goals rfl
  next =>
    refine ⟨⟨rfl, rfl, rfl, rfl, rfl, rfl⟩, fun p hp => ?_, rfl⟩
    cases p
    case boot | warden | alarms => simp [layoutParts] at hp
    all_goals rfl

theorem layoutStep_applyPolicy (s : State) (o : Octets) (c : List (Nat × Octets)) : LayoutStep s (applyPolicy s o c) :=
  layoutStep_setBoot s rfl rfl rfl rfl rfl

theorem layoutStep_setCause (s : State) (bit : Nat) (on : Bool) : LayoutStep s (setCause s bit on) :=
  ⟨⟨rfl, rfl, rfl, rfl, rfl, rfl⟩, (keeps_setArrays s _).mono (by decide), rfl⟩

theorem layoutStep_refreshCauses (s : State) : LayoutStep s (refreshCauses s) :=
  ⟨⟨rfl, rfl, rfl, rfl, rfl, rfl⟩, (keeps_setArrays s _).mono (by decide), rfl⟩

/-- The power plan: as a step of the layout, but that PD_EN follows it. -/
theorem layoutKept_applyPower (s : State) (pdEn : Nat) : LayoutKept s (applyPower s pdEn) ∧
    Keeps layoutParts s (applyPower s pdEn) := by
  obtain ⟨hkeep, hboot, hcrown⟩ := applyPower_facts s pdEn
  exact ⟨⟨by rw [hboot], by rw [hboot], by rw [hboot], by rw [hboot], by rw [hkeep.warden], hcrown⟩, hkeep.mono (by decide)⟩

/-- The layout behind the power plan. -/
def plannedRest (s : State) (l : List Rec) : State :=
  let s := applyPool (applyMemory s ((bodyOf l 4).getD [])) ((bodyOf l 5).getD [])
  let s := { s with boot := { s.boot with baseRules := bodyOf l 7 } }
  let s := applyOfficers (applyCurves (applySched s (bodyOf l 6)) (bodyOf l 8)) ((bodyOf l 9).getD [])
  refreshCauses (setCause (applyPolicy s ((bodyOf l 10).getD []) (customOf l)) 0 false)

theorem layoutStep_plannedRest (s : State) (l : List Rec) : LayoutStep s (plannedRest s l) := by
  unfold plannedRest
  dsimp only
  have h1 := (layoutStep_applyMemory s ((bodyOf l 4).getD [])).trans (layoutStep_applyPool _ ((bodyOf l 5).getD []))
  generalize applyPool (applyMemory s ((bodyOf l 4).getD [])) ((bodyOf l 5).getD []) = t at h1
  have h2 := (layoutStep_setBoot t (b := { t.boot with baseRules := bodyOf l 7 }) rfl rfl rfl rfl rfl).trans
    (layoutStep_applySched _ (bodyOf l 6))
  have h3 := (layoutStep_applyCurves (applySched { t with boot := { t.boot with baseRules := bodyOf l 7 } } (bodyOf l 6))
    (bodyOf l 8)).trans (layoutStep_applyOfficers _ ((bodyOf l 9).getD []))
  have h12 := (h1.trans h2).trans h3
  generalize applyOfficers (applyCurves _ _) _ = u at h12
  exact h12.trans ((layoutStep_applyPolicy u _ _).trans ((layoutStep_setCause _ 0 false).trans (layoutStep_refreshCauses _)))

/-- The whole layout (boot step 11). -/
theorem applyAll_facts (s : State) (l : List Rec) : LayoutKept s (applyAll s l) ∧ Keeps layoutParts s (applyAll s l) ∧
    (applyAll s l).boot.pdEn = BitVec.ofNat 32 (recordsPdEn l) := by
  have heq : applyAll s l = plannedRest (applyPower (applyRoles (applyFirmware s ((bodyOf l 1).getD []))
    ((bodyOf l 2).getD [])) (recordsPdEn l)) l := rfl
  rw [heq]
  have h1 := (layoutStep_applyFirmware s ((bodyOf l 1).getD [])).trans (layoutStep_applyRoles _ ((bodyOf l 2).getD []))
  generalize applyRoles (applyFirmware s ((bodyOf l 1).getD [])) ((bodyOf l 2).getD []) = t at h1
  obtain ⟨h2, hkeep2⟩ := layoutKept_applyPower t (recordsPdEn l)
  obtain ⟨-, hpower, -⟩ := applyPower_facts t (recordsPdEn l)
  obtain ⟨h3, hkeep3, hpdEn⟩ := layoutStep_plannedRest (applyPower t (recordsPdEn l)) l
  refine ⟨(h1.kept.trans h2).trans h3, (h1.keeps.trans hkeep2).trans hkeep3, ?_⟩
  rw [hpdEn, hpower]

theorem keeps_redrawCache (s : State) : Keeps [.keys, .entropy, .free] s (redrawCache s) := by
  unfold redrawCache
  dsimp only
  split
  all_goals
    intro p hp
    cases p
    case keys | entropy | free => simp at hp
    all_goals simp [Part.same]

theorem LayoutKept.ite {s t : State} (c : Bool) (h : LayoutKept s t) : LayoutKept s (if c then t else s) := by
  split
  next => exact h
  next => exact .refl s

/-- What changed of a layout comes into force in MAINTENANCE (R51). -/
theorem layoutKept_applyChanged (s : State) (l old : List Rec) : LayoutKept s (applyChanged s l old) := by
  unfold applyChanged
  extract_lets body diff s1 s2 s3 s4 s5 s6 b7 s7 s8 s9
  have h1 : LayoutKept s s1 := .ite _ ((layoutStep_applyFirmware s _).kept.trans (.of_keeps (keeps_redrawCache _)))
  have h2 : LayoutKept s1 s2 := .ite _ (layoutStep_applyRoles s1 _).kept
  have h3 : LayoutKept s2 s3 := .ite _ (layoutKept_applyPower s2 _).1
  have h4 : LayoutKept s3 s4 := .ite _ ((layoutStep_applyMemory s3 _).kept.trans (.of_keeps (keeps_redrawCache _)))
  have h5 : LayoutKept s4 s5 := (layoutStep_applyPool s4 _).kept
  have h6 : LayoutKept s5 s6 := .ite _ (layoutStep_applySched s5 _).kept
  have h7 : LayoutKept s6 s7 := layoutKept_setBoot s6 rfl rfl rfl rfl
  have h8 : LayoutKept s7 s8 := .ite _ (layoutStep_applyCurves s7 _).kept
  have h9 : LayoutKept s8 s9 := .ite _ (layoutStep_applyOfficers s8 _).kept
  have h10 := (layoutKept_setBoot s9 (b := { s9.boot with policyNext := some (body 10, customOf l) }) rfl rfl rfl rfl).trans
    (layoutStep_refreshCauses _).kept
  exact ((((h1.trans h2).trans h3).trans h4).trans h5).trans (((((h6.trans h7).trans h8).trans h9).trans h10))

/-- The image is the program image copy, and the warden's floors follow it (R35, R43, R46). -/
def imageApplied (u : State) (o : Octets) (whole : Bool) : State :=
  imageEntry { u with
    warden := { u.warden with
      secFloor := BitVec.ofNat 16 (max u.warden.secFloor.toNat (u16 ((bodyOf (recordsOf o) 1).getD []) 4)),
      imageSeq := BitVec.ofNat 32 (u32 o 0x10) }
    boot := { u.boot with
      imgState := .done, imgStatus := stOk, imgFaultOff := 0, imgSeq := BitVec.ofNat 32 (u32 o 0x10),
      image := o, imageHash := sha 48 o, data := [], expect := none, applied := true,
      step := if whole then 11 else u.boot.step } } (u32 o 0x10) stOk

theorem exec_layoutApplied {s : State} (h : s.boot.imgState = .applying) : exec .layoutApplied s = answer (
    let whole := s.boot.mode == .staged || !s.boot.applied
    let u := if whole then applyAll s (recordsOf s.boot.data)
      else applyChanged s (recordsOf s.boot.data) (recordsOf s.boot.image)
    if s.boot.mode == .staged then afterLayout (imageApplied u s.boot.data whole) else imageApplied u s.boot.data whole) :=
  congrArg answer (if_neg (by simp [h]))

/-- The image registers and the warden after an image o, the floor having been w before. -/
def Applied (w : Warden) (o : Octets) (t : State) : Prop :=
  t.boot.imgState = .done ∧ t.boot.imgStatus = stOk ∧ t.boot.imgFaultOff = 0 ∧ t.boot.applied = true ∧ t.boot.image = o ∧
    t.boot.imageHash = sha 48 o ∧ t.boot.imgSeq.toNat = u32 o 0x10 ∧ t.warden.imageSeq.toNat = u32 o 0x10 ∧
    t.warden.secFloor.toNat = max w.secFloor.toNat (u16 ((bodyOf (recordsOf o) 1).getD []) 4) ∧ t.boot.data = []

theorem leNat_lt (o : Octets) : leNat o < 256 ^ o.length := by
  induction o with
  | nil => exact Nat.one_pos
  | cons x o ih =>
    have hx := x.isLt
    rw [leNat, List.length_cons, Nat.pow_succ]
    omega

theorem u16_lt (o : Octets) (n : Nat) : u16 o n < 2 ^ 16 := by
  have h := leNat_lt (slice o n 2)
  rwa [slice, fit_length] at h

theorem u32_lt (o : Octets) (n : Nat) : u32 o n < 2 ^ 32 := by
  have h := leNat_lt (slice o n 4)
  rwa [slice, fit_length] at h

theorem keeps_imageEntry (s : State) (seq : Nat) (st : Code) :
    Keeps [.free, .outbox, .tb, .journal, .pair] s (imageEntry s seq st) := keeps_journalNow s 6 _

theorem imageApplied_boot (u : State) (o : Octets) (whole : Bool) : (imageApplied u o whole).boot = { u.boot with
    imgState := .done, imgStatus := stOk, imgFaultOff := 0, imgSeq := BitVec.ofNat 32 (u32 o 0x10),
    image := o, imageHash := sha 48 o, data := [], expect := none, applied := true,
    step := if whole then 11 else u.boot.step } := (keeps_imageEntry _ _ _).boot

theorem imageApplied_warden (u : State) (o : Octets) (whole : Bool) : (imageApplied u o whole).warden = { u.warden with
    secFloor := BitVec.ofNat 16 (max u.warden.secFloor.toNat (u16 ((bodyOf (recordsOf o) 1).getD []) 4)),
    imageSeq := BitVec.ofNat 32 (u32 o 0x10) } := (keeps_imageEntry _ _ _).warden

theorem imageApplied_applied {s u : State} (h : LayoutKept s u) (o : Octets) (whole : Bool) :
    Applied s.warden o (imageApplied u o whole) := by
  have hb := imageApplied_boot u o whole
  have hw := imageApplied_warden u o whole
  have hsec : u.warden.secFloor = s.warden.secFloor := by rw [h.warden]
  have hfloor := u.warden.secFloor.isLt
  have h16 := u16_lt ((bodyOf (recordsOf o) 1).getD []) 4
  have hseq : (BitVec.ofNat 32 (u32 o 0x10)).toNat = u32 o 0x10 := by
    rw [BitVec.toNat_ofNat, Nat.mod_eq_of_lt (u32_lt o 0x10)]
  unfold Applied
  rw [hb, hw]
  refine ⟨rfl, rfl, rfl, rfl, rfl, rfl, hseq, hseq, ?_, rfl⟩
  rw [← hsec]
  show (BitVec.ofNat 16 (max u.warden.secFloor.toNat (u16 ((bodyOf (recordsOf o) 1).getD []) 4))).toNat = _
  rw [BitVec.toNat_ofNat, Nat.mod_eq_of_lt (by omega)]

theorem Applied.congr {w : Warden} {o : Octets} {t t' : State} (h : Applied w o t) (hw : t'.warden = t.warden)
    (hb : t'.boot = { t.boot with mode := t'.boot.mode, step := t'.boot.step, tRole := t'.boot.tRole,
                                  pairWait := t'.boot.pairWait, tenantStop := t'.boot.tenantStop,
                                  exitBy := t'.boot.exitBy }) : Applied w o t' := by
  unfold Applied at h ⊢
  rw [hw, hb]
  exact h

/-- The boot unit as a role is entered, the mode still as before. -/
def entering (s : State) (r : BitVec 32) : State :=
  { s with boot := { s.boot with
      step := 13, tRole := r, pairWait := false, tenantStop := false, exitBy := none,
      imgState := if imageBusy s then .idle else s.boot.imgState, data := if imageBusy s then [] else s.boot.data } }

/-- A role is entered where no exit from MAINTENANCE waits for it. -/
theorem enterRole_eq {s : State} (m : Mode) (trigger : Code) (hexit : s.boot.exitBy = none) :
    ∃ r, enterRole s m trigger = setMode (entering s r) m trigger := by
  unfold enterRole
  dsimp only
  rw [hexit]
  exact ⟨_, rfl⟩

theorem entering_boot {s : State} (r : BitVec 32) (h : imageBusy s = false) : (entering s r).boot =
    { s.boot with step := 13, tRole := r, pairWait := false, tenantStop := false, exitBy := none } := by
  simp only [entering, h, Bool.false_eq_true, if_false]

theorem keeps_noteTake (s : State) : Keeps [.free, .tb, .pair] s (noteTake s) := by
  intro p hp
  cases p
  case free | tb | pair => simp at hp
  all_goals rfl

theorem keeps_newEpoch (s : State) : Keeps [.free, .entropy, .keys] s (newEpoch s) := by
  intro p hp
  cases p
  case free | entropy | keys => simp at hp
  all_goals simp [Part.same, newEpoch]

/-- The Crown is held alone under a new epoch, before the role is entered. -/
def crownedAlone (s : State) : State :=
  { newEpoch (noteTake s) with pair := { (newEpoch (noteTake s)).pair with role := .lone } }

theorem keeps_crownedAlone (s : State) : Keeps [.free, .tb, .pair, .entropy, .keys] s (crownedAlone s) := by
  have hpair (t : State) (p : Pair) : Keeps [.pair] t { t with pair := p } := by
    intro q hq
    cases q
    case pair => simp at hq
    all_goals rfl
  exact ((keeps_noteTake s).comp (keeps_newEpoch _) (rs := [.free, .tb, .pair, .entropy, .keys])).comp (hpair _ _)

theorem crownedAlone_pair (s : State) : (crownedAlone s).pair = { (noteTake s).pair with role := .lone } := by
  rw [← (keeps_newEpoch (noteTake s)).pair]
  rfl

/-- From STAGED a module that takes the Crown alone at once serves with a new pair epoch (R54, R494). -/
theorem takeAlone_serves {s : State} (hmode : s.boot.mode = .staged) (hserve : canServe s 6 = true) (hp : pairable s = false)
    (hexit : s.boot.exitBy = none) (himg : s.boot.imgState = .done) :
    let t := takeAlone s false
    t.warden = s.warden ∧ t.boot.mode = .service ∧ t.boot.step = 13 ∧
      t.boot = { s.boot with mode := t.boot.mode, step := t.boot.step, tRole := t.boot.tRole, pairWait := t.boot.pairWait,
                             tenantStop := t.boot.tenantStop, exitBy := t.boot.exitBy } ∧
      t.pair.crownOut = true ∧ t.pair.role = .lone ∧ t.keys.pairEpoch.isSome = true ∧ t.keys.counters = [] ∧
      t.keys.aliases = [] := by
  have hkeep := keeps_crownedAlone s
  have hpair := crownedAlone_pair s
  have hboot : (crownedAlone s).boot = s.boot := hkeep.boot
  obtain ⟨r, hrole⟩ := enterRole_eq (s := crownedAlone s) .service (roleTrigger (newEpoch (noteTake s))) (by rw [hboot, hexit])
  have hidle : imageBusy (crownedAlone s) = false := by
    rw [imageBusy, hboot, himg]
    rfl
  have hserves : serveAlone (noteTake s) = enterRole (crownedAlone s) .service (roleTrigger (newEpoch (noteTake s))) := by
    unfold serveAlone
    dsimp only
    rw [if_pos (by
      rw [(keeps_noteTake s).boot, hmode]
      rfl)]
    rfl
  have htake : takeAlone s false = announce (serveAlone (noteTake s)) := by
    unfold takeAlone
    simp only [hserve, hp, Bool.not_true, Bool.and_false, Bool.false_eq_true, if_false, Bool.not_false, if_true]
    rfl
  rw [htake, hserves, hrole]
  have hset := keeps_setMode (entering (crownedAlone s) r) .service (roleTrigger (newEpoch (noteTake s)))
  have hmode' := setMode_boot (entering (crownedAlone s) r) .service (roleTrigger (newEpoch (noteTake s)))
  have hpair' := setMode_pair (entering (crownedAlone s) r) .service (roleTrigger (newEpoch (noteTake s)))
  rw [entering_boot r hidle, hboot] at hmode'
  have hpair'' : (entering (crownedAlone s) r).pair = (crownedAlone s).pair := rfl
  rw [hpair'', hpair] at hpair'
  generalize setMode _ .service (roleTrigger (newEpoch (noteTake s))) = v at hset hmode' hpair'
  have hlone : announce v = v := by
    refine if_neg ?_
    rw [pairable, hmode']
    exact Bool.eq_false_iff.1 hp
  have hkeys : v.keys = (crownedAlone s).keys := hset.keys
  dsimp only
  rw [hlone, hpair', hkeys, hmode']
  exact ⟨hset.warden.trans hkeep.warden, rfl, rfl, rfl, rfl, rfl, rfl, rfl, rfl⟩

/-- What a layout leaves for the next instance request of I6 (R341). -/
theorem canServe_congr {s t : State} (hb : t.boot.rngReady = s.boot.rngReady) (he : t.entropy = s.entropy)
    (ht : t.time = s.time) (i : Nat) : canServe t i = canServe s i := by
  rw [canServe, canServe, hb, he, ht]

theorem Stamped.time {s t : State} (h : Stamped s t) : t.time = s.time := by
  obtain ⟨htb, -⟩ := h
  rw [State.time, State.time, htb]

theorem afterLayout_staged {s : State} (happ : s.boot.imgState = .applying) (hmode : s.boot.mode = .staged) :
    exec .layoutApplied s = answer (afterLayout
      (imageApplied (applyAll s (recordsOf s.boot.data)) s.boot.data true)) := by
  have hm : (s.boot.mode == .staged) = true := by
    rw [hmode]
    rfl
  have hex := exec_layoutApplied happ
  dsimp only at hex
  rw [hm, Bool.true_or, if_pos rfl, if_pos rfl] at hex
  exact hex

theorem layoutsAreApplied : Claims.LayoutsAreApplied := by
  intro s happ
  obtain ⟨hkept, hkeep, hpdEn⟩ := applyAll_facts s (recordsOf s.boot.data)
  have hdone := imageApplied_applied hkept s.boot.data true
  have hboot := imageApplied_boot (applyAll s (recordsOf s.boot.data)) s.boot.data true
  have hwarden := imageApplied_warden (applyAll s (recordsOf s.boot.data)) s.boot.data true
  have hlc : (imageApplied (applyAll s (recordsOf s.boot.data)) s.boot.data true).warden.lc = s.warden.lc := by
    rw [hwarden, hkept.warden]
  have hcrown : (imageApplied (applyAll s (recordsOf s.boot.data)) s.boot.data true).pair.crownOut = s.pair.crownOut :=
    (congrArg Pair.crownOut (journalNow_pair _ _ _)).trans hkept.crownOut
  have hpairable : pairable (imageApplied (applyAll s (recordsOf s.boot.data)) s.boot.data true) =
      (recordsPdEn (recordsOf s.boot.data)).testBit 8 := by
    rw [pairable, hboot, hpdEn, BitVec.getLsbD_ofNat]
    rfl
  have hserve : canServe (imageApplied (applyAll s (recordsOf s.boot.data)) s.boot.data true) 6 = canServe s 6 := by
    refine canServe_congr (by rw [hboot]; exact hkept.rngReady) ?_ ?_ 6
    · exact (keeps_imageEntry _ _ _).entropy.trans hkeep.entropy
    · exact (stamped_journalNow _ _ _).time.trans (State.time_congr hkeep.tb)
  refine ⟨fun hmode hiss => ?_, fun hmode hcom hmirror => ?_, fun hmode hcom hmirror hready hexit => ?_, fun hmode => ?_⟩
  case refine_4 =>
    have hm : ¬ (s.boot.mode == .staged) = true := by
      rw [hmode]
      decide
    have hex := exec_layoutApplied happ
    dsimp only at hex
    rw [if_neg hm] at hex
    have hall : LayoutKept s (if s.boot.mode == .staged || !s.boot.applied then applyAll s (recordsOf s.boot.data)
        else applyChanged s (recordsOf s.boot.data) (recordsOf s.boot.image)) := by
      split
      next => exact hkept
      next => exact layoutKept_applyChanged s _ _
    refine ⟨_, hex, imageApplied_applied hall _ _, ?_⟩
    exact (congrArg Boot.mode (imageApplied_boot _ _ _)).trans (hall.mode.trans hmode)
  all_goals
    have hex := afterLayout_staged happ hmode
    generalize imageApplied (applyAll s (recordsOf s.boot.data)) s.boot.data true = v at hdone hboot hlc hcrown hpairable hserve hex
  case refine_1 =>
    have heq : afterLayout v = setMode v .maintenance (Config.modeTrigger 5) := if_pos (hlc.trans hiss)
    rw [heq] at hex
    have hset := setMode_boot v .maintenance (Config.modeTrigger 5)
    refine ⟨_, hex, ?_, ?_, ?_⟩
    · exact hdone.congr (keeps_setMode v .maintenance _).warden (by rw [drivePins_boot, hset])
    · rw [drivePins_boot, hset]
    · rw [drivePins_boot, hset, hboot, if_pos rfl]
  all_goals
    have hnot : ¬ v.warden.lc = .issued := by
      rw [hlc, hcom]
      decide
  case refine_2 =>
    have heq : afterLayout v = v := (if_neg hnot).trans (if_neg (by rw [hpairable, hmirror]; decide))
    rw [heq] at hex
    refine ⟨_, hex, hdone, ?_, ?_, hcrown⟩
    · rw [drivePins_boot, hboot]
      exact hkept.mode.trans hmode
    · rw [drivePins_boot, hboot, if_pos rfl]
  case refine_3 =>
    have hp : pairable v = false := hpairable.trans (Bool.eq_false_iff.2 hmirror)
    have heq : afterLayout v = takeAlone v false := (if_neg hnot).trans (if_pos (by rw [hp]; rfl))
    rw [heq] at hex
    obtain ⟨hw, hmode', hstep, hb, hrest⟩ := takeAlone_serves (s := v) (by rw [hboot]; exact hkept.mode.trans hmode)
      (hserve.trans hready) hp (by rw [hboot]; exact hkept.exitBy.trans hexit) (by rw [hboot])
    exact ⟨_, hex, hdone.congr hw hb, hmode', hstep, hrest⟩

/-- Settles O34: each row of the image path by its branches, and the layout record by record. -/
theorem imagesAreDelivered : Obligations.ImagesAreDelivered := ⟨startActs, imagesArrive, imagesAreVerified, layoutsAreApplied⟩

end Sys2Proof.Machine
end

section
/-! O35: the end of the drain of MAINT_ENTER and the erase of MODULE_RETIRE (R47, R50, R54, R325). -/

namespace Sys2Proof.Machine

/-! ### The end of a service that keeps its core -/

theorem journalService_ends (s : State) (e : Nat) {c : Cmd} (hs : c.served = true) (hl : c.list = none) :
    Ended (journalService s e c) e c.status c.output := by
  unfold journalService
  split
  next =>
    exact ⟨_, (State.cmd_congr (journal_so ..) e).trans (State.cmd_setCmd ..), rfl, hs, rfl, rfl, hl⟩
  next => exact ⟨_, State.cmd_setCmd .., rfl, hs, rfl, rfl, hl⟩

/-- The command as a hand-over that neither franks nor commits passes it on. -/
def Cmd.handedOver (c : Cmd) : Cmd :=
  { c with list := none, eligible := false, served := true, outLen := if c.isPartial then c.outLen else c.output.length }

theorem handOff_plain {s : State} (src : Nat) {e : Nat} {c : Cmd} (hc : s.cmd e = some c) (hf : wantsFrank c.d = false)
    (hs : c.stateChanging = false) (hcap : c.output.length ≤ c.d.outCap.toNat) :
    handOff s src e = journalService s e c.handedOver := by
  simp only [handOff, hc, franks, hf, Bool.false_and, Bool.false_eq_true, if_false, if_neg (Nat.not_lt.2 hcap), commits, hs,
    gt_iff_lt, Cmd.handedOver]

/-- What the end of a held service leaves besides the end of its command: of the keys the result areas and seeds alone
differ. -/
structure HeldEnded (s t : State) (e : Nat) (st : Code) (out : Octets) : Prop where
  ended : Ended t e st out
  keeps : Keeps [.free, .outbox, .so, .tb, .journal, .pair, .cores, .arrays, .keys, .entropy, .gates] s t
  keys : t.keys = { s.keys with results := t.keys.results, seeds := t.keys.seeds }

/-- The module as a held service leaves it to the hand-over: its result noted, and its core free. -/
def heldOver (s : State) (e : Nat) (c : Cmd) : State :=
  match coreOf s e with
  | some k => endTurn (s.setCmd e c) k
  | none => s.setCmd e c

theorem heldOver_facts (s : State) (e : Nat) (c : Cmd) : (heldOver s e c).cmd e = some c ∧
    Keeps [.so, .cores, .arrays, .keys, .entropy, .gates] s (heldOver s e c) ∧
    (heldOver s e c).keys = { s.keys with results := (heldOver s e c).keys.results, seeds := (heldOver s e c).keys.seeds } := by
  unfold heldOver
  split
  next k _ =>
    have hturn := turnsEnded_endTurn (s.setCmd e c) k
    exact ⟨(State.cmd_congr hturn.keeps.so e).trans (State.cmd_setCmd s e c), (keeps_setCmd s e c).comp hturn.keeps, hturn.keys⟩
  next => exact ⟨State.cmd_setCmd s e c, (keeps_setCmd s e c).mono (by decide), rfl⟩

/-- The end of a held service is a plain hand-over of its result. -/
theorem finishHeld_plain {s : State} {e : Nat} {c : Cmd} (h : Held s e c) (st : Code) {out : Octets}
    (hcap : out.length ≤ c.d.outCap.toNat) : finishHeld s e st out =
      journalService (heldOver s e { c with served := true, status := st, output := out }) e
        { c with served := true, status := st, output := out }.handedOver := by
  obtain ⟨hc, hst, hf, hs⟩ := h
  have hneed : ¬ (out.length + trailerLen s c > c.d.outCap.toNat) := by
    rw [trailerLen, hf]
    exact Nat.not_lt.2 hcap
  have heq : finishHeld s e st out = handOff (heldOver s e { c with served := true, status := st, output := out })
      (match coreOf s e with | some k => srcCore k | none => srcSupervisor) e := by
    simp only [finishHeld, hc, if_neg hst, if_neg hneed, heldOver]
    cases coreOf s e <;> rfl
  exact heq.trans (handOff_plain (c := { c with served := true, status := st, output := out }) _ (heldOver_facts s e _).1 hf hs hcap)

theorem finishHeld_ends {s : State} {e : Nat} {c : Cmd} (h : Held s e c) (st : Code) {out : Octets}
    (hcap : out.length ≤ c.d.outCap.toNat) : HeldEnded s (finishHeld s e st out) e st out := by
  obtain ⟨hcmd, hkeep, hkeys⟩ := heldOver_facts s e { c with served := true, status := st, output := out }
  rw [finishHeld_plain h st hcap]
  have hserve := keeps_journalService (heldOver s e { c with served := true, status := st, output := out }) e
    { c with served := true, status := st, output := out }.handedOver
  refine ⟨journalService_ends _ e rfl rfl, hkeep.comp hserve, ?_⟩
  rw [hserve.keys]
  exact hkeys

/-- What becomes due behind the completion stays with the command. -/
theorem finishHeld_after {s : State} {e : Nat} {c : Cmd} (h : Held s e c) (st : Code) {out : Octets}
    (hcap : out.length ≤ c.d.outCap.toNat) : ∃ c', (finishHeld s e st out).cmd e = some c' ∧ c'.after = c.after := by
  rw [finishHeld_plain h st hcap]
  unfold journalService
  split
  next => exact ⟨_, (State.cmd_congr (journal_so ..) e).trans (State.cmd_setCmd ..), rfl⟩
  next => exact ⟨_, State.cmd_setCmd .., rfl⟩

/-! ### The drain of MAINT_ENTER -/

theorem drainsEnd : Claims.DrainsEnd := by
  intro s e c hdrain hmode
  have hany : s.so.cmds.any (fun x => decide (x.2.slot < 512) && x.2.stage != .done) = true ↔
      ∃ x ∈ s.so.cmds, x.2.slot < 512 ∧ x.2.stage ≠ .done := by simp
  have hex : exec .maintDrainEnd s = answer (
      if s.boot.mode ≠ .service || s.so.cmds.any (fun x => decide (x.2.slot < 512) && x.2.stage != .done) then s
      else finishHeld (setMode { s with boot := { s.boot with maintDrain := none } } .maintenance 0x8010) e stOk []) := by
    refine congrArg answer ?_
    rw [hdrain]
  refine ⟨fun hdone hheld => ?_, fun hbusy => ?_⟩
  case refine_1 =>
    have hno : s.so.cmds.any (fun x => decide (x.2.slot < 512) && x.2.stage != .done) = false := by
      rw [← Bool.not_eq_true, hany]
      exact fun ⟨x, hx, hslot, hstage⟩ => hstage (hdone x hx hslot)
    rw [hno, hmode, if_neg (by decide)] at hex
    have hset := keeps_setMode { s with boot := { s.boot with maintDrain := none } } .maintenance 0x8010
    have hboot := setMode_boot { s with boot := { s.boot with maintDrain := none } } .maintenance 0x8010
    generalize setMode { s with boot := { s.boot with maintDrain := none } } .maintenance 0x8010 = u at hset hboot hex
    have hheld' : Held u e c := by
      obtain ⟨hc, hrest⟩ := hheld
      exact ⟨(State.cmd_congr hset.so e).trans hc, hrest⟩
    obtain ⟨hend, hkeep, hkeys⟩ := finishHeld_ends hheld' stOk (out := []) (Nat.zero_le _)
    refine ⟨_, hex, hkeep.boot.trans hboot, hend, hkeep.warden.trans hset.warden, hkeep.slots.trans hset.slots, ?_⟩
    have hroots : (finishHeld u e stOk []).keys.rootFile = u.keys.rootFile := by rw [hkeys]
    exact hroots.trans (congrArg KeyUnit.rootFile hset.keys)
  case refine_2 => rw [hex, if_pos (by rw [hany.2 hbusy, Bool.or_true])]

/-! ### The erase of MODULE_RETIRE -/

theorem retiringErases : Claims.RetiringErases := by
  intro s hdue
  have hex : exec .retireErase s = answer (setMode (setLifeCycle { wentDown (wiped s) erasedSt with
      boot := { (wentDown (wiped s) erasedSt).boot with unsealed := false, retireDue := false, armed := none } }
      .retired 0x8013) .erased 0x8013) := by
    rw [wentDown, wiped, stoodDown]
    exact congrArg answer (if_neg (by simp [hdue]))
  have hwiped := keeps_wiped s
  have hdown := keeps_wentDown (wiped s) erasedSt
  have hgone := (workingGone_wiped s).wentDown erasedSt
  have hstage : ∀ x ∈ (wentDown (wiped s) erasedSt).so.cmds, x.2.stage = .done := by
    rw [wentDown, (keeps_abandonImage _ erasedSt).so]
    exact failAll_stage (wiped s) erasedSt
  have hwarden : (wentDown (wiped s) erasedSt).warden = _ := hdown.warden.trans (wiped_warden s)
  have halarms : (wentDown (wiped s) erasedSt).alarms = _ := hdown.alarms.trans (wiped_alarms s)
  have hcrown : (wentDown (wiped s) erasedSt).pair.crownOut = false :=
    (congrArg Pair.crownOut hdown.pair).trans (wiped_crownOut s)
  generalize wentDown (wiped s) erasedSt = u at hex hgone hstage hwarden halarms hcrown
  have hlife := keeps_setLifeCycle { u with boot := { u.boot with unsealed := false, retireDue := false, armed := none } }
    .retired 0x8013
  have hlc := setLifeCycle_warden { u with boot := { u.boot with unsealed := false, retireDue := false, armed := none } }
    .retired 0x8013
  have hlcPair := setLifeCycle_pair { u with boot := { u.boot with unsealed := false, retireDue := false, armed := none } }
    .retired 0x8013
  generalize setLifeCycle { u with boot := { u.boot with unsealed := false, retireDue := false, armed := none } }
    .retired 0x8013 = v at hlife hlc hlcPair hex
  have hset := keeps_setMode v .erased 0x8013
  have hmode := setMode_boot v .erased 0x8013
  have hpair := setMode_pair v .erased 0x8013
  have hkeys : (setMode v .erased 0x8013).keys = u.keys := hset.keys.trans hlife.keys
  have harrays : (setMode v .erased 0x8013).arrays = u.arrays := hset.arrays.trans hlife.arrays
  have hentropy : (setMode v .erased 0x8013).entropy = u.entropy := hset.entropy.trans hlife.entropy
  have hso : (setMode v .erased 0x8013).so = u.so := hset.so.trans hlife.so
  have hal : (setMode v .erased 0x8013).alarms = u.alarms := hset.alarms.trans hlife.alarms
  rw [hlife.boot] at hmode
  rw [hlcPair] at hpair
  have hw : (setMode v .erased 0x8013).warden = _ := hset.warden.trans hlc
  generalize setMode v .erased 0x8013 = w at hex hmode hpair hkeys harrays hentropy hso hal hw
  refine ⟨_, hex, ?_⟩
  dsimp only
  rw [drivePins_boot, drivePins_warden, drivePins_keys, drivePins_arrays, drivePins_entropy, drivePins_pair, drivePins_alarms,
    drivePins_so, hmode, hw, hkeys, harrays, hentropy, hso, hpair, hal, hwarden, halarms]
  exact ⟨rfl, rfl, rfl, rfl, rfl, rfl, rfl, rfl, hgone.frankPriv, hgone.cacheKey, hgone.indexKey, hgone.cache, hgone.rootFile,
    hgone.counters, hgone.laneKeys, hgone.hashKeys, hgone.insts, hcrown, rfl, rfl, hstage, rfl, rfl⟩

/-- Settles O35: the drain by its two branches, the erase by what each of its steps leaves. -/
theorem drainsAndRetirement : Obligations.DrainsAndRetirement := ⟨drainsEnd, retiringErases⟩

end Sys2Proof.Machine
end

section
/-! O36: resets of a port and of a function, and link training (R58, R67, R68, R73, R75, R445). -/

namespace Sys2Proof.Machine

theorem State.port_congr {s t : State} (ha : t.portA = s.portA) (hb : t.portB = s.portB) (b : Bool) : t.port b = s.port b := by
  rw [State.port, State.port, ha, hb]

/-! ### What a reset does to commands, pigeonholes and vectors -/

/-- In a table without doubled numbers the entry read is the entry listed. -/
theorem mem_of_lookup {α : Type} {t : List (Nat × α)} {n : Nat} {v : α} (h : lookup t n = some v) : (n, v) ∈ t := by
  induction t with
  | nil => simp [lookup] at h
  | cons x t ih =>
    obtain ⟨k, w⟩ := x
    by_cases hk : n = k
    · simp only [lookup, hk, if_true, Option.some.injEq] at h
      rw [hk, h]
      exact List.mem_cons_self
    · simp only [lookup, if_neg hk] at h
      exact List.mem_cons_of_mem _ (ih h)

theorem eq_of_mem_of_nodup {α : Type} {t : List (Nat × α)} (hn : (t.map (·.1)).Nodup) {n : Nat} {v w : α} (hv : (n, v) ∈ t)
    (hw : (n, w) ∈ t) : v = w := by
  have h := List.inj_on_of_nodup_map hn hv hw rfl
  exact congrArg Prod.snd h

/-- Does a command go with the reset of these slots: undispatched, or completed? -/
def Cmd.leaves (c : Cmd) (slots : List Nat) : Bool := slots.contains c.slot && (!c.dispatched || c.stage == .done)

/-- A command as the reset of these slots leaves it. -/
def Cmd.cut (c : Cmd) (slots : List Nat) : Cmd := if slots.contains c.slot then { c with discarded := true } else c

/-- In a table without doubled numbers a filter names a number exactly if it names its entry. -/
theorem any_filter_key {t : List (Nat × Cmd)} (hn : (t.map (·.1)).Nodup) (p : Nat × Cmd → Bool) {e : Nat} {c : Cmd}
    (hc : lookup t e = some c) : (t.filter p).any (·.1 == e) = p (e, c) := by
  have hmem := mem_of_lookup hc
  rw [Bool.eq_iff_iff, List.any_eq_true]
  constructor
  · rintro ⟨⟨k, v⟩, hx, hk⟩
    obtain rfl : k = e := beq_iff_eq.1 hk
    obtain ⟨hin, hp⟩ := List.mem_filter.1 hx
    rwa [eq_of_mem_of_nodup hn hin hmem] at hp
  · exact fun hp => ⟨(e, c), List.mem_filter.2 ⟨hmem, hp⟩, beq_self_eq_true e⟩

/-- The commands that a reset of these slots discards, and those that it closes. -/
def goneCmds (s : State) (slots : List Nat) : List (Nat × Cmd) :=
  s.so.cmds.filter (fun x => slots.contains x.2.slot && !x.2.dispatched)

def doneCmds (s : State) (slots : List Nat) : List (Nat × Cmd) :=
  s.so.cmds.filter (fun x => slots.contains x.2.slot && x.2.dispatched && x.2.stage == .done)

theorem discardCmds_cmds (s : State) (slots : List Nat) : (discardCmds s slots).so.cmds =
    (s.so.cmds.filter (fun x => !((goneCmds s slots).any (·.1 == x.1)) && !((doneCmds s slots).any (·.1 == x.1)))).map
      (fun x => (x.1, x.2.cut slots)) := by
  have hso : ((goneCmds s slots).foldl (fun s x => unselect s x.1) s).so = s.so :=
    (Keeps.foldl (fun (t : State) (x : Nat × Cmd) => keeps_unselect t x.1) (goneCmds s slots) s).so
  have heq : (discardCmds s slots).so.cmds =
      ((((goneCmds s slots).foldl (fun s x => unselect s x.1) s).so.cmds.filter
        (fun x => !((goneCmds s slots).any (·.1 == x.1)) &&
          !((((goneCmds s slots).foldl (fun s x => unselect s x.1) s).so.cmds.filter (fun x =>
            slots.contains x.2.slot && x.2.dispatched && x.2.stage == .done)).any (·.1 == x.1)))).map
        (fun x => if slots.contains x.2.slot then (x.1, { x.2 with discarded := true }) else x)) := rfl
  rw [heq, hso]
  refine List.map_congr_left fun x _ => ?_
  unfold Cmd.cut
  split <;> rfl

theorem discardCmds_cmd {s : State} (hn : (s.so.cmds.map (·.1)).Nodup) (slots : List Nat) {e : Nat} {c : Cmd}
    (hc : s.cmd e = some c) : (discardCmds s slots).cmd e = if c.leaves slots then none else some (c.cut slots) := by
  have hgone : (goneCmds s slots).any (·.1 == e) = (slots.contains c.slot && !c.dispatched) := any_filter_key hn _ hc
  have hdone : (doneCmds s slots).any (·.1 == e) = (slots.contains c.slot && c.dispatched && c.stage == .done) :=
    any_filter_key hn _ hc
  rw [State.cmd, discardCmds_cmds, lookup_map (fun _ c => Cmd.cut c slots), lookup_filter_key
    (fun k => !((goneCmds s slots).any (·.1 == k)) && !((doneCmds s slots).any (·.1 == k))), hgone, hdone]
  have hleaves : (!(slots.contains c.slot && !c.dispatched) && !(slots.contains c.slot && c.dispatched && c.stage == .done)) =
      !c.leaves slots := by
    unfold Cmd.leaves
    cases slots.contains c.slot <;> cases c.dispatched <;> simp
  rw [hleaves]
  have hc' : lookup s.so.cmds e = some c := hc
  cases c.leaves slots
  case false => simp [hc']
  case true => rfl

theorem discardCmds_phs (s : State) (slots : List Nat) : (discardCmds s slots).so.phs = s.so.phs := by
  have hso : ((goneCmds s slots).foldl (fun s x => unselect s x.1) s).so = s.so :=
    (Keeps.foldl (fun (t : State) (x : Nat × Cmd) => keeps_unselect t x.1) (goneCmds s slots) s).so
  have heq : (discardCmds s slots).so.phs = ((goneCmds s slots).foldl (fun s x => unselect s x.1) s).so.phs := rfl
  rw [heq, hso]

theorem discards_of_so {s t : State} (hn : (s.so.cmds.map (·.1)).Nodup) {slots : List Nat}
    (ht : t.so.cmds = (discardCmds s slots).so.cmds) : Discards s t slots := by
  intro e c hc
  have hcmd : t.cmd e = (discardCmds s slots).cmd e := congrArg (lookup · e) ht
  rw [hcmd, discardCmds_cmd hn slots hc]
  unfold Cmd.leaves Cmd.cut
  by_cases hin : c.slot ∈ slots
  · simp only [hin, List.contains_eq_mem, decide_true, Bool.true_and, if_true]
    by_cases hgo : c.dispatched = false ∨ c.stage = .done
    · rw [if_pos hgo, if_pos (by simpa using hgo)]
    · rw [if_neg hgo, if_neg (by simpa using hgo)]
  · simp [hin]

theorem foldl_resetPh (l : List Nat) (s : State) (n : Nat) :
    (l.foldl resetPh s).ph n = if n ∈ l then {} else s.ph n := by
  induction l generalizing s with
  | nil => simp
  | cons m l ih =>
    rw [List.foldl_cons, ih]
    by_cases hl : n ∈ l
    · simp [hl]
    · by_cases hm : n = m
      · subst hm
        simp [hl, resetPh]
      · simp only [hl, hm, List.mem_cons, or_self, if_false]
        exact State.ph_setPh_other s {} hm

theorem keeps_resetPhs (l : List Nat) (s : State) : Keeps [.so] s (l.foldl resetPh s) :=
  Keeps.foldl (fun t n => keeps_setPh t n {}) l s

theorem resetPhs_cmds (l : List Nat) (s : State) : (l.foldl resetPh s).so.cmds = s.so.cmds := by
  induction l generalizing s with
  | nil => rfl
  | cons m l ih => exact (ih _).trans rfl

theorem slotPhs_congr {s t : State} (h : t.slots = s.slots) (slot : Nat) : slotPhs t slot = slotPhs s slot := by
  unfold slotPhs
  rw [h]

theorem clearsMsix_resetMsix (s : State) (keep : Nat → Bool) (mine : Nat → Prop) [DecidablePred mine]
    (h : ∀ f, keep f = true ↔ ¬ mine f) : ClearsMsix s (resetMsix s keep) mine := by
  intro key
  have hfilter := lookup_filter_key (fun k => keep (k / 64)) s.msix key
  have hget : tget ({} : MsixVec) (resetMsix s keep).msix key =
      (if keep (key / 64) then lookup s.msix key else none).getD {} := congrArg (·.getD {}) hfilter
  rw [hget]
  by_cases hm : mine (key / 64)
  · rw [if_pos hm, if_neg (fun hk => (h _).1 hk hm)]
    rfl
  · rw [if_neg hm, if_pos ((h _).2 hm)]
    rfl

theorem keeps_resetMsix (s : State) (f : Nat → Bool) : Keeps [.msix] s (resetMsix s f) := by
  intro p hp
  cases p
  case msix => simp at hp
  all_goals rfl

/-- The slots' commands are discarded, these pigeonholes closed, and the vectors of some functions are at reset. -/
def resetSlots (s : State) (slots phs : List Nat) (keep : Nat → Bool) : State :=
  resetMsix (phs.foldl resetPh (discardCmds s slots)) keep

/-- What a reset of slots leaves: the commands, the pigeonholes and the vectors, and the frame. -/
structure SlotsReset (s t : State) (slots : List Nat) (mine : Nat → Prop) [DecidablePred mine] : Prop where
  keeps : Keeps [.so, .cores, .gates, .msix] s t
  discards : Discards s t slots
  closes : ClosesPhs s t slots
  clears : ClearsMsix s t mine

theorem resetSlots_resets {s : State} (hn : (s.so.cmds.map (·.1)).Nodup) (slots : List Nat) {keep : Nat → Bool}
    {mine : Nat → Prop} [DecidablePred mine] (h : ∀ f, keep f = true ↔ ¬ mine f) :
    SlotsReset s (resetSlots s slots (slots.flatMap (slotPhs s)) keep) slots mine := by
  have hdiscard := keeps_discardCmds s slots
  have hphs := keeps_resetPhs (slots.flatMap (slotPhs s)) (discardCmds s slots)
  have hmsix := keeps_resetMsix ((slots.flatMap (slotPhs s)).foldl resetPh (discardCmds s slots)) keep
  have hclears := clearsMsix_resetMsix ((slots.flatMap (slotPhs s)).foldl resetPh (discardCmds s slots)) keep mine h
  refine ⟨(hdiscard.comp hphs (rs := [.so, .cores, .gates])).comp hmsix, ?_, fun n => ?_, fun key => (hclears key).trans ?_⟩
  · refine discards_of_so hn ?_
    rw [resetSlots, hmsix.so, resetPhs_cmds]
  · have hph : (resetSlots s slots (slots.flatMap (slotPhs s)) keep).ph n =
        ((slots.flatMap (slotPhs s)).foldl resetPh (discardCmds s slots)).ph n := by
      rw [State.ph, State.ph, resetSlots, hmsix.so]
    rw [hph, foldl_resetPh, State.ph, State.ph, discardCmds_phs]
  · rw [hphs.msix, hdiscard.msix]

/-! ### Resets of a port -/

/-- The slots of a port, PF0's first. -/
def slotsOf (s : State) (b : Bool) : List Nat := (if b then 513 else 512) :: portSlots s b

theorem portReset_eq (s : State) (b : Bool) : portReset s b =
    (resetSlots s (slotsOf s b) ((slotsOf s b).flatMap (slotPhs s)) (fun f => decide (f ≥ 257) != b)).setPort b
      (portCleared (s.port b)) := by
  have hslots : (512 + (if b then 1 else 0)) :: portSlots s b = slotsOf s b := by cases b <;> rfl
  have hphs : slotPhs (discardCmds s (slotsOf s b)) = slotPhs s :=
    funext (slotPhs_congr (keeps_discardCmds s (slotsOf s b)).slots)
  have hport (t : State) (phs : List Nat) (f : Nat → Bool) (h : t = resetMsix (phs.foldl resetPh (discardCmds s (slotsOf s b))) f) :
      t.port b = s.port b := by
    subst h
    have hk := ((keeps_discardCmds s (slotsOf s b)).comp (keeps_resetPhs phs _) (rs := [.so, .cores, .gates])).comp
      (keeps_resetMsix _ f) (rs := [.so, .cores, .gates, .msix])
    exact State.port_congr hk.portA hk.portB b
  unfold portReset
  dsimp only
  rw [hslots, hphs, hport _ _ _ rfl]
  rfl

/-- What a reset of a port leaves once its port registers read q. -/
theorem portReset_resets {s : State} (hn : (s.so.cmds.map (·.1)).Nodup) (b : Bool) (q : Port) :
    let t := drivePins ((portReset s b).setPort b q)
    Only [.so, .cores, .gates, .msix, if b then .portB else .portA] s t ∧ Discards s t (slotsOf s b) ∧
      ClosesPhs s t (slotsOf s b) ∧ ClearsMsix s t (fun f => decide (257 ≤ f) = b) ∧ t.port b = q := by
  have hreset := resetSlots_resets hn (slotsOf s b) (keep := fun f => decide (f ≥ 257) != b)
    (mine := fun f => decide (257 ≤ f) = b) (fun f => by simp)
  rw [portReset_eq]
  generalize resetSlots s (slotsOf s b) ((slotsOf s b).flatMap (slotPhs s)) (fun f => decide (f ≥ 257) != b) = u at hreset
  obtain ⟨hkeep, hdiscard, hcloses, hclears⟩ := hreset
  have hport := ((keeps_setPort u b (portCleared (s.port b))).trans (keeps_setPort _ b q))
  refine ⟨only_drivePins ((hkeep.mono ?_).trans (hport.mono ?_)), ?_, ?_, ?_, ?_⟩
  · exact List.subset_append_left ([.so, .cores, .gates, .msix] : List Part) _
  · exact List.subset_append_right ([.so, .cores, .gates, .msix] : List Part) _
  · cases b <;> exact hdiscard
  · cases b <;> exact hcloses
  · cases b <;> exact hclears
  · exact State.port_setPort _ b q

theorem portsReset : Claims.PortsReset := by
  intro s b
  dsimp only
  intro hn
  have hp : (portReset s b).port b = portCleared (s.port b) := by
    rw [portReset_eq]
    exact State.port_setPort _ b _
  refine ⟨?_, fun hup => ?_, fun hdown => ?_⟩
  case refine_1 =>
    have hex : exec (.perstAssert b) s = answer ((portReset s b).setPort b { (portReset s b).port b with
      perst := true, linkDown := ((portReset s b).port b).linkDown || ((portReset s b).port b).linkUp, linkUp := false }) := rfl
    rw [hp] at hex
    exact ⟨_, hex, portReset_resets hn b _⟩
  case refine_2 =>
    have hex : exec (.portLinkDown b) s = answer ((portReset s b).setPort b { (portReset s b).port b with
      linkUp := false, linkDown := true }) := congrArg answer (if_neg (by simp [hup]))
    rw [hp] at hex
    exact ⟨_, hex, portReset_resets hn b _⟩
  case refine_3 => exact congrArg answer (if_pos (by simp [hdown]))

/-! ### Link training -/

/-- A notice without a name reaches the registers and the vectors alone. -/
theorem keeps_notice_unnamed (s : State) (c : Code) (u : Nat) (v : BitVec 32) :
    Keeps [.free, .outbox, .alarms, .msix, .tb] s (notice s c u v false) := by
  have hlog : Keeps [.free, .alarms, .tb] s (logged s { cause := c, cls := clsN, unit := u, value := v, named := false }) := by
    have hset (t : State) (x : Alarms) : Keeps [.alarms] t { t with alarms := x } := by
      intro p hp
      cases p
      case alarms => simp at hp
      all_goals rfl
    exact (keeps_stamp s srcAlarm).comp (hset _ _)
  unfold notice
  rw [logAlarm_eq]
  split
  next => exact hlog.comp (keeps_msixBoth _ _)
  next => exact hlog.mono (by decide)

/-- The port registers after training (R66, R68). -/
def Port.trained (p : Port) (r : BitVec 3) (w : BitVec 5) : Port :=
  { p with linkUp := true, rate := r, width := w,
           rateChange := p.rateChange || (p.rate != r && (p.linkUp || decide (r.toNat < 6))),
           widthChange := p.widthChange || (p.width != w && (p.linkUp || decide (w.toNat < 16))) }

theorem exec_linkTrained (s : State) (b : Bool) (r : BitVec 3) (w : BitVec 5) : exec (.linkTrained b r w) s = answer (
    if (s.port b).perst || !(s.boot.pdEn.getLsbD (if b then 7 else 6)) || decide (s.boot.step < 5) then s
    else if ((s.port b).trained r w).degraded then
      notice (s.setPort b ((s.port b).trained r w)) 0x0404 (if b then 1 else 0) 0 false
    else s.setPort b ((s.port b).trained r w)) := rfl

theorem linksTrain : Claims.LinksTrain := by
  intro s b r w
  have hex := exec_linkTrained s b r w
  have hshows (t : State) (h : t.port b = (s.port b).trained r w) :
      (t.port b).linkUp = true ∧ (t.port b).rate = r ∧ (t.port b).width = w ∧
      (r.toNat < 6 → (s.port b).rate ≠ r → (t.port b).rateChange = true) ∧
      (w.toNat < 16 → (s.port b).width ≠ w → (t.port b).widthChange = true) ∧
      (t.port b).vfEnable = (s.port b).vfEnable ∧ (t.port b).hostFaults = (s.port b).hostFaults := by
    rw [h]
    exact ⟨rfl, rfl, rfl, fun hr hne => by simp [Port.trained, hr, hne], fun hw hne => by simp [Port.trained, hw, hne],
      rfl, rfl⟩
  have hmay : ((s.port b).perst || !(s.boot.pdEn.getLsbD (if b then 7 else 6)) || decide (s.boot.step < 5)) = true ↔
      ¬ ((s.port b).perst = false ∧ s.boot.pdEn.getLsbD (if b then 7 else 6) = true ∧ 5 ≤ s.boot.step) := by
    cases (s.port b).perst <;> cases s.boot.pdEn.getLsbD (if b then 7 else 6) <;> simp
  have hlow : ((s.port b).trained r w).degraded = true ↔ r.toNat < 6 ∨ w.toNat < 16 := by
    rw [Port.degraded, Bool.or_eq_true]
    exact or_congr decide_eq_true_iff decide_eq_true_iff
  refine ⟨rfl, fun hno => ?_, fun hgo hfull => ?_, fun hgo hdeg => ?_⟩
  case refine_1 => rw [hex, if_pos (hmay.2 hno)]
  all_goals rw [if_neg (fun h => hmay.1 h hgo)] at hex
  case refine_2 =>
    rw [if_neg (fun h => hfull (hlow.1 h))] at hex
    exact ⟨_, hex, only_drivePins (keeps_setPort s b _), hshows _ (State.port_setPort s b _)⟩
  case refine_3 =>
    rw [if_pos (hlow.2 hdeg)] at hex
    have hnote := keeps_notice_unnamed (s.setPort b ((s.port b).trained r w)) 0x0404 (if b then 1 else 0) 0
    have halarms := notice_alarms (s.setPort b ((s.port b).trained r w)) (c := 0x0404) (if b then 1 else 0) 0 false (by decide)
    generalize notice (s.setPort b ((s.port b).trained r w)) 0x0404 (if b then 1 else 0) 0 false = u at hnote halarms hex
    have hport : (drivePins u).port b = (s.port b).trained r w := by
      have h : u.port b = (s.setPort b ((s.port b).trained r w)).port b := State.port_congr hnote.portA hnote.portB b
      exact h.trans (State.port_setPort s b _)
    refine ⟨_, hex, only_drivePins (((keeps_setPort s b _).mono ?_).trans (hnote.mono ?_)), hshows _ hport, ?_, ?_⟩
    · cases b <;> decide
    · cases b <;> decide
    · exact congrArg Alarms.lastCause halarms
    · exact congrArg Alarms.evN halarms

/-! ### Functions -/

theorem functionsReset : Claims.FunctionsReset := by
  intro s b on n fn
  refine ⟨fun hup hmode hn => ?_, fun hno => ?_, fun hnodup => ⟨fun hvf hreach => ?_, fun hup => ?_⟩, fun hreach => ?_⟩
  case refine_1 =>
    exact congrArg answer (if_neg (by simp [hup, hmode, hn]))
  case refine_2 =>
    refine congrArg answer (if_pos ?_)
    obtain h | h | h := hno <;> simp [h]
  case refine_5 => exact congrArg answer (if_pos (by simp [hreach]))
  all_goals
    have hresets (i : Instr) (f : Fn) (hex : exec i s = answer (resetSlots s [slotOfFn f] (slotPhs s (slotOfFn f))
        (fun x => x != msixKey f 0 / 64))) : Gives i s fun t => Only [.so, .cores, .gates, .msix] s t ∧
        Discards s t [slotOfFn f] ∧ ClosesPhs s t [slotOfFn f] ∧ ClearsMsix s t (fun x => x = msixKey f 0 / 64) := by
      have hreset := resetSlots_resets hnodup [slotOfFn f] (keep := fun x => x != msixKey f 0 / 64)
        (mine := fun x => x = msixKey f 0 / 64) (fun x => by simp)
      rw [List.flatMap_singleton] at hreset
      exact ⟨_, hex, only_drivePins hreset.keeps, hreset.discards, hreset.closes, hreset.clears⟩
    have hphs (slot : Nat) : slotPhs (discardCmds s [slot]) slot = slotPhs s slot :=
      slotPhs_congr (keeps_discardCmds s [slot]).slots slot
  case refine_3 =>
    refine hresets (.flrVf fn) fn ?_
    rw [resetSlots, ← hphs]
    exact congrArg answer (if_neg (by
      simp only [hvf, hreach, decide_false, Bool.not_true, Bool.or_false, Bool.false_eq_true, not_false_eq_true]))
  case refine_4 =>
    refine hresets (.flrPf0 b) ⟨b, 0⟩ ?_
    rw [resetSlots, ← hphs]
    exact congrArg answer (if_neg (by simp [hup]))

/-- Settles O36: each reset by what it does to commands, pigeonholes, vectors and the port's registers. -/
theorem portsAndFunctions : Obligations.PortsAndFunctions := ⟨portsReset, linksTrain, functionsReset⟩

end Sys2Proof.Machine
end

section
/-! the management port -/

namespace Sys2Proof.Machine
open Host

/-! ### Whom the port answers (R595, R599) -/

theorem portServes_of {s : State} (hg : s.pwrGood = true) (hr : 1 ≤ s.boot.step ∨ s.boot.inReset = true) :
    portServes s = true := by
  rw [portServes, hg, Bool.true_and, decide_eq_true_eq]
  exact hr

theorem addressed_of {s : State} (hp : portServes s = true) (ha : s.mgmt.addr.isSome = true) : addressed s = true := by
  rw [addressed, hp, ha]
  rfl

theorem answerCcc_eq {s : State} (ha : addressed s = true) (o : Octets) : answerCcc s o = emit s (.ccc o) := if_pos ha

theorem answerControl_eq {s : State} (ha : addressed s = true) (cmd cc : Nat) (o : Octets) :
    answerControl s cmd cc o = emit s (.mctp 0x00 (le 1 cmd ++ le 1 cc ++ o)) := if_pos ha

theorem answerVendor_eq {s : State} (ha : addressed s = true) (cmd : Nat) (o : Octets) :
    answerVendor s cmd o = emit s (.mctp 0x7E (vendorBody cmd stOk o)) := if_pos ha

theorem maxLenOk_iff (n : BitVec 16) : maxLenOk n = true ↔ 69 ≤ n.toNat ∧ n.toNat ≤ 4096 := decide_eq_true_iff

theorem i3cCommands : Claims.I3cCommands := by
  intro s chain addr ev n m mgmtIs
  refine ⟨rfl, fun hg hr => ?_⟩
  have hp := portServes_of hg hr
  have hno : (!portServes s) ≠ true := by simp [hp]
  refine ⟨?_, congrArg answer (if_pos hp), congrArg answer (if_pos hp), congrArg answer (if_pos hp), ?_, ?_, ?_, ?_⟩
  · refine (congrArg answer (if_neg hno)).trans ?_
    by_cases h : m.addr = none ∧ chain = true
    · have hc : (m.addr.isNone && chain) = true := by simp [h.1, h.2]
      rw [if_pos h]
      exact congrArg answer (if_pos hc)
    · have hc : ¬ (m.addr.isNone && chain) = true := by simpa using h
      rw [if_neg h]
      exact congrArg answer (if_neg hc)
  · intro hlo hhi
    have hc : (portServes s && maxLenOk n) = true := by
      rw [hp, (maxLenOk_iff n).2 ⟨hlo, hhi⟩]
      rfl
    exact ⟨congrArg answer (if_pos hc), congrArg answer (if_pos hc)⟩
  · intro hout
    have hc : ¬ (portServes s && maxLenOk n) = true := by
      rw [hp, Bool.true_and, maxLenOk_iff]
      omega
    exact ⟨congrArg answer (if_neg hc), congrArg answer (if_neg hc)⟩
  · intro hnone hin hev
    have hc : (portServes s && s.mgmt.addr.isNone && s.mgmt.chainIn && s.mgmt.events.getLsbD 3) = true := by
      rw [hp, show s.mgmt.addr = none from hnone, show s.mgmt.chainIn = true from hin,
        show s.mgmt.events.getLsbD 3 = true from hev]
      rfl
    exact congrArg answer (if_pos hc)
  · intro ha
    have had := addressed_of hp ha
    refine ⟨congrArg answer (answerCcc_eq had _), congrArg answer (answerCcc_eq had _), congrArg answer (answerCcc_eq had _),
      congrArg answer (answerCcc_eq had _), congrArg answer (answerCcc_eq had _), ?_⟩
    have hno : (!addressed s) ≠ true := by simp [had]
    refine ⟨_, congrArg answer (if_neg hno), ?_, _, rfl, rfl⟩
    refine only_drivePins fun p hp' => ?_
    cases p
    case free | outbox => simp at hp'
    all_goals rfl

/-! ### Where a field lies in a row of octets -/

theorem slice_append_right {a : Octets} (b : Octets) {off : Nat} (k n : Nat) (ha : a.length = off) :
    slice (a ++ b) (off + k) n = slice b k n := by
  rw [slice, ← ha, List.drop_append, ← List.drop_drop, List.drop_length, List.drop_nil, List.nil_append,
    Nat.add_sub_cancel_left, slice]

theorem u8_first (n v : Nat) (c : Octets) : u8 (le (n + 1) v ++ c) 0 = v % 256 := by
  rw [u8, le, List.cons_append, ← List.singleton_append, slice_first (n := 1) _ rfl]
  simp [leNat]

/-! ### What GET_IDENTITY, GET_MODE, BATTERY_LOG and IMAGE_STATUS answer -/

theorem identityOctets_fields (s : State) : (identityOctets s).length = 24 ∧ u32 (identityOctets s) 0 = 0x574C3680 ∧
    u32 (identityOctets s) 4 = 0x0A01 ∧ u64 (identityOctets s) 8 = s.warden.serial.toNat ∧
    u32 (identityOctets s) 20 = s.boot.fwBuild.toNat := by
  have h4 (v : Nat) : (le 4 v).length = 4 := le_length ..
  have h8 (v : Nat) : (le 8 v).length = 8 := le_length ..
  refine ⟨by simp [identityOctets], ?_, ?_, ?_, ?_⟩ <;> simp only [identityOctets, List.append_assoc]
  · rw [u32, slice_first _ (h4 _), leNat_le]
    rfl
  · rw [u32, slice_field _ (h4 _) (h4 _), leNat_le]
    rfl
  · rw [u64, ← List.append_assoc, slice_field _ (by simp) (h8 _), leNat_le]
    exact Nat.mod_eq_of_lt s.warden.serial.isLt
  · rw [u32, ← List.append_assoc, ← List.append_assoc, ← List.append_assoc, slice_last (by simp) (h4 _), leNat_le]
    exact Nat.mod_eq_of_lt s.boot.fwBuild.isLt

theorem Mode.code_lt (m : Mode) : m.code < 16 := by cases m <;> decide

theorem LifeCycle.code_lt (l : LifeCycle) : l.code < 4 := by cases l <;> decide

/-- The four flags of the MODE register over a mode and a life cycle (chapter 02). -/
theorem modeRegister_bits (m l : Nat) (hm : m < 16) (hl : l < 4) (a b c d : Bool) :
    let v := (m + 16 * l + (if a then 2 ^ 6 else 0) + (if b then 2 ^ 7 else 0) + (if c then 2 ^ 8 else 0) +
      (if d then 2 ^ 9 else 0)) % 256
    v % 16 = m ∧ v / 16 % 4 = l ∧ (v.testBit 6 = true ↔ a = true) ∧ (v.testBit 7 = true ↔ b = true) := by
  intro v
  have hv : v = m + 16 * l + (if a then 64 else 0) + (if b then 128 else 0) := by
    cases a <;> cases b <;> cases c <;> cases d <;> simp [v] <;> omega
  rw [Nat.testBit_eq_decide_div_mod_eq, Nat.testBit_eq_decide_div_mod_eq, decide_eq_true_iff, decide_eq_true_iff, hv]
  cases a <;> cases b <;> simp <;> omega

theorem modeOctets_fields (s : State) : (modeOctets s).length = 16 ∧ u8 (modeOctets s) 0 % 16 = s.boot.mode.code ∧
    u8 (modeOctets s) 0 / 16 % 4 = s.warden.lc.code ∧
    ((u8 (modeOctets s) 0).testBit 6 = true ↔ s.boot.rngReady = true) ∧
    ((u8 (modeOctets s) 0).testBit 7 = true ↔ s.boot.unsealed = true) ∧
    (s.boot.step < 256 → u8 (modeOctets s) 4 = s.boot.step ∧ u16 (modeOctets s) 5 = s.boot.fail.toNat) ∧
    u32 (modeOctets s) 8 = s.boot.tRng.toNat ∧ u32 (modeOctets s) 12 = s.boot.tRole.toNat := by
  have h4 (v : Nat) : (le 4 v).length = 4 := le_length ..
  have hbits := modeRegister_bits s.boot.mode.code s.warden.lc.code (Mode.code_lt _) (LifeCycle.code_lt _)
    s.boot.rngReady s.boot.unsealed s.boot.applied s.pair.joined
  obtain ⟨hmode, hlc, hrng, hseal⟩ := hbits
  have hfirst : u8 (modeOctets s) 0 = (s.boot.mode.code + 16 * s.warden.lc.code + (if s.boot.rngReady then 2 ^ 6 else 0) +
      (if s.boot.unsealed then 2 ^ 7 else 0) + (if s.boot.applied then 2 ^ 8 else 0) +
      (if s.pair.joined then 2 ^ 9 else 0)) % 256 := by
    simp only [modeOctets, List.append_assoc]
    exact u8_first 3 _ _
  rw [hfirst]
  refine ⟨by simp [modeOctets], hmode, hlc, hrng, hseal, fun hstep => ⟨?_, ?_⟩, ?_, ?_⟩ <;>
    simp only [modeOctets, List.append_assoc]
  · rw [u8, show 4 = 4 + 0 from rfl, slice_append_right _ 0 1 (h4 _)]
    refine (u8_first 3 _ _).trans ?_
    omega
  · rw [u16, show 5 = 4 + 1 from rfl, slice_append_right _ 1 2 (h4 _)]
    have hcut : slice (le 4 (s.boot.step + 256 * s.boot.fail.toNat) ++ (le 4 s.boot.tRng.toNat ++ le 4 s.boot.tRole.toNat)) 1 2 =
        le 2 ((s.boot.step + 256 * s.boot.fail.toNat) / 256) := rfl
    have hfail := s.boot.fail.isLt
    rw [hcut, leNat_le]
    omega
  · rw [u32, ← List.append_assoc, slice_field _ (by simp) (h4 _), leNat_le]
    exact Nat.mod_eq_of_lt s.boot.tRng.isLt
  · rw [u32, ← List.append_assoc, ← List.append_assoc, slice_last (by simp) (h4 _), leNat_le]
    exact Nat.mod_eq_of_lt s.boot.tRole.isLt

theorem ImgState.code_lt (i : ImgState) : i.code < 6 := by cases i <;> decide

theorem imageOctets_fields (s : State) : (imageOctets s).length = 12 ∧ u16 (imageOctets s) 0 = s.boot.imgStatus.toNat ∧
    u16 (imageOctets s) 2 = s.boot.imgState.code ∧ u32 (imageOctets s) 4 = s.boot.imgFaultOff.toNat ∧
    u32 (imageOctets s) 8 = s.boot.imgSeq.toNat := by
  have h4 (v : Nat) : (le 4 v).length = 4 := le_length ..
  have hst := s.boot.imgStatus.isLt
  have hcode := ImgState.code_lt s.boot.imgState
  refine ⟨by simp [imageOctets], ?_, ?_, ?_, ?_⟩
  · have hcut : slice (imageOctets s) 0 2 = le 2 (s.boot.imgStatus.toNat + 65536 * s.boot.imgState.code) := rfl
    rw [u16, hcut, leNat_le]
    omega
  · have hcut : slice (imageOctets s) 2 2 =
        le 2 ((s.boot.imgStatus.toNat + 65536 * s.boot.imgState.code) / 256 / 256) := rfl
    rw [u16, hcut, leNat_le]
    omega
  · rw [u32, imageOctets, List.append_assoc, slice_field _ (h4 _) (h4 _), leNat_le]
    exact Nat.mod_eq_of_lt s.boot.imgFaultOff.isLt
  · rw [u32, imageOctets, slice_last (by simp) (h4 _), leNat_le]
    exact Nat.mod_eq_of_lt s.boot.imgSeq.isLt

theorem BlogEntry.octets_length (b : BlogEntry) : b.octets.length = 32 := by simp [BlogEntry.octets, zeros]

theorem slice_fit {o : Octets} {n off k : Nat} (h : off + k ≤ n) : slice (fit n o) off k = slice o off k := by
  simp only [slice, fit]
  ext i x
  simp only [List.getElem?_take, List.getElem?_append, List.getElem?_drop, List.length_drop, List.length_take, zeros,
    List.length_append, List.length_replicate, List.getElem?_replicate]
  split <;> grind

theorem batteryLogOctets_fields (s : State) : (batteryLogOctets s).length = 2064 ∧
    u8 (batteryLogOctets s) 0 = s.warden.blog.length % 256 ∧ u16 (batteryLogOctets s) 2 = s.warden.blogDropped.toNat ∧
    u32 (batteryLogOctets s) 4 = s.warden.rtcS.toNat ∧
    ∀ x rest, s.warden.blog = x :: rest → slice (batteryLogOctets s) 16 32 = x.octets := by
  have h1 (v : Nat) : (le 1 v).length = 1 := le_length ..
  have h2 (v : Nat) : (le 2 v).length = 2 := le_length ..
  have h4 (v : Nat) : (le 4 v).length = 4 := le_length ..
  have hz : (zeros 8).length = 8 := rfl
  refine ⟨fit_length .., ?_, ?_, ?_, fun x rest hx => ?_⟩ <;> simp only [batteryLogOctets]
  · rw [u8, slice_fit (by decide)]
    simp only [List.append_assoc]
    exact u8_first 0 _ _
  · rw [u16, slice_fit (by decide)]
    simp only [List.append_assoc]
    rw [← List.append_assoc, slice_field _ (by simp) (h2 _), leNat_le]
    exact Nat.mod_eq_of_lt s.warden.blogDropped.isLt
  · rw [u32, slice_fit (by decide)]
    simp only [List.append_assoc]
    rw [← List.append_assoc, ← List.append_assoc, slice_field _ (by simp) (h4 _), leNat_le]
    exact Nat.mod_eq_of_lt s.warden.rtcS.isLt
  · rw [slice_fit (by decide), hx, List.flatMap_cons, slice_field _ (by simp [zeros]) (BlogEntry.octets_length x)]

theorem mctpMessages : Claims.MctpMessages := by
  intro s op eid ty sel control vendor hg hr hsome
  have ha := addressed_of (portServes_of hg hr) hsome
  have hno : (!addressed s) ≠ true := by simp [ha]
  have hcontrol (cmd cc : Nat) (o : Octets) : answer (answerControl s cmd cc o) = answer (emit s (control cmd cc o)) :=
    congrArg answer (answerControl_eq ha cmd cc o)
  have hvendor (cmd : Nat) (o : Octets) : answer (answerVendor s cmd o) = answer (emit s (vendor cmd o)) :=
    congrArg answer (answerVendor_eq ha cmd o)
  refine ⟨fun hop hlo hhi => ?_, fun hbad => ?_, hcontrol .., fun hty => ?_, fun h1 h2 h3 => ?_, hcontrol .., ?_,
    fun hsel => ?_, ?_, ?_, ?_, ⟨_, rfl, fit_length .., hvendor ..⟩, ?_⟩
  · refine (congrArg answer ((if_neg hno).trans (if_pos ⟨hop, hlo, hhi⟩))).trans ?_
    exact congrArg answer (answerControl_eq (s := s.setMgmt fun m => { m with eid := eid }) ha ..)
  · have hout : ¬ (op.toNat ≤ 1 ∧ 8 ≤ eid.toNat ∧ eid.toNat ≤ 254) := by
      rintro ⟨hop, hlo, hhi⟩
      rcases hbad with h | h | rfl
      · omega
      · omega
      · exact absurd hhi (by decide)
    exact (congrArg answer ((if_neg hno).trans (if_neg hout))).trans (hcontrol ..)
  · exact (congrArg answer (if_pos hty)).trans (hcontrol ..)
  · have hother : ¬ (ty = 0xFF ∨ ty = 0 ∨ ty = 0x7E) := by rintro (h | h | h) <;> contradiction
    exact (congrArg answer (if_neg hother)).trans (hcontrol ..)
  · exact (congrArg answer (if_pos rfl)).trans (hcontrol ..)
  · exact (congrArg answer (if_neg hsel)).trans (hcontrol ..)
  · obtain ⟨hlen, hid, hver, hserial, hfw⟩ := identityOctets_fields s
    exact ⟨_, hlen, hid, hver, hserial, hfw, hvendor ..⟩
  · obtain ⟨hlen, hmode, hlc, hrng, hseal, hstep, htr, htrole⟩ := modeOctets_fields s
    exact ⟨_, hlen, hmode, hlc, hrng, hseal, hstep, htr, htrole, hvendor ..⟩
  · obtain ⟨hlen, hn, hdrop, hrtc, hfirst⟩ := batteryLogOctets_fields s
    exact ⟨_, hlen, hn, hdrop, hrtc, hfirst, hvendor ..⟩
  · obtain ⟨hlen, hst, hcode, hoff, hseq⟩ := imageOctets_fields s
    exact ⟨_, hlen, hst, hcode, hoff, hseq, hvendor ..⟩

/-- Settles O37: the command codes of R595 and R596 and the messages of R599 and R600 are answered as they stand, and no
more than the management port changes. -/
theorem managementBus : Obligations.ManagementBus := by
  unfold Obligations.ManagementBus
  exact ⟨i3cCommands, mctpMessages⟩

/-! ### The image path over MCTP (R600, R601) -/

theorem mctpTransfer_iff (s : State) : mctpTransfer s = true ↔ s.boot.imgState = .fetching ∧ s.boot.byMctp = true := by
  simp [mctpTransfer]

/-- IMAGE_DATA is taken where a transfer moves and the octets continue it (R601). -/
theorem dataTaken_iff (s : State) (off : BitVec 32) (data : Octets) :
    (mctpTransfer s && off.toNat == s.boot.data.length && decide (1 ≤ data.length ∧ data.length ≤ 1024) &&
      decide (s.boot.data.length + data.length ≤ s.boot.dataLen)) = true ↔
    (s.boot.imgState = .fetching ∧ s.boot.byMctp = true) ∧ off.toNat = s.boot.data.length ∧ 1 ≤ data.length ∧
      data.length ≤ 1024 ∧ s.boot.data.length + data.length ≤ s.boot.dataLen := by
  simp only [Bool.and_eq_true, mctpTransfer_iff, beq_iff_eq, decide_eq_true_eq]
  tauto

theorem imagesOverMctp : Claims.ImagesOverMctp := by
  intro s len off data b n busy acts size moving fits sends
  refine ⟨fun hm => congrArg answer (if_pos ((mctpTransfer_iff s).2 hm)),
    fun hm => congrArg answer (if_neg (mt (mctpTransfer_iff s).1 hm)), fun hg hr hsome => ?_⟩
  have ha := addressed_of (portServes_of hg hr) hsome
  have hno : (!addressed s) ≠ true := by simp [ha]
  have hbegin : exec (.imageBegin len) s = answer (if imageBusy s then mctpAnswer s 0x10 busyRetry []
      else if !imageAllowed s then mctpAnswer { s with boot := { s.boot with imgStatus := modeRefused } } 0x10 modeRefused []
      else if !lengthOk s len.toNat then mctpAnswer (refuseImage s badLength 0) 0x10 badLength []
      else mctpAnswer (beginImage s len.toNat true) 0x10 stOk []) := congrArg answer (if_neg hno)
  have hfree (h : ¬ busy) : ¬ imageBusy s = true := mt (imageBusy_iff s).1 h
  have hallowed (h : acts) : ¬ (!imageAllowed s) = true := by simp [(imageAllowed_iff s).2 h]
  have hend : exec .imageEnd s = answer (if mctpTransfer s && s.boot.data.length == s.boot.dataLen then
      mctpAnswer (imageIn s s.boot.data) 0x12 stOk [] else mctpAnswer s 0x12 badLength []) := congrArg answer (if_neg hno)
  have habort : exec .imageAbort s = answer (mctpAnswer (abortImage s) 0x14 stOk []) := congrArg answer (if_pos ha)
  refine ⟨fun hb => ?_, fun hb hr => ?_, fun hb hr hs => ?_, fun hb hr hs => ?_, fun hm hf => ?_, fun hm => ?_,
    fun hm hl => ?_, fun hm hl => ?_, fun h => ?_, fun h => ?_⟩
  · exact hbegin.trans (congrArg answer (if_pos ((imageBusy_iff s).2 hb)))
  · have hnot : (!imageAllowed s) = true := by simp [mt (imageAllowed_iff s).1 hr]
    exact hbegin.trans (congrArg answer ((if_neg (hfree hb)).trans (if_pos hnot)))
  · have hnot : (!lengthOk s len.toNat) = true := by
      rw [Bool.not_eq_true', ← Bool.not_eq_true]
      exact mt (lengthOk_iff s _).1 hs
    exact hbegin.trans (congrArg answer ((if_neg (hfree hb)).trans ((if_neg (hallowed hr)).trans (if_pos hnot))))
  · have hok : ¬ (!lengthOk s len.toNat) = true := by
      rw [(lengthOk_iff s _).2 hs]
      decide
    exact hbegin.trans (congrArg answer ((if_neg (hfree hb)).trans ((if_neg (hallowed hr)).trans (if_neg hok))))
  · exact congrArg answer ((if_neg hno).trans (if_pos ((dataTaken_iff s off data).2 ⟨hm, hf⟩)))
  · exact congrArg answer ((if_neg hno).trans (if_neg (mt (dataTaken_iff s off data).1 hm)))
  · have hall : (mctpTransfer s && s.boot.data.length == s.boot.dataLen) = true := by
      rw [(mctpTransfer_iff s).2 hm, Bool.true_and, beq_iff_eq]
      exact hl
    refine hend.trans ((congrArg answer (if_pos hall)).trans ?_)
    simp only [imageIn, beq_iff_eq]
    rfl
  · have hall : ¬ (mctpTransfer s && s.boot.data.length == s.boot.dataLen) = true := by
      rw [Bool.and_eq_true, beq_iff_eq]
      exact fun h => hl h.2
    exact hend.trans (congrArg answer (if_neg hall))
  · have hidle : abortImage s = { s with boot := { s.boot with imgState := .idle, data := [], expect := none } } := by
      rcases h with h | h <;> simp only [abortImage, show s.boot.imgState = _ from h]
    rw [hidle] at habort
    exact habort
  · have hkept : abortImage s = s := by simp only [abortImage, show s.boot.imgState = _ from h]
    rw [hkept] at habort
    exact habort

/-! ### The test access port (R545) -/

theorem testAccess : Claims.TestAccess := by
  intro s ir tdi pins
  refine ⟨fun hm => ?_, fun hm hpd => ?_⟩
  · have hoff : (s.boot.mode != .diagnostic || !s.clocks.pd.getLsbD 25) = true := by simp [hm]
    exact congrArg answer (if_pos hoff)
  have hon : ¬ (s.boot.mode != .diagnostic || !s.clocks.pd.getLsbD 25) = true := by simp [hm, hpd]
  refine ⟨congrArg answer (if_neg hon), congrArg answer (if_neg hon), fun hir => ?_⟩
  have hex : exec (.boundaryScan ir tdi pins) s = answer (if s.warden.lc == .manufacture || s.warden.lc == .issued then
      emit (s.setMgmt fun m => { m with boundary := tdi }) (.tdo pins) else s) := by
    refine (congrArg answer (if_neg hon)).trans ?_
    rcases hir with rfl | rfl <;> rfl
  refine ⟨fun hlc => ?_, fun hlc => ?_⟩
  · have hin : (s.warden.lc == .manufacture || s.warden.lc == .issued) = true := by simpa using hlc
    exact hex.trans (congrArg answer (if_pos hin))
  · have hout : ¬ (s.warden.lc == .manufacture || s.warden.lc == .issued) = true := by rcases hlc with h | h <;> simp [h]
    exact hex.trans (congrArg answer (if_neg hout))

/-- Settles O38: START's checks and the rules of R601 decide what the image path over MCTP does, and the mode and the
life cycle what the test access port does. -/
theorem managementTransfers : Obligations.ManagementTransfers := by
  unfold Obligations.ManagementTransfers
  exact ⟨imagesOverMctp, testAccess⟩

end Sys2Proof.Machine
end

section
/-! clocks and power domains -/

namespace Sys2Proof.Machine
open Host

/-! ### A monitor that trips (R519, R522) -/

/-- Monitor n shows that it has tripped. -/
def State.tripped (s : State) (n : Nat) : State := s.setMonitor n { s.monitor n with tripped := true }

/-- The alarm of monitor n. -/
def monAlarm (s : State) (n unit : Nat) (value : BitVec 32) : AlarmInfo :=
  { cause := BitVec.ofNat 16 (0x0100 + n), cls := monClass s n, unit := unit, value := value }

theorem keeps_tripped (s : State) (n : Nat) : Keeps [.alarms] s (s.tripped n) := by
  intro p hp
  cases p
  case alarms => simp at hp
  all_goals rfl

theorem inWindow_of_none {s : State} (h : s.alarms.dryFire = none) (n : Nat) : inWindow s n = false := by
  simp [inWindow, h]

theorem tripMonitor_eq {s : State} {n : Nat} (unit : Nat) (value : BitVec 32) (hr : monRuns s n = true)
    (hd : s.alarms.dryFire = none) : tripMonitor s n unit value = raiseAlarm (s.tripped n) (monAlarm s n unit value) := by
  have hno : (!monRuns s n) ≠ true := by simp [hr]
  have hw : ¬ inWindow (s.tripped n) n = true := by simp [inWindow_of_none (s := s.tripped n) hd]
  exact (if_neg hno).trans (if_neg hw)

theorem raiseAlarm_locks {s : State} {a : AlarmInfo} (h : a.cls = clsL) : raiseAlarm s a = respondL s a := by
  rw [raiseAlarm, h, if_neg (by decide), if_pos rfl]

theorem raiseAlarm_erases {s : State} {a : AlarmInfo} (h : a.cls = clsE) : raiseAlarm s a = respondE s a := by
  rw [raiseAlarm, h, if_pos rfl]

theorem alarmsAfter_lastCause (x : Alarms) {a : AlarmInfo} (h : a.dryfire = false) : (alarmsAfter x a).lastCause = a.cause := by
  rw [alarmsAfter, h, if_neg Bool.false_ne_true]
  dsimp only
  split <;> rfl

theorem respondL_clocks {s : State} (a : AlarmInfo) (h1 : s.boot.mode ≠ .erased) (h2 : s.boot.mode ≠ .battery)
    (h3 : s.boot.mode ≠ .diagnostic) : (respondL s a).clocks = s.clocks := by
  rw [respondL_eq a h1 h2 h3]
  dsimp only
  rw [(keeps_blogWrite _ _).clocks, (keeps_setMode _ _ _).clocks, (keeps_lockRecorded _ _ _).clocks, (keeps_wentDown _ _).clocks,
    (keeps_quieted _).clocks, (keeps_logAlarm _ _).clocks]

/-! ### A switch that is stopped -/

/-- Of the clocks, a domain that is turned off loses its own bit and its gates. -/
theorem domainOff_clocks (s : State) (d : Nat) : (domainOff s d).clocks = { s.clocks with
    pd := s.clocks.pd &&& ~~~(BitVec.ofNat 26 (2 ^ d)), gates := s.clocks.gates &&& ~~~(domainGates d) } := by
  have h : (if s.clocks.pd.getLsbD d then loseUnit s d else s).clocks = s.clocks := by
    split
    next => exact (keeps_loseUnit s d).1.clocks
    next => rfl
  simp only [domainOff, h]

theorem stopSwitch_facts (s : State) : Keeps powerParts s (stopSwitch s) ∧ (stopSwitch s).clocks.mons = s.clocks.mons ∧
    (stopSwitch s).clocks.onFosc = s.clocks.onFosc := by
  unfold stopSwitch
  split
  next d _ _ =>
    have hset := keeps_setClocks s { s.clocks with switching := none }
    have hoff := domainOff_clocks { s with clocks := { s.clocks with switching := none } } d
    refine ⟨(hset.mono (by decide)).trans (keeps_domainOff _ d).1, ?_, ?_⟩ <;> rw [hoff]
  next => exact ⟨Keeps.refl _ s, rfl, rfl⟩

/-! ### Clock monitors (R558, R561, R562) -/

theorem clockRuns_iff (s : State) (i : BitVec 3) : clockRuns s i.toNat = true ↔
    if i = 0 then s.clocks.xaQual = true else i.toNat ≤ 5 ∧ s.clocks.pllLock.getLsbD (i.toNat - 1) = true := by
  have h0 : i.toNat = 0 ↔ i = 0 := by rw [BitVec.toNat_eq]; rfl
  by_cases h : i = 0
  · rw [clockRuns, if_pos (h0.2 h), if_pos h]
  · rw [clockRuns, if_neg (mt h0.1 h), if_neg h, Bool.and_eq_true, decide_eq_true_iff]

/-- What a monitor shows of a window with this count (R558). -/
def seen (count : BitVec 8) : BitVec 8 := if count.toNat > 110 then 110 else count

theorem seen_toNat (count : BitVec 8) : (seen count).toNat = min count.toNat 110 := by
  rw [seen]
  split
  next h => exact (Nat.min_eq_right (Nat.le_of_lt h)).symm
  next h => exact (Nat.min_eq_left (Nat.not_lt.1 h)).symm

/-- A clock monitor after a window: LAST, and MIN and MAX while it is unmasked. -/
def ClkMon.saw (m : ClkMon) (v : BitVec 8) : ClkMon :=
  let m := { m with last := v }
  if m.masked then m
  else { m with min := if v.toNat < m.min.toNat then v else m.min, max := if v.toNat > m.max.toNat then v else m.max }

/-- The clocks after a window of monitor i. -/
def State.windowed (s : State) (i : Nat) (count : BitVec 8) : State :=
  { s with clocks := { s.clocks with
      mons := tset {} s.clocks.mons i ((tget ({} : ClkMon) s.clocks.mons i).saw (seen count)) } }

theorem toNat_smaller (a b : BitVec 8) : (if a.toNat < b.toNat then a else b).toNat = min a.toNat b.toNat := by
  split <;> omega

theorem toNat_larger (a b : BitVec 8) : (if a.toNat > b.toNat then a else b).toNat = max a.toNat b.toNat := by
  split <;> omega

theorem ClkMon.saw_last (m : ClkMon) (v : BitVec 8) : (m.saw v).last = v := by
  rw [ClkMon.saw]
  split <;> rfl

theorem ClkMon.saw_masked (m : ClkMon) (v : BitVec 8) : (m.saw v).masked = m.masked := by
  rw [ClkMon.saw]
  split <;> rfl

theorem windowed_mon (s : State) (i : Nat) (count : BitVec 8) :
    tget ({} : ClkMon) (s.windowed i count).clocks.mons i = (tget ({} : ClkMon) s.clocks.mons i).saw (seen count) :=
  tget_tset_same ..

theorem exec_monitorWindow {s : State} {i : BitVec 3} (count : BitVec 8) (hr : clockRuns s i.toNat = true) :
    exec (.monitorWindow i count) s = answer (
      let m := (tget ({} : ClkMon) s.clocks.mons i.toNat).saw (seen count)
      let u := s.windowed i.toNat count
      if m.masked || (decide (97 ≤ (seen count).toNat) && decide ((seen count).toNat ≤ 103)) then u
      else
        let u := if i.toNat ≤ 1 ∧ !inWindow u 15 then { u with clocks := { u.clocks with onFosc := true } } else u
        let u := if monRuns u 15 && !inWindow u 15 then stopSwitch u else u
        tripMonitor u 15 i.toNat ((seen count).setWidth 32)) :=
  congrArg answer (if_neg (by simp [hr]))

/-- LOCAL as monitor i leaves it: XA and PLL_TIME take it to FOSC (R561). -/
def State.foscBy (s : State) (i : Nat) : State :=
  if i ≤ 1 then { s with clocks := { s.clocks with onFosc := true } } else s

theorem foscBy_facts (s : State) (i : Nat) : Keeps [.clocks] s (s.foscBy i) ∧ (s.foscBy i).clocks.mons = s.clocks.mons ∧
    (s.foscBy i).clocks.onFosc = (if i ≤ 1 then true else s.clocks.onFosc) := by
  unfold State.foscBy
  split
  next => exact ⟨keeps_setClocks s _, rfl, rfl⟩
  next => exact ⟨Keeps.refl _ s, rfl, rfl⟩

theorem clocksAreMonitored : Claims.ClocksAreMonitored := by
  intro s i count edges m v runs shows
  have hlast (t : State) (h : t.clocks.mons = (s.windowed i.toNat count).clocks.mons) : shows (drivePins t) := by
    show (tget ({} : ClkMon) (drivePins t).clocks.mons i.toNat).last.toNat = v
    rw [drivePins_clocks, h, windowed_mon, ClkMon.saw_last, seen_toNat]
  have honly : Only [.clocks] s (drivePins (s.windowed i.toNat count)) := only_drivePins (keeps_setClocks s _)
  refine ⟨fun hr hm => ?_, fun hr hm hlo hhi => ?_, fun hr hm hout harm hd hmode => ?_, fun h => ?_, fun hlo hhi => ?_⟩
  · have hin : ((m.saw (seen count)).masked || (decide (97 ≤ (seen count).toNat) && decide ((seen count).toNat ≤ 103))) = true := by
      rw [ClkMon.saw_masked, hm, Bool.true_or]
    have hex := (exec_monitorWindow count ((clockRuns_iff s i).2 hr)).trans (congrArg answer (if_pos hin))
    refine ⟨_, hex, honly, hlast _ rfl, ?_, ?_⟩ <;>
      rw [drivePins_clocks, windowed_mon, ClkMon.saw, if_pos hm]
  · have hin : ((m.saw (seen count)).masked || (decide (97 ≤ (seen count).toNat) && decide ((seen count).toNat ≤ 103))) = true := by
      rw [seen_toNat, decide_eq_true hlo, decide_eq_true hhi, Bool.and_self, Bool.or_true]
    have hex := (exec_monitorWindow count ((clockRuns_iff s i).2 hr)).trans (congrArg answer (if_pos hin))
    have hno : ¬ m.masked = true := by simp [hm]
    refine ⟨_, hex, honly, hlast _ rfl, ?_, ?_, rfl⟩ <;> rw [drivePins_clocks, windowed_mon, ClkMon.saw, if_neg hno] <;>
      dsimp only
    · rw [toNat_smaller, seen_toNat]
    · rw [toNat_larger, seen_toNat]
  · have hno : ¬ ((m.saw (seen count)).masked || (decide (97 ≤ (seen count).toNat) && decide ((seen count).toNat ≤ 103))) = true := by
      rw [seen_toNat, ClkMon.saw_masked, hm, Bool.false_or, Bool.and_eq_true, decide_eq_true_iff, decide_eq_true_iff]
      show ¬ (97 ≤ v ∧ v ≤ 103)
      omega
    have hex := (exec_monitorWindow count ((clockRuns_iff s i).2 hr)).trans (congrArg answer (if_neg hno))
    have hfosc : (if i.toNat ≤ 1 ∧ (!inWindow (s.windowed i.toNat count) 15) = true then
        { s.windowed i.toNat count with clocks := { (s.windowed i.toNat count).clocks with onFosc := true } }
        else s.windowed i.toNat count) = (s.windowed i.toNat count).foscBy i.toNat := by
      rw [inWindow_of_none (s := s.windowed i.toNat count) hd]
      simp only [State.foscBy, Bool.not_false, and_true]
    obtain ⟨hk, hmons, hf⟩ := foscBy_facts (s.windowed i.toNat count) i.toNat
    dsimp only at hex
    rw [hfosc] at hex
    generalize (s.windowed i.toNat count).foscBy i.toNat = u at hex hk hmons hf
    have hkeep : Keeps [.clocks] s u := (keeps_setClocks s _).trans hk
    have hud : u.alarms.dryFire = none := by rw [hkeep.alarms]; exact hd
    have hruns (t : State) (h : t.alarms = s.alarms) : monRuns t 15 = true := by
      have hm15 : monRuns t 15 = (t.monitor 15).armed := rfl
      rw [hm15, State.monitor, h]
      exact harm
    have hstop : (monRuns u 15 && !inWindow u 15) = true := by
      rw [hruns u hkeep.alarms, inWindow_of_none hud]
      rfl
    rw [if_pos hstop] at hex
    obtain ⟨hsk, hsm, hsf⟩ := stopSwitch_facts u
    generalize stopSwitch u = w at hex hsk hsm hsf
    have hwa : w.alarms = s.alarms := by rw [hsk.alarms, hkeep.alarms]
    have hwmode : w.boot.mode = s.boot.mode := by rw [hsk.boot, hkeep.boot]
    rw [tripMonitor_eq _ _ (hruns w hwa) (by rw [hwa]; exact hd), raiseAlarm_locks rfl] at hex
    have h1 : (w.tripped 15).boot.mode ≠ .erased := by rw [(keeps_tripped w 15).boot, hwmode]; rcases hmode with h | h <;> simp [h]
    have h2 : (w.tripped 15).boot.mode ≠ .battery := by rw [(keeps_tripped w 15).boot, hwmode]; rcases hmode with h | h <;> simp [h]
    have h3 : (w.tripped 15).boot.mode ≠ .diagnostic := by rw [(keeps_tripped w 15).boot, hwmode]; rcases hmode with h | h <;> simp [h]
    have hl := respondL_locks (monAlarm w 15 i.toNat ((seen count).setWidth 32)) h1 h2 h3
    have hc := respondL_clocks (monAlarm w 15 i.toNat ((seen count).setWidth 32)) h1 h2 h3
    rw [(keeps_tripped w 15).clocks] at hc
    refine ⟨_, hex, hlast _ (by rw [hc, hsm, hmons]), ?_, ?_, ?_, ?_⟩
    · rw [drivePins_boot]
      exact hl.mode
    · rw [drivePins_alarms, hl.alarms]
      exact alarmsAfter_lastCause _ rfl
    · rw [drivePins_warden]
      exact hl.lockRec
    · rw [drivePins_clocks, hc, hsf, hf]
      rfl
  · exact congrArg answer (if_pos h)
  · exact congrArg answer (if_neg (by omega))

/-! ### Clock gates (R563, R564) -/

theorem getLsbD_bit {w n : Nat} (hn : n < w) (x : Nat) : (BitVec.ofNat w (2 ^ n)).getLsbD x = decide (x = n) := by
  rw [BitVec.getLsbD_ofNat, Nat.testBit_two_pow]
  by_cases h : n = x
  · simp [← h, hn]
  · simp [h, Ne.symm h]

/-- A mask of bit n set or cleared (R563, R565). -/
theorem getLsbD_switched {w n : Nat} (hn : n < w) (x : BitVec w) (on : Bool) {j : Nat} (hj : j < w) :
    (if on then x ||| BitVec.ofNat w (2 ^ n) else x &&& ~~~(BitVec.ofNat w (2 ^ n))).getLsbD j =
      if j = n then on else x.getLsbD j := by
  have hbit := getLsbD_bit hn j
  cases on
  · simp only [Bool.false_eq_true, if_false, BitVec.getLsbD_and, BitVec.getLsbD_not, hbit]
    by_cases h : j = n <;> simp [h, hj]
  · simp only [if_true, BitVec.getLsbD_or, hbit]
    by_cases h : j = n <;> simp [h]

/-- A bit that stands as asked stays as it is. -/
theorem switched_same {w n : Nat} (hn : n < w) (x : BitVec w) {on : Bool} (h : x.getLsbD n = on) :
    (if on then x ||| BitVec.ofNat w (2 ^ n) else x &&& ~~~(BitVec.ofNat w (2 ^ n))) = x := by
  apply BitVec.eq_of_getLsbD_eq
  intro j hj
  rw [getLsbD_switched hn x on hj]
  split
  next e => rw [e, h]
  next => rfl

/-- What CLK_GATE_CTRL leaves of a gate with this result (R564). -/
theorem exec_clkGateCtrl {s : State} (g : BitVec 5) (on : Bool) (hg : s.pwrGood = true) (hb : 5 ≤ s.boot.step) :
    exec (.clkGateCtrl 0 g on) s = answer (
      let r := gateResult s g.toNat on
      let m := BitVec.ofNat 28 (2 ^ g.toNat)
      let c := { s.clocks with gateCode := BitVec.ofNat 3 r, gateNum := g }
      if r ≠ 0 then { s with clocks := c }
      else
        let t := { s with clocks := { c with gates := if on then c.gates ||| m else c.gates &&& ~~~m } }
        if g.toNat = 0 then maskMon t 4 (!on) else t) := by
  have hup : ¬ ((0 : BitVec 7) ≠ 0 || !supervisorUp s) = true := by
    rw [supervisorUp, hg, decide_eq_true hb]
    decide
  exact congrArg answer (if_neg hup)

/-- A result other than DONE leaves its code alone (R564). -/
theorem clkGateCtrl_refused {s : State} {g : BitVec 5} {on : Bool} (hg : s.pwrGood = true) (hb : 5 ≤ s.boot.step) {r : Nat}
    (hr : gateResult s g.toNat on = r) (h0 : r ≠ 0) : exec (.clkGateCtrl 0 g on) s =
      answer { s with clocks := { s.clocks with gateCode := BitVec.ofNat 3 r, gateNum := g } } := by
  refine (exec_clkGateCtrl g on hg hb).trans (congrArg answer ?_)
  dsimp only
  rw [hr, if_pos h0]

/-- A gate that exists and whose domain is not being switched: what the rest of its checks gives. -/
theorem gateResult_of_free {s : State} {n : Nat} (on : Bool) (hn : n ≤ 27)
    (hf : s.clocks.switching.map (·.1) ≠ some (gateDomain n)) : gateResult s n on =
      if s.clocks.gates.getLsbD n == on then 0
      else if on then
        if ((gateParent n).map (fun p => !s.clocks.gates.getLsbD p)).getD false then 2
        else if !s.clocks.pd.getLsbD (gateDomain n) then 4 else 0
      else if (List.range 28).any (fun x => gateParent x == some n && s.clocks.gates.getLsbD x) then 1
      else if gateRequired s n then 3 else 0 := by
  rw [gateResult]
  exact (if_neg (Nat.not_lt.2 hn)).trans (if_neg hf)

/-- Monitor 4 watches the clock of gate 0: its mask follows that gate, and no other part of the clocks does. -/
theorem maskMon_facts (s : State) (i : Nat) (on : Bool) : Keeps [.clocks] s (maskMon s i on) ∧
    (maskMon s i on).clocks.gateCode = s.clocks.gateCode ∧ (maskMon s i on).clocks.gateNum = s.clocks.gateNum ∧
    (maskMon s i on).clocks.gates = s.clocks.gates := ⟨keeps_setClocks s _, rfl, rfl, rfl⟩

theorem gatesSwitch : Claims.GatesSwitch := by
  intro s m g on c i n free code
  refine ⟨fun hm => congrArg answer (if_pos (Bool.or_eq_true_iff.2 (Or.inl (decide_eq_true hm)))), fun hm hg hb => ?_⟩
  subst hm
  refine ⟨fun hn => ?_, fun hn hf => ?_, fun hn hf hs h0 => ?_, fun hn hf hs hon => ⟨fun p hp hpoff => ?_, fun hp hpd => ?_⟩,
    fun hn hf hs hoff => ⟨fun hx => ?_, fun hlo hhi hx => ?_⟩, fun hn hr => ?_⟩
  · exact clkGateCtrl_refused hg hb (if_pos hn) (by decide)
  · have hr : gateResult s n on = 5 := by
      rw [gateResult]
      exact (if_neg (Nat.not_lt.2 hn)).trans (if_pos (not_not.1 hf))
    exact clkGateCtrl_refused hg hb hr (by decide)
  · have hr : gateResult s g.toNat on = 0 := by
      rw [gateResult_of_free on hn hf]
      exact if_pos (beq_iff_eq.2 hs)
    refine (exec_clkGateCtrl g on hg hb).trans (congrArg answer ?_)
    dsimp only
    rw [hr, if_neg (by decide), if_neg h0, switched_same (Nat.lt_succ_of_le hn) s.clocks.gates hs]
    rfl
  · have hr : gateResult s n on = 2 := by
      rw [gateResult_of_free on hn hf, show s.clocks.gates.getLsbD n = false from hs, hon, if_neg (by decide), if_pos rfl, hp,
        Option.map_some, Option.getD_some, show s.clocks.gates.getLsbD p = false from hpoff]
      exact if_pos rfl
    exact clkGateCtrl_refused hg hb hr (by decide)
  · have hparent : ((gateParent n).map (fun p => !s.clocks.gates.getLsbD p)).getD false = false := by
      cases h : gateParent n with
      | none => rfl
      | some p => simp [hp p h, c]
    have hr : gateResult s n on = 4 := by
      rw [gateResult_of_free on hn hf, show s.clocks.gates.getLsbD n = false from hs, hon, if_neg (by decide), if_pos rfl,
        hparent, if_neg (by decide), show s.clocks.pd.getLsbD (gateDomain n) = false from hpd]
      exact if_pos rfl
    exact clkGateCtrl_refused hg hb hr (by decide)
  · have hchild : (List.range 28).any (fun x => gateParent x == some n && s.clocks.gates.getLsbD x) = true := by
      obtain ⟨x, hx28, hxp, hxon⟩ := hx
      exact List.any_eq_true.2 ⟨x, List.mem_range.2 hx28, by simpa [hxp] using hxon⟩
    have hr : gateResult s n on = 1 := by
      rw [gateResult_of_free on hn hf, show s.clocks.gates.getLsbD n = true from hs, hoff, if_neg (by decide),
        if_neg (by decide), if_pos hchild]
    exact clkGateCtrl_refused hg hb hr (by decide)
  · have hchild : ¬ (List.range 28).any (fun x => gateParent x == some n && s.clocks.gates.getLsbD x) = true := by
      rw [List.any_eq_true]
      rintro ⟨x, hx28, hxon⟩
      rw [Bool.and_eq_true, beq_iff_eq] at hxon
      exact Bool.false_ne_true ((hx x (List.mem_range.1 hx28) hxon.1).symm.trans hxon.2)
    have hneeded : gateRequired s n = true := by
      rw [gateRequired, decide_eq_true hlo, decide_eq_true hhi]
      rfl
    have hr : gateResult s n on = 3 := by
      rw [gateResult_of_free on hn hf, show s.clocks.gates.getLsbD n = true from hs, hoff, if_neg (by decide),
        if_neg (by decide), if_neg hchild, if_pos hneeded]
    exact clkGateCtrl_refused hg hb hr (by decide)
  · have hex := exec_clkGateCtrl g on hg hb
    dsimp only at hex
    rw [show gateResult s g.toNat on = 0 from hr, if_neg (by decide)] at hex
    have hgates (x : Nat) (hx : x < 28) := getLsbD_switched (Nat.lt_succ_of_le hn) s.clocks.gates on hx
    split at hex
    next =>
      obtain ⟨hk, hcode, hnum, hgs⟩ := maskMon_facts { s with clocks := { s.clocks with
        gateCode := BitVec.ofNat 3 0, gateNum := g,
        gates := if on then s.clocks.gates ||| BitVec.ofNat 28 (2 ^ g.toNat) else s.clocks.gates &&& ~~~(BitVec.ofNat 28 (2 ^ g.toNat)) } } 4 (!on)
      refine ⟨_, hex, only_drivePins ((keeps_setClocks s _).trans hk), ?_, ?_, fun x hx => ?_⟩ <;> rw [drivePins_clocks]
      · rw [hcode]
        rfl
      · rw [hnum]
      · rw [hgs]
        exact hgates x hx
    next =>
      exact ⟨_, hex, only_drivePins (keeps_setClocks s _), rfl, rfl, hgates⟩

/-! ### Power domains (R565 to R567) -/

/-- The gates of a domain, as its mask names them. -/
theorem getLsbD_domainGates (d : Nat) {g : Nat} (hg : g < 28) : (domainGates d).getLsbD g = decide (gateDomain g = d) := by
  have hfold (l : List Nat) (m : BitVec 28) (hl : ∀ x ∈ l, x < 28) :
      (l.foldl (fun m x => if gateDomain x = d then m ||| BitVec.ofNat 28 (2 ^ x) else m) m).getLsbD g =
        (m.getLsbD g || decide (g ∈ l ∧ gateDomain g = d)) := by
    induction l generalizing m with
    | nil => simp
    | cons x l ih =>
      have hx := getLsbD_bit (hl x List.mem_cons_self) g
      rw [List.foldl_cons, ih _ fun y hy => hl y (List.mem_cons_of_mem x hy)]
      by_cases hd : gateDomain x = d
      · rw [if_pos hd, BitVec.getLsbD_or, hx]
        by_cases hgx : g = x
        · simp [hgx, hd]
        · simp [hgx]
      · rw [if_neg hd]
        by_cases hgx : g = x
        · simp [hgx, hd]
        · simp [hgx]
  rw [domainGates, hfold _ _ fun x hx => List.mem_range.1 hx]
  simp [hg]

theorem domainIs_on (c : Clocks) {d : Nat} (hd : d ≤ 25) :
    domainIs c { c with pd := c.pd ||| BitVec.ofNat 26 (2 ^ d), gates := c.gates ||| domainGates d } d true := by
  refine ⟨fun j hj => ?_, fun g hg => ?_⟩ <;> dsimp only
  · exact getLsbD_switched (Nat.lt_succ_of_le hd) c.pd true hj
  · rw [BitVec.getLsbD_or, getLsbD_domainGates d hg]
    by_cases h : gateDomain g = d <;> simp [h]

theorem domainIs_off (c : Clocks) {d : Nat} (hd : d ≤ 25) :
    domainIs c { c with pd := c.pd &&& ~~~(BitVec.ofNat 26 (2 ^ d)), gates := c.gates &&& ~~~(domainGates d) } d false := by
  refine ⟨fun j hj => ?_, fun g hg => ?_⟩ <;> dsimp only
  · exact getLsbD_switched (Nat.lt_succ_of_le hd) c.pd false hj
  · rw [BitVec.getLsbD_and, BitVec.getLsbD_not, getLsbD_domainGates d hg]
    by_cases h : gateDomain g = d <;> simp [h, hg]

theorem loseUnit_links (s : State) (d : Nat) : (d = 6 → (loseUnit s d).portA.linkUp = false) ∧
    (d = 7 → (loseUnit s d).portB.linkUp = false) ∧ (d = 8 → (loseUnit s d).pair.linkUp = false) := by
  refine ⟨?_, ?_, ?_⟩ <;> rintro rfl
  · rw [loseUnit, if_pos (Or.inl rfl)]
    rfl
  · rw [loseUnit, if_pos (Or.inr rfl)]
    rfl
  · rfl

theorem loseUnit_of_other (s : State) {d : Nat} (h : d ≠ 6 ∧ d ≠ 7 ∧ d ≠ 8) : loseUnit s d = s := by
  obtain ⟨h6, h7, h8⟩ := h
  rw [loseUnit, if_neg (by omega), if_neg h8]

theorem domainsSwitch : Claims.DomainsSwitch := by
  intro s m pd on sw d c i code
  refine ⟨fun hm => congrArg answer (if_pos (Bool.or_eq_true_iff.2 (Or.inl (decide_eq_true hm)))), fun hm hg hb => ?_, fun hn => ?_, fun hs hd => ?_⟩
  · subst hm
    have hup : ¬ ((0 : BitVec 7) ≠ 0 || !supervisorUp s) = true := by
      rw [supervisorUp, hg, decide_eq_true hb]
      decide
    let done (r : BitVec 3) : State := { s with clocks := { s.clocks with pdCode := r, pdNum := pd } }
    have hex : exec i s = answer (if pd.toNat > 25 then done 3
        else if s.clocks.switching.isSome then done 5
        else if s.clocks.pd.getLsbD pd.toNat == on then done 0
        else if mayBeOn s pd.toNat != on then done 3
        else { s with clocks := { s.clocks with switching := some (pd.toNat, on) } }) := congrArg answer (if_neg hup)
    refine ⟨fun h => ?_, fun h hsw => ?_, fun h hsw hbit => ?_, fun h hsw hbit hon => ?_, fun h hsw hbit hmay => ?_⟩
    · exact hex.trans (congrArg answer (if_pos h))
    all_goals have hlo : ¬ pd.toNat > 25 := by omega
    · exact hex.trans (congrArg answer ((if_neg hlo).trans (if_pos hsw)))
    all_goals have hidle : ¬ s.clocks.switching.isSome = true := by simp [show s.clocks.switching = none from hsw]
    · exact hex.trans (congrArg answer ((if_neg hlo).trans ((if_neg hidle).trans (if_pos (beq_iff_eq.2 hbit)))))
    · have hdiff : ¬ (s.clocks.pd.getLsbD pd.toNat == on) = true := by
        rw [show s.clocks.pd.getLsbD pd.toNat = true from hbit, hon]
        decide
      have hmust : (mayBeOn s pd.toNat != on) = true := by
        rw [mayBeOn, if_pos (Or.inl h), hon]
        rfl
      exact hex.trans (congrArg answer ((if_neg hlo).trans ((if_neg hidle).trans ((if_neg hdiff).trans (if_pos hmust)))))
    · have hdiff : ¬ (s.clocks.pd.getLsbD pd.toNat == on) = true := by rwa [beq_iff_eq]
      have hfree : ¬ (mayBeOn s pd.toNat != on) = true := by simp [hmay]
      exact hex.trans (congrArg answer ((if_neg hlo).trans ((if_neg hidle).trans ((if_neg hdiff).trans (if_neg hfree)))))
  · refine congrArg answer ?_
    rw [show s.clocks.switching = none from hn]
  · let u : State := { s with clocks := { s.clocks with switching := none, pdCode := 0, pdNum := BitVec.ofNat 5 d } }
    have hu : Keeps [.clocks] s u := keeps_setClocks s _
    have hex : exec .pdSwitchEnd s = answer (if sw then domainOn u d else domainOff u d) := by
      refine congrArg answer ?_
      rw [show s.clocks.switching = some (d, sw) from hs]
    have hnum : (BitVec.ofNat 5 d).toNat = d := by
      rw [BitVec.toNat_ofNat]
      omega
    cases sw with
    | true =>
      rw [if_pos rfl] at hex
      have hon : Keeps [.clocks] u (domainOn u d) := keeps_setClocks u _
      have hk := hu.trans hon
      refine ⟨_, hex, rfl, rfl, hnum, domainIs_on c hd, rfl, rfl, rfl, rfl, fun _ => only_drivePins hk, fun h => ?_⟩
      exact absurd h (by decide)
    | false =>
      rw [if_neg (by decide)] at hex
      have hoff := domainOff_clocks u d
      have hk := (hu.mono (by decide)).trans (keeps_domainOff u d).1
      refine ⟨_, hex, ?_, ?_, ?_, ?_, ?_, ?_, ?_, ?_, fun h => ?_, fun _ hpd => ?_⟩
      · rw [drivePins_clocks, hoff]
      · rw [drivePins_clocks, hoff]
      · rw [drivePins_clocks, hoff]
        exact hnum
      · rw [drivePins_clocks, hoff]
        exact domainIs_off c hd
      · rw [drivePins_warden, hk.warden]
      · rw [drivePins_boot, hk.boot]
      · rw [drivePins_keys, hk.keys]
      · rw [drivePins_wmem, hk.wmem]
      · refine only_drivePins (hu.trans ?_)
        rw [domainOff, loseUnit_of_other u (h.resolve_left (by decide)), ite_self]
        exact keeps_setClocks u _
      · have hlinks := loseUnit_links u d
        rw [drivePins_portA, drivePins_portB, drivePins_pair, domainOff, if_pos (show u.clocks.pd.getLsbD d = true from hpd)]
        exact hlinks

/-- Settles O39: the monitors' windows, the first refusal of a gate that holds, and the switching of a domain with what
falls with it. -/
theorem clocksAndDomains : Obligations.ClocksAndDomains := by
  unfold Obligations.ClocksAndDomains
  exact ⟨clocksAreMonitored, gatesSwitch, domainsSwitch⟩

end Sys2Proof.Machine
end

section
/-! tamper monitors, the battery, the warden's timers and dry-fires -/

namespace Sys2Proof.Machine
open Host

/-! ### What the alarm of a monitor leaves (R519, R522, R524) -/

theorem Lockable.modes {s : State} (h : Lockable s) :
    s.boot.mode ≠ .erased ∧ s.boot.mode ≠ .battery ∧ s.boot.mode ≠ .diagnostic := by
  rcases h with h | h | h | h | h | h <;> rw [h] <;> exact ⟨nofun, nofun, nofun⟩

theorem erases_of_response {i : Instr} {s u : State} {a : AlarmInfo} (hex : exec i s = answer (respondE u a))
    (hk : Keeps [.alarms] s u) (hdry : a.dryfire = false) (hcls : a.cls = clsE) (he : Erasable s) :
    Erases i s a.cause a.unit a.value := by
  have h := respondE_erases (s := u) a (by rw [hk.boot]; exact he.1) (by rw [hk.boot]; exact he.2)
  generalize respondE u a = v at hex h
  have halarms := h.alarms
  rw [alarmsAfter_eq _ hdry, hcls] at halarms
  obtain ⟨hpriv, hck, hik, hcache, hfile, hcer, hcount, hlane, hhash, hinst⟩ := h.working
  refine ⟨_, hex, h.mode, h.lc, h.unsealed, h.km, h.mr, h.roots, h.identity, hpriv, hck, hik, hcache, hfile, hcount, hcer, hlane,
    hhash, hinst, h.crownOut, ?_, ?_, ?_, ?_, ?_, h.commands.stage, fun e c hc hst => ?_, fun hroom => ?_⟩
  · rw [drivePins_alarms, halarms]
  · rw [drivePins_alarms, halarms]
  · rw [drivePins_alarms, halarms]
  · rw [drivePins_alarms, halarms]
  · rw [drivePins_alarms, halarms]
    exact Bool.or_true _
  · exact h.commands.cut e c ((State.cmd_congr hk.so e).trans hc) hst
  · obtain ⟨b, hb, hbc, hbcls, hbu, hbv⟩ := h.blog (by rw [hk.warden]; exact hroom)
    refine ⟨b, hb, hbc, hbcls, ?_, hbv⟩
    rw [hbu]
    exact BitVec.toNat_ofNat ..

theorem locks_of_response {i : Instr} {s u : State} {a : AlarmInfo} (hex : exec i s = answer (respondL u a))
    (hk : Keeps [.alarms] s u) (hdry : a.dryfire = false) (hcls : a.cls = clsL) (hl : Lockable s) :
    Locks i s a.cause a.unit a.value := by
  obtain ⟨h1, h2, h3⟩ := hl.modes
  have h := respondL_locks (s := u) a (by rw [hk.boot]; exact h1) (by rw [hk.boot]; exact h2) (by rw [hk.boot]; exact h3)
  generalize respondL u a = v at hex h
  have halarms := h.alarms
  rw [alarmsAfter_eq _ hdry, hcls] at halarms
  have hw := hk.warden
  obtain ⟨hpriv, hck, hik, hcache, hfile, hcer, hcount, hlane, hhash, hinst⟩ := h.working
  refine ⟨_, hex, h.mode, h.unsealed, hpriv, hck, hik, hcache, hfile, hcer, hcount.trans (congrArg KeyUnit.counters hk.keys),
    hlane, hhash, hinst, h.crownOut, ?_, ?_, ?_, ?_, ?_, h.lockRec, h.lockCause, hw ▸ h.lockSeq, hw ▸ h.lc,
    hw ▸ h.km, hw ▸ h.mr, hw ▸ h.roots, hw ▸ h.identity, h.commands.stage, fun e c hc hst => ?_, fun hroom => ?_⟩
  · rw [drivePins_alarms, halarms]
  · rw [drivePins_alarms, halarms]
  · rw [drivePins_alarms, halarms]
  · rw [drivePins_alarms, halarms]
  · rw [drivePins_alarms, halarms]
    exact Bool.or_true _
  · exact h.commands.cut e c ((State.cmd_congr hk.so e).trans hc) hst
  · obtain ⟨b, hb, hbc, hbcls, hbu, hbv⟩ := h.blog (by rw [hk.warden]; exact hroom)
    refine ⟨b, hb, hbc, hbcls, ?_, hbv⟩
    rw [hbu]
    exact BitVec.toNat_ofNat ..

theorem erases_of_trip {i : Instr} {s u : State} {n unit : Nat} {value : BitVec 32} {cause : Code}
    (hex : exec i s = answer (tripMonitor u n unit value)) (hk : Keeps [.alarms] s u) (hd : u.alarms.dryFire = none)
    (hr : monRuns u n = true) (hcls : monClass u n = clsE) (hcause : BitVec.ofNat 16 (0x0100 + n) = cause)
    (he : Erasable s) : Erases i s cause unit value := by
  rw [tripMonitor_eq unit value hr hd, raiseAlarm_erases hcls] at hex
  subst hcause
  exact erases_of_response hex (hk.trans (keeps_tripped u n)) rfl hcls he

theorem locks_of_trip {i : Instr} {s u : State} {n unit : Nat} {value : BitVec 32} {cause : Code}
    (hex : exec i s = answer (tripMonitor u n unit value)) (hk : Keeps [.alarms] s u) (hd : u.alarms.dryFire = none)
    (hr : monRuns u n = true) (hcls : monClass u n = clsL) (hcause : BitVec.ofNat 16 (0x0100 + n) = cause)
    (hl : Lockable s) : Locks i s cause unit value := by
  rw [tripMonitor_eq unit value hr hd, raiseAlarm_locks hcls] at hex
  subst hcause
  exact locks_of_response hex (hk.trans (keeps_tripped u n)) rfl hcls hl

/-- A module that is ready to raise the alarm of a monitor: no part but the readings of the alarm unit and the battery
log has moved. -/
structure Reads (s u : State) : Prop where
  keeps : Keeps [.warden, .alarms] s u
  lockRec : u.warden.lockRec = s.warden.lockRec
  roots : u.warden.roots = s.warden.roots
  monitors : u.alarms.monitors = s.alarms.monitors
  evN : u.alarms.evN = s.alarms.evN
  evF : u.alarms.evF = s.alarms.evF
  evL : u.alarms.evL = s.alarms.evL
  evE : u.alarms.evE = s.alarms.evE

/-- The alarm of a monitor of class N or F (R524, R548). -/
theorem trip_alarms {u : State} {n unit : Nat} {value : BitVec 32} {cls : Nat} (hr : monRuns u n = true)
    (hd : u.alarms.dryFire = none) (hcls : monClass u n = cls) (hc : cls = 1 ∨ cls = 2) :
    tripMonitor u n unit value = logAlarm (u.tripped n) (monAlarm u n unit value) := by
  rw [tripMonitor_eq unit value hr hd, raiseAlarm]
  have ha : (monAlarm u n unit value).cls = cls := hcls
  rw [ha, if_neg (by rcases hc with rfl | rfl <;> decide), if_neg (by rcases hc with rfl | rfl <;> decide)]

theorem warns_of_trip {i : Instr} {s u : State} {n unit : Nat} {value : BitVec 32} {cls : Nat}
    (hex : exec i s = answer (tripMonitor u n unit value)) (hu : Reads s u) (hd : u.alarms.dryFire = none)
    (hr : monRuns u n = true) (hcls : monClass u n = cls) (hc : cls = 1 ∨ cls = 2) (hn : n < 256) : Warns i s n cls := by
  rw [trip_alarms hr hd hcls hc] at hex
  have hk := (hu.keeps.comp (keeps_tripped u n) (rs := [.warden, .alarms])).comp
    (keeps_logAlarm (u.tripped n) (monAlarm u n unit value))
    (rs := [.free, .outbox, .warden, .alarms, .msix, .tb, .journal, .pair])
  have hw : (logAlarm (u.tripped n) (monAlarm u n unit value)).warden = u.warden :=
    (keeps_logAlarm (u.tripped n) _).warden
  have hal : (logAlarm (u.tripped n) (monAlarm u n unit value)).alarms = _ := logAlarm_alarms _ _
  have hcause : (BitVec.ofNat 16 (0x0100 + n)).toNat = 0x0100 + n := by
    rw [BitVec.toNat_ofNat]
    omega
  have hmon : tget ({} : Monitor) (logAlarm (u.tripped n) (monAlarm u n unit value)).alarms.monitors n =
      { s.monitor n with tripped := true, trips := satInc (s.monitor n).trips } := by
    rw [hal, alarmsAfter_monitor _ rfl, monAlarm, hcause, if_pos ⟨by omega, by omega⟩]
    simp only [State.tripped, State.setMonitor, State.monitor, tget_tset_same, hu.monitors]
  rw [alarmsAfter_eq _ rfl] at hal
  generalize logAlarm (u.tripped n) (monAlarm u n unit value) = v at hex hk hw hal hmon
  refine ⟨_, hex, (only_drivePins hk).1, ?_, ?_, ?_, ?_, ?_, ?_, ?_, ?_, ?_⟩
  · rw [drivePins_alarms, hal]
    rfl
  · show (tget ({} : Monitor) v.alarms.monitors n).tripped = true
    rw [hmon]
  · show (tget ({} : Monitor) v.alarms.monitors n).trips = _
    rw [hmon]
  · rw [drivePins_alarms, hal]
    show (u.alarms.evN || (monClass u n != 4 && monClass u n != 3 && monClass u n != 2)) = _
    rw [hcls, hu.evN]
    rcases hc with rfl | rfl <;> rfl
  · rw [drivePins_alarms, hal]
    show (u.alarms.evF || monClass u n == 2) = _
    rw [hcls, hu.evF]
  · rw [drivePins_alarms, hal]
    show (u.alarms.evL || monClass u n == 3) = _
    rw [hcls, hu.evL]
    rcases hc with rfl | rfl <;> exact Bool.or_false _
  · rw [drivePins_alarms, hal]
    show (u.alarms.evE || monClass u n == 4) = _
    rw [hcls, hu.evE]
    rcases hc with rfl | rfl <;> exact Bool.or_false _
  · rw [drivePins_warden, hw, hu.lockRec]
  · rw [drivePins_warden, hw, hu.roots]

/-! ### The tamper monitors -/

theorem keeps_setAlarms (s : State) (a : Alarms) : Keeps [.alarms] s { s with alarms := a } := by
  intro p hp
  cases p
  case alarms => simp at hp
  all_goals rfl

theorem reads_setAlarms (s : State) {a : Alarms} (hm : a.monitors = s.alarms.monitors) (hN : a.evN = s.alarms.evN)
    (hF : a.evF = s.alarms.evF) (hL : a.evL = s.alarms.evL) (hE : a.evE = s.alarms.evE) : Reads s { s with alarms := a } :=
  ⟨(keeps_setAlarms s a).mono (by decide), rfl, rfl, hm, hN, hF, hL, hE⟩

theorem monRuns_ext (s : State) (n : BitVec 2) : monRuns s (8 + n.toNat) =
    if extClass s.warden.extCfg n.toNat = 0 then false else if extClass s.warden.extCfg n.toNat = 3 then true
    else s.boot.mode.powered := by
  have hn := n.isLt
  rw [monRuns, if_neg (by omega), if_neg (by omega), if_pos (by omega), Nat.add_sub_cancel_left]
  rcases extClass s.warden.extCfg n.toNat with _ | _ | _ | _ | c <;> rfl

theorem monClass_ext (s : State) (n : BitVec 2) : monClass s (8 + n.toNat) =
    if extClass s.warden.extCfg n.toNat = 3 then clsE else if extClass s.warden.extCfg n.toNat = 2 then clsL else clsN := by
  have hn := n.isLt
  rw [monClass, if_neg (by omega), if_pos (by omega), Nat.add_sub_cancel_left]
  rcases extClass s.warden.extCfg n.toNat with _ | _ | _ | _ | c <;> rfl

theorem powered_of_ne {m : Mode} (h : m ≠ .battery) : m.powered = true := by simpa [Mode.powered] using h

theorem tamperResponds : Claims.TamperResponds := by
  intro s n u dc mv r cls wide hd
  have hself := Keeps.refl [.alarms] s
  have hset (a : Alarms) := keeps_setAlarms s a
  have hext : BitVec.ofNat 16 (0x0100 + (8 + n.toNat)) = BitVec.ofNat 16 (0x0108 + n.toNat) := by
    rw [← Nat.add_assoc]
  refine ⟨fun he => ⟨?_, ?_, ?_, ?_, ?_, fun harm => ?_, ?_, ?_, fun hc => ?_⟩, fun hl => ⟨fun hc => ?_, fun harm hrail => ?_, fun harm => ?_⟩,
    fun hb hc => ?_, fun hc => ?_, fun harm => ?_⟩
  · exact erases_of_trip rfl hself hd rfl rfl rfl he
  · exact erases_of_trip rfl hself hd rfl rfl rfl he
  · exact erases_of_trip rfl (hset _) hd rfl rfl rfl he
  · exact erases_of_trip rfl hself hd rfl rfl rfl he
  · exact erases_of_trip rfl hself hd rfl rfl rfl he
  · exact erases_of_trip rfl (hset _) hd harm rfl rfl he
  · exact erases_of_trip rfl (hset _) hd rfl rfl rfl he
  · exact erases_of_trip rfl hself hd rfl rfl rfl he
  · refine erases_of_trip rfl hself hd ?_ ?_ hext he
    · rw [monRuns_ext, show extClass s.warden.extCfg n.toNat = 3 from hc]
      rfl
    · rw [monClass_ext, show extClass s.warden.extCfg n.toNat = 3 from hc]
      rfl
  · have hp : s.boot.mode.powered = true := by
      rcases hl with h | h | h | h | h | h <;> rw [h] <;> rfl
    refine locks_of_trip rfl hself hd ?_ ?_ hext hl
    · rw [monRuns_ext, show extClass s.warden.extCfg n.toNat = 2 from hc]
      exact hp
    · rw [monClass_ext, show extClass s.warden.extCfg n.toNat = 2 from hc]
      rfl
  · exact locks_of_trip (congrArg answer (if_neg (Nat.not_lt.2 hrail))) hself hd harm rfl rfl hl
  · exact locks_of_trip rfl (hset _) hd harm rfl rfl hl
  · have hn := n.isLt
    refine warns_of_trip rfl ⟨Keeps.refl _ s, rfl, rfl, rfl, rfl, rfl, rfl, rfl⟩ hd ?_ ?_ (Or.inl rfl) (by omega)
    · rw [monRuns_ext, show extClass s.warden.extCfg n.toNat = 1 from hc]
      exact powered_of_ne hb
    · rw [monClass_ext, show extClass s.warden.extCfg n.toNat = 1 from hc]
      rfl
  · refine congrArg answer (if_pos ?_)
    rw [monRuns_ext, show extClass s.warden.extCfg n.toNat = 0 from hc]
    rfl
  · exact warns_of_trip rfl (reads_setAlarms s rfl rfl rfl rfl rfl) hd harm rfl (Or.inl rfl) (by decide)

/-! ### The battery (R519, R527, R528, R548) -/

theorem reads_blogWrite (s : State) (b : BlogEntry) : Reads s (blogWrite s b) := by
  have hk := keeps_blogWrite s b
  have hw := blogWrite_warden s b
  have ha := hk.alarms
  exact ⟨hk.mono (by decide), by rw [hw], by rw [hw], by rw [ha], by rw [ha], by rw [ha], by rw [ha], by rw [ha]⟩

theorem Reads.trans {s t u : State} (h : Reads s t) (g : Reads t u) : Reads s u :=
  ⟨h.keeps.trans g.keeps, g.lockRec.trans h.lockRec, g.roots.trans h.roots, g.monitors.trans h.monitors, g.evN.trans h.evN,
    g.evF.trans h.evF, g.evL.trans h.evL, g.evE.trans h.evE⟩

theorem blogWrite_flags {s : State} (b : BlogEntry) (h : s.warden.blog.length < 64) :
    ∃ x ∈ (blogWrite s b).warden.blog, x.cause = b.cause ∧ x.cls = b.cls ∧ x.flags = b.flags := by
  simp only [blogWrite, h, if_true]
  exact ⟨_, List.mem_append_right _ (List.mem_singleton.2 rfl), rfl, rfl, rfl⟩

/-- The readings of a low battery. -/
def lowRead (s : State) (mv : BitVec 16) : State := { s with alarms := { s.alarms with vbatMv := mv, vbatLow := true } }

/-- The module as VBAT_LOW finds it when its alarm is raised: the reading noted, the first notice of a boot in the
battery log. -/
def lowNoted (s : State) (mv : BitVec 16) : State :=
  let s := lowRead s mv
  if monClass s 13 = clsN && !s.alarms.vbatLogged && !inWindow s 13 then
    blogWrite { s with alarms := { s.alarms with vbatLogged := true } } { cause := 0x010D, cls := 1, value := mv.setWidth 32 }
  else s

theorem lowNoted_facts (s : State) (mv : BitVec 16) : Reads s (lowNoted s mv) ∧ (lowNoted s mv).alarms.vbatLow = true ∧
    (lowNoted s mv).alarms.vbatMv = mv ∧ (lowNoted s mv).alarms.dryFire = s.alarms.dryFire := by
  have hread : Reads s (lowRead s mv) := reads_setAlarms s rfl rfl rfl rfl rfl
  unfold lowNoted
  dsimp only
  split
  next =>
    let u : State := { lowRead s mv with alarms := { (lowRead s mv).alarms with vbatLogged := true } }
    have hu : Reads (lowRead s mv) u := reads_setAlarms (lowRead s mv) rfl rfl rfl rfl rfl
    have ha := (keeps_blogWrite u { cause := 0x010D, cls := 1, value := mv.setWidth 32 }).alarms
    refine ⟨(hread.trans hu).trans (reads_blogWrite u _), ?_, ?_, ?_⟩ <;> rw [ha] <;> rfl
  next => exact ⟨hread, rfl, rfl, rfl⟩

theorem batteryResponds : Claims.BatteryResponds := by
  intro s mv hd
  refine ⟨fun hb hlow => ?_, fun h => congrArg answer (if_pos h), fun harm => ?_, fun h => ⟨?_, ?_⟩, fun h => ?_⟩
  · have hex : exec (.vbatCrit mv) s =
        answer (tripMonitor { s with alarms := { s.alarms with vbatMv := mv } } 12 0 (mv.setWidth 32)) :=
      congrArg answer (if_neg (Nat.not_le.2 hlow))
    have hr : monRuns { s with alarms := { s.alarms with vbatMv := mv } } 12 = true := by
      simp [monRuns, hb, Mode.powered]
    rw [tripMonitor_eq _ _ hr hd, raiseAlarm_erases rfl] at hex
    have hset := keeps_setAlarms s { s.alarms with vbatMv := mv }
    generalize hu : ({ s with alarms := { s.alarms with vbatMv := mv } } : State) = u at hex hset
    have ht := hset.trans (keeps_tripped u 12)
    have hmv : (u.tripped 12).alarms.vbatMv = mv := by rw [← hu]; rfl
    have heq : respondE (u.tripped 12) (monAlarm u 12 0 (mv.setWidth 32)) = blogWrite (eraseRoots (u.tripped 12))
        { cause := 0x010C, cls := 4, unit := 0, value := mv.setWidth 32, flags := 3 } := by
      have hbat : (u.tripped 12).boot.mode = .battery := by rw [ht.boot]; exact hb
      unfold respondE
      rw [hbat]
      rfl
    rw [heq] at hex
    generalize u.tripped 12 = v at hex ht hmv
    have hk := keeps_blogWrite (eraseRoots v) { cause := 0x010C, cls := 4, unit := 0, value := mv.setWidth 32, flags := 3 }
    have hw := blogWrite_warden (eraseRoots v) { cause := 0x010C, cls := 4, unit := 0, value := mv.setWidth 32, flags := 3 }
    have hlc : v.warden.lc = s.warden.lc := by rw [ht.warden]
    have hblog : v.warden.blog = s.warden.blog := by rw [ht.warden]
    have hkeep : Keeps [.warden, .alarms] s (blogWrite (eraseRoots v)
        { cause := 0x010C, cls := 4, unit := 0, value := mv.setWidth 32, flags := 3 }) :=
      ht.comp ((keeps_eraseRoots v).trans hk)
    refine ⟨_, hex, (only_drivePins hkeep).1, ?_, ?_, ?_, ?_, ?_, ?_, fun hlen => ?_⟩
    · rw [drivePins_alarms, hk.alarms]
      exact hmv
    · rw [drivePins_warden, hw]
      rfl
    · rw [drivePins_warden, hw]
      rfl
    · rw [drivePins_warden, hw]
      rfl
    · rw [drivePins_warden, hw]
      rfl
    · rw [drivePins_warden, hw]
      exact hlc
    · refine blogWrite_flags (s := eraseRoots v) _ ?_
      show v.warden.blog.length < 64
      rw [hblog]
      exact hlen
  · have hex (hlt : mv.toNat < 2500) : exec (.vbatLow mv) s = answer (tripMonitor (lowNoted s mv) 13 0 (mv.setWidth 32)) := by
      refine congrArg answer (if_neg ?_)
      rw [Bool.or_eq_true, decide_eq_true_iff, Bool.not_eq_true', not_or]
      exact ⟨Nat.not_le.2 hlt, by rw [Bool.not_eq_false]; exact harm⟩
    obtain ⟨hread, hlow, hmv, hdry⟩ := lowNoted_facts s mv
    have hdry' : (lowNoted s mv).alarms.dryFire = none := hdry.trans hd
    have hr : monRuns (lowNoted s mv) 13 = true := by
      show (tget ({} : Monitor) (lowNoted s mv).alarms.monitors 13).armed = true
      rw [hread.monitors]
      exact harm
    have hcls : monClass (lowNoted s mv) 13 = if mv.toNat < 2300 then clsF else clsN := by
      have hshow : monClass (lowNoted s mv) 13 = if (lowNoted s mv).alarms.vbatMv.toNat < 2300 then clsF else clsN := rfl
      rw [hshow, hmv]
    refine ⟨fun hlo hhi => ?_, fun hlt => ?_, fun hlt => ?_⟩
    · exact warns_of_trip (hex hhi) hread hdry' hr (hcls.trans (if_neg (Nat.not_lt.2 hlo))) (Or.inl rfl) (by decide)
    · exact warns_of_trip (hex (by omega)) hread hdry' hr (hcls.trans (if_pos hlt)) (Or.inr rfl) (by decide)
    · have hcls' : monClass (lowNoted s mv) 13 = 1 ∨ monClass (lowNoted s mv) 13 = 2 := by
        rw [hcls]
        split
        next => exact Or.inr rfl
        next => exact Or.inl rfl
      have hgo := hex hlt
      rw [trip_alarms hr hdry' rfl hcls'] at hgo
      have hal := logAlarm_alarms ((lowNoted s mv).tripped 13) (monAlarm (lowNoted s mv) 13 0 (mv.setWidth 32))
      rw [alarmsAfter_eq _ rfl] at hal
      refine ⟨_, hgo, ?_, ?_⟩ <;> rw [drivePins_alarms, hal]
      · exact hlow
      · exact hmv
  · exact congrArg answer (if_pos (by rw [decide_eq_true h, Bool.true_or]))
  · have hex : exec (.vbatLowClear mv) s = answer
        ({ s with alarms := { s.alarms with vbatMv := mv, vbatLow := false } }.setMonitor 13
          { s.monitor 13 with tripped := false }) := congrArg answer (if_neg (Nat.not_lt.2 h))
    refine ⟨_, hex, only_drivePins (keeps_setAlarms s _), rfl, rfl, ?_, rfl⟩
    rw [monitor_drivePins]
    simp only [State.monitor, State.setMonitor, tget_tset_same]
  · exact congrArg answer (if_pos h)

/-! ### The warden's timers (R315, R520, R538, R540) -/

theorem wardenTimers : Claims.WardenTimers := by
  intro s id b op cid
  have hfree (n : Nat) : Keeps [.free] s (drawOctets s n).2 := by
    intro p hp
    cases p
    case free => simp at hp
    all_goals rfl
  have hw (w : Warden) (t : State) : Keeps [.warden] t { t with warden := w } := by
    intro p hp
    cases p
    case warden => simp at hp
    all_goals rfl
  refine ⟨⟨_, rfl, ?_, rfl, rfl⟩, fun hkm => ?_, fun hkm => ?_, ⟨_, rfl, ?_, fun x => ?_⟩, ⟨_, rfl, ?_, fun x => ?_⟩⟩
  · exact only_drivePins ((hfree 16).comp (keeps_setAlarms (drawOctets s 16).2 _))
  · have hex : exec .maskRotation s = answer { (drawOctets s 16).2 with warden := { s.warden with
        km := some (drawOctets s 16).1, maskEpoch := s.warden.maskEpoch + 1 } } :=
      congrArg answer (if_neg (by simp [Option.isSome_iff_ne_none.1 hkm]))
    exact ⟨_, hex, only_drivePins ((hfree 16).comp (hw _ _)), _, rfl, rfl⟩
  · exact congrArg answer (if_pos (by rw [hkm]; rfl))
  · exact only_drivePins (keeps_setAlarms s _)
  · rw [drivePins_alarms]
    simp
  · exact only_drivePins (keeps_setAlarms s _)
  · rw [drivePins_alarms]
    simp only [List.mem_filter, Bool.not_eq_true', ← Bool.not_eq_true, Bool.and_eq_true, beq_iff_eq, and_assoc]

/-! ### The end of a dry-fire (R535, R536) -/

/-- What became due behind the completion of a dry-fire: the alarm of a failure. -/
def Cmd.dryDue (c : Cmd) (n result : Nat) : Cmd := if result ≠ 0 then { c with after := .dryFail n } else c

/-- The module when the window of monitor n has closed, with the condition as it is. -/
def windowClosed (s : State) (n unit : Nat) (value : BitVec 32) (raw : Bool) : State :=
  let s := logAlarm s { monAlarm s n unit value with dryfire := true }
  let s := { s with alarms := { s.alarms with dryFire := none } }
  s.setMonitor n { s.monitor n with tripped := raw }

theorem windowClosed_facts (s : State) (n unit : Nat) (value : BitVec 32) (raw : Bool) :
    Keeps [.free, .outbox, .alarms, .msix, .tb, .journal, .pair] s (windowClosed s n unit value raw) ∧
    (windowClosed s n unit value raw).alarms = { s.alarms with
      dryFire := none
      monitors := tset {} s.alarms.monitors n { s.monitor n with tripped := raw } } := by
  have hlog := keeps_logAlarm s { monAlarm s n unit value with dryfire := true }
  have hal : (logAlarm s { monAlarm s n unit value with dryfire := true }).alarms = s.alarms := logAlarm_alarms s _
  unfold windowClosed
  generalize logAlarm s { monAlarm s n unit value with dryfire := true } = u at hlog hal
  refine ⟨hlog.trans ((keeps_setAlarms u _).mono (by decide)), ?_⟩
  simp only [State.setMonitor, State.monitor, hal]

/-- The completion of a dry-fire: monitor, result and both times (R536). -/
def dryOut (n result : Nat) (dn wn : BitVec 32) : Octets :=
  le 1 n ++ le 1 result ++ zeros 2 ++ le 4 dn.toNat ++ le 4 wn.toNat ++ zeros 4

/-- The command of a dry-fire takes note of what is due behind its completion. -/
def dryNoted (s : State) (e n result : Nat) : State :=
  match s.cmd e with
  | some c => if result ≠ 0 then s.setCmd e { c with after := .dryFail n } else s
  | none => s

theorem dryNoted_facts {s : State} {e n result : Nat} {c : Cmd} (hc : s.cmd e = some c) :
    Keeps [.so] s (dryNoted s e n result) ∧ (dryNoted s e n result).cmd e = some (c.dryDue n result) := by
  simp only [dryNoted, hc, Cmd.dryDue]
  split
  next => exact ⟨keeps_setCmd s e _, State.cmd_setCmd ..⟩
  next => exact ⟨Keeps.refl _ s, hc⟩

/-- A command that has ended stays as a dry-fire's end finds it. -/
theorem finishHeld_dryNoted {s : State} (h : ∀ x ∈ s.so.cmds, x.2.stage = .done) (e n result : Nat) (st : Code) (out : Octets) :
    Keeps [.so] s (finishHeld (dryNoted s e n result) e st out) := by
  cases hc : s.cmd e with
  | none =>
    have hn : dryNoted s e n result = s := by simp only [dryNoted, hc]
    rw [hn, finishHeld, hc]
    exact Keeps.refl _ s
  | some c =>
    obtain ⟨hk, hcmd⟩ := dryNoted_facts (n := n) (result := result) hc
    have hdone : (c.dryDue n result).stage = .done := by
      have := h _ (mem_of_lookup hc)
      unfold Cmd.dryDue
      split <;> exact this
    rw [finishHeld, hcmd]
    dsimp only
    rw [if_pos hdone]
    exact hk

theorem dryFiresEnd : Claims.DryFiresEnd := by
  intro s det clr dn wn value unit d c n result i hd hheld hcap
  have hres : (if !det then 1 else if !clr then 2 else 0) = result := by
    cases det <;> cases clr <;> rfl
  have hex (raw : Bool) : exec (i raw unit value) s = answer (
      finishHeld (dryNoted (if raw then raiseAlarm (windowClosed s n unit.toNat value raw)
        { monAlarm (windowClosed s n unit.toNat value raw) n unit.toNat value with deferred := true }
        else windowClosed s n unit.toNat value raw) d.cmd n result) d.cmd stOk (dryOut n result dn wn)) := by
    refine congrArg answer ?_
    rw [hd]
    dsimp only
    rw [hres]
    rfl
  have hout : (dryOut n result dn wn).length ≤ c.d.outCap.toNat := by
    simpa [dryOut, zeros] using hcap
  refine ⟨?_, fun hn he => ?_, fun hn hl => ?_⟩
  · have hex := hex false
    obtain ⟨hk, hal⟩ := windowClosed_facts s n unit.toNat value false
    rw [if_neg (by decide)] at hex
    generalize windowClosed s n unit.toNat value false = u at hex hk hal
    obtain ⟨hc, hstage, hfrank, hchanging⟩ := hheld
    have hcu : u.cmd d.cmd = some c := (State.cmd_congr hk.so _).trans hc
    obtain ⟨hnk, hncmd⟩ := dryNoted_facts (n := n) (result := result) hcu
    generalize dryNoted u d.cmd n result = v at hex hnk hncmd
    have hheld' : Held v d.cmd (c.dryDue n result) := by
      refine ⟨hncmd, ?_⟩
      unfold Cmd.dryDue
      split <;> exact ⟨hstage, hfrank, hchanging⟩
    have hcap' : (dryOut n result dn wn).length ≤ (c.dryDue n result).d.outCap.toNat := by
      unfold Cmd.dryDue
      split <;> exact hout
    obtain ⟨hend, hkeep, -⟩ := finishHeld_ends hheld' stOk hcap'
    obtain ⟨c', hc', hafter⟩ := finishHeld_after hheld' stOk hcap'
    have hfa : (finishHeld v d.cmd stOk (dryOut n result dn wn)).alarms = _ := hkeep.alarms.trans (hnk.alarms.trans hal)
    have hfb : (finishHeld v d.cmd stOk (dryOut n result dn wn)).boot = _ := hkeep.boot.trans (hnk.boot.trans hk.boot)
    generalize finishHeld v d.cmd stOk (dryOut n result dn wn) = w at hex hend hc' hfa hfb
    have hmon : w.monitor n = { s.monitor n with tripped := false } := by
      rw [State.monitor, hfa]
      exact tget_tset_same ..
    refine ⟨_, hex, ?_, ?_, ?_, ?_, hfb, hend, fun hne => ⟨c', hc', ?_⟩⟩
    · rw [drivePins_alarms, hfa]
    · rw [drivePins_alarms, hfa]
    · rw [monitor_drivePins, hmon]
    · rw [monitor_drivePins, hmon]
    · rw [hafter, Cmd.dryDue, if_pos hne]
  all_goals
    have hex := hex true
    obtain ⟨hk, hal⟩ := windowClosed_facts s n unit.toNat value true
    rw [if_pos rfl] at hex
    generalize windowClosed s n unit.toNat value true = u at hex hk hal
  · have hcls : monClass u n = clsE := by rw [monClass, if_pos (Or.inl hn)]
    have h := respondE_erases (s := u) { monAlarm u n unit.toNat value with deferred := true } (by rw [hk.boot]; exact he.1)
      (by rw [hk.boot]; exact he.2)
    rw [raiseAlarm_erases hcls] at hex
    generalize respondE u { monAlarm u n unit.toNat value with deferred := true } = v at hex h
    have hfin := finishHeld_dryNoted h.commands.stage d.cmd n result stOk (dryOut n result dn wn)
    have halarms := h.alarms
    rw [alarmsAfter_eq _ rfl] at halarms
    refine ⟨_, hex, ?_, ?_, ?_⟩
    · rw [drivePins_boot, hfin.boot]
      exact h.mode
    · rw [drivePins_warden, hfin.warden]
      exact h.roots
    · rw [drivePins_alarms, hfin.alarms, halarms]
      show (_ || (monClass u n == 4)) = true
      rw [hcls]
      exact Bool.or_true _
  · have hcls : monClass u n = clsL := by rcases hn with h | h | h <;> rw [h] <;> rfl
    obtain ⟨h1, h2, h3⟩ := hl.modes
    rw [← hk.boot] at h1 h2 h3
    have h := respondL_locks (s := u) { monAlarm u n unit.toNat value with deferred := true } h1 h2 h3
    rw [raiseAlarm_locks hcls] at hex
    generalize respondL u { monAlarm u n unit.toNat value with deferred := true } = v at hex h
    have hfin := finishHeld_dryNoted h.commands.stage d.cmd n result stOk (dryOut n result dn wn)
    have halarms := h.alarms
    rw [alarmsAfter_eq _ rfl] at halarms
    refine ⟨_, hex, ?_, ?_⟩
    · rw [drivePins_boot, hfin.boot]
      exact h.mode
    · rw [drivePins_alarms, hfin.alarms, halarms]
      show (_ || (monClass u n == 3)) = true
      rw [hcls]
      exact Bool.or_true _

/-- Settles O40: each monitor's alarm by its class, the battery's levels, the warden's timers by name, and the end of a
dry-fire. -/
theorem tamperAndBattery : Obligations.TamperAndBattery := by
  unfold Obligations.TamperAndBattery
  exact ⟨tamperResponds, batteryResponds, wardenTimers, dryFiresEnd⟩

end Sys2Proof.Machine
end

section
/-! access gates -/

namespace Sys2Proof.Machine
open Host

/-! ### What has been sent stays sent -/

theorem sent_sendLink (s : State) (cls : BitVec 8) (o : Octets) : s.outbox <:+ (sendLink s cls o).outbox := by
  unfold sendLink
  split
  next => exact List.suffix_cons _ _
  next => split <;> exact List.suffix_refl _

theorem sent_journal (s : State) (x : JEntry) : s.outbox <:+ (journal s x).outbox := by
  unfold journal
  split
  next => exact sent_sendLink s _ _
  next =>
    dsimp only
    split
    next => exact sent_sendLink (journalHere s x) _ _
    next => exact List.suffix_refl _

theorem sent_msixSend (s : State) (fn : Fn) (v : Nat) : s.outbox <:+ (msixSend s fn v).outbox := by
  unfold msixSend
  dsimp only
  split
  next => exact List.suffix_refl _
  next => exact List.suffix_cons _ _

theorem sent_logAlarm (s : State) (a : AlarmInfo) : s.outbox <:+ (logAlarm s a).outbox := by
  have hlog : s.outbox <:+ (logged s a).outbox := by
    unfold logged
    dsimp only
    split
    next => exact sent_journal { (stamp s srcAlarm).2 with alarms := alarmsAfter s.alarms a } _
    next => exact List.suffix_refl _
  rw [logAlarm_eq]
  split
  next => exact (hlog.trans (sent_msixSend _ _ _)).trans (sent_msixSend _ _ _)
  next => exact hlog

theorem logAlarm_time (s : State) (a : AlarmInfo) : (logAlarm s a).time = s.time := by
  have hlog : (logged s a).time = s.time := by
    unfold logged
    dsimp only
    split
    next => exact (State.time_congr (keeps_journal _ _).tb).trans (stamp_time s srcAlarm)
    next => exact stamp_time s srcAlarm
  rw [logAlarm_eq]
  split
  next => exact (State.time_congr (keeps_msixBoth _ _).tb).trans hlog
  next => exact hlog

/-! ### A refusal (R404, R405) -/

theorem keeps_setGates (s : State) (g : Gates) : Keeps [.gates] s { s with gates := g } := by
  intro p hp
  cases p
  case gates => simp at hp
  all_goals rfl

/-- What a refusal leaves: the gate's count, and at most a notice. -/
structure TurnedAway (g m : Nat) (s t : State) : Prop where
  keeps : Keeps [.free, .outbox, .alarms, .msix, .gates, .tb] s t
  sent : Emit.gate g m 6 ∈ t.outbox
  count : (gateHealth t g).refused = (gateHealth s g).refused.inc
  evL : t.alarms.evL = s.alarms.evL

theorem gateHealth_congr {s t : State} (h : t.gates = s.gates) (g : Nat) : gateHealth t g = gateHealth s g := by
  rw [gateHealth, gateHealth, h]

theorem gateHealth_setHealth (s : State) (g : Nat) (h : GateHealth) : gateHealth (setHealth s g h) g = h :=
  tget_tset_same ..

theorem refuse_refuses (s : State) (g m : Nat) (msg : BitVec 640) : TurnedAway g m s (refuse s g m msg) := by
  have hset (h : GateHealth) : Keeps [.gates] s (setHealth s g h) := keeps_setGates s _
  unfold refuse
  dsimp only
  generalize hh : ({ gateHealth s g with refused := (gateHealth s g).refused.inc, noticed := some (s.time.toNat / 1000000) } :
    GateHealth) = h
  have hcount : h.refused = (gateHealth s g).refused.inc := by rw [← hh]
  split
  next =>
    have hemit := keeps_emit (setHealth s g h) (.gate g m 6)
    refine ⟨(hset h).comp hemit, List.mem_cons_self, ?_, rfl⟩
    rw [gateHealth_congr hemit.gates, gateHealth_setHealth, hcount]
  next =>
    have hnote := keeps_notice_unnamed (setHealth s g h) 0x0402 g
      (Config.refusalValue m (beatTag msg).toNat (beatAddr msg) (beatKind msg))
    have hal := notice_alarms (setHealth s g h) (c := 0x0402) g
      (Config.refusalValue m (beatTag msg).toNat (beatAddr msg) (beatKind msg)) false (by decide)
    generalize notice (setHealth s g h) 0x0402 g
      (Config.refusalValue m (beatTag msg).toNat (beatAddr msg) (beatKind msg)) false = u at hnote hal
    have hemit := keeps_emit u (.gate g m 6)
    refine ⟨((hset h).comp hnote (rs := [.free, .outbox, .alarms, .msix, .gates, .tb])).comp hemit, List.mem_cons_self, ?_, ?_⟩
    · rw [gateHealth_congr hemit.gates, gateHealth_congr hnote.gates, gateHealth_setHealth, hcount]
    · rw [hemit.alarms, hal]
      rfl

/-- A refusal that also raises an event of class F. -/
theorem eventF_refused {g m : Nat} {s t : State} (h : TurnedAway g m s t) (c : Code) :
    Emit.gate g m 6 ∈ (eventF t c g 0 0).outbox ∧ (gateHealth (eventF t c g 0 0) g).refused = (gateHealth s g).refused.inc ∧
    (eventF t c g 0 0).cores = s.cores ∧ (eventF t c g 0 0).wmem = s.wmem ∧ (eventF t c g 0 0).keys = s.keys ∧
    (eventF t c g 0 0).so = s.so ∧ (eventF t c g 0 0).alarms.evF = true := by
  have hk := keeps_eventF t c g 0 0
  refine ⟨(sent_logAlarm t _).subset h.sent, ?_, ?_, ?_, ?_, ?_, ?_⟩
  · rw [gateHealth_congr hk.gates, h.count]
  · rw [hk.cores, h.keeps.cores]
  · rw [hk.wmem, h.keeps.wmem]
  · rw [hk.keys, h.keeps.keys]
  · rw [hk.so, h.keeps.so]
  · have hal : (eventF t c g 0 0).alarms = _ := logAlarm_alarms t _
    rw [hal, alarmsAfter_eq _ rfl]
    exact Bool.or_true _

theorem refused_gives {i : Instr} {s u : State} {g m : Nat} (hex : exec i s = answer u) (h : TurnedAway g m s u) :
    Gives i s fun t => Emit.gate g m 6 ∈ t.outbox ∧ (gateHealth t g).refused = (gateHealth s g).refused.inc ∧
      t.cores = s.cores ∧ t.wmem = s.wmem ∧ t.keys = s.keys ∧ t.so = s.so :=
  ⟨_, hex, h.sent, h.count, h.keeps.cores, h.keeps.wmem, h.keeps.keys, h.keeps.so⟩

theorem refused_faults {i : Instr} {s u : State} {g m : Nat} {c : Code} (hex : exec i s = answer (eventF u c g 0 0))
    (h : TurnedAway g m s u) : (Gives i s fun t => Emit.gate g m 6 ∈ t.outbox ∧
      (gateHealth t g).refused = (gateHealth s g).refused.inc ∧ t.cores = s.cores ∧ t.wmem = s.wmem ∧ t.keys = s.keys ∧
      t.so = s.so) ∧ Gives i s fun t => t.alarms.evF = true := by
  obtain ⟨hsent, hcount, hcores, hwmem, hkeys, hso, hev⟩ := eventF_refused h c
  exact ⟨⟨_, hex, hsent, hcount, hcores, hwmem, hkeys, hso⟩, ⟨_, hex, hev⟩⟩

/-! ### A Seal that does not match (R432, R433) -/

/-- The registers of a gate and of a path after a mismatch. -/
def mismatched (s : State) (g init : Nat) : State :=
  let path := 128 * g + init
  let u := notice (setHealth s g { gateHealth s g with sealErr := satInc (gateHealth s g).sealErr }) 0x0403 g
    (BitVec.ofNat 32 init) false
  emit { u with gates := { u.gates with
    mismatches := tset [] u.gates.mismatches path (u.time.toNat ::
      ((tget [] u.gates.mismatches path).filter (fun t => decide (u.time.toNat - t < 1000000000))).take 3)
    retried := if u.gates.retried.contains path then u.gates.retried.filter (· ≠ path) else path :: u.gates.retried } }
    (.gate g init (if u.gates.retried.contains path then 7 else 1))

/-- The mismatches of a path within the last second. -/
def recentMismatches (s : State) (path : Nat) : List Nat :=
  (tget [] s.gates.mismatches path).filter (fun t => decide (s.time.toNat - t < 1000000000))

theorem mismatched_facts (s : State) (g init : Nat) :
    let t := mismatched s g init
    Keeps [.free, .outbox, .alarms, .msix, .gates, .tb] s t ∧
    t.outbox.head? = some (.gate g init (if s.gates.retried.contains (128 * g + init) then 7 else 1)) ∧
    (gateHealth t g).sealErr = satInc (gateHealth s g).sealErr ∧ t.gates.sets = s.gates.sets ∧
    t.gates.retried.contains (128 * g + init) = !(s.gates.retried.contains (128 * g + init)) := by
  intro t
  have hset := keeps_setGates s (setHealth s g { gateHealth s g with sealErr := satInc (gateHealth s g).sealErr }).gates
  have hnote := keeps_notice_unnamed (setHealth s g { gateHealth s g with sealErr := satInc (gateHealth s g).sealErr }) 0x0403 g
    (BitVec.ofNat 32 init)
  have hg := hnote.gates
  have ht : t = mismatched s g init := rfl
  unfold mismatched at ht
  dsimp only at ht
  generalize notice (setHealth s g { gateHealth s g with sealErr := satInc (gateHealth s g).sealErr }) 0x0403 g
    (BitVec.ofNat 32 init) false = u at ht hnote hg
  have hr : u.gates.retried = s.gates.retried := by rw [hg]; rfl
  have hk : Keeps [.gates, .outbox] u t := by
    rw [ht]
    exact (keeps_setGates u _).comp (keeps_emit _ _)
  refine ⟨(hset.comp hnote (rs := [.free, .outbox, .alarms, .msix, .gates, .tb])).trans (hk.mono (by decide)), ?_, ?_, ?_, ?_⟩
  · rw [ht, hr]
    rfl
  · rw [ht]
    show (gateHealth u g).sealErr = _
    rw [gateHealth_congr hg, gateHealth_setHealth]
  · rw [ht]
    show u.gates.sets = _
    rw [hg]
    rfl
  · rw [ht]
    show (if u.gates.retried.contains (128 * g + init) then u.gates.retried.filter (· ≠ 128 * g + init)
      else (128 * g + init) :: u.gates.retried).contains (128 * g + init) = _
    rw [hr]
    cases hc : s.gates.retried.contains (128 * g + init)
    · simp
    · simp

theorem sealMismatch_eq (s : State) (g init : Nat) : sealMismatch s g init =
    if 3 ≤ (recentMismatches s (128 * g + init)).length then
      raiseAlarm (mismatched s g init) { cause := 0x0200, cls := clsL, unit := g }
    else mismatched s g init := by
  have htime : (notice (setHealth s g { gateHealth s g with sealErr := satInc (gateHealth s g).sealErr }) 0x0403 g
      (BitVec.ofNat 32 init) false).time = s.time := logAlarm_time (setHealth s g _) _
  have hmis : (notice (setHealth s g { gateHealth s g with sealErr := satInc (gateHealth s g).sealErr }) 0x0403 g
      (BitVec.ofNat 32 init) false).gates.mismatches = s.gates.mismatches := by
    rw [(keeps_notice_unnamed _ _ _ _).gates]
    rfl
  unfold sealMismatch mismatched
  dsimp only
  generalize notice (setHealth s g { gateHealth s g with sealErr := satInc (gateHealth s g).sealErr }) 0x0403 g
    (BitVec.ofNat 32 init) false = u at htime hmis
  have hlen : (u.time.toNat :: ((tget [] u.gates.mismatches (128 * g + init)).filter
      (fun t => decide (u.time.toNat - t < 1000000000))).take 3).length ≥ 4 ↔
      3 ≤ (recentMismatches s (128 * g + init)).length := by
    rw [htime, hmis, List.length_cons, List.length_take, recentMismatches]
    omega
  simp only [hlen]

/-! ### The decision (R402, R403, R407, R409, R419) -/

/-- The path that retried has sent a good Seal. -/
def retryOver (s : State) (path : Nat) : State :=
  { s with gates := { s.gates with retried := s.gates.retried.filter (· ≠ path) } }

theorem exec_gateRequest {s : State} {init : BitVec 7} {len g : Nat} {msg : BitVec 640} {sl : BitVec 24}
    (hg : gateOf s (beatAddr msg) = some g) : exec (.gateRequest init len msg sl) s = answer (
      if sealOf msg ≠ sl then sealMismatch s g init.toNat
      else decideRequest (retryOver s (128 * g + init.toNat)) g len msg) := by
  refine congrArg answer ?_
  rw [hg]
  rfl

theorem shapeOk_iff (a len : Nat) : shapeOk a len = true ↔
    (len ∈ [1, 2, 4, 8, 16, 32, 64, 128, 256]) ∧ a % len = 0 := by
  rw [shapeOk, Bool.and_eq_true, List.contains_iff_mem, beq_iff_eq]

theorem liveMaster_iff (m : Nat) : liveMaster m = true ↔ m < 8 ∨ 0x40 ≤ m := by
  rw [liveMaster, Bool.or_eq_true, decide_eq_true_iff, decide_eq_true_iff]

/-- What the deciding set answers (R407, R409). -/
def setDecides (s : State) (g len i : Nat) (msg : BitVec 640) : State :=
  let m := beatMaster msg
  let r := getSet s g m i
  let (hit, grants) := setMatches r g (beatAddr msg) len (beatKind msg)
  if hit > 1 then raiseAlarm (refuse s g m msg) { cause := 0x0201, cls := clsL, unit := g }
  else if hit = 1 ∧ grants = 1 then
    emit (putSet s g m i { r with drain := r.drain + 1 }) (.gate g m 0)
  else refuse s g m msg

theorem decideRequest_badShape {s : State} {g len : Nat} {msg : BitVec 640}
    (h : ¬ ((len ∈ [1, 2, 4, 8, 16, 32, 64, 128, 256]) ∧ beatAddr msg % len = 0)) :
    decideRequest s g len msg = eventF (refuse s g (beatMaster msg) msg) (Config.gateEvent 0) g 0 0 := by
  have hno : (!shapeOk (beatAddr msg) len) = true := by
    rw [Bool.not_eq_true', ← Bool.not_eq_true]
    exact mt (shapeOk_iff _ _).1 h
  exact if_pos hno

theorem decideRequest_shaped {s : State} {g len : Nat} {msg : BitVec 640}
    (h : (len ∈ [1, 2, 4, 8, 16, 32, 64, 128, 256]) ∧ beatAddr msg % len = 0) : decideRequest s g len msg =
      if !liveMaster (beatMaster msg) then refuse s g (beatMaster msg) msg
      else match decidingSet s g (beatMaster msg) (beatTag msg) with
        | none => eventF (refuse s g (beatMaster msg) msg) (Config.gateEvent 1) g 0 0
        | some i => setDecides s g len i msg := by
  have hyes : ¬ (!shapeOk (beatAddr msg) len) = true := by
    rw [(shapeOk_iff _ _).2 h]
    decide
  exact if_neg hyes

theorem decideRequest_deadMaster {s : State} {g len : Nat} {msg : BitVec 640}
    (h : (len ∈ [1, 2, 4, 8, 16, 32, 64, 128, 256]) ∧ beatAddr msg % len = 0)
    (hm : ¬ (beatMaster msg < 8 ∨ 0x40 ≤ beatMaster msg)) :
    decideRequest s g len msg = refuse s g (beatMaster msg) msg := by
  rw [decideRequest_shaped h]
  refine if_pos ?_
  rw [Bool.not_eq_true', ← Bool.not_eq_true]
  exact mt (liveMaster_iff _).1 hm

theorem decideRequest_live {s : State} {g len : Nat} {msg : BitVec 640}
    (h : (len ∈ [1, 2, 4, 8, 16, 32, 64, 128, 256]) ∧ beatAddr msg % len = 0)
    (hm : beatMaster msg < 8 ∨ 0x40 ≤ beatMaster msg) : (decidingSet s g (beatMaster msg) (beatTag msg) = none →
      decideRequest s g len msg = eventF (refuse s g (beatMaster msg) msg) (Config.gateEvent 1) g 0 0) ∧
    ∀ i, decidingSet s g (beatMaster msg) (beatTag msg) = some i → decideRequest s g len msg = setDecides s g len i msg := by
  have hyes : ¬ (!liveMaster (beatMaster msg)) = true := by
    rw [(liveMaster_iff _).2 hm]
    decide
  rw [decideRequest_shaped h, if_neg hyes]
  refine ⟨fun hd => ?_, fun i hd => ?_⟩ <;> rw [hd]

theorem getSet_putSet (s : State) (g m i : Nat) (r : RuleSet) : getSet (putSet s g m i r) g m i = r := by
  rw [getSet, putSet, lookup_insertAt_same, Option.getD_some]

theorem gateDecides : Claims.GateDecides := by
  intro s init len g j msg sl i a m h path recent shape r refused
  have hback : Keeps [.gates] s (retryOver s path) := keeps_setGates s _
  have hturned : TurnedAway g m s (refuse (retryOver s path) g m msg) := by
    have ht := refuse_refuses (retryOver s path) g m msg
    exact ⟨(hback.mono (by decide)).trans ht.keeps, ht.sent, ht.count, ht.evL⟩
  refine ⟨fun hg => ?_, fun hg hs hrec => ?_, fun hg hs hrec hl => ?_, fun hg hs hsh hm hd => ⟨fun hmt => ?_, fun hmt => ?_,
    fun hmt hl => ?_⟩, fun hg hs hsh hlo hhi => ?_, fun hg hs hsh => ?_, fun hg hs hsh hm hd => ?_⟩
  · have hex : exec i s = answer (notice s 0x0401 init.toNat (BitVec.ofNat 32 (beatAddr msg)) false) := by
      refine congrArg answer ?_
      rw [show gateOf s (beatAddr msg) = none from hg]
    have hal := notice_alarms s (c := 0x0401) init.toNat (BitVec.ofNat 32 (beatAddr msg)) false (by decide)
    refine ⟨_, hex, only_drivePins (keeps_notice_unnamed s _ _ _), ?_, ?_⟩ <;> rw [drivePins_alarms, hal]
  · have hex := (exec_gateRequest (init := init) (len := len) (sl := sl) hg).trans (congrArg answer (if_pos hs))
    have hfew : ¬ 3 ≤ (recentMismatches s (128 * g + init.toNat)).length := Nat.not_le.2 hrec
    rw [sealMismatch_eq, if_neg hfew] at hex
    obtain ⟨hk, hhead, herr, hsets, hretried⟩ := mismatched_facts s g init.toNat
    exact ⟨_, hex, only_drivePins hk, hhead, herr, hsets, hretried⟩
  · have hex := (exec_gateRequest (init := init) (len := len) (sl := sl) hg).trans (congrArg answer (if_pos hs))
    have hmany : 3 ≤ (recentMismatches s (128 * g + init.toNat)).length := hrec
    rw [sealMismatch_eq, if_pos hmany, raiseAlarm_locks rfl] at hex
    have hk := (mismatched_facts s g init.toNat).1
    obtain ⟨h1, h2, h3⟩ := hl.modes
    rw [← hk.boot] at h1 h2 h3
    have hlock := respondL_locks { cause := 0x0200, cls := clsL, unit := g } h1 h2 h3
    refine ⟨_, hex, hlock.mode, ?_, hlock.lockRec⟩
    rw [drivePins_alarms, hlock.alarms]
    exact alarmsAfter_lastCause _ rfl
  all_goals
    have hex := (exec_gateRequest (init := init) (len := len) (sl := sl) hg).trans
      (congrArg answer (if_neg (not_not.2 hs)))
  · rw [(decideRequest_live (s := retryOver s path) hsh hm).2 j hd] at hex
    have hset : setDecides (retryOver s path) g len j msg =
        emit (putSet (retryOver s path) g m j { r with drain := r.drain + 1 }) (.gate g m 0) := by
      show (if (setMatches r g (beatAddr msg) len (beatKind msg)).1 > 1 then _
        else if (setMatches r g (beatAddr msg) len (beatKind msg)).1 = 1 ∧
          (setMatches r g (beatAddr msg) len (beatKind msg)).2 = 1 then _ else _) = _
      rw [show setMatches r g (beatAddr msg) len (beatKind msg) = (1, 1) from hmt, if_neg (by decide),
        if_pos ⟨rfl, rfl⟩]
      rfl
    rw [hset] at hex
    have hk : Keeps [.outbox, .gates] s (emit (putSet (retryOver s path) g m j { r with drain := r.drain + 1 }) (.gate g m 0)) :=
      (hback.trans (keeps_setGates (retryOver s path) _)).comp (keeps_emit _ _)
    exact ⟨_, hex, only_drivePins hk, rfl, getSet_putSet ..⟩
  · rw [(decideRequest_live (s := retryOver s path) hsh hm).2 j hd] at hex
    have hset : setDecides (retryOver s path) g len j msg = refuse (retryOver s path) g m msg := by
      show (if (setMatches r g (beatAddr msg) len (beatKind msg)).1 > 1 then _
        else if (setMatches r g (beatAddr msg) len (beatKind msg)).1 = 1 ∧
          (setMatches r g (beatAddr msg) len (beatKind msg)).2 = 1 then _ else _) = _
      rcases hmt with hmt | hmt
      · rw [show (setMatches r g (beatAddr msg) len (beatKind msg)).1 = 0 from hmt, if_neg (by decide),
          if_neg (fun hc => absurd hc.1 (by decide))]
      · rw [show setMatches r g (beatAddr msg) len (beatKind msg) = (1, 0) from hmt, if_neg (by decide),
          if_neg (fun hc => absurd hc.2 (by decide))]
    rw [hset] at hex
    exact ⟨refused_gives hex hturned, _, hex, hturned.evL, hturned.keeps.boot⟩
  · rw [(decideRequest_live (s := retryOver s path) hsh hm).2 j hd] at hex
    have hset : setDecides (retryOver s path) g len j msg =
        raiseAlarm (refuse (retryOver s path) g m msg) { cause := 0x0201, cls := clsL, unit := g } := by
      show (if (setMatches r g (beatAddr msg) len (beatKind msg)).1 > 1 then _
        else if (setMatches r g (beatAddr msg) len (beatKind msg)).1 = 1 ∧
          (setMatches r g (beatAddr msg) len (beatKind msg)).2 = 1 then _ else _) = _
      exact if_pos hmt
    rw [hset, raiseAlarm_locks rfl] at hex
    obtain ⟨h1, h2, h3⟩ := hl.modes
    rw [← hturned.keeps.boot] at h1 h2 h3
    have hlock := respondL_locks { cause := 0x0201, cls := clsL, unit := g } h1 h2 h3
    refine ⟨_, hex, hlock.mode, ?_⟩
    rw [drivePins_alarms, hlock.alarms]
    exact alarmsAfter_lastCause _ rfl
  · have hdead : ¬ (beatMaster msg < 8 ∨ 0x40 ≤ beatMaster msg) := not_or.2 ⟨Nat.not_lt.2 hlo, Nat.not_le.2 hhi⟩
    rw [decideRequest_deadMaster (s := retryOver s path) hsh hdead] at hex
    exact refused_gives hex hturned
  · rw [decideRequest_badShape (s := retryOver s path) hsh] at hex
    exact refused_faults hex hturned
  · rw [(decideRequest_live (s := retryOver s path) hsh hm).1 hd] at hex
    exact refused_faults hex hturned

/-! ### The sets of the fixed masters (R408, R410, R418, R419, R421, R422) -/

theorem setKey_inj {g m i g' m' i' : Nat} (hm : m < 128) (hi : i < 2) (hm' : m' < 128) (hi' : i' < 2)
    (h : setKey g m i = setKey g' m' i') : (g, m, i) = (g', m', i') := by
  unfold setKey at h
  have h1 : g = g' := by omega
  have h2 : m = m' := by omega
  have h3 : i = i' := by omega
  rw [h1, h2, h3]

theorem getSet_putSet_other (s : State) {g m i g' m' i' : Nat} (r : RuleSet) (hm : m < 128) (hi : i < 2) (hm' : m' < 128)
    (hi' : i' < 2) (h : (g', m', i') ≠ (g, m, i)) : getSet (putSet s g m i r) g' m' i' = getSet s g' m' i' := by
  rw [getSet, putSet, lookup_insertAt_other _ _ _ _ fun hk => h (setKey_inj hm' hi' hm hi hk)]
  rfl

theorem keeps_putSet (s : State) (g m i : Nat) (r : RuleSet) : Keeps [.gates] s (putSet s g m i r) := keeps_setGates s _

/-- The index of a set. -/
theorem setIndex_lt (b : Bool) : (if b then 1 else 0) < 2 := by cases b <;> decide

/-- SWAP at one gate: both sets of the master turn. -/
def swapAt (m : Nat) (s : State) (g : Nat) : State :=
  putSet (putSet s g m 0 (getSet s g m 0).swapped) g m 1 (getSet s g m 1).swapped

theorem keeps_swapAt (m : Nat) (s : State) (g : Nat) : Keeps [.gates] s (swapAt m s g) :=
  (keeps_putSet s g m 0 _).trans (keeps_putSet _ g m 1 _)

theorem getSet_swapAt {m : Nat} (hm : m < 128) (s : State) (g : Nat) {y : Nat} (hy : y < 2) :
    getSet (swapAt m s g) g m y = (getSet s g m y).swapped := by
  have h : y = 0 ∨ y = 1 := by omega
  rcases h with rfl | rfl
  · rw [swapAt, getSet_putSet_other _ _ hm (by decide) hm (by decide) (by simp), getSet_putSet]
  · rw [swapAt, getSet_putSet]

theorem getSet_swapAt_other {m : Nat} (hm : m < 128) (s : State) {g x : Nat} (hx : x ≠ g) {y : Nat} (hy : y < 2) :
    getSet (swapAt m s g) x m y = getSet s x m y := by
  rw [swapAt, getSet_putSet_other _ _ hm (by decide) hm hy (by simp [hx]),
    getSet_putSet_other _ _ hm (by decide) hm hy (by simp [hx])]

theorem foldl_swapAt {m : Nat} (hm : m < 128) (l : List Nat) (hl : l.Nodup) (s : State) {x y : Nat} (hy : y < 2) :
    getSet (l.foldl (swapAt m) s) x m y = if x ∈ l then (getSet s x m y).swapped else getSet s x m y := by
  induction l generalizing s with
  | nil => rfl
  | cons g l ih =>
    obtain ⟨hg, hl⟩ := List.nodup_cons.1 hl
    rw [List.foldl_cons, ih hl]
    by_cases hx : x = g
    · subst hx
      rw [if_neg hg, getSet_swapAt hm s x hy, if_pos List.mem_cons_self]
    · rw [getSet_swapAt_other hm s hx hy]
      simp [hx]

theorem keeps_foldl_swapAt (m : Nat) (l : List Nat) (s : State) : Keeps [.gates] s (l.foldl (swapAt m) s) :=
  Keeps.foldl (keeps_swapAt m) l s

theorem foldl_swapAt_tags (m : Nat) (l : List Nat) (s : State) : (l.foldl (swapAt m) s).gates.tags = s.gates.tags := by
  induction l generalizing s with
  | nil => rfl
  | cons g l ih => exact (ih (swapAt m s g)).trans rfl

/-- Where the lists of gates that LOAD, ARM and FREE go through name one gate. -/
theorem selGates_one {gate : BitVec 8} {g : Nat} (hg : g < 29) (h : gate.toNat = g) : selGates gate = [g] := by
  have hne : gate ≠ 0xFF := by
    rintro rfl
    exact absurd h (by simp; omega)
  rw [selGates, if_neg hne, if_pos (by omega), h]

/-- The gate bank when ARM has checked a set. -/
def armNoted (s : State) (m : BitVec 7) (gate : BitVec 8) (set : Bool) (code : BitVec 3) : State :=
  { s with gates := { s.gates with selMaster := m, selGate := gate, selSet := set, armStatus := code } }

/-- ARM of one gate. -/
theorem armSet_one {s : State} {m : BitVec 7} {set : Bool} {g i : Nat} {gate : BitVec 8} (hi : i = if set then 1 else 0)
    (hg : g < 29) (hgate : gate.toNat = g) (hm : m.toNat < 8) (hfree : (getSet s g m.toNat i).st = .free) {code : BitVec 3}
    (hcode : armCheck ((getSet s g m.toNat i).entries.map (·.2)) = code) : exec (.armSet m gate set) s = answer (
      if code = 0 then putSet (armNoted s m gate set code) g m.toNat i
        { getSet s g m.toNat i with st := .armed, epoch := epochTag s m.toNat + 1 }
      else armNoted s m gate set code) := by
  subst hi
  refine congrArg answer ?_
  dsimp only
  have hfilter : (selGates gate).filter (fun x => (getSet (selectSet s m gate set) x m.toNat (if set then 1 else 0)).st == .free) = [g] := by
    rw [selGates_one hg hgate, List.filter_singleton]
    have hb : ((getSet (selectSet s m gate set) g m.toNat (if set then 1 else 0)).st == .free) = true := beq_iff_eq.2 hfree
    rw [hb]
    rfl
  rw [hfilter, if_neg (by simp; omega)]
  have hsame : getSet (selectSet s m gate set) g m.toNat (if set then 1 else 0) = getSet s g m.toNat (if set then 1 else 0) := rfl
  simp only [List.find?_cons, List.find?_nil, List.foldl_cons, List.foldl_nil, hsame, hcode]
  by_cases hc : code = 0
  · simp only [hc, bne_self_eq_false, if_true]
    rfl
  · have hne : (code != 0) = true := by simpa using hc
    simp only [hne, if_neg hc, Option.map_some, Option.getD_some, hsame, hcode]
    rfl

theorem ruleSetsChange : Claims.RuleSetsChange := by
  intro s m set regions g gate gn j i r st other code
  have hi : i < 2 := setIndex_lt set
  have hsel (u : State) : Keeps [.gates] u (selectSet u m gate set) := keeps_setGates u _
  have hput (u : State) (g m i : Nat) (r : RuleSet) : Keeps [.gates] u (putSet u g m i r) := keeps_setGates u _
  refine ⟨fun hg hgate hm => ?_, fun hm hall => ?_, fun hnot => ?_, fun hset hm => ?_, fun hset => ?_⟩
  · have hsg := selGates_one hg hgate
    have hlt : ¬ m.toNat ≥ 8 := by omega
    have hm128 : m.toNat < 128 := m.isLt
    refine ⟨fun hfree => ?_, fun hbusy => ?_, fun hfree => ?_, fun harm => ?_, fun hne => ?_⟩
    · let u : State := selectSet { s with gates := { s.gates with staging := st } } m gate set
      have hu : Keeps [.gates] s u := keeps_setGates s _
      have hex : exec (.loadSet m gate set regions) s =
          answer (putSet u g m.toNat i { r with entries := ((List.range 16).zip st).filter (fun e => e.2 ≠ 0) }) := by
        refine congrArg answer ((if_neg hlt).trans ?_)
        rw [hsg]
        exact if_pos hfree
      refine ⟨_, hex, only_drivePins (hu.trans (hput _ _ _ _ _)), rfl, fun g' m' i' hg' hm' hi' hne => ?_, getSet_putSet ..⟩
      exact getSet_putSet_other u _ hm128 hi hm' hi' hne
    · let u : State := selectSet { s with gates := { s.gates with staging := st } } m gate set
      have hu : Keeps [.gates] s u := keeps_setGates s _
      have hex : exec (.loadSet m gate set regions) s = answer u := by
        refine congrArg answer ((if_neg hlt).trans ?_)
        rw [hsg]
        exact if_neg hbusy
      exact ⟨_, hex, only_drivePins hu, rfl⟩
    · have hex := armSet_one (i := i) rfl hg hgate hm hfree (code := code) rfl
      have hnoted : Keeps [.gates] s (armNoted s m gate set code) := keeps_setGates s _
      by_cases h : code = 0
      · rw [if_pos h] at hex ⊢
        refine ⟨_, hex, only_drivePins (hnoted.trans (hput _ _ _ _ _)), rfl, fun g' m' i' hg' hm' hi' hne => ?_, getSet_putSet ..⟩
        exact getSet_putSet_other _ _ hm128 hi hm' hi' hne
      · rw [if_neg h] at hex ⊢
        exact ⟨_, hex, only_drivePins hnoted, rfl, fun g' m' i' hg' hm' hi' hne => rfl, rfl⟩
    · have hex : exec (.freeSet m gate set) s = answer (putSet (selectSet s m gate set) g m.toNat i {}) := by
        refine congrArg answer ((if_neg hlt).trans ?_)
        rw [hsg]
        exact if_pos harm
      refine ⟨_, hex, only_drivePins ((hsel s).trans (hput _ _ _ _ _)), fun g' m' i' hg' hm' hi' hne => ?_, ?_⟩
      · exact getSet_putSet_other _ _ hm128 hi hm' hi' hne
      · exact congrArg RuleSet.st (getSet_putSet ..)
    · have hex : exec (.freeSet m gate set) s = answer (selectSet s m gate set) := by
        refine congrArg answer ((if_neg hlt).trans ?_)
        rw [hsg]
        exact if_neg hne
      exact ⟨_, hex, only_drivePins (hsel s), rfl⟩
  · let u : State := { s with gates := { s.gates with selMaster := m } }
    have hu : Keeps [.gates] s u := keeps_setGates s _
    have hready : m.toNat < 8 ∧ gateNums.all (fun g => (setIn u g m.toNat .armed).isSome) = true :=
      ⟨hm, List.all_eq_true.2 fun x hx => hall x (List.mem_range.1 hx)⟩
    have hex : exec (.swapSet m) s = answer (swapSets u m.toNat) := congrArg answer (if_pos hready)
    have hfold := keeps_foldl_swapAt m.toNat gateNums u
    have htags := foldl_swapAt_tags m.toNat gateNums u
    have hget (x y : Nat) (hx : x < 29) (hy : y < 2) :
        getSet (gateNums.foldl (swapAt m.toNat) u) x m.toNat y = (getSet s x m.toNat y).swapped := by
      rw [foldl_swapAt m.isLt gateNums List.nodup_range u hy, if_pos (show x ∈ gateNums from List.mem_range.2 hx)]
      rfl
    have hswap : swapSets u m.toNat = (let v := gateNums.foldl (swapAt m.toNat) u
      { v with gates := { v.gates with tags := tset 0 v.gates.tags m.toNat (epochTag v m.toNat + 1) } }) := rfl
    rw [hswap] at hex
    dsimp only at hex
    generalize gateNums.foldl (swapAt m.toNat) u = v at hex hfold htags hget
    refine ⟨_, hex, only_drivePins ((hu.trans hfold).trans (keeps_setGates v _)), ?_, fun x y hx hy harm => ?_⟩
    · show tget 0 (tset 0 v.gates.tags m.toNat (epochTag v m.toNat + 1)) m.toNat = _
      rw [tget_tset_same, epochTag, htags]
      rfl
    · have hv : getSet (drivePins { v with gates := { v.gates with tags := tset 0 v.gates.tags m.toNat (epochTag v m.toNat + 1) } })
          x m.toNat y = (getSet s x m.toNat y).swapped := hget x y hx hy
      rw [hv, RuleSet.swapped, harm]
      exact ⟨rfl, rfl⟩
  · let u : State := { s with gates := { s.gates with selMaster := m } }
    have hu : Keeps [.gates] s u := keeps_setGates s _
    have hno : ¬ (m.toNat < 8 ∧ gateNums.all (fun g => (setIn u g m.toNat .armed).isSome) = true) := by
      rintro ⟨-, hall⟩
      obtain ⟨x, hx, hnone⟩ := hnot
      have := List.all_eq_true.1 hall x (List.mem_range.2 hx)
      rw [show setIn u x m.toNat .armed = none from hnone] at this
      exact absurd this (by decide)
    exact ⟨_, congrArg answer (if_neg hno), only_drivePins hu, rfl, rfl⟩
  · have hex : exec (.setFree gn m) s = answer (putSet s gn.toNat m.toNat j {}) := by
      refine congrArg answer ?_
      dsimp only
      rw [hset]
      exact if_pos hm
    exact ⟨_, hex, only_drivePins (hput _ _ _ _ _), congrArg RuleSet.st (getSet_putSet ..)⟩
  · refine congrArg answer ?_
    dsimp only
    rw [hset]

/-! ### Self-checks (R426 to R428) -/

theorem gateSelfChecks : Claims.GateSelfChecks := by
  intro s g cause h
  refine ⟨fun hg hc hb => ?_, fun hno => ?_, fun hc hl => ?_⟩
  · have hfails : ¬ (cause = 0 ∨ g.toNat ≥ 29 ∨ (gateHealth s g.toNat).bypassed = true) := by
      rintro (h0 | h0 | h0)
      · exact hc h0
      · omega
      · exact Bool.false_ne_true ((show (gateHealth s g.toNat).bypassed = false from hb).symm.trans h0)
    have hex : exec (.gateSelfCheck g cause false) s =
        answer (journalRetire (eventF (bypassGate s g.toNat cause) 0x0305 g.toNat 0 0) .gate g.toNat) :=
      congrArg answer (if_neg hfails)
    have hby : Keeps [.gates] s (bypassGate s g.toNat cause) := keeps_setGates s _
    have hev := keeps_eventF (bypassGate s g.toNat cause) 0x0305 g.toNat 0 0
    have hal := eventF_alarms (bypassGate s g.toNat cause) (c := 0x0305) g.toNat 0 0 (by decide)
    generalize eventF (bypassGate s g.toNat cause) 0x0305 g.toNat 0 0 = u at hex hev hal
    have hj := keeps_journalRetire u .gate g.toNat
    have hk := (hby.comp hev (rs := [.free, .outbox, .alarms, .msix, .gates, .tb, .journal, .pair])).trans (hj.mono (by decide))
    generalize journalRetire u .gate g.toNat = v at hex hj hk
    have hgates : v.gates = (bypassGate s g.toNat cause).gates := hj.gates.trans hev.gates
    refine ⟨_, hex, only_drivePins hk, ?_, ?_, ?_, ?_⟩
    · exact (gateHealth_congr hgates _).trans (gateHealth_setHealth ..)
    · rw [drivePins_gates, hgates]
      rfl
    · rw [drivePins_alarms, hj.alarms, hal]
    · rw [drivePins_alarms, hj.alarms, hal]
  · have hskip : cause = 0 ∨ g.toNat ≥ 29 ∨ (gateHealth s g.toNat).bypassed = true := hno.imp_right Or.inr
    exact congrArg answer (if_pos hskip)
  · have hex : exec (.gateSelfCheck g cause true) s = answer (respondL s { cause := 0x0202, cls := clsL }) := by
      refine congrArg answer ?_
      dsimp only
      rw [if_pos (Or.inl hc), if_pos rfl, raiseAlarm_locks rfl]
    exact locks_of_response hex (Keeps.refl _ s) rfl rfl hl

/-- Settles O41: the Seal, the set of the tag and its matching entries decide a request; LOAD, ARM, FREE and SWAP move
the sets through their states; a self-check bypasses its gate. -/
theorem gatesDecide : Obligations.GatesDecide := by
  unfold Obligations.GatesDecide
  exact ⟨gateDecides, ruleSetsChange, gateSelfChecks⟩

end Sys2Proof.Machine
end

section
/-! clusters, the spare and working-memory channels -/

namespace Sys2Proof.Machine
open Host

/-! ### Placement leaves an idle core idle (R127, R128) -/

/-- What re-placing entries leaves: the Sorting Office, cores and gates move, but no cluster's service, and no core that
`q` names. -/
structure Steered (q : Nat → Prop) (s t : State) : Prop where
  keeps : Keeps [.so, .cores, .gates] s t
  out : t.so.clusterOut = s.so.clusterOut
  resteer : t.so.resteer = s.so.resteer
  cores : ∀ j, q j → t.core j = s.core j

/-- The named cores run nothing and hold nothing. -/
def Idle (q : Nat → Prop) (s : State) : Prop := ∀ j, q j → (s.core j).cmd = none ∧ (s.core j).pre = none

theorem Steered.refl (q : Nat → Prop) (s : State) : Steered q s s := ⟨Keeps.refl _ s, rfl, rfl, fun _ _ => rfl⟩

theorem Steered.trans {q : Nat → Prop} {s t u : State} (h : Steered q s t) (g : Steered q t u) : Steered q s u :=
  ⟨h.keeps.trans g.keeps, g.out.trans h.out, g.resteer.trans h.resteer, fun j hj => (g.cores j hj).trans (h.cores j hj)⟩

theorem Steered.idle {q : Nat → Prop} {s t : State} (h : Steered q s t) (hi : Idle q s) : Idle q t := by
  intro j hj
  rw [h.cores j hj]
  exact hi j hj

theorem steered_setSo (q : Nat → Prop) (s : State) {o : Sorting} (h1 : o.clusterOut = s.so.clusterOut)
    (h2 : o.resteer = s.so.resteer) : Steered q s { s with so := o } := by
  refine ⟨fun p hp => ?_, h1, h2, fun _ _ => rfl⟩
  cases p
  case so => simp at hp
  all_goals rfl

theorem steered_order (q : Nat → Prop) (s : State) (n : Nat) : Steered q s { s with so := { s.so with nextOrder := n } } :=
  steered_setSo q s rfl rfl

theorem steered_setCmd (q : Nat → Prop) (s : State) (e : Nat) (c : Cmd) : Steered q s (s.setCmd e c) :=
  steered_setSo q s rfl rfl

theorem steered_setPh (q : Nat → Prop) (s : State) (n : Nat) (p : Ph) : Steered q s (s.setPh n p) :=
  steered_setSo q s rfl rfl

theorem steered_refreshDrr (q : Nat → Prop) (s : State) (cl lv : Nat) : Steered q s (refreshDrr s cl lv) :=
  steered_setSo q s rfl rfl

theorem keeps_beginReady (s : State) (k : Nat) : Keeps [.gates] s (beginReady s k) := by
  unfold beginReady
  split
  next => exact Keeps.refl _ s
  next =>
    dsimp only
    split
    next => exact keeps_setGates s _
    next => exact keeps_readyAll s k

theorem steered_beginReady (q : Nat → Prop) (s : State) (k : Nat) : Steered q s (beginReady s k) := by
  have h := keeps_beginReady s k
  exact ⟨h.mono (by decide), by rw [h.so], by rw [h.so], fun j _ => State.core_congr h.cores j⟩

theorem steered_setCore {q : Nat → Prop} (s : State) {k : Nat} (c : Core) (hk : ¬ q k) : Steered q s (s.setCore k c) := by
  refine ⟨(keeps_setCore s k c).mono (by decide), rfl, rfl, fun j hj => ?_⟩
  exact onlyCore_setCore s k c j fun h => hk (h ▸ hj)

theorem steered_dropPre {q : Nat → Prop} (s : State) {k : Nat} (hk : ¬ q k) : Steered q s (dropPre s k) := by
  have hset := steered_setCore s { s.core k with pre := none } hk
  refine hset.trans ⟨fun p hp => ?_, rfl, rfl, fun _ _ => rfl⟩
  cases p
  case gates => simp at hp
  all_goals rfl

theorem steered_choose {q : Nat → Prop} {s t : State} {cl e : Nat} {c : Cmd} (h : choose s cl = some (e, c, t)) :
    Steered q s t := by
  unfold choose at h
  dsimp only at h
  split at h
  next => simp at h
  next =>
    split at h
    next => simp at h
    next =>
      obtain ⟨x, -, hx⟩ := Option.map_eq_some_iff.1 h
      rw [← (Prod.mk.inj (Prod.mk.inj hx).2).2]
      exact steered_setSo q s rfl rfl

theorem steered_preselectNext {q : Nat → Prop} (s : State) {k : Nat} (hk : ¬ q k) : Steered q s (preselectNext s k) := by
  unfold preselectNext
  split
  next e c t hc =>
    refine (steered_choose hc).trans ?_
    have hset := (steered_setCmd q t e { c with stage := .preselected k }).trans
      (steered_setCore _ { (t.setCmd e { c with stage := .preselected k }).core k with pre := some e } hk)
    unfold preselect
    dsimp only
    refine (hset.trans ?_).trans (steered_beginReady q _ k)
    split
    next => exact steered_refreshDrr q _ _ _
    next => exact Steered.refl q _
  next => exact Steered.refl q s

theorem steered_giveBack (q : Nat → Prop) (s : State) (c : Cmd) : Steered q s (giveBack s c) := by
  unfold giveBack
  split
  next => exact Steered.refl q s
  next => exact steered_setSo q s rfl rfl

theorem steered_toHead (q : Nat → Prop) (s : State) (e : Nat) (c : Cmd) : Steered q s (toHead s e c) := by
  have hmap : Steered q s (s.mapCmds fun _ x => { x with order := x.order + 1 }) := steered_setSo q s rfl rfl
  refine hmap.trans ?_
  unfold toHead
  dsimp only
  generalize s.mapCmds (fun _ x => { x with order := x.order + 1 }) = u
  refine Steered.trans ?_ (steered_giveBack q _ c)
  exact (steered_order q u (u.so.nextOrder + 1)).trans (steered_setCmd q _ e _)

theorem steered_displace {q : Nat → Prop} (s : State) {k : Nat} (hk : ¬ q k) : Steered q s (displace s k) := by
  unfold displace
  split
  next => exact Steered.refl q s
  next e _ =>
    refine (steered_dropPre s hk).trans ?_
    dsimp only
    split
    next => exact steered_toHead q _ e _
    next => exact Steered.refl q _

theorem lowestPre_mem {l : List (Nat × Nat)} {x : Nat × Nat} (h : lowestPre l = some x) : x ∈ l := by
  induction l generalizing x with
  | nil => simp [lowestPre] at h
  | cons y l ih =>
    unfold lowestPre at h
    split at h
    next =>
      obtain rfl := Option.some.inj h
      exact List.mem_cons_self
    next z hz =>
      split at h
      next =>
        obtain rfl := Option.some.inj h
        exact List.mem_cons_self
      next =>
        obtain rfl := Option.some.inj h
        exact List.mem_cons_of_mem _ (ih hz)

/-- A core whose pre-selection counts among its cluster's holds one. -/
theorem pre_of_preLevels {s : State} {cl : Nat} {x : Nat × Nat} (h : x ∈ preLevels s cl) : (s.core x.1).pre ≠ none := by
  obtain ⟨k, -, hk⟩ := List.mem_filterMap.1 h
  split at hk
  next e he =>
    obtain ⟨c, -, rfl⟩ := Option.map_eq_some_iff.1 hk
    simp [he]
  next => simp at hk

theorem steered_noteEligible {q : Nat → Prop} {s : State} (hi : Idle q s) (cl lv : Nat) :
    Steered q s (noteEligible s cl lv) := by
  have hr := steered_refreshDrr q s cl lv
  have hi' := hr.idle hi
  unfold noteEligible
  dsimp only
  generalize refreshDrr s cl lv = u at hr hi'
  refine hr.trans ?_
  split
  next => exact Steered.refl q u
  next =>
    split
    next k hk =>
      have hbusy := List.find?_some hk
      rw [Bool.and_eq_true] at hbusy
      refine steered_preselectNext u fun hq => ?_
      rw [(hi' k hq).1] at hbusy
      exact absurd hbusy.1 (by decide)
    next =>
      split
      next k l hk =>
        have hnot : ¬ q k := fun hq => pre_of_preLevels (lowestPre_mem hk) (hi' k hq).2
        split
        next => exact (steered_displace u hnot).trans (steered_preselectNext _ hnot)
        next => exact Steered.refl q u
      next => exact Steered.refl q u

theorem steered_noteEntry {q : Nat → Prop} {s : State} (hi : Idle q s) (e : Nat) : Steered q s (noteEntry s e) := by
  unfold noteEntry
  split
  next =>
    split
    next =>
      split
      next => exact steered_noteEligible hi _ _
      next => exact Steered.refl q s
    next => exact Steered.refl q s
  next => exact Steered.refl q s

theorem steered_replaceEntry {q : Nat → Prop} {s : State} (hi : Idle q s) (e : Nat) : Steered q s (replaceEntry s e) := by
  unfold replaceEntry
  split
  next => exact Steered.refl q s
  next c _ =>
    split
    next k _ =>
      split
      next => exact steered_setCmd q s e _
      next =>
        dsimp only
        have hset : Steered q s ({ s with so := { s.so with nextOrder := s.so.nextOrder + 1 } }.setCmd e
            { c with list := some k, order := s.so.nextOrder + 1 }) :=
          (steered_order q s (s.so.nextOrder + 1)).trans (steered_setCmd q _ e _)
        exact hset.trans (steered_noteEntry (hset.idle hi) e)
    next => exact steered_setCmd q s e _

theorem steered_foldl {α : Type} {q : Nat → Prop} {f : State → α → State} (hf : ∀ s a, Idle q s → Steered q s (f s a))
    (l : List α) {s : State} (hi : Idle q s) : Steered q s (l.foldl f s) := by
  induction l generalizing s with
  | nil => exact Steered.refl q s
  | cons a l ih => exact (hf s a hi).trans (ih ((hf s a hi).idle hi))

/-- A pigeonhole takes a new home cluster (R137). -/
def rehomed (s : State) (n : Nat) : State :=
  match phOwner s n with
  | some (slot, _) =>
    let s := s.setPh n { s.ph n with home := none }
    s.setPh n { s.ph n with home := homeFor s slot }
  | none => s

theorem steered_rehomed (q : Nat → Prop) (s : State) (n : Nat) : Steered q s (rehomed s n) := by
  unfold rehomed
  split
  next => exact (steered_setPh q s n _).trans (steered_setPh q _ n _)
  next => exact Steered.refl q s

/-- Logical cluster cl is out of service. -/
def clusterOff (s : State) (cl : Nat) : State :=
  { s with so := { s.so with clusterOut := s.so.clusterOut ||| BitVec.ofNat 8 (2 ^ cl), resteer := true } }

theorem resteer_eq (s : State) (cl : Nat) : ∃ homed placed, resteer s cl =
    refreshCauses (List.foldl replaceEntry (List.foldl rehomed (clusterOff s cl) homed) placed) := ⟨_, _, rfl⟩

theorem keeps_refreshCauses (s : State) : Keeps [.arrays] s (refreshCauses s) := keeps_setArrays s _

/-- A cluster leaves service: its own bit is set, and what is re-placed goes elsewhere (R137). -/
theorem resteer_facts {q : Nat → Prop} {s : State} (hi : Idle q s) (cl : Nat) :
    Keeps [.so, .cores, .gates, .arrays] s (resteer s cl) ∧ (resteer s cl).so.resteer = true ∧
    (resteer s cl).so.clusterOut = s.so.clusterOut ||| BitVec.ofNat 8 (2 ^ cl) ∧ ∀ j, q j → (resteer s cl).core j = s.core j := by
  obtain ⟨homed, placed, heq⟩ := resteer_eq s cl
  have hoff : Keeps [.so] s (clusterOff s cl) := by
    intro p hp
    cases p
    case so => simp at hp
    all_goals rfl
  have hhomes := steered_foldl (fun t n _ => steered_rehomed q t n) homed (s := clusterOff s cl) hi
  have hplaced := hhomes.trans (steered_foldl (fun t e ht => steered_replaceEntry ht e) placed (hhomes.idle hi))
  rw [heq]
  generalize List.foldl replaceEntry (List.foldl rehomed (clusterOff s cl) homed) placed = u at hplaced
  have hr := keeps_refreshCauses u
  refine ⟨(hoff.comp hplaced.keeps (rs := [.so, .cores, .gates])).comp hr, ?_, ?_, fun j hj => ?_⟩
  · rw [hr.so, hplaced.resteer]
    rfl
  · rw [hr.so, hplaced.out]
    rfl
  · rw [State.core_congr hr.cores, hplaced.cores j hj]
    rfl

/-! ### What a lost cluster's cores become (R136, R245, R389) -/

/-- A core that runs nothing, holds nothing and has its registers at zero. -/
def Core.blank (c : Core) : Prop := c.cmd = none ∧ c.pre = none ∧ ∀ m, c.reg m = 0

/-- What is left of a core that is lost: its unit scrubs, and its counts stay. -/
def Core.lost (c : Core) : Core :=
  { wmu := c.wmu.scrub, wmuFaults := c.wmuFaults, busy1ms := c.busy1ms, busy1s := c.busy1s }

theorem Core.blank_lost (c : Core) : c.lost.blank := by
  refine ⟨rfl, rfl, fun m => ?_⟩
  rw [Core.reg]
  split <;> rfl

theorem loseCore_facts (s : State) (k : Nat) : Keeps [.cores, .arrays, .keys, .entropy, .gates] s (loseCore s k) ∧
    ((loseCore s k).core k).blank ∧ ∀ j, j ≠ k → (loseCore s k).core j = s.core j := by
  have hk := (turnsEnded_dropPre s k).keeps.trans (turnsEnded_endTurn (dropPre s k) k).keeps
  have hother (j : Nat) (hj : j ≠ k) : (endTurn (dropPre s k) k).core j = s.core j := by
    rw [endTurn_core_other _ hj]
    exact (steered_dropPre (q := fun j => j ≠ k) s (by simp)).cores j hj
  have heq : ∃ g, loseCore s k =
      { (endTurn (dropPre s k) k).setCore k ((endTurn (dropPre s k) k).core k).lost with gates := g } := ⟨_, rfl⟩
  obtain ⟨g, heq⟩ := heq
  rw [heq]
  generalize endTurn (dropPre s k) k = u at hk hother
  have hset := (keeps_setCore u k (u.core k).lost).comp (keeps_setGates _ g)
    (rs := [.cores, .arrays, .keys, .entropy, .gates])
  refine ⟨hk.trans hset, ?_, fun j hj => ?_⟩
  · have hcore : (u.setCore k (u.core k).lost).core k = (u.core k).lost := State.core_setCore ..
    show ((u.setCore k (u.core k).lost).core k).blank
    rw [hcore]
    exact Core.blank_lost _
  · exact (onlyCore_setCore u k (u.core k).lost j hj).trans (hother j hj)

theorem loseCores_facts (l : List Nat) (s : State) : Keeps [.cores, .arrays, .keys, .entropy, .gates] s (l.foldl loseCore s) ∧
    ∀ k, k ∈ l ∨ (s.core k).blank → ((l.foldl loseCore s).core k).blank := by
  induction l generalizing s with
  | nil => exact ⟨Keeps.refl _ s, fun k hk => hk.resolve_left (by simp)⟩
  | cons x l ih =>
    obtain ⟨hk, hblank, hother⟩ := loseCore_facts s x
    rw [List.foldl_cons]
    generalize loseCore s x = t at hk hblank hother
    obtain ⟨hkl, hl⟩ := ih t
    refine ⟨hk.trans hkl, fun k hkin => hl k ?_⟩
    by_cases hkx : k = x
    · exact Or.inr (hkx ▸ hblank)
    · rcases hkin with h | h
      · exact Or.inl ((List.mem_cons.1 h).resolve_left hkx)
      · exact Or.inr (by rw [hother k hkx]; exact h)

/-- A lost command waits again from the start; only its scratch area is cleared (R136). -/
theorem returnLost_facts (s : State) (e : Nat) : Keeps [.so, .wmem] s (returnLost s e) ∧
    (returnLost s e).so.clusterOut = s.so.clusterOut ∧ ∀ y ∈ (returnLost s e).wmem, y ∈ s.wmem := by
  unfold returnLost
  split
  next => exact ⟨Keeps.refl _ s, rfl, fun _ h => h⟩
  next c _ =>
    have hclear : Keeps [.wmem] s (clearScratch s e) := by
      intro p hp
      cases p
      case wmem => simp at hp
      all_goals rfl
    have hhead := steered_toHead (fun _ => True) (clearScratch s e) e (c.rerun (alwaysState s c.d.opcode))
    have hso : Keeps [.so] (clearScratch s e) (toHead (clearScratch s e) e (c.rerun (alwaysState s c.d.opcode))) := by
      intro p hp
      cases p
      case so => simp at hp
      all_goals
        unfold toHead giveBack
        dsimp only
        split <;> rfl
    refine ⟨hclear.comp hso, hhead.out, fun y hy => ?_⟩
    rw [hso.wmem] at hy
    exact (List.mem_filter.1 hy).1

theorem returnLosts_facts (l : List Nat) (s : State) : Keeps [.so, .wmem] s (l.foldl returnLost s) ∧
    (l.foldl returnLost s).so.clusterOut = s.so.clusterOut ∧ ∀ y ∈ (l.foldl returnLost s).wmem, y ∈ s.wmem := by
  induction l generalizing s with
  | nil => exact ⟨Keeps.refl _ s, rfl, fun _ h => h⟩
  | cons e l ih =>
    obtain ⟨hk, hout, hmem⟩ := returnLost_facts s e
    obtain ⟨hkl, houtl, hmeml⟩ := ih (returnLost s e)
    exact ⟨hk.trans hkl, houtl.trans hout, fun y hy => hmem y (hmeml y hy)⟩

/-! ### The numbers of the physical clusters (R479, R482) -/

theorem logicalOf_setLogical {s : State} {j : Nat} (v : Nat) (hj : j < s.units.logical.length) (y : Nat) :
    logicalOf (setLogical s j v) y = if y = j then v else logicalOf s y := by
  simp only [logicalOf, setLogical, List.getD_eq_getElem?_getD, List.getElem?_set]
  by_cases h : j = y
  · subst h
    simp [hj]
  · simp [h, Ne.symm h]

theorem logicalOf_congr {s t : State} (h : t.units.logical = s.units.logical) (y : Nat) : logicalOf t y = logicalOf s y := by
  rw [logicalOf, logicalOf, h]

theorem unitAt_congr {s t : State} (h : t.units.logical = s.units.logical) (v : Nat) : unitAt t v = unitAt s v := by
  rw [unitAt, unitAt]
  simp only [logicalOf_congr h]

theorem unitAt_some {s : State} {v j : Nat} (h : unitAt s v = some j) : j < 9 ∧ logicalOf s j = v := by
  unfold unitAt at h
  have hj := List.find?_some h
  exact ⟨List.mem_range.1 (List.mem_of_find?_eq_some h), beq_iff_eq.1 hj⟩

theorem keeps_setUnits (s : State) (u : Units) : Keeps [.units] s { s with units := u } := by
  intro p hp
  cases p
  case units => simp at hp
  all_goals rfl

/-! ### A lockstep mismatch (R136, R137, R479, R482) -/

/-- The mismatch counts against the physical cluster. -/
def mismatchNoted (s : State) (j : Nat) : State :=
  { s with units := { s.units with
      mismatches := tset [] s.units.mismatches j (s.time.toNat :: tget [] s.units.mismatches j) } }

/-- The module when the cores of a lost cluster are empty and its commands wait again. -/
def clusterEmptied (s : State) (cl j : Nat) : State :=
  let u := eventF (mismatchNoted s j) 0x0301 j 0 0
  (lostCommands u cl).foldl returnLost ((clusterCores cl).foldl loseCore u)

structure Emptied (s t : State) (cl : Nat) : Prop where
  cause : t.alarms.lastCause = 0x0301
  wmem : ∀ y ∈ t.wmem, y ∈ s.wmem
  cores : ∀ k ∈ clusterCores cl, (t.core k).blank
  out : t.so.clusterOut = s.so.clusterOut
  logical : t.units.logical = s.units.logical
  spareState : t.units.spareState = s.units.spareState
  replacing : t.units.replacing = s.units.replacing

theorem clusterEmptied_empties (s : State) (cl j : Nat) : Emptied s (clusterEmptied s cl j) cl := by
  have hnote : Keeps [.units] s (mismatchNoted s j) := keeps_setUnits s _
  have hev := keeps_eventF (mismatchNoted s j) 0x0301 j 0 0
  have hal := eventF_alarms (mismatchNoted s j) (c := 0x0301) j 0 0 (by decide)
  unfold clusterEmptied
  dsimp only
  generalize eventF (mismatchNoted s j) 0x0301 j 0 0 = u at hev hal
  obtain ⟨hlk, hblank⟩ := loseCores_facts (clusterCores cl) u
  generalize (clusterCores cl).foldl loseCore u = v at hlk hblank
  obtain ⟨hrk, hout, hmem⟩ := returnLosts_facts (lostCommands u cl) v
  generalize (lostCommands u cl).foldl returnLost v = w at hrk hout hmem
  have hunits : w.units = (mismatchNoted s j).units := by rw [hrk.units, hlk.units, hev.units]
  refine ⟨?_, fun y hy => ?_, fun k hk => ?_, ?_, by rw [hunits]; rfl, by rw [hunits]; rfl, by rw [hunits]; rfl⟩
  · rw [hrk.alarms, hlk.alarms, hal]
  · have := hmem y hy
    rwa [hlk.wmem, hev.wmem, hnote.wmem] at this
  · rw [State.core_congr hrk.cores]
    exact hblank k (Or.inl hk)
  · rw [hout, hlk.so, hev.so, hnote.so]

/-- The spare that takes a number, where one is ready (R479). -/
def readySpare (s : State) : Option Nat := if s.units.spareState = 0 then unitAt s spareMark else none

/-- The failed cluster goes to test, and its number to the spare or out of service. -/
def numberMoved (s : State) (cl j : Nat) (spare : Option Nat) : State :=
  let s := setLogical s j testMark
  match spare with
  | some i => takeNumber s i cl
  | none => resteer { s with units := { s.units with spareState := 1 } } cl

theorem clusterLost_eq {s : State} {cl j : Nat} (hj : unitAt s cl = some j) (hr : s.units.replacing.contains cl = false)
    (ho : s.so.clusterOut.getLsbD cl = false) :
    clusterLost s cl = numberMoved (clusterEmptied s cl j) cl j (readySpare (clusterEmptied s cl j)) := by
  unfold clusterLost
  rw [hj]
  dsimp only
  rw [hr, ho, if_neg (by decide)]
  rfl

theorem readySpare_of_emptied {s t : State} {cl : Nat} (h : Emptied s t cl) : readySpare t = readySpare s := by
  rw [readySpare, readySpare, h.spareState, unitAt_congr h.logical]

theorem clustersAreLost : Claims.ClustersAreLost := by
  intro s k cluster j x cl lost hj hlen hrep hout
  have hk : cl < 8 := by
    have := k.isLt
    omega
  have he := clusterEmptied_empties s cl j
  obtain ⟨hj9, hjcl⟩ := unitAt_some hj
  have hlost (t : State) (h1 : t.alarms.lastCause = 0x0301) (h2 : t.wmem = (clusterEmptied s cl j).wmem)
      (h3 : ∀ core ∈ clusterCores cl, t.core core = (clusterEmptied s cl j).core core) : lost (drivePins t) := by
    refine ⟨h1, ?_, fun core hc => ?_⟩
    · rw [drivePins_wmem, h2, List.all_eq_true]
      exact fun y hy => List.contains_iff_mem.2 (he.wmem y hy)
    · show (t.core core).blank
      rw [h3 core hc]
      exact he.cores core hc
  have hset : Keeps [.units] (clusterEmptied s cl j) (setLogical (clusterEmptied s cl j) j testMark) := keeps_setUnits _ _
  have hlog (y : Nat) := logicalOf_setLogical (s := clusterEmptied s cl j) testMark (by rw [he.logical, hlen]; exact hj9) y
  refine ⟨fun h0 hx => ?_, fun h0 => ?_, fun hc => ?_⟩
  · obtain ⟨hx9, hxv⟩ := unitAt_some hx
    have hxj : x ≠ j := by
      rintro rfl
      have hmark : (254 : Nat) = cl := hxv.symm.trans hjcl
      omega
    have hspare : readySpare s = some x := (if_pos h0).trans hx
    have hex : exec (.lockstepMismatch k) s = answer _ := congrArg answer (clusterLost_eq hj hrep hout)
    rw [readySpare_of_emptied he, hspare] at hex
    change _ = answer (takeNumber (setLogical (clusterEmptied s cl j) j testMark) x cl) at hex
    have htake (u : State) : Keeps [.units] u (takeNumber u x cl) := keeps_setUnits u _
    have hlog' (y : Nat) : logicalOf (takeNumber (setLogical (clusterEmptied s cl j) j testMark) x cl) y =
        if y = x then cl else logicalOf (setLogical (clusterEmptied s cl j) j testMark) y := by
      refine logicalOf_setLogical (s := setLogical (clusterEmptied s cl j) j testMark) cl ?_ y
      rw [setLogical, List.length_set, he.logical, hlen]
      exact hx9
    have hrepl : cl ∈ (takeNumber (setLogical (clusterEmptied s cl j) j testMark) x cl).units.replacing :=
      List.mem_append_right _ (List.mem_singleton.2 rfl)
    have hk' := hset.trans (htake _)
    generalize takeNumber (setLogical (clusterEmptied s cl j) j testMark) x cl = t at hex hlog' hrepl hk'
    refine ⟨_, hex, hlost t (by rw [hk'.alarms, he.cause]) hk'.wmem (fun core _ => State.core_congr hk'.cores core), ?_, ?_,
      hrepl, ?_, fun y hy hyx hyj => ?_⟩
    · exact (hlog' x).trans (if_pos rfl)
    · exact (hlog' j).trans ((if_neg (Ne.symm hxj)).trans ((hlog j).trans (if_pos rfl)))
    · rw [drivePins_so, hk'.so, he.out]
    · exact (hlog' y).trans ((if_neg hyx).trans ((hlog y).trans ((if_neg hyj).trans (logicalOf_congr he.logical y))))
  · have hspare : readySpare s = none := if_neg h0
    have hex : exec (.lockstepMismatch k) s = answer _ := congrArg answer (clusterLost_eq hj hrep hout)
    rw [readySpare_of_emptied he, hspare, numberMoved] at hex
    dsimp only at hex
    generalize hv : ({ setLogical (clusterEmptied s cl j) j testMark with
      units := { (setLogical (clusterEmptied s cl j) j testMark).units with spareState := 1 } } : State) = v at hex
    have hvk : Keeps [.units] (clusterEmptied s cl j) v := by
      rw [← hv]
      exact hset.trans (keeps_setUnits _ _)
    have hvspare : v.units.spareState = 1 := by rw [← hv]
    have hvlog : logicalOf v j = testMark := by
      rw [← hv]
      exact (hlog j).trans (if_pos rfl)
    have hidle : Idle (fun i => i ∈ clusterCores cl) v := by
      intro i hi
      rw [State.core_congr hvk.cores]
      exact ⟨(he.cores i hi).1, (he.cores i hi).2.1⟩
    obtain ⟨hrk, hrs, hro, hrc⟩ := resteer_facts hidle cl
    generalize resteer v cl = t at hex hrk hrs hro hrc
    refine ⟨_, hex, hlost t ?_ ?_ fun core hc => ?_, ?_, ?_, ?_, hrs⟩
    · rw [hrk.alarms, hvk.alarms, he.cause]
    · rw [hrk.wmem, hvk.wmem]
    · rw [hrc core hc, State.core_congr hvk.cores]
    · exact (logicalOf_congr (congrArg Units.logical hrk.units) j).trans hvlog
    · rw [drivePins_units, hrk.units, hvspare]
    · rw [drivePins_so, hro, BitVec.getLsbD_or, getLsbD_bit hk]
      simp
  · have hno : ¬ (!s.units.replacing.contains cluster.toNat) = true := by
      rw [hc]
      decide
    have hex : exec (.clusterReplaced cluster) s = answer _ := congrArg answer (if_neg hno)
    refine ⟨_, hex, ?_, ?_, ?_, fun y hy => ?_⟩
    · refine only_drivePins (Keeps.comp (ps := [.units, .so]) ?_ (keeps_refreshCauses _))
      intro p hp
      cases p
      case units | so => simp at hp
      all_goals rfl
    · rw [drivePins_units, (keeps_refreshCauses _).units]
      simp
    · rw [drivePins_so, (keeps_refreshCauses _).so]
    · rw [drivePins_so, (keeps_refreshCauses _).so]
      exact getLsbD_switched cluster.isLt s.so.clusterOut false hy

/-! ### Tests of a failed cluster and of the spare (R478, R481) -/

/-- What the retirement of a physical cluster shows (R477, R481). -/
theorem retireCluster_shows {s : State} {j : Nat} (hj : j < 9) (hlen : s.units.logical.length = 9) :
    logicalOf (retireCluster s j) j = retiredMark ∧ (retireCluster s j).warden.retClusters.getLsbD j = true ∧
    (retireCluster s j).clocks.pd.getLsbD (10 + j) = false ∧ (retireCluster s j).clocks.gates.getLsbD (1 + j) = false := by
  have hw := (retireCluster_keeps s j).2
  have hlog : logicalOf (retireCluster s j) j = logicalOf (setLogical s j retiredMark) j :=
    logicalOf_congr (congrArg Units.logical (keeps_journalRetire _ .cluster j).units) j
  have hclocks : (retireCluster s j).clocks = _ := (keeps_journalRetire _ .cluster j).clocks
  refine ⟨?_, ?_, ?_, ?_⟩
  · rw [hlog, logicalOf_setLogical _ (by rw [hlen]; exact hj), if_pos rfl]
  · rw [hw, BitVec.getLsbD_or, getLsbD_bit hj]
    simp
  · rw [hclocks]
    exact (getLsbD_switched (n := 10 + j) (by omega) s.clocks.pd false (by omega)).trans (if_pos rfl)
  · rw [hclocks]
    exact (getLsbD_switched (n := 1 + j) (by omega) s.clocks.gates false (by omega)).trans (if_pos rfl)

/-- With no number out of service a cluster becomes the spare (R481). -/
theorem becomeSpare_facts {s : State} {j : Nat} (hj : j < 9) (hlen : s.units.logical.length = 9) (hout : outCluster s = none) :
    Keeps [.units] s (becomeSpare s j) ∧ (becomeSpare s j).units.spareState = 0 ∧
    logicalOf (becomeSpare s j) j = spareMark := by
  have heq : becomeSpare s j = (let u := setLogical s j spareMark
      { u with units := { u.units with spareState := 0 } }) := by
    rw [becomeSpare, hout]
  rw [heq]
  refine ⟨keeps_setUnits s _, rfl, ?_⟩
  exact (logicalOf_setLogical spareMark (by rw [hlen]; exact hj) j).trans (if_pos rfl)

/-- The spare is quarantined for a failed test (R478). -/
def spareFailed (s : State) : State :=
  { s with units := { s.units with spareState := 2, spareFails := s.time.toNat :: s.units.spareFails.take 3 } }

theorem sparesAreTested : Claims.SparesAreTested := by
  intro s u pass j n first retires hlen
  have hretire (t : State) (i : Nat) (hi : i < 9) (ht : t.units.logical.length = 9) : retires (drivePins (retireCluster t i)) i :=
    retireCluster_shows hi ht
  have hfails (hj : unitAt s spareMark = some j) : exec (.spareTest false) s = answer (
      if within24h s (s.time.toNat :: s.units.spareFails.take 3) ≥ 2 then retireCluster (spareFailed s) j else spareFailed s) := by
    refine congrArg answer ?_
    rw [hj]
    rfl
  refine ⟨fun hn hmark => ?_, fun hmark => ?_, fun hj => ⟨fun hout => ?_, fun hfew => ?_, fun hmany => ?_⟩, fun hnone => ?_⟩
  · have hin : ¬ (n > 8 ∨ logicalOf s n ≠ testMark) := by
      rintro (h | h)
      · omega
      · exact h hmark
    have hex : exec (.failedClusterTest u pass) s = answer (
        if pass && within24h s (tget [] s.units.mismatches n) ≤ 1 then becomeSpare s n else retireCluster s n) :=
      congrArg answer (if_neg hin)
    refine ⟨fun hp hf hout => ?_, fun hbad => ?_⟩
    · have hpass : (pass && decide (within24h s (tget [] s.units.mismatches n) ≤ 1)) = true := by
        rw [hp, decide_eq_true hf]
        rfl
      rw [if_pos hpass] at hex
      obtain ⟨hk, hst, hlog⟩ := becomeSpare_facts (Nat.lt_succ_of_le hn) hlen hout
      exact ⟨_, hex, only_drivePins hk, hlog, hst⟩
    · have hfail : ¬ (pass && decide (within24h s (tget [] s.units.mismatches n) ≤ 1)) = true := by
        rw [Bool.and_eq_true, decide_eq_true_iff]
        rintro ⟨hp, hf⟩
        rcases hbad with h | h
        · exact Bool.false_ne_true (h.symm.trans hp)
        · exact h hf
      rw [if_neg hfail] at hex
      exact ⟨_, hex, only_drivePins (retireCluster_keeps s n).1, hretire s n (Nat.lt_succ_of_le hn) hlen⟩
  · exact congrArg answer (if_pos (Or.inr hmark))
  · have hex : exec (.spareTest true) s = answer (becomeSpare s j) := by
      refine congrArg answer ?_
      rw [hj]
      rfl
    obtain ⟨hk, hst, hlog⟩ := becomeSpare_facts (unitAt_some hj).1 hlen hout
    exact ⟨_, hex, only_drivePins hk, hst, hlog⟩
  · have hex := (hfails hj).trans (congrArg answer (if_neg (Nat.not_le.2 hfew)))
    exact ⟨_, hex, only_drivePins (keeps_setUnits s _), rfl, rfl⟩
  · have hex := (hfails hj).trans (congrArg answer (if_pos hmany))
    exact ⟨_, hex, hretire _ j (unitAt_some hj).1 hlen⟩
  · refine congrArg answer ?_
    rw [hnone]

/-! ### Commands that end where their memory fails (R484, R485) -/

theorem journalService_cmd_other (s : State) {e e' : Nat} (c : Cmd) (h : e' ≠ e) : (journalService s e c).cmd e' = s.cmd e' := by
  unfold journalService
  split
  next =>
    refine (State.cmd_congr (journal_so ..) e').trans ((State.cmd_setCmd_other _ _ h).trans ?_)
    exact State.cmd_congr (keeps_stampCompletion s c).so e'
  next => exact State.cmd_setCmd_other _ _ h

theorem completeWith_cmd_other {s : State} {e e' : Nat} {st : Code} (hst : frankable st = false) (h : e' ≠ e) :
    (completeWith s e st).cmd e' = s.cmd e' := by
  cases hc : s.cmd e with
  | none => simp only [completeWith, hc]
  | some c =>
    rw [completeWith_eq hc hst, journalService_cmd_other _ _ h]
    exact State.cmd_setCmd_other s _ h

/-- What the failure of one command leaves: no cached key more, and no other command changed. -/
structure CmdFails (s t : State) (e : Nat) : Prop where
  keeps : Keeps [.free, .outbox, .so, .tb, .journal, .pair, .cores, .arrays, .keys, .entropy, .gates] s t
  cache : t.keys.cache = s.keys.cache
  other : ∀ e', e' ≠ e → t.cmd e' = s.cmd e'

theorem failCmd_fails {st : Code} (hst : frankable st = false) (s : State) (e : Nat) : CmdFails s (failCmd s e st) e := by
  have hplain (u : State) (hu : TurnsEnded s u) : CmdFails s (completeWith u e st) e := by
    have hk := keeps_completeWith (s := u) (e := e) hst
    refine ⟨hu.keeps.comp hk, ?_, fun e' he => ?_⟩
    · rw [hk.keys, hu.keys]
    · rw [completeWith_cmd_other hst he]
      exact State.cmd_congr hu.keeps.so e'
  unfold failCmd
  split
  next => exact ⟨Keeps.refl _ s, rfl, fun _ _ => rfl⟩
  next =>
    split
    next => exact ⟨Keeps.refl _ s, rfl, fun _ _ => rfl⟩
    next k _ => exact hplain _ (turnsEnded_endTurn s k)
    next k _ => exact hplain _ (turnsEnded_dropPre s k)
    next => exact hplain s (TurnsEnded.refl s)

/-- A command that waits on its ready list ends with the status, and with nothing else (R95). -/
theorem failCmd_ready {st : Code} (hst : frankable st = false) {s : State} {e : Nat} {c : Cmd} (hc : s.cmd e = some c)
    (hr : c.stage = .ready) :
    ∃ c', (failCmd s e st).cmd e = some c' ∧ c'.stage = .done ∧ c'.status = st ∧ c'.output = [] ∧ c'.effects = [] := by
  have heq : failCmd s e st = completeWith s e st := by simp only [failCmd, hc, hr]
  obtain ⟨p, b, hcmd⟩ := completeWith_cmd hc hst
  exact ⟨_, by rw [heq, hcmd], rfl, rfl, rfl, rfl⟩

theorem failCmd_done {st : Code} {s : State} {e : Nat} {c : Cmd} (hc : s.cmd e = some c) (hd : c.stage = .done) :
    failCmd s e st = s := by
  simp only [failCmd, hc, hd]

/-- A run of failures: those named that waited on a ready list have ended with the status. -/
theorem failCmds_facts {st : Code} (hst : frankable st = false) (l : List Nat) (s : State) :
    let t := l.foldl (fun s e => failCmd s e st) s
    Keeps [.free, .outbox, .so, .tb, .journal, .pair, .cores, .arrays, .keys, .entropy, .gates] s t ∧
    t.keys.cache = s.keys.cache ∧
    (∀ e c, s.cmd e = some c → c.stage = .done → t.cmd e = some c) ∧
    ∀ e c, s.cmd e = some c → c.stage = .ready → e ∈ l →
      ∃ c', t.cmd e = some c' ∧ c'.status = st ∧ c'.output = [] ∧ c'.effects = [] := by
  induction l generalizing s with
  | nil => exact ⟨Keeps.refl _ s, rfl, fun _ _ h _ => h, fun _ _ _ _ h => absurd h (by simp)⟩
  | cons x l ih =>
    have hx := failCmd_fails hst s x
    obtain ⟨hk, hcache, hdone, hready⟩ := ih (failCmd s x st)
    refine ⟨hx.keeps.trans hk, hcache.trans hx.cache, fun e c hc hd => hdone e c ?_ hd, fun e c hc hr hin => ?_⟩
    · by_cases hex : e = x
      · subst hex
        rw [failCmd_done hc hd]
        exact hc
      · exact (hx.other e hex).trans hc
    · by_cases hex : e = x
      · subst hex
        obtain ⟨c', hc', hd, hstatus, hout, heff⟩ := failCmd_ready hst hc hr
        exact ⟨c', hdone e c' hc' hd, hstatus, hout, heff⟩
      · exact hready e c ((hx.other e hex).trans hc) hr ((List.mem_cons.1 hin).resolve_left hex)

theorem mem_holders {s : State} {bad : Nat → Bool} {e : Nat} {c : Cmd} (hc : s.cmd e = some c) (hr : c.stage = .ready)
    (hb : bad (stagingAddr e) = true ∨ bad (scratchAddr e) = true) : e ∈ holders s bad := by
  refine List.mem_map.2 ⟨(e, c), List.mem_filter.2 ⟨mem_of_lookup hc, ?_⟩, rfl⟩
  have hnot : (c.stage != .done) = true := by rw [hr]; decide
  rw [hnot, Bool.true_and, Bool.or_eq_true]
  exact hb

/-! ### Working-memory channels (R483 to R485) -/

/-- The reads of a channel that failed within the last hour. -/
def recentErrors (s : State) (ch : Nat) : List Nat :=
  (s.time.toNat :: tget [] s.units.channelErrors ch).filter (fun t => decide (s.time.toNat - t < 3600000000000))

/-- The module when an uncorrectable read has been counted and its event raised. -/
def errorNoted (s : State) (ch : Nat) : State :=
  eventF { s with units := { s.units with channelErrors := tset [] s.units.channelErrors ch (recentErrors s ch) } } 0x0306 ch 0
    (if (recentErrors s ch).length > 16 then 32 else 64)

theorem errorNoted_facts (s : State) (ch : Nat) :
    Keeps [.free, .outbox, .alarms, .msix, .tb, .journal, .pair, .units] s (errorNoted s ch) ∧
    (errorNoted s ch).alarms.lastCause = 0x0306 ∧ tget [] (errorNoted s ch).units.channelErrors ch = recentErrors s ch ∧
    (errorNoted s ch).units.poisoned = s.units.poisoned := by
  have hset := keeps_setUnits s { s.units with channelErrors := tset [] s.units.channelErrors ch (recentErrors s ch) }
  unfold errorNoted
  generalize hu : ({ s with units := { s.units with
    channelErrors := tset [] s.units.channelErrors ch (recentErrors s ch) } } : State) = u at hset
  have hev := keeps_eventF u 0x0306 ch 0 (if (recentErrors s ch).length > 16 then 32 else 64)
  have hal := eventF_alarms u (c := 0x0306) ch 0 (if (recentErrors s ch).length > 16 then 32 else 64) (by decide)
  refine ⟨hset.comp hev, by rw [hal], ?_, ?_⟩
  · rw [hev.units, ← hu]
    exact tget_tset_same ..
  · rw [hev.units, ← hu]

theorem exec_memoryError {s : State} {a : BitVec 31} {ok : Bool} {cached : List Nat}
    (h : s.warden.retChannels.getLsbD (channelOf s a.toNat) = false) : exec (.memoryError a ok cached none) s = answer (
      let ch := channelOf s a.toNat
      let u := errorNoted s ch
      if (recentErrors s ch).length > 16 then retireChannel (dropCached u cached) ch
      else if ok then u
      else
        let page := a.toNat / 4096
        let u := dropCached { u with units := { u.units with poisoned := page :: u.units.poisoned.filter (· ≠ page) } } cached
        (holders u (fun x => x / 4096 == page)).foldl (fun s e => failCmd s e integrityFault) u) :=
  congrArg answer (if_neg (by rw [h]; decide))

theorem keeps_dropCached (s : State) (l : List Nat) : Keeps [.keys] s (dropCached s l) := by
  intro p hp
  cases p
  case keys => simp at hp
  all_goals rfl

/-- Dropping keys as misses brings none in. -/
theorem dropCached_subset (s : State) (l : List Nat) : ∀ x ∈ (dropCached s l).keys.cache, x ∈ s.keys.cache := by
  intro x hx
  obtain ⟨⟨y, i⟩, hy, rfl⟩ := List.mem_map.1 hx
  exact List.fst_mem_of_mem_zipIdx (List.mem_filter.1 hy).1

theorem retireChannel_facts {s : State} {ch : Nat} (hch : ch < 8) (hcopies : ∀ y, y < 8 → (s.boot.channels.getD y 0).toNat ≠ ch) :
    (retireChannel s ch).warden.retChannels.getLsbD ch = true ∧
    ∀ e c, s.cmd e = some c → c.stage = .ready → (channelOf s (stagingAddr e) = ch ∨ channelOf s (scratchAddr e) = ch) →
      ∃ c', (retireChannel s ch).cmd e = some c' ∧ c'.status = channelRetired ∧ c'.output = [] ∧ c'.effects = [] := by
  let v : State := { s with warden := { s.warden with retChannels := s.warden.retChannels ||| BitVec.ofNat 8 (2 ^ ch) } }
  have hv : Keeps [.warden] s v := by
    intro p hp
    cases p
    case warden => simp at hp
    all_goals rfl
  have hj := keeps_journalRetire v .channel ch
  have hnone (t : State) (ht : t.boot = s.boot) : copiesIn t ch = [] := by
    rw [copiesIn, List.filter_eq_nil_iff, ht]
    intro y hy
    rw [beq_iff_eq]
    exact hcopies y (List.mem_range.1 hy)
  have heq : retireChannel s ch =
      (copiesIn ((holders (journalRetire v .channel ch) (fun a => channelOf (journalRetire v .channel ch) a == ch)).foldl
        (fun s e => failCmd s e channelRetired) (journalRetire v .channel ch)) ch).foldl loseCopy
      ((holders (journalRetire v .channel ch) (fun a => channelOf (journalRetire v .channel ch) a == ch)).foldl
        (fun s e => failCmd s e channelRetired) (journalRetire v .channel ch)) := rfl
  rw [heq]
  have hw : (journalRetire v .channel ch).warden = v.warden := hj.warden
  generalize journalRetire v .channel ch = u at hj hw
  obtain ⟨hk, -, -, hready⟩ := failCmds_facts (st := channelRetired) (by decide) (holders u (fun a => channelOf u a == ch)) u
  generalize hholders : holders u (fun a => channelOf u a == ch) = l at hk hready
  rw [hnone _ (by rw [hk.boot, hj.boot, hv.boot])]
  refine ⟨?_, fun e c hc hr hbad => ?_⟩
  · show (List.foldl (fun s e => failCmd s e channelRetired) u l).warden.retChannels.getLsbD ch = true
    rw [hk.warden, hw, BitVec.getLsbD_or, getLsbD_bit hch]
    simp
  · have hcu : u.cmd e = some c := (State.cmd_congr hj.so e).trans ((State.cmd_congr hv.so e).trans hc)
    refine hready e c hcu hr ?_
    rw [← hholders]
    refine mem_holders hcu hr ?_
    have hsame (y : Nat) : channelOf u y = channelOf s y := by rw [channelOf, channelOf, hj.boot, hv.boot]
    rw [beq_iff_eq, beq_iff_eq, hsame, hsame]
    exact hbad

theorem memoryErrorsAct : Claims.MemoryErrorsAct := by
  intro s a ok copy cached table e c ch page recent i held
  have hch : ch < 8 := Nat.mod_lt _ (by decide)
  refine ⟨fun hret => ?_, fun hret hfew => ⟨?_, ?_⟩, fun hret hmany hcopies => ?_, fun hroom => ?_, fun x hlost hlen hx => ?_⟩
  · exact congrArg answer (if_pos hret)
  · have hnot : ¬ (recentErrors s (channelOf s a.toNat)).length > 16 := Nat.not_lt.2 hfew
    have hex := (exec_memoryError (ok := true) (cached := cached) hret).trans (congrArg answer ((if_neg hnot).trans (if_pos rfl)))
    obtain ⟨hk, hcause, hrec, hpois⟩ := errorNoted_facts s ch
    exact ⟨_, hex, only_drivePins hk, hcause, hrec, hpois⟩
  · have hnot : ¬ (recentErrors s (channelOf s a.toNat)).length > 16 := Nat.not_lt.2 hfew
    have hex := (exec_memoryError (ok := false) (cached := cached) hret).trans
      (congrArg answer ((if_neg hnot).trans (if_neg (by decide))))
    obtain ⟨hk, hcause, hrec, hpois⟩ := errorNoted_facts s ch
    dsimp only at hex
    rw [show channelOf s a.toNat = ch from rfl] at hex
    generalize errorNoted s ch = u at hex hk hcause hrec hpois
    let v : State := { u with units := { u.units with poisoned := page :: u.units.poisoned.filter (· ≠ page) } }
    have hv : Keeps [.units] u v := keeps_setUnits u _
    have hd := keeps_dropCached v cached
    have hsub := dropCached_subset v cached
    have hpage : page ∈ (dropCached v cached).units.poisoned := List.mem_cons_self
    change _ = answer ((holders (dropCached v cached) (fun x => x / 4096 == page)).foldl
      (fun s e => failCmd s e integrityFault) (dropCached v cached)) at hex
    generalize dropCached v cached = w at hex hd hsub hpage
    obtain ⟨hf, hcache, -, hready⟩ := failCmds_facts (st := integrityFault) (by decide)
      (holders w (fun x => x / 4096 == page)) w
    refine ⟨_, hex, ?_, ?_, fun x hx => ?_, fun ⟨hc, hr, _, hbad, _⟩ => ?_⟩
    · rw [drivePins_units, hf.units]
      exact hpage
    · rw [drivePins_warden, hf.warden, hd.warden, hv.warden, hk.warden]
    · rw [drivePins_keys, hcache] at hx
      have := hsub x hx
      rwa [hv.keys, hk.keys] at this
    · have hcw : w.cmd e = some c := by
        refine (State.cmd_congr ?_ e).trans hc
        rw [hd.so, hv.so, hk.so]
      exact hready e c hcw hr (mem_holders hcw hr (by simpa using hbad))
  · have hyes : (recentErrors s (channelOf s a.toNat)).length > 16 := hmany
    have hex := (exec_memoryError (ok := ok) (cached := cached) hret).trans (congrArg answer (if_pos hyes))
    obtain ⟨hk, -, -, -⟩ := errorNoted_facts s ch
    rw [show channelOf s a.toNat = ch from rfl] at hex
    generalize errorNoted s ch = u at hex hk
    have hd := keeps_dropCached u cached
    generalize dropCached u cached = w at hex hd
    have hboot : w.boot = s.boot := by rw [hd.boot, hk.boot]
    obtain ⟨hbit, hready⟩ := retireChannel_facts (s := w) hch (by rw [hboot]; exact hcopies)
    generalize retireChannel w ch = v at hex hbit hready
    refine ⟨_, hex, hbit, fun ⟨hc, hr, _, hbad, _⟩ => hready e c ?_ hr ?_⟩
    · refine (State.cmd_congr ?_ e).trans hc
      rw [hd.so, hk.so]
    · have hsame (y : Nat) : channelOf w y = channelOf s y := by rw [channelOf, channelOf, hboot]
      rw [hsame, hsame]
      exact hbad
  · have hex : exec (.newSecondCopy table copy true) s = answer
        { s with units := { s.units with reserve := tset 0 s.units.reserve i (tget 0 s.units.reserve i + 1) } } :=
      congrArg answer (if_pos hroom)
    exact ⟨_, hex, only_drivePins (keeps_setUnits s _), by rw [drivePins_units, tget_tset_same], rfl⟩
  · have hnot : ¬ (!s.units.lostCopies.contains i) = true := by
      rw [hlost]
      decide
    have hex : exec (.newSecondCopy table copy false) s = answer { s with
        boot := { s.boot with channels := s.boot.channels.set i (BitVec.ofNat 8 x) }
        units := { s.units with lostCopies := s.units.lostCopies.filter (· ≠ i), reserve := tset 0 s.units.reserve i 0 } } := by
      refine congrArg answer ((if_neg hnot).trans ?_)
      dsimp only
      rw [hx]
    have hi : i < 8 := by
      have := table.isLt
      show 2 * table.toNat + (if copy then 1 else 0) < 8
      split <;> omega
    have hx256 : x < 256 := by
      obtain ⟨y, hy, hxy⟩ := List.mem_map.1 (List.mem_of_find?_eq_some hx)
      have hy4 := List.mem_range.1 hy
      have hold := (s.boot.channels.getD i 0).isLt
      omega
    refine ⟨_, hex, only_drivePins ?_, ?_, ?_, by rw [drivePins_units, tget_tset_same]⟩
    · intro p hp
      cases p
      case boot | units => simp at hp
      all_goals rfl
    · rw [drivePins_boot]
      simp only [List.getD_eq_getElem?_getD, List.getElem?_set, hlen, hi, if_true, Option.getD_some, BitVec.toNat_ofNat]
      exact Nat.mod_eq_of_lt hx256
    · rw [drivePins_units]
      simp

/-- Settles O42: a lost cluster's number goes to the spare or out of service, its tests decide what becomes of it, and
the errors of a channel end what lay in the page or in the channel. -/
theorem unitsFailAndRecover : Obligations.UnitsFailAndRecover := by
  unfold Obligations.UnitsFailAndRecover
  exact ⟨clustersAreLost, sparesAreTested, memoryErrorsAct⟩

end Sys2Proof.Machine
end

section
/-! journal streams and alignment of the timebase -/

namespace Sys2Proof.Machine
open Host

/-! ### Checkpoints, streaming and HEAD (R467, R470, R471) -/

/-- The place of the oldest checkpoint of this segment without a signature. -/
def unsigned (s : State) : Option Nat :=
  s.journal.ring.findIdx? (fun e => e.seg == s.journal.seg && e.isCheckpoint && e.sig.isEmpty)

/-- The module with checkpoint n signed under nonce octets kp (R467). -/
def signedAt (s : State) (priv kp : Octets) (n : Nat) : State :=
  { s with journal := { s.journal with ring := s.journal.ring.set n { s.journal.ring.getD n {} with
      sig := signP384 priv (sha 48 ((s.journal.ring.getD n {}).octets.take 0x80)) kp, frankId := frankId s } } }

/-- The nonce octets of a checkpoint signature: none while entropy has failed. -/
def checkpointNonce (s : State) : Octets × State := if s.entropy.failed then ([], s) else generate s 7 48 false

theorem keeps_checkpointNonce (s : State) : Keeps [.entropy, .free] s (checkpointNonce s).2 := by
  unfold checkpointNonce
  split
  next => exact Keeps.refl _ s
  next => exact keeps_generate s 7 48 false []

theorem exec_checkpointSign {s : State} {priv : Octets} {n : Nat} (hp : s.keys.frankPriv = some priv)
    (hi : unsigned s = some n) (hr : s.entropy.failed = true ∨ canServe s 7 = true) :
    exec .checkpointSign s = answer (signedAt (checkpointNonce s).2 priv (checkpointNonce s).1 n) := by
  have hrun : ¬ (!s.entropy.failed && !canServe s 7) = true := by
    rcases hr with h | h <;> rw [h] <;> simp
  have hj : (checkpointNonce s).2.journal = s.journal := (keeps_checkpointNonce s).journal
  have hex : exec .checkpointSign s = answer { (checkpointNonce s).2 with journal := { (checkpointNonce s).2.journal with
      ring := (checkpointNonce s).2.journal.ring.set n { s.journal.ring.getD n {} with
        sig := signP384 priv (sha 48 ((s.journal.ring.getD n {}).octets.take 0x80)) (checkpointNonce s).1
        frankId := frankId (checkpointNonce s).2 } } } := by
    unfold unsigned at hi
    refine congrArg answer ?_
    rw [hp, hi]
    exact if_neg hrun
  rw [hex, signedAt, hj]

theorem streamN_one {s : State} {e : JEntry} (n : Nat) (he : streamable s s.journal.tail.toNat = some e)
    (hmax : s.journal.tail ≠ BitVec.allOnes 64) (hlast : streamable s (s.journal.tail.toNat + 1) = none) :
    streamN (n + 2) s = { emit s (.hostWrite s.journal.port
      (s.journal.streamBase + BitVec.ofNat 64 (256 * (s.journal.tail.toNat % 2 ^ s.journal.streamLog2.toNat))) e.octets) with
      journal := { s.journal with tail := s.journal.tail + 1 } } := by
  have hnext : (s.journal.tail + 1).toNat = s.journal.tail.toNat + 1 := by
    have hlt : s.journal.tail.toNat ≠ 2 ^ 64 - 1 := fun h => hmax (BitVec.eq_of_toNat_eq (by simpa using h))
    have hb := s.journal.tail.isLt
    rw [BitVec.toNat_add]
    simp
    omega
  rw [streamN]
  dsimp only
  rw [he]
  dsimp only
  generalize hu : ({ emit s (.hostWrite s.journal.port (s.journal.streamBase +
    BitVec.ofNat 64 (256 * (s.journal.tail.toNat % 2 ^ s.journal.streamLog2.toNat))) e.octets) with
    journal := { s.journal with tail := s.journal.tail + 1 } } : State) = u
  have hnone : streamable u u.journal.tail.toNat = none := by
    rw [← hu]
    show streamable s (s.journal.tail + 1).toNat = none
    rw [hnext]
    exact hlast
  rw [streamN]
  dsimp only
  rw [hnone]

theorem releaseWaiting_idle {s : State} (hw : s.journal.waiting = []) (hu : s.journal.unrecorded = 0) (n : Nat) :
    releaseWaiting n s = s := by
  cases n with
  | zero => rfl
  | succ n =>
    unfold releaseWaiting
    split
    next => rfl
    next =>
      rw [if_neg (by rw [hu]; simp), hw]

theorem releaseStalled_idle {s : State} (h : ∀ x ∈ s.so.cmds, x.2.stage ≠ .commitWait) : releaseStalled s = s := by
  have hstep (x : Nat × Cmd) : (match s.cmd x.1 with
      | some c => if c.stage = .commitWait ∧ c.commitSeq = none then commitOrWait s x.1 c else s
      | none => s) = s := by
    split
    next c hc => exact if_neg fun hw => h _ (mem_of_lookup hc) hw.1
    next => rfl
  unfold releaseStalled
  induction s.so.cmds with
  | nil => rfl
  | cons x l ih =>
    rw [List.foldl_cons]
    exact (congrArg (fun t => List.foldl _ t l) (hstep x)).trans ih

theorem journalStreams : Claims.JournalStreams := by
  intro s b v e n j i
  refine ⟨fun hp hi hr => ?_, fun hno => ?_, rfl, fun hoff hfind => ⟨fun hle => ?_, fun hlt => ?_⟩, fun hon he hmax hlast => ?_,
    fun hno => ?_, fun hout => ?_, fun hlo hhi hwait hrec hpair hcmds => ?_⟩
  · obtain ⟨priv, hpriv⟩ := Option.isSome_iff_exists.1 hp
    have hex := exec_checkpointSign hpriv hi hr
    have hk := keeps_checkpointNonce s
    generalize checkpointNonce s = x at hex hk
    have hj := hk.journal
    have hid : frankId x.2 = frankId s := by rw [frankId, frankId, hk.keys]
    refine ⟨_, hex, ?_, ?_, ?_, ?_, signP384 priv (sha 48 ((s.journal.ring.getD n {}).octets.take 0x80)) x.1,
      signP384_length .., ?_⟩
    · exact only_drivePins ((hk.mono (by decide)).trans ((keeps_setJournal x.2 _).mono (by decide)))
    · rw [drivePins_journal, signedAt, hj, List.length_set]
    · rw [drivePins_journal, signedAt, hj]
    · rw [drivePins_journal, signedAt, hj]
    · rw [drivePins_journal, signedAt, hj, hid]
  · refine congrArg answer ?_
    rcases hno with h | h | ⟨hf, hc⟩
    · rw [h]
    · rw [show s.journal.ring.findIdx? _ = none from h]
      cases s.keys.frankPriv <;> rfl
    · split
      next => exact if_pos (by rw [hf, hc]; rfl)
      next => rfl
  · refine congrArg answer ((if_neg (by decide)).trans ((if_neg (by rw [show s.journal.streamEn = false from hoff]; decide)).trans ?_))
    dsimp only
    rw [show s.journal.ring.find? _ = some e from hfind]
    exact if_neg (Nat.not_lt.2 hle)
  · refine congrArg answer ((if_neg (by decide)).trans ((if_neg (by rw [show s.journal.streamEn = false from hoff]; decide)).trans ?_))
    dsimp only
    rw [show s.journal.ring.find? _ = some e from hfind]
    exact if_pos hlt
  · have hstream := streamN_one 62 he hmax hlast
    have hon' : ¬ (!s.journal.streamEn) = true := by
      rw [show s.journal.streamEn = true from hon]
      decide
    have hex : exec .journalStream s = answer (if (streamN 64 s).journal.tail = s.journal.tail then s
        else msixSend (streamN 64 s) ⟨(streamN 64 s).journal.port, 0⟩ (32 + (streamN 64 s).journal.vec.toNat)) :=
      congrArg answer (if_neg hon')
    have hmoved : ¬ (streamN 64 s).journal.tail = s.journal.tail := by
      rw [hstream]
      show ¬ s.journal.tail + 1 = s.journal.tail
      simp
    rw [if_neg hmoved] at hex
    have hj : (streamN 64 s).journal = { s.journal with tail := s.journal.tail + 1 } := by rw [hstream]
    have hk : Keeps [.outbox, .journal] s (streamN 64 s) := by
      rw [hstream]
      exact (keeps_emit s _).comp (keeps_setJournal _ _)
    have hsent : Emit.hostWrite s.journal.port (s.journal.streamBase +
        BitVec.ofNat 64 (256 * (s.journal.tail.toNat % 2 ^ s.journal.streamLog2.toNat))) e.octets ∈ (streamN 64 s).outbox := by
      rw [hstream]
      exact List.mem_cons_self
    generalize streamN 64 s = t at hex hj hk hsent
    have hm := keeps_msixSend t ⟨t.journal.port, 0⟩ (32 + t.journal.vec.toNat)
    refine ⟨_, hex, only_drivePins (hk.comp hm), ?_, ?_⟩
    · rw [drivePins_journal, hm.journal, hj]
    · exact (sent_msixSend t _ _).subset hsent
  · refine congrArg answer ?_
    rcases hno with h | h
    · exact if_pos (by rw [show s.journal.streamEn = false from h]; rfl)
    · have hstay : streamN 64 s = s := by
        rw [streamN]
        dsimp only
        rw [show streamable s s.journal.tail.toNat = none from h]
      rw [hstay, if_pos rfl, ite_self]
  · exact congrArg answer (if_pos hout)
  · have hin : ¬ (v.toNat < s.journal.head.toNat ∨ v.toNat > s.journal.tail.toNat) := by
      rintro (h | h)
      · exact absurd hlo (Nat.not_le.2 h)
      · exact absurd hhi (Nat.not_le.2 h)
    refine congrArg answer ((if_neg hin).trans ?_)
    dsimp only
    rw [hpair, if_neg (by decide), releaseWaiting_idle (by exact hwait) (by exact hrec)]
    exact releaseStalled_idle hcmds

/-! ### Alignment of the timebase (R457, R458, R459) -/

theorem logAlarm_tb (s : State) (a : AlarmInfo) : (logAlarm s a).tb = { s.tb with sources := (logAlarm s a).tb.sources } := by
  have hlog : (logged s a).tb = { s.tb with sources := (logged s a).tb.sources } := by
    unfold logged
    dsimp only
    split
    next => rw [(keeps_journal _ _).tb]; rfl
    next => rfl
  rw [logAlarm_eq]
  split
  next => rw [(keeps_msixBoth _ _).tb]; exact hlog
  next => exact hlog

theorem keeps_setTb (s : State) (t : Timebase) : Keeps [.tb] s { s with tb := t } := by
  intro p hp
  cases p
  case tb => simp at hp
  all_goals rfl

/-- The entry of a time change moves the sources of Postmarks alone. -/
theorem timeEntry_facts (s : State) (d : Int) (cause : Nat) :
    Keeps [.free, .outbox, .tb, .journal, .pair] s (timeEntry s d cause) ∧
    (timeEntry s d cause).tb = { s.tb with sources := (timeEntry s d cause).tb.sources } :=
  ⟨keeps_journalNow s 9 _, (stamped_journalNow s 9 _).1⟩

/-- OFFSET is stepped by D (R458). -/
def timeStepped (s : State) (h : BitVec 64) (d : Int) : State :=
  { s with tb := { s.tb with
      lastPtm := h, offset := s.tb.offset + BitVec.ofInt 64 d, slewing := false, slewLeft := 0 } }

/-- A slew by D begins (R458). -/
def timeSlewed (s : State) (h : BitVec 64) (d : Int) : State :=
  { s with tb := { s.tb with lastPtm := h, slewing := true, slewLeft := BitVec.ofInt 64 d } }

/-- A difference that is too large is refused (R458). -/
def timeRefused (s : State) (h : BitVec 64) : State := { s with tb := { s.tb with lastPtm := h, refused := true } }

theorem timeIsAligned : Claims.TimeIsAligned := by
  intro s h t0 d on i journals
  have hgate : (!t0.ptmEn || t0.adopted || !(s.boot.mode == .service || s.boot.mode == .maintenance)) = true ↔ ¬ on := by
    show _ ↔ ¬ (t0.ptmEn = true ∧ t0.adopted = false ∧ (s.boot.mode = .service ∨ s.boot.mode = .maintenance))
    cases t0.ptmEn <;> cases t0.adopted <;> simp
  refine ⟨fun hoff => ?_, fun hon => ?_, fun hs hl => congrArg answer (if_pos ⟨hs, hl⟩), fun hno => ?_⟩
  · exact ⟨congrArg answer (if_pos (hgate.2 hoff)), congrArg answer (if_pos (hgate.2 hoff))⟩
  · have hrun := fun hc => hgate.1 hc hon
    have hex : exec i s = answer (
        if d.natAbs ≤ 1000 then { s with tb := { t0 with lastPtm := h, aligned := true } }
        else if d > 1000 ∧ t0.stepOk = true then timeEntry (timeStepped s h d) d 0
        else if d.natAbs ≤ 1000000000 then timeEntry (timeSlewed s h d) d 1
        else notice (timeEntry (timeRefused s h) d 2) 0x0407 0 0 false) :=
      congrArg answer (if_neg hrun)
    refine ⟨congrArg answer (if_neg hrun), fun hd => ?_, fun hd hstep => ?_, fun hlo hhi hstep => ?_, fun hbig hstep => ?_⟩
    · exact hex.trans (congrArg answer (if_pos hd))
    · have hfar : ¬ d.natAbs ≤ 1000 := by omega
      rw [if_neg hfar, if_pos ⟨hd, hstep⟩] at hex
      have hk : Keeps [.tb] s (timeStepped s h d) := keeps_setTb s _
      obtain ⟨hek, het⟩ := timeEntry_facts (timeStepped s h d) d 0
      generalize timeEntry (timeStepped s h d) d 0 = v at hex hek het
      have hoff : BitVec.ofInt 64 d = h - s.time := BitVec.ofInt_toInt
      refine ⟨_, hex, ⟨only_drivePins ((hk.mono (by decide)).trans hek), ?_, ?_⟩, ?_, ?_, ?_⟩
      · rw [drivePins_tb, het]
        rfl
      · rw [drivePins_tb, het]
        rfl
      · show v.time = h
        rw [State.time, het]
        show t0.timeLocal + (t0.offset + BitVec.ofInt 64 d) = h
        rw [hoff, State.time, ← BitVec.add_assoc, BitVec.add_comm, BitVec.sub_add_cancel]
      · rw [drivePins_tb, het]
        rfl
      · rw [drivePins_tb, het]
        rfl
    · have hfar : ¬ d.natAbs ≤ 1000 := by omega
      have hno : ¬ (d > 1000 ∧ t0.stepOk = true) := by
        rintro ⟨h1, h2⟩
        rcases hstep with h3 | h3
        · omega
        · exact Bool.false_ne_true (h3.symm.trans h2)
      rw [if_neg hfar, if_neg hno, if_pos hhi] at hex
      have hk : Keeps [.tb] s (timeSlewed s h d) := keeps_setTb s _
      obtain ⟨hek, het⟩ := timeEntry_facts (timeSlewed s h d) d 1
      generalize timeEntry (timeSlewed s h d) d 1 = v at hex hek het
      have hoff : BitVec.ofInt 64 d = h - s.time := BitVec.ofInt_toInt
      refine ⟨_, hex, ⟨only_drivePins ((hk.mono (by decide)).trans hek), ?_, ?_⟩, ?_, ?_, ?_, ?_⟩
      · rw [drivePins_tb, het]
        rfl
      · rw [drivePins_tb, het]
        rfl
      · show v.time = s.time
        rw [State.time, het]
        rfl
      · rw [drivePins_tb, het]
        rfl
      · rw [drivePins_tb, het]
        show (BitVec.ofInt 64 d).toInt = d
        rw [hoff]
      · rw [drivePins_tb, het]
        rfl
    · have hfar : ¬ d.natAbs ≤ 1000 := by omega
      have hno : ¬ (d > 1000 ∧ t0.stepOk = true) := by
        rintro ⟨h1, h2⟩
        rcases hstep with h3 | h3
        · omega
        · exact Bool.false_ne_true (h3.symm.trans h2)
      rw [if_neg hfar, if_neg hno, if_neg (by omega)] at hex
      have hk : Keeps [.tb] s (timeRefused s h) := keeps_setTb s _
      obtain ⟨hek, het⟩ := timeEntry_facts (timeRefused s h) d 2
      generalize timeEntry (timeRefused s h) d 2 = v at hex hek het
      have hn := keeps_notice v 0x0407 0 0 false
      have hal := notice_alarms v (c := 0x0407) 0 0 false (by decide)
      have htb : (notice v 0x0407 0 0 false).tb = _ := logAlarm_tb v _
      change (notice v 0x0407 0 0 false).tb = { v.tb with sources := (notice v 0x0407 0 0 false).tb.sources } at htb
      generalize notice v 0x0407 0 0 false = w at hex hn hal htb
      rw [het] at htb
      refine ⟨_, hex, only_drivePins (((hk.mono (by decide)).trans (hek.mono (by decide))).trans hn), ?_, ?_, ?_, ?_, ?_, ?_⟩
      · show w.time = s.time
        rw [State.time, htb]
        rfl
      · rw [drivePins_tb, htb]
        rfl
      · rw [drivePins_tb, htb]
        rfl
      · rw [drivePins_tb, htb]
        rfl
      · rw [drivePins_alarms, hal]
      · rw [drivePins_alarms, hal]
  · refine congrArg answer (if_neg ?_)
    rintro ⟨h1, h2⟩
    rcases hno with h3 | h3
    · exact Bool.false_ne_true (h3.symm.trans h1)
    · exact h3 h2

/-- Settles O43: the streams go by the entries of the ring and the manager's HEAD, and a PTM exchange by the size and the
sign of the difference. -/
theorem journalStreamsAndTime : Obligations.JournalStreamsAndTime := by
  unfold Obligations.JournalStreamsAndTime
  exact ⟨journalStreams, timeIsAligned⟩

end Sys2Proof.Machine
end

section
/-! The pair's state: what telling leaves, and commits without a partner (R491, R498, R510, R513) -/

namespace Sys2Proof.Machine

open Host

/-! ### Telling: messages, journal entries, notices and vectors -/

/-- What goes out, is stamped and journalled moves counters of the pair and the timebase alone. -/
structure Told (s t : State) : Prop where
  keeps : Keeps [.free, .outbox, .tb, .journal, .pair, .entropy, .msix] s t
  tb : t.tb = { s.tb with sources := t.tb.sources }
  pair : t.pair = { s.pair with mseqTx := t.pair.mseqTx, unsent := t.pair.unsent, helloPriv := t.pair.helloPriv,
                                helloNonce := t.pair.helloNonce }

section
variable {s t u : State}

theorem Told.refl (s : State) : Told s s := ⟨Keeps.refl _ s, rfl, rfl⟩

theorem Told.trans (h : Told s t) (g : Told t u) : Told s u :=
  ⟨h.keeps.trans g.keeps, by rw [g.tb, h.tb], by rw [g.pair, h.pair]⟩

theorem Told.time (h : Told s t) : t.time = s.time := by rw [State.time, h.tb]; rfl

theorem Told.linkLive (h : Told s t) : linkLive t = linkLive s := by rw [Machine.linkLive, h.pair]; rfl

/-- Where neither the pair nor the timebase is touched. -/
theorem Told.of_keeps (h : Keeps [.free, .outbox, .journal, .entropy, .msix] s t) : Told s t :=
  ⟨h.mono (by decide), by rw [h.tb], by rw [h.pair]⟩

end

theorem told_stamp (s : State) (src : Nat) : Told s (stamp s src).2 := ⟨(keeps_stamp s src).mono (by decide), rfl, rfl⟩

theorem told_journal (s : State) (e : JEntry) : Told s (journal s e) := by
  refine ⟨(keeps_journal s e).mono (by decide), by rw [(keeps_journal s e).tb], ?_⟩
  rw [journal_pair]

theorem told_journalNow (s : State) (ty : BitVec 16) (d : Octets) : Told s (journalNow s ty d) :=
  (told_stamp s srcSupervisor).trans (told_journal _ _)

theorem told_generate (s : State) (i n : Nat) (pr : Bool) (add : Octets) : Told s (generate s i n pr add).2 :=
  .of_keeps ((keeps_generate s i n pr add).mono (by decide))

theorem told_emit (s : State) (m : Emit) : Told s (emit s m) := .of_keeps ((keeps_emit s m).mono (by decide))

theorem told_msixBoth (s : State) (v : Nat) : Told s (msixBoth s v) := .of_keeps ((keeps_msixBoth s v).mono (by decide))

theorem keeps_setPair (s : State) (p : Pair) : Keeps [.pair] s { s with pair := p } := by
  intro q hq
  cases q
  case pair => simp at hq
  all_goals rfl

theorem keeps_sendLink (s : State) (cls : BitVec 8) (o : Octets) : Keeps [.outbox, .pair] s (sendLink s cls o) := by
  unfold sendLink
  split
  next => exact (keeps_setPair s _).comp (keeps_emit _ _)
  next =>
    split
    next => exact (keeps_setPair s _).mono (by decide)
    next => exact Keeps.refl _ s

theorem told_sendLink (s : State) (cls : BitVec 8) (o : Octets) : Told s (sendLink s cls o) :=
  ⟨(keeps_sendLink s cls o).mono (by decide), by rw [(keeps_sendLink s cls o).tb], by rw [sendLink_pair]⟩

theorem sendLink_live {s : State} (h : linkLive s = true) (cls : BitVec 8) (o : Octets) : sendLink s cls o =
    { s with pair := { s.pair with mseqTx := s.pair.mseqTx + 1 },
             outbox := .mirror false cls (le 8 (s.pair.mseqTx + 1) ++ o) :: s.outbox } := if_pos h

theorem linkLive_iff (s : State) : linkLive s = true ↔ Live s := by
  rw [linkLive, Live, Bool.and_eq_true]
  refine and_congr_right fun _ => ?_
  cases s.pair.session with
  | none => simp
  | some x => simp

theorem told_sendHello (s : State) : Told s (sendHello s) := by
  unfold sendHello
  split
  next => exact Told.refl s
  next =>
    have hdraw : Told s (generate (generate (generate s 6 56 false).2 6 32 false).2 7 48 false).2 :=
      ((told_generate s 6 56 false []).trans (told_generate _ 6 32 false [])).trans (told_generate _ 7 48 false [])
    dsimp only
    refine hdraw.trans (Told.trans ?_ (told_emit _ _))
    generalize (generate (generate (generate s 6 56 false).2 6 32 false).2 7 48 false).2 = t
    exact ⟨(keeps_setPair _ _).mono (by decide), rfl, rfl⟩

theorem told_announce (s : State) : Told s (announce s) := by
  unfold announce
  split
  next => exact told_sendHello s
  next => exact Told.refl s

/-- A mode is set, and its entry told. -/
theorem told_setMode (s : State) (m : Mode) (c : Code) : Told { s with boot := { s.boot with mode := m } } (setMode s m c) := by
  unfold setMode
  split
  next h =>
    rw [← h]
    exact Told.refl s
  next => exact told_journalNow _ _ _

/-- A role is entered, where no exit from MAINTENANCE waits for it: the boot unit, and what is told. -/
theorem told_enterRole {s : State} (m : Mode) (trigger : Code) (hexit : s.boot.exitBy = none) :
    ∃ r, Told { entering s r with boot := { (entering s r).boot with mode := m } } (enterRole s m trigger) := by
  obtain ⟨r, hr⟩ := enterRole_eq m trigger hexit
  exact ⟨r, hr ▸ told_setMode (entering s r) m trigger⟩

/-! ### Commits without a partner -/

/-- What a commit leaves in a module without a partner: the role and the Crown, the mode, and the pair epoch. -/
structure Committed (s t : State) : Prop where
  boot : t.boot = { s.boot with curves := t.boot.curves }
  pair : t.pair = s.pair
  epoch : t.keys.pairEpoch = s.keys.pairEpoch

section
variable {s t u : State}

theorem Committed.refl (s : State) : Committed s s := ⟨rfl, rfl, rfl⟩

theorem Committed.trans (h : Committed s t) (g : Committed t u) : Committed s u :=
  ⟨by rw [g.boot, h.boot], g.pair.trans h.pair, g.epoch.trans h.epoch⟩

theorem Committed.of_keeps {ps : List Part} (h : Keeps ps s t) (hb : .boot ∉ ps := by decide) (hp : .pair ∉ ps := by decide)
    (hk : .keys ∉ ps := by decide) : Committed s t := ⟨by rw [h.boot hb], h.pair hp, by rw [h.keys hk]⟩

theorem Committed.lone (h : Committed s t) (hs : s.lone) : t.lone := by
  rw [State.lone, h.pair]
  exact hs

theorem Committed.foldl {α : Type} (f : State → α → State) (hf : ∀ s a, Committed s (f s a)) (l : List α) (s : State) :
    Committed s (l.foldl f s) := by
  induction l generalizing s with
  | nil => exact .refl s
  | cons a l ih => exact (hf s a).trans (ih (f s a))

/-- The same, where each turn needs that no partner is there. -/
theorem Committed.foldl_of_lone {α : Type} (f : State → α → State) (hf : ∀ s a, s.lone → Committed s (f s a)) (l : List α)
    (s : State) (hs : s.lone) : Committed s (l.foldl f s) := by
  induction l generalizing s with
  | nil => exact .refl s
  | cons a l ih => exact (hf s a hs).trans (ih (f s a) ((hf s a hs).lone hs))

end

theorem committed_setPh (s : State) (n : Nat) (p : Ph) : Committed s (s.setPh n p) := ⟨rfl, rfl, rfl⟩

theorem committed_holdRoots (s : State) (n : Nat) : Committed s (holdRoots s n) := by
  unfold holdRoots
  split <;> exact ⟨rfl, rfl, rfl⟩

theorem committed_removed (s : State) (n : Nat) : Committed s
    { s with keys := { s.keys with aliases := removeAt s.keys.aliases n, rootFile := removeAt s.keys.rootFile n } } :=
  ⟨rfl, rfl, rfl⟩

theorem committed_installSlot (s : State) (n : Nat) (f : SlotFields) (st : SlotState) : Committed s (installSlot s n f st) := by
  have hfree : Committed s (freeCounters s f) := ⟨rfl, rfl, rfl⟩
  have hzero (t : State) : Committed t (zeroData t f) := by
    unfold zeroData
    split <;> exact ⟨rfl, rfl, rfl⟩
  have hphs : Committed s (resetPhs (zeroData (freeCounters s f) f) f) :=
    (hfree.trans (hzero _)).trans (.foldl _ (fun t i => committed_setPh t _ _) _ _)
  have hslot (t : State) (x : Slot) : Committed t (t.setSlot n x) := ⟨rfl, rfl, rfl⟩
  exact ((hphs.trans (committed_removed _ n)).trans (hslot _ _)).trans (committed_holdRoots _ n)

theorem committed_resumePh (s : State) (n : Nat) : Committed s (resumePh s n) := by
  have htail (t : State) (p : Ph) (v : Nat) : Committed t (actTail t n p v) := by
    unfold actTail
    split
    · exact committed_setPh _ _ _
    · split <;> exact committed_setPh _ _ _
  have hhead (t : State) (p : Ph) (v : Nat) : Committed t (actHead t n p v) := by
    unfold actHead
    split <;> exact committed_setPh _ _ _
  unfold resumePh
  dsimp only
  split
  · exact .refl s
  · have hset := committed_setPh s n { s.ph n with
      state := if (s.ph n).resume = .opened then PhState.opened else PhState.ready
      recTail := none
      recHead := none }
    refine hset.trans ?_
    generalize s.setPh n _ = u
    have hmid (a : Option Nat) : Committed u (match a with | some v => actHead u n (u.ph n) v | none => u) := by
      cases a with
      | none => exact .refl u
      | some v => exact hhead u _ v
    have hrest (w : State) (v : Nat) : Committed w (if (w.ph n).state = .error then w else actTail w n (w.ph n) v) := by
      split
      next => exact .refl w
      next => exact htail w _ v
    cases (s.ph n).recTail with
    | none => exact hmid _
    | some v => exact (hmid _).trans (hrest _ v)

theorem committed_resumeSlot (s : State) (n : Nat) : Committed s (resumeSlot s n) := by
  unfold resumeSlot
  split
  next => exact .refl s
  next x _ =>
    exact Committed.trans (t := s.setSlot n { x with state := .active }) ⟨rfl, rfl, rfl⟩
      (.foldl _ (fun t i => committed_resumePh t _) _ _)

theorem committed_restoreCounters (s : State) (f : SlotFields) (same : Bool) (o : Octets) :
    Committed s (restoreCounters s f same o) := by
  refine .foldl _ (fun t i => ?_) _ _
  split
  next => exact .refl t
  next => split <;> exact ⟨rfl, rfl, rfl⟩

theorem committed_restoreSlot (s : State) (n : Nat) (f : SlotFields) (header body : Octets) :
    Committed s (restoreSlot s n f header body) := by
  have hkeys (t : State) (a : List (Nat × List Octets)) : Committed t { t with keys := { t.keys with aliases := a } } := ⟨rfl, rfl, rfl⟩
  have hphs (t : State) : Committed t ((List.range f.phCount).foldl (fun s i =>
      s.setPh (f.phBase + i) (Ph.ofRecord (slice body (0x480 + 64 * i) 64))) t) := .foldl _ (fun t i => committed_setPh t _ _) _ _
  have hmsix (t : State) (fn : Fn) (a b : Octets) : Committed t (restoreMsix t fn a b) := by
    refine .foldl _ (fun t i => ?_) _ _
    exact ⟨rfl, rfl, rfl⟩
  have hentropy (t : State) (x : Entropy) : Committed t { t with entropy := x } := ⟨rfl, rfl, rfl⟩
  unfold restoreSlot
  refine Committed.trans ?_ (hentropy _ _)
  refine Committed.trans ?_ (hmsix _ _ _ _)
  refine Committed.trans ?_ (hphs _)
  refine Committed.trans ?_ (committed_restoreCounters _ f _ _)
  exact (committed_installSlot s n f .quiesced).trans (hkeys _ _)

theorem committed_journal {s : State} (h : s.lone) (e : JEntry) : Committed s (journal s e) := by
  rw [journal_of_lone h]
  exact ⟨rfl, rfl, rfl⟩

theorem committed_commitUse {s : State} (h : s.lone) (i : Nat) : Committed s (commitUse s i) := by
  unfold commitUse
  dsimp only
  split
  next => exact .refl s
  next x _ =>
    split
    next => exact .refl s
    next =>
      have hcount (l : List (Nat × CtrEntry)) : Committed s { s with keys := { s.keys with counters := l } } := ⟨rfl, rfl, rfl⟩
      split
      next =>
        refine Committed.trans ?_ (.of_keeps (keeps_notice_unnamed _ _ _ _))
        refine Committed.trans ?_ (committed_journal (by exact h) _)
        exact (hcount _).trans (.of_keeps (keeps_stamp _ srcSupervisor))
      next => exact hcount _

theorem committed_applyEffect {s : State} (h : s.lone) (f : Effect) : Committed s (applyEffect s f) := by
  cases f with
  | ctrUse i => exact committed_commitUse h i
  | ctrAlloc i limit gen => exact ⟨rfl, rfl, rfl⟩
  | curve i o => exact ⟨rfl, rfl, rfl⟩
  | rngMode v => exact ⟨rfl, rfl, rfl⟩
  | extCfg v => exact ⟨rfl, rfl, rfl⟩
  | slotCreate n f => exact committed_installSlot s n f .active
  | slotResume n => exact committed_resumeSlot s n
  | slotRestore n f header body => exact committed_restoreSlot s n f header body

/-- The replay record that a commit keeps (R606). -/
def replayRecord (c : Cmd) : Replay :=
  { slot := c.slot, ph := c.ph, cmdId := c.d.cmdId, opcode := c.d.opcode, status := c.status, pm := c.completion,
    output := c.output, franked := c.franked }

/-- A commit made alone: what it does at once moves neither the role nor the mode nor the pair epoch. -/
theorem committed_commitNow {s : State} (h : s.lone) (e : Nat) (c : Cmd) : Committed s (commitNow s e c) := by
  have hstamp : Committed s (stampCompletion s c).2 := .of_keeps (keeps_stampCompletion s c)
  have heff := Committed.foldl_of_lone applyEffect (fun t f ht => committed_applyEffect ht f) c.effects _ (hstamp.lone h)
  have hmade := hstamp.trans heff
  have hreplay (t : State) (b : Bool) (r : Replay) : Committed t (if b then addReplay t r else t) := by
    cases b <;> exact ⟨rfl, rfl, rfl⟩
  have hentry (t : State) (ht : t.lone) (b d : Bool) (x : JEntry) :
      Committed t (if !b then t else if t.pair.mirroring && d then journalHere t x else journal t x) := by
    rw [ht.2.2]
    cases b with
    | false => exact .refl t
    | true => exact committed_journal ht x
  have hrest := hmade.trans (hreplay _ c.keepsReplay (replayRecord (stampCompletion s c).1))
  have hset (t : State) (c : Cmd) : Committed t (t.setCmd e c) := ⟨rfl, rfl, rfl⟩
  exact (hrest.trans (hentry _ (hrest.lone h) c.journalled c.mirrors
    (commandEntry { (stampCompletion s c).1 with stamped := true, stage := .done, effects := [], commitSeq := none }))).trans (hset _ _)

theorem committed_commitOrWait {s : State} (h : s.lone) (e : Nat) (c : Cmd) : Committed s (commitOrWait s e c) := by
  unfold commitOrWait
  rw [h.2.2]
  split
  next => exact ⟨rfl, rfl, rfl⟩
  next => exact committed_commitNow h e c

theorem committed_releaseStalled {s : State} (h : s.lone) : Committed s (releaseStalled s) := by
  refine .foldl_of_lone _ (fun t x ht => ?_) _ _ h
  split
  next =>
    split
    next => exact committed_commitOrWait ht _ _
    next => exact .refl t
  next => exact .refl t

end Sys2Proof.Machine
end

section
/-! O44: the interlock of the Crown and the takes -/

namespace Sys2Proof.Machine

open Host

/-! ### Taking the Crown (R502, R505, R513) -/

/-- The Crown stays held while the role and what is told change. -/
theorem CrownHeld.of_pair {s t u : State} (h : CrownHeld s t) (hp : u.pair = { t.pair with
    role := u.pair.role, joined := u.pair.joined, mirroring := u.pair.mirroring, copying := u.pair.copying,
    detaching := u.pair.detaching, renewals := u.pair.renewals, unsent := u.pair.unsent, mseqTx := u.pair.mseqTx,
    helloPriv := u.pair.helloPriv, helloNonce := u.pair.helloNonce }) : CrownHeld s u := by
  rw [CrownHeld, hp]
  exact h

theorem CrownHeld.told {s t u : State} (h : CrownHeld s t) (g : Told t u) : CrownHeld s u := h.of_pair (by rw [g.pair])

theorem crownHeld_noteTake (s : State) : CrownHeld s (noteTake s) := ⟨rfl, rfl, rfl, rfl, rfl, rfl, rfl, rfl, rfl⟩

/-- Nothing but the entries of the key cache. -/
def Cached (s t : State) : Prop :=
  t = { s with keys := { s.keys with cache := t.keys.cache, cacheSeq := t.keys.cacheSeq } }

theorem Cached.trans {s t u : State} (h : Cached s t) (g : Cached t u) : Cached s u := by
  rw [Cached] at *
  rw [g, h]

theorem cached_cachePut (s : State) (slot : Nat) (body : Octets) (key : KeyVal) : Cached s (cachePut s slot body key) := by
  unfold cachePut
  split <;> rfl

theorem cached_rebuildCache (s : State) : Cached s (rebuildCache s) := by
  unfold rebuildCache
  induction s.keys.peerLabels with
  | nil => rfl
  | cons x l ih =>
    rw [List.foldr_cons]
    split
    next k _ => exact ih.trans (cached_cachePut _ _ _ k)
    next => exact ih

theorem keeps_cached {s t : State} (h : Cached s t) : Keeps [.keys] s t := by
  rw [h]
  intro p hp
  cases p
  case keys => simp at hp
  all_goals rfl

theorem setCause_two (s : State) : (setCause s 2 true).arrays.causes.getLsbD 2 = true := by
  show ((_ ||| BitVec.ofNat 5 (2 ^ 2)) &&& 7 ||| derivedCauses s).getLsbD 2 = true
  simp

/-- The rebuild of the key cache (R303): its entries, and the cause that the cipher arrays follow. -/
def rebuilding (s : State) : State := setCause (rebuildCache s) 2 true

theorem rebuilding_facts (s : State) : Keeps [.keys, .arrays] s (rebuilding s) ∧ (rebuilding s).arrays.causes.getLsbD 2 = true ∧
    (rebuilding s).keys = { s.keys with cache := (rebuilding s).keys.cache, cacheSeq := (rebuilding s).keys.cacheSeq } := by
  have hcache := cached_rebuildCache s
  have hkeep : Keeps [.arrays] (rebuildCache s) (rebuilding s) := keeps_setArrays _ _
  refine ⟨(keeps_cached hcache).comp hkeep, setCause_two _, ?_⟩
  rw [hkeep.keys, hcache]

theorem told_pairVector (s : State) : Told s (pairVector s) := told_msixBoth s _

/-- A taken Crown before the rebuild: TIME, SERVICE, and the TAKEOVER entry. -/
def tookOver (s : State) (trigger : Code) : State :=
  journalNow (pairVector (enterRole (takeTime s).2 .service trigger)) 8
    (le 8 (enterRole (takeTime s).2 .service trigger).tb.tm.toNat ++ le 8 (takeTime s).1)

theorem takeOver_eq (s : State) (trigger : Code) : takeOver s trigger = rebuilding (tookOver s trigger) := rfl

/-- Steps 2 to 4 of R513. -/
theorem takeOver_facts {s : State} (trigger : Code) (hexit : s.boot.exitBy = none) :
    let t := takeOver s trigger
    t.boot.mode = .service ∧ t.arrays.causes.getLsbD 2 = true ∧ t.tb = { (takeTime s).2.tb with sources := t.tb.sources } ∧
    t.keys = { s.keys with cache := t.keys.cache, cacheSeq := t.keys.cacheSeq } ∧
    t.pair = { s.pair with mseqTx := t.pair.mseqTx, unsent := t.pair.unsent, helloPriv := t.pair.helloPriv,
                           helloNonce := t.pair.helloNonce } := by
  obtain ⟨r, hrole⟩ := told_enterRole (s := (takeTime s).2) .service trigger hexit
  have htold := (hrole.trans (told_pairVector _)).trans (told_journalNow _ 8
    (le 8 (enterRole (takeTime s).2 .service trigger).tb.tm.toNat ++ le 8 (takeTime s).1))
  obtain ⟨hkeep, hbit, hkeys⟩ := rebuilding_facts (tookOver s trigger)
  have hboot := htold.keeps.boot
  have htb := htold.tb
  have hpair := htold.pair
  have hk := htold.keeps.keys
  dsimp only
  rw [takeOver_eq]
  refine ⟨?_, hbit, ?_, ?_, ?_⟩
  · rw [hkeep.boot]
    exact congrArg Boot.mode hboot
  · rw [hkeep.tb]
    exact htb
  · rw [hkeys]
    exact congrArg (fun k : KeyUnit => { k with
      cache := (rebuilding (tookOver s trigger)).keys.cache
      cacheSeq := (rebuilding (tookOver s trigger)).keys.cacheSeq }) hk
  · rw [hkeep.pair]
    exact hpair

/-- TIME steps past the partner's (R460). -/
theorem takeTime_time {s : State} (h : s.tb.tm.toNat + 1 < 2 ^ 64) :
    (takeTime s).2.time.toNat = max s.time.toNat (s.tb.tm.toNat + 1) := by
  have htime : (takeTime s).2.time = s.time + BitVec.ofNat 64 (s.tb.tm.toNat + 1 - s.time.toNat) := (BitVec.add_assoc _ _ _).symm
  have hlt := s.time.isLt
  rw [htime, BitVec.toNat_add, BitVec.toNat_ofNat]
  omega

theorem newEpoch_keys (s : State) : (newEpoch s).keys.pairEpoch.isSome = true ∧ (newEpoch s).keys.counters = [] ∧
    (newEpoch s).keys.aliases = [] := ⟨rfl, rfl, rfl⟩

/-! ### Losing the Crown (R504) -/

theorem abortSwap_none {s : State} (h : s.pair.swap = none) (st : Code) : abortSwap s st = s := by
  unfold abortSwap
  rw [h]

theorem redrawCache_cache (s : State) : (redrawCache s).keys.cache = [] := by
  unfold redrawCache
  dsimp only
  split
  next => rw [(keeps_generate _ _ _ _ _).keys, (keeps_generate _ _ _ _ _).keys]
  next => rfl

/-- A command as the loss of the Crown leaves it. -/
def Cmd.withoutCrown (c : Cmd) : Cmd :=
  if failsWithCrown c then
    { c with stage := .done, served := true, status := notActive, output := [], outLen := 0, effects := [], list := none,
             eligible := false, reserved := [], commitSeq := none, franked := false }
  else c

/-- The command of an entry fails with the Crown. -/
def goesWithCrown (s : State) (e : Nat) : Bool := ((s.cmd e).map failsWithCrown).getD false

/-- A core lets go of its pre-selected command. -/
def letPreGo (gone : Nat → Bool) (s : State) (k : Nat) : State :=
  if ((s.core k).pre.map gone).getD false then dropPre s k else s

/-- A core lets go of its command. -/
def letTurnGo (gone : Nat → Bool) (s : State) (k : Nat) : State :=
  if ((s.core k).cmd.map gone).getD false then endTurn s k else s

theorem turnsEnded_letGo (gone : Nat → Bool) (s : State) (k : Nat) : TurnsEnded s (letTurnGo gone (letPreGo gone s k) k) := by
  have hpre : TurnsEnded s (letPreGo gone s k) := by
    unfold letPreGo
    split
    next => exact turnsEnded_dropPre s k
    next => exact .refl s
  refine hpre.trans ?_
  unfold letTurnGo
  split
  next => exact turnsEnded_endTurn _ k
  next => exact .refl _

theorem dropHeld_facts (s : State) : Keeps [.cores, .arrays, .keys, .entropy, .gates, .so] s (dropHeld s) ∧
    ∀ e, (dropHeld s).cmd e = (s.cmd e).map Cmd.withoutCrown := by
  let stop (t : State) (k : Nat) : State := letTurnGo (goesWithCrown s) (letPreGo (goesWithCrown s) t k) k
  have hcores : TurnsEnded s (coreNums.foldl stop s) := by
    generalize coreNums = l
    generalize s = t
    induction l generalizing t with
    | nil => exact .refl t
    | cons k l ih => exact (turnsEnded_letGo _ t k).trans (ih _)
  have hdef : dropHeld s = (coreNums.foldl stop s).mapCmds (fun _ c => c.withoutCrown) := rfl
  rw [hdef]
  refine ⟨hcores.keeps.comp (keeps_mapCmds _ _), fun e => ?_⟩
  rw [cmd_mapCmds, State.cmd_congr hcores.keeps.so]

/-- The pair unit as SERVICE is left, in a role. -/
def Pair.left (p : Pair) (role : Role) : Pair :=
  { p with role := role, crownOut := false, taking := none, backedOff := none, holding := false, expiry := none, renewals := [],
           swap := none, mirroring := false, copying := false, detaching := false }

/-- SERVICE is left for STANDBY (R54, R302, R448). -/
theorem leaveService_facts (s : State) (role : Role) (trigger : Code) :
    let t := leaveService s role trigger
    CrownLost t ∧ t.warden = s.warden ∧ t.slots.table.length = s.slots.table.length ∧ t.so = s.so ∧
    t.pair = { s.pair.left role with mseqTx := t.pair.mseqTx, unsent := t.pair.unsent, helloPriv := t.pair.helloPriv,
                                     helloNonce := t.pair.helloNonce } := by
  have hdirty : Keeps [.slots] s (endDirty s) := by
    intro p hp
    cases p
    case slots => simp at hp
    all_goals rfl
  have hlen : (endDirty s).slots.table.length = s.slots.table.length := List.length_map _
  have hcache := redrawCache_cache (endDirty s)
  have hkeep := keeps_redrawCache (endDirty s)
  have hdef : leaveService s role trigger = setMode { redrawCache (endDirty s) with
      pair := (redrawCache (endDirty s)).pair.left role } .standby trigger := rfl
  rw [hdef]
  generalize redrawCache (endDirty s) = u at hcache hkeep
  have hset := told_setMode { u with pair := u.pair.left role } .standby trigger
  generalize setMode { u with pair := u.pair.left role } .standby trigger = v at hset
  have hpair := hset.pair
  have hup : u.pair = s.pair := hkeep.pair.trans hdirty.pair
  dsimp only at hpair
  rw [hup] at hpair
  have hk := hset.keeps
  dsimp only
  refine ⟨⟨?_, ?_, ?_, ?_, ?_⟩, ?_, ?_, ?_, ?_⟩
  · rw [hk.boot]
  · rw [hpair]
    rfl
  · rw [hpair]
    rfl
  · rw [hpair]
    rfl
  · rw [hk.keys]
    exact hcache
  · exact hk.warden.trans (hkeep.warden.trans hdirty.warden)
  · rw [hk.slots]
    exact (congrArg (fun x : Slots => x.table.length) hkeep.slots).trans hlen
  · exact hk.so.trans (hkeep.so.trans hdirty.so)
  · exact hpair

/-- The Crown is lost to the partner (R504). -/
theorem loseCrown_facts {s : State} (hswap : s.pair.swap = none) :
    let t := loseCrown s
    CrownLost t ∧ t.pair.role = .lone ∧ t.pair.joined = false ∧ t.warden = s.warden ∧
    t.slots.table.length = s.slots.table.length ∧ ∀ e, t.cmd e = (s.cmd e).map Cmd.withoutCrown := by
  obtain ⟨hkeep, hcmd⟩ := dropHeld_facts s
  obtain ⟨hlost, hwarden, hlen, hso, hpair⟩ := leaveService_facts (dropHeld s) .lone (Config.modeTrigger 6)
  have hdef : loseCrown s = announce { leaveService (dropHeld s) .lone (Config.modeTrigger 6) with
      pair := { (leaveService (dropHeld s) .lone (Config.modeTrigger 6)).pair with joined := false, unsent := [] } } := by
    rw [loseCrown, abortSwap_none hswap]
  rw [hdef]
  generalize leaveService (dropHeld s) .lone (Config.modeTrigger 6) = u at hlost hwarden hlen hso hpair
  have htold := told_announce { u with pair := { u.pair with joined := false, unsent := [] } }
  have hp := htold.pair
  generalize announce _ = v at htold hp
  have hk := htold.keeps
  obtain ⟨hmode, hout, hexp, hhold, hcache⟩ := hlost
  dsimp only
  refine ⟨⟨?_, ?_, ?_, ?_, ?_⟩, ?_, ?_, ?_, ?_, fun e => ?_⟩
  · rw [hk.boot]
    exact hmode
  · rw [hp]
    exact hout
  · rw [hp]
    exact hexp
  · rw [hp]
    exact hhold
  · rw [hk.keys]
    exact hcache
  · rw [hp]
    exact congrArg Pair.role hpair
  · rw [hp]
  · exact hk.warden.trans (hwarden.trans hkeep.warden)
  · rw [hk.slots]
    exact hlen.trans (by rw [hkeep.slots])
  · rw [State.cmd_congr (hk.so.trans hso), hcmd]

/-- What the loss of the Crown makes of a command that was held, or that runs only with the Crown. -/
theorem Cmd.withoutCrown_fails {c : Cmd} (h : c.slot < 512 ∨ c.stage = .done ∨ c.stage = .commitWait) :
    c.withoutCrown.status = notActive ∧ c.withoutCrown.output = [] ∧ c.withoutCrown.effects = [] ∧
      c.withoutCrown.stage = .done := by
  have hfail : failsWithCrown c = true := by
    rcases h with h | h | h <;> simp [failsWithCrown, h]
  rw [Cmd.withoutCrown, if_pos hfail]
  exact ⟨rfl, rfl, rfl, rfl⟩

theorem crownLost_drivePins {t : State} (h : CrownLost t) : CrownLost (drivePins t) := h

/-! ### The three rows -/

theorem interlockRises : Claims.InterlockRises := by
  intro s k p i on pairIs
  have hrun (h : on) : ¬ (!pairable s || !s.pwrGood) = true := by
    obtain ⟨h8, hgood⟩ := h
    rw [pairable, h8, hgood]
    decide
  have hex (h : on) (htake : p.taking = none) : exec i s = answer (
      let s := { s with pair := { s.pair with peerIn := true } }
      if s.boot.mode = .maintenance then { s with pair := { s.pair with crownOut := false, expiry := none } }
      else if s.boot.mode = .service then
        (if s.pair.holding then loseCrown s else if s.pair.crownOut then backOff s .again else s)
      else if s.pair.window then missWindow s
      else s) := by
    refine congrArg answer ((if_neg (hrun h)).trans ?_)
    dsimp only
    rw [show s.pair.taking = none from htake]
  refine ⟨fun h => ?_, fun h htake => ?_, fun h htake => ⟨fun hmode => ?_, fun hmode hhold hout => ?_, fun hmode hhold hswap => ?_,
    fun hmode hwin => ?_⟩⟩
  · refine congrArg answer (if_pos ?_)
    rw [Bool.or_eq_true, Bool.not_eq_true', Bool.not_eq_true', ← Bool.not_eq_true, ← Bool.not_eq_true]
    exact not_and_or.1 h
  · refine congrArg answer ((if_neg (hrun h)).trans ?_)
    dsimp only
    rw [show s.pair.taking = some k from htake]
    rfl
  · exact (hex h htake).trans (congrArg answer (if_pos hmode))
  · have hm : s.boot.mode ≠ .maintenance := by
      rw [hmode]
      decide
    refine (hex h htake).trans (congrArg answer ((if_neg hm).trans ((if_pos hmode).trans ?_)))
    refine (if_neg (c := s.pair.holding = true) (by rw [show s.pair.holding = false from hhold]; decide)).trans ?_
    refine (if_pos hout).trans ?_
    show ({ s with pair := { s.pair with peerIn := true, crownOut := false, taking := none, holding := true,
                                         backedOff := some .again } } : State) = _
    rw [← htake]
  · have hm : s.boot.mode ≠ .maintenance := by
      rw [hmode]
      decide
    have hex' : exec i s = answer (loseCrown { s with pair := { s.pair with peerIn := true } }) :=
      (hex h htake).trans (congrArg answer ((if_neg hm).trans ((if_pos hmode).trans (if_pos hhold))))
    obtain ⟨hlost, hrole, hjoined, hwarden, hlen, hcmd⟩ := loseCrown_facts (s := { s with pair := { s.pair with peerIn := true } }) hswap
    generalize loseCrown _ = t at hex' hlost hrole hjoined hwarden hlen hcmd
    refine ⟨_, hex', crownLost_drivePins hlost, hrole, hjoined, hwarden, hlen, fun e c hc hkind => ?_⟩
    refine ⟨c.withoutCrown, ?_, Cmd.withoutCrown_fails hkind⟩
    exact (hcmd e).trans (congrArg (Option.map Cmd.withoutCrown) hc)
  · have hm : s.boot.mode ≠ .maintenance ∧ s.boot.mode ≠ .service := by
      rw [hmode]
      decide
    exact (hex h htake).trans (congrArg answer ((if_neg hm.1).trans ((if_neg hm.2).trans (if_pos hwin))))

/-- Alone the Crown comes with a new pair epoch, in SERVICE (R290, R494). -/
theorem crownTaken_alone {s : State} (hexit : s.boot.exitBy = none) (hmode : s.boot.mode = .staged) :
    let t := crownTaken s .alone
    CrownHeld s t ∧ t.boot.mode = .service ∧ t.boot.step = 13 ∧ t.pair.role = .lone ∧ t.keys.pairEpoch.isSome = true ∧
      t.keys.counters = [] ∧ t.keys.aliases = [] := by
  have hboot : (crownedAlone s).boot = s.boot := (keeps_crownedAlone s).boot
  obtain ⟨r, hrole⟩ := told_enterRole (s := crownedAlone s) .service (roleTrigger (newEpoch (noteTake s))) (by rw [hboot, hexit])
  have hserves : serveAlone (noteTake s) = enterRole (crownedAlone s) .service (roleTrigger (newEpoch (noteTake s))) := by
    unfold serveAlone
    dsimp only
    rw [if_pos (by
      rw [(keeps_noteTake s).boot, hmode]
      rfl)]
    rfl
  have hdef : crownTaken s .alone = announce (serveAlone (noteTake s)) := rfl
  have htold := hrole.trans (told_announce _)
  rw [hdef, hserves]
  generalize announce _ = t at htold
  have hk := htold.keeps
  have hheld : CrownHeld s (crownedAlone s) := (crownHeld_noteTake s).of_pair (by rw [crownedAlone_pair])
  have hpair : t.pair.role = (crownedAlone s).pair.role := by
    rw [htold.pair]
    rfl
  dsimp only
  rw [hk.boot, hk.keys, hpair]
  exact ⟨CrownHeld.told (by exact hheld) htold, rfl, rfl, rfl, rfl, rfl, rfl⟩

/-- After a lease expiry TIME passes the partner's, and the key cache is rebuilt (R460, R513). -/
theorem crownTaken_lease {s : State} (hexit : s.boot.exitBy = none) :
    let t := crownTaken s .lease
    CrownHeld s t ∧ t.boot.mode = .service ∧ t.pair.role = .lone ∧ t.pair.joined = false ∧
      t.keys.pairEpoch = s.keys.pairEpoch ∧ t.keys.counters = s.keys.counters ∧ t.tb.adopted = false ∧ t.tb.aligned = false ∧
      t.tb.slewLeft = 0 ∧ t.arrays.causes.getLsbD 2 = true ∧
      (s.tb.tm.toNat + 1 < 2 ^ 64 → t.time.toNat = max s.time.toNat (s.tb.tm.toNat + 1)) := by
  let u : State := { noteTake s with pair := { (noteTake s).pair with
    role := .lone, joined := false, mirroring := false, unsent := [] } }
  have hkeep := keeps_noteTake s
  obtain ⟨hmode, hbit, htb, hkeys, hpair⟩ := takeOver_facts (s := u) (Config.modeTrigger 6) (hkeep.boot ▸ hexit)
  have htold := told_announce (takeOver u (Config.modeTrigger 6))
  have hdef : crownTaken s .lease = announce (takeOver u (Config.modeTrigger 6)) := rfl
  rw [hdef]
  generalize takeOver u (Config.modeTrigger 6) = v at hmode hbit htb hkeys hpair htold
  generalize announce v = t at htold
  have hk := htold.keeps
  have hheld : CrownHeld s u := (crownHeld_noteTake s).of_pair rfl
  have hheldv : CrownHeld s v := hheld.of_pair (by rw [hpair])
  have htime : t.time = (takeTime u).2.time := htold.time.trans (by rw [State.time, htb]; rfl)
  refine ⟨hheldv.told htold, ?_, ?_, ?_, ?_, ?_, ?_, ?_, ?_, ?_, fun htm => ?_⟩
  · rw [hk.boot, hmode]
  · rw [htold.pair]
    exact congrArg Pair.role hpair
  · rw [htold.pair]
    exact congrArg Pair.joined hpair
  · rw [hk.keys, hkeys]
    show (noteTake s).keys.pairEpoch = s.keys.pairEpoch
    rw [hkeep.keys]
  · rw [hk.keys, hkeys]
    show (noteTake s).keys.counters = s.keys.counters
    rw [hkeep.keys]
  · rw [htold.tb, htb]
    rfl
  · rw [htold.tb, htb]
    rfl
  · rw [htold.tb, htb]
    rfl
  · rw [hk.arrays, hbit]
  · rw [htime]
    exact takeTime_time htm

/-- In a ROLE_SWAP the partner stays joined, and hears of it (R515). -/
theorem crownTaken_swap {s : State} (hexit : s.boot.exitBy = none) (hlive : Live s) :
    let t := crownTaken s .swap
    CrownHeld s t ∧ t.boot.mode = .service ∧ t.pair.role = .active ∧ t.pair.joined = true ∧ t.pair.mirroring = true ∧
      ∃ n, t.outbox.head? = some (.mirror false 0x71 (le 8 n)) := by
  let u : State := { noteTake s with pair := { (noteTake s).pair with role := .active, joined := true, mirroring := true } }
  obtain ⟨hmode, -, -, -, hpair⟩ := takeOver_facts (s := u) (Config.modeTrigger 6) ((keeps_noteTake s).boot ▸ hexit)
  have hdef : crownTaken s .swap = sendLink (takeOver u (Config.modeTrigger 6)) 0x71 [] := rfl
  rw [hdef]
  generalize takeOver u (Config.modeTrigger 6) = v at hmode hpair
  have hlink : linkLive v = true := by
    have h : linkLive v = linkLive s := by
      rw [linkLive, hpair]
      rfl
    rw [h]
    exact (linkLive_iff s).2 hlive
  rw [sendLink_live hlink]
  have hheld : CrownHeld s u := (crownHeld_noteTake s).of_pair rfl
  refine ⟨hheld.of_pair (by rw [hpair]), hmode, ?_, ?_, ?_, v.pair.mseqTx + 1, by simp⟩
  · exact congrArg Pair.role hpair
  · exact congrArg Pair.joined hpair
  · exact congrArg Pair.mirroring hpair

/-- By force the Crown comes with a new epoch and no counters (R512). -/
theorem crownTaken_force {s : State} (hexit : s.boot.exitBy = none) :
    let t := crownTaken s .force
    CrownHeld s t ∧ t.boot.mode = .service ∧ t.pair.role = .lone ∧ t.keys.pairEpoch.isSome = true ∧ t.keys.counters = [] ∧
      t.keys.aliases = [] ∧ t.arrays.causes.getLsbD 2 = true := by
  let u : State := { noteTake s with pair := { (noteTake s).pair with
    role := .lone, joined := false, mirroring := false, unsent := [] } }
  have hvec := told_pairVector (newEpoch u)
  have hboot : (pairVector (newEpoch u)).boot = s.boot :=
    hvec.keeps.boot.trans ((keeps_newEpoch u).boot.trans (keeps_noteTake s).boot)
  have hdef : crownTaken s .force = announce (rebuilding (enterRole (pairVector (newEpoch u)) .service 0x8082)) := rfl
  obtain ⟨r, hrole⟩ := told_enterRole (s := pairVector (newEpoch u)) .service 0x8082 (by rw [hboot, hexit])
  have hpairvec : (pairVector (newEpoch u)).pair = u.pair := by
    rw [pairVector, (keeps_msixBoth _ _).pair, (keeps_newEpoch u).pair]
  have hkeysvec := hvec.keeps.keys
  rw [hdef]
  generalize pairVector (newEpoch u) = v at hrole hpairvec hkeysvec
  generalize enterRole v .service 0x8082 = w at hrole
  obtain ⟨hkeep, hbit, hkeys⟩ := rebuilding_facts w
  generalize rebuilding w = x at hkeep hbit hkeys
  have htold := told_announce x
  generalize announce x = t at htold
  have hk := htold.keeps
  have hheld : CrownHeld s u := (crownHeld_noteTake s).of_pair rfl
  have hheldv : CrownHeld s v := hheld.of_pair (by rw [hpairvec])
  have hheldw : CrownHeld s w := CrownHeld.told (by exact hheldv) hrole
  have hheldx : CrownHeld s x := hheldw.of_pair (by rw [hkeep.pair])
  have hwkeys : w.keys = (newEpoch u).keys := hrole.keeps.keys.trans hkeysvec
  have hnew : (newEpoch u).keys.pairEpoch.isSome = true ∧ (newEpoch u).keys.counters = [] ∧ (newEpoch u).keys.aliases = [] :=
    newEpoch_keys u
  have hrolew : w.pair.role = .lone := by
    rw [hrole.pair]
    exact congrArg Pair.role hpairvec
  dsimp only
  rw [hk.keys, hkeys, hwkeys, hk.arrays, hk.boot, hkeep.boot, htold.pair, hkeep.pair]
  refine ⟨hheldx.told htold, congrArg Boot.mode hrole.keeps.boot, hrolew, hnew.1, hnew.2.1, hnew.2.2, hbit⟩

/-- The module runs alone: what waited for the partner is committed (R504, R510). -/
theorem runAlone_facts {s : State} (hswap : s.pair.swap = none) :
    Committed { s with pair := { s.pair with
      role := .lone, joined := false, detaching := false, renewals := [], unsent := [], mirroring := false, copying := false } }
      (runAlone s) := by
  let u : State := { s with pair := { s.pair with
      role := .lone, joined := false, detaching := false, renewals := [], unsent := [], mirroring := false, copying := false } }
  let v : State := u.mapCmds (fun _ c => if c.stage = .commitWait then { c with commitSeq := none } else c)
  have hdef : runAlone s = releaseStalled v := by
    unfold runAlone
    rw [hswap, abortSwap_none hswap]
    rfl
  have hlone : v.lone := ⟨nofun, nofun, rfl⟩
  rw [hdef]
  exact Committed.trans (t := v) ⟨rfl, rfl, rfl⟩ (committed_releaseStalled hlone)

/-- A reclaim runs alone (R504). -/
theorem crownTaken_reclaim {s : State} (hswap : s.pair.swap = none) :
    let t := crownTaken s .reclaim
    CrownHeld s t ∧ t.boot.mode = s.boot.mode ∧ t.pair.role = .lone ∧ t.pair.joined = false ∧ t.pair.mirroring = false ∧
      t.keys.pairEpoch = s.keys.pairEpoch := by
  have hkeep := keeps_noteTake s
  have hswap' : (noteTake s).pair.swap = none := hswap
  have hdef : crownTaken s .reclaim = runAlone (noteTake s) := by
    show runAlone (abortSwap (noteTake s) busyRetry) = _
    rw [abortSwap_none hswap']
  have hmade := runAlone_facts hswap'
  rw [hdef]
  generalize runAlone (noteTake s) = t at hmade
  have hboot : t.boot.mode = (noteTake s).boot.mode := by rw [hmade.boot]
  dsimp only
  refine ⟨(crownHeld_noteTake s).of_pair (by rw [hmade.pair]), ?_, ?_, ?_, ?_, ?_⟩
  · rw [hboot, hkeep.boot]
  · rw [hmade.pair]
  · rw [hmade.pair]
  · rw [hmade.pair]
  · rw [hmade.epoch]
    exact congrArg KeyUnit.pairEpoch hkeep.keys

theorem takesComplete : Claims.TakesComplete := by
  intro s k p i
  let u : State := { s with pair := { s.pair with peerIn := false } }
  have hex {k : TakeKind} (h : p.taking = some k) : exec i s = answer (crownTaken u k) := by
    refine congrArg answer ?_
    rw [show s.pair.taking = some k from h]
    rfl
  refine ⟨fun h => ⟨?_, ?_⟩, fun h => ?_, fun hexit => ⟨fun h hmode => ?_, fun h hmode => ?_, fun h hmode hlive => ?_,
    fun h hmode => ?_⟩, fun h hswap hmode => ?_, fun h hmode => ?_⟩
  · refine congrArg answer ?_
    rw [show s.pair.taking = none from h]
  · refine congrArg answer ?_
    rw [show s.pair.taking = none from h]
  · refine congrArg answer ?_
    rw [show s.pair.taking = some k from h]
    rfl
  · have hgives := crownTaken_alone (s := u) hexit hmode
    have hex' := hex h
    generalize crownTaken u .alone = t at hgives hex'
    exact ⟨_, hex', hgives⟩
  · have hgives := crownTaken_lease (s := u) hexit
    have hex' := hex h
    generalize crownTaken u .lease = t at hgives hex'
    exact ⟨_, hex', hgives⟩
  · have hgives := crownTaken_swap (s := u) hexit hlive
    have hex' := hex h
    generalize crownTaken u .swap = t at hgives hex'
    exact ⟨_, hex', hgives⟩
  · have hgives := crownTaken_force (s := u) hexit
    have hex' := hex h
    generalize crownTaken u .force = t at hgives hex'
    exact ⟨_, hex', hgives⟩
  · obtain ⟨hheld, hm, hrest⟩ := crownTaken_reclaim (s := u) hswap
    have hex' := hex h
    generalize crownTaken u .reclaim = t at hheld hm hrest hex'
    exact ⟨_, hex', hheld, hm.trans hmode, hrest⟩
  · have hdef : crownTaken u .again = noteTake u := if_pos (by
      rw [(keeps_noteTake u).boot]
      exact beq_iff_eq.2 hmode)
    have hex' := hex h
    have hheld := crownHeld_noteTake u
    have hkeep := keeps_noteTake u
    rw [hdef] at hex'
    generalize noteTake u = t at hex' hheld hkeep
    exact ⟨_, hex', hheld, hkeep.boot, hkeep.keys⟩

theorem takesAreRetried : Claims.TakesAreRetried := by
  intro s k p
  refine ⟨fun hb b => ?_, fun hb => ?_⟩
  · refine congrArg answer ?_
    rw [show s.pair.backedOff = none from hb]
  have hex (b : Bool) : exec (.retake b) s = answer (
      let s := { s with pair := { s.pair with peerIn := b } }
      if !b then beginTake s k
      else if s.boot.mode = .service then loseCrown s
      else
        let s := { s with pair := { s.pair with backedOff := none, holding := false } }
        if s.boot.mode = .standby then missWindow s else { s with boot := { s.boot with pairWait := true } }) := by
    refine congrArg answer ?_
    rw [show s.pair.backedOff = some k from hb]
  refine ⟨hex false, fun hmode hswap => ?_, fun hmode => ?_, fun hmode => ?_⟩
  · have hex' : exec (.retake true) s = answer (loseCrown { s with pair := { s.pair with peerIn := true } }) :=
      (hex true).trans (congrArg answer (if_pos hmode))
    obtain ⟨hlost, hrole, -⟩ := loseCrown_facts (s := { s with pair := { s.pair with peerIn := true } }) hswap
    generalize loseCrown _ = t at hex' hlost hrole
    exact ⟨_, hex', crownLost_drivePins hlost, hrole⟩
  · have hm : s.boot.mode ≠ .service := by
      rw [hmode]
      decide
    exact (hex true).trans (congrArg answer ((if_neg hm).trans (if_pos hmode)))
  · have hm : s.boot.mode ≠ .service ∧ s.boot.mode ≠ .standby := by
      rw [hmode]
      decide
    exact (hex true).trans (congrArg answer ((if_neg hm.1).trans (if_neg hm.2)))

/-- Settles O44: each row by the branch of the interlock, and each kind of take by what it enters and tells. -/
theorem crownChangesHands : Obligations.CrownChangesHands := ⟨interlockRises, takesComplete, takesAreRetried⟩

end Sys2Proof.Machine
end

section
/-! O45: the lease timers and the renewals -/

namespace Sys2Proof.Machine

open Host

/-! ### Messages that are accepted (R493, R509) -/

theorem accept_ready_iff (s : State) (relay : Bool) (h : MsgHead) :
    Accepted s relay h ↔ ¬ (!((s.pair.session.map (·.confirmed)).getD false && (relay || s.pair.linkUp)) || !h.tagOk ||
      decide (h.mseq.toNat ≠ (if relay then s.pair.relayRx else s.pair.mseqRx) + 1)) = true := by
  rw [Accepted]
  cases s.pair.session with
  | none => simp
  | some x => cases relay <;> simp [and_assoc]

theorem accept_of {s : State} {relay : Bool} {h : MsgHead} (ha : Accepted s relay h) (act : State → State) :
    accept s relay h act = act (counted s relay) := (if_neg ((accept_ready_iff s relay h).1 ha)).trans rfl

theorem accept_of_not {s : State} {relay : Bool} {h : MsgHead} (ha : ¬ Accepted s relay h) (act : State → State) :
    accept s relay h act = s :=
  if_pos (not_not.1 (mt (accept_ready_iff s relay h).2 ha))

theorem Accepted.live {s : State} {h : MsgHead} (ha : Accepted s false h) : Live s := ⟨ha.2.1 rfl, ha.1⟩

theorem follows_iff (s : State) : follows s = true ↔ s.pair.role = .standby ∨ s.pair.role = .joining := by
  rw [follows, Bool.or_eq_true, beq_iff_eq, beq_iff_eq]

/-- On a link that carries messages a message goes out at once. -/
theorem sendLink_sent {s : State} (h : Live s) (cls : BitVec 8) (o : Octets) :
    SentOnce s (sendLink s cls o) cls o ∧ Keeps [.outbox, .pair] s (sendLink s cls o) ∧
      (sendLink s cls o).pair = { s.pair with mseqTx := s.pair.mseqTx + 1 } := by
  rw [sendLink_live ((linkLive_iff s).2 h)]
  refine ⟨⟨rfl, rfl⟩, ?_, rfl⟩
  exact (keeps_setPair s { s.pair with mseqTx := s.pair.mseqTx + 1 }).comp
    (keeps_emit _ (.mirror false cls (le 8 (s.pair.mseqTx + 1) ++ o)))

theorem sendEither_live {s : State} (h : Live s) (cls : BitVec 8) (o : Octets) : sendEither s cls o = sendLink s cls o :=
  if_pos ((linkLive_iff s).2 h)

/-! ### The lease timers (R501 to R504) -/

section
variable {s : State} {x : BitVec 64}

theorem exec_leaseGuard (hx : s.pair.expiry = some x) : exec .leaseGuard s = answer (
    if s.pair.crownOut && s.boot.mode == .service && s.pair.taking.isNone &&
        decide (x.toNat ≤ s.tb.timeLocal.toNat + guardNs s.pair.leaseL) then
      { s with pair := { s.pair with holding := true } }
    else s) := congrArg answer (by rw [hx])

theorem exec_leaseExpiry (hx : s.pair.expiry = some x) : exec .leaseExpiry s = answer (
    if s.pair.crownOut && s.pair.taking.isNone && decide (x.toNat ≤ s.tb.timeLocal.toNat) then
      { s with pair := { s.pair with crownOut := false, holding := s.pair.holding || s.boot.mode == .service } }
    else s) := congrArg answer (by rw [hx])

theorem exec_reclaim (b : Bool) (hx : s.pair.expiry = some x) : exec (.reclaim b) s = answer (
    if s.boot.mode == .service && s.pair.holding && !s.pair.crownOut && s.pair.backedOff.isNone &&
        decide (x.toNat + reclaimNs s.pair.leaseL ≤ s.tb.timeLocal.toNat) then
      if b && pairable s then loseCrown { s with pair := { s.pair with peerIn := b && pairable s } }
      else beginTake { s with pair := { s.pair with peerIn := b && pairable s } } .reclaim
    else s) := congrArg answer (by rw [hx])

theorem exec_takeWindow (b : Bool) (hx : s.pair.expiry = some x) : exec (.takeWindow b) s = answer (
    if s.boot.mode == .standby && s.pair.role == .standby && s.pair.taking.isNone && s.pair.backedOff.isNone &&
        decide (x.toNat + guardNs s.pair.leaseL ≤ s.tb.timeLocal.toNat) then
      if b then { s with pair := { s.pair with peerIn := b, window := true } }
      else beginTake { s with pair := { s.pair with peerIn := b, window := true } } .lease
    else s) := congrArg answer (by rw [hx])

end

theorem leaseTimersAct : Claims.LeaseTimersAct := by
  intro s x b p now G pairIs reclaims takes
  have hreclaims : (s.boot.mode == .service && s.pair.holding && !s.pair.crownOut && s.pair.backedOff.isNone &&
      decide (x.toNat + reclaimNs s.pair.leaseL ≤ s.tb.timeLocal.toNat)) = true ↔ reclaims := by
    simp only [Bool.and_eq_true, beq_iff_eq, Bool.not_eq_true', Option.isNone_iff_eq_none, decide_eq_true_iff, and_assoc]
    rfl
  have htakes : (s.boot.mode == .standby && s.pair.role == .standby && s.pair.taking.isNone && s.pair.backedOff.isNone &&
      decide (x.toNat + guardNs s.pair.leaseL ≤ s.tb.timeLocal.toNat)) = true ↔ takes := by
    simp only [Bool.and_eq_true, beq_iff_eq, Option.isNone_iff_eq_none, decide_eq_true_iff, and_assoc]
    rfl
  refine ⟨fun hx htake hout => ⟨fun hmode hle => ?_, fun hmode hle => ?_, fun hlt => ?_, fun hlt => ?_⟩,
    fun hx hpd => ⟨fun h => ?_, fun h hswap => ?_, fun h => ?_, fun h => ⟨?_, ?_⟩, fun h => ?_⟩, fun hwin htake hback => ?_, fun hwin => ?_⟩
  · have hdue : (s.pair.crownOut && s.boot.mode == .service && s.pair.taking.isNone &&
        decide (x.toNat ≤ s.tb.timeLocal.toNat + guardNs s.pair.leaseL)) = true := by
      simp [show s.pair.crownOut = true from hout, hmode, show s.pair.taking = none from htake,
        show x.toNat ≤ s.tb.timeLocal.toNat + guardNs s.pair.leaseL from hle]
    exact (exec_leaseGuard hx).trans (congrArg answer (if_pos hdue))
  · have hdue : (s.pair.crownOut && s.pair.taking.isNone && decide (x.toNat ≤ s.tb.timeLocal.toNat)) = true := by
      simp [show s.pair.crownOut = true from hout, show s.pair.taking = none from htake, show x.toNat ≤ s.tb.timeLocal.toNat from hle]
    refine (exec_leaseExpiry hx).trans (congrArg answer ((if_pos hdue).trans ?_))
    rw [hmode, show (Mode.service == Mode.service) = true from rfl, Bool.or_true]
  · exact (exec_leaseExpiry hx).trans (congrArg answer (if_neg (by simp [show s.tb.timeLocal.toNat < x.toNat from hlt])))
  · refine (exec_leaseGuard hx).trans (congrArg answer (if_neg ?_))
    simp [show s.tb.timeLocal.toNat + guardNs s.pair.leaseL < x.toNat from hlt]
  · refine (exec_reclaim false hx).trans (congrArg answer ((if_pos (hreclaims.2 h)).trans ((if_neg (by simp)).trans ?_)))
    obtain ⟨-, -, -, hback, -⟩ := h
    rw [beginTake, ← hback, Bool.false_and]
  · have hex : exec (.reclaim true) s = answer (loseCrown { s with pair := { s.pair with peerIn := true && pairable s } }) :=
      (exec_reclaim true hx).trans (congrArg answer ((if_pos (hreclaims.2 h)).trans (if_pos (by rw [pairable, hpd]; rfl))))
    obtain ⟨hlost, hrole, -⟩ := loseCrown_facts (s := { s with pair := { s.pair with peerIn := true && pairable s } }) hswap
    generalize loseCrown _ = t at hex hlost hrole
    exact ⟨_, hex, crownLost_drivePins hlost, hrole⟩
  · exact (exec_reclaim b hx).trans (congrArg answer (if_neg (mt hreclaims.1 h)))
  · refine (exec_takeWindow false hx).trans (congrArg answer ((if_pos (htakes.2 h)).trans ((if_neg (by decide)).trans ?_)))
    obtain ⟨-, -, -, hback, -⟩ := h
    rw [beginTake, ← hback]
  · exact (exec_takeWindow true hx).trans (congrArg answer ((if_pos (htakes.2 h)).trans (if_pos rfl)))
  · exact (exec_takeWindow b hx).trans (congrArg answer (if_neg (mt htakes.1 h)))
  · exact congrArg answer (if_pos (by simp [show s.pair.window = true from hwin, show s.pair.taking = none from htake,
      show s.pair.backedOff = none from hback]))
  · exact congrArg answer (if_neg (by simp [show s.pair.window = false from hwin]))

/-! ### Renewals (R501 to R504, R511) -/

theorem ackRenewal_found {s : State} {n m : BitVec 32} {sent old : BitVec 64} {l : Nat}
    (hfind : s.pair.renewals.find? (fun x => x.1 == n) = some (m, sent, l)) (hx : s.pair.expiry = some old)
    (hrun : ¬ (!s.pair.crownOut || s.pair.taking.isSome || decide (old.toNat ≤ s.tb.timeLocal.toNat)) = true) :
    ackRenewal s n = { s with pair := { s.pair with
      renewals := s.pair.renewals.filter (fun x => decide (x.1.toNat > n.toNat)), leaseL := l,
      expiry := some (sent + BitVec.ofNat 64 (1000 * l)),
      holding := decide ((sent + BitVec.ofNat 64 (1000 * l)).toNat ≤ s.tb.timeLocal.toNat + guardNs l) } } := by
  unfold ackRenewal
  rw [hfind, hx]
  exact if_neg hrun

theorem ackRenewal_stays {s : State} {n : BitVec 32}
    (h : s.pair.renewals.find? (fun x => x.1 == n) = none ∨ s.pair.crownOut = false) : ackRenewal s n = s := by
  unfold ackRenewal
  split
  next _ _ hfind _ =>
    rcases h with h | h
    · rw [h] at hfind
      contradiction
    · refine if_pos ?_
      rw [h]
      rfl
  next => rfl

theorem leasesRenew : Claims.LeasesRenew := by
  intro s h sent x at_ l n L p us holds late follower
  have hholds : (s.pair.crownOut && (s.boot.mode == .service || s.boot.mode == .maintenance) && s.pair.taking.isNone) = true ↔ holds := by
    simp only [Bool.and_eq_true, Bool.or_eq_true, beq_iff_eq, Option.isNone_iff_eq_none, holds, p]
    tauto
  have hrun (hh : holds) : ¬ (!(s.pair.crownOut && (s.boot.mode == .service || s.boot.mode == .maintenance) &&
      s.pair.taking.isNone)) = true := by
    rw [hholds.2 hh]
    decide
  have hwin_iff : follower → p.window = false → (s.time - sent).toInt ≤ 50000 →
      ¬ (!follows (counted s false) || (counted s false).pair.window || decide (((counted s false).time - sent).toInt > 50000)) = true := by
    intro hf hw hage
    rw [show follows (counted s false) = true from (follows_iff _).2 hf, show (counted s false).pair.window = false from hw,
      show (counted s false).time = s.time from rfl, decide_eq_false (Int.not_lt.2 hage)]
    decide
  refine ⟨fun hh hj hx => ?_, fun hh hj hlive => ?_, fun hno => ?_, fun hacc => ⟨fun hf hwin hage => ?_, fun hno => ?_,
    fun hfind hx hout htake hlt => ?_, fun hno => ?_⟩, fun hno => ⟨?_, ?_⟩⟩
  · have hlone : (!s.pair.joined) = true := by rw [show s.pair.joined = false from hj]; rfl
    have htime : (s.pair.expiry.map (fun x => decide (s.tb.timeLocal.toNat < x.toNat))).getD false =
        decide (s.tb.timeLocal.toNat < x.toNat) := by rw [show s.pair.expiry = some x from hx]; rfl
    refine ⟨fun hlt => ?_, fun hle => ?_⟩
    · exact congrArg answer ((if_neg (hrun hh)).trans ((if_pos hlone).trans (if_pos (htime.trans (decide_eq_true hlt)))))
    · refine congrArg answer ((if_neg (hrun hh)).trans ((if_pos hlone).trans (if_neg (Bool.eq_false_iff.1 ?_))))
      exact htime.trans (decide_eq_false (Nat.not_lt.2 hle))
  · let u : State := { s with pair := { s.pair with
      renewal := s.pair.renewal + 1, renewals := s.pair.renewals ++ [(s.pair.renewal + 1, s.tb.timeLocal, us)] } }
    have hpaired : ¬ (!s.pair.joined) = true := by rw [show s.pair.joined = true from hj]; decide
    have hex : exec .leaseRenewTimer s = answer (sendEither u 0x10 (le 8 s.time.toNat ++ le 4 us ++ le 4 (p.renewal + 1).toNat)) :=
      congrArg answer ((if_neg (hrun hh)).trans (if_neg hpaired))
    rw [sendEither_live (show Live u from hlive)] at hex
    obtain ⟨hsent, hkeep, hpair⟩ := sendLink_sent (show Live u from hlive) 0x10
      (le 8 s.time.toNat ++ le 4 us ++ le 4 (p.renewal + 1).toNat)
    generalize sendLink u _ _ = t at hex hsent hkeep hpair
    refine ⟨_, hex, only_drivePins ((keeps_setPair s u.pair).comp hkeep), hsent, ?_, ?_⟩
    · exact congrArg Pair.renewal hpair
    · exact congrArg Pair.renewals hpair
  · refine congrArg answer (if_pos ?_)
    rw [Bool.not_eq_true', ← Bool.not_eq_true]
    exact mt hholds.1 hno
  · let u : State := { counted s false with pair := { (counted s false).pair with leaseL := l.toNat, expiry := late l.toNat } }
    have hlive : Live u := hacc.live
    have hex : exec (.leaseRenew h sent l n) s = answer (sendEither u 0x11 (le 4 n.toNat)) :=
      congrArg answer ((accept_of hacc _).trans (if_neg (hwin_iff hf hwin hage)))
    rw [sendEither_live hlive] at hex
    obtain ⟨hsent, hkeep, hpair⟩ := sendLink_sent hlive 0x11 (le 4 n.toNat)
    generalize sendLink u _ _ = t at hex hsent hkeep hpair
    refine ⟨_, hex, only_drivePins ((keeps_setPair s u.pair).comp hkeep), hsent, ?_, ?_, ?_⟩
    · exact congrArg Pair.expiry hpair
    · exact congrArg Pair.leaseL hpair
    · have hrole := congrArg Pair.role hpair
      exact hrole
  · refine congrArg answer ((accept_of hacc _).trans (if_pos ?_))
    rcases hno with h | h | h
    · have hnf : follows (counted s false) = false := Bool.eq_false_iff.2 (mt (follows_iff _).1 h)
      rw [hnf]
      rfl
    · rw [show (counted s false).pair.window = true from h, Bool.or_true, Bool.true_or]
    · rw [show (counted s false).time = s.time from rfl, decide_eq_true h, Bool.or_true]
  · have hrun' : ¬ (!p.crownOut || p.taking.isSome || decide (x.toNat ≤ s.tb.timeLocal.toNat)) = true := by
      rw [hout, htake]
      simp [hlt]
    have hex := congrArg answer ((accept_of hacc (fun s => ackRenewal s n)).trans
      (ackRenewal_found (s := counted s false) hfind hx hrun'))
    refine ⟨_, hex, only_drivePins (keeps_setPair s _), rfl, rfl, hout, fun hl => ?_⟩
    exact decide_eq_false (Nat.not_le.2 hl)
  · exact congrArg answer ((accept_of hacc _).trans (ackRenewal_stays hno))
  · exact congrArg answer (accept_of_not hno _)
  · exact congrArg answer (accept_of_not hno _)

/-- Settles O45: each timer by its condition, each renewal by what its sender and its receiver keep of it. -/
theorem leaseRuns : Obligations.LeaseRuns := ⟨leaseTimersAct, leasesRenew⟩

end Sys2Proof.Machine
end

section
/-! O46: the mirror link, its session and the pair decision -/

namespace Sys2Proof.Machine

open Host

/-! ### How long a draw is -/

theorem ctrBlocks_length (k : Octets) : ∀ (f : Nat) (o : Octets) (c : Nat), o.length ≤ f →
    ((ctrBlocks k c (chunks 16 f o)).flatten).length = o.length
  | 0, o, _, h => (Nat.le_zero.1 h).symm
  | _ + 1, [], _, _ => rfl
  | f + 1, x :: o, c, h => by
    have hrest : ((x :: o).drop 16).length ≤ f := by
      rw [List.length_drop]
      simp only [List.length_cons] at h ⊢
      omega
    have ih := ctrBlocks_length k f ((x :: o).drop 16) (c + 1) hrest
    show ((ctrBlocks k c ((x :: o).take 16 :: chunks 16 f ((x :: o).drop 16))).flatten).length = _
    rw [ctrBlocks, List.flatten_cons, List.length_append, ih, xorO, List.length_zipWith, aesEnc, fit_length,
      List.length_take, List.length_drop]
    omega

theorem ctrCrypt_length (k iv o : Octets) : (ctrCrypt k iv o).length = o.length := ctrBlocks_length k _ o _ le_rfl

/-- An instance of the generator answers as many octets as it is asked for. -/
theorem generate_length (s : State) (i n : Nat) (pr : Bool) (add : Octets) : (generate s i n pr add).1.length = n := by
  have hout (d : Drbg) (a : Octets) : (d.output n a).1.length = n := by
    rw [Drbg.output, ctrCrypt_length, zeros, List.length_replicate]
  unfold generate
  dsimp only
  split
  next => exact hout _ _
  next => exact hout _ _

/-! ### The pair decision (R53, R494 to R497) -/

theorem told_sendClosed (s : State) : Told s (sendClosed s) := by
  unfold sendClosed
  generalize s.journal.ring.filter s.journal.unstreamed = l
  induction l generalizing s with
  | nil => exact .refl s
  | cons e l ih => exact (told_sendLink s 0x31 e.octets).trans (ih _)

/-- The module joins the partner that is in SERVICE (R496, R497). -/
theorem joinAsStandby_facts {s : State} (h : HelloMsg) (hexit : s.boot.exitBy = none) :
    let t := joinAsStandby s h
    t.boot.mode = .standby ∧ t.pair.role = .joining ∧ t.pair.joined = true ∧ t.pair.crownOut = false ∧ t.pair.expiry = none ∧
      t.time = h.time ∧ t.tb.adopted = true ∧ t.keys.pairEpoch = h.epoch ∧ t.keys.counters = [] ∧ t.keys.aliases = [] ∧
      t.slots.table = [] ∧ t.so.replays = [] ∧ t.warden = s.warden := by
  have hclosed := told_sendClosed s
  let joined (s : State) : State := { s with
    tb := { s.tb with offset := h.time - s.tb.timeLocal, adopted := true, slewing := false, slewLeft := 0 },
    keys := { s.keys with pairEpoch := h.epoch, counters := [], aliases := [], peerLabels := [] },
    slots := {}, so := { s.so with replays := [] },
    pair := { s.pair with role := .joining, joined := true, expiry := none, crownOut := false } }
  have hdef : joinAsStandby s h = announce (enterRole (joined (sendClosed s)) .standby (roleTrigger (joined (sendClosed s)))) := rfl
  rw [hdef]
  generalize sendClosed s = u at hclosed
  obtain ⟨r, hrole⟩ := told_enterRole (s := joined u) .standby (roleTrigger (joined u)) (by
    show u.boot.exitBy = none
    rw [hclosed.keeps.boot, hexit])
  have htold := hrole.trans (told_announce _)
  generalize announce _ = t at htold
  have hk := htold.keeps
  have htime : t.time = h.time := htold.time.trans (by
    show u.tb.timeLocal + (h.time - u.tb.timeLocal) = h.time
    rw [BitVec.add_comm, BitVec.sub_add_cancel])
  dsimp only
  rw [hk.boot, htold.pair, htime, htold.tb, hk.keys, hk.slots, hk.so, hk.warden]
  exact ⟨rfl, rfl, rfl, rfl, rfl, rfl, rfl, rfl, rfl, rfl, rfl, rfl, hclosed.keeps.warden⟩

/-- A pair epoch can be drawn where one will be. -/
def CanCrown (s : State) : Prop := (s.boot.mode = .staged → canServe s 6 = true) ∧ (s.keys.pairEpoch = none → canServe s 6 = true)

theorem not_waits_of_canCrown {s : State} (h : CanCrown s) :
    ¬ ((s.boot.mode == .staged || s.keys.pairEpoch.isNone) && !canServe s 6) = true := by
  rw [Bool.and_eq_true, Bool.or_eq_true, beq_iff_eq, Option.isNone_iff_eq_none, Bool.not_eq_true']
  rintro ⟨hm | he, hno⟩
  · exact absurd (h.1 hm) (Bool.eq_false_iff.1 hno)
  · exact absurd (h.2 he) (Bool.eq_false_iff.1 hno)

theorem takeAlone_begins {s : State} (h : CanCrown s) (hp : pairable s = true) : takeAlone s false = beginTake s .alone :=
  (if_neg (not_waits_of_canCrown h)).trans ((if_neg (by rw [hp]; decide)).trans (if_neg (by decide)))

theorem takeAlone_waits {s : State} (hp : pairable s = true) :
    takeAlone s true = { s with boot := { s.boot with pairWait := true } } := by
  unfold takeAlone
  dsimp only
  split
  next => rfl
  next => rw [hp]; rfl

/-- The sample of PEER_CROWN_IN. -/
def sampled (s : State) (b : Bool) : State := { s with pair := { s.pair with peerIn := b } }

theorem sampled_pairable {s : State} (hp : pairable s = true) (b : Bool) :
    ({ s with pair := { s.pair with peerIn := b && pairable s } } : State) = sampled s b := by
  rw [hp, Bool.and_true, sampled]

/-- The decision on a sample already taken. -/
def decisionOn (s : State) (b : Bool) : State :=
  if !pairable s then takeAlone s false
  else match livePeer s with
    | none => s
    | some h =>
      if h.mode = 3 then tryJoin s h
      else if s.pair.role = .standby then (if b then { s with boot := { s.boot with pairWait := true } } else beginTake s .lease)
      else if h.role = 2 then { s with boot := { s.boot with pairWait := true } }
      else if s.warden.serial.toNat < h.serial.toNat then takeAlone s b
      else { s with boot := { s.boot with pairWait := true } }

theorem pairDecide_eq {s : State} (hp : pairable s = true) (b : Bool) : pairDecide s b = decisionOn (sampled s b) b := by
  have h : pairDecide s b = decisionOn { s with pair := { s.pair with peerIn := b && pairable s } } b := rfl
  rw [h, sampled_pairable hp]

section
variable {s : State} (hd : decides s = true)

/-- The decision, with the partner in reach. -/
theorem pairDecide_live {h : HelloMsg} (hp : pairable s = true) (hl : livePeer s = some h) (b : Bool) : pairDecide s b =
    if h.mode = 3 then tryJoin (sampled s b) h
    else if s.pair.role = .standby then
      (if b then { sampled s b with boot := { s.boot with pairWait := true } } else beginTake (sampled s b) .lease)
    else if h.role = 2 then { sampled s b with boot := { s.boot with pairWait := true } }
    else if s.warden.serial.toNat < h.serial.toNat then takeAlone (sampled s b) b
    else { sampled s b with boot := { s.boot with pairWait := true } } := by
  rw [pairDecide_eq hp, decisionOn, if_neg (by rw [show pairable (sampled s b) = true from hp]; decide),
    show livePeer (sampled s b) = some h from hl]
  rfl

include hd

theorem exec_pairDecision (b : Bool) : exec (.pairDecision b) s = answer (pairDecide s b) := congrArg answer (if_pos hd)

theorem exec_pairRetry_up (hw : s.boot.pairWait = true) (hl : s.pair.linkUp = true) (b : Bool) :
    exec (.pairRetry b) s = answer (pairDecide s b) :=
  congrArg answer ((if_neg (by rw [hd, hw]; decide)).trans (if_pos (by rw [hl]; rfl)))

theorem exec_pairRetry_down (hw : s.boot.pairWait = true) (hl : s.pair.linkUp = false) (hp : pairable s = true) (b : Bool) :
    exec (.pairRetry b) s = answer (decideDown s b) :=
  congrArg answer ((if_neg (by rw [hd, hw]; decide)).trans (if_neg (by rw [hl, hp]; decide)))

theorem exec_pairWaitExpiry (hl : s.pair.linkUp = false) (b : Bool) : exec (.pairWaitExpiry b) s = answer (decideDown s b) :=
  congrArg answer (if_neg (by rw [hd, hl]; decide))

end

/-- Without a link the Crown is taken alone, or the decision waits. -/
theorem decideDown_eq {s : State} (hp : pairable s = true) (hm : s.boot.mode ≠ .standby) (b : Bool) :
    decideDown s b = takeAlone (sampled s b) b := by
  rw [decideDown, if_neg (by simpa using hm), sampled_pairable hp]

theorem pairsDecide : Claims.PairsDecide := by
  intro s h x b p up pairIs waits ready overdue
  have hover : (!s.pair.joined || s.pair.drillOverdue || decide (s.time.toNat - s.pair.drillFrom.toNat ≤ 86400 * 1000000000)) = false ↔
      overdue := by
    simp only [Bool.or_eq_false_iff, Bool.not_eq_false', decide_eq_false_iff_not, not_le, and_assoc]
    rfl
  refine ⟨fun hd ⟨hpd, hlink, hses, hconf, hpeer⟩ => ?_, fun hd hpd hlink hmode => ?_, fun hd => ⟨?_, ?_, ?_⟩, fun ho => ?_, fun ho => ?_⟩
  · have hp : pairable s = true := hpd
    have hl : livePeer s = some h := by
      unfold livePeer
      rw [show s.pair.session = some x from hses]
      dsimp only
      rw [if_pos (by rw [hconf, show s.pair.linkUp = true from hlink]; rfl), hpeer]
    have hex (b : Bool) := (exec_pairDecision hd b).trans (congrArg answer (pairDecide_live hp hl b))
    refine ⟨fun hm hoff hroots hexit => ?_, fun hm hbad => ?_, fun hm hrole => ?_, fun hm hrole hr hserial hready => ?_,
      fun hm hrole hwait => ?_, fun hw => ?_⟩
    · have hjoin : tryJoin (sampled s b) h = joinAsStandby (sampled s b) h := if_pos (by
        rw [show officersAgree (sampled s b) h = true from hoff, show rootsCover h.checks (ownChecks (sampled s b)) = true from hroots]
        rfl)
      have hgives := joinAsStandby_facts (s := sampled s b) h hexit
      have hex' := (hex b).trans (congrArg answer ((if_pos hm).trans hjoin))
      generalize joinAsStandby (sampled s b) h = t at hgives hex'
      exact ⟨_, hex', hgives⟩
    · refine (hex b).trans (congrArg answer ((if_pos hm).trans (if_neg ?_)))
      rw [Bool.and_eq_true, not_and_or, Bool.not_eq_true, Bool.not_eq_true]
      exact hbad
    · exact (hex false).trans (congrArg answer ((if_neg hm).trans ((if_pos hrole).trans (if_neg (by decide)))))
    · refine (hex false).trans (congrArg answer ((if_neg hm).trans ((if_neg hrole).trans ((if_neg hr).trans ((if_pos hserial).trans ?_)))))
      exact takeAlone_begins (s := sampled s false) hready hp
    · refine (hex b).trans (congrArg answer ((if_neg hm).trans ((if_neg hrole).trans ?_)))
      rcases hwait with hr | hle
      · exact if_pos hr
      · by_cases hr : h.role = 2
        · exact if_pos hr
        · exact (if_neg hr).trans (if_neg (Nat.not_lt.2 hle))
    · exact (exec_pairRetry_up hd hw hlink b).trans (exec_pairDecision hd b).symm
  · have hp : pairable s = true := hpd
    have hdown (b : Bool) := decideDown_eq hp hmode b
    refine ⟨fun hready => ?_, ?_, fun hw hready => ?_, fun hw => ?_⟩
    · exact (exec_pairWaitExpiry hd hlink false).trans (congrArg answer ((hdown false).trans (takeAlone_begins (s := sampled s false) hready hp)))
    · exact (exec_pairWaitExpiry hd hlink true).trans (congrArg answer ((hdown true).trans (takeAlone_waits (s := sampled s true) hp)))
    · exact (exec_pairRetry_down hd hw hlink hp false).trans
        (congrArg answer ((hdown false).trans (takeAlone_begins (s := sampled s false) hready hp)))
    · exact (exec_pairRetry_down hd hw hlink hp true).trans (congrArg answer ((hdown true).trans (takeAlone_waits (s := sampled s true) hp)))
  · exact congrArg answer (if_neg (by rw [hd]; decide))
  · exact congrArg answer (if_pos (by rw [hd]; rfl))
  · exact congrArg answer (if_pos (by rw [hd]; rfl))
  · have hex : exec .drillOverdue s = answer (notice { s with pair := { s.pair with drillOverdue := true } } 0x0408 0 0 false) :=
      congrArg answer (if_neg (Bool.eq_false_iff.1 (hover.2 ho)))
    have hk := keeps_notice_unnamed { s with pair := { s.pair with drillOverdue := true } } 0x0408 0 0
    have ha := notice_alarms { s with pair := { s.pair with drillOverdue := true } } (c := 0x0408) 0 0 false (by decide)
    generalize notice _ 0x0408 0 0 false = t at hex hk ha
    refine ⟨_, hex, only_drivePins ((keeps_setPair s _).comp hk), hk.pair, ?_, ?_⟩
    · rw [drivePins_alarms, ha]
    · rw [drivePins_alarms, ha]
  · exact congrArg answer (if_pos (Bool.not_eq_false _ ▸ mt hover.1 ho))

/-! ### The mirror link (R489 to R491) -/

theorem keeps_sendHello (s : State) : Keeps [.outbox, .free, .entropy, .pair] s (sendHello s) := by
  unfold sendHello
  split
  next => exact Keeps.refl _ s
  next =>
    have hdraw : Keeps [.entropy, .free] s (generate (generate (generate s 6 56 false).2 6 32 false).2 7 48 false).2 :=
      ((keeps_generate s 6 56 false []).trans (keeps_generate _ 6 32 false [])).trans (keeps_generate _ 7 48 false [])
    exact (hdraw.comp (keeps_setPair _ _) (rs := [.outbox, .free, .entropy, .pair])).comp (keeps_emit _ _)

/-- A HELLO goes out where both instances serve and a version is there; its key pair and its nonce are fresh. -/
theorem sendHello_sent {s : State} (hl : s.pair.linkUp = true) (h6 : canServe s 6 = true) (h7 : canServe s 7 = true)
    (hv : s.boot.mirrorMax ≠ 0) : (sendHello s).pair.helloNonce.length = 32 ∧
      ∃ o, (sendHello s).outbox = .mirror false 0x01 o :: s.outbox ∧ o.take 8 = le 8 s.warden.serial.toNat := by
  have hrun : ¬ (!(s.pair.linkUp && canServe s 6 && canServe s 7) || decide (s.boot.mirrorMax = 0)) = true := by
    rw [hl, h6, h7, decide_eq_false hv]
    decide
  let d := generate s 6 56 false
  let n := generate d.2 6 32 false
  let kp := generate n.2 7 48 false
  let u : State := { kp.2 with pair := { kp.2.pair with helloPriv := be 48 (scalarDraw d.1), helloNonce := n.1 } }
  have hdef : sendHello s = emit u (.mirror false 0x01 (helloText u ++
      signP384 (u.warden.identity.getD []) (sha 48 (helloText u)) kp.1)) := if_neg hrun
  have hdraw : Told s kp.2 := ((told_generate s 6 56 false []).trans (told_generate d.2 6 32 false [])).trans (told_generate n.2 7 48 false [])
  have hout : u.outbox = s.outbox := (keeps_generate n.2 7 48 false []).outbox.trans
    ((keeps_generate d.2 6 32 false []).outbox.trans (keeps_generate s 6 56 false []).outbox)
  have hserial : u.warden = s.warden := hdraw.keeps.warden
  rw [hdef]
  refine ⟨generate_length d.2 6 32 false [], _, congrArg _ hout, ?_⟩
  rw [← hserial]
  simp only [helloText, List.append_assoc]
  rw [List.take_append_of_le_length (by rw [le_length]), List.take_of_length_le (by rw [le_length])]

/-- The retired lane joins those that are out. -/
theorem getLsbD_laneOut (x : BitVec 4) {i : Nat} (hi : i < 4) (y : Nat) :
    (x ||| BitVec.ofNat 4 (2 ^ i)).getLsbD y = (decide (y = i) || x.getLsbD y) := by
  rw [BitVec.getLsbD_or, getLsbD_bit hi, Bool.or_comm]

/-- The errors of a lane, or its losses of lock, of one kind. -/
def laneTimes (p : Pair) (lock : Bool) : Tab (List Nat) := if lock then p.laneLosses else p.laneErrors

/-- The pair unit once a lane's error is counted. -/
def Pair.laneCounted (p : Pair) (lock : Bool) (i : Nat) (l : List Nat) : Pair :=
  if lock then { p with laneLosses := tset [] p.laneLosses i l } else { p with laneErrors := tset [] p.laneErrors i l }

/-- The recent errors of a lane with the newest one. -/
def laneRecent (s : State) (lock : Bool) (i : Nat) : List Nat :=
  s.time.toNat :: (tget [] (laneTimes s.pair lock) i).filter
    (fun t => decide (s.time.toNat - t < (if lock then 86400000000000 else 1000000000)))

theorem laneCounted_facts (p : Pair) (lock : Bool) (i : Nat) (l : List Nat) :
    (p.laneCounted lock i l).lanesOut = p.lanesOut ∧ tget [] (laneTimes (p.laneCounted lock i l) lock) i = l := by
  cases lock
  case false => exact ⟨rfl, tget_tset_same [] p.laneErrors i l⟩
  case true => exact ⟨rfl, tget_tset_same [] p.laneLosses i l⟩

/-- A lane is retired, and the link goes down with the last one (R490). -/
def laneLost (s : State) (i : Nat) : State :=
  let t := journalRetire { s with pair := { s.pair with lanesOut := s.pair.lanesOut ||| BitVec.ofNat 4 (2 ^ i) } } .mirrorLane i
  if t.pair.lanesOut = 15 then linkDown t else t

theorem exec_mirrorLaneError {s : State} {lane : BitVec 2} (lock : Bool) (hin : s.pair.lanesOut.getLsbD lane.toNat = false)
    (hp : pairable s = true) : exec (.mirrorLaneError lane lock) s = answer (
      let u : State := { s with pair := s.pair.laneCounted lock lane.toNat (laneRecent s lock lane.toNat) }
      if (lock && decide (3 ≤ (laneRecent s lock lane.toNat).length)) ||
          (!lock && decide (17 ≤ (laneRecent s lock lane.toNat).length)) then laneLost u lane.toNat
      else u) := by
  refine congrArg answer ((if_neg (by rw [hin, hp]; decide)).trans ?_)
  cases lock <;> rfl

theorem laneLost_facts (s : State) {i : Nat} (hi : i < 4) :
    let t := laneLost s i
    Keeps [.free, .outbox, .tb, .journal, .pair] s t ∧
    (∀ y, t.pair.lanesOut.getLsbD y = (decide (y = i) || s.pair.lanesOut.getLsbD y)) ∧
    (t.pair.lanesOut = 15 → t.pair.linkUp = false) := by
  have hset := keeps_setPair s { s.pair with lanesOut := s.pair.lanesOut ||| BitVec.ofNat 4 (2 ^ i) }
  have hj := keeps_journalRetire { s with pair := { s.pair with lanesOut := s.pair.lanesOut ||| BitVec.ofNat 4 (2 ^ i) } } .mirrorLane i
  have hp : (journalRetire { s with pair := { s.pair with lanesOut := s.pair.lanesOut ||| BitVec.ofNat 4 (2 ^ i) } } .mirrorLane i).pair.lanesOut =
      s.pair.lanesOut ||| BitVec.ofNat 4 (2 ^ i) := congrArg Pair.lanesOut (journalNow_pair _ _ _)
  dsimp only
  unfold laneLost
  dsimp only
  generalize journalRetire _ .mirrorLane i = t at hj hp
  have hbits : ∀ y, t.pair.lanesOut.getLsbD y = (decide (y = i) || s.pair.lanesOut.getLsbD y) := fun y => by
    rw [hp, getLsbD_laneOut _ hi]
  split
  next => exact ⟨(hset.comp hj (rs := [.free, .outbox, .tb, .journal, .pair])).comp (keeps_setPair t _), hbits, fun _ => rfl⟩
  next h => exact ⟨hset.comp hj, hbits, fun h' => absurd h' h⟩

theorem mirrorLinkRuns : Claims.MirrorLinkRuns := by
  intro s seq lane lock p n i l worn
  have hworn : ((lock && decide (3 ≤ (laneRecent s lock i).length)) || (!lock && decide (17 ≤ (laneRecent s lock i).length))) = true ↔
      worn := by
    simp only [Bool.or_eq_true, Bool.and_eq_true, decide_eq_true_iff, Bool.not_eq_true']
    rfl
  refine ⟨fun hl => ⟨?_, fun hn => ?_, fun hn => ?_⟩, fun hl => ⟨?_, ?_⟩, rfl, fun hl hpd hon hlanes => ?_, fun hno => ?_,
    fun hin hpd => ⟨fun hw => ?_, fun hw => ?_⟩, fun hout => ?_⟩
  · exact congrArg answer (if_pos hl)
  · exact congrArg answer ((if_neg (by rw [show s.pair.linkUp = true from hl]; decide)).trans (if_neg (Nat.not_le.2 hn)))
  · exact congrArg answer ((if_neg (by rw [show s.pair.linkUp = true from hl]; decide)).trans ((if_pos hn).trans rfl))
  · exact congrArg answer (if_neg (by rw [show s.pair.linkUp = false from hl]; decide))
  · exact congrArg answer (if_pos (by rw [show s.pair.linkUp = false from hl]; rfl))
  · let u : State := { s with pair := { p with
      linkUp := true, frames := [], session := p.session.map (fun x => { x with confirmed := false }) } }
    have hex : exec .mirrorLinkUp s = answer (sendHello u) := congrArg answer (if_neg (by
      rw [show s.pair.linkUp = false from hl, pairable, hpd, hon, decide_eq_false hlanes]
      decide))
    have hkeep := keeps_sendHello u
    have htold := told_sendHello u
    have hsent := fun h6 h7 hv => sendHello_sent (s := u) rfl h6 h7 hv
    generalize sendHello u = t at hex hkeep htold hsent
    have hp := htold.pair
    refine ⟨_, hex, only_drivePins (((keeps_setPair s u.pair).comp hkeep (rs := [.outbox, .free, .entropy, .pair])).mono (by decide)),
      ?_, ?_, fun x hx => ?_, ?_, ?_, hsent⟩
    · exact congrArg Pair.linkUp hp
    · exact congrArg Pair.frames hp
    · have hses : p.session.map (fun x => { x with confirmed := false }) = some x := (congrArg Pair.session hp).symm.trans hx
      obtain ⟨y, -, rfl⟩ := Option.map_eq_some_iff.1 hses
      rfl
    · have h := congrArg Pair.role hp
      exact h
    · have h := congrArg Pair.crownOut hp
      exact h
  · refine congrArg answer (if_pos ?_)
    rcases hno with h | h | h
    · rw [show s.pair.linkUp = true from h]
      rfl
    · rw [h, Bool.not_false, Bool.or_true, Bool.true_or]
    · rw [decide_eq_true h, Bool.or_true]
  · have hcount := laneCounted_facts p lock i l
    have hex := (exec_mirrorLaneError lock hin hpd).trans (congrArg answer (if_neg (mt hworn.1 hw)))
    exact ⟨_, hex, only_drivePins (keeps_setPair s _), hcount⟩
  · have hcount := laneCounted_facts p lock i l
    have hex : exec (.mirrorLaneError lane lock) s = answer (laneLost { s with pair := p.laneCounted lock i l } i) :=
      (exec_mirrorLaneError lock hin hpd).trans (congrArg answer (if_pos (hworn.2 hw)))
    obtain ⟨hkeep, hbits, hdown⟩ := laneLost_facts { s with pair := p.laneCounted lock i l } (show i < 4 from lane.isLt)
    generalize laneLost _ _ = t at hex hkeep hbits hdown
    refine ⟨_, hex, only_drivePins ((keeps_setPair s _).comp hkeep), fun y _ => ?_, hdown⟩
    exact (hbits y).trans (by rw [show _ = p.lanesOut from hcount.1])
  · exact congrArg answer (if_pos (by rw [show s.pair.lanesOut.getLsbD lane.toNat = true from hout]; rfl))

/-! ### HELLO and KEY_CONFIRM (R491, R492, R495, R507) -/

/-- What a HELLO does that meets this module's own, with a version on both sides. -/
def helloMet (s : State) (h : HelloMsg) : State :=
  if !h.certOk then endSession s false false
  else match decodePoint p384 (fit 97 h.point) with
    | .error _ => endSession s false false
    | .ok q =>
      match commonRoot s h with
      | none => endSession s false true
      | some d =>
        match ecMul p384 (beNat s.pair.helloPriv) q with
        | none => endSession s false false
        | some (x, _) => startSession s h (sessionKey s h (be 48 x) d)

theorem exec_hello {s : State} {h : HelloMsg} (hl : s.pair.linkUp = true) (hp : pairable s = true) (hv : s.boot.mirrorMax ≠ 0)
    (hv' : h.mirrorMax ≠ 0) (hown : s.pair.helloPriv ≠ []) : exec (.hello h) s = answer (helloMet s h) := by
  have hrun : ¬ (!s.pair.linkUp || !pairable s) = true := by
    rw [hl, hp]
    decide
  have hown' : ¬ s.pair.helloPriv.isEmpty = true := by rwa [List.isEmpty_iff]
  refine congrArg answer ((if_neg hrun).trans ((if_neg (not_or.2 ⟨hv, hv'⟩)).trans ?_))
  dsimp only
  rw [if_neg hown', if_neg hown']
  rfl

/-- The copy begins, and mirroring with it (R496). -/
theorem startCopy_facts (s : State) : Keeps [.outbox, .pair] s (startCopy s) ∧ (startCopy s).pair = { s.pair with
    role := .active, joined := true, mirroring := true, copying := true, detaching := false,
    mseqTx := (startCopy s).pair.mseqTx, unsent := (startCopy s).pair.unsent } := by
  let u : State := { s with pair := { s.pair with
    role := .active, joined := true, mirroring := true, copying := true, detaching := false, unsent := [] } }
  have hfold (l : List Octets) (t : State) : Keeps [.outbox, .pair] t (l.foldl (fun s o => sendLink s 0x60 o) t) ∧
      (l.foldl (fun s o => sendLink s 0x60 o) t).pair = { t.pair with
        mseqTx := (l.foldl (fun s o => sendLink s 0x60 o) t).pair.mseqTx
        unsent := (l.foldl (fun s o => sendLink s 0x60 o) t).pair.unsent } := by
    induction l generalizing t with
    | nil => exact ⟨Keeps.refl _ t, rfl⟩
    | cons o l ih =>
      obtain ⟨hk, hp⟩ := ih (sendLink t 0x60 o)
      refine ⟨(keeps_sendLink t 0x60 o).trans hk, ?_⟩
      rw [List.foldl_cons, hp, sendLink_pair]
  have hdef : startCopy s = (bulkChunks u).foldl (fun s o => sendLink s 0x60 o) u := rfl
  obtain ⟨hk, hp⟩ := hfold (bulkChunks u) u
  rw [hdef]
  exact ⟨(keeps_setPair s u.pair).comp hk, hp⟩

/-- Nothing waited for the link. -/
theorem resend_idle {s : State} (hu : s.pair.unsent = []) (hc : ∀ c ∈ s.so.cmds, c.2.commitSeq = none) : resend s = s := by
  have hnone : s.so.cmds.filter (fun x => x.2.stage == .commitWait && x.2.commitSeq.isSome) = [] := by
    rw [List.filter_eq_nil_iff]
    intro c hmem
    rw [hc c hmem]
    simp
  unfold resend
  dsimp only
  rw [hnone, List.mergeSort_nil, List.foldl_nil, hu, List.foldl_nil]
  have hp : ({ s.pair with unsent := [] } : Pair) = s.pair := by rw [← hu]
  rw [hp]

theorem exec_keyConfirm {s : State} {x : Session} (hses : s.pair.session = some x) (hconf : x.confirmed = false)
    (hl : s.pair.linkUp = true) (ok : Bool) : exec (.keyConfirm ok) s = answer (
      if !ok then endSession s false true
      else sessionReady { s with pair := { s.pair with session := some { x with confirmed := true } } } x.peer) := by
  refine congrArg answer ?_
  rw [hses]
  exact if_neg (by rw [hl, hconf]; decide)

theorem sessionsStart : Claims.SessionsStart := by
  intro s h x q d z y p up versions ends
  refine ⟨fun ⟨hl, hpd⟩ hno => ?_, fun ⟨hl, hpd⟩ ⟨hv, hv'⟩ hown => ⟨fun hcert => ?_, fun hcert hpt hroot => ?_,
    fun hcert hpt hroot hmul => ?_⟩, fun hno => ?_, fun hses hconf hl => ⟨?_, fun hmode hout hmir hpm hpr hoff hroots => ?_,
    fun hmode hunsent hcmds => ?_⟩, fun hses => ?_⟩
  · have hrun : ¬ (!s.pair.linkUp || !pairable s) = true := by
      rw [show s.pair.linkUp = true from hl, pairable, hpd]
      decide
    exact congrArg answer ((if_neg hrun).trans (if_pos (by
      have h := not_and_or.1 hno
      simpa only [ne_eq, not_not] using h)))
  · exact (exec_hello hl hpd hv hv' hown).trans (congrArg answer (if_pos (by rw [hcert]; rfl)))
  · refine (exec_hello hl hpd hv hv' hown).trans (congrArg answer ((if_neg (by rw [hcert]; decide)).trans ?_))
    rw [hpt, hroot]
    rfl
  · have hex : exec (.hello h) s = answer (startSession s h (sessionKey s h (be 48 z) d)) := by
      refine (exec_hello hl hpd hv hv' hown).trans (congrArg answer ((if_neg (by rw [hcert]; decide)).trans ?_))
      rw [hpt, hroot]
      dsimp only
      rw [show ecMul p384 (beNat s.pair.helloPriv) q = some (z, y) from hmul]
    refine ⟨_, hex, only_drivePins ((keeps_setPair s _).comp (keeps_emit _ _)), rfl, ?_, rfl, rfl, rfl, rfl, rfl⟩
    show (BitVec.ofNat 8 (min s.boot.mirrorMax.toNat h.mirrorMax.toNat)).toNat = _
    have hlt := s.boot.mirrorMax.isLt
    rw [BitVec.toNat_ofNat]
    omega
  · refine congrArg answer (if_pos ?_)
    rw [Bool.or_eq_true, Bool.not_eq_true', Bool.not_eq_true', ← Bool.not_eq_true, ← Bool.not_eq_true]
    exact not_and_or.1 hno
  · exact (exec_keyConfirm hses hconf hl false).trans (congrArg answer (if_pos rfl))
  · let u : State := { s with pair := { s.pair with session := some { x with confirmed := true } } }
    have hready : sessionReady u x.peer = startCopy u := by
      unfold sessionReady
      rw [if_pos (show u.boot.mode = .service from hmode), if_neg (by rw [show u.pair.crownOut = true from hout]; decide),
        if_neg (by
          rintro ⟨-, -, h⟩
          exact absurd hmir (Bool.not_eq_false _ ▸ h))]
      dsimp only
      rw [show u.pair.mirroring = false from hmir]
      exact if_pos ⟨hpm, hpr, hoff, hroots⟩
    have hex := (exec_keyConfirm hses hconf hl true).trans (congrArg answer ((if_neg (by decide)).trans hready))
    obtain ⟨hkeep, hpair⟩ := startCopy_facts u
    generalize startCopy u = t at hex hkeep hpair
    refine ⟨_, hex, only_drivePins ((keeps_setPair s u.pair).comp hkeep), ?_, ?_, ?_, ?_, ?_⟩
    · exact congrArg Pair.session hpair
    · exact congrArg Pair.role hpair
    · exact congrArg Pair.joined hpair
    · exact congrArg Pair.mirroring hpair
    · exact congrArg Pair.copying hpair
  · let u : State := { s with pair := { s.pair with session := some { x with confirmed := true } } }
    have hready : sessionReady u x.peer = resend u := by
      unfold sessionReady
      rw [if_neg (by rw [show u.boot.mode = .staged from hmode]; decide),
        if_neg (by rw [show u.boot.mode = .staged from hmode]; rintro ⟨h, -⟩; cases h)]
    exact (exec_keyConfirm hses hconf hl true).trans
      (congrArg answer ((if_neg (by decide)).trans (hready.trans (resend_idle (s := u) hunsent hcmds))))
  · refine congrArg answer ?_
    rw [show s.pair.session = none from hses]

/-- Settles O46: each row by its branch, with the copy and the HELLO folded over what they send. -/
theorem pairsForm : Obligations.PairsForm := ⟨pairsDecide, mirrorLinkRuns, sessionsStart⟩

end Sys2Proof.Machine
end

section
/-! O47: mirroring from the active module to the standby -/

namespace Sys2Proof.Machine

open Host

/-! ### What a standby takes over (R303, R469, R496 to R498) -/

theorem keeps_counted (s : State) (relay : Bool) : Keeps [.pair] s (counted s relay) := keeps_setPair s _

theorem keeps_receiveEntry (s : State) (o : Octets) : Keeps [.tb, .journal] s (receiveEntry s o) := by
  intro p hp
  cases p
  case tb | journal => simp at hp
  all_goals rfl

/-- An entry of the partner stands at the end of the ring, and segment, number, chain and time go on from it. -/
def Received (s t : State) (o : Octets) : Prop :=
  t.journal.ring = s.journal.ring ++ [JEntry.ofOctets o] ∧ t.journal.next = (JEntry.ofOctets o).jseq + 1 ∧
    t.journal.seg = (JEntry.ofOctets o).seg ∧ t.journal.chain = (JEntry.ofOctets o).chain ∧
    t.tb.tm.toNat = max s.tb.tm.toNat (JEntry.ofOctets o).pm.time.toNat

theorem received_receiveEntry {s : State} (o : Octets) (hroom : s.journal.ring.length < journalCap) :
    Received s (receiveEntry s o) o := by
  refine ⟨?_, rfl, rfl, rfl, ?_⟩
  · exact congrArg (· ++ [JEntry.ofOctets o]) (if_neg (Nat.not_le.2 hroom))
  · show (if (JEntry.ofOctets o).pm.time.toNat > s.tb.tm.toNat then (JEntry.ofOctets o).pm.time else s.tb.tm).toNat = _
    split <;> omega

theorem Received.congr {s t u : State} {o : Octets} (h : Received s t o) (hj : u.journal.ring = t.journal.ring ∧
    u.journal.next = t.journal.next ∧ u.journal.seg = t.journal.seg ∧ u.journal.chain = t.journal.chain) (ht : u.tb = t.tb) :
    Received s u o := by
  obtain ⟨h1, h2, h3, h4⟩ := hj
  rw [Received, h1, h2, h3, h4, ht]
  exact h

/-- Labels of the copy join those of the partner's list. -/
def labelled (s : State) (l : List (Nat × Octets)) : State :=
  { s with keys := { s.keys with peerLabels := s.keys.peerLabels ++ l } }

theorem keeps_labelled (s : State) (l : List (Nat × Octets)) : Keeps [.keys, .pair] s (labelled (counted s false) l) := by
  intro p hp
  cases p
  case keys | pair => simp at hp
  all_goals rfl

/-- The joining module is a standby. -/
def synchronised (s : State) : State := { s with pair := { s.pair with role := .standby } }

theorem keeps_addReplay (s : State) (r : Replay) : Keeps [.so] s (addReplay s r) := by
  intro p hp
  cases p
  case so => simp at hp
  all_goals rfl

theorem standbysFollow : Claims.StandbysFollow := by
  intro s h m o head skew labels s1 entry joins hacc hrole hroom
  have hfollow : follows s1 = true := (follows_iff _).2 hrole
  have hrun : ¬ (!follows s1) = true := by
    rw [hfollow]
    decide
  have hsends (u : State) (hpair : u.pair = s1.pair) (hout : u.outbox = s.outbox) (cls : BitVec 8) (o : Octets) :
      SentOnce s (sendLink u cls o) cls o ∧ Keeps [.outbox, .pair] u (sendLink u cls o) ∧
        (sendLink u cls o).pair.role = s.pair.role := by
    obtain ⟨⟨hsent, hseq⟩, hkeep, hp⟩ := sendLink_sent (s := u) (by rw [Live, hpair]; exact hacc.live) cls o
    rw [SentOnce, hsent, hseq, hp, hpair, hout]
    exact ⟨⟨rfl, rfl⟩, hkeep, rfl⟩
  refine ⟨fun hw hm => ?_, ?_, ?_, ?_, fun hj => ⟨?_, ?_⟩⟩
  · have hex : exec (.commitMsg h m) s = answer (sendLink (receiveEntry (addReplay s1 (recordOf m)) o) 0x21 (le 8 h.mseq.toNat)) := by
      refine congrArg answer ((accept_of hacc _).trans ((if_neg hrun).trans ?_))
      rw [hw, hm]
      rfl
    have hrec : Received s (receiveEntry (addReplay s1 (recordOf m)) o) o :=
      received_receiveEntry (s := addReplay s1 (recordOf m)) o hroom
    have hk : Keeps [.so, .tb, .journal, .pair] s (receiveEntry (addReplay s1 (recordOf m)) o) :=
      ((keeps_counted s false).comp (keeps_addReplay s1 (recordOf m)) (rs := [.so, .pair])).comp (keeps_receiveEntry _ o)
    have hreplays : (receiveEntry (addReplay s1 (recordOf m)) o).so.replays = (addReplay s (recordOf m)).so.replays := rfl
    obtain ⟨hsent, hkeep, -⟩ := hsends (receiveEntry (addReplay s1 (recordOf m)) o) rfl rfl 0x21 (le 8 h.mseq.toNat)
    generalize receiveEntry (addReplay s1 (recordOf m)) o = u at hex hrec hk hreplays hsent hkeep
    generalize sendLink u _ _ = t at hex hsent hkeep
    refine ⟨_, hex, only_drivePins (hk.comp hkeep), hrec.congr ?_ hkeep.tb, hsent, ?_⟩
    · rw [drivePins_journal, hkeep.journal]
      exact ⟨rfl, rfl, rfl, rfl⟩
    · rw [findReplay, drivePins_so, hkeep.so, hreplays]
  · have hex : exec (.journalMsg h [o] head) s = answer { receiveEntry s1 o with
        journal := { (receiveEntry s1 o).journal with head := head } } :=
      congrArg answer ((accept_of hacc _).trans (if_neg hrun))
    have hrec : Received s (receiveEntry s1 o) o := received_receiveEntry (s := s1) o hroom
    have hk := keeps_receiveEntry s1 o
    refine ⟨_, hex, only_drivePins ?_, hrec, rfl⟩
    exact ((keeps_counted s false).comp hk (rs := [.tb, .journal, .pair])).comp (keeps_setJournal (receiveEntry s1 o) _)
  · exact congrArg answer ((accept_of hacc _).trans (if_pos hfollow))
  · have hex : exec (.timeSync h skew) s = answer { sendLink s1 0x50 (le 8 s.time.toNat ++ le 8 s.time.toNat) with
        tb := { (sendLink s1 0x50 (le 8 s.time.toNat ++ le 8 s.time.toNat)).tb with
          slewing := decide (skew ≠ 0), slewLeft := skew } } := by
      have hrole' : follows (sendLink s1 0x50 (le 8 s.time.toNat ++ le 8 s.time.toNat)) = true := by
        rw [follows, (hsends s1 rfl rfl 0x50 _).2.2]
        exact hfollow
      exact congrArg answer ((accept_of hacc _).trans ((if_pos (Or.inr hfollow)).trans (if_pos hrole')))
    obtain ⟨hsent, hkeep, -⟩ := hsends s1 rfl rfl 0x50 (le 8 s.time.toNat ++ le 8 s.time.toNat)
    generalize sendLink s1 _ _ = u at hex hsent hkeep
    have htb : u.tb = s.tb := hkeep.tb
    refine ⟨_, hex, only_drivePins ?_, hsent, ?_, rfl, ?_⟩
    · exact ((keeps_counted s false).comp hkeep (rs := [.tb, .pair, .outbox])).comp (keeps_setTb u _)
    · show u.tb.timeLocal + u.tb.offset = _
      rw [htb]
      rfl
    · exact decide_eq_true_iff
  · have hex : exec (.bulk h (.labels labels) false) s = answer (sendLink (labelled s1 labels) 0x61 (le 8 h.mseq.toNat)) :=
      congrArg answer ((accept_of hacc _).trans ((if_neg (not_not.2 hj)).trans (if_neg (by decide))))
    obtain ⟨hsent, hkeep, hr⟩ := hsends (labelled s1 labels) rfl rfl 0x61 (le 8 h.mseq.toNat)
    have hlabels : (labelled s1 labels).keys.peerLabels = s.keys.peerLabels ++ labels := rfl
    have hk := keeps_labelled s labels
    generalize labelled s1 labels = u at hex hsent hkeep hr hlabels hk
    generalize sendLink u _ _ = t at hex hsent hkeep hr
    refine ⟨_, hex, only_drivePins (hk.comp hkeep), ?_, hsent, ?_⟩
    · rw [drivePins_keys, hkeep.keys, hlabels]
    · rw [drivePins_pair, hr, hj]
  · have hex : exec (.bulk h (.labels labels) true) s = answer (pairVector (synchronised
        (sendLink (labelled s1 labels) 0x61 (le 8 h.mseq.toNat)))) :=
      congrArg answer ((accept_of hacc _).trans ((if_neg (not_not.2 hj)).trans (if_pos rfl)))
    obtain ⟨-, hkeep, -⟩ := hsends (labelled s1 labels) rfl rfl 0x61 (le 8 h.mseq.toNat)
    have hlabels : (labelled s1 labels).keys.peerLabels = s.keys.peerLabels ++ labels := rfl
    have hk := keeps_labelled s labels
    generalize labelled s1 labels = u at hex hkeep hlabels hk
    generalize sendLink u _ _ = v at hex hkeep
    have hvec := keeps_msixBoth (synchronised v) (32 + (synchronised v).pair.vec.toNat)
    have hdone := keeps_setPair v { v.pair with role := .standby }
    have hex' : exec (.bulk h (.labels labels) true) s = answer (msixBoth (synchronised v) (32 + (synchronised v).pair.vec.toNat)) := hex
    have hrole' : (msixBoth (synchronised v) (32 + (synchronised v).pair.vec.toNat)).pair.role = .standby := by
      rw [hvec.pair]
      rfl
    have hkeys : (synchronised v).keys = v.keys := rfl
    generalize msixBoth (synchronised v) _ = t at hex' hvec hrole'
    refine ⟨_, hex', only_drivePins ?_, ?_, hrole'⟩
    · exact ((hk.comp hkeep (rs := [.keys, .pair, .outbox, .msix])).comp hdone (rs := [.keys, .pair, .outbox, .msix])).comp hvec
    · rw [drivePins_keys, hvec.keys, hkeys, hkeep.keys, hlabels]

/-! ### What the active module hears (R303, R469, R497, R498) -/

theorem commitNow_plain {s : State} {e : Nat} {c : Cmd} (heff : c.effects = []) (hj : c.journalled = false) (hr : c.keepsReplay = false) :
    commitNow s e c = (stampCompletion s c).2.setCmd e
      { (stampCompletion s c).1 with stamped := true, stage := .done, effects := [], commitSeq := none } := by
  unfold commitNow stampCompletion
  dsimp only
  rw [heff, hj, hr]
  rfl

theorem groups_one {α : Type} {n : Nat} {l : List α} (hne : l ≠ []) (hle : l.length ≤ n) : groups n l = [l] := by
  obtain ⟨x, t, rfl⟩ := List.exists_cons_of_ne_nil hne
  show (x :: t).take n :: groupsOf n t.length ((x :: t).drop n) = [x :: t]
  rw [List.take_of_length_le hle, List.drop_of_length_le hle]
  cases t <;> rfl

theorem activesLead : Claims.ActivesLead := by
  intro s h seq e c o last s1 j
  refine ⟨fun hacc => ⟨fun hfind hseq heff hj hr => ?_, fun hfind => ?_, fun hmode hrole hmir hroom => ?_, fun hcopy => ?_,
    fun hno => ?_⟩, fun hmode hjoined hrole hlive hlabels hle hne => ?_, fun hno m es hd ch sk lb pin tm => ?_⟩
  · have hex : exec (.commitAck h seq) s = answer ((stampCompletion s1 c).2.setCmd e
        { (stampCompletion s1 c).1 with stamped := true, stage := .done, effects := [], commitSeq := none }) := by
      refine congrArg answer ((accept_of hacc _).trans ?_)
      dsimp only
      rw [show s1.so.cmds.find? _ = some (e, c) from hfind]
      exact (if_neg hseq).trans (commitNow_plain heff hj hr)
    have hk := keeps_stampCompletion s1 c
    refine ⟨_, hex, only_drivePins ?_,
      { (stampCompletion s1 c).1 with stamped := true, stage := .done, effects := [], commitSeq := none }, ?_,
      rfl, rfl, rfl, rfl, rfl, rfl⟩
    · exact ((keeps_counted s false).comp hk (rs := [.free, .tb, .so, .pair])).comp (keeps_setCmd _ _ _)
    · exact State.cmd_setCmd _ _ _
  · refine congrArg answer ((accept_of hacc _).trans ?_)
    rw [show s1.so.cmds.find? _ = none from hfind]
  · let x : JEntry := { j with origin := 1, sig := [], frankId := [] }
    have hlone : (seenTime s1 j.pm.time).lone := ⟨by rw [show (seenTime s1 j.pm.time).pair.role = .active from hrole]; decide,
      by rw [show (seenTime s1 j.pm.time).pair.role = .active from hrole]; decide, hmir⟩
    have hex : exec (.standbyEvent h o) s = answer { seenTime s1 j.pm.time with journal := s.journal.append x } :=
      congrArg answer ((accept_of hacc _).trans ((if_neg (not_not.2 hmode)).trans (journal_of_lone hlone x)))
    have hnf : s.journal.full = false := by
      rw [Journal.full, decide_eq_false (Nat.not_le.2 hroom), Bool.false_and]
    have happend : s.journal.append x = s.journal.put x := by
      rw [Journal.append, hnf]
      rfl
    have hring : ∃ y : JEntry, (s.journal.put x).ring = s.journal.ring ++ [y] ∧ y.origin = 1 ∧ y.pm = j.pm ∧ y.type = j.type ∧
        y.detail = j.detail ∧ y.jseq = s.journal.next :=
      ⟨_, congrArg (· ++ [_]) (if_neg (Nat.not_le.2 hroom)), rfl, rfl, rfl, rfl, rfl⟩
    rw [happend] at hex
    refine ⟨_, hex, only_drivePins ?_, hring⟩
    intro p hp
    cases p
    case tb | journal | pair => simp at hp
    all_goals rfl
  · exact congrArg answer ((accept_of hacc _).trans (if_pos (by rw [show s1.pair.copying = true from hcopy]; rfl)))
  · refine congrArg answer ((accept_of hacc _).trans (if_neg ?_))
    rcases hno with h | h
    · rw [h, Bool.false_and]
      decide
    · rw [show (counted s false).pair.copying = false from h, Bool.and_false]
      decide
  · have hall : s.keys.cache.filter (fun c => c.key.source == 0) = s.keys.cache :=
      List.filter_eq_self.2 fun x hx => beq_iff_eq.2 (hlabels x hx)
    have hex : exec .cacheListTimer s = answer (sendLink s 0x40 (s.keys.cache.flatMap (fun c => le 2 c.slot ++ fit 64 c.body))) := by
      have hrun : ¬ (!leads s || !linkLive s) = true := by
        rw [(linkLive_iff s).2 hlive, leads, hmode, hjoined, hrole]
        decide
      refine congrArg answer ((if_neg hrun).trans ?_)
      dsimp only
      rw [hall, groups_one hne hle, List.foldl_cons, List.foldl_nil]
    obtain ⟨hsent, hkeep, -⟩ := sendLink_sent hlive 0x40 (s.keys.cache.flatMap (fun c => le 2 c.slot ++ fit 64 c.body))
    generalize sendLink s _ _ = t at hex hsent hkeep
    exact ⟨_, hex, only_drivePins (hkeep.mono (by decide)), hsent⟩
  · have hstay (act : State → State) : answer (accept s false h act) = answer s := congrArg answer (accept_of_not hno act)
    exact ⟨hstay _, hstay _, hstay _, hstay _, hstay _, hstay _, hstay _, hstay _, hstay _, hstay _, hstay _, hstay _⟩

/-- Settles O47: each message by what it leaves before its answer goes out. -/
theorem pairsMirror : Obligations.PairsMirror := ⟨standbysFollow, activesLead⟩

end Sys2Proof.Machine
end

section
/-! O48: detachment and ROLE_SWAP -/

namespace Sys2Proof.Machine

open Host

/-! ### Detachment (R508, R510, R511) -/

/-- A message of the relay leaves the pair's counters and its own words alone. -/
theorem sendRelay_facts (s : State) (cls : BitVec 8) (o : Octets) : Keeps [.outbox, .pair, .msix] s (sendRelay s cls o) ∧
    (sendRelay s cls o).pair = { s.pair with relayTx := (sendRelay s cls o).pair.relayTx, relayOut := (sendRelay s cls o).pair.relayOut,
                                             relayOutSeq := (sendRelay s cls o).pair.relayOutSeq } := by
  unfold sendRelay
  split
  next x _ =>
    split
    next => exact ⟨Keeps.refl _ s, rfl⟩
    next =>
      have hvec (t : State) : Keeps [.outbox, .msix] t (pairVector t) := keeps_msixBoth t _
      refine ⟨?_, ?_⟩
      · exact ((keeps_setPair s _).comp (keeps_emit _ _) (rs := [.outbox, .pair, .msix])).comp (hvec _)
      · rw [(hvec _).pair]
        rfl
  next => exact ⟨Keeps.refl _ s, rfl⟩

/-- The words of a relay message (R492, R508). -/
def relayWords (s : State) (x : Session) (cls : BitVec 8) (o : Octets) : Octets :=
  let n := s.pair.relayTx + 1
  let low := isLower s x
  let h := msgHeader s cls o.length n
  let r := gcmEnc (relayKey x low) (gcmJ0 (relayIv low n)) h (fit 32 o)
  fit 64 (h ++ fit 32 r.1 ++ fit 16 r.2)

theorem sendRelay_sent {s : State} {x : Session} (hses : s.pair.session = some x) (hconf : x.confirmed = true)
    (hl : s.pair.linkUp = false) (hen : s.pair.relayEn = true) (cls : BitVec 8) (o : Octets) : (sendRelay s cls o).pair =
      { s.pair with relayTx := s.pair.relayTx + 1, relayOut := relayWords s x cls o, relayOutSeq := s.pair.relayOutSeq + 1 } := by
  unfold sendRelay
  rw [hses]
  dsimp only
  rw [if_neg (by rw [hl, hen, hconf]; decide), pairVector, (keeps_msixBoth _ _).pair]
  rfl

theorem relayWords_facts (s : State) (x : Session) (cls : BitVec 8) (o : Octets) : (relayWords s x cls o).length = 64 ∧
    (relayWords s x cls o).take 2 = [cls, s.pair.mirrorVer] ∧ slice (relayWords s x cls o) 8 8 = le 8 (s.pair.relayTx + 1) := by
  unfold relayWords
  dsimp only
  generalize gcmEnc _ _ _ _ = r
  refine ⟨fit_length _ _, ?_, ?_⟩
  · rw [fit, List.take_take]
    rfl
  · rw [slice_fit (by decide), List.append_assoc, msgHeader, List.append_assoc]
    exact slice_field _ (by simp [zeros]) (le_length _ _)

theorem u64_lt (o : Octets) (off : Nat) : u64 o off < 2 ^ 64 := by
  have h := leNat_lt (slice o off 8)
  rwa [slice, fit_length] at h

/-- The module runs alone from SERVICE. -/
def AloneInService (t : State) : Prop :=
  t.pair.role = .lone ∧ t.pair.joined = false ∧ t.pair.mirroring = false ∧ t.pair.copying = false ∧ t.boot.mode = .service

theorem runAlone_inService {s : State} (hmode : s.boot.mode = .service) (hswap : s.pair.swap = none) :
    AloneInService (runAlone s) := by
  have h := runAlone_facts hswap
  rw [AloneInService, h.pair, h.boot]
  exact ⟨rfl, rfl, rfl, rfl, hmode⟩

theorem leads_iff (s : State) : leads s = true ↔ s.boot.mode = .service ∧ s.pair.joined = true ∧ s.pair.role = .active := by
  rw [leads, Bool.and_eq_true, Bool.and_eq_true, beq_iff_eq, beq_iff_eq, and_assoc]

/-- The relay's words once the last one is written. -/
def relayWritten (s : State) (v : BitVec 64) : State := { s with pair := { s.pair with relayIn := s.pair.relayIn.set 7 v } }

/-- The message in RELAY_IN. -/
def relayed (s : State) : Octets := s.pair.relayIn.flatMap (fun w => le 8 w.toNat)

/-- What the words of RELAY_IN do in a session. -/
def relayHeard (s : State) (x : Session) : State :=
  match relayOpen s x (relayed s) with
  | none => s
  | some (cls, pt) =>
    accept s true { mseq := BitVec.ofNat 64 (u64 (relayed s) 8) } (fun s =>
      if cls = 0x10 then takeRenewal s (BitVec.ofNat 64 (u64 pt 0)) (u32 pt 8) (u32 pt 12)
      else if cls = 0x11 then ackRenewal s (BitVec.ofNat 32 (u32 pt 0))
      else if cls = 0x72 then takeDetach s
      else if cls = 0x73 then takeDetachAck s
      else s)

theorem exec_relayIn {s : State} {x : Session} (hses : s.pair.session = some x) (v : BitVec 64) :
    exec (.relayIn v) s = answer (relayHeard (relayWritten s v) x) := by
  have h : (relayWritten s v).pair.session = some x := hses
  have hdef : exec (.relayIn v) s = answer (match (relayWritten s v).pair.session with
    | none => relayWritten s v
    | some x => relayHeard (relayWritten s v) x) := rfl
  rw [hdef, h]

theorem partnersDetach : Claims.PartnersDetach := by
  intro s h v x pt p alone detached words o leading
  refine ⟨fun hacc hrole => ?_, fun hacc ⟨hmode, hjoined, hrole, hswap⟩ => ?_, fun r hacc ⟨hmode, hjoined, hrole, hswap⟩ hdet => ?_,
    fun ⟨hmode, hjoined, hrole, hswap⟩ hl hdet hen hses hconf => ?_, fun hno => ?_, fun hrole hl => ?_, fun hl => ?_,
    fun hses hconf => ⟨fun hbad => ?_, fun hgood hseq hrole hl => ?_⟩⟩
  · have hf : follows (counted s false) = true := (follows_iff _).2 hrole
    have hlive : Live (counted s false) := hacc.live
    have hex : exec (.detach false h) s = answer (becomeDetached (sendLink (counted s false) 0x73 [])) := by
      refine congrArg answer ((accept_of hacc _).trans ((if_pos hf).trans ?_))
      rw [if_pos ((linkLive_iff _).2 hlive)]
    obtain ⟨hsent, hkeep, -⟩ := sendLink_sent hlive 0x73 []
    generalize sendLink (counted s false) _ _ = t at hex hsent hkeep
    refine ⟨_, hex, only_drivePins ?_, hsent, rfl, rfl, rfl⟩
    exact ((keeps_counted s false).comp hkeep (rs := [.pair, .outbox])).comp (keeps_setPair t _)
  · have hf : ¬ follows (counted s false) = true := by
      rw [follows_iff, show (counted s false).pair.role = .active from hrole]
      decide
    have hlead : leads (counted s false) = true := (leads_iff _).2 ⟨hmode, hjoined, hrole⟩
    have hlive : Live (counted s false) := hacc.live
    have hex : exec (.detach false h) s = answer (runAlone (sendLink (counted s false) 0x73 [])) := by
      refine congrArg answer ((accept_of hacc _).trans ((if_neg hf).trans ((if_pos hlead).trans ?_)))
      rw [if_pos ((linkLive_iff _).2 hlive)]
    have hsent := told_sendLink (counted s false) 0x73 []
    have halone : AloneInService (runAlone (sendLink (counted s false) 0x73 [])) := runAlone_inService
      (by rw [hsent.keeps.boot]; exact hmode) (by rw [hsent.pair]; exact hswap)
    generalize runAlone _ = t at hex halone
    exact ⟨_, hex, halone⟩
  · have hlead : leads (counted s r) = true := (leads_iff _).2 ⟨hmode, by cases r <;> exact hjoined, by cases r <;> exact hrole⟩
    have hdet' : (counted s r).pair.detaching = true := by cases r <;> exact hdet
    have hex : exec (.detachAck r h) s = answer (runAlone (counted s r)) :=
      congrArg answer ((accept_of hacc _).trans (if_pos (by rw [hlead, hdet']; rfl)))
    have halone : AloneInService (runAlone (counted s r)) := runAlone_inService hmode (by cases r <;> exact hswap)
    generalize runAlone _ = t at hex halone
    exact ⟨_, hex, halone⟩
  · let u : State := { s with pair := { s.pair with detaching := true } }
    have hrun : ¬ (!leads s || s.pair.linkUp || s.pair.detaching || !s.pair.relayEn) = true := by
      rw [(leads_iff s).2 ⟨hmode, hjoined, hrole⟩, show s.pair.linkUp = false from hl, show s.pair.detaching = false from hdet,
        show s.pair.relayEn = true from hen]
      decide
    have hex : exec .detachTimeout s = answer (sendRelay u 0x72 (le 2 (Config.detachCause 1).toNat)) :=
      congrArg answer (if_neg hrun)
    have hkeep := (sendRelay_facts u 0x72 (le 2 (Config.detachCause 1).toNat)).1
    have hpair := sendRelay_sent (s := u) hses hconf hl hen 0x72 (le 2 (Config.detachCause 1).toNat)
    obtain ⟨hlen, hhead, hseq⟩ := relayWords_facts u x 0x72 (le 2 (Config.detachCause 1).toNat)
    generalize sendRelay u _ _ = t at hex hkeep hpair
    refine ⟨_, hex, only_drivePins (((keeps_setPair s u.pair).comp hkeep (rs := [.outbox, .pair, .msix])).mono (by decide)),
      ?_, ?_, ?_, ?_, ?_, ?_⟩
    all_goals rw [drivePins_pair, hpair]
    · exact hlen
    · exact hhead
    · exact hseq
  · refine congrArg answer (if_pos ?_)
    rcases hno with h | h
    · rw [show s.pair.linkUp = true from h, Bool.or_true, Bool.true_or, Bool.true_or]
    · have hl : leads s = false := Bool.eq_false_iff.2 fun hl => h ((leads_iff s).1 hl).2.2
      rw [hl]
      rfl
  · exact congrArg answer (if_pos (by rw [(follows_iff s).2 hrole, show s.pair.linkUp = false from hl]; rfl))
  · exact congrArg answer (if_neg (by rw [show s.pair.linkUp = true from hl, Bool.not_true, Bool.and_false]; decide))
  · refine (exec_relayIn hses v).trans (congrArg answer ?_)
    unfold relayHeard
    rw [show relayOpen (relayWritten s v) x (relayed (relayWritten s v)) = none from hbad]
    rfl
  · have hacc : Accepted (relayWritten s v) true { mseq := BitVec.ofNat 64 (u64 o 8) } := by
      refine ⟨⟨x, hses, hconf⟩, fun h => Bool.noConfusion h, rfl, ?_⟩
      show (BitVec.ofNat 64 (u64 o 8)).toNat = s.pair.relayRx + 1
      rw [BitVec.toNat_ofNat, Nat.mod_eq_of_lt (u64_lt o 8), hseq]
    let u : State := counted (relayWritten s v) true
    have hf : follows u = true := (follows_iff u).2 (Or.inl hrole)
    have hdown : ¬ linkLive u = true := by
      rw [linkLive, show u.pair.linkUp = false from hl, Bool.false_and]
      decide
    have hex : exec (.relayIn v) s = answer (becomeDetached (sendRelay u 0x73 [])) := by
      refine (exec_relayIn hses v).trans (congrArg answer ?_)
      unfold relayHeard
      rw [show relayOpen (relayWritten s v) x (relayed (relayWritten s v)) = some (0x72, pt) from hgood]
      refine (accept_of hacc _).trans ((if_neg (by decide)).trans ((if_neg (by decide)).trans ((if_pos rfl).trans ((if_pos hf).trans ?_))))
      rw [if_neg hdown]
    have hpair := (sendRelay_facts u 0x73 []).2
    generalize sendRelay u _ _ = t at hex hpair
    refine ⟨_, hex, rfl, rfl, ?_, ?_⟩
    · exact congrArg Pair.relayRx hpair
    · exact congrArg Pair.relayMsgs hpair

/-! ### ROLE_SWAP (R460, R515) -/

theorem finishHeld_pair {s : State} {e : Nat} {c : Cmd} (h : Held s e c) (st : Code) {out : Octets}
    (hcap : out.length ≤ c.d.outCap.toNat) : (finishHeld s e st out).pair =
      { s.pair with mseqTx := (finishHeld s e st out).pair.mseqTx, unsent := (finishHeld s e st out).pair.unsent } := by
  have hover := (heldOver_facts s e { c with served := true, status := st, output := out }).2.1.pair
  rw [finishHeld_plain h st hcap]
  generalize heldOver s e _ = u at hover
  have hjournal (t : State) (x : JEntry) (ht : t.pair = s.pair) : (journal t x).pair =
      { s.pair with mseqTx := (journal t x).pair.mseqTx, unsent := (journal t x).pair.unsent } := by rw [journal_pair, ht]
  unfold journalService
  split
  next => exact hjournal _ _ hover
  next =>
    rw [← hover]
    rfl

theorem exec_roleSwapDrainEnd {s : State} {w : Swap} (hswap : s.pair.swap = some w) (hh : w.handed = false) (b : Bool) :
    exec (.roleSwapDrainEnd b) s = answer (
      if !b then finishHeld { s with pair := { s.pair with swap := none } } w.cmd busyRetry []
      else if !drained s w then s
      else sendLink { s with pair := { s.pair with swap := some { w with handed := true }, crownOut := false, holding := true } } 0x70
        (le 8 s.tb.tm.toNat ++ le 8 s.pair.mseqTx ++ le 4 s.journal.seg.toNat ++ le 8 s.journal.next.toNat ++
          fit 48 s.journal.chain)) := by
  refine congrArg answer ?_
  rw [hswap]
  exact if_neg (by rw [hh]; decide)

theorem rolesSwap : Claims.RolesSwap := by
  intro s h w c tm p s1
  have hbusy : ([] : Octets).length ≤ c.d.outCap.toNat := Nat.zero_le _
  refine ⟨fun hswap b => ?_, fun hswap hh => ⟨fun hdone hlive => ?_, fun hno => ?_, fun hheld => ?_⟩,
    fun hacc => ⟨fun hrole hmode htake => ?_, fun hrole hmode => ?_, fun hno => ?_, fun hswap hh hheld hmode => ?_, fun hswap => ?_⟩⟩
  · refine congrArg answer ?_
    rw [show s.pair.swap = none from hswap]
  · let u : State := { s with pair := { s.pair with swap := some { w with handed := true }, crownOut := false, holding := true } }
    have hex := (exec_roleSwapDrainEnd hswap hh true).trans (congrArg answer ((if_neg (by decide)).trans (if_neg (by rw [hdone]; decide))))
    obtain ⟨hsent, hkeep, hpair⟩ := sendLink_sent (s := u) hlive 0x70
      (le 8 s.tb.tm.toNat ++ le 8 s.pair.mseqTx ++ le 4 s.journal.seg.toNat ++ le 8 s.journal.next.toNat ++ fit 48 s.journal.chain)
    change exec (.roleSwapDrainEnd true) s = answer (sendLink u 0x70 _) at hex
    generalize sendLink u _ _ = t at hex hsent hkeep hpair
    refine ⟨_, hex, only_drivePins ((keeps_setPair s u.pair).comp hkeep), ?_, ?_, ?_, hsent⟩
    all_goals rw [drivePins_pair, hpair]
  · exact (exec_roleSwapDrainEnd hswap hh true).trans (congrArg answer ((if_neg (by decide)).trans (if_pos (by rw [hno]; rfl))))
  · let u : State := { s with pair := { s.pair with swap := none } }
    have hex := (exec_roleSwapDrainEnd hswap hh false).trans (congrArg answer (if_pos rfl))
    have hend := finishHeld_ends (s := u) hheld busyRetry hbusy
    have hpair := finishHeld_pair (s := u) hheld busyRetry hbusy
    change exec (.roleSwapDrainEnd false) s = answer (finishHeld u w.cmd busyRetry []) at hex
    generalize finishHeld u w.cmd busyRetry [] = t at hex hend hpair
    refine ⟨_, hex, hend.ended, ?_, ?_, ?_, hend.keeps.boot⟩
    all_goals rw [drivePins_pair, hpair]
  · have hrun : ¬ (decide ((counted s false).pair.role ≠ .standby) || decide ((counted s false).boot.mode ≠ .standby)) = true := by
      rw [show (counted s false).pair.role = .standby from hrole, show (counted s false).boot.mode = .standby from hmode]
      decide
    have hex : exec (.handover h tm false) s = answer (beginTake (seenTime { s1 with pair := { s1.pair with peerIn := false } } tm) .swap) :=
      congrArg answer ((accept_of hacc _).trans ((if_neg hrun).trans (if_neg (by
        show ¬ (false || s.pair.taking.isSome) = true
        rw [show s.pair.taking = none from htake]
        decide))))
    let u : State := { s1 with pair := { s1.pair with peerIn := false } }
    have hseen : Keeps [.tb, .pair] s (seenTime u tm) :=
      ((keeps_counted s false).comp (keeps_setPair s1 u.pair) (rs := [.pair])).comp (keeps_setTb u _)
    refine ⟨_, hex, only_drivePins (hseen.comp (keeps_setPair (seenTime u tm) _)), rfl, rfl, hrole, ?_⟩
    · show (if tm.toNat > s.tb.tm.toNat then tm else s.tb.tm).toNat = _
      split <;> omega
  · have hrun : ¬ (decide ((counted s false).pair.role ≠ .standby) || decide ((counted s false).boot.mode ≠ .standby)) = true := by
      rw [show (counted s false).pair.role = .standby from hrole, show (counted s false).boot.mode = .standby from hmode]
      decide
    have hex : exec (.handover h tm true) s = answer (seenTime { s1 with pair := { s1.pair with peerIn := true } } tm) :=
      congrArg answer ((accept_of hacc _).trans ((if_neg hrun).trans (if_pos rfl)))
    exact ⟨_, hex, rfl, rfl⟩
  · refine congrArg answer ((accept_of hacc _).trans (if_pos ?_))
    rcases hno with h | h
    · rw [decide_eq_true (show (counted s false).pair.role ≠ .standby from h), Bool.true_or]
    · rw [decide_eq_true (show (counted s false).boot.mode ≠ .standby from h), Bool.or_true]
  · have hex : exec (.handoverAck h) s = answer (finishHeld (leaveService s1 .standby 0x8080) w.cmd stOk []) := by
      refine congrArg answer ((accept_of hacc _).trans ?_)
      rw [show s1.pair.swap = some w from hswap]
      exact if_pos hh
    obtain ⟨hlost, -, -, hso, hpair⟩ := leaveService_facts s1 .standby 0x8080
    generalize leaveService s1 .standby 0x8080 = u at hex hlost hso hpair
    have hheld' : Held u w.cmd c := by
      rw [Held, State.cmd_congr hso]
      exact hheld
    have hend := finishHeld_ends hheld' stOk hbusy
    have hpair' := finishHeld_pair hheld' stOk hbusy
    generalize finishHeld u w.cmd stOk [] = t at hex hend hpair'
    obtain ⟨hm, hout, hexp, hhold, hcache⟩ := hlost
    refine ⟨_, hex, ⟨?_, ?_, ?_, ?_, ?_⟩, ?_, ?_, hend.ended⟩
    · rw [drivePins_boot, hend.keeps.boot, hm]
    · rw [drivePins_pair, hpair', hout]
    · rw [drivePins_pair, hpair', hexp]
    · rw [drivePins_pair, hpair', hhold]
    · rw [drivePins_keys, hend.keys, hcache]
    · rw [drivePins_pair, hpair', hpair]
      rfl
    · rw [drivePins_pair, hpair', hpair]
      rfl
  · refine congrArg answer ((accept_of hacc _).trans ?_)
    rw [show s1.pair.swap = none from hswap]

/-- Settles O48: each message by the path that it takes, and the swap by the end of its drain. -/
theorem pairsPart : Obligations.PairsPart := ⟨partnersDetach, rolesSwap⟩

end Sys2Proof.Machine
end

section
/-! The work of a service: its keys, its draws and its answer (R94 step 9, R95, R156, R296, R340) -/

namespace Sys2Proof.Machine

open Host

/-! ### Keys -/

section
variable {s s' : State} {e : Nat} {c c' : Cmd} {ik : Bool} {off : Nat} {rest : Octets}

/-- One reference is read and resolved. -/
theorem Keyed.one {r : KeyRef} {k : KeyVal} (h : Keyed s e c ik off [r] [k] rest s' c') :
    work (takeRefs ik 1 (c.input.drop off)) s e c = (.ok ([r], rest), ⟨s, e, c⟩) ∧
      work (resolveKey r) s e c = (.ok k, ⟨s', e, c'⟩) ∧ Left s c s' c' := by
  obtain ⟨hrefs, hkeys⟩ := h
  have hleft := left_of_keys _ _ _ _ _ _ _ hkeys
  obtain ⟨x, ctr, hx, rfl, rfl, rfl⟩ := hkeys
  exact ⟨work_takeRefs _ _ _ _ _ _ _ hrefs, work_resolveKey _ _ _ _ _ _ hx, hleft⟩

/-- Two references are read, and resolved one after the other. -/
theorem Keyed.two {r1 r2 : KeyRef} {k1 k2 : KeyVal} (h : Keyed s e c ik off [r1, r2] [k1, k2] rest s' c') :
    work (takeRefs ik 2 (c.input.drop off)) s e c = (.ok ([r1, r2], rest), ⟨s, e, c⟩) ∧
      (∃ s1 c1, work (resolveKey r1) s e c = (.ok k1, ⟨s1, e, c1⟩) ∧ work (resolveKey r2) s1 e c1 = (.ok k2, ⟨s', e, c'⟩)) ∧
      Left s c s' c' := by
  obtain ⟨hrefs, hkeys⟩ := h
  have hleft := left_of_keys _ _ _ _ _ _ _ hkeys
  obtain ⟨x, ctr, hx, rfl, y, ctr', hy, rfl, rfl, rfl⟩ := hkeys
  exact ⟨work_takeRefs _ _ _ _ _ _ _ hrefs, ⟨_, _, work_resolveKey _ _ _ _ _ _ hx, work_resolveKey _ _ _ _ _ _ hy⟩, hleft⟩

end

/-! ### What the keys leave alone -/

namespace Left

variable {s s' : State} {c c' : Cmd} (h : Left s c s' c')
include h

theorem keep : Keeps [.keys] s s' := by
  obtain ⟨⟨K, rfl, -⟩, -⟩ := h
  intro p hp
  cases p
  case keys => simp at hp
  all_goals rfl

theorem cmd : c' = { c with reserved := c'.reserved } := by
  obtain ⟨-, R, rfl⟩ := h
  rfl

theorem d : c'.d = c.d := by rw [h.cmd]
theorem input : c'.input = c.input := by rw [h.cmd]
theorem slot : c'.slot = c.slot := by rw [h.cmd]

theorem fits {n : Nat} (hf : Fits s c n) : Fits s' c' n := by
  obtain ⟨⟨K, rfl, hK⟩, R, rfl⟩ := h
  rw [Fits, trailer_keys s K c R hK]
  exact hf

theorem mayDraw (hd : MayDraw s c) : MayDraw s' c' := by
  obtain ⟨⟨K, rfl, -⟩, R, rfl⟩ := h
  exact hd

theorem twin {e : Nat} (ht : twinInFlight s e c = false) : twinInFlight s' e c' = false := by
  obtain ⟨⟨K, rfl, -⟩, R, rfl⟩ := h
  exact ht

theorem suits {k : KeyVal} {us : List String} {m : String} {a : Nat → Bool} (hs : Suits c k us m a) : Suits c' k us m a := by
  rw [Suits, h.d]
  exact hs

theorem pinKeyIs {r : KeyRef} {k w : KeyVal} {f : Nat} {b : Bool} (hp : PinKeyIs c r k f b w) : PinKeyIs c' r k f b w := by
  obtain ⟨-, R, rfl⟩ := h
  exact hp

end Left

/-! ### Draws -/

theorem twin_drawn (s : State) (c : Cmd) (n e : Nat) (c' : Cmd) : twinInFlight (drawn s c n).2 e c' = twinInFlight s e c' := by
  unfold drawn
  split
  next => rfl
  next => exact twin_gen s e c' _ _ _

theorem drawn_pos {n : Nat} (hn : n ≠ 0) (s : State) (c : Cmd) : drawn s c n = generate s (instOf c.slot c.idx) n false := if_neg hn

/-- A draw that is left out where nothing is to be drawn. -/
theorem work_drawn {s : State} {c : Cmd} {n : Nat} {p : Prop} [Decidable p] (hp : p ↔ n = 0) (hd : n ≠ 0 → MayDraw s c) (e : Nat) :
    work (if p then pure [] else random n : Svc Octets) s e c = (.ok (drawn s c n).1, ⟨(drawn s c n).2, e, c⟩) := by
  by_cases h : n = 0
  · rw [if_pos (hp.2 h), drawn, if_pos h]
    rfl
  · rw [if_neg (mt hp.1 h), drawn_pos h]
    exact work_random n s e c (hd h).1 (hd h).2

/-! ### Answers -/

/-- A service that charges its keys answers. -/
theorem serves_charged {i : Instr} {s b : State} {k w e : Nat} {op : Code} {body : Svc Octets} {c c' : Cmd} {out : Octets}
    (hx : exec i s = answer (runService s k op true w body)) (ha : Asks s k op e c)
    (hr : work body s e c = (.ok out, ⟨b, e, c'⟩)) (ht : twinInFlight b e c' = false) :
    Serves i s b e (chargeCounters c') out :=
  answers_ok (ch := true) hx ha.1 hr (by rw [if_pos rfl, twin_charge]; exact ht)

end Sys2Proof.Machine
end

section
/-! O49: the PIN and card verification services -/

namespace Sys2Proof.Machine

open Host

/-! ### PIN_TRANSLATE (R155, R156, R159) -/

theorem fillLen_eq_zero_iff (f : Nat) : f = 0 ↔ fillLen f = 0 := by
  unfold fillLen
  split
  next h => simp [h]
  next h =>
    refine ⟨fun hf => absurd hf h, fun hf => ?_⟩
    split at hf
    · cases hf
    · split at hf <;> cases hf

/-- A rule that a policy bit lifts. -/
theorem lifted {b pol : Bool} {p : Prop} (hb : b = true ↔ p) (h : p → pol = true) : (!(b && !pol)) = true := by
  cases b
  · rfl
  · rw [h (hb.1 rfl)]
    rfl

theorem pinsAreTranslated : Claims.PinsAreTranslated := by
  intro s k e c ri ro ki ko wi wo rest s' c'
  dsimp only
  intro hask hlen hfi hfo hz4 hz28 hz48 hpans hpan hpan' hblock hkeyed hkind hwi hwo h1 h4 hchange hfits hdraw
  obtain ⟨hrefs, ⟨s1, c1, hri, hro⟩, hleft⟩ := hkeyed.two
  have hl : (c.input.length == 64 + refsLen 2 (c.input.drop 64)) = true := beq_iff_eq.2 hlen
  have hp1 := lifted (pol := polPinToFmt1 s c.slot) (b := u8 c.input 0 != 1 && u8 c.input 1 == 1) (by simp) h1
  have hp4 := lifted (pol := polPinAesToTdea s c.slot) (b := u8 c.input 0 == 4 && u8 c.input 1 != 4) (by simp) h4
  have hpc := lifted (pol := polPinPanChange s c.slot) (b := u8 c.input 2 != 0 && u8 c.input 3 != 0 &&
    panDigits (u8 c.input 2) (slice c.input 8 10) != if u8 c.input 3 = 0 then panDigits (u8 c.input 2) (slice c.input 8 10)
      else panDigits (u8 c.input 3) (slice c.input 18 10)) (by simp only [Bool.and_eq_true, bne_iff_ne, and_assoc]) hchange
  have hfill := work_drawn (s := s') (c := c') (fillLen_eq_zero_iff (u8 c.input 1))
    (fun h => hleft.mayDraw (hdraw (mt (fillLen_eq_zero_iff _).1 h))) e
  have hwork : work pinTranslate s e c = ((pinOf (u8 c.input 0) (polPinMin s c.slot) (polPinMax s c.slot) (pinDec (u8 c.input 0) wi.alg wi.bytes
        (panDigits (u8 c.input 2) (slice c.input 8 10)) (slice c.input 32 (fmtLen (u8 c.input 0))))).elim
      (.error (.fail pinFormatError)) (fun pin => .ok (pinEnc (u8 c.input 1) wo.alg wo.bytes
        (if u8 c.input 3 = 0 then panDigits (u8 c.input 2) (slice c.input 8 10) else panDigits (u8 c.input 3) (slice c.input 18 10))
        (pinField (u8 c.input 1) pin (drawn s' c' (fillLen (u8 c.input 1))).1))),
      ⟨(drawn s' c' (fillLen (u8 c.input 1))).2, e, c'⟩) := by
    simp only [pinTranslate, work_bind, work_getS, work_getC, work_getIn, work_need, hl, hfi, hfo, hz4, hz28, hz48, hpans, hpan, hpan',
      hblock, Bool.and_self, if_true, hrefs, hkind, Bool.not_false, hri, hro, work_pinKey (hleft.pinKeyIs hwi),
      work_pinKey (hleft.pinKeyIs hwo), hp1, hp4, hpc, work_capacity_fits (hleft.fits hfits), hfill]
    cases pinOf _ _ _ _ <;> rfl
  refine ⟨fun hgood => ?_, fun hbad => ?_⟩
  · obtain ⟨pin, hpin⟩ := Option.isSome_iff_exists.1 hgood
    rw [hpin, Option.elim_some] at hwork
    rw [hpin]
    exact serves_charged rfl hask hwork (by rw [twin_drawn]; exact hleft.twin hask.2)
  · rw [Option.not_isSome_iff_eq_none.1 hbad] at hwork
    exact answers_fail rfl hask.1 hwork

/-! ### PIN_VERIFY, PIN_REF_GENERATE and PIN_CHANGE (R160 to R164, R167) -/

theorem needTable_left {s s' : State} {e : Nat} {c c' : Cmd} {m i : Nat} {t : List Nat} (h : Left s c s' c')
    (ht : if m = 2 then decTable s c.slot i = some t else t = []) : work (needTable m i) s' e c' = (.ok t, ⟨s', e, c'⟩) := by
  have hdec : decTable s' c'.slot i = decTable s c.slot i := by
    obtain ⟨⟨K, rfl, -⟩, R, rfl⟩ := h
    rfl
  simp only [needTable, work_bind, work_getS, work_getC, work_ite, hdec]
  split at ht
  next hm =>
    rw [if_pos hm, ht]
    rfl
  next hm =>
    rw [if_neg hm, ht]
    rfl

section
variable {s s' : State} {e : Nat} {c c' : Cmd} {off : Nat} {gen : Bool} {modes : String} {w v : KeyVal} {t : List Nat}
  (h : VerifyReady s e c off gen modes w v t s' c')
include h

theorem VerifyReady.left : Left s c s' c' := by
  obtain ⟨-, -, -, ⟨rp, rv, kp, rest, hkeyed, -, -⟩, -, -⟩ := h
  exact hkeyed.two.2.2

theorem work_verifyKeys : work (verifyKeys c.input off modes) s e c = (.ok (w, v), ⟨s', e, c'⟩) := by
  obtain ⟨-, -, -, ⟨rp, rv, kp, rest, hkeyed, hkind, hw⟩, hv, -⟩ := h
  obtain ⟨hrefs, ⟨s1, c1, hrp, hrv⟩, hleft⟩ := hkeyed.two
  simp only [verifyKeys, work_bind, hrefs, work_need, hkind, Bool.not_false, if_true, hrp, hrv, work_pinKey (hleft.pinKeyIs hw), needPvk,
    work_suits (hleft.suits hv), work_pure]

theorem work_needTable : work (needTable (u8 c.input 1) (u8 c.input 5)) s' e c' = (.ok t, ⟨s', e, c'⟩) := by
  have hleft := h.left
  obtain ⟨-, -, -, -, -, ht⟩ := h
  exact needTable_left hleft ht

theorem work_readPin (at_ : Nat) : work (readPin c.input w at_) s' e c' =
    ((pinAt s c w at_).elim (.error (.fail pinFormatError)) .ok, ⟨s', e, c'⟩) := by
  obtain ⟨⟨K, rfl, -⟩, R, rfl⟩ := h.left
  simp only [readPin, work_bind, work_getS, work_getC]
  show work (match pinAt s c w at_ with | some p => pure p | none => fail pinFormatError : Svc (List Nat)) _ _ _ = _
  cases pinAt s c w at_ <;> rfl

end

section
variable {s s' : State} {e : Nat} {c c' : Cmd} {w v : KeyVal} {t : List Nat}

theorem work_pinVerify (h : VerifyReady s e c 64 false "VC" w v t s' c') (hfits : Fits s c 0) : work pinVerify s e c =
    ((pinAt s c w 48).elim (.error (.fail pinFormatError)) (fun pin =>
      if refDigits v.bytes c.input t pin == some (givenRef c.input) then .ok [] else .error (.fail verifyFailed)), ⟨s', e, c'⟩) := by
  obtain ⟨hl, hhead, hfield, -⟩ := id h
  have hlen := beq_iff_eq.2 hl
  simp only [pinVerify, work_bind, work_getC, work_getIn, work_need, hlen, hhead, hfield, Bool.and_self, if_true,
    work_verifyKeys h, work_needTable h, work_capacity_fits (h.left.fits hfits), work_readPin h]
  cases pinAt s c w 48 with
  | none => rfl
  | some pin =>
    cases hd : refDigits v.bytes c.input t pin == some (givenRef c.input)
    all_goals
      have hd' : (refDigits v.bytes c.input t pin == some ((nibbles (slice c.input 24 8)).take (u8 c.input 3))) = _ := hd
      simp only [Option.elim_some, hd, hd', Bool.false_eq_true, if_false, if_true, work_pure]

theorem work_pinRefGenerate (h : VerifyReady s e c 64 true "GC" w v t s' c') (hfits : Fits s c 8) : work pinRefGenerate s e c =
    ((pinAt s c w 48).elim (.error (.fail pinFormatError)) (fun pin =>
      (refDigits v.bytes c.input t pin).elim (.error (.fail policyDenied)) (fun d => .ok (packF 8 d))), ⟨s', e, c'⟩) := by
  obtain ⟨hl, hhead, hfield, -⟩ := id h
  have hlen := beq_iff_eq.2 hl
  simp only [pinRefGenerate, work_bind, work_getC, work_getIn, work_need, hlen, hhead, hfield, Bool.and_self, if_true,
    work_verifyKeys h, work_needTable h, work_capacity_fits (h.left.fits hfits), work_readPin h]
  cases pinAt s c w 48 with
  | none => rfl
  | some pin =>
    dsimp only [Option.elim]
    cases refDigits v.bytes c.input t pin <;> rfl

theorem work_pinChange (h : VerifyReady s e c 96 false "C" w v t s' c') (hblock : blockFieldOk (u8 c.input 0) (slice c.input 64 16) = true)
    (hzero : zeroAt c.input 80 16 = true) (hfits : Fits s c 8) : work pinChange s e c =
    ((pinAt s c w 48).elim (.error (.fail pinFormatError)) (fun old =>
      (pinAt s c w 64).elim (.error (.fail pinFormatError)) (fun new =>
        if refDigits v.bytes c.input t old == some (givenRef c.input) then
          (refDigits v.bytes c.input t new).elim (.error (.fail policyDenied)) (fun d => .ok (packF 8 d))
        else .error (.fail verifyFailed))), ⟨s', e, c'⟩) := by
  obtain ⟨hl, hhead, hfield, -⟩ := id h
  have hlen := beq_iff_eq.2 hl
  simp only [pinChange, work_bind, work_getC, work_getIn, work_need, hlen, hhead, hfield, hblock, hzero, Bool.and_self, if_true,
    work_verifyKeys h, work_needTable h, work_capacity_fits (h.left.fits hfits), work_readPin h]
  cases pinAt s c w 48 with
  | none => rfl
  | some old =>
    dsimp only [Option.elim]
    simp only [work_readPin h]
    cases pinAt s c w 64 with
    | none => rfl
    | some new =>
      cases hd : refDigits v.bytes c.input t old == some (givenRef c.input)
      all_goals
        have hd' : (refDigits v.bytes c.input t old == some ((nibbles (slice c.input 24 8)).take (u8 c.input 3))) = _ := hd
        simp only [Option.elim_some, hd', Bool.false_eq_true, if_false, if_true]
      cases refDigits v.bytes c.input t new <;> rfl

end

/-- A service whose last check decides between an answer and a status. -/
theorem judges_of_work {i : Instr} {s b : State} {k wait e : Nat} {op : Code} {body : Svc Octets} {c c' : Cmd} {out : Octets} {st : Code}
    {good : Prop} (hx : exec i s = answer (runService s k op true wait body)) (ha : Asks s k op e c)
    (ht : twinInFlight b e c' = false) (hgood : good → work body s e c = (.ok out, ⟨b, e, c'⟩))
    (hbad : ¬ good → work body s e c = (.error (.fail st), ⟨b, e, c'⟩)) : Judges i s b e c' good true out st :=
  ⟨fun h => serves_charged hx ha (hgood h) ht, fun h => answers_fail hx ha.1 (hbad h)⟩

theorem pinsAreVerified : Claims.PinsAreVerified := by
  intro s k e c w v t s' c'
  dsimp only
  refine ⟨fun hask hready hfits => ?_, fun hask hready hfits => ?_, fun hask hready hblock hzero hfits => ?_⟩
  · have hwork := work_pinVerify hready hfits
    refine ⟨fun hnone => ?_, fun pin hpin => ?_⟩
    · rw [hnone] at hwork
      exact answers_fail rfl hask.1 hwork
    · rw [hpin, Option.elim_some] at hwork
      exact judges_of_work rfl hask (hready.left.twin hask.2)
        (fun hgood => hwork.trans (by rw [if_pos (beq_iff_eq.2 hgood)]))
        (fun hbad => hwork.trans (by rw [if_neg (mt beq_iff_eq.1 hbad)]))
  · have hwork := work_pinRefGenerate hready hfits
    refine ⟨fun hnone => ?_, fun pin hpin => ?_⟩
    · rw [hnone] at hwork
      exact answers_fail rfl hask.1 hwork
    · rw [hpin, Option.elim_some] at hwork
      refine judges_of_work rfl hask (hready.left.twin hask.2) (fun hgood => ?_) (fun hbad => ?_)
      · obtain ⟨d, hd⟩ := Option.isSome_iff_exists.1 hgood
        rw [hwork, hd]
        rfl
      · rw [hwork, Option.not_isSome_iff_eq_none.1 hbad]
        rfl
  · have hwork := work_pinChange hready hblock hzero hfits
    refine ⟨fun hnone => ?_, fun old new hold hnew => ⟨fun hbad => ?_, fun hgood => ?_⟩⟩
    · refine answers_fail rfl hask.1 (hwork.trans ?_)
      rcases hnone with h | h
      · rw [h]
        rfl
      · rw [h]
        cases pinAt s c w 48 <;> rfl
    · rw [hold, hnew, Option.elim_some, Option.elim_some, if_neg (mt beq_iff_eq.1 hbad)] at hwork
      exact answers_fail rfl hask.1 hwork
    · rw [hold, hnew, Option.elim_some, Option.elim_some, if_pos (beq_iff_eq.2 hgood)] at hwork
      refine judges_of_work rfl hask (hready.left.twin hask.2) (fun h => ?_) (fun h => ?_)
      · obtain ⟨d, hd⟩ := Option.isSome_iff_exists.1 h
        rw [hwork, hd]
        rfl
      · rw [hwork, Option.not_isSome_iff_eq_none.1 h]
        rfl

/-! ### PIN_GENERATE (R165, R166) -/

/-- Keys stand for as many references. -/
theorem KeysAre.length_eq {e : Nat} {rs : List KeyRef} {ks : List KeyVal} {s s' : State} {c c' : Cmd}
    (h : KeysAre e rs ks s c s' c') : rs.length = ks.length := by
  induction rs generalizing ks s c with
  | nil => cases ks with
    | nil => rfl
    | cons => exact h.elim
  | cons r rs ih => cases ks with
    | nil => exact h.elim
    | cons k ks =>
      obtain ⟨x, ctr, -, -, hrest⟩ := h
      rw [List.length_cons, List.length_cons, ih hrest]

theorem pinsAreGenerated : Claims.PinsAreGenerated := by
  intro s k e c rs ks w t rest s' c'
  dsimp only
  intro hask hks hlen hf hm hpan h4 h5 hz6 hz18 hz32 hz40 hkeyed hkinds hw hv ht hmin hmax hfits hdraw
  have hrange : decide (polPinMin s c.slot ≤ u8 c.input 3 ∧ u8 c.input 3 ≤ polPinMax s c.slot) = true := decide_eq_true ⟨hmin, hmax⟩
  have hrs := hkeyed.2.length_eq.trans hks
  have hl : (c.input.length == 64 + refsLen (if u8 c.input 1 = 0 then 1 else 2) (c.input.drop 64)) = true :=
    beq_iff_eq.2 (hks ▸ hlen)
  have hhead : (fmtOk c.d.version.toNat (u8 c.input 0) && decide (u8 c.input 1 ≤ 2) &&
      panOk (u8 c.input 2) (slice c.input 8 10) (u8 c.input 0 == 1 && u8 c.input 1 == 0)) = true := by
    rw [hf, hpan, decide_eq_true hm]
    rfl
  have hfields : ((if u8 c.input 1 = 1 then decide (u8 c.input 4 ≤ 9) else u8 c.input 4 == 0) &&
      (if u8 c.input 1 = 2 then decide (u8 c.input 5 ≤ 3) else u8 c.input 5 == 0) &&
      zeroAt c.input 6 2 && zeroAt c.input 18 14 && (u8 c.input 1 == 2 || zeroAt c.input 32 8) && zeroAt c.input 40 24) = true := by
    have h4' : (if u8 c.input 1 = 1 then decide (u8 c.input 4 ≤ 9) else u8 c.input 4 == 0) = true := by
      split at h4 <;> simp [*]
    have h5' : (if u8 c.input 1 = 2 then decide (u8 c.input 5 ≤ 3) else u8 c.input 5 == 0) = true := by
      split at h5 <;> simp [*]
    have h32' : (u8 c.input 1 == 2 || zeroAt c.input 32 8) = true := by
      by_cases h2 : u8 c.input 1 = 2
      · simp [h2]
      · simp [hz32 h2]
    rw [h4', h5', hz6, hz18, h32', hz40]
    rfl
  have hleft := left_of_keys _ _ _ _ _ _ _ hkeyed.2
  have hrefs := work_takeRefs false _ _ s e c _ hkeyed.1
  rw [hks] at hrefs
  have hfill := work_drawn (s := s') (c := c') (p := (if u8 c.input 1 = 2 then 0 else 8 * u8 c.input 3) + fillLen (u8 c.input 0) = 0)
    Iff.rfl (fun h => hleft.mayDraw (hdraw h)) e
  refine serves_charged rfl hask ?_ (by rw [twin_drawn]; exact hleft.twin hask.2)
  by_cases h0 : u8 c.input 1 = 0
  · rw [if_pos h0] at hks hrs
    obtain ⟨r, rfl⟩ := List.length_eq_one_iff.1 hrs
    obtain ⟨x, rfl⟩ := List.length_eq_one_iff.1 hks
    have hr := hkeyed.one.2.1
    have hkind := hkinds r (List.mem_singleton_self r)
    have hpin : PinKeyIs c r x (u8 c.input 0) false w := hw
    simp only [pinGenerate, work_bind, work_getS, work_getC, work_getIn, work_need, hl, hhead, hfields, hrefs, if_true, hrange,
      List.headD_cons, List.drop_succ_cons, List.drop_nil, List.any_nil, hr, hkind, Bool.not_false, Bool.or_true, work_pure,
      work_pinKey (hleft.pinKeyIs hpin), needTable_left hleft ht, work_capacity_fits (hleft.fits hfits), hfill]
    rfl
  · rw [if_neg h0] at hks hrs
    obtain ⟨r, r2, rfl⟩ := List.length_eq_two.1 hrs
    obtain ⟨x, x2, rfl⟩ := List.length_eq_two.1 hks
    obtain ⟨-, ⟨s1, c1, hr, hr2⟩, -⟩ := hkeyed.two
    have hkind := hkinds r List.mem_cons_self
    have hpin : PinKeyIs c r x (u8 c.input 0) false w := hw
    have hpvk : Suits c x2 [if u8 c.input 1 = 1 then "V2" else "V1"] "GC" (· == 1) := hv h0
    have hkind2 := hkinds r2 (List.mem_cons_of_mem _ (List.mem_singleton_self r2))
    simp only [pinGenerate, work_bind, work_getS, work_getC, work_getIn, work_need, hl, hhead, hfields, hrefs, if_true, hrange,
      List.headD_cons, List.drop_succ_cons, List.drop_zero, List.any_cons, List.any_nil, hr, hr2, hkind, hkind2, Bool.or_self, Bool.not_false, Bool.or_true, work_pure,
      work_pinKey (hleft.pinKeyIs hpin), needPvk, work_suits (hleft.suits hpvk), needTable_left hleft ht,
      work_capacity_fits (hleft.fits hfits), hfill]
    rfl

/-! ### Card verification codes (R168, R169) -/

/-- The digits and zeros that both code services check first. -/
theorem codeFields {i : Octets} (hn : u8 i 0 = 3 ∨ u8 i 0 = 4) (hpan : panOk (u8 i 1) (slice i 8 10) false = true)
    (hz2 : zeroAt i 2 2 = true) (hdate : ∀ x ∈ nibbles (slice i 4 2), x < 10) (hcode : ∀ x ∈ (nibbles (slice i 6 2)).take 3, x < 10)
    (hf : (nibbles (slice i 6 2)).getD 3 0 = 15) (hz20 : zeroAt i 20 12 = true) :
    ((u8 i 0 == 3 || u8 i 0 == 4) && panOk (u8 i 1) (slice i 8 10) false && zeroAt i 2 2 &&
      (nibbles (slice i 4 2)).all (· < 10) && ((nibbles (slice i 6 2)).take 3).all (· < 10) &&
      (nibbles (slice i 6 2)).getD 3 0 == 15 && zeroAt i 20 12) = true := by
  have hn' : (u8 i 0 == 3 || u8 i 0 == 4) = true := by simpa using hn
  rw [hn', hpan, hz2, List.all_eq_true.2 fun x hx => decide_eq_true (hdate x hx),
    List.all_eq_true.2 fun x hx => decide_eq_true (hcode x hx), hf, hz20]
  rfl

section
variable {s s' : State} {e : Nat} {c c' : Cmd} {r : KeyRef} {key : KeyVal} {rest : Octets} {gen : Bool}

theorem work_cvcCode (hlen : c.input.length = 32 + refsLen 1 (c.input.drop 32))
    (hhead : ((u8 c.input 0 == 3 || u8 c.input 0 == 4) && panOk (u8 c.input 1) (slice c.input 8 10) false && zeroAt c.input 2 2 &&
      (nibbles (slice c.input 4 2)).all (· < 10) && ((nibbles (slice c.input 6 2)).take 3).all (· < 10) &&
      (nibbles (slice c.input 6 2)).getD 3 0 == 15 && zeroAt c.input 20 12) = true)
    (htail : (if gen then zeroAt c.input 18 2 else ((nibbles (slice c.input 18 2)).take (u8 c.input 0)).all (· < 10) &&
      ((nibbles (slice c.input 18 2)).drop (u8 c.input 0)).all (· == 15)) = true)
    (hkeyed : Keyed s e c false 32 [r] [key] rest s' c') (hkind : isDukptKind r.kind = false)
    (hsuits : Suits c key ["C0"] (if gen then "GC" else "VC") (· == 1)) (hfits : Fits s c (if gen then 2 else 0)) :
    work (cvcCode gen) s e c = (.ok (cvcOf key.bytes (panDigits (u8 c.input 1) (slice c.input 8 10)) (nibbles (slice c.input 4 2))
      ((nibbles (slice c.input 6 2)).take 3) (u8 c.input 0)), ⟨s', e, c'⟩) := by
  obtain ⟨hrefs, hr, hleft⟩ := hkeyed.one
  simp only [cvcCode, work_bind, work_getIn, work_need, beq_iff_eq.2 hlen, hhead, htail, if_true, hrefs, hkind, Bool.not_false, hr,
    work_suits (hleft.suits hsuits), work_capacity_fits (hleft.fits hfits), work_pure]

end

theorem cardCodes : Claims.CardCodes := by
  intro s k e c r key rest s' c'
  dsimp only
  refine ⟨fun hask ⟨hlen, hn, hpan, hz2, hdate, hcode, hf, hz20, hkeyed, hkind, hsuits⟩ hz18 hfits => ?_,
    fun hask ⟨hlen, hn, hpan, hz2, hdate, hcode, hf, hz20, hkeyed, hkind, hsuits⟩ hdigits hfill hfits => ?_⟩
  · have hhead := codeFields hn hpan hz2 hdate hcode hf hz20
    have hleft := hkeyed.one.2.2
    refine serves_charged rfl hask ?_ (hleft.twin hask.2)
    simp only [svcCvcGenerate, work_bind, work_cvcCode (gen := true) hlen hhead hz18 hkeyed hkind hsuits hfits, work_pure]
  · have hhead := codeFields hn hpan hz2 hdate hcode hf hz20
    have hleft := hkeyed.one.2.2
    have htail : (((nibbles (slice c.input 18 2)).take (u8 c.input 0)).all (· < 10) &&
        ((nibbles (slice c.input 18 2)).drop (u8 c.input 0)).all (· == 15)) = true := by
      rw [List.all_eq_true.2 fun x hx => decide_eq_true (hdigits x hx), List.all_eq_true.2 fun x hx => beq_iff_eq.2 (hfill x hx)]
      rfl
    have hwork := work_cvcCode (gen := false) hlen hhead htail hkeyed hkind hsuits hfits
    have hinput : c'.input = c.input := hleft.input
    refine judges_of_work rfl hask (hleft.twin hask.2) (fun hgood => ?_) (fun hbad => ?_)
    · simp only [svcCvcVerify, work_bind, hwork, work_getIn, hinput, work_need, hgood, beq_self_eq_true, if_true, work_pure]
    · simp only [svcCvcVerify, work_bind, hwork, work_getIn, hinput, work_need, beq_eq_false_iff_ne.2 hbad]
      rfl

/-- Settles O49: each service's work is its checks, the keys that it resolves, and the PIN or code that they give. -/
theorem pinAndCardServices : Obligations.PinAndCardServices :=
  ⟨pinsAreTranslated, pinsAreVerified, pinsAreGenerated, cardCodes⟩

end Sys2Proof.Machine
end

section
/-! The EMV and DUKPT services (R178, R181 to R191, R288). -/

namespace Sys2Proof.Machine

open Host

theorem Left.stateChanging {s s' : State} {c c' : Cmd} (h : Left s c s' c') : c'.stateChanging = c.stateChanging := by rw [h.cmd]

theorem Left.polExportWeaker {s s' : State} {c c' : Cmd} (h : Left s c s' c') :
    polExportWeaker s' c'.slot = polExportWeaker s c.slot := by
  obtain ⟨⟨K, rfl, -⟩, R, rfl⟩ := h
  rfl

/-- A service that charges no key judges its data. -/
theorem judges_uncharged {i : Instr} {s b : State} {k wait e : Nat} {op : Code} {body : Svc Octets} {c c' : Cmd} {out : Octets}
    {st : Code} {good : Prop} (hx : exec i s = answer (runService s k op false wait body)) (ha : Asks s k op e c)
    (hsc : c'.stateChanging = c.stateChanging) (hgood : good → work body s e c = (.ok out, ⟨b, e, c'⟩))
    (hbad : ¬ good → work body s e c = (.error (.fail st), ⟨b, e, c'⟩)) : Judges i s b e c' good false out st :=
  ⟨fun h => serves_of_work hx ha.1 (hgood h) hsc, fun h => answers_fail hx ha.1 (hbad h)⟩

/-- A key goes into an Envelope where the tenant has its roots (R196). -/
theorem work_envelopeOut {s : State} {c : Cmd} (h : (rootsOf s c.slot).isSome = true) (t key : Octets) (n g e : Nat) :
    work (envelopeOut t key n g) s e c = (.ok (envelopeAnswer s c t key n g), ⟨s, e, c⟩) := by
  simp only [envelopeOut, work_bind, work_getS, work_getC, work_need, h, if_true, work_pure]
  rfl

/-! ### EMV services (R181 to R186) -/

section
variable {s s' : State} {e : Nat} {c c' : Cmd} {r : EmvRole} {rs : List KeyRef} {ks : List KeyVal} {data sk : Octets}

theorem EmvReady.left (h : EmvReady s e c r rs ks data sk s' c') : Left s c s' c' := by
  obtain ⟨-, -, hkeyed, -⟩ := h
  exact left_of_keys _ _ _ _ _ _ _ hkeyed.2

theorem work_emvParts (h : EmvReady s e c r rs ks data sk s' c')
    (hpad : r = .scriptEncrypt → u32 c.input 40 % (if u8 c.input 0 = 1 then 8 else 16) = 0 ∨ u32 c.input 40 ≤ 255)
    {n : Nat} (hn : ks.length = n) : work (emvParts r n) s e c = (.ok (rs, data), ⟨s, e, c⟩) := by
  subst hn
  obtain ⟨hlen, hhead, hkeyed, hkinds, -⟩ := h
  have hany : (rs.any fun x => isDukptKind x.kind) = false :=
    List.any_eq_false.2 fun x hx => ne_true_of_eq_false (hkinds x hx)
  have hblock : (r == .scriptEncrypt && u32 c.input 40 % (if u8 c.input 0 = 1 then 8 else 16) != 0 &&
      decide (u32 c.input 40 > 255)) = false := by
    by_cases hr : r = .scriptEncrypt
    · rcases hpad hr with h | h
      · rw [h, bne_self_eq_false, Bool.and_false, Bool.false_and]
      · rw [decide_eq_false (by omega), Bool.and_false]
    · rw [beq_eq_false_iff_ne.2 hr, Bool.false_and, Bool.false_and]
  simp only [emvParts, work_bind, work_getC, work_getIn, work_need, beq_iff_eq.2 hlen, hhead, hblock, Bool.not_false, if_true,
    work_takeRefs _ _ _ s e c _ hkeyed.1, hany, work_pure]

theorem work_emvKey {key : KeyVal} (h : EmvReady s e c r rs (key :: ks) data sk s' c') :
    work (emvKey r c.input key) s' e c' = (.ok sk, ⟨s', e, c'⟩) := by
  have hleft := h.left
  obtain ⟨-, -, -, -, hsuits, rfl⟩ := h
  rw [List.headD_cons] at hsuits ⊢
  simp only [emvKey, work_bind, work_suits (hleft.suits hsuits), work_pure]

end

theorem emvServices : Claims.EmvServices := by
  intro s k e c ref key data sk s' c'
  dsimp only
  refine ⟨fun hask h hfits => ?_, fun hask h hfits => ?_, fun hask h hfits => ?_, fun hask h hpad hfits => ?_⟩
  all_goals
    have hleft := h.left
    have hr := h.2.2.1.one.2.1
    have hkey := work_emvKey h
  · have hparts := work_emvParts h nofun (n := 1) rfl
    refine judges_of_work rfl hask (hleft.twin hask.2) (fun hgood => ?_) (fun hbad => ?_)
    · simp only [emvArqcVerify, work_bind, work_getIn, hparts, List.headD_cons, hr, hkey, work_capacity_fits (hleft.fits hfits),
        work_need, beq_iff_eq.2 hgood, if_true, work_pure]
    · simp only [emvArqcVerify, work_bind, work_getIn, hparts, List.headD_cons, hr, hkey, work_capacity_fits (hleft.fits hfits),
        work_need, beq_eq_false_iff_ne.2 hbad]
      rfl
  · refine serves_charged rfl hask ?_ (hleft.twin hask.2)
    simp only [svcEmvArpcGenerate, work_bind, work_getIn, work_emvParts h nofun (n := 1) rfl, List.headD_cons, hr, hkey,
      work_capacity_fits (hleft.fits hfits), work_pure]
  · refine serves_charged rfl hask ?_ (hleft.twin hask.2)
    simp only [svcEmvScriptMac, work_bind, work_getIn, work_emvParts h nofun (n := 1) rfl, List.headD_cons, hr, hkey,
      work_capacity_fits (hleft.fits hfits), work_pure]
  · refine serves_charged rfl hask ?_ (hleft.twin hask.2)
    simp only [svcEmvScriptEncrypt, work_bind, work_getIn, work_emvParts h (fun _ => hpad) (n := 1) rfl, List.headD_cons, hr, hkey,
      work_capacity_fits (hleft.fits hfits), work_pure]

theorem emvSessionKeys : Claims.EmvSessionKeys := by
  intro s k e c ri rk key kb data sk s' c'
  dsimp only
  intro hask h hkb hexport hstrong hfits hdraw
  have hleft := h.left
  have hparts := work_emvParts h nofun (n := 2) rfl
  have hkey := work_emvKey h
  obtain ⟨-, -, hkeyed, -⟩ := h
  obtain ⟨-, ⟨s1, c1, hri, hrk⟩, -⟩ := hkeyed.two
  have hexp : (!((u8 c.input 1).testBit 2 && u8 c.input 44 == 1) || exportable key (isAes kb.alg) kb.alg) = true := by
    by_cases hd : (u8 c.input 1).testBit 2 = true ∧ u8 c.input 44 = 1
    · rw [hexport hd, Bool.or_true]
    · have hno : ((u8 c.input 1).testBit 2 && u8 c.input 44 == 1) = false := by simpa using hd
      rw [hno]
      rfl
  have hweak : (decide (strength kb.alg ≥ strength (if u8 c.input 0 = 1 then 1 else 3)) || polExportWeaker s' c'.slot) = true := by
    rcases hstrong with hs | hs
    · rw [decide_eq_true hs, Bool.true_or]
    · rw [hleft.polExportWeaker, hs, Bool.or_true]
  have hfill := work_random 32 s' e c' (hleft.mayDraw hdraw).1 (hleft.mayDraw hdraw).2
  refine serves_of_work rfl hask.1 ?_ hleft.stateChanging
  simp only [svcEmvSessionKey, work_bind, work_getIn, work_getS, work_getC, hparts, hri, hrk, hkey, needKbpk, if_true,
    work_suits (hleft.suits hkb), work_need, hexp, hweak, work_capacity_fits (hleft.fits hfits), hfill, work_pure]
  rfl

/-! ### DUKPT services (R187 to R191) -/

section
variable {s s' : State} {e : Nat} {c c' : Cmd} {r : DukptRole} {w : KeyVal} {data : Octets}

theorem DukptReady.left (h : DukptReady s e c r w data s' c') : Left s c s' c' := by
  obtain ⟨-, -, ref, bdk, hkeyed, -⟩ := h
  exact hkeyed.one.2.2

theorem work_dukptParts {n : Nat} {rs : List KeyRef}
    (hlen : c.input.length = 64 + refsLen n (c.input.drop 64) + if r.isData || r.isMac then u32 c.input 4 else 0)
    (hhead : dukptHeaderOk r c.input = true)
    (hrefs : work (takeRefs (r == .ikExport) n (c.input.drop 64)) s e c = (.ok (rs, data), ⟨s, e, c⟩)) :
    work (dukptParts r n) s e c = (.ok (rs, data), ⟨s, e, c⟩) := by
  simp only [dukptParts, work_bind, work_getIn, work_need, beq_iff_eq.2 hlen, hhead, if_true, hrefs, work_pure]

/-- The working key of a data or MAC service, and its data. -/
theorem work_dukptWork (hr : (r.isData || r.isMac) = true) (h : DukptReady s e c r w data s' c') :
    work (dukptWork r) s e c = (.ok (w, data), ⟨s', e, c'⟩) := by
  obtain ⟨hlen, hhead, ref, bdk, hkeyed, hkind, hsizes, haes, hsuits, rfl⟩ := h
  obtain ⟨hrefs, hbdk, hleft⟩ := hkeyed.one
  have hik : (r == .ikExport) = false := by
    cases r with
    | ikExport => cases hr
    | _ => rfl
  have hboth : (!(u8 c.input 1 == 2 && !(aesDukptKind ref.kind))) = true := lifted beq_iff_eq haes
  have hparts := work_dukptParts (r := r) (n := 1) (by rw [hr]; exact hlen) hhead (by rw [hik]; exact hrefs)
  cases hk : aesDukptKind ref.kind
  all_goals
    rw [hk] at hsizes hboth
    simp only [dukptWork, work_bind, work_getIn, work_need, hparts, work_pure, List.headD_cons, hkind, hk, Bool.false_eq_true,
      if_true, if_false] at hsizes ⊢
    simp only [hsizes, hboth, Bool.and_self, if_true, hbdk, work_suits (hleft.suits hsuits)]

end

theorem dukptServices : Claims.DukptServices := by
  intro s k e c w data s' c'
  dsimp only
  refine ⟨fun hask h hfits => ?_, fun hask h hfits => ?_, fun hask h hfits => ?_, fun hask h hfits => ?_⟩
  all_goals
    have hleft := h.left
    have hwork := work_dukptWork rfl h
    have hcap := work_capacity_fits (hleft.fits hfits)
  · refine serves_of_work rfl hask.1 ?_ hleft.stateChanging
    simp only [svcDukptDecrypt, work_bind, work_getIn, hwork, hcap, work_pure]
  · refine serves_of_work rfl hask.1 ?_ hleft.stateChanging
    simp only [svcDukptEncrypt, work_bind, work_getIn, hwork, hcap, work_pure]
  · refine judges_uncharged rfl hask hleft.stateChanging (fun hgood => ?_) (fun hbad => ?_)
    · simp only [svcDukptMacVerify, work_bind, work_getIn, hwork, hcap, work_need, beq_iff_eq.2 hgood, if_true, work_pure]
    · simp only [svcDukptMacVerify, work_bind, work_getIn, hwork, hcap, work_need, beq_eq_false_iff_ne.2 hbad]
      rfl
  · refine serves_of_work rfl hask.1 ?_ hleft.stateChanging
    simp only [svcDukptMacGenerate, work_bind, work_getIn, hwork, hcap, work_pure]

theorem dukptKeys : Claims.DukptKeys := by
  intro s k e c rest s' c'
  dsimp only
  refine ⟨fun rb rk bdk kb => ?_, fun ref ik => ?_⟩
  · intro hask hlen hhead hkeyed hkb hkk hsizes haes hbdk hkbpk hstrong hfits hdraw
    obtain ⟨hrefs, ⟨s1, c1, hrb, hrk⟩, hleft⟩ := hkeyed.two
    have hboth : (!(u8 c.input 1 == 2 && !(aesDukptKind rb.kind))) = true := lifted beq_iff_eq haes
    have hweak : (decide (strength kb.alg ≥ strength bdk.alg) || polExportWeaker s' c'.slot) = true := by
      rcases hstrong with hs | hs
      · rw [decide_eq_true hs, Bool.true_or]
      · rw [hleft.polExportWeaker, hs, Bool.or_true]
    have hfill := work_random 32 s' e c' (hleft.mayDraw hdraw).1 (hleft.mayDraw hdraw).2
    have hparts := work_dukptParts (r := .ikExport) hlen hhead hrefs
    refine serves_of_work rfl hask.1 ?_ hleft.stateChanging
    simp only [svcDukptIkExport, work_bind, work_getIn, work_getS, work_getC, work_need, Bool.not_false, Bool.and_self, if_true, hparts, hkb, hkk, hsizes,
      hboth, hrb, hrk, needKbpk, work_suits (hleft.suits hbdk), work_suits (hleft.suits hkbpk), hweak,
      work_capacity_fits (hleft.fits hfits), hfill, work_pure]
    rfl
  · intro hask hlen hhead hkeyed hkind hsizes hsuits hksn htdea hroots hfits
    obtain ⟨hrefs, hr, hleft⟩ := hkeyed.one
    have hroots' : (rootsOf s' c'.slot).isSome = true := by rw [hleft.slot]; exact hroots
    have hparts := work_dukptParts (r := .terminalKey) hlen hhead hrefs
    refine serves_charged rfl hask ?_ (hleft.twin hask.2)
    by_cases haes : isAes ik.alg = true
    · simp only [haes] at hksn
      simp only [svcDukptTerminalKey, work_bind, work_getIn, work_need, Bool.not_false, Bool.and_self, if_true, hparts, List.headD_cons, hkind, hsizes, hr,
        work_suits (hleft.suits hsuits), haes, hksn, Bool.true_or, work_capacity_fits (hleft.fits hfits), work_envelopeOut hroots']
    · rw [Bool.not_eq_true] at haes
      obtain ⟨hz, h52, h1⟩ := htdea haes
      have htail : (zeroAt (slice c.input 40 12) 10 2 && u8 c.input 52 == 0 && u8 c.input 1 != 2) = true := by
        rw [hz, h52, bne_iff_ne.2 h1]
        rfl
      simp only [haes] at hksn
      simp only [svcDukptTerminalKey, work_bind, work_getIn, work_need, Bool.not_false, Bool.and_self, if_true, hparts, List.headD_cons, hkind, hsizes, hr,
        work_suits (hleft.suits hsuits), haes, hksn, htail, Bool.or_true, Bool.false_eq_true, if_false, work_capacity_fits (hleft.fits hfits), work_envelopeOut hroots']

/-- Settles O50: each service's work is its header, its keys, and what their session or working key gives. -/
theorem emvAndDukptServices : Obligations.EmvAndDukptServices := ⟨emvServices, emvSessionKeys, dukptServices, dukptKeys⟩

end Sys2Proof.Machine
end

section
/-! The MAC, bulk, tokenisation and random services (R193, R194, R203 to R206, R335, R340, R341, R353). -/

namespace Sys2Proof.Machine

open Host

/-! ### MACs (R193, R194) -/

section
variable {s s' : State} {e : Nat} {c c' : Cmd} {ref : KeyRef} {key : KeyVal} {data : Octets} {verify : Bool}

theorem Left.polMacMin (h : Left s c s' c') : polMacMin s' c'.slot = polMacMin s c.slot := by
  obtain ⟨⟨K, rfl, -⟩, R, rfl⟩ := h
  rfl

theorem Left.inst (h : Left s c s' c') : instOf c'.slot c'.idx = instOf c.slot c.idx := by
  rw [h.cmd]

theorem work_macCommand (hlen : c.input.length = 64 + refsLen 1 (c.input.drop 64) + u32 c.input 4)
    (hhead : macHeaderOk c.d.version.toNat c.input verify = true) (hkeyed : Keyed s e c false 64 [ref] [key] data s' c')
    (hkind : isDukptKind ref.kind = false)
    (hsuits : Suits c key (macUsages (u8 c.input 0)) (if verify then "VC" else "GC") (macAlgOk (u8 c.input 0)))
    (hmin : u8 c.input 0 < 7 → Machine.polMacMin s c.slot ≤ u8 c.input 2) (hfits : Fits s c (if verify then 0 else u8 c.input 2)) :
    work (macCommand verify) s e c =
      (.ok ((macOf (u8 c.input 0) (u8 c.input 1) key data).take (u8 c.input 2)), ⟨s', e, c'⟩) := by
  obtain ⟨hrefs, hr, hleft⟩ := hkeyed.one
  have hpol : (decide (u8 c.input 0 ≥ 7) || decide (u8 c.input 2 ≥ Machine.polMacMin s' c.slot)) = true := by
    rw [← hleft.slot, hleft.polMacMin, ← Bool.decide_or]
    exact decide_eq_true (or_iff_not_imp_left.2 fun h => hmin (Nat.lt_of_not_le h))
  simp only [macCommand, work_bind, work_getC, work_getIn, work_getS, work_need, beq_iff_eq.2 hlen, hhead, if_true, hrefs,
    List.headD_cons, hkind, Bool.not_false, hr, work_suits (hleft.suits hsuits), hpol, work_capacity_fits (hleft.fits hfits), work_pure]

end

theorem macServices : Claims.MacServices := by
  intro s k e c ref key data s' c'
  dsimp only
  refine ⟨fun hask ⟨hlen, hhead, hkeyed, hkind, hsuits, hmin⟩ hfits => ?_,
    fun hask ⟨hlen, hhead, hkeyed, hkind, hsuits, hmin⟩ hfits => ?_⟩
  · exact serves_charged rfl hask (work_macCommand (verify := false) hlen hhead hkeyed hkind hsuits hmin hfits)
      (hkeyed.one.2.2.twin hask.2)
  · have hwork := work_macCommand (verify := true) hlen hhead hkeyed hkind hsuits hmin hfits
    have hleft := hkeyed.one.2.2
    have hinput : c'.input = c.input := hleft.input
    refine judges_of_work rfl hask (hleft.twin hask.2) (fun hgood => ?_) (fun hbad => ?_)
    · simp only [svcMacVerify, work_bind, hwork, work_getIn, hinput, work_need, beq_iff_eq.2 hgood, if_true, work_pure]
    · simp only [svcMacVerify, work_bind, hwork, work_getIn, hinput, work_need, beq_eq_false_iff_ne.2 hbad]
      rfl

/-! ### Bulk services (R203 to R206) -/

section
variable {s b : State} {e : Nat} {c c' : Cmd} {r : BulkRole} {key : KeyVal} {aux data iv : Octets}

theorem BulkReady.cmd (h : BulkReady s e c r key aux data iv b c') : c' = { c with reserved := c'.reserved } := by
  obtain ⟨-, -, -, -, -, ref, rest, s', hkeyed, -⟩ := h
  exact hkeyed.one.2.2.cmd

theorem work_bulkParts (h : BulkReady s e c r key aux data iv b c') :
    work (bulkParts r) s e c = (.ok (key, aux, data, iv), ⟨b, e, c'⟩) := by
  obtain ⟨hlen, hhead, hff, hfits, hdraw, ref, rest, s', hkeyed, hkind, rfl, rfl, hsuits, hiv⟩ := h
  obtain ⟨hrefs, hr, hleft⟩ := hkeyed.one
  have hsym : (!r.isFf1 || (decide (u16 c.input 2 ^ u32 c.input 4 ≥ 1000000) &&
      (rest.drop (u32 c.input 8)).all fun o => decide (o.toNat < u16 c.input 2))) = true := by
    cases hf : r.isFf1
    · rfl
    · obtain ⟨hn, hd⟩ := hff hf
      rw [decide_eq_true hn, List.all_eq_true.2 fun o ho => decide_eq_true (hd o ho)]
      rfl
  have hcap : Fits s c (u32 c.input 4 + (if r == .gcmEncrypt then u8 c.input 1 else 0) +
      if (u8 c.input 0).testBit 0 then if r.isGcm then 12 else 16 else 0) := by
    cases r <;> exact hfits
  have hmode : Suits c key ["D0"] (if r == .ctr then "EDB" else if r.enciphers then "EB" else "DB") isAes := by
    cases r <;> exact hsuits
  have hdrawn : work (if (u8 c.input 0).testBit 0 then random (if r.isGcm then 12 else 16)
      else pure (slice c.input 16 (if r.isGcm then 12 else 16))) s' e c' = (.ok iv, ⟨b, e, c'⟩) := by
    by_cases hg : (u8 c.input 0).testBit 0 = true
    · rw [if_pos hg] at hiv ⊢
      obtain ⟨hok, hserve⟩ := hleft.mayDraw (hdraw hg)
      rw [work_random _ s' e c' hok hserve, hleft.inst, ← hiv]
    · rw [if_neg hg] at hiv ⊢
      obtain ⟨rfl, rfl⟩ := Prod.mk.inj hiv
      rfl
  simp only [bulkParts, work_bind, work_getIn, work_need, beq_iff_eq.2 hlen, hhead, if_true, hrefs, hsym, List.headD_cons, hkind,
    Bool.not_false, hr, work_suits (hleft.suits hmode), work_capacity_fits (hleft.fits hcap), hdrawn, work_pure]

end

theorem bulkServices : Claims.BulkServices := by
  intro s k e c key aux data iv b c'
  dsimp only
  refine ⟨fun hask h => ?_, fun hask h => ⟨fun hgood => ?_, fun hbad => ?_⟩, fun hask h => ?_, fun hask h => ?_, fun hask h => ?_,
    fun hask h => ?_, fun hask h => ?_⟩
  all_goals
    have hwork := work_bulkParts h
    have hsc : c'.stateChanging = c.stateChanging := by rw [h.cmd]
  · refine serves_of_work rfl hask.1 ?_ hsc
    simp only [svcGcmEncrypt, work_bind, work_getIn, hwork, work_pure]
  · refine serves_of_work rfl hask.1 ?_ hsc
    simp only [svcGcmDecrypt, work_bind, work_getIn, hwork, if_pos (beq_iff_eq.2 hgood), work_pure]
  · refine answers_fail rfl hask.1 ?_
    simp only [svcGcmDecrypt, work_bind, work_getIn, work_getC, hwork, if_neg (mt beq_iff_eq.1 hbad), work_modS, work_fail,
      List.isEmpty_iff]
    rw [h.cmd]
  · refine serves_of_work rfl hask.1 ?_ hsc
    simp only [svcCbcEncrypt, work_bind, work_getIn, hwork, work_pure]
  · refine serves_of_work rfl hask.1 ?_ hsc
    simp only [svcCbcDecrypt, work_bind, hwork, work_pure]
  · refine serves_of_work rfl hask.1 ?_ hsc
    simp only [svcCtrCrypt, work_bind, work_getIn, hwork, work_pure]
  · refine serves_of_work rfl hask.1 ?_ hsc
    simp only [svcFf1Encrypt, work_bind, work_getIn, hwork, work_pure, ff1Run]
  · refine serves_of_work rfl hask.1 ?_ hsc
    simp only [svcFf1Decrypt, work_bind, work_getIn, hwork, work_pure, ff1Run]

/-! ### RANDOM_BYTES (R335, R340, R341, R353) -/

/-- A service whose instance cannot serve gives up its turn and waits (R341). -/
theorem waits_of_work {i : Instr} {s b : State} {k w e inst : Nat} {op : Code} {ch : Bool} {body : Svc Octets} {c c' : Cmd}
    (hx : exec i s = answer (runService s k op ch w body)) (ha : Asked s k op e c)
    (hr : work body s e c = (.error (.wait inst), ⟨b, e, c'⟩)) :
    exec i s = answer (waitRandom b k e { c' with effects := [] } inst w) := by
  obtain ⟨hrun, hop, hcustom, hserved, hlanded⟩ := ha
  rw [hx]
  unfold runService
  unfold work at hr
  simp only [hrun, hop, hcustom, hserved, hlanded, bne_self_eq_false, Bool.not_true, Bool.or_self, Bool.false_eq_true, if_false, hr]

theorem randomWait_eq {s : State} {k e : Nat} {c : Cmd} (h : running s k = some (e, c)) :
    randomWait s k = if u32 c.d.params 4 = 0 then 10000 else u32 c.d.params 4 := by
  simp only [randomWait, h]
  rfl

theorem randomBytes : Claims.RandomBytes := by
  intro s k e c
  dsimp only
  intro hask hfits
  refine ⟨fun hfailed => ?_, fun hok hserve => ?_, fun hok hserve => ?_⟩
  · refine answers_fail rfl hask.1 ?_
    simp only [svcRandomBytes, work_bind, work_getC, work_capacity_fits hfits, random, work_get, hfailed, if_true, work_throw]
  · refine serves_of_work rfl hask.1 ?_ rfl
    simp only [svcRandomBytes, work_bind, work_getC, work_capacity_fits hfits, random, work_get, work_ite, hok, hserve,
      work_set, work_pure]
    rfl
  · have hex := waits_of_work (i := .randomBytes k) rfl hask.1 (inst := instOf c.slot c.idx) (b := s) (c' := c) (by
      simp only [svcRandomBytes, work_bind, work_getC, work_capacity_fits hfits, random, work_get, hok, hserve,
        Bool.false_eq_true, if_false, Bool.not_false, if_true, work_throw])
    rw [randomWait_eq hask.1.1] at hex
    refine ⟨_, hex, ?_, _, (State.cmd_congr (drivePins_so _) e).trans (State.cmd_setCmd _ _ _), ?_, rfl, rfl⟩
    · rw [drivePins_core]
      exact congrArg Core.cmd (endTurn_core _ _)
    · exact hask.1.2.2.2.1

/-- Settles O51: each service's work is its header, its key, and what its function gives. -/
theorem macBulkAndRandomServices : Obligations.MacBulkAndRandomServices := ⟨macServices, bulkServices, randomBytes⟩

end Sys2Proof.Machine
end

section
/-! The key management services (R195 to R202, R256, R271, R288, R289, R294, R311, R609). -/

namespace Sys2Proof.Machine

open Host

/-! ### Steps that the services share -/

section
variable {s : State} {e : Nat} {c : Cmd}

/-- Header and references of a key management command (R173, R195, R609). -/
theorem work_keymgmtParts {forms : List Nat} {flags fieldsZero : Bool} {n : Nat} {dataLen : Nat → Bool} {rs : List KeyRef}
    {rest : Octets} (hlen : c.input.length = 64 + refsLen n (c.input.drop 64) + u32 c.input 4) (hdata : dataLen (u32 c.input 4) = true)
    (hfields : (forms.contains (u8 c.input 0) && (if flags then decide (u8 c.input 1 ≤ 1) else u8 c.input 1 == 0) &&
      zeroAt c.input 2 2 && (!fieldsZero || zeroAt c.input 8 56)) = true)
    (hrefs : work (takeRefs false n (c.input.drop 64)) s e c = (.ok (rs, rest), ⟨s, e, c⟩))
    (hkinds : (rs.any fun r => isDukptKind r.kind) = false) :
    work (keymgmtParts forms flags fieldsZero n dataLen) s e c = (.ok (rs, rest), ⟨s, e, c⟩) := by
  simp only [keymgmtParts, work_bind, work_getIn, work_need, beq_iff_eq.2 hlen, hdata, hfields, if_true, hrefs, hkinds, Bool.not_false,
    work_pure]

/-- A header of one output form, without flags or further fields. -/
theorem work_keymgmtPlain {f n : Nat} {dataLen : Nat → Bool} {rs : List KeyRef} {rest : Octets}
    (hlen : c.input.length = 64 + refsLen n (c.input.drop 64) + u32 c.input 4) (hdata : dataLen (u32 c.input 4) = true)
    (hform : u8 c.input 0 = f) (hflags : u8 c.input 1 = 0) (hz2 : zeroAt c.input 2 2 = true) (hz8 : zeroAt c.input 8 56 = true)
    (hrefs : work (takeRefs false n (c.input.drop 64)) s e c = (.ok (rs, rest), ⟨s, e, c⟩))
    (hkinds : (rs.any fun r => isDukptKind r.kind) = false) :
    work (keymgmtParts [f] false true n dataLen) s e c = (.ok (rs, rest), ⟨s, e, c⟩) := by
  refine work_keymgmtParts hlen hdata ?_ hrefs hkinds
  rw [hform, hflags, hz2, hz8]
  simp

theorem work_needTemplate {t : Octets} (h : TemplateOk t) : work (needTemplate t) s e c = (.ok (), ⟨s, e, c⟩) := by
  obtain ⟨hhead, hlimit, -⟩ := h
  have hlim : ((headerKey t).limit == 0 || (headerKey t).flags.getLsbD 0) = true := by simpa using hlimit
  simp only [needTemplate, work_bind, work_need, hhead, hlim, if_true]

variable {limit n g : Nat} {b : State} {c2 : Cmd}

theorem work_allocate (h : Allocates s c limit n g b c2) : work (allocate limit) s e c = (.ok (n, g), ⟨b, e, c2⟩) := by
  unfold Allocates at h
  split at h
  next hl =>
    obtain ⟨rfl, rfl, rfl, rfl⟩ := h
    rw [allocate, if_pos hl]
    rfl
  next hl =>
    obtain ⟨hfree, rfl, hgen, hslot, rfl, rfl⟩ := h
    have hroom : (decide (s.keys.nextGen ≥ 2 ^ 32) || decide (c.slot ≥ 512)) = false := by
      rw [decide_eq_false (Nat.not_le.2 hgen), decide_eq_false (Nat.not_le.2 hslot)]
      rfl
    rw [allocate, if_neg hl]
    simp only [work_bind, work_get, hfree, hroom, Bool.false_eq_true, if_false, work_set, work_pure]

/-- An allocation moves the next generation on. -/
theorem Allocates.state (h : Allocates s c limit n g b c2) : ∃ m, b = { s with keys := { s.keys with nextGen := m } } := by
  unfold Allocates at h
  split at h
  · obtain ⟨-, -, rfl, -⟩ := h
    exact ⟨_, rfl⟩
  · obtain ⟨-, -, -, -, rfl, -⟩ := h
    exact ⟨_, rfl⟩

theorem Allocates.cmd (h : Allocates s c limit n g b c2) : c2.slot = c.slot ∧ ∀ t, twinInFlight t e c2 = twinInFlight t e c := by
  unfold Allocates at h
  split at h
  · obtain ⟨-, -, -, rfl⟩ := h
    exact ⟨rfl, fun _ => rfl⟩
  · obtain ⟨-, -, -, -, -, rfl⟩ := h
    exact ⟨rfl, fun _ => rfl⟩

theorem Allocates.slot (h : Allocates s c limit n g b c2) : c2.slot = c.slot := (h.cmd (e := 0)).1

theorem Allocates.twin (h : Allocates s c limit n g b c2) (ht : twinInFlight s e c = false) : twinInFlight b e c2 = false := by
  obtain ⟨m, rfl⟩ := h.state
  rw [h.cmd.2]
  exact ht

theorem Allocates.roots (h : Allocates s c limit n g b c2) (hroots : (rootsOf s c.slot).isSome = true) :
    (rootsOf b c2.slot).isSome = true := by
  obtain ⟨m, hm⟩ := h.state
  rw [h.slot, hm]
  exact hroots

theorem envelopeAnswer_congr (h : c2.slot = c.slot) (t key : Octets) : envelopeAnswer b c2 t key n g = envelopeAnswer b c t key n g := by
  rw [envelopeAnswer, envelopeAnswer, h]

/-- A counter entry is allocated, and the key goes into its Envelope. -/
theorem work_allocated (h : Allocates s c limit n g b c2) (hroots : (rootsOf s c.slot).isSome = true) (t key : Octets) :
    work (allocate limit >>= fun x => envelopeOut t key x.1 x.2) s e c = (.ok (envelopeAnswer b c t key n g), ⟨b, e, c2⟩) := by
  simp only [work_bind, work_allocate h, work_envelopeOut (h.roots hroots), envelopeAnswer_congr h.slot]

end

theorem rootsOf_congr {s t : State} (hk : t.keys = s.keys) (hw : t.warden = s.warden) (hs : t.slots = s.slots) (slot : Nat) :
    rootsOf t slot = rootsOf s slot := by
  unfold rootsOf deriveRoots tenantOf
  rw [hk, hw, hs]

theorem rootsOf_drawn (s : State) (c : Cmd) (n slot : Nat) : rootsOf (drawn s c n).2 slot = rootsOf s slot := by
  unfold drawn
  split
  next => rfl
  next =>
    have h := keeps_generate s (instOf c.slot c.idx) n false []
    exact rootsOf_congr (h.keys) (h.warden) (h.slots) slot

/-- A draw from the command's own instance. -/
theorem work_draw {s : State} {c : Cmd} (h : MayDraw s c) {n : Nat} (hn : n ≠ 0) (e : Nat) :
    work (random n) s e c = (.ok (drawn s c n).1, ⟨(drawn s c n).2, e, c⟩) := by
  rw [drawn_pos hn]
  exact work_random n s e c h.1 h.2

/-! ### KEY_GENERATE, KEY_DERIVE and ENVELOPE_MAKE (R196, R271, R289, R294) -/

theorem keysAreMade : Claims.KeysAreMade := by
  intro s k e c rest s' c' n g b c2
  dsimp only
  refine ⟨?_, fun ref parent child => ?_, fun ref src => ?_⟩
  · intro hask ⟨hlen, h64, hform, hflags, hz2, hz8⟩ ht hfits hdraw hpos halloc hroots
    have hparts := work_keymgmtPlain (s := s) (e := e) (dataLen := (· == 64)) (rs := []) (rest := c.input.drop 64) hlen
      (beq_iff_eq.2 h64) hform hflags hz2 hz8 rfl rfl
    have hmade := work_allocated (e := e) halloc (by rw [rootsOf_drawn]; exact hroots) (c.input.drop 64)
      (drawnKey (if (headerKey (c.input.drop 64)).ktype = 2 then 5 else (headerKey (c.input.drop 64)).alg) (drawLen (headerKey (c.input.drop 64)))
        (drawn s c (2 * drawLen (headerKey (c.input.drop 64)))).1)
    refine serves_charged rfl hask ?_ (halloc.twin (by rw [twin_drawn]; exact hask.2))
    simp only [svcKeyGenerate, work_bind, hparts, work_needTemplate ht, work_need, ht.2.2, if_true, work_capacity_fits hfits,
      work_draw hdraw (n := 2 * drawLen (headerKey (c.input.drop 64))) (by omega)]
    simpa only [work_bind] using hmade
  · intro hask ⟨hlen, h128, hform, hflags, hz2, hz8⟩ ht hlabel hkeyed hkind hsuits hgrants hfits halloc hroots
    obtain ⟨hrefs, hr, hleft⟩ := hkeyed.one
    have hparts := work_keymgmtPlain (dataLen := (· == 128)) hlen (beq_iff_eq.2 h128) hform hflags hz2 hz8 hrefs
      (by rw [List.any_cons, hkind]; rfl)
    have hmade := work_allocated (e := e) halloc (by rw [hleft.slot]; exact hroots) (rest.take 64)
      (if isTdea (headerKey (rest.take 64)).alg then oddParity (kdf parent.bytes (slice rest 64 64) (8 * algLen (headerKey (rest.take 64)).alg))
        else kdf parent.bytes (slice rest 64 64) (8 * algLen (headerKey (rest.take 64)).alg))
    refine serves_charged rfl hask ?_ (halloc.twin (hleft.twin hask.2))
    simp only [svcKeyDerive, work_bind, hparts, work_needTemplate ht, hlabel, work_pure, List.headD_cons, hr, work_need, ht.2.2, if_true,
      work_suits (hleft.suits hsuits), hgrants, work_capacity_fits (hleft.fits hfits)]
    simpa only [work_bind, envelopeAnswer_congr hleft.slot] using hmade
  · intro hask ⟨hlen, h64, hform, hflags, hz2, hz8⟩ ht hkeyed hkind hlimit hcounted hgrants hfits halloc hroots
    obtain ⟨hrefs, hr, hleft⟩ := hkeyed.one
    have hparts := work_keymgmtPlain (dataLen := (· == 64)) hlen (beq_iff_eq.2 h64) hform hflags hz2 hz8 hrefs
      (by rw [List.any_cons, hkind]; rfl)
    have hcount : (!(src.flags.getLsbD 0 && !((headerKey rest).flags.getLsbD 0))) = true := lifted Iff.rfl hcounted
    have hmade := work_allocated (e := e) halloc (by rw [hleft.slot]; exact hroots) rest src.bytes
    refine serves_charged rfl hask ?_ (halloc.twin (hleft.twin hask.2))
    simp only [svcEnvelopeMake, work_bind, hparts, work_needTemplate ht, List.headD_cons, hr, work_need, ht.2.2, if_true, beq_iff_eq.2 hlimit,
      hcount, hgrants, work_capacity_fits (hleft.fits hfits)]
    simpa only [work_bind, envelopeAnswer_congr hleft.slot] using hmade

/-! ### KEY_IMPORT and KEY_EXPORT (R179, R197, R198, R288) -/

theorem Left.polKbImportB {s s' : State} {c c' : Cmd} (h : Left s c s' c') : polKbImportB s' c'.slot = polKbImportB s c.slot := by
  obtain ⟨⟨K, rfl, -⟩, R, rfl⟩ := h
  rfl

theorem Left.polExportDerived {s s' : State} {c c' : Cmd} (h : Left s c s' c') :
    polExportDerived s' c'.slot = polExportDerived s c.slot := by
  obtain ⟨⟨K, rfl, -⟩, R, rfl⟩ := h
  rfl

section
variable {s : State} {e : Nat} {c : Cmd} {kb : KeyVal} {blk : Octets}

/-- A block of version D under an AES KBPK, or of version B under a TDEA one where policy allows it (R197). -/
theorem work_importAllowed (hkb : Suits c kb ["K1"] "BD" fun a => isTdea a || isAes a)
    (hver : (blk.headD 0 = 0x44 ∧ isAes kb.alg = true) ∨
      (blk.headD 0 = 0x42 ∧ polKbImportB s c.slot = true ∧ isTdea kb.alg = true)) :
    work (importAllowed blk kb) s e c = (.ok (), ⟨s, e, c⟩) := by
  simp only [importAllowed, needKbpk, Bool.false_eq_true, if_false, work_bind, work_suits hkb, work_getS, work_getC, work_need]
  obtain ⟨hv, halg⟩ | ⟨hv, hpol, halg⟩ := hver
  · simp only [hv, halg]
    rfl
  · simp only [hv, hpol, halg]
    rfl

theorem work_importForm {opts : List (Octets × Octets)} {hdr : Nat} (hver : blk.headD 0 = 0x44 ∨ blk.headD 0 = 0x42)
    (hhead : blockHeaderOf blk = some (opts, hdr)) : work (importForm blk) s e c = (.ok (opts, hdr), ⟨s, e, c⟩) := by
  have hletter : ([0x41, 0x42, 0x43, 0x44] : List Octet).contains (blk.headD 0) = true := by
    obtain h | h := hver <;> rw [h] <;> rfl
  simp only [importForm, work_bind, work_need, hletter, if_true, hhead, work_pure]

/-- A check value stands in no optional block, or in one that agrees. -/
theorem blockAgrees {opts : List (Octets × Octets)} {id : String} {f : Octets → Octets}
    (h : ∀ v, checkBlock opts id = some v → ∃ x, v = some x ∧ x = f x) :
    checkBlock opts id = none ∨ ∃ x, checkBlock opts id = some (some x) ∧ x = f x := by
  cases hv : checkBlock opts id with
  | none => exact .inl rfl
  | some v =>
    obtain ⟨x, rfl, hx⟩ := h v hv
    exact .inr ⟨x, rfl, hx⟩

/-- The key of a block that opens, with the check values that agree, goes into its Envelope (R197). -/
theorem work_importBlock {opts : List (Octets × Octets)} {hdr alg : Nat} {key : Octets}
    (hopen : openBlock (blk.headD 0 == 0x44) kb.bytes blk hdr = some key) (hE : (slice blk 7 1).headD 0 ≠ 0x45)
    (hH : ¬ ((slice blk 7 1).headD 0 = 0x48 ∧ 48 < key.length)) (halg : importAlg ((slice blk 7 1).headD 0) key.length = some alg)
    (hcls : classAlg (usageClass (slice blk 5 2)) alg = true)
    (hkc : ∀ v, checkBlock opts "KC" = some v → ∃ x, v = some x ∧ x = (kcvOf alg key).take x.length)
    (hkp : ∀ v, checkBlock opts "KP" = some v → ∃ x, v = some x ∧ x = (kcvOf kb.alg kb.bytes).take x.length)
    (hroots : (rootsOf s c.slot).isSome = true) :
    work (importBlock blk opts hdr kb) s e c = (.ok (envelopeAnswer s c (headerFor 1 alg (usageClass (slice blk 5 2)) key.length
      (u16 (fit 9 (Config.madeAttrs 0x0603 (beNat (slice blk 5 2)))) 1 &&& fullMask) (slice blk 5 2) ((slice blk 8 1).headD 0)
      ((slice blk 11 1).headD 0) (slice blk 9 2) 0) key 0 0), ⟨s, e, c⟩) := by
  have hE' : ((slice blk 7 1).headD 0 == 0x45) = false := beq_eq_false_iff_ne.2 hE
  have hH' : (!((slice blk 7 1).headD 0 == 0x48 && decide (key.length > 48))) = true := by simpa [Nat.not_lt, imp_iff_not_or] using hH
  simp only [importBlock, work_bind, hopen, work_pure, hH', work_need, if_true, work_getS, hE', Bool.false_eq_true, if_false, halg, hcls]
  obtain h1 | ⟨x, h1, hx⟩ := blockAgrees hkc <;> obtain h2 | ⟨y, h2, hy⟩ := blockAgrees hkp
  · simp only [h1, h2, if_true, work_envelopeOut hroots]
  · simp only [h1, h2, beq_iff_eq.2 hy, if_true, work_envelopeOut hroots]
  · simp only [h1, h2, beq_iff_eq.2 hx, if_true, work_envelopeOut hroots]
  · simp only [h1, h2, beq_iff_eq.2 hx, beq_iff_eq.2 hy, if_true, work_envelopeOut hroots]

end

theorem keysCross : Claims.KeysCross := by
  intro s k e c rest s' c'
  dsimp only
  refine ⟨fun ref kb opts hdr alg key => ?_, fun rk rb key kb => ?_⟩
  · intro hask hlen hmin hmax hform hflags hz2 hz8 hkeyed hkind hhead hkb hver hfits hopen hE hH halg hcls hkc hkp hroots
    obtain ⟨hrefs, hr, hleft⟩ := hkeyed.one
    have hparts := work_keymgmtPlain (dataLen := fun n => decide (16 ≤ n ∧ n ≤ 4096)) hlen (decide_eq_true ⟨hmin, hmax⟩) hform hflags
      hz2 hz8 hrefs (by rw [List.any_cons, hkind]; rfl)
    have hmade := work_importBlock (e := e) hopen hE hH halg hcls hkc hkp (by rw [hleft.slot]; exact hroots)
    refine serves_charged rfl hask ?_ (hleft.twin hask.2)
    simp only [svcKeyImport, work_bind, hparts, work_importForm (hver.imp And.left And.left) hhead, List.headD_cons, hr,
      work_importAllowed (hleft.suits hkb) (by rw [hleft.polKbImportB]; exact hver), work_capacity_fits (hleft.fits hfits)]
    rw [hmade, envelopeAnswer_congr hleft.slot]
  · intro hask hlen h0 hform hflags hz2 hexp hz11 hkeyed hkk hkb hbp halgs hplain hexportable hderived hstrong hfits hdraw
    obtain ⟨hrefs, ⟨s1, c1, hrk, hrb⟩, hleft⟩ := hkeyed.two
    have hfields : (([2, 3] : List Nat).contains (u8 c.input 0) && (if false = true then decide (u8 c.input 1 ≤ 1) else u8 c.input 1 == 0) &&
        zeroAt c.input 2 2 && (!false || zeroAt c.input 8 56)) = true := by
      rw [hflags, hz2]
      obtain h | h := hform <;> rw [h] <;> rfl
    have hparts := work_keymgmtParts (dataLen := (· == 0)) hlen (beq_iff_eq.2 h0) hfields hrefs
      (by rw [List.any_cons, List.any_cons, hkk, hkb]; rfl)
    have hletter : (((slice c.input 8 1).headD 0 == 0x45 || (slice c.input 8 1).headD 0 == 0x4E) && zeroAt c.input 11 53) = true := by
      rw [hz11]
      obtain h | h := hexp <;> rw [h] <;> rfl
    have halg : (if u8 c.input 0 == 2 then isAes kb.alg else isTdea kb.alg) = true := by
      split at halgs <;> simp only [*] <;> rfl
    have hsource : (key.source != 0 || polExportDerived s' c'.slot) = true := by
      rw [hleft.polExportDerived]
      simpa using hderived
    have hweak : (decide (strength kb.alg ≥ strength key.alg) || polExportWeaker s' c'.slot) = true := by
      rw [hleft.polExportWeaker]
      simpa using hstrong
    refine serves_of_work rfl hask.1 ?_ hleft.stateChanging
    simp only [svcKeyExport, exportAllowed, needKbpk, work_bind, work_getIn, work_getS, work_getC, hparts, work_need, hletter, if_true, hrk,
      hrb, work_suits (hleft.suits hbp), halg, hplain, hexportable, Bool.and_self, hsource, hweak,
      work_capacity_fits (hleft.fits hfits), work_draw (hleft.mayDraw hdraw) (n := 32) (by decide), work_pure]

/-! ### ENVELOPE_UPGRADE and KEY_CHECK_VALUE (R201, R202, R311) -/

theorem keysAreShown : Claims.KeysAreShown := by
  intro s k e c ref key rest s' c'
  dsimp only
  refine ⟨fun hask ⟨hlen, h0, hform, hflags, hz2, hz8, hkeyed, hkind⟩ h3 hfits hroots => ?_,
    fun hask ⟨hlen, h0, hform, hflags, hz2, hz8, hkeyed, hkind⟩ hv1 hfits => ?_⟩
  all_goals
    obtain ⟨hrefs, hr, hleft⟩ := hkeyed.one
    have hparts := work_keymgmtPlain (dataLen := (· == 0)) hlen (beq_iff_eq.2 h0) hform hflags hz2 hz8 hrefs
      (by rw [List.any_cons, hkind]; rfl)
    refine serves_of_work rfl hask.1 ?_ hleft.stateChanging
  · simp only [svcEnvelopeUpgrade, upgraded, work_bind, hparts, List.headD_cons, work_need, beq_iff_eq.2 h3, if_true, hr,
      work_capacity_fits (hleft.fits hfits), work_envelopeOut (hleft.slot.symm ▸ hroots),
      envelopeAnswer_congr hleft.slot]
  · have htdea : (!(c'.d.version == 1 && !(isTdea key.alg))) = true := by
      rw [hleft.d]
      exact lifted beq_iff_eq hv1
    simp only [svcKeyCheckValue, work_bind, hparts, List.headD_cons, hr, work_getC, work_need, htdea, if_true,
      work_capacity_fits (hleft.fits hfits), work_pure]

/-! ### RKL_RSA and RKL_ECDH (R199, R200, R262, R265) -/

theorem remoteKeyLoading : Claims.RemoteKeyLoading := by
  intro s k e c ref key rest s' c'
  dsimp only
  refine ⟨fun rk => ?_, fun cv q => ?_⟩
  · intro hask hlen hdata hform hflags hz2 hkeyed hkind hmin hmax h32 h10 hz11 hz32 hodd hbits hsuits hfits hdraw hrk hroots
    obtain ⟨hrefs, hr, hleft⟩ := hkeyed.one
    have hparts := work_keymgmtParts (forms := [1]) (flags := true) (fieldsZero := false) (dataLen := (· == u16 c.input 8 / 8)) hlen
      (beq_iff_eq.2 hdata) (by rw [hform, hz2, if_pos rfl, decide_eq_true hflags]; rfl) hrefs (by rw [List.any_cons, hkind]; rfl)
    have hfields : (decide (2048 ≤ u16 c.input 8 ∧ u16 c.input 8 ≤ 4096) && u16 c.input 8 % 32 == 0 && decide (u8 c.input 10 ≤ 4) &&
        zeroAt c.input 11 5 && zeroAt c.input 32 32) = true := by
      rw [decide_eq_true ⟨hmin, hmax⟩, h32, decide_eq_true h10, hz11, hz32]
      rfl
    refine serves_charged rfl hask ?_ (by rw [twin_drawn]; exact hleft.twin hask.2)
    simp only [svcRklRsa, work_bind, work_getIn, hparts, work_need, hfields, if_true, hodd, hbits, beq_self_eq_true, Bool.and_self,
      List.headD_cons, hr, work_suits (hleft.suits hsuits), work_capacity_fits (hleft.fits hfits),
      work_draw (hleft.mayDraw hdraw) (Nat.succ_ne_zero _), rsaOf, hrk, work_pure]
    cases heph : (u8 c.input 1).testBit 0
    · have hroots' (n : Nat) : (rootsOf (drawn s' c' n).2 c'.slot).isSome = true := by
        rw [rootsOf_drawn, hleft.slot]
        exact hroots heph
      simp only [Bool.false_eq_true, if_false, work_bind, work_envelopeOut (hroots' _), work_pure, envelopeAnswer_congr hleft.slot]
    · simp only [if_true, work_pure, List.append_nil]
  · intro hask h8 hcv hlen hdata hform hflags hz2 hkeyed hkind hz9 hz32 hplain hexportable hderived hfits hdraw hq
    obtain ⟨hrefs, hr, hleft⟩ := hkeyed.one
    have hparts := work_keymgmtParts (forms := [2]) (flags := false) (fieldsZero := false) (dataLen := (· == 2 * cv.fo)) hlen
      (beq_iff_eq.2 hdata) (by rw [hform, hflags, hz2]; rfl) hrefs (by rw [List.any_cons, hkind]; rfl)
    have hsource : (key.source != 0 || polExportDerived s' c'.slot) = true := by
      rw [hleft.polExportDerived]
      simpa using hderived
    refine ⟨fun hnone => ?_, fun z y hsome => ?_⟩
    · refine answers_fail rfl hask.1 ?_
      simp only [svcRklEcdh, needCurve, work_bind, work_getIn, work_getS, work_getC, work_need, decide_eq_true h8, if_true, hcv, work_pure, hparts, hz9, hz32,
        Bool.and_self, List.headD_cons, hr, hplain, hexportable, hsource, work_capacity_fits (hleft.fits hfits),
        work_draw (hleft.mayDraw hdraw) (Nat.succ_ne_zero _), work_liftE, hq, hnone, invariantFail, work_modS, work_fail]
    · refine serves_of_work rfl hask.1 ?_ hleft.stateChanging
      simp only [svcRklEcdh, needCurve, work_bind, work_getIn, work_getS, work_getC, work_need, decide_eq_true h8, if_true, hcv, work_pure, hparts, hz9, hz32,
        Bool.and_self, List.headD_cons, hr, hplain, hexportable, hsource, work_capacity_fits (hleft.fits hfits),
        work_draw (hleft.mayDraw hdraw) (Nat.succ_ne_zero _), work_liftE, hq, hsome]

/-- Settles O52: each service's work is its header, its keys and draws, and the Envelope or key block that they give. -/
theorem keyManagementServices : Obligations.KeyManagementServices := ⟨keysAreMade, keysCross, keysAreShown, remoteKeyLoading⟩

end Sys2Proof.Machine
end

section
/-! The public-key services (R250, R252 to R254, R258 to R262, R265). -/

namespace Sys2Proof.Machine

open Host

/-! ### Steps that the services share -/

section
variable {s : State} {e : Nat} {c : Cmd} {cv : Curve} {key : KeyVal}

theorem work_needCurve {i : Nat} (h : curveEntry s i = some cv) : work (needCurve i) s e c = (.ok cv, ⟨s, e, c⟩) := by
  simp only [needCurve, work_bind, work_getS, h, work_pure]

theorem work_pkRefs {n : Nat} {rs : List KeyRef} {o rest : Octets} (hrefs : work (takeRefs false n o) s e c = (.ok (rs, rest), ⟨s, e, c⟩))
    (hkinds : (rs.any fun x => isDukptKind x.kind) = false) : work (pkRefs n o) s e c = (.ok (rs, rest), ⟨s, e, c⟩) := by
  simp only [pkRefs, work_bind, hrefs, work_need, hkinds, Bool.not_false, if_true, work_pure]

theorem work_scalarOf {d : Nat} (h : ScalarIs cv key d) : work (scalarOf cv key) s e c = (.ok d, ⟨s, e, c⟩) := by
  unfold ScalarIs at h
  unfold scalarOf
  split at h
  next ht =>
    obtain ⟨rfl, hpos, hlt⟩ := h
    rw [if_pos ht]
    dsimp only
    rw [if_neg (by omega)]
    rfl
  next ht =>
    rw [if_neg ht, h]
    rfl

theorem work_rsaOf {bits : Nat} {rk : RsaKey} (h : expandRsa key.bytes bits = some rk) :
    work (rsaOf key bits) s e c = (.ok rk, ⟨s, e, c⟩) := by
  simp only [rsaOf, h, work_pure]

/-- A draw from the internal instance of the core's cluster pair (R339). -/
theorem work_randomInternal {core : Nat} (hok : s.entropy.failed = false) (hserve : canServe s (core / 16) = true) (n : Nat) :
    work (randomInternal core n) s e c = (.ok (generate s (core / 16) n false).1, ⟨(generate s (core / 16) n false).2, e, c⟩) := by
  simp only [randomInternal, work_bind, work_get, hok, hserve, Bool.false_eq_true, if_false, Bool.not_true, work_set, work_pure]

/-- A public-key header over a message or a digest (R258). -/
theorem PkHeader.hashed {ec scheme : Bool} {flags : Nat} (h : PkHeader ec c.input scheme flags true) :
    (pkHeaderOk ec c.input scheme flags && hashLenOk c.input) = true := by
  obtain ⟨hhead, hlen⟩ := h
  rw [if_pos rfl] at hlen
  rw [hhead, hlen]
  rfl

/-- A public-key header without data (R258). -/
theorem PkHeader.plain {ec scheme : Bool} {flags : Nat} (h : PkHeader ec c.input scheme flags false) :
    (pkHeaderOk ec c.input scheme flags && u8 c.input 1 == 0 && u32 c.input 4 == 0) = true := by
  obtain ⟨hhead, hzero⟩ := h
  rw [if_neg (by decide)] at hzero
  rw [hhead, hzero.1, hzero.2]
  rfl

theorem work_needKeygen {t : Octets} {alg : Nat} {u v : String} (ht : TemplateOk t) (hcls : (headerKey t).cls = 4)
    (halg : (headerKey t).alg = alg) (hu : (headerKey t).usage = ascii u ∨ (headerKey t).usage = ascii v) :
    work (needKeygen t alg [u, v]) s e c = (.ok (), ⟨s, e, c⟩) := by
  have husage : (templateUsageOk t && [u, v].any fun x => ascii x == (headerKey t).usage) = true := by
    rw [ht.2.2]
    obtain h | h := hu <;> simp [h]
  simp only [needKeygen, work_bind, work_needTemplate ht, work_need, beq_iff_eq.2 hcls, beq_iff_eq.2 halg, Bool.and_self, husage, if_true]

end

/-! ### ECDSA (R259, R260, R262) -/

theorem ecdsaSigns : Claims.EcdsaSigns := by
  intro s k e c cv ref key data d s' c'
  dsimp only
  intro hask hlen hhead hcv hkeyed hkind hsuits hfits hd hdraws
  obtain ⟨hrefs, hr, hleft⟩ := hkeyed.one
  have hparts := work_pkRefs hrefs (by rw [List.any_cons, hkind]; rfl)
  have hfailed : s'.entropy.failed = s.entropy.failed := congrArg Entropy.failed hleft.keep.entropy
  have hnonce : work (if (s'.entropy.failed && key.flags.getLsbD 1) = true then pure [] else randomInternal k.toNat cv.no) s' e c' =
      (.ok (if (s.entropy.failed && key.flags.getLsbD 1) = true then ([], s') else generate s' (k.toNat / 16) cv.no false).1,
        ⟨(if (s.entropy.failed && key.flags.getLsbD 1) = true then ([], s') else generate s' (k.toNat / 16) cv.no false).2, e, c'⟩) := by
    rw [hfailed]
    cases hp : s.entropy.failed && key.flags.getLsbD 1
    · obtain ⟨hok, hserve⟩ := hdraws hp
      exact work_randomInternal (hfailed.trans hok) (by obtain ⟨⟨K, rfl, -⟩, -⟩ := hleft; exact hserve) cv.no
    · rfl
  have htwin : twinInFlight (if (s.entropy.failed && key.flags.getLsbD 1) = true then ([], s')
      else generate s' (k.toNat / 16) cv.no false).2 e c' = false := by
    rw [← hleft.twin hask.2]
    split
    · rfl
    · exact twin_gen s' e c' _ _ _
  generalize (if (s.entropy.failed && key.flags.getLsbD 1) = true then ([], s') else generate s' (k.toNat / 16) cv.no false) = r
    at hnonce htwin
  refine ⟨fun x y hsome => ?_, fun hnone => ?_⟩
  · refine serves_charged rfl hask ?_ htwin
    simp only [svcEcdsaSign, work_bind, work_getIn, work_getS, beq_iff_eq.2 hlen, work_need, hhead.hashed, if_true, work_needCurve hcv, hparts,
      List.headD_cons, hr, work_suits (hleft.suits hsuits), work_capacity_fits (hleft.fits hfits), work_scalarOf hd, hnonce, hsome, work_pure]
  · refine answers_fail rfl hask.1 ?_
    simp only [svcEcdsaSign, work_bind, work_getIn, work_getS, beq_iff_eq.2 hlen, work_need, hhead.hashed, if_true, work_needCurve hcv, hparts,
      List.headD_cons, hr, work_suits (hleft.suits hsuits), work_capacity_fits (hleft.fits hfits), work_scalarOf hd, hnonce, hnone,
      invariantFail, work_modS, work_fail]

/-! ### ECDSA_VERIFY (R258, R262) -/

/-- The octets of a point that decodes begin with 4. -/
theorem decodePoint_first {cv : Curve} {o : Octets} {q : Point} (h : decodePoint cv o = .ok q) : u8 o 0 = 4 := by
  by_contra h4
  unfold decodePoint at h
  dsimp only at h
  split at h
  · split at h <;> cases h
  · cases h

theorem headD_eq_of_u8 {o : Octets} {n : Nat} {x : Octet} (h : u8 (o.take (n + 1)) 0 = x.toNat) (hx : x ≠ 0) : o.headD 0 = x := by
  cases o with
  | nil => exact absurd (BitVec.eq_of_toNat_eq h.symm) hx
  | cons y o =>
    rw [List.headD_cons]
    exact BitVec.eq_of_toNat_eq (by simpa [u8, slice, fit, leNat] using h)

theorem ecdsaVerifies : Claims.EcdsaVerifies := by
  intro s k e c cv
  dsimp only
  intro hask h15 hcv hhead hfits
  refine ⟨fun q hpub hlen hq => ?_, fun ref key sig d s' c' hpub hlen hkeyed hkind hsuits hd => ?_⟩
  · have hl : (c.input.length == 64 + refsLen 0 (c.input.drop 64) + (1 + 2 * cv.fo) + 2 * cv.no + u32 c.input 4) = true :=
      beq_iff_eq.2 hlen
    have hfirst : (c.input.drop 64).headD 0 = 4 :=
      headD_eq_of_u8 (n := 2 * cv.fo) (by rw [Nat.add_comm]; exact decodePoint_first hq) (by decide)
    have hparts : work (pkRefs 0 (c.input.drop 64)) s e c = (.ok ([], c.input.drop 64), ⟨s, e, c⟩) := work_pkRefs rfl rfl
    refine judges_uncharged rfl hask rfl (fun hgood => ?_) (fun hbad => ?_)
    · simp only [svcEcdsaVerify, hpub, if_true, work_bind, work_getIn, work_need, decide_eq_true h15, work_needCurve hcv, hl, hhead.hashed,
        hparts, hfirst, beq_self_eq_true, Bool.true_or, work_liftE, hq, work_capacity_fits hfits, hgood, work_pure]
    · simp only [svcEcdsaVerify, hpub, if_true, work_bind, work_getIn, work_need, decide_eq_true h15, work_needCurve hcv, hl, hhead.hashed,
        hparts, hfirst, beq_self_eq_true, Bool.true_or, work_liftE, hq, work_capacity_fits hfits, hbad]
      rfl
  · obtain ⟨hrefs, hr, hleft⟩ := hkeyed.one
    have hl : (c.input.length == 64 + refsLen 1 (c.input.drop 64) + 0 + 2 * cv.no + u32 c.input 4) = true := beq_iff_eq.2 hlen
    have hparts := work_pkRefs hrefs (by rw [List.any_cons, hkind]; rfl)
    refine judges_uncharged rfl hask hleft.stateChanging (fun hgood => ?_) (fun hbad => ?_)
    · simp only [svcEcdsaVerify, hpub, Bool.false_eq_true, if_false, if_true, work_bind, work_getIn, work_need, decide_eq_true h15,
        work_needCurve hcv, hl, hhead.hashed, hparts, hr, work_suits (hleft.suits hsuits), work_scalarOf hd, work_pure,
        work_capacity_fits (hleft.fits hfits), List.drop_zero, hgood]
    · simp only [svcEcdsaVerify, hpub, Bool.false_eq_true, if_false, if_true, work_bind, work_getIn, work_need, decide_eq_true h15,
        work_needCurve hcv, hl, hhead.hashed, hparts, hr, work_suits (hleft.suits hsuits), work_scalarOf hd, work_pure,
        work_capacity_fits (hleft.fits hfits), List.drop_zero, hbad]

/-! ### ECDH and EC_KEYGEN (R256, R258, R259, R261, R262, R265) -/

theorem Left.polEcdhRawZ {s s' : State} {c c' : Cmd} (h : Left s c s' c') : polEcdhRawZ s' c'.slot = polEcdhRawZ s c.slot := by
  obtain ⟨⟨K, rfl, -⟩, R, rfl⟩ := h
  rfl

/-- The key that an agreement gives under a template (R256). -/
def agreedKey (h : KeyVal) (z info : Octets) : Octets :=
  if isTdea h.alg then oddParity (oneStep z info (drawLen h)) else oneStep z info (drawLen h)

theorem ecKeysAreMade : Claims.EcKeysAreMade := by
  intro s k e c cv n g b c2
  dsimp only
  refine ⟨fun ref key rest d q s' c' => ?_, ?_⟩
  · intro hask h15 hcv hlen hhead h1 h256 hkeyed hkind ht hfirst hsuits hraw hfits hd hq
    obtain ⟨hrefs, hr, hleft⟩ := hkeyed.one
    have hparts := work_pkRefs hrefs (by rw [List.any_cons, hkind]; rfl)
    have hfields : (pkHeaderOk true c.input false 2 && u8 c.input 1 == 0 && decide (u32 c.input 4 ≤ 256)) = true := by
      rw [hhead, h1, decide_eq_true h256]
      rfl
    have hpol : (!(u8 c.input 3).testBit 1 || Machine.polEcdhRawZ s' c'.slot) = true := by
      rw [hleft.polEcdhRawZ]
      cases hb : (u8 c.input 3).testBit 1
      · rfl
      · exact hraw hb
    have hwork : work (svcEcdh k) s e c = (ecMul cv (cv.h * d) q).elim (work (invariantFail k.toNat) s' e c') fun p =>
        if (u8 c.input 3).testBit 1 then work (pure (be cv.fo p.1)) s' e c'
        else work (allocate (headerKey (slice rest (1 + 2 * cv.fo) 64)).limit >>= fun x => envelopeOut (slice rest (1 + 2 * cv.fo) 64)
          (agreedKey (headerKey (slice rest (1 + 2 * cv.fo) 64)) (be cv.fo p.1) (rest.drop (1 + 2 * cv.fo + 64))) x.1 x.2) s' e c' := by
      simp only [svcEcdh, work_bind, work_getIn, work_getS, work_getC, work_need, decide_eq_true h15, if_true, work_needCurve hcv,
        beq_iff_eq.2 hlen, hfields, hparts, work_needTemplate ht, hfirst, beq_self_eq_true, Bool.true_or, List.headD_cons, hr, ht.2.2,
        work_suits (hleft.suits hsuits), hpol, work_capacity_fits (hleft.fits hfits), work_scalarOf hd, work_liftE, hq]
      rcases ecMul cv (cv.h * d) q with _ | ⟨z, y⟩
      · rfl
      · show work (if (u8 c.input 3).testBit 1 = true then _ else _) s' e c' = _
        rw [work_ite, work_bind]
        rfl
    refine ⟨fun hnone => ?_, fun z y hsome => ⟨fun hr1 => ?_, fun hr0 halloc hroots => ?_⟩⟩
    · refine answers_fail rfl hask.1 ?_
      rw [hwork, hnone]
      rfl
    · refine serves_charged rfl hask ?_ (hleft.twin hask.2)
      rw [hwork, hsome, Option.elim_some, if_pos hr1, work_pure]
    · refine serves_charged rfl hask ?_ (halloc.twin (hleft.twin hask.2))
      rw [hwork, hsome, Option.elim_some, hr0, if_neg Bool.false_ne_true,
        work_allocated (e := e) halloc (by rw [hleft.slot]; exact hroots), envelopeAnswer_congr hleft.slot]
      rfl
  · intro hask hlen hhead hcv ht hcls halg husage hfits hdraw halloc hroots
    have hroots' : (rootsOf (drawn s c 32).2 c.slot).isSome = true := by rw [rootsOf_drawn]; exact hroots
    refine serves_charged rfl hask ?_ (halloc.twin (by rw [twin_drawn]; exact hask.2))
    simp only [svcEcKeygen, work_bind, work_getIn, work_need, beq_iff_eq.2 hlen, hhead.plain, if_true, work_needCurve hcv,
      work_needKeygen ht hcls halg husage, work_capacity_fits hfits, work_draw hdraw (n := 32) (by decide),
      work_allocate halloc, work_envelopeOut (halloc.roots hroots'), envelopeAnswer_congr halloc.slot, work_pure]

/-! ### RSA_SIGN and RSA_VERIFY (R254, R258, R262) -/

/-- The check of an RSA signature, as a proposition. -/
theorem rsaCheck_iff {v n : Nat} {p : Prop} [Decidable p] {em enc : Octets} {ok : Bool} :
    (decide (v < n) && (if p then em == enc else ok)) = true ↔ v < n ∧ if p then em = enc else ok = true := by
  rw [Bool.and_eq_true, decide_eq_true_iff]
  split <;> simp

theorem rsaSignatures : Claims.RsaSignatures := by
  intro s k e c
  dsimp only
  refine ⟨fun ref key data rk s' c' => ?_, fun n rest => ?_⟩
  · intro hask hlen hhead hkeyed hkind hsuits hfits hrk hdraw
    obtain ⟨hrefs, hr, hleft⟩ := hkeyed.one
    have hparts := work_pkRefs hrefs (by rw [List.any_cons, hkind]; rfl)
    by_cases h2 : u8 c.input 2 = 2
    · obtain ⟨hok, hserve⟩ := hleft.mayDraw (hdraw h2)
      refine serves_charged rfl hask ?_ (by rw [if_pos h2, twin_gen]; exact hleft.twin hask.2)
      simp only [svcRsaSign, work_bind, work_getIn, work_need, beq_iff_eq.2 hlen, hhead.hashed, if_true, hparts, List.headD_cons, hr,
        work_suits (hleft.suits hsuits), work_capacity_fits (hleft.fits hfits), work_rsaOf hrk, if_pos h2,
        work_random _ s' e c' hok hserve, work_pure]
    · refine serves_charged rfl hask ?_ (by rw [if_neg h2]; exact hleft.twin hask.2)
      simp only [svcRsaSign, work_bind, work_getIn, work_need, beq_iff_eq.2 hlen, hhead.hashed, if_true, hparts, List.headD_cons, hr,
        work_suits (hleft.suits hsuits), work_capacity_fits (hleft.fits hfits), work_rsaOf hrk, if_neg h2, work_pure]
  · intro hask hhead hfits
    refine ⟨fun hpub hlen hrest hn hodd hbits => ?_, fun ref key rk s' c' hpub hlen hkeyed hkind hsuits hrk hn => ?_⟩
    · subst hrest
      have hl : (c.input.length == 64 + refsLen 0 (c.input.drop 64) + u16 c.input 8 / 8 + u16 c.input 8 / 8 + u32 c.input 4) = true :=
        beq_iff_eq.2 hlen
      have hparts : work (pkRefs 0 (c.input.drop 64)) s e c = (.ok ([], c.input.drop 64), ⟨s, e, c⟩) := work_pkRefs rfl rfl
      have hmod : (n % 2 == 1 && exactBits n (u16 c.input 8)) = true := by
        rw [hodd, hbits]
        rfl
      refine judges_uncharged rfl hask rfl (fun hgood => ?_) (fun hbad => ?_)
      · simp only [svcRsaVerify, hpub, if_true, work_bind, work_getIn, work_need, hl, hhead.hashed, hparts, hmod, work_pure,
          work_capacity_fits hfits, ← hn, rsaCheck_iff.2 hgood]
      · simp only [svcRsaVerify, hpub, if_true, work_bind, work_getIn, work_need, hl, hhead.hashed, hparts, hmod, work_pure,
          work_capacity_fits hfits, ← hn, mt rsaCheck_iff.1 hbad]
        rfl
    · subst hn
      obtain ⟨hrefs, hr, hleft⟩ := hkeyed.one
      have hl : (c.input.length == 64 + refsLen 1 (c.input.drop 64) + 0 + u16 c.input 8 / 8 + u32 c.input 4) = true := beq_iff_eq.2 hlen
      have hparts := work_pkRefs hrefs (by rw [List.any_cons, hkind]; rfl)
      refine judges_uncharged rfl hask hleft.stateChanging (fun hgood => ?_) (fun hbad => ?_)
      · simp only [svcRsaVerify, hpub, Bool.false_eq_true, if_false, if_true, work_bind, work_getIn, work_need, hl, hhead.hashed, hparts,
          hr, work_suits (hleft.suits hsuits), work_rsaOf hrk, work_pure, work_capacity_fits (hleft.fits hfits), rsaCheck_iff.2 hgood]
      · simp only [svcRsaVerify, hpub, Bool.false_eq_true, if_false, if_true, work_bind, work_getIn, work_need, hl, hhead.hashed, hparts,
          hr, work_suits (hleft.suits hsuits), work_rsaOf hrk, work_pure, work_capacity_fits (hleft.fits hfits), mt rsaCheck_iff.1 hbad]

/-! ### RSA_DECRYPT and RSA_KEYGEN (R254, R258, R259, R262) -/

theorem rsaKeysAct : Claims.RsaKeysAct := by
  intro s k e c rk
  dsimp only
  refine ⟨fun ref key ct s' c' => ?_, fun n g b c2 => ?_⟩
  · intro hask hlen hhead hkeyed hkind hsuits hrk
    obtain ⟨hrefs, hr, hleft⟩ := hkeyed.one
    have hparts := work_pkRefs hrefs (by rw [List.any_cons, hkind]; rfl)
    refine ⟨fun hbig => ?_, fun hlt hnone => ?_, fun p hlt hsome hfits => ?_⟩
    · refine answers_fail rfl hask.1 ?_
      simp only [svcRsaDecrypt, work_bind, work_getIn, work_need, beq_iff_eq.2 hlen, hhead.plain, if_true, hparts, List.headD_cons, hr,
        work_suits (hleft.suits hsuits), work_rsaOf hrk, decide_eq_false (Nat.not_lt.2 hbig), Bool.false_eq_true, if_false]
    · refine answers_fail rfl hask.1 ?_
      simp only [svcRsaDecrypt, work_bind, work_getIn, work_need, beq_iff_eq.2 hlen, hhead.plain, if_true, hparts, List.headD_cons, hr,
        work_suits (hleft.suits hsuits), work_rsaOf hrk, decide_eq_true hlt, hnone, work_fail]
    · refine serves_charged rfl hask ?_ (hleft.twin hask.2)
      simp only [svcRsaDecrypt, work_bind, work_getIn, work_need, beq_iff_eq.2 hlen, hhead.plain, if_true, hparts, List.headD_cons, hr,
        work_suits (hleft.suits hsuits), work_rsaOf hrk, decide_eq_true hlt, hsome, work_capacity_fits (hleft.fits hfits), work_pure]
  · intro hask hlen hhead ht hcls halg husage hfits hdraw hrk halloc hroots
    have hroots' : (rootsOf (drawn s c 32).2 c.slot).isSome = true := by rw [rootsOf_drawn]; exact hroots
    refine serves_charged rfl hask ?_ (halloc.twin (by rw [twin_drawn]; exact hask.2))
    simp only [svcRsaKeygen, work_bind, work_getIn, work_need, beq_iff_eq.2 hlen, hhead.plain, if_true,
      work_needKeygen ht hcls halg husage, work_capacity_fits hfits, work_draw hdraw (n := 32) (by decide), hrk,
      work_allocate halloc, work_envelopeOut (halloc.roots hroots'), envelopeAnswer_congr halloc.slot, work_pure]

/-! ### CURVE_LOAD (R54, R250, R252) -/

theorem curvesAreLoaded : Claims.CurvesAreLoaded := by
  intro s k e c
  dsimp only
  intro hask
  refine ⟨fun hmode => ?_, fun hmode hlen => ?_, fun hmode hlen hfits hfields => ?_, fun hmode hlen hfits hfields hserve =>
    ⟨fun hbad => ?_, fun hgood => ?_⟩⟩
  · refine answers_fail rfl hask.1 ?_
    simp only [svcCurveLoad, work_bind, work_getIn, work_getS, work_need, beq_eq_false_iff_ne.2 hmode, Bool.false_eq_true, if_false]
  · refine answers_fail rfl hask.1 ?_
    simp only [svcCurveLoad, work_bind, work_getIn, work_getS, work_need, hmode, beq_self_eq_true, if_true, beq_eq_false_iff_ne.2 hlen,
      Bool.false_eq_true, if_false]
  · refine answers_fail rfl hask.1 ?_
    simp only [svcCurveLoad, work_bind, work_getIn, work_getS, work_need, hmode, beq_self_eq_true, if_true, beq_iff_eq.2 hlen,
      work_capacity_fits hfits, hfields, Bool.false_eq_true, if_false]
  · refine answers_fail rfl hask.1 ?_
    simp only [svcCurveLoad, work_bind, work_getIn, work_getS, work_need, hmode, beq_self_eq_true, if_true, beq_iff_eq.2 hlen,
      work_capacity_fits hfits, hfields, work_get, hserve.1, hserve.2, Bool.not_true, Bool.false_eq_true, if_false, work_set, work_pure, hbad]
  · refine answers_ok (ch := false) (b := (generate s 4 9216 false).2) rfl hask.1 ?_ ((twin_gen s e _ 4 9216 false).trans hask.2)
    simp only [svcCurveLoad, work_bind, work_getIn, work_getS, work_need, hmode, beq_self_eq_true, if_true, beq_iff_eq.2 hlen,
      work_capacity_fits hfits, hfields, work_get, hserve.1, hserve.2, Bool.not_true, Bool.false_eq_true, if_false, work_set, work_pure, hgood,
      work_modC]

/-- Settles O53: each service's work is its header, its key or drawn seed, and what the curve or the modulus gives. -/
theorem publicKeyServices : Obligations.PublicKeyServices :=
  ⟨ecdsaSigns, ecdsaVerifies, ecKeysAreMade, rsaSignatures, rsaKeysAct, curvesAreLoaded⟩

end Sys2Proof.Machine
end

section
/-! O55: a commit carries the effects of its command out (R250, R294, R297, R351, R441, R533, R606). -/

namespace Sys2Proof.Machine

open Host

/-! ### The frames of the effects -/

theorem keeps_setSlot (s : State) (n : Nat) (x : Slot) : Keeps [.slots] s (s.setSlot n x) := by
  intro p hp
  cases p
  case slots => simp at hp
  all_goals rfl

theorem Keeps.setSlot {ps : List Part} {s t : State} (h : Keeps ps s t) (n : Nat) (x : Slot) :
    Keeps ps (s.setSlot n x) (t.setSlot n x) := by
  intro p hp
  have hsame := h p hp
  cases p
  case slots => exact congrArg (fun y : Slots => { y with table := insertAt y.table n x }) hsame
  all_goals exact hsame

theorem keeps_setKeys (s : State) (k : KeyUnit) : Keeps [.keys] s { s with keys := k } := by
  intro p hp
  cases p
  case keys => simp at hp
  all_goals rfl

theorem keeps_holdRoots (s : State) (n : Nat) : Keeps [.keys] s (holdRoots s n) := by
  unfold holdRoots
  split
  next => exact keeps_setKeys s _
  next => exact .refl _ s

theorem keeps_zeroData (s : State) (f : SlotFields) : Keeps [.wmem] s (zeroData s f) := by
  intro p hp
  unfold zeroData zeroMem
  split
  next => cases p <;> rfl
  next =>
    cases p
    case wmem => simp at hp
    all_goals rfl

theorem keeps_resetRun (s : State) (f : SlotFields) : Keeps [.so] s (resetPhs s f) :=
  .foldl (fun t i => keeps_setPh t (f.phBase + i) {}) _ s

/-- Besides the slot table, a new slot touches its pigeonholes, keys and data area (R441). -/
theorem keeps_installSlot (s : State) (n : Nat) (f : SlotFields) (st : SlotState) :
    Keeps [.so, .wmem, .keys] (s.setSlot n { f := f, state := st }) (installSlot s n f st) := by
  have hfree := keeps_setKeys s
    { s.keys with counters := s.keys.counters.filter (fun x => decide (x.1 < f.ctrBase ∨ f.ctrBase + f.ctrCount ≤ x.1)) }
  have hrun : Keeps [.so, .wmem, .keys] s (resetPhs (zeroData (freeCounters s f) f) f) :=
    (hfree.comp (keeps_zeroData _ f) (rs := [.wmem, .keys])).comp (keeps_resetRun _ f)
  have hgone := hrun.comp (rs := [.so, .wmem, .keys]) (keeps_setKeys _ { (resetPhs (zeroData (freeCounters s f) f) f).keys with
    aliases := removeAt (resetPhs (zeroData (freeCounters s f) f) f).keys.aliases n
    rootFile := removeAt (resetPhs (zeroData (freeCounters s f) f) f).keys.rootFile n })
  exact (hgone.setSlot n _).comp (keeps_holdRoots _ n)

theorem keeps_actTail (s : State) (n : Nat) (p : Ph) (v : Nat) : Keeps [.so] s (actTail s n p v) := by
  unfold actTail
  split
  next => exact keeps_setPh s n _
  next => split <;> exact keeps_setPh s n _

theorem keeps_actHead (s : State) (n : Nat) (p : Ph) (v : Nat) : Keeps [.so] s (actHead s n p v) := by
  unfold actHead
  split <;> exact keeps_setPh s n _

theorem keeps_resumePh (s : State) (n : Nat) : Keeps [.so] s (resumePh s n) := by
  unfold resumePh
  dsimp only
  split
  next => exact .refl _ s
  next =>
    have hset := keeps_setPh s n { s.ph n with
      state := if (s.ph n).resume = .opened then PhState.opened else PhState.ready, recTail := none, recHead := none }
    refine hset.trans ?_
    generalize s.setPh n _ = u
    have hhead (a : Option Nat) : Keeps [.so] u (match a with | some v => actHead u n (u.ph n) v | none => u) := by
      cases a with
      | none => exact .refl _ u
      | some v => exact keeps_actHead u n _ v
    have hrest (w : State) (v : Nat) : Keeps [.so] w (if (w.ph n).state = .error then w else actTail w n (w.ph n) v) := by
      split
      next => exact .refl _ w
      next => exact keeps_actTail w n _ v
    cases (s.ph n).recTail with
    | none => exact hhead _
    | some v => exact (hhead _).trans (hrest _ v)

/-- A resumed slot's pigeonholes act; of the slot table its entry alone differs (R443). -/
theorem keeps_resumeSlot {s : State} {n : Nat} {x : Slot} (h : lookup s.slots.table n = some x) :
    Keeps [.so] (s.setSlot n { x with state := .active }) (resumeSlot s n) := by
  rw [resumeSlot, h]
  exact .foldl (fun t i => keeps_resumePh t _) _ _

theorem keeps_restoreCounters (s : State) (f : SlotFields) (same : Bool) (o : Octets) :
    Keeps [.keys] s (restoreCounters s f same o) := by
  refine .foldl (fun t i => ?_) _ s
  split
  next => exact .refl _ t
  next =>
    split
    next => exact .refl _ t
    next => exact keeps_setKeys t _

theorem keeps_restoreMsix (s : State) (fn : Fn) (a b : Octets) : Keeps [.msix] s (restoreMsix s fn a b) := by
  refine .foldl (fun t v p hp => ?_) _ s
  cases p
  case msix => simp at hp
  all_goals rfl

/-- A restored slot's entry is that of a new QUIESCED slot (R453). -/
theorem restoreSlot_slots (s : State) (n : Nat) (f : SlotFields) (header body : Octets) :
    (restoreSlot s n f header body).slots = (s.setSlot n { f := f, state := .quiesced }).slots := by
  unfold restoreSlot
  dsimp only
  rw [(keeps_restoreMsix _ _ _ _).slots, (Keeps.foldl (fun t i => keeps_setPh t _ _) _ _).slots,
    (keeps_restoreCounters _ _ _ _).slots]
  exact (keeps_installSlot s n f .quiesced).slots

/-- The counter of a use (R297): one more, and EXHAUSTED at the limit. -/
theorem commitUse_counts {s : State} {i : Nat} {x : CtrEntry} (hx : lookup s.keys.counters i = some x)
    (hlim : x.count.toNat < x.limit.toNat) : lookup (commitUse s i).keys.counters i =
      some { x with count := x.count + 1, exhausted := x.count + 1 == x.limit } := by
  have hset (y : CtrEntry) : lookup ({ s with keys := { s.keys with counters := insertAt s.keys.counters i y } } : State).keys.counters i =
      some y := lookup_insertAt_same _ i y
  unfold commitUse
  rw [hx]
  dsimp only
  rw [if_neg (Nat.not_le.2 hlim)]
  split
  next =>
    rw [(keeps_notice_unnamed _ _ _ _).keys, (keeps_journal _ _).keys, (keeps_stamp _ _).keys]
    exact hset _
  next => exact hset _

/-! ### A commit beside its effects -/

/-- The command that a commit leaves. -/
def Cmd.committed (c : Cmd) : Cmd := { c with stamped := true, stage := .done, effects := [], commitSeq := none }

/-- What a commit leaves of its command, and of the state on which the effects have acted. -/
structure CommitMade (s t : State) (e : Nat) (c : Cmd) : Prop where
  keeps : Keeps [.so, .outbox, .journal, .pair] (applyEffects (stampCompletion s c).2 c.effects) t
  phs : t.so.phs = (applyEffects (stampCompletion s c).2 c.effects).so.phs
  cmds : t.so.cmds = insertAt (applyEffects (stampCompletion s c).2 c.effects).so.cmds e (stampCompletion s c).1.committed
  replay : c.keepsReplay = true → c.output.length ≤ 4096 →
    ∃ r ∈ t.so.replays, r.slot = c.slot ∧ r.ph = c.ph ∧ r.cmdId = c.d.cmdId ∧ r.output = c.output

/-- A record of at most 4,096 octets of output stays (R606). -/
theorem mem_addReplay (s : State) {r : Replay} (h : r.output.length ≤ 4096) : r ∈ (addReplay s r).so.replays := by
  have hunits : r.units ≤ 64 := by
    unfold Replay.units ceilDiv
    omega
  show r ∈ trimReplays replaySlots replayUnits (r :: s.so.replays)
  have hroom : ¬ ((decide (replaySlots = 0) || decide (replayUnits < r.units)) = true) := by
    unfold replaySlots replayUnits
    simp
    omega
  rw [trimReplays, if_neg hroom]
  exact List.mem_cons_self

theorem commitNow_made (s : State) (e : Nat) (c : Cmd) : CommitMade s (commitNow s e c) e c := by
  unfold commitNow
  dsimp only
  generalize hu : applyEffects (stampCompletion s c).2 c.effects = u
  have hrec : Keeps [.so] u (if c.keepsReplay then addReplay u (replayRecord (stampCompletion s c).1) else u) := by
    split
    next => exact keeps_addReplay u _
    next => exact .refl _ u
  have hrecPhs : (if c.keepsReplay then addReplay u (replayRecord (stampCompletion s c).1) else u).so.phs = u.so.phs := by
    split <;> rfl
  have hrecCmds : (if c.keepsReplay then addReplay u (replayRecord (stampCompletion s c).1) else u).so.cmds = u.so.cmds := by
    split <;> rfl
  have hreplay (hk : c.keepsReplay = true) (hlen : c.output.length ≤ 4096) :
      replayRecord (stampCompletion s c).1 ∈
        (if c.keepsReplay then addReplay u (replayRecord (stampCompletion s c).1) else u).so.replays := by
    rw [if_pos hk]
    exact mem_addReplay u hlen
  have hentry (t : State) (d g : Bool) (x : JEntry) : Keeps [.outbox, .journal, .pair] t
      (if !d then t else if t.pair.mirroring && g then journalHere t x else journal t x) := by
    split
    next => exact .refl _ t
    next =>
      split
      next => exact (keeps_setJournal t _).mono (by decide)
      next => exact keeps_journal t x
  have hjournalled := hentry (if c.keepsReplay then addReplay u (replayRecord (stampCompletion s c).1) else u) c.journalled c.mirrors
    (commandEntry (stampCompletion s c).1.committed)
  have hall := (hrec.comp hjournalled (rs := [.so, .outbox, .journal, .pair])).comp (keeps_setCmd _ e (stampCompletion s c).1.committed)
    (rs := [.so, .outbox, .journal, .pair])
  have hphs := (congrArg Sorting.phs hjournalled.so).trans hrecPhs
  have hcmds := (congrArg Sorting.cmds hjournalled.so).trans hrecCmds
  subst hu
  exact ⟨hall, hphs, congrArg (insertAt · e (stampCompletion s c).1.committed) hcmds, fun hk hlen =>
    ⟨_, hjournalled.so ▸ hreplay hk hlen, rfl, rfl, rfl, rfl⟩⟩

/-- A hand-over that commits at once (R95, R606). -/
theorem handOff_commits {s : State} {src e : Nat} {c : Cmd} (hc : s.cmd e = some c) (hf : wantsFrank c.d = false)
    (hcom : commits c = true) (hcap : c.output.length ≤ c.d.outCap.toNat) (hstall : commitStalls s c = false)
    (hmirror : (s.pair.mirroring && c.mirrors) = false) :
    handOff s src e = commitNow (s.setCmd e c.handedOver) e c.handedOver := by
  have hcom' : commits c.handedOver = true := hcom
  have hstall' : commitStalls (s.setCmd e c.handedOver) c.handedOver = false := hstall
  have hmirror' : ((s.setCmd e c.handedOver).pair.mirroring && c.handedOver.mirrors) = false := hmirror
  simp only [handOff, hc, franks, hf, Bool.false_and, Bool.false_eq_true, if_false, if_neg (Nat.not_lt.2 hcap), gt_iff_lt]
  exact (if_pos hcom').trans ((if_neg (Bool.eq_false_iff.1 hstall')).trans (if_neg (Bool.eq_false_iff.1 hmirror')))

/-! ### The obligation -/

/-- The effect of a commit, carried out. -/
def Effect.done (s t : State) : Effect → Prop
  | .curve i o => lookup t.boot.curves i = some o
  | .rngMode m => t.entropy.condMode = m ∧ ∀ x ∈ t.entropy.insts, x.2.due = true
  | .extCfg v => t.warden.extCfg = v
  | .ctrAlloc i limit gen => lookup t.keys.counters i = some { limit := limit, gen := gen }
  | .ctrUse i => ∀ x, lookup s.keys.counters i = some x → x.count.toNat < x.limit.toNat →
      lookup t.keys.counters i = some { x with count := x.count + 1, exhausted := x.count + 1 == x.limit }
  | .slotCreate n g => SlotIs t n { f := g } ∨ 512 ≤ n
  | .slotResume n => ∀ x, lookup s.slots.table n = some x → lookup t.slots.table n = some { x with state := .active }
  | .slotRestore n g _ _ => ∃ x, lookup t.slots.table n = some x ∧ x.f = g ∧ x.state = .quiesced

theorem applyEffect_done (s : State) (f : Effect) : f.done s (applyEffect s f) := by
  cases f with
  | ctrUse i => exact fun x hx hlim => commitUse_counts hx hlim
  | ctrAlloc i limit gen => exact lookup_insertAt_same _ _ _
  | curve i o => exact lookup_insertAt_same _ _ _
  | rngMode m =>
    refine ⟨rfl, fun x hx => ?_⟩
    obtain ⟨y, -, rfl⟩ := List.mem_map.1 hx
    rfl
  | extCfg v => rfl
  | slotCreate n g =>
    refine (Nat.lt_or_ge n 512).imp (fun hn => ⟨hn, ?_⟩) id
    show lookup (installSlot s n g .active).slots.table n = _
    rw [(keeps_installSlot s n g .active).slots]
    exact lookup_insertAt_same _ _ _
  | slotResume n =>
    intro x hx
    show lookup (resumeSlot s n).slots.table n = _
    rw [(keeps_resumeSlot hx).slots]
    exact lookup_insertAt_same _ _ _
  | slotRestore n g header body =>
    refine ⟨{ f := g, state := .quiesced }, ?_, rfl, rfl⟩
    show lookup (restoreSlot s n g header body).slots.table n = _
    rw [restoreSlot_slots]
    exact lookup_insertAt_same _ _ _

/-- An effect stays carried out while the parts that it acts on stay. -/
theorem Effect.done_congr {s s' t t' : State} {f : Effect} (h : f.done s' t') (hc : s.keys.counters = s'.keys.counters)
    (hs : s.slots = s'.slots) (hk : Keeps [.so, .outbox, .journal, .pair, .pins] t' t) : f.done s t := by
  cases f <;> simpa only [Effect.done, SlotIs, hk.keys, hk.boot, hk.entropy, hk.warden, hk.slots, hc, hs] using h

/-- Settles O55, by the state on which the effects act and the frame of the rest of a commit. -/
theorem commitsTakeEffect : Obligations.CommitsTakeEffect := by
  intro s k a b e c f hrun hfar hwait hcustom hserved hf hseen hcap hchange hok hreplay hstall hmirror heff
  have hex := exec_doneInsn_standard (a := a) (b := b) hrun hfar hwait hcustom hserved hf
  rw [noteResidue_unseen hseen, if_neg (Bool.eq_false_iff.1 hseen)] at hex
  have hturn := (keeps_setCmd s e c).comp (keeps_endTurn _ k.toNat) (rs := [.so, .cores, .arrays, .keys, .entropy])
  have hcounters : (endTurn (s.setCmd e c) k.toNat).keys.counters = s.keys.counters := endTurn_counters ..
  have hcmd : (endTurn (s.setCmd e c) k.toNat).cmd e = some c := (State.cmd_congr (endTurn_so ..) e).trans (State.cmd_setCmd ..)
  generalize endTurn (s.setCmd e c) k.toNat = u at hex hturn hcounters hcmd
  have hcom : commits c = true := by rw [commits, hchange, hok, hreplay]; rfl
  rw [handOff_commits hcmd hf hcom hcap (by rw [commitStalls, hturn.journal]; exact hstall) (by rw [hturn.pair, hmirror]; rfl)] at hex
  have hmade := commitNow_made (u.setCmd e c.handedOver) e c.handedOver
  generalize commitNow (u.setCmd e c.handedOver) e c.handedOver = t at hex hmade
  have hstamp := keeps_stampCompletion (u.setCmd e c.handedOver) c.handedOver
  have hdone : f.done (stampCompletion (u.setCmd e c.handedOver) c.handedOver).2
      (applyEffects (stampCompletion (u.setCmd e c.handedOver) c.handedOver).2 c.handedOver.effects) := by
    rw [show c.handedOver.effects = [f] from heff]
    exact applyEffect_done _ f
  refine ⟨_, hex, ⟨(stampCompletion (u.setCmd e c.handedOver) c.handedOver).1.committed, ?_, rfl, rfl, rfl, rfl, hok⟩,
    hmade.replay, ?_⟩
  case refine_1 =>
    show lookup t.so.cmds e = _
    rw [hmade.cmds]
    exact lookup_insertAt_same _ _ _
  case refine_2 =>
    have := Effect.done_congr hdone (s := s) (t := drivePins t) (by rw [hstamp.keys]; exact hcounters.symm)
      (by rw [hstamp.slots]; exact hturn.slots.symm) (hmade.keeps.comp (only_drivePins (.refl [] t)).1)
    cases f <;> exact this

end Sys2Proof.Machine
end

section
/-! The end of a service that keeps its core, with a commit, with a refusal, and what a service leaves that keeps its core (R95, R97, R115). -/

namespace Sys2Proof.Machine

/-! ### A service that keeps its core -/

/-- A service that keeps its core leaves what its work has reached. -/
theorem holds_of_work {i : Instr} {s b : State} {k w e : Nat} {op : Code} {ch : Bool} {body : Svc Octets} {c c' : Cmd}
    (hx : exec i s = answer (runService s k op ch w body)) (ha : Asked s k op e c)
    (hr : work body s e c = (.error .hold, ⟨b, e, c'⟩)) : exec i s = answer (b.setCmd e c') := by
  obtain ⟨hrun, hop, hcustom, hserved, hlanded⟩ := ha
  rw [hx]
  unfold runService
  unfold work at hr
  simp only [hrun, hop, hcustom, hserved, hlanded, bne_self_eq_false, Bool.not_true, Bool.or_self, Bool.false_eq_true, if_false, hr]

/-! ### Its end -/

theorem heldOver_turn (s : State) (e : Nat) (c : Cmd) : TurnsEnded (s.setCmd e c) (heldOver s e c) := by
  unfold heldOver
  split
  next k _ => exact turnsEnded_endTurn _ k
  next => exact .refl _

/-- A hand-over that neither franks nor commits passes on what it journals at most. -/
theorem handOff_uncommitted {s : State} (src : Nat) {e : Nat} {c : Cmd} (hc : s.cmd e = some c) (hf : franks s c = false)
    (hcom : commits c = false) (hcap : c.output.length ≤ c.d.outCap.toNat) :
    handOff s src e = journalService s e c.handedOver := by
  have hf' : franks s { c with list := none, eligible := false, served := true } = false := hf
  have hcom' : commits c.handedOver = false := hcom
  simp only [handOff, hc, hf', Bool.false_eq_true, if_false, if_neg (Nat.not_lt.2 hcap), gt_iff_lt]
  exact if_neg (Bool.eq_false_iff.1 hcom')

/-- The parts that the end of a held service reaches. -/
abbrev heldParts : List Part := [.free, .outbox, .so, .tb, .journal, .pair, .cores, .arrays, .keys, .entropy, .gates]

/-- What the end of a held service leaves alone: of the keys the result areas and seeds alone differ, no random instance and
no pigeonhole does, and no other command. -/
structure HeldLeaves (s t : State) (e : Nat) : Prop where
  keeps : Keeps heldParts s t
  keys : t.keys = { s.keys with results := t.keys.results, seeds := t.keys.seeds }
  insts : t.entropy.insts = s.entropy.insts
  phs : t.so.phs = s.so.phs
  other : ∀ j, j ≠ e → t.cmd j = s.cmd j

theorem HeldLeaves.refl (s : State) (e : Nat) : HeldLeaves s s e := ⟨.refl _ s, rfl, rfl, rfl, fun _ _ => rfl⟩

theorem heldOver_leaves (s : State) (e : Nat) (c : Cmd) : HeldLeaves s (heldOver s e c) e := by
  have hturn := heldOver_turn s e c
  exact ⟨(keeps_setCmd s e c).comp hturn.keeps, hturn.keys, hturn.insts, (congrArg Sorting.phs hturn.keeps.so).trans rfl,
    fun j hj => (State.cmd_congr hturn.keeps.so j).trans (State.cmd_setCmd_other s c hj)⟩

theorem journalService_leaves (s : State) (e : Nat) (c : Cmd) : HeldLeaves s (journalService s e c) e := by
  have hk := keeps_journalService s e c
  exact ⟨hk.mono (by decide), by rw [hk.keys], by rw [hk.entropy], by rw [journalService_so],
    fun j hj => journalService_cmd_other s c hj⟩

theorem HeldLeaves.trans {s t u : State} {e : Nat} (h : HeldLeaves s t e) (g : HeldLeaves t u e) : HeldLeaves s u e :=
  ⟨h.keeps.trans g.keeps, by rw [g.keys, h.keys], g.insts.trans h.insts, g.phs.trans h.phs,
    fun j hj => (g.other j hj).trans (h.other j hj)⟩

/-- A commit without effects of its own. -/
theorem commitNow_leaves (s : State) (e : Nat) {c : Cmd} (heff : c.effects = []) : HeldLeaves s (commitNow s e c) e := by
  have hmade := commitNow_made s e c
  have hstamp := keeps_stampCompletion s c
  have hnone : applyEffects (stampCompletion s c).2 c.effects = (stampCompletion s c).2 := by
    rw [heff]
    rfl
  have hk := hnone ▸ hmade.keeps
  have hall := hstamp.comp hk (rs := [.free, .tb, .so, .outbox, .journal, .pair])
  refine ⟨hall.mono (by decide), by rw [hall.keys], by rw [hall.entropy], ?_, fun j hj => ?_⟩
  · rw [hmade.phs, hnone]
    rfl
  · show lookup _ j = lookup _ j
    rw [hmade.cmds, hnone, lookup_insertAt_other _ _ _ _ hj]
    rfl

/-- A service that keeps its core ends with a status that commits nothing and without output. -/
theorem finishHeld_refused (s : State) (e : Nat) {st : Code} (hst : frankable st = false) :
    HeldLeaves s (finishHeld s e st []) e := by
  have hok : (st == stOk) = false := by
    simp only [frankable, Bool.or_eq_false_iff] at hst
    exact hst.1.1
  have hend (src : Nat) (c : Cmd) (hstatus : c.status = st) (hout : c.output = []) :
      HeldLeaves s (handOff (heldOver s e c) src e) e := by
    rw [handOff_uncommitted src (heldOver_facts s e c).1 (by rw [franks, hstatus, hst, Bool.and_false]; rfl)
      (by rw [commits, hstatus, hok, Bool.and_false]; rfl) (by rw [hout]; exact Nat.zero_le _)]
    exact (heldOver_leaves s e c).trans (journalService_leaves _ e _)
  have hfinish : finishHeld s e st [] = s ∨ ∃ src c, c.status = st ∧ c.output = [] ∧
      finishHeld s e st [] = handOff (heldOver s e c) src e := by
    unfold finishHeld
    split
    next => exact .inl rfl
    next c _ =>
      dsimp only
      split
      next => exact .inl rfl
      next =>
        refine .inr ⟨(coreOf s e).elim srcSupervisor srcCore, if ([] : Octets).length + trailerLen s c > c.d.outCap.toNat then
          { c with served := true, status := st, output := zeros ([] : Octets).length, stateChanging := false, effects := [] }
          else { c with served := true, status := st, output := [] }, ?_, ?_, ?_⟩
        · split <;> rfl
        · split <;> rfl
        · unfold heldOver
          cases coreOf s e <;> rfl
  obtain heq | ⟨src, c, hstatus, hout, heq⟩ := hfinish
  · rw [heq]
    exact .refl s e
  · rw [heq]
    exact hend src c hstatus hout

/-- Nor does it touch a command that has ended. -/
theorem finishHeld_done {s : State} {e : Nat} {c : Cmd} (hc : s.cmd e = some c) (hst : c.stage = .done) (st : Code) (out : Octets) :
    finishHeld s e st out = s := by
  simp only [finishHeld, hc, hst, if_true]

/-- A service that keeps its core ends with OK and commits at once where it commits at all. -/
theorem finishHeld_here {s : State} {e : Nat} {c : Cmd} (h : HeldHere s e c) :
    Ended (finishHeld s e stOk []) e stOk [] ∧ HeldLeaves s (finishHeld s e stOk []) e := by
  obtain ⟨hc, hst, hf, heff, hwait⟩ := h
  let d : Cmd := { c with served := true, status := stOk, output := [] }
  have hneed : ¬ (([] : Octets).length + trailerLen s c > c.d.outCap.toNat) := by
    rw [trailerLen, hf]
    exact Nat.not_lt.2 (Nat.zero_le _)
  have heq : finishHeld s e stOk [] = handOff (heldOver s e d) ((coreOf s e).elim srcSupervisor srcCore) e := by
    simp only [finishHeld, hc, if_neg hst, if_neg hneed, heldOver]
    cases coreOf s e <;> rfl
  have hover := heldOver_leaves s e d
  have hd := (heldOver_facts s e d).1
  have hkeep := (keeps_setCmd s e d).comp (heldOver_turn s e d).keeps (rs := [.so, .cores, .arrays, .keys, .entropy, .gates])
  rw [heq]
  by_cases hcom : commits d = true
  · have hchange : c.stateChanging = true := by
      simp only [commits, Bool.and_eq_true] at hcom
      exact hcom.1.1
    obtain ⟨hstall, hmirror⟩ := hwait hchange
    have hstall' : commitStalls (heldOver s e d) d = false := by
      rw [commitStalls, hkeep.journal]
      exact hstall
    have hmirror' : ((heldOver s e d).pair.mirroring && d.mirrors) = false := by
      rw [hkeep.pair]
      cases hm : s.pair.mirroring with
      | false => rfl
      | true => exact hmirror hm
    rw [handOff_commits hd hf hcom (Nat.zero_le _) hstall' hmirror']
    have hmade := commitNow_made ((heldOver s e d).setCmd e d.handedOver) e d.handedOver
    have hset : HeldLeaves (heldOver s e d) ((heldOver s e d).setCmd e d.handedOver) e :=
      ⟨(keeps_setCmd _ e _).mono (by decide), rfl, rfl, rfl, fun j hj => State.cmd_setCmd_other _ _ hj⟩
    refine ⟨⟨(stampCompletion ((heldOver s e d).setCmd e d.handedOver) d.handedOver).1.committed, ?_, rfl, rfl, rfl, rfl, rfl⟩,
      (hover.trans hset).trans (commitNow_leaves _ e heff)⟩
    show lookup _ e = _
    rw [hmade.cmds]
    exact lookup_insertAt_same _ _ _
  · rw [handOff_uncommitted _ hd (by rw [franks, show wantsFrank d.d = false from hf]; rfl) (Bool.eq_false_iff.2 hcom) (Nat.zero_le _)]
    exact ⟨journalService_ends _ e rfl rfl, hover.trans (journalService_leaves _ e _)⟩

end Sys2Proof.Machine
end

section
/-! O54: the tenant slot services (R137, R138, R292, R298, R436 to R444, R446 to R453, R604). -/

namespace Sys2Proof.Machine

open Host

/-! ### Steps that the services share -/

section
variable {s : State} {e : Nat} {c : Cmd}

theorem work_inModes (l : List Mode) (s : State) (e : Nat) (c : Cmd) :
    work (inModes l) s e c = (if l.any (fun m => m == s.boot.mode) then .ok () else .error (.fail modeRefused), ⟨s, e, c⟩) := by
  simp only [inModes, work_bind, work_getS, work_need]

theorem inService {s : State} (h : s.boot.mode = .service) : [Mode.service].any (fun m => m == s.boot.mode) = true := by
  rw [h]
  rfl

theorem notInService {s : State} (h : s.boot.mode ≠ .service) : [Mode.service].any (fun m => m == s.boot.mode) = false := by
  simp [Ne.symm h]

theorem work_namedSlot {n : Nat} {x : Slot} (h : SlotIs s n x) : work (namedSlot n) s e c = (.ok x, ⟨s, e, c⟩) := by
  simp only [namedSlot, work_bind, work_getS, h.2, if_pos h.1, work_pure]

/-- The steps 4 to 6 of R440, with the first that fails. -/
theorem work_takeSlot_exhausted {n : Nat} {f : SlotFields} (hpool : takeFromPools s f = none) :
    work (takeSlot n f) s e c = (.error (.fail slotPoolExhausted), ⟨s, e, c⟩) := by
  simp only [takeSlot, work_bind, work_get, hpool, work_fail]

theorem work_takeSlot_arms {n : Nat} {f g : SlotFields} (hpool : takeFromPools s f = some g) (harm : slotArmFails s e g = true) :
    work (takeSlot n f) s e c = (.error (.fail badField), ⟨s, e, c⟩) := by
  simp only [takeSlot, work_bind, work_get, hpool, work_pure, work_need, harm, Bool.not_true, Bool.false_eq_true, if_false]

theorem work_takeSlot_failed {n : Nat} {f g : SlotFields} (hpool : takeFromPools s f = some g) (harm : slotArmFails s e g = false)
    (hfail : s.entropy.failed = true) : work (takeSlot n f) s e c = (.error (.fail entropyFailed), ⟨s, e, c⟩) := by
  simp only [takeSlot, work_bind, work_get, hpool, work_pure, work_need, harm, hfail, Bool.not_true, Bool.not_false,
    Bool.false_eq_true, if_false, if_true]

theorem work_takeSlot {n : Nat} {f g : SlotFields} (hpool : takeFromPools s f = some g) (harm : slotArmFails s e g = false)
    (hok : s.entropy.failed = false) (hcan : canInstantiate s = true) (hfits : Fits s c 16) :
    work (takeSlot n f) s e c = (.ok g, ⟨instantiate s (24 + n) g.tenant.toNat, e, c⟩) := by
  simp only [takeSlot, work_bind, work_get, hpool, work_pure, work_need, harm, hok, hcan, Bool.not_true, Bool.not_false,
    Bool.false_eq_true, if_false, if_true, work_capacity_fits hfits, work_modS]

end

/-! ### SLOT_CREATE (R440, R441) -/

/-- The ranges that step 1 of R440 checks. -/
def createInRange (s : State) (i : Octets) : Bool :=
  slotRangesOk s (u16 i 0) (createFields i) (u8 i 5) && decide (u16 i 2 ≠ 0xFFFF) && decide (u8 i 4 < 16) && zeroAt i 11 1 &&
    zeroAt i 0x14 44

theorem createInRange_iff (s : State) (i : Octets) : createInRange s i = true ↔
    slotRangesOk s (u16 i 0) (createFields i) (u8 i 5) = true ∧ u16 i 2 ≠ 0xFFFF ∧ u8 i 4 < 16 ∧ zeroAt i 11 1 = true ∧
      zeroAt i 0x14 44 = true := by
  simp only [createInRange, Bool.and_eq_true, decide_eq_true_eq, and_assoc]

theorem svcSlotCreate_eq : svcSlotCreate = (do
    inModes [.service]
    let i ← getIn
    let st ← getS
    need (createInRange st i) badField
    need (!slotTaken st (u16 i 0) (createFields i)) policyDenied
    need (drInstalled st (createFields i).domain.toNat) keyNotFound
    let g ← takeSlot (u16 i 0) (createFields i)
    modC (fun c => { c with effects := c.effects ++ [Effect.slotCreate (u16 i 0) g] })
    pure (slotOutput g (maskOfPolicy st (u8 i 5)))) := rfl

theorem slotsAreCreated : Claims.SlotsAreCreated := by
  intro s k e c
  dsimp only
  intro hask
  simp only [← createInRange_iff]
  have hfails {st : Code} (h : work svcSlotCreate s e c = (.error (.fail st), ⟨s, e, c⟩)) : Fails (.slotCreate k) s s e c st :=
    answers_fail rfl hask.1 h
  refine ⟨fun hmode => hfails ?_, fun hmode => ?_⟩
  · simp only [svcSlotCreate_eq, work_bind, work_inModes, notInService hmode, Bool.false_eq_true, if_false]
  have hmode' := inService hmode
  have hupto (h1 : createInRange s c.input = true) (h2 : slotTaken s (u16 c.input 0) (createFields c.input) = false)
      (h3 : drInstalled s (createFields c.input).domain.toNat = true) {r : Stop} {v : Sv}
      (h : work (takeSlot (u16 c.input 0) (createFields c.input)) s e c = (.error r, v)) :
      work svcSlotCreate s e c = (.error r, v) := by
    simp only [svcSlotCreate_eq, work_bind, work_inModes, hmode', if_true, work_getIn, work_getS, work_need, h1, h2, h3,
      Bool.not_false, h]
  refine ⟨fun h1 => hfails ?_, fun h1 h2 => hfails ?_, fun h1 h2 h3 => hfails ?_, fun h1 h2 h3 hpool => hfails ?_,
    fun g h1 h2 h3 hpool => ⟨fun harm => hfails ?_, fun harm => ⟨fun hfail => hfails ?_, fun hok hcan hfits => ?_⟩⟩⟩
  · simp only [svcSlotCreate_eq, work_bind, work_inModes, hmode', if_true, work_getIn, work_getS, work_need, if_neg h1]
  · simp only [svcSlotCreate_eq, work_bind, work_inModes, hmode', if_true, work_getIn, work_getS, work_need, h1,
      eq_true_of_ne_false h2, Bool.not_true, Bool.false_eq_true, if_false]
  · simp only [svcSlotCreate_eq, work_bind, work_inModes, hmode', if_true, work_getIn, work_getS, work_need, h1, h2, if_neg h3,
      Bool.not_false]
  · exact hupto h1 h2 h3 (work_takeSlot_exhausted hpool)
  · exact hupto h1 h2 h3 (work_takeSlot_arms hpool harm)
  · exact hupto h1 h2 h3 (work_takeSlot_failed hpool harm hfail)
  · refine serves_of_work rfl hask.1 ?_ rfl
    simp only [svcSlotCreate_eq, work_bind, work_inModes, hmode', if_true, work_getIn, work_getS, work_need, h1, h2, h3,
      Bool.not_false, work_takeSlot hpool harm hok hcan hfits, work_modC, work_pure]
    rfl

/-! ### SLOT_RESTORE (R452, R453) -/

/-- The fields that step 1 of R452 checks. -/
def restoreInRange (s : State) (i : Octets) : Bool :=
  let head := slice i 64 128
  slotRangesOk s (u16 i 0) (restoreFields i) (u8 i 2) && zeroAt i 7 1 && zeroAt i 12 52 && u32 head 0 == 0x51075A7E && u16 head 4 == 1 &&
    zeroAt head 6 2 && zeroAt head 0x64 28 && decide (u16 head 0x0C ≠ 0xFFFF) && decide (u8 head 0x0E < 16)

theorem restoreInRange_iff (s : State) (i : Octets) : restoreInRange s i = true ↔
    slotRangesOk s (u16 i 0) (restoreFields i) (u8 i 2) = true ∧ zeroAt i 7 1 = true ∧ zeroAt i 12 52 = true ∧
      u32 (slice i 64 128) 0 = 0x51075A7E ∧ u16 (slice i 64 128) 4 = 1 ∧ zeroAt (slice i 64 128) 6 2 = true ∧
      zeroAt (slice i 64 128) 0x64 28 = true ∧ u16 (slice i 64 128) 0x0C ≠ 0xFFFF ∧ u8 (slice i 64 128) 0x0E < 16 := by
  simp only [restoreInRange, Bool.and_eq_true, decide_eq_true_eq, beq_iff_eq, and_assoc]

/-- The lengths that step 2 of R452 checks. -/
def restoreLengths (i : Octets) : Bool :=
  let len := blobBodyLen (restoreFields i).phCount (restoreFields i).ctrCount
  decide (u32 (slice i 64 128) 0x60 = len ∧ u32 (slice i 64 128) 8 = 128 + len + 16 ∧ i.length = 64 + 128 + len + 16)

/-- The blob's body and its tag, deciphered under a domain root (R450). -/
def restoreBody (i : Octets) (r : DomainRoot) : Octets × Octets :=
  let head := slice i 64 128
  let f := restoreFields i
  gcmDec (blobKey r.root f.tenant.toNat f.domain.toNat (slice head 0x40 32)) (gcmJ0 (zeros 12)) head
    (slice i 192 (blobBodyLen f.phCount f.ctrCount))

/-- The versions in the pigeonhole records of a body that a slot's policy admits (R452). -/
def restoreAdmits (s : State) (i body : Octets) : Bool :=
  (List.range (restoreFields i).phCount).all (fun j =>
    let v := (Ph.ofRecord (slice body (0x480 + 64 * j) 64)).version.toNat
    v == 0 || (maskOfPolicy s (u8 i 2)).testBit v)

theorem svcSlotRestore_eq : svcSlotRestore = (do
    inModes [.service]
    let i ← getIn
    let st ← getS
    need (restoreInRange st i) badField
    need (restoreLengths i) badLength
    need (!slotTaken st (u16 i 0) (restoreFields i)) policyDenied
    let r ← (match lookup st.warden.roots (restoreFields i).domain.toNat with | some r => pure r | none => fail keyNotFound)
    need (fit 8 r.check == slice (slice i 64 128) 0x10 8) keyDomainMismatch
    need ((restoreBody i r).2 == slice i (192 + blobBodyLen (restoreFields i).phCount (restoreFields i).ctrCount) 16) authFailed
    need (restoreAdmits st i (restoreBody i r).1) badVersion
    let g ← takeSlot (u16 i 0) (restoreFields i)
    modC (fun c => { c with effects := c.effects ++ [Effect.slotRestore (u16 i 0) g (slice i 64 128) (restoreBody i r).1] })
    pure (slotOutput g (maskOfPolicy st (u8 i 2)))) := rfl

theorem slotsAreRestored : Claims.SlotsAreRestored := by
  intro s k e c g r
  dsimp only
  intro hask hmode
  simp only [← restoreInRange_iff]
  have hlens : (u32 (slice c.input 64 128) 0x60 = blobBodyLen (restoreFields c.input).phCount (restoreFields c.input).ctrCount ∧
      u32 (slice c.input 64 128) 8 = 128 + blobBodyLen (restoreFields c.input).phCount (restoreFields c.input).ctrCount + 16 ∧
      c.input.length = 64 + 128 + blobBodyLen (restoreFields c.input).phCount (restoreFields c.input).ctrCount + 16) ↔
      restoreLengths c.input = true := decide_eq_true_iff.symm
  have hadmits : (∀ j, j < (restoreFields c.input).phCount →
      (Ph.ofRecord (slice (restoreBody c.input r).1 (0x480 + 64 * j) 64)).version = 0 ∨
        (maskOfPolicy s (u8 c.input 2)).testBit
          (Ph.ofRecord (slice (restoreBody c.input r).1 (0x480 + 64 * j) 64)).version.toNat = true) ↔
      restoreAdmits s c.input (restoreBody c.input r).1 = true := by
    simp only [restoreAdmits, List.all_eq_true, List.mem_range, Bool.or_eq_true, beq_iff_eq, ← BitVec.toNat_inj]
    rfl
  have hmode' := inService hmode
  have hfails {st : Code} (h : work svcSlotRestore s e c = (.error (.fail st), ⟨s, e, c⟩)) : Fails (.slotRestore k) s s e c st :=
    answers_fail rfl hask.1 h
  refine ⟨fun h1 => hfails ?_, fun h1 h2 => hfails ?_, fun h1 h2 h3 => hfails ?_, fun h1 h2 h3 hr => hfails ?_,
    fun h1 h2 h3 hr => ⟨fun hkcv => hfails ?_, fun hkcv => ⟨fun htag => hfails ?_, fun htag => ⟨fun h4 => hfails ?_,
      fun h4 hpool harm hok hcan hfits => ?_⟩⟩⟩⟩
  · simp only [svcSlotRestore_eq, work_bind, work_inModes, hmode', if_true, work_getIn, work_getS, work_need, if_neg h1]
  · simp only [svcSlotRestore_eq, work_bind, work_inModes, hmode', if_true, work_getIn, work_getS, work_need, h1,
      if_neg (mt hlens.2 h2)]
  · simp only [svcSlotRestore_eq, work_bind, work_inModes, hmode', if_true, work_getIn, work_getS, work_need, h1, hlens.1 h2,
      eq_true_of_ne_false h3, Bool.not_true, Bool.false_eq_true, if_false]
  · simp only [svcSlotRestore_eq, work_bind, work_inModes, hmode', if_true, work_getIn, work_getS, work_need, h1, hlens.1 h2, h3,
      Bool.not_false, hr, work_fail]
  · simp only [svcSlotRestore_eq, work_bind, work_inModes, hmode', if_true, work_getIn, work_getS, work_need, h1, hlens.1 h2, h3,
      Bool.not_false, hr, work_pure, beq_eq_false_iff_ne.2 hkcv, Bool.false_eq_true, if_false]
  all_goals have hkcv' := beq_iff_eq.2 hkcv
  · have htag' : ((restoreBody c.input r).2 ==
        slice c.input (192 + blobBodyLen (restoreFields c.input).phCount (restoreFields c.input).ctrCount) 16) = false :=
      beq_eq_false_iff_ne.2 htag
    simp only [svcSlotRestore_eq, work_bind, work_inModes, hmode', if_true, work_getIn, work_getS, work_need, h1, hlens.1 h2, h3,
      Bool.not_false, hr, work_pure, hkcv', htag', Bool.false_eq_true, if_false]
  all_goals have htag' : ((restoreBody c.input r).2 ==
      slice c.input (192 + blobBodyLen (restoreFields c.input).phCount (restoreFields c.input).ctrCount) 16) = true :=
    beq_iff_eq.2 htag
  · simp only [svcSlotRestore_eq, work_bind, work_inModes, hmode', if_true, work_getIn, work_getS, work_need, h1, hlens.1 h2, h3,
      Bool.not_false, hr, work_pure, hkcv', htag', if_neg (mt hadmits.2 h4)]
  · refine serves_of_work rfl hask.1 ?_ rfl
    simp only [svcSlotRestore_eq, work_bind, work_inModes, hmode', if_true, work_getIn, work_getS, work_need, h1, hlens.1 h2, h3,
      Bool.not_false, hr, work_pure, hkcv', htag', hadmits.1 h4, work_takeSlot hpool harm hok hcan hfits, work_modC]
    rfl

/-! ### SLOT_RESUME (R443) -/

theorem slotsResume : Claims.SlotsResume := by
  intro s k e n c x hask hmode hn hslot hfits
  subst hn
  refine ⟨fun h => serves_of_work rfl hask.1 ?_ rfl, fun h => serves_of_work rfl hask.1 ?_ rfl,
    fun h => answers_fail rfl hask.1 ?_, fun h => answers_fail rfl hask.1 ?_⟩
  all_goals
    simp only [svcSlotResume, work_bind, work_inModes, inService hmode, if_true, work_getC, work_namedSlot hslot,
      work_capacity_fits hfits, h, work_modC, work_pure, work_fail]

/-! ### DIRTY_LOG (R446, R447) -/

/-- An action of DIRTY_LOG on a slot that is not being destroyed, once its own fields are good. -/
theorem work_dirty {s : State} {e a : Nat} {c : Cmd} {x : Slot} (hmode : s.boot.mode = .service) (hslot : SlotIs s (u16 c.input 0) x)
    (hlive : x.state ≠ .destroying) (hz : zeroAt c.input 3 1 = true) (hzz : zeroAt c.input 0x20 32 = true)
    (hfits : Fits s c 16) (ha : u8 c.input 2 = a) (hrange : 1 ≤ a ∧ a ≤ 3)
    (hfields : (if a = 1 then decide (1 ≤ u32 c.input 4 ∧ u32 c.input 4 ≤ 2 ^ 28) &&
      [8, 16, 24].all (fun o => decide (u64 c.input o % 4096 = 0)) else zeroAt c.input 4 28) = true)
    (body : Octets → Nat → Slot → Svc Octets) : work (svcDirty body) s e c =
      if (x.dirtyEn == decide (a ≠ 1)) = true then work (body c.input (u16 c.input 0) x) s e c
      else (.error (.fail badField), ⟨s, e, c⟩) := by
  have hcommon : (decide (1 ≤ a ∧ a ≤ 3) && zeroAt c.input 3 1 && zeroAt c.input 0x20 32) = true := by
    rw [decide_eq_true hrange, hz, hzz]
    rfl
  have hlive' : decide (x.state ≠ .destroying) = true := decide_eq_true hlive
  by_cases h1 : a = 1
  · rw [if_pos h1] at hfields
    simp only [svcDirty, work_bind, work_inModes, inService hmode, if_true, work_getIn, ha, work_need, hcommon,
      work_namedSlot hslot, if_pos h1, hfields, hlive']
    cases x.dirtyEn == decide (a ≠ 1) with
    | false => rfl
    | true => simp only [if_true, work_capacity_fits hfits]
  · rw [if_neg h1] at hfields
    simp only [svcDirty, work_bind, work_inModes, inService hmode, if_true, work_getIn, ha, work_need, hcommon,
      work_namedSlot hslot, if_neg h1, hfields, hlive']
    cases x.dirtyEn == decide (a ≠ 1) with
    | false => rfl
    | true => simp only [if_true, work_capacity_fits hfits]

theorem runDirty_covered {s : State} {k e : Nat} {c : Cmd} {covers : Nat → Bool} {body : Octets → Nat → Slot → Svc Octets}
    (hrun : running s k = some (e, c)) (hcov : covers (u8 c.input 2) = true) :
    runDirty s k covers body = runService s k 0x8076 false defaultWait (svcDirty body) := by
  simp only [runDirty, hrun, hcov, Bool.not_true, Bool.false_eq_true, if_false]

theorem dirtyLogs : Claims.DirtyLogs := by
  intro s k e n c x
  dsimp only
  intro hask hmode hn hslot hlive hz hzz hfits
  subst hn
  have hrun := hask.1.1
  refine ⟨fun ha h1 h2 h3 h4 h5 => ?_, fun ha h1 => ?_, fun ha h1 => ?_⟩
  · have hx : exec (.logEnable k) s = answer (runService s k.toNat 0x8076 false defaultWait (svcDirty svcLogEnable)) :=
      congrArg answer (runDirty_covered hrun (by rw [ha]; rfl))
    have hwork := work_dirty (s := s) (e := e) (c := c) hmode hslot hlive hz hzz hfits ha (by omega) (by
      simp [h1, h3, h4, h5]
      exact h2) svcLogEnable
    refine ⟨fun hen => answers_fail hx hask.1 ?_, fun hen => serves_of_work hx hask.1 ?_ rfl⟩
    · rw [hen] at hwork
      exact hwork.trans rfl
    · rw [hen] at hwork
      exact hwork.trans rfl
  · have hx : exec (.harvest k) s = answer (runService s k.toNat 0x8076 false defaultWait (svcDirty svcHarvest)) :=
      congrArg answer (runDirty_covered hrun (by rw [ha]; rfl))
    have hwork := work_dirty (s := s) (e := e) (c := c) hmode hslot hlive hz hzz hfits ha (by omega) (by
      simp [h1]) svcHarvest
    refine ⟨fun hen => answers_fail hx hask.1 ?_, fun hen => serves_of_work hx hask.1 ?_ rfl⟩
    · rw [hen] at hwork
      exact hwork.trans rfl
    · rw [hen] at hwork
      exact hwork.trans rfl
  · have hx : exec (.logDisable k) s = answer (runService s k.toNat 0x8076 false defaultWait (svcDirty svcLogDisable)) :=
      congrArg answer (runDirty_covered hrun (by rw [ha]; rfl))
    have hwork := work_dirty (s := s) (e := e) (c := c) hmode hslot hlive hz hzz hfits ha (by omega) (by
      simp [h1]) svcLogDisable
    refine ⟨fun hen => answers_fail hx hask.1 ?_, fun hen => serves_of_work hx hask.1 ?_ rfl⟩
    · rw [hen] at hwork
      exact hwork.trans rfl
    · rw [hen] at hwork
      exact hwork.trans rfl

/-! ### SLOT_SAVE (R449 to R451) -/

theorem slotsAreSaved : Claims.SlotsAreSaved := by
  intro s k e n c x hask hmode hn hslot c'
  subst hn
  refine ⟨fun h => answers_fail rfl hask.1 ?_, fun h => answers_fail rfl hask.1 ?_, fun h => answers_fail rfl hask.1 ?_,
    fun h hfits hdraw => serves_of_work rfl hask.1 ?_ rfl⟩
  case refine_4 =>
    have hfits' : Fits s c' (144 + blobBodyLen x.f.phCount x.f.ctrCount) := hfits
    have hrandom := work_random 32 s e c' hdraw.1 hdraw.2
    have hd : generate s (instOf c'.slot c'.idx) 32 false = drawn s c 32 := rfl
    rw [hd] at hrandom
    have hw : (stamp (drawn s c 32).2 srcSupervisor).2.warden = s.warden := by
      rw [(keeps_stamp _ _).warden, drawn_pos (by decide), (keeps_generate s (instOf c.slot c.idx) 32 false []).warden]
    generalize drawn s c 32 = d at hrandom hw ⊢
    simp only [svcSlotSave, work_bind, journalled, work_modC, work_inModes, inService hmode, if_true, work_getC]
    rw [work_namedSlot (c := c') hslot]
    dsimp only
    rw [h]
    dsimp only
    simp only [work_bind]
    rw [work_capacity_fits (c := c') hfits']
    dsimp only
    rw [hrandom]
    dsimp only
    simp only [work_get, work_set, work_pure, hw]
  all_goals
    simp only [svcSlotSave, work_bind, journalled, work_modC, work_inModes, inService hmode, if_true, work_getC,
      work_namedSlot hslot, h, work_fail]
    rfl

/-! ### COUNTER_READ and the slot table window (R292, R298, R437) -/

/-- The first word of a slot's window: its state and its logging flags (R437). -/
def stateWord (x : Slot) : Nat :=
  1 + 2 * x.state.code + (if x.dirtyEn then 2 ^ 3 else 0) + (if x.dirtySel then 2 ^ 4 else 0) + (if x.dirtyOvf then 2 ^ 5 else 0)

/-- The words between its tenant word and the count of its commands. -/
def middleWords (s : State) (n : Nat) (f : SlotFields) : Octets :=
  le 4 (f.phBase + 2 ^ 12 * f.phCount + 2 ^ 19 * f.maxPrio) ++ le 4 (f.weight + 2 ^ 8 * f.dataLog2) ++ le 4 f.dataBase ++
    le 4 f.cacheShare ++ le 4 (s.keys.cache.filter (fun e => e.slot == n)).length ++ le 4 f.ctrBase ++ le 4 f.ctrCount ++
    le 4 (s.keys.counters.filter (fun e => decide (f.ctrBase ≤ e.1 ∧ e.1 < f.ctrBase + f.ctrCount))).length

theorem slotWords_eq {s : State} {n : Nat} {x : Slot} (h : SlotIs s n x) : slotWords s n =
    le 4 (stateWord x) ++ (le 4 (x.f.tenant.toNat + 2 ^ 16 * x.f.domain.toNat + 2 ^ 20 * x.f.policyId.toNat) ++
      (middleWords s n x.f ++ le 4 (s.so.cmds.filter (fun c => c.2.slot == n)).length)) := by
  unfold slotWords
  rw [if_pos h.1, h.2]
  simp only [middleWords, stateWord, List.append_assoc]

theorem middleWords_length (s : State) (n : Nat) (f : SlotFields) : (middleWords s n f).length = 32 := by
  simp only [middleWords, List.length_append, le_length]

theorem stateWord_facts (x : Slot) : stateWord x < 2 ^ 32 ∧ stateWord x % 2 = 1 ∧ stateWord x / 2 % 4 = x.state.code := by
  have hcode : x.state.code < 4 := by cases x.state <;> decide
  unfold stateWord
  split <;> split <;> split <;> omega

/-- What a slot's window shows of it (R437). -/
theorem slotWords_shows {s : State} {n : Nat} {x : Slot} (h : SlotIs s n x) : u16 (slotWords s n) 4 = x.f.tenant.toNat ∧
    u32 (slotWords s n) 0 = stateWord x ∧
    u32 (slotWords s n) 40 = (s.so.cmds.filter (fun y => y.2.slot == n)).length % 2 ^ 32 := by
  rw [slotWords_eq h]
  refine ⟨?_, ?_, ?_⟩
  · have hsplit (v : Nat) : le 4 v = le 2 v ++ le 2 (v / 256 / 256) := rfl
    have htenant := x.f.tenant.isLt
    rw [u16, hsplit (_ + _), List.append_assoc, slice_field _ (le_length ..) (le_length ..), leNat_le]
    omega
  · rw [u32, slice_first _ (le_length ..), leNat_le]
    exact Nat.mod_eq_of_lt (stateWord_facts x).1
  · rw [u32, ← List.append_assoc, ← List.append_assoc, slice_last (by simp [middleWords_length, le_length]) (le_length ..), leNat_le]

theorem slotReads : Claims.SlotReads := by
  intro s k e c b v
  refine ⟨fun hask x hslot => ⟨fun hout => answers_fail rfl hask.1 ?_, fun hin hfits => ?_⟩, ?_⟩
  · simp only [svcCounterRead, work_bind, work_getC, work_getS, work_namedSlot hslot, work_need, decide_eq_false (Nat.not_lt.2 hout),
      Bool.false_eq_true, if_false]
  · have hserves : Serves (.counterRead k) s s e c (ctrOctets (lookup s.keys.counters (x.f.ctrBase + u16 c.d.params 2))) := by
      refine serves_of_work rfl hask.1 ?_ rfl
      simp only [svcCounterRead, work_bind, work_getC, work_getS, work_namedSlot hslot, work_need, decide_eq_true hin, if_true,
        work_capacity_fits hfits, work_pure]
    refine ⟨fun hnone => ?_, fun y hy => ?_⟩
    · rw [hnone] at hserves
      exact hserves
    · rw [hy] at hserves
      exact hserves
  · have hport (p : Port) : (drivePins (s.setPort b p)).port b = p := by cases b <;> rfl
    refine ⟨_, rfl, only_drivePins (keeps_setPort s b _), by rw [hport], fun hno => ?_, fun x hslot => ?_⟩
    · rw [hport]
      show slotWords s v.toNat = zeros 44
      unfold slotWords
      obtain hbig | hnone := hno
      · rw [if_neg (Nat.not_lt.2 hbig)]
      · rw [hnone, ite_self]
    · rw [hport]
      obtain ⟨htenant, hstate, hcount⟩ := slotWords_shows hslot
      obtain ⟨-, hone, hcode⟩ := stateWord_facts x
      exact ⟨htenant, (congrArg (· % 2) hstate).trans hone, (congrArg (· / 2 % 4) hstate).trans hcode, hcount⟩

/-! ### Pigeonholes of a slot, one after another -/

/-- The module with every pigeonhole of a list changed in the same way. -/
def mapPhs (g : Ph → Ph) (s : State) (l : List Nat) : State := l.foldl (fun s n => s.setPh n (g (s.ph n))) s

theorem keeps_mapPhs (g : Ph → Ph) (s : State) (l : List Nat) : Keeps [.so] s (mapPhs g s l) :=
  .foldl (fun t n => keeps_setPh t n _) l s

theorem mapPhs_cmds (g : Ph → Ph) (s : State) (l : List Nat) : (mapPhs g s l).so.cmds = s.so.cmds := by
  induction l generalizing s with
  | nil => rfl
  | cons n l ih => exact ih _

theorem mapPhs_other (g : Ph → Ph) (s : State) {l : List Nat} {m : Nat} (h : m ∉ l) : (mapPhs g s l).ph m = s.ph m := by
  induction l generalizing s with
  | nil => rfl
  | cons n l ih =>
    exact (ih _ (List.not_mem_of_not_mem_cons h)).trans (State.ph_setPh_other _ _ (List.ne_of_not_mem_cons h))

theorem mapPhs_mem (g : Ph → Ph) (s : State) {l : List Nat} {m : Nat} (hl : l.Nodup) (h : m ∈ l) :
    (mapPhs g s l).ph m = g (s.ph m) := by
  induction l generalizing s with
  | nil => cases h
  | cons n l ih =>
    obtain ⟨hn, hl'⟩ := List.nodup_cons.1 hl
    obtain rfl | hm := List.mem_cons.1 h
    · exact (mapPhs_other g _ hn).trans (State.ph_setPh _ _ _)
    · have hmn : m ≠ n := fun heq => hn (heq ▸ hm)
      exact (ih _ hl' hm).trans (congrArg g (State.ph_setPh_other _ _ hmn))

theorem slotPhs_nodup {s : State} {n : Nat} {x : Slot} (h : SlotIs s n x) : (slotPhs s n).Nodup := by
  rw [slotPhs, if_neg (Nat.not_le.2 h.1), h.2]
  exact List.nodup_range.map (fun a b => Nat.add_left_cancel)

/-! ### SLOT_QUIESCE (R442) -/

/-- A pigeonhole of a slot that quiesces. -/
def Ph.quieted (p : Ph) : Ph :=
  if p.state = .ready ∨ p.state = .opened ∨ p.state = .closing then
    { p with credits := 0, state := .quiesced, resume := if p.state = .opened then .opened else .ready, recTail := none, recHead := none }
  else { p with credits := 0 }

theorem quiescePh_eq (s : State) (n : Nat) : quiescePh s n = s.setPh n (s.ph n).quieted := by
  unfold quiescePh Ph.quieted
  cases h : (s.ph n).state <;> simp [h]

/-- An ACTIVE slot as SLOT_QUIESCE leaves it. -/
def quiesced (s : State) (n e : Nat) (x : Slot) : State :=
  mapPhs Ph.quieted (s.setSlot n { x with state := .quiescing, quiesceBy := some e }) (slotPhs s n)

theorem foldl_quiescePh (l : List Nat) (s : State) : l.foldl quiescePh s = mapPhs Ph.quieted s l := by
  rw [mapPhs, show quiescePh = fun s n => s.setPh n (s.ph n).quieted from funext fun s => funext fun n => quiescePh_eq s n]

theorem exec_quiesceDrainEnd {s : State} {n : Nat} {x : Slot} (h : SlotIs s n x) : exec (.quiesceDrainEnd n) s = answer (
    if x.state ≠ .quiescing || slotBusy s n then s
    else x.quiesceBy.elim (s.setSlot n { x with state := .quiesced, quiesceBy := none })
      (fun e => finishHeld (s.setSlot n { x with state := .quiesced, quiesceBy := none }) e stOk [])) := by
  refine congrArg answer ?_
  rw [h.2]
  dsimp only
  cases x.quiesceBy <;> rfl

theorem slotBusy_iff (s : State) (n : Nat) : slotBusy s n = true ↔ ∃ y ∈ s.so.cmds, y.2.slot = n := by
  simp only [slotBusy, List.any_eq_true, beq_iff_eq]

theorem HeldHere.congr {s t : State} {e : Nat} {c : Cmd} (h : HeldHere s e c) (hc : t.cmd e = s.cmd e)
    (hj : t.journal = s.journal) (hp : t.pair = s.pair) : HeldHere t e c := by
  obtain ⟨hcmd, hst, hf, heff, hwait⟩ := h
  exact ⟨hc.trans hcmd, hst, hf, heff, fun hch => ⟨by rw [commitStalls, hj]; exact (hwait hch).1, by rw [hp]; exact (hwait hch).2⟩⟩

theorem setSlot_slotIs (s : State) {n : Nat} (x : Slot) (h : n < 512) : SlotIs (s.setSlot n x) n x :=
  ⟨h, lookup_insertAt_same _ _ _⟩

theorem slotsQuiesce : Claims.SlotsQuiesce := by
  intro s k e n c x hslot
  have hex := exec_quiesceDrainEnd hslot
  have hfree (hnone : ∀ y ∈ s.so.cmds, y.2.slot ≠ n) : slotBusy s n = false := by
    rw [← Bool.not_eq_true, slotBusy_iff]
    exact fun ⟨y, hy, hys⟩ => hnone y hy hys
  refine ⟨fun hask hmode hn => ⟨fun hact hfits => ?_, fun hq hby => answers_fail rfl hask.1 ?_,
    fun hdes => answers_fail rfl hask.1 ?_⟩, fun hq hnone => ⟨fun hby => ?_, fun hby hheld => ?_⟩, fun hno => ?_⟩
  · subst hn
    have hex := holds_of_work (i := .slotQuiesce k) rfl hask.1 (b := quiesced s (u16 c.d.params 0) e x) (c' := c) (by
      simp only [svcSlotQuiesce, work_bind, work_inModes, inService hmode, if_true, work_get, work_namedSlot hslot, hact,
        work_capacity_fits hfits, work_modS, work_throw, foldl_quiescePh]
      rfl)
    have hkeep : Keeps [.so, .slots] s ((quiesced s (u16 c.d.params 0) e x).setCmd e c) :=
      ((keeps_setSlot s _ _).comp (keeps_mapPhs _ _ _) (rs := [.so, .slots])).comp (keeps_setCmd _ _ _)
    have hslots : (quiesced s (u16 c.d.params 0) e x).slots =
        (s.setSlot (u16 c.d.params 0) { x with state := .quiescing, quiesceBy := some e }).slots := (keeps_mapPhs _ _ _).slots
    refine ⟨_, hex, only_drivePins hkeep, State.cmd_setCmd _ _ _, congrArg (insertAt · e c) (mapPhs_cmds _ _ _), ⟨hslot.1, ?_⟩,
      fun m hm => mapPhs_other _ _ hm, fun m hm => mapPhs_mem _ _ (slotPhs_nodup hslot) hm⟩
    show lookup (quiesced s (u16 c.d.params 0) e x).slots.table _ = _
    rw [hslots]
    exact lookup_insertAt_same _ _ _
  · subst hn
    have hwork (hstate : x.state = .quiescing ∨ x.state = .quiesced) : work svcSlotQuiesce s e c = (.error (.fail slotQuiesced), ⟨s, e, c⟩) := by
      obtain h | h := hstate
      all_goals
        simp only [svcSlotQuiesce, work_bind, work_inModes, inService hmode, if_true, work_get, work_namedSlot hslot, h,
          if_neg hby, work_fail]
    exact hwork hq
  · subst hn
    simp only [svcSlotQuiesce, work_bind, work_inModes, inService hmode, if_true, work_get, work_namedSlot hslot, hdes, work_fail]
  · rw [hq, hfree hnone, hby] at hex
    exact hex
  · rw [hq, hfree hnone, hby] at hex
    have hset := keeps_setSlot s n { x with state := .quiesced, quiesceBy := none }
    obtain ⟨hend, hleaves⟩ := finishHeld_here (hheld.congr (t := s.setSlot n { x with state := .quiesced, quiesceBy := none }) rfl rfl rfl)
    refine ⟨_, hex, ⟨hslot.1, ?_⟩, hend⟩
    show lookup (finishHeld _ e stOk []).slots.table n = _
    rw [hleaves.keeps.slots]
    exact lookup_insertAt_same _ _ _
  · refine hex.trans (congrArg answer (if_pos ?_))
    obtain hstate | hbusy := hno
    · simp [hstate]
    · rw [(slotBusy_iff s n).2 hbusy, Bool.or_true]

/-! ### Commands that are not dispatched (R138) -/

theorem mem_placedOrder_ins (x y : Nat × Cmd) (l : List (Nat × Cmd)) : y ∈ placedOrder.ins x l ↔ y = x ∨ y ∈ l := by
  induction l with
  | nil => simp [placedOrder.ins]
  | cons z l ih =>
    unfold placedOrder.ins
    dsimp only
    split
    next => simp
    next => simp only [List.mem_cons, ih, or_left_comm]

theorem mem_placedOrder (y : Nat × Cmd) (l : List (Nat × Cmd)) : y ∈ placedOrder l ↔ y ∈ l := by
  induction l with
  | nil => rfl
  | cons x l ih => rw [placedOrder, mem_placedOrder_ins, ih, List.mem_cons]

/-- Entry e is done with a status and no output. -/
def Cut (t : State) (e : Nat) (st : Code) : Prop := ∃ c, t.cmd e = some c ∧ c.status = st ∧ c.output = [] ∧ c.stage = .done

theorem Cut.isSome {t : State} {e : Nat} {st : Code} (h : Cut t e st) : (t.cmd e).isSome = true := by
  obtain ⟨c, hc, -⟩ := h
  exact Option.isSome_iff_exists.2 ⟨c, hc⟩

/-- The parts that the end of undispatched commands reaches. -/
abbrev cutParts : List Part := [.free, .outbox, .so, .tb, .journal, .pair, .cores, .gates]

section
variable {st : Code} (hst : frankable st = false)
include hst

theorem completeUnselected_cut (s : State) {e : Nat} (h : (s.cmd e).isSome = true) :
    Cut (completeWith (unselect s e) e st) e st := by
  obtain ⟨c, hc⟩ := Option.isSome_iff_exists.1 h
  obtain ⟨p, b, hcmd⟩ := completeWith_cmd (s := unselect s e) ((State.cmd_congr (keeps_unselect s e).so e).trans hc) hst
  exact ⟨_, hcmd, rfl, rfl, rfl⟩

theorem completeUnselected_other (s : State) {e j : Nat} (h : j ≠ e) : (completeWith (unselect s e) e st).cmd j = s.cmd j :=
  (completeWith_cmd_other hst h).trans (State.cmd_congr (keeps_unselect s e).so j)

/-- What was cut, or is cut now, stays so. -/
theorem foldl_completeWith_cut (l : List (Nat × Cmd)) (s : State) {e : Nat} (hc : (s.cmd e).isSome = true)
    (h : Cut s e st ∨ ∃ x ∈ l, x.1 = e) : Cut (l.foldl (fun s x => completeWith (unselect s x.1) x.1 st) s) e st := by
  induction l generalizing s with
  | nil => exact h.resolve_right (fun ⟨x, hx, _⟩ => by cases hx)
  | cons x l ih =>
    rw [List.foldl_cons]
    by_cases hx : x.1 = e
    · subst hx
      have hcut := completeUnselected_cut hst s hc
      exact ih _ hcut.isSome (.inl hcut)
    · have hsame := completeUnselected_other hst s (Ne.symm hx)
      refine ih _ (by rw [hsame]; exact hc) (h.imp (fun ⟨d, hd, hrest⟩ => ⟨d, hsame.trans hd, hrest⟩) fun ⟨y, hy, hye⟩ => ?_)
      obtain rfl | hy := List.mem_cons.1 hy
      · exact absurd hye hx
      · exact ⟨y, hy, hye⟩

theorem keeps_endUndispatched (s : State) (which : Cmd → Bool) : Keeps cutParts s (endUndispatched s which st) := by
  have hstep (t : State) (x : Nat × Cmd) : Keeps cutParts t (completeWith (unselect t x.1) x.1 st) :=
    (keeps_unselect t x.1).comp (keeps_completeWith hst)
  unfold endUndispatched
  exact Keeps.foldl hstep _ s

theorem endUndispatched_phs (s : State) (which : Cmd → Bool) : (endUndispatched s which st).so.phs = s.so.phs := by
  have hstep (t : State) (x : Nat × Cmd) : (completeWith (unselect t x.1) x.1 st).so.phs = t.so.phs := by
    rw [completeWith_so hst, (keeps_unselect t x.1).so]
  have hall (l : List (Nat × Cmd)) (t : State) :
      (l.foldl (fun s x => completeWith (unselect s x.1) x.1 st) t).so.phs = t.so.phs := by
    induction l generalizing t with
    | nil => rfl
    | cons x l ih =>
      rw [List.foldl_cons]
      exact (ih _).trans (hstep t x)
  unfold endUndispatched
  exact hall _ s

/-- A command of the kind that does not count as dispatched ends. -/
theorem endUndispatched_cut {s : State} {which : Cmd → Bool} {e : Nat} {c : Cmd} (hc : s.cmd e = some c) (hw : which c = true)
    (hd : countsDispatched c = false) : Cut (endUndispatched s which st) e st := by
  refine foldl_completeWith_cut hst _ s (Option.isSome_iff_exists.2 ⟨c, hc⟩) (.inr ⟨(e, c), ?_, rfl⟩)
  rw [mem_placedOrder, List.mem_filter]
  exact ⟨mem_of_lookup hc, by simp [hw, hd]⟩

end

/-! ### SLOT_DESTROY (R138, R444) -/

theorem slotPhs_setSlot {s : State} {n : Nat} {x y : Slot} (h : SlotIs s n x) (hf : y.f = x.f) :
    slotPhs (s.setSlot n y) n = slotPhs s n := by
  unfold slotPhs
  rw [if_neg (Nat.not_le.2 h.1), if_neg (Nat.not_le.2 h.1), (setSlot_slotIs s y h.1).2, h.2]
  dsimp only
  rw [hf]

/-- A pigeonhole without fetch credits. -/
def Ph.uncredited (p : Ph) : Ph := { p with credits := 0 }

/-- A slot as SLOT_DESTROY stops it, before a waiting SLOT_QUIESCE of it ends. -/
def destroyed (s : State) (n e : Nat) (x : Slot) : State :=
  endUndispatched (mapPhs Ph.uncredited (s.setSlot n { x with state := .destroying, quiesceBy := none, destroyBy := some e })
    (slotPhs s n)) (fun c => c.slot == n) cancelledSt

theorem beginDestroy_eq {s : State} {n e : Nat} {x : Slot} (h : SlotIs s n x) :
    beginDestroy s n e x = x.quiesceBy.elim (destroyed s n e x) (fun q => finishHeld (destroyed s n e x) q cancelledSt []) := by
  have hphs := slotPhs_setSlot h (y := { x with state := .destroying, quiesceBy := none, destroyBy := some e }) rfl
  unfold beginDestroy destroyed
  rw [← hphs]
  cases x.quiesceBy <;> rfl

/-- What a destroyed slot and the table look like once SLOT_DESTROY has acted. -/
theorem beginDestroy_facts {s : State} {n e : Nat} {x : Slot} (h : SlotIs s n x) :
    let t := beginDestroy s n e x
    SlotIs t n { x with state := .destroying, quiesceBy := none, destroyBy := some e } ∧
      (∀ m ∈ slotPhs s n, t.ph m = (s.ph m).uncredited) ∧ (∀ m, m ∉ slotPhs s n → t.ph m = s.ph m) ∧
      (∀ e' c, s.cmd e' = some c → c.slot = n → countsDispatched c = false → Cut t e' cancelledSt) ∧
      t.keys.counters = s.keys.counters ∧ t.wmem = s.wmem ∧ t.keys.rootFile = s.keys.rootFile := by
  have hleaves : ∃ q, HeldLeaves (destroyed s n e x) (beginDestroy s n e x) q ∧
      ∀ e', Cut (destroyed s n e x) e' cancelledSt → Cut (beginDestroy s n e x) e' cancelledSt := by
    rw [beginDestroy_eq h]
    cases x.quiesceBy with
    | none => exact ⟨0, .refl _ 0, fun _ hcut => hcut⟩
    | some q =>
      refine ⟨q, finishHeld_refused _ q rfl, fun e' hcut => ?_⟩
      obtain ⟨c, hc, hrest⟩ := hcut
      by_cases hq : e' = q
      · subst hq
        refine ⟨c, ?_, hrest⟩
        show (finishHeld _ _ _ _).cmd _ = _
        rw [finishHeld_done hc hrest.2.2]
        exact hc
      · exact ⟨c, ((finishHeld_refused _ q rfl).other e' hq).trans hc, hrest⟩
  obtain ⟨q, hl, hcuts⟩ := hleaves
  have hend := keeps_endUndispatched (st := cancelledSt) rfl (mapPhs Ph.uncredited
    (s.setSlot n { x with state := .destroying, quiesceBy := none, destroyBy := some e }) (slotPhs s n)) (fun c => c.slot == n)
  have hmap := keeps_mapPhs Ph.uncredited (s.setSlot n { x with state := .destroying, quiesceBy := none, destroyBy := some e })
    (slotPhs s n)
  have hph (m : Nat) : (beginDestroy s n e x).ph m = (mapPhs Ph.uncredited
      (s.setSlot n { x with state := .destroying, quiesceBy := none, destroyBy := some e }) (slotPhs s n)).ph m := by
    rw [State.ph, hl.phs, destroyed, endUndispatched_phs rfl]
    rfl
  have hkeys : (destroyed s n e x).keys = s.keys := hend.keys.trans hmap.keys
  refine ⟨⟨h.1, ?_⟩, fun m hm => ?_, fun m hm => ?_, fun e' c hc hslot hd => hcuts e' ?_, ?_, ?_, ?_⟩
  · rw [hl.keeps.slots, destroyed, hend.slots, hmap.slots]
    exact lookup_insertAt_same _ _ _
  · exact (hph m).trans (mapPhs_mem _ _ (slotPhs_nodup h) hm)
  · exact (hph m).trans (mapPhs_other _ _ hm)
  · refine endUndispatched_cut rfl (c := c) ?_ (beq_iff_eq.2 hslot) hd
    show lookup _ e' = _
    rw [mapPhs_cmds]
    exact hc
  · rw [hl.keys, hkeys]
  · rw [hl.keeps.wmem, destroyed, hend.wmem, hmap.wmem]
    rfl
  · rw [hl.keys, hkeys]

theorem exec_slotCleanupEnd {s : State} {n : Nat} {x : Slot} (h : SlotIs s n x) : exec (.slotCleanupEnd n) s = answer (
    if x.state ≠ .destroying || s.so.cmds.any (fun c => c.2.slot == n && c.2.status != cancelledSt) then s
    else x.destroyBy.elim (releaseSlot s n) (fun e => finishHeld (releaseSlot s n) e stOk [])) := by
  refine congrArg answer ?_
  rw [h.2]
  dsimp only
  cases x.destroyBy <;> rfl

theorem lookup_filter_of {α : Type} {p : Nat × α → Bool} {t : List (Nat × α)} {n : Nat} {v : α} (h : lookup t n = some v)
    (hp : p (n, v) = true) : lookup (t.filter p) n = some v := by
  induction t with
  | nil => cases h
  | cons y t ih =>
    obtain ⟨m, w⟩ := y
    by_cases hm : n = m
    · subst hm
      have hw : w = v := by simpa [lookup] using h
      subst hw
      rw [List.filter_cons_of_pos hp]
      simp [lookup]
    · have htail : lookup t n = some v := by simpa [lookup, hm] using h
      rw [List.filter_cons]
      split
      next => simp [lookup, hm, ih htail]
      next => exact ih htail

/-- The run of a slot's pigeonholes, reset. -/
theorem resetPhs_ph (s : State) (f : SlotFields) {i : Nat} (h : i < f.phCount) : (resetPhs s f).ph (f.phBase + i) = {} := by
  have hrun (l : List Nat) (t : State) (hi : i ∈ l ∨ t.ph (f.phBase + i) = {}) :
      (l.foldl (fun s j => s.setPh (f.phBase + j) {}) t).ph (f.phBase + i) = {} := by
    induction l generalizing t with
    | nil => exact hi.resolve_left (List.not_mem_nil)
    | cons j l ih =>
      refine ih _ ?_
      by_cases hj : f.phBase + i = f.phBase + j
      · exact .inr (by rw [hj]; exact State.ph_setPh _ _ _)
      · refine hi.imp (fun hm => (List.mem_cons.1 hm).resolve_left (fun heq => hj (by rw [heq]))) fun hp => ?_
        exact (State.ph_setPh_other _ _ hj).trans hp
  exact hrun _ s (.inl (List.mem_range.2 h))

theorem releaseSlot_gone {s : State} {n : Nat} {x : Slot} (h : SlotIs s n x) : SlotGone (releaseSlot s n) n x.f ∧
    Keeps [.so, .slots, .keys, .entropy, .wmem] s (releaseSlot s n) ∧
    (∀ m, m ≠ n → lookup (releaseSlot s n).slots.table m = lookup s.slots.table m) ∧
    (∀ e c, s.cmd e = some c → c.slot ≠ n → (releaseSlot s n).cmd e = some c) := by
  let u := resetPhs (zeroData (freeCounters s x.f) x.f) x.f
  have hrun : Keeps [.so, .wmem, .keys] s u :=
    ((keeps_setKeys s _).comp (keeps_zeroData _ x.f) (rs := [.wmem, .keys])).comp (keeps_resetRun _ x.f)
  have hcmds : u.so.cmds = s.so.cmds := by
    have hstep (l : List Nat) (t : State) : (l.foldl (fun s i => s.setPh (x.f.phBase + i) {}) t).so.cmds = t.so.cmds := by
      induction l generalizing t with
      | nil => rfl
      | cons i l ih => exact ih _
    exact (hstep _ _).trans (congrArg Sorting.cmds (keeps_zeroData _ x.f).so)
  have hcounters : u.keys.counters = s.keys.counters.filter (fun y => decide (y.1 < x.f.ctrBase ∨ x.f.ctrBase + x.f.ctrCount ≤ y.1)) := by
    rw [(keeps_resetRun _ x.f).keys, (keeps_zeroData _ x.f).keys]
    rfl
  have hwmem : u.wmem = (zeroData (freeCounters s x.f) x.f).wmem := (keeps_resetRun _ x.f).wmem
  have heq : releaseSlot s n = { zeroise u (24 + n) with
      slots := { u.slots with table := removeAt u.slots.table n }
      so := { u.so with replays := u.so.replays.filter (fun r => r.slot ≠ n), cmds := u.so.cmds.filter (fun c => c.2.slot ≠ n) }
      keys := { u.keys with
        cache := u.keys.cache.filter (fun e => e.slot ≠ n), rootFile := removeAt u.keys.rootFile n
        aliases := removeAt u.keys.aliases n } } := by
    rw [releaseSlot, h.2]
    rfl
  have hphs (i : Nat) (hi : i < x.f.phCount) : u.ph (x.f.phBase + i) = {} := resetPhs_ph _ x.f hi
  rw [heq]
  clear heq
  clear_value u
  refine ⟨⟨lookup_removeAt_same _ _, hphs, fun y hy => ?_, fun y hy => ?_, lookup_removeAt_same _ _, lookup_removeAt_same _ _,
    lookup_removeAt_same _ _, fun hlog a hlo hhi => ?_⟩, fun p hp => ?_, fun m hm => ?_, fun e c hc hslot => ?_⟩
  · have hmem : y ∈ u.keys.counters := hy
    rw [hcounters] at hmem
    exact of_decide_eq_true (List.mem_filter.1 hmem).2
  · exact of_decide_eq_true (List.mem_filter.1 hy).2
  · show tget 0 u.wmem a = 0
    rw [hwmem, zeroData, if_neg hlog, zeroMem, tget_cleared, if_pos ⟨hlo, hhi⟩]
  · have hsame := hrun p
    cases p
    case so | slots | keys | entropy | wmem => simp at hp
    all_goals exact hsame (by decide)
  · rw [← hrun.slots]
    exact lookup_removeAt_other _ _ _ hm
  · refine lookup_filter_of (hcmds ▸ hc) ?_
    simpa using hslot

/-- The end of a held service brings nothing of the slot back. -/
theorem SlotGone.leaves {s t : State} {n e : Nat} {f : SlotFields} (h : SlotGone s n f) (hl : HeldLeaves s t e) : SlotGone t n f := by
  obtain ⟨htable, hphs, hctr, hcache, hroots, haliases, hinst, hmem⟩ := h
  refine ⟨by rwa [hl.keeps.slots], fun i hi => ?_, by rwa [hl.keys], by rwa [hl.keys], by rwa [hl.keys], by rwa [hl.keys],
    by rwa [hl.insts], by rwa [hl.keeps.wmem]⟩
  rw [State.ph, hl.phs]
  exact hphs i hi

theorem slotsAreDestroyed : Claims.SlotsAreDestroyed := by
  intro s k e n c x hslot
  have hex := exec_slotCleanupEnd hslot
  have hany : s.so.cmds.any (fun c => c.2.slot == n && c.2.status != cancelledSt) = true ↔
      ∃ y ∈ s.so.cmds, y.2.slot = n ∧ y.2.status ≠ cancelledSt := by
    simp only [List.any_eq_true, Bool.and_eq_true, beq_iff_eq, bne_iff_ne]
  have hfree (h : ∀ y ∈ s.so.cmds, y.2.slot = n → y.2.status = cancelledSt) :
      s.so.cmds.any (fun c => c.2.slot == n && c.2.status != cancelledSt) = false := by
    rw [← Bool.not_eq_true, hany]
    exact fun ⟨y, hy, hys, hne⟩ => hne (h y hy hys)
  refine ⟨fun hask hmode hn => ⟨fun hlive hfits => ?_, fun hdes hby => answers_fail rfl hask.1 ?_⟩, fun hdes hall =>
    ⟨fun hby => ?_, fun hby hheld hother => ?_⟩, fun hno => ?_⟩
  · subst hn
    have hex := holds_of_work (i := .slotDestroy k) rfl hask.1 (b := beginDestroy s (u16 c.d.params 0) e x) (c' := c) (by
      simp only [svcSlotDestroy, work_bind, work_inModes, inService hmode, if_true, work_get, work_namedSlot hslot, if_neg hlive,
        work_capacity_fits hfits, work_modS, work_throw])
    obtain ⟨his, hin, hout, hcut, hctr, hmem, hroots⟩ := beginDestroy_facts (e := e) hslot
    refine ⟨_, hex, State.cmd_setCmd _ _ _, his, hin, hout, fun e' c0 he hc0 hs hd => ?_, hctr, hmem, hroots⟩
    obtain ⟨c1, hc1, hrest⟩ := hcut e' c0 hc0 hs hd
    exact ⟨c1, (State.cmd_setCmd_other _ _ he).trans hc1, hrest⟩
  · subst hn
    simp only [svcSlotDestroy, work_bind, work_inModes, inService hmode, if_true, work_get, work_namedSlot hslot, if_pos hdes,
      if_neg hby, work_fail]
  · rw [hdes, hfree hall, hby] at hex
    obtain ⟨hgone, hkeep, -⟩ := releaseSlot_gone hslot
    exact ⟨_, hex, only_drivePins hkeep, hgone⟩
  · rw [hdes, hfree hall, hby] at hex
    obtain ⟨hgone, hkeep, htable, hcmd⟩ := releaseSlot_gone hslot
    replace hex : exec (.slotCleanupEnd n) s = answer (finishHeld (releaseSlot s n) e stOk []) := hex
    have hheld' := hheld.congr ((hcmd e c hheld.1 hother).trans hheld.1.symm) hkeep.journal hkeep.pair
    obtain ⟨hend, hl⟩ := finishHeld_here hheld'
    have hgone' := hgone.leaves hl
    exact ⟨_, hex, hgone', hend, fun m hm => (congrArg (lookup ·.table m) hl.keeps.slots).trans (htable m hm)⟩
  · refine hex.trans (congrArg answer (if_pos ?_))
    obtain hstate | hbusy := hno
    · simp [hstate]
    · rw [hany.2 hbusy, Bool.or_true]

/-- Settles O54, by what each service's work reaches, and by the end of a service that keeps its core. -/
theorem slotServices : Obligations.SlotServices :=
  ⟨slotsAreCreated, slotsQuiesce, slotsResume, slotsAreDestroyed, dirtyLogs, slotsAreSaved, slotsAreRestored, slotReads⟩

end Sys2Proof.Machine
end

section
/-! O56: the mode services and the officer quorum (R47 to R51, R54, R321, R530, R537 to R547). -/

namespace Sys2Proof.Machine

open Host

/-! ### Grants (R540, R542) -/

section
variable {s s' : State} {c c' : Cmd}

theorem Granted.work (h : Granted s c s' c') (e : Nat) : work needGrant s e c = (.ok (), ⟨s', e, c'⟩) := by
  obtain ⟨hg, rfl, rfl⟩ | ⟨hg, g, hfind, rfl, rfl⟩ := h
  · simp only [needGrant, work_bind, work_get, hg, if_true, work_pure]
  · simp only [needGrant, work_bind, work_get, hg, Bool.false_eq_true, if_false, hfind, work_set]

theorem work_ungranted (h : Ungranted s c) (e : Nat) : Machine.work needGrant s e c = (.error (.fail quorumRequired), ⟨s, e, c⟩) := by
  obtain ⟨hg, hnone⟩ := h
  have hfind : s.alarms.grants.find? (fun g => g.portB == c.fn.portB && g.opcode == c.d.opcode && g.cmdId == c.d.cmdId &&
      g.digest == quorumDigest c) = none := by
    rw [List.find?_eq_none]
    intro g hm
    have := hnone g hm
    simpa only [Bool.and_eq_true, beq_iff_eq, and_assoc] using this
  simp only [needGrant, work_bind, work_get, hg, Bool.false_eq_true, if_false, hfind, work_throw]

/-- A grant consumed is journalled, and the grants alone differ besides. -/
theorem Granted.told (h : Granted s c s' c') : ∃ a, Told { s with alarms := a } s' := by
  obtain ⟨-, rfl, -⟩ | ⟨-, g, -, rfl, -⟩ := h
  · exact ⟨s'.alarms, .refl s'⟩
  · exact ⟨_, told_journalNow _ _ _⟩

theorem Granted.cmd (h : Granted s c s' c') : c' = { c with granted := c'.granted, officers := c'.officers } := by
  obtain ⟨-, -, rfl⟩ | ⟨-, g, -, -, rfl⟩ := h <;> rfl

variable (h : Granted s c s' c')
include h

theorem Granted.d : c'.d = c.d := by rw [h.cmd]
theorem Granted.input : c'.input = c.input := by rw [h.cmd]

theorem Granted.boot : s'.boot = s.boot := by
  obtain ⟨a, ht⟩ := h.told
  exact ht.keeps.boot

theorem Granted.warden : s'.warden = s.warden := by
  obtain ⟨a, ht⟩ := h.told
  exact ht.keeps.warden

theorem Granted.keys : s'.keys = s.keys := by
  obtain ⟨a, ht⟩ := h.told
  exact ht.keeps.keys

theorem Granted.so : s'.so = s.so := by
  obtain ⟨a, ht⟩ := h.told
  exact ht.keeps.so

theorem Granted.changing : changing s' = changing s := by
  obtain ⟨a, ht⟩ := h.told
  have hpair := ht.pair
  unfold Machine.changing modeBusy
  rw [h.boot, hpair]

theorem Granted.joined : s'.pair.joined = s.pair.joined := by
  obtain ⟨a, ht⟩ := h.told
  rw [ht.pair]

theorem Granted.fits {n : Nat} (hf : Fits s c n) : Fits s' c' n := by
  rw [Fits, trailerLen, h.d, h.keys]
  exact hf

end

/-! ### What the mode services share (R49, R54) -/

section
variable {s s' : State} {e : Nat} {c c' : Cmd} (h : Granted s c s' c') (modes : List Mode)
include h

theorem work_modeService_changing (hch : changing s = true) :
    work (modeService modes) s e c = (.error (.fail busyRetry), ⟨s', e, c'⟩) := by
  simp only [modeService, work_bind, h.work, work_getS, work_need, h.changing, hch, Bool.not_true, Bool.false_eq_true, if_false]

theorem work_modeService (hch : changing s = false) : work (modeService modes) s e c =
    (if modes.any (fun m => m == s.boot.mode) then .ok () else .error (.fail modeRefused), ⟨s', e, c'⟩) := by
  simp only [modeService, work_bind, h.work, work_getS, work_need, h.changing, hch, Bool.not_false, if_true, work_inModes, h.boot]

end

/-! ### The guard (R537, R542) -/

theorem quorumGuards : Claims.QuorumGuards := by
  intro s k e c peerIn levels
  simp only [List.forall_mem_cons, List.not_mem_nil, false_imp_iff, implies_true, and_true]
  refine ⟨fun ha hu => answers_fail rfl ha.1 ?_, fun ha hu => answers_fail rfl ha.1 ?_, fun ha hu => answers_fail rfl ha.1 ?_,
    fun ha hu => answers_fail rfl ha.1 ?_, fun ha hu => answers_fail rfl ha.1 ?_, fun ha hu => answers_fail rfl ha.1 ?_,
    fun ha hu => answers_fail rfl ha.1 ?_, fun ha hu => answers_fail rfl ha.1 ?_, fun ha hu => answers_fail rfl ha.1 ?_,
    fun ha hu => answers_fail rfl ha.1 ?_, fun ha hu => answers_fail rfl ha.1 ?_⟩
  all_goals
    simp only [svcImageReapply, svcModuleRetire, svcDiagEnter, svcCeremonyBegin, svcShareExport, svcShareSubmit, svcCeremonyCommit,
      svcDrErase, svcPairForce, svcUnlock, svcTamperConfig, modeService, ceremonyStart, work_bind, work_ungranted hu]

/-! ### MAINT_ENTER (R47, R49, R50, R54) -/

theorem leavePair_role (s : State) : (leavePair s).pair.role = .lone := rfl

theorem modes_any_false {modes : List Mode} {m : Mode} (h : m ∉ modes) : modes.any (fun x => x == m) = false := by
  rw [← Bool.not_eq_true, List.any_eq_true]
  rintro ⟨x, hx, he⟩
  exact h (beq_iff_eq.1 he ▸ hx)

theorem modes_any_true {modes : List Mode} {m : Mode} (h : m ∈ modes) : modes.any (fun x => x == m) = true :=
  List.any_eq_true.2 ⟨m, h, beq_iff_eq.2 rfl⟩

theorem maintenanceBegins : Claims.MaintenanceBegins := by
  intro s k e c s' c' hask hnot hgr
  refine ⟨fun hch => answers_fail rfl hask.1 ?_, fun hch => ⟨fun h1 h2 h3 => answers_fail rfl hask.1 ?_,
    fun hmode hjoined => answers_fail rfl hask.1 ?_, fun hmode hfits => ?_, fun hmode hjoined hfits => ?_⟩⟩
  · simp only [svcMaintEnter, work_bind, work_get, if_neg hnot, work_modeService_changing hgr _ hch]
  · have hout : [Mode.service, .standby, .staged].any (fun m => m == s.boot.mode) = false := modes_any_false (by simp [h1, h2, h3])
    simp only [svcMaintEnter, work_bind, work_get, if_neg hnot, work_modeService hgr _ hch, hout, Bool.false_eq_true, if_false]
  · have hin : [Mode.service, .standby, .staged].any (fun m => m == s.boot.mode) = true := modes_any_true (by simp [hmode])
    have hbad : (!(s'.boot.mode == .service && s'.pair.joined)) = false := by rw [hgr.boot, hmode, hgr.joined, hjoined]; rfl
    simp only [svcMaintEnter, work_bind, work_get, if_neg hnot, work_modeService hgr _ hch, hin, if_true, work_getS, work_need,
      hbad, Bool.false_eq_true, if_false]
  · have hne : ¬ (s'.boot.mode = .service) := by
      rw [hgr.boot]
      obtain h | h := hmode <;> simp [h]
    have hin : [Mode.service, .standby, .staged].any (fun m => m == s.boot.mode) = true := modes_any_true (by
      obtain h | h := hmode <;> simp [h])
    have hgood : (!(s'.boot.mode == .service && s'.pair.joined)) = true := by rw [beq_eq_false_iff_ne.2 hne]; rfl
    refine ⟨serves_of_work rfl hask.1 ?_ (by rw [hgr.cmd]), ?_, ?_, ?_⟩
    · simp only [svcMaintEnter, work_bind, work_get, if_neg hnot, work_modeService hgr _ hch, hin, if_true, work_getS, work_need,
        hgood, work_capacity_fits (hgr.fits hfits), if_neg hne, work_modS, work_pure]
    · rw [setMode_boot, (keeps_leavePair s').boot, hgr.boot]
    · rw [setMode_pair]
      rfl
    · rw [setMode_pair]
      rfl
  · have hmode' : s'.boot.mode = .service := by rw [hgr.boot, hmode]
    have hin : [Mode.service, .standby, .staged].any (fun m => m == s.boot.mode) = true := modes_any_true (by simp [hmode])
    have hgood : (!(s'.boot.mode == .service && s'.pair.joined)) = true := by rw [hgr.joined, hjoined, Bool.and_false]; rfl
    have hex := holds_of_work (i := .maintEnter k) rfl hask.1 (b := beginDrain s' e) (c' := c') (by
      simp only [svcMaintEnter, work_bind, work_get, if_neg hnot, work_modeService hgr _ hch, hin, if_true, work_getS, work_need,
        hgood, work_capacity_fits (hgr.fits hfits), if_pos hmode', work_modS, work_throw])
    have hkeep := keeps_endUndispatched (st := notActive) rfl { s' with boot := { s'.boot with tenantStop := true, maintDrain := some e } }
      (fun c => decide (c.slot < 512))
    refine ⟨_, hex, ?_, State.cmd_setCmd _ _ _, fun e' c0 he hc0 hslot hd => ?_⟩
    · refine (show _ = (beginDrain s' e).boot from rfl).trans (hkeep.boot.trans ?_)
      rw [hgr.boot]
    · obtain ⟨c1, hc1, hrest⟩ := endUndispatched_cut (st := notActive) rfl
        (s := { s' with boot := { s'.boot with tenantStop := true, maintDrain := some e } }) (which := fun c => decide (c.slot < 512))
        ((State.cmd_congr hgr.so e').trans hc0) (decide_eq_true hslot) hd
      exact ⟨c1, (State.cmd_setCmd_other _ _ he).trans hc1, hrest⟩

/-! ### MAINT_EXIT and IMAGE_REAPPLY (R47, R48, R51, R54, R321) -/

/-- What a service that fails, or keeps its core, makes of the module. -/
theorem runService_fails {s b : State} {k w e : Nat} {op st : Code} {ch : Bool} {body : Svc Octets} {c c' : Cmd} (ha : Asked s k op e c)
    (hr : work body s e c = (.error (.fail st), ⟨b, e, c'⟩)) : runService s k op ch w body =
      b.setCmd e { c' with served := true, status := st, output := [], effects := [] } := by
  obtain ⟨hrun, hop, hcustom, hserved, hlanded⟩ := ha
  unfold runService
  unfold work at hr
  simp only [hrun, hop, hcustom, hserved, hlanded, bne_self_eq_false, Bool.not_true, Bool.or_self, Bool.false_eq_true, if_false, hr]

theorem runService_holds {s b : State} {k w e : Nat} {op : Code} {ch : Bool} {body : Svc Octets} {c c' : Cmd} (ha : Asked s k op e c)
    (hr : work body s e c = (.error .hold, ⟨b, e, c'⟩)) : runService s k op ch w body = b.setCmd e c' := by
  obtain ⟨hrun, hop, hcustom, hserved, hlanded⟩ := ha
  unfold runService
  unfold work at hr
  simp only [hrun, hop, hcustom, hserved, hlanded, bne_self_eq_false, Bool.not_true, Bool.or_self, Bool.false_eq_true, if_false, hr]

/-- MAINT_EXIT that has not begun leaves what its service leaves. -/
theorem maintExit_refused {s b : State} {k : CoreId} (hrun : runService s k.toNat 0x8011 false defaultWait svcMaintExit = b)
    (hb : b.boot = s.boot) : exec (.maintExit k) s = answer b := by
  refine congrArg answer ?_
  rw [hrun]
  dsimp only
  rw [hb]
  cases s.boot.exitBy <;> rfl

theorem leaveMaintenance_facts (s : State) (e : Nat) : (leaveMaintenance s e).keys.ceremony = none ∧
    (leaveMaintenance s e).boot.exitBy = some e ∧ (leaveMaintenance s e).boot.policyNext = none ∧
    (∀ p, s.boot.policyNext = some p → (leaveMaintenance s e).boot.policy = p.1 ∧ (leaveMaintenance s e).boot.custom = p.2) := by
  have hkeep (t : State) := (told_announce t).keeps
  unfold leaveMaintenance
  rw [(hkeep _).keys, (hkeep _).boot]
  cases hnext : s.boot.policyNext with
  | none => exact ⟨rfl, rfl, hnext, fun p hp => by cases hp⟩
  | some p =>
    refine ⟨rfl, rfl, rfl, fun q hq => ?_⟩
    obtain rfl := Option.some.inj hq
    exact ⟨rfl, rfl⟩

theorem maintenanceEnds : Claims.MaintenanceEnds := by
  intro s k e c s' c' hgr hmode
  have hin : [Mode.maintenance].any (fun m => m == s.boot.mode) = true := modes_any_true (by simp [hmode])
  have hupto (hch : changing s = false) := work_modeService (e := e) hgr [.maintenance] hch
  refine ⟨fun hask hnot => ⟨fun hch => ?_, fun hch hlc => ?_, fun hch hlc hfits => ?_⟩, fun hask => ⟨fun hch =>
    answers_fail rfl hask.1 ?_, fun hch hz hzz => ⟨fun hlen => answers_fail rfl hask.1 ?_, fun h1 h2 hfits =>
      serves_of_work rfl hask.1 ?_ (by rw [hgr.cmd])⟩⟩⟩
  · refine maintExit_refused (runService_fails hask.1 (c' := c') (st := busyRetry) ?_) hgr.boot
    simp only [svcMaintExit, work_bind, work_get, if_neg hnot, work_modeService_changing hgr _ hch]
  · have hbad : (s'.warden.lc == .commissioned) = false := by rw [hgr.warden]; exact beq_eq_false_iff_ne.2 hlc
    refine maintExit_refused (runService_fails hask.1 (c' := c') (st := modeRefused) ?_) hgr.boot
    simp only [svcMaintExit, work_bind, work_get, if_neg hnot, hupto hch, hin, if_true, work_getS, work_need, hbad,
      Bool.false_eq_true, if_false]
  · have hgood : (s'.warden.lc == .commissioned) = true := by rw [hgr.warden, hlc]; rfl
    have hrun := runService_holds (ch := false) (w := defaultWait) hask.1 (b := leaveMaintenance s' e) (c' := c') (body := svcMaintExit) (by
      simp only [svcMaintExit, work_bind, work_get, if_neg hnot, hupto hch, hin, if_true, work_getS, work_need, hgood,
        work_capacity_fits (hgr.fits hfits), work_modS, work_throw])
    have hnone : s.boot.exitBy = none := by
      simp only [changing, modeBusy, Bool.or_eq_false_iff] at hch
      exact Option.not_isSome_iff_eq_none.1 (Bool.eq_false_iff.1 hch.1.1.2.2)
    obtain ⟨hcer, hexit, hnext, hpolicy⟩ := leaveMaintenance_facts s' e
    refine ⟨hcer, hexit, hnext, by rwa [hgr.boot] at hpolicy, congrArg answer ?_⟩
    have hexit' : ((leaveMaintenance s' e).setCmd e c').boot.exitBy = some e := hexit
    rw [hrun]
    dsimp only
    rw [hnone, hexit']
    cases pairable ((leaveMaintenance s' e).setCmd e c') <;> rfl
  · simp only [svcImageReapply, work_bind, work_modeService_changing hgr _ hch]
  · have hfields : (zeroAt c'.input 4 4 && zeroAt c'.input 0x38 8) = true := by rw [hgr.input, hz, hzz]; rfl
    have hbad : decide (1 ≤ u32 c'.input 0 ∧ u32 c'.input 0 ≤ 0x4000000) = false := by
      rw [hgr.input]
      exact decide_eq_false (by omega)
    simp only [svcImageReapply, work_bind, hupto hch, hin, if_true, work_getIn, work_need, hfields, hbad, Bool.false_eq_true, if_false]
  · have hfields : (zeroAt c'.input 4 4 && zeroAt c'.input 0x38 8) = true := by rw [hgr.input, hz, hzz]; rfl
    have hgood : decide (1 ≤ u32 c'.input 0 ∧ u32 c'.input 0 ≤ 0x4000000) = true := by
      rw [hgr.input]
      exact decide_eq_true ⟨h1, h2⟩
    simp only [svcImageReapply, work_bind, hupto hch, hin, if_true, work_getIn, work_need, hfields, hgood,
      work_capacity_fits (hgr.fits hfits), work_modS, work_pure]
    rw [hgr.input]

/-! ### MODULE_RETIRE, DIAG_ENTER, DIAG_EXIT (R47, R54, R530, R546, R547) -/

theorem keeps_setWarden (s : State) (w : Warden) : Keeps [.warden] s { s with warden := w } := by
  intro p hp
  cases p
  case warden => simp at hp
  all_goals rfl

/-- Step 2 of R546. -/
theorem backToIssued_facts (s : State) : Keeps [.free, .outbox, .tb, .journal, .pair, .warden, .alarms] s (backToIssued s) ∧
    (backToIssued s).pair.role = s.pair.role ∧ (backToIssued s).pair.crownOut = s.pair.crownOut ∧
    (s.warden.lc = .commissioned → (backToIssued s).warden.lc = .issued ∧ (backToIssued s).warden.roots = [] ∧
      (backToIssued s).warden.officers = none ∧ (backToIssued s).warden.imageSeq = 0) ∧
    (s.warden.lc ≠ .commissioned → (backToIssued s).warden = s.warden) := by
  by_cases hlc : s.warden.lc = .commissioned
  · have heq : backToIssued s = eraseQuorum
        { setLifeCycle { s with warden := { s.warden with roots := [] } } .issued 0x8014 with
          warden := { (setLifeCycle { s with warden := { s.warden with roots := [] } } .issued 0x8014).warden with
            officers := none, imageSeq := 0 } } := if_pos hlc
    have hset := keeps_setLifeCycle { s with warden := { s.warden with roots := [] } } .issued 0x8014
    have hpair := setLifeCycle_pair { s with warden := { s.warden with roots := [] } } .issued 0x8014
    have hwarden := setLifeCycle_warden { s with warden := { s.warden with roots := [] } } .issued 0x8014
    rw [heq]
    generalize setLifeCycle { s with warden := { s.warden with roots := [] } } .issued 0x8014 = u at hset hpair hwarden
    have hrole : u.pair.role = s.pair.role := by rw [hpair]
    have hcrown : u.pair.crownOut = s.pair.crownOut := by rw [hpair]
    refine ⟨?_, hrole, hcrown, fun _ => ⟨?_, ?_, rfl, rfl⟩, fun h => absurd hlc h⟩
    · exact (((keeps_setWarden s _).comp hset (rs := [.free, .outbox, .tb, .journal, .pair, .warden])).comp (keeps_setWarden u _)
        (rs := [.free, .outbox, .tb, .journal, .pair, .warden])).comp (keeps_eraseQuorum _)
    · exact congrArg Warden.lc hwarden
    · exact congrArg Warden.roots hwarden
  · have heq : backToIssued s = s := if_neg hlc
    rw [heq]
    exact ⟨.refl _ s, rfl, rfl, fun h => absurd h hlc, fun _ => rfl⟩

/-- Working material is gone of a module, and so are its role and the Crown; the warden's lock record is as given. -/
structure WipedOut (s t : State) : Prop where
  working : WorkingGone (eraseCounters s) t
  role : t.pair.role = .lone
  crownOut : t.pair.crownOut = false

/-- The module as DIAG_ENTER erases it, takes it back to ISSUED, and logs it (R546). -/
def wipedOut (s : State) : State := abandonImage (eraseCounters (eraseWorking (stoodDown s))) modeRefused
def takenBack (s : State) : State := backToIssued (wipedOut s)
def diagnosisLogged (s : State) : State := blogWrite { takenBack s with
  warden := { (takenBack s).warden with lockRec := false }, boot := { (takenBack s).boot with armed := none } } { cause := 0x8014 }

theorem diagnose_eq (s : State) : diagnose s = enterDiagnostic (diagnosisLogged s) 0x8014 := rfl

theorem workingGone_erased (s u : State) : WorkingGone (eraseCounters s) (eraseCounters (eraseWorking u)) :=
  ⟨rfl, rfl, rfl, rfl, rfl, rfl, rfl, rfl, rfl, rfl⟩

theorem wipedOut_facts (s : State) : WipedOut s (wipedOut s) ∧ (wipedOut s).warden = s.warden := by
  have hcleared := workingGone_erased s (stoodDown s)
  have himage := keeps_abandonImage (eraseCounters (eraseWorking (stoodDown s))) modeRefused
  have hkeep : Keeps [.arrays, .keys, .entropy] (stoodDown s) (eraseCounters (eraseWorking (stoodDown s))) :=
    (keeps_eraseWorking _).comp (keeps_setKeys _ _)
  have hpair : (wipedOut s).pair = (stoodDown s).pair := himage.pair.trans hkeep.pair
  refine ⟨⟨hcleared.of_keeps himage, ?_, ?_⟩, himage.warden.trans (hkeep.warden.trans (keeps_stoodDown s).warden)⟩
  · rw [hpair, stoodDown, (keeps_scrubAll _).pair, leavePair_role]
  · rw [hpair, stoodDown_crownOut]

theorem diagnosisLogged_facts (s : State) : WipedOut s (diagnosisLogged s) ∧ (diagnosisLogged s).boot.armed = none ∧
    (diagnosisLogged s).warden.lockRec = false ∧
    (s.warden.lc = .commissioned → (diagnosisLogged s).warden.lc = .issued ∧ (diagnosisLogged s).warden.roots = [] ∧
      (diagnosisLogged s).warden.officers = none ∧ (diagnosisLogged s).warden.imageSeq = 0) ∧
    (s.warden.lc ≠ .commissioned → (diagnosisLogged s).warden.lc = s.warden.lc ∧ (diagnosisLogged s).warden.roots = s.warden.roots) := by
  obtain ⟨hempty, hw⟩ := wipedOut_facts s
  obtain ⟨hback, hrole, hcrown, hcom, hother⟩ := backToIssued_facts (wipedOut s)
  rw [hw] at hcom hother
  unfold diagnosisLogged takenBack
  generalize backToIssued (wipedOut s) = u at hback hrole hcrown hcom hother
  have hunlock : Keeps [.warden, .boot] u { u with warden := { u.warden with lockRec := false }, boot := { u.boot with armed := none } } := by
    intro p hp
    cases p
    case warden | boot => simp at hp
    all_goals rfl
  have hgone := (hempty.working.of_keeps hback).of_keeps hunlock
  have hlog := keeps_blogWrite { u with warden := { u.warden with lockRec := false }, boot := { u.boot with armed := none } } { cause := 0x8014 }
  have hlogged := blogWrite_warden { u with warden := { u.warden with lockRec := false }, boot := { u.boot with armed := none } }
    { cause := 0x8014 }
  generalize blogWrite { u with warden := { u.warden with lockRec := false }, boot := { u.boot with armed := none } }
    { cause := 0x8014 } = t at hlog hlogged
  refine ⟨⟨hgone.of_keeps hlog, ?_, ?_⟩, ?_, ?_, fun h => ?_, fun h => ?_⟩
  · rw [hlog.pair]
    exact hrole.trans hempty.role
  · rw [hlog.pair]
    exact hcrown.trans hempty.crownOut
  · rw [hlog.boot]
  · rw [hlogged]
  · rw [hlogged]
    exact hcom h
  · rw [hlogged]
    exact ⟨show u.warden.lc = _ by rw [hother h], show u.warden.roots = _ by rw [hother h]⟩

theorem diagnose_facts (s : State) : let t := diagnose s
    t.boot.mode = .diagnostic ∧ t.boot.armed = none ∧ t.boot.unsealed = false ∧ t.warden.lockRec = false ∧ WipedOut s t ∧
      t.portA.vfEnable = false ∧ t.portB.vfEnable = false ∧ t.clocks.pd.getLsbD 25 = true ∧ t.clocks.gates.getLsbD 27 = true ∧
      (s.warden.lc = .commissioned → t.warden.lc = .issued ∧ t.warden.roots = [] ∧ t.warden.officers = none ∧ t.warden.imageSeq = 0) ∧
      (s.warden.lc ≠ .commissioned → t.warden.lc = s.warden.lc ∧ t.warden.roots = s.warden.roots) := by
  obtain ⟨hwiped, harmed, hlock, hcom, hother⟩ := diagnosisLogged_facts s
  rw [diagnose_eq]
  generalize diagnosisLogged s = u at hwiped harmed hlock hcom hother
  let v : State := { u with
    clocks := { u.clocks with pd := u.clocks.pd ||| 0x2000000, gates := u.clocks.gates ||| 0x8000000 }
    portA := { u.portA with vfEnable := false }, portB := { u.portB with vfEnable := false }, boot := { u.boot with unsealed := false } }
  have hset := keeps_setMode v .diagnostic 0x8014
  have hboot := setMode_boot v .diagnostic 0x8014
  have hpair := setMode_pair v .diagnostic 0x8014
  have hopen : Keeps [.clocks, .portA, .portB, .boot] u v := by
    intro p hp
    cases p
    case clocks | portA | portB | boot => simp at hp
    all_goals rfl
  have hgone := (hwiped.working.of_keeps hopen).of_keeps hset
  have heq : enterDiagnostic u 0x8014 = setMode v .diagnostic 0x8014 := rfl
  rw [heq]
  generalize setMode v .diagnostic 0x8014 = t at hset hboot hpair hgone
  refine ⟨by rw [hboot], ?_, by rw [hboot], by rwa [hset.warden], ⟨hgone, ?_, ?_⟩, by rw [hset.portA], by rw [hset.portB],
    ?_, ?_, fun h => by rw [hset.warden]; exact hcom h, fun h => by rw [hset.warden]; exact hother h⟩
  · rw [hboot]
    exact harmed
  · rw [hpair]
    exact hwiped.role
  · rw [hpair]
    exact hwiped.crownOut
  · rw [hset.clocks]
    show (u.clocks.pd ||| 0x2000000).getLsbD 25 = true
    rw [BitVec.getLsbD_or, Bool.or_eq_true]
    exact .inr rfl
  · rw [hset.clocks]
    show (u.clocks.gates ||| 0x8000000).getLsbD 27 = true
    rw [BitVec.getLsbD_or, Bool.or_eq_true]
    exact .inr rfl

theorem lifeCycleEnds : Claims.LifeCycleEnds := by
  intro s k e c s' c'
  refine ⟨fun hgr hch hmode => ?_, fun hask => ⟨fun hmode => answers_fail rfl hask.1 ?_,
    fun hmode hfits => serves_of_work rfl hask.1 ?_ rfl⟩⟩
  · have hin : [Mode.staged, .maintenance, .locked].any (fun m => m == s.boot.mode) = true := modes_any_true (by
      obtain h | h | h := hmode <;> simp [h])
    have hupto := work_modeService (e := e) hgr [.staged, .maintenance, .locked] hch
    refine ⟨fun hask => ⟨fun hserial => answers_fail rfl hask.1 ?_, fun hserial hfits =>
      serves_of_work rfl hask.1 ?_ (by rw [hgr.cmd])⟩, fun hask hfits => ?_⟩
    · have hbad : decide (u64 c'.d.params 0 = s'.warden.serial.toNat) = false := by
        rw [hgr.d, hgr.warden]
        exact decide_eq_false hserial
      simp only [svcModuleRetire, work_bind, hupto, hin, if_true, work_get, work_need, hbad, Bool.false_eq_true, if_false]
    · have hgood : decide (u64 c'.d.params 0 = s'.warden.serial.toNat) = true := by
        rw [hgr.d, hgr.warden]
        exact decide_eq_true hserial
      simp only [svcModuleRetire, work_bind, hupto, hin, if_true, work_get, work_need, hgood, work_capacity_fits (hgr.fits hfits),
        work_modS, work_modC, work_pure]
    · have hex : Serves (.diagEnter k) s (diagnose s') e c' [] := serves_of_work rfl hask.1 (by
        simp only [svcDiagEnter, work_bind, hupto, hin, if_true, work_capacity_fits (hgr.fits hfits), work_modS, work_pure]) (by rw [hgr.cmd])
      obtain ⟨hm, harmed, huns, hlock, hwiped, hvfa, hvfb, hpd, hgate, hcom, hother⟩ := diagnose_facts s'
      rw [hgr.warden] at hcom hother
      have hw := hwiped.working
      generalize diagnose s' = t at *
      exact ⟨_, hex, hm, harmed, huns, hlock, hw.frankPriv, hw.cacheKey, hw.rootFile, hw.counters, hw.laneKeys, hw.hashKeys, hw.insts,
        hwiped.role, hwiped.crownOut, hvfa, hvfb, hpd, hgate, hcom, hother, State.cmd_setCmd _ _ _⟩
  · have hout : [Mode.diagnostic].any (fun m => m == s.boot.mode) = false := modes_any_false (by simpa using hmode)
    simp only [svcDiagExit, work_bind, work_inModes, hout, Bool.false_eq_true, if_false]
  · have hin : [Mode.diagnostic].any (fun m => m == s.boot.mode) = true := modes_any_true (by simp [hmode])
    simp only [svcDiagExit, work_bind, work_inModes, hin, if_true, work_capacity_fits hfits, work_modS, work_modC, work_pure]

/-! ### QUORUM_CHALLENGE and UNLOCK (R538, R543, R544) -/

/-- What a draw for a challenge leaves as it was. -/
structure DrawnFor (s t : State) : Prop where
  alarms : t.alarms = s.alarms
  warden : t.warden = s.warden
  boot : t.boot = s.boot
  time : t.time = s.time

theorem drawnFor_draw {s : State} {d : Octets × State} (h : if s.boot.mode = .locked ∨ s.boot.mode = .diagnostic then d = drawOctets s 32
    else s.entropy.failed = false ∧ Draws s 7 32 d) : DrawnFor s d.2 := by
  split at h
  next =>
    subst h
    exact ⟨rfl, rfl, rfl, rfl⟩
  next =>
    obtain ⟨-, -, rfl⟩ := h
    have hg := keeps_generate s 7 32 false []
    exact ⟨hg.alarms, hg.warden, hg.boot, (told_generate s 7 32 false []).time⟩

/-- The nonce of a challenge is drawn. -/
theorem work_challengeNonce {s : State} {e : Nat} {c : Cmd} {d : Octets × State}
    (h : if s.boot.mode = .locked ∨ s.boot.mode = .diagnostic then d = drawOctets s 32 else s.entropy.failed = false ∧ Draws s 7 32 d) :
    work (if (s.boot.mode == .locked || s.boot.mode == .diagnostic) = true then do
        let v ← get
        set { v with s := (drawOctets v.s 32).2 }
        pure (drawOctets v.s 32).1
      else randomFrom 7 32 : Svc Octets) s e c = (.ok d.1, ⟨d.2, e, c⟩) := by
  have hiff : (s.boot.mode == .locked || s.boot.mode == .diagnostic) = true ↔ s.boot.mode = .locked ∨ s.boot.mode = .diagnostic := by
    rw [Bool.or_eq_true, beq_iff_eq, beq_iff_eq]
  split at h
  next hm =>
    subst h
    rw [if_pos (hiff.2 hm)]
    simp only [work_bind, work_get, work_set, work_pure]
  next hm =>
    obtain ⟨hok, hserve, rfl⟩ := h
    rw [if_neg (mt hiff.1 hm)]
    simp only [randomFrom, work_bind, work_get, hok, hserve, Bool.false_eq_true, if_false, Bool.not_true, work_set, work_pure]

theorem modeRecord_facts (s : State) (next : Mode) (op : Code) :
    Keeps [.free, .outbox, .tb, .journal, .pair, .warden] s (modeRecord s next op) ∧
      (modeRecord s next op).warden.lockRec = s.warden.lockRec := by
  have hlog := keeps_blogWrite s { cause := op }
  have hlogged := blogWrite_warden s { cause := op }
  unfold modeRecord blogRecord
  refine ⟨hlog.comp (keeps_journalNow _ _ _), ?_⟩
  rw [(keeps_journalNow _ _ _).warden, hlogged]

theorem challengesAndUnlock : Claims.ChallengesAndUnlock := by
  intro s k e c
  dsimp only
  refine ⟨fun hask => ⟨fun hmode => answers_fail rfl hask.1 ?_, fun hmode => ⟨fun hbad => answers_fail rfl hask.1 ?_,
    fun hop hz => ⟨fun hfour => answers_fail rfl hask.1 ?_, fun hroom hfits d hd => serves_of_work rfl hask.1 ?_ rfl⟩⟩⟩,
    fun s' c' hask hgr => ⟨fun hmode => answers_fail rfl hask.1 ?_, fun hmode hnot => answers_fail rfl hask.1 ?_,
      fun hmode hnamed hfits => ?_⟩⟩
  · simp only [svcQuorumChallenge, work_bind, journalled, work_modC, work_inModes, modes_any_false hmode, Bool.false_eq_true, if_false]
  · have hbad' : ((quorumBit (u16 c.input 0)).isSome && zeroAt c.input 2 6) = false := by
      obtain h | h := hbad
      · rw [h]; rfl
      · rw [h, Bool.and_false]
    simp only [svcQuorumChallenge, work_bind, journalled, work_modC, work_inModes, modes_any_true hmode, if_true, work_getIn, work_need,
      hbad', Bool.false_eq_true, if_false]
  · have hbad : decide (s.alarms.challenges.length < 4) = false := decide_eq_false (Nat.not_lt.2 hfour)
    have hgood : ((quorumBit (u16 c.input 0)).isSome && zeroAt c.input 2 6) = true := by rw [hop, hz]; rfl
    simp only [svcQuorumChallenge, work_bind, journalled, work_modC, work_inModes, modes_any_true hmode, if_true, work_getIn, work_need,
      hgood, work_getS, hbad, Bool.false_eq_true, if_false]
  · have hgood : ((quorumBit (u16 c.input 0)).isSome && zeroAt c.input 2 6) = true := by rw [hop, hz]; rfl
    have hfits' : Fits s { c with journalled := true } 168 := hfits
    simp only [svcQuorumChallenge, work_bind, journalled, work_modC, work_inModes, modes_any_true hmode, if_true, work_getIn, work_need,
      hgood, work_getS, decide_eq_true hroom, work_capacity_fits hfits']
    rw [work_challengeNonce hd]
    have hdraw := drawnFor_draw hd
    simp only [work_modS, work_pure, hdraw.alarms, hdraw.warden, hdraw.boot, hdraw.time]
  · have hout : [Mode.locked].any (fun m => m == s'.boot.mode) = false := modes_any_false (by rw [hgr.boot]; simpa using hmode)
    simp only [svcUnlock, work_bind, hgr.work, work_inModes, hout, Bool.false_eq_true, if_false]
  · have hin : [Mode.locked].any (fun m => m == s'.boot.mode) = true := modes_any_true (by rw [hgr.boot]; simp [hmode])
    have hbad : (u32 c'.input 0 == s'.warden.lockSeq.toNat && u16 c'.input 4 == s'.warden.lockCause.toNat && zeroAt c'.input 6 2 &&
        slice c'.input 8 12 == s'.warden.lockPm.octets && zeroAt c'.input 0x14 44) = false := by
      rw [hgr.input, hgr.warden, ← Bool.not_eq_true]
      simpa only [Bool.and_eq_true, beq_iff_eq, and_assoc] using hnot
    simp only [svcUnlock, work_bind, hgr.work, work_inModes, hin, if_true, work_getIn, work_getS, work_need, hbad, Bool.false_eq_true,
      if_false]
  · have hin : [Mode.locked].any (fun m => m == s'.boot.mode) = true := modes_any_true (by rw [hgr.boot]; simp [hmode])
    have hgood : (u32 c'.input 0 == s'.warden.lockSeq.toNat && u16 c'.input 4 == s'.warden.lockCause.toNat && zeroAt c'.input 6 2 &&
        slice c'.input 8 12 == s'.warden.lockPm.octets && zeroAt c'.input 0x14 44) = true := by
      rw [hgr.input, hgr.warden]
      simpa only [Bool.and_eq_true, beq_iff_eq, and_assoc] using hnamed
    have hex : Serves (.unlock k) s (modeRecord { s' with warden := { s'.warden with lockRec := false } } .boot 0x8092) e
        { c' with after := .unlock } [] := serves_of_work rfl hask.1 (by
      simp only [svcUnlock, work_bind, hgr.work, work_inModes, hin, if_true, work_getIn, work_getS, work_need, hgood,
        work_capacity_fits (hgr.fits hfits), work_modS, work_modC, work_pure]) (by rw [hgr.cmd])
    obtain ⟨hkeep, hlock⟩ := modeRecord_facts { s' with warden := { s'.warden with lockRec := false } } .boot 0x8092
    exact ⟨_, hex, hlock, hkeep.boot.trans hgr.boot, State.cmd_setCmd _ _ _⟩

/-! ### QUORUM_GRANT (R537, R540, R541) -/

/-- Entry j of a grant's signatures, its signers, and the officers' body that the signatures are judged by (R540). -/
def grantEntry (i : Octets) (j : Nat) : Octets := slice i (8 + 104 * j) 104
def grantSigners (i : Octets) : List Nat := (List.range (u8 i 4)).map (fun j => u8 (grantEntry i j) 0)
def carriesOfficers (s : State) : Bool := !s.boot.applied && s.warden.officers.isSome
def grantBody (s : State) (i : Octets) : Octets := if carriesOfficers s then i.drop (8 + 104 * u8 i 4) else s.boot.officers

/-- The signers that count for a challenge. -/
def grantCounted (s : State) (i : Octets) (ch : Challenge) : List Nat :=
  (grantSigners i).filter (fun x => x != 0xFF && (officerMask (grantBody s i) x).testBit ((quorumBit ch.opcode.toNat).getD 0))

/-- The checks of R540 in their order: the form, the body, the signers, the signatures and the quorum. -/
def grantForm (i : Octets) : Bool :=
  decide (1 ≤ u8 i 4 ∧ u8 i 4 ≤ 17) && zeroAt i 5 3 && (List.range (u8 i 4)).all (fun j => zeroAt (grantEntry i j) 1 7)
def grantBodyOk (s : State) (i : Octets) : Bool :=
  !carriesOfficers s || officerDigest (grantBody s i) == (s.warden.officers.getD (zeros 48, 0, 0)).1
def grantSignersOk (s : State) (i : Octets) : Bool :=
  (distinct (grantSigners i)).length == (grantSigners i).length &&
    (grantSigners i).all (fun x => x == 0xFF || decide (x < (s.warden.officers.getD (zeros 48, 0, 0)).2.2))
def grantSigned (s : State) (i : Octets) (ch : Challenge) : Bool :=
  (List.range (u8 i 4)).all (fun j => verifyP384
    (if u8 (grantEntry i j) 0 = 0xFF then Config.fieldAccessKey else officerKey (grantBody s i) (u8 (grantEntry i j) 0))
    (sha 48 (ascii "PRK3680-QUORUM" ++ ch.text)) (slice (grantEntry i j) 8 96))
def grantEnough (s : State) (i : Octets) (ch : Challenge) : Bool :=
  (!ch.needVendor || (grantSigners i).contains 0xFF) &&
    (!(s.warden.officers.isSome && (ch.opcode != 0x8014 || s.warden.lc == .commissioned)) ||
      decide ((grantCounted s i ch).length ≥ (s.warden.officers.getD (zeros 48, 0, 0)).2.1))

theorem svcQuorumGrant_eq : svcQuorumGrant = (do
    journalled
    inModes quorumModes
    let i ← getIn
    let st ← getS
    let c ← getC
    need (grantForm i) badField
    need (i.length == 8 + 104 * u8 i 4 + (if carriesOfficers st then 0x38 + 104 * (st.warden.officers.getD (zeros 48, 0, 0)).2.2 else 0))
      badLength
    let ch ← (match st.alarms.challenges.find? (fun x => x.id.toNat == u32 i 0) with
      | some ch => pure ch
      | none => fail authFailed)
    modS (fun s => { s with alarms := { s.alarms with challenges := s.alarms.challenges.filter (fun x => x.id ≠ ch.id) } })
    need (grantBodyOk st i) authFailed
    need (grantSignersOk st i) badField
    need (grantSigned st i ch) authFailed
    need (grantEnough st i ch) quorumRequired
    capacity 0
    modS (fun s => { s with alarms := { s.alarms with grants := s.alarms.grants ++
      [{ portB := c.fn.portB, opcode := ch.opcode, cmdId := ch.cmdId, digest := ch.digest, officers := maskOf (grantCounted st i ch) }] } })
    pure []) := rfl

theorem grantBodyOk_iff (s : State) (i : Octets) : grantBodyOk s i = true ↔
    (carriesOfficers s = true → officerDigest (grantBody s i) = (s.warden.officers.getD (zeros 48, 0, 0)).1) := by
  rw [grantBodyOk, Bool.or_eq_true, beq_iff_eq]
  cases carriesOfficers s <;> simp

theorem grantSignersOk_iff (s : State) (i : Octets) : grantSignersOk s i = true ↔
    (distinct (grantSigners i)).length = (grantSigners i).length ∧
      ∀ x ∈ grantSigners i, x = 0xFF ∨ x < (s.warden.officers.getD (zeros 48, 0, 0)).2.2 := by
  simp only [grantSignersOk, Bool.and_eq_true, Bool.or_eq_true, beq_iff_eq, List.all_eq_true, decide_eq_true_eq]

theorem grantSigned_iff (s : State) (i : Octets) (ch : Challenge) : grantSigned s i ch = true ↔ ∀ j, j < u8 i 4 → verifyP384
    (if u8 (grantEntry i j) 0 = 0xFF then Config.fieldAccessKey else officerKey (grantBody s i) (u8 (grantEntry i j) 0))
    (sha 48 (ascii "PRK3680-QUORUM" ++ ch.text)) (slice (grantEntry i j) 8 96) = true := by
  simp only [grantSigned, List.all_eq_true, List.mem_range]

theorem grantEnough_iff (s : State) (i : Octets) (ch : Challenge) : grantEnough s i ch = true ↔
    (ch.needVendor = true → 0xFF ∈ grantSigners i) ∧
      (s.warden.officers.isSome = true → ch.opcode ≠ 0x8014 ∨ s.warden.lc = .commissioned →
        (s.warden.officers.getD (zeros 48, 0, 0)).2.1 ≤ (grantCounted s i ch).length) := by
  have hvendor : (!ch.needVendor || (grantSigners i).contains 0xFF) = true ↔ (ch.needVendor = true → 0xFF ∈ grantSigners i) := by
    cases ch.needVendor <;> simp
  have hneeded : (ch.opcode != 0x8014 || s.warden.lc == .commissioned) = true ↔ ch.opcode ≠ 0x8014 ∨ s.warden.lc = .commissioned := by
    rw [Bool.or_eq_true, bne_iff_ne, beq_iff_eq]
  rw [grantEnough, Bool.and_eq_true, hvendor, ← hneeded]
  cases s.warden.officers.isSome <;> cases ch.opcode != 0x8014 || s.warden.lc == .commissioned <;> simp

theorem grantsAreGiven : Claims.GrantsAreGiven := by
  intro s k e c ch
  dsimp only
  intro hask hmode h1 h17 hz hzs hlen
  have hform : grantForm c.input = true := by
    simp only [grantForm, Bool.and_eq_true, decide_eq_true_eq, List.all_eq_true, List.mem_range]
    exact ⟨⟨⟨h1, h17⟩, hz⟩, hzs⟩
  have hlen' : (c.input.length == 8 + 104 * u8 c.input 4 +
      (if carriesOfficers s then 0x38 + 104 * (s.warden.officers.getD (zeros 48, 0, 0)).2.2 else 0)) = true := beq_iff_eq.2 hlen
  have hupto := modes_any_true hmode
  refine ⟨fun hnone => answers_fail rfl hask.1 ?_, fun hfind => ⟨fun hcar hdig => answers_fail rfl hask.1 ?_,
    fun hdig hdist hids => ⟨fun hnot => answers_fail rfl hask.1 ?_, fun hsig hno => answers_fail rfl hask.1 ?_,
      fun hsig hyes hfits => serves_of_work rfl hask.1 ?_ rfl⟩⟩⟩
  · have hfind : s.alarms.challenges.find? (fun x => x.id.toNat == u32 c.input 0) = none := by
      rw [List.find?_eq_none]
      intro x hx
      simpa using hnone x hx
    simp only [svcQuorumGrant_eq, work_bind, journalled, work_modC, work_inModes, hupto, if_true, work_getIn, work_getS, work_getC,
      work_need, hform, hlen', hfind, work_fail]
  · have hbad : grantBodyOk s c.input = false := by
      rw [← Bool.not_eq_true, grantBodyOk_iff]
      exact fun h => hdig (h hcar)
    simp only [svcQuorumGrant_eq, work_bind, journalled, work_modC, work_inModes, hupto, if_true, work_getIn, work_getS, work_getC,
      work_need, hform, hlen', hfind, work_pure, work_modS, hbad, Bool.false_eq_true, if_false]
  all_goals
    have hbody := (grantBodyOk_iff s c.input).2 hdig
    have hsigners := (grantSignersOk_iff s c.input).2 ⟨hdist, hids⟩
  · have hbad : grantSigned s c.input ch = false := by
      rw [← Bool.not_eq_true, grantSigned_iff]
      exact hnot
    simp only [svcQuorumGrant_eq, work_bind, journalled, work_modC, work_inModes, hupto, if_true, work_getIn, work_getS, work_getC,
      work_need, hform, hlen', hfind, work_pure, work_modS, hbody, hsigners, hbad, Bool.false_eq_true, if_false]
  · have hbad : grantEnough s c.input ch = false := by
      rw [← Bool.not_eq_true, grantEnough_iff]
      exact hno
    simp only [svcQuorumGrant_eq, work_bind, journalled, work_modC, work_inModes, hupto, if_true, work_getIn, work_getS, work_getC,
      work_need, hform, hlen', hfind, work_pure, work_modS, hbody, hsigners, (grantSigned_iff s c.input ch).2 hsig, hbad,
      Bool.false_eq_true, if_false]
  · have hfits' : Fits { s with alarms := { s.alarms with challenges := s.alarms.challenges.filter (fun x => x.id ≠ ch.id) } }
        { c with journalled := true } 0 := hfits
    simp only [svcQuorumGrant_eq, work_bind, journalled, work_modC, work_inModes, hupto, if_true, work_getIn, work_getS, work_getC,
      work_need, hform, hlen', hfind, work_pure, work_modS, hbody, hsigners, (grantSigned_iff s c.input ch).2 hsig,
      (grantEnough_iff s c.input ch).2 hyes, work_capacity_fits hfits']
    rfl

/-- Settles O56, by the grant that each service consumes, and what its work reaches from there. -/
theorem modeServices : Obligations.ModeServices :=
  ⟨quorumGuards, maintenanceBegins, maintenanceEnds, lifeCycleEnds, challengesAndUnlock, grantsAreGiven⟩

end Sys2Proof.Machine
end

section
/-! O57: the services that report, test and configure (R236, R327, R350 to R352, R356, R473, R487, R512, R515, R531, R533 to R536). -/

namespace Sys2Proof.Machine

open Host

/-! ### The services that report (R352, R473, R487, R531) -/

/-- The identity key signs, hedged by a draw unless entropy has failed. -/
theorem work_identitySign {s b : State} {k : CoreId} {text sig : Octets} (h : Signs s k text sig b) (e : Nat) (c : Cmd) :
    work (identitySign k.toNat text) s e c = (.ok sig, ⟨b, e, c⟩) := by
  unfold Signs at h
  split at h
  next hfail =>
    obtain ⟨rfl, rfl⟩ := h
    simp only [identitySign, work_bind, work_getS, hfail, if_true, work_pure]
  next hok =>
    obtain ⟨d, ⟨hserve, rfl⟩, rfl, rfl⟩ := h
    simp only [identitySign, work_bind, work_getS, randomFrom, work_get, hok, hserve, Bool.false_eq_true, if_false, Bool.not_true, work_set,
      work_pure]

theorem servicesReport : Claims.ServicesReport := by
  intro s k e c
  refine ⟨fun hask hfits => serves_of_work rfl hask.1 ?_ rfl, fun hask hfits => serves_of_work rfl hask.1 ?_ rfl,
    fun hask hfits => serves_of_work rfl hask.1 ?_ rfl, fun hask hfits => serves_of_work rfl hask.1 ?_ rfl,
    fun sig b hask hfits hsign => serves_of_work rfl hask.1 ?_ rfl⟩
  · simp only [svcBatteryLog, work_bind, work_capacity_fits hfits, work_getS, work_pure]
    rfl
  · simp only [svcHealthReport, work_bind, work_capacity_fits hfits, work_getS, work_pure]
  · simp only [svcRngStatus, work_bind, work_capacity_fits hfits, work_getS, work_pure]
  · simp only [svcFrankCert, work_bind, work_capacity_fits hfits, work_getS, work_pure]
  · have hsig := work_identitySign hsign e c
    simp only [svcAttest, work_bind, work_getIn, work_capacity_fits hfits, work_get, work_set]
    have hw := (keeps_stamp s (srcCore k.toNat)).warden
    have hb := (keeps_stamp s (srcCore k.toNat)).boot
    have hk := (keeps_stamp s (srcCore k.toNat)).keys
    simp only [frankId, hw, hb, hk]
    rw [hsig]
    rfl

/-! ### TAMPER_CONFIG and DRY_FIRE (R533 to R536) -/

/-- The input settings that R534 admits, and those that no input would trip (R535). -/
def extLegal (v : BitVec 16) : Bool := (List.range 4).all (fun n => !v.getLsbD (4 * n + 3))
def extQuiet (v : BitVec 16) (levels : BitVec 4) : Bool :=
  (List.range 4).all (fun n => !(decide (extClass v n ≥ 2) && levels.getLsbD n == extHigh v n))

theorem extLegal_iff (v : BitVec 16) : extLegal v = true ↔ ∀ n, n < 4 → v.getLsbD (4 * n + 3) = false := by
  simp only [extLegal, List.all_eq_true, List.mem_range, Bool.not_eq_true']

theorem extQuiet_iff (v : BitVec 16) (levels : BitVec 4) :
    extQuiet v levels = true ↔ ∀ n, n < 4 → 2 ≤ extClass v n → levels.getLsbD n ≠ extHigh v n := by
  simp only [extQuiet, List.all_eq_true, List.mem_range, Bool.not_eq_true', Bool.and_eq_false_iff, decide_eq_false_iff_not,
    beq_eq_false_iff_ne, ge_iff_le]
  exact forall₂_congr fun n _ => Decidable.imp_iff_not_or.symm

theorem svcTamperConfig_eq (levels : BitVec 4) : svcTamperConfig levels = (do
    needGrant
    inModes [.maintenance]
    let c ← getC
    need (extLegal (BitVec.ofNat 16 (u16 c.d.params 0))) badField
    need (extQuiet (BitVec.ofNat 16 (u16 c.d.params 0)) levels) policyDenied
    capacity 0
    modC (fun d => { d with effects := d.effects ++ [Effect.extCfg (BitVec.ofNat 16 (u16 c.d.params 0))] })
    pure []) := rfl

theorem tamperConfigured {s s' : State} {k : CoreId} {e : Nat} {c c' : Cmd} {levels : BitVec 4} (hask : Asks s k.toNat 0x8094 e c)
    (hgr : Granted s c s' c') :
    let v : BitVec 16 := BitVec.ofNat 16 (u16 c.d.params 0)
    (s.boot.mode ≠ .maintenance → Fails (.tamperConfig k levels) s s' e c' modeRefused) ∧
      (s.boot.mode = .maintenance →
        (¬ extLegal v = true → Fails (.tamperConfig k levels) s s' e c' badField) ∧
        (extLegal v = true → ¬ extQuiet v levels = true → Fails (.tamperConfig k levels) s s' e c' policyDenied) ∧
        (extLegal v = true → extQuiet v levels = true → Fits s c 0 →
          Serves (.tamperConfig k levels) s s' e { c' with effects := c'.effects ++ [Effect.extCfg v] } [])) := by
  have hd := hgr.d
  refine ⟨fun hmode => answers_fail rfl hask.1 ?_, fun hmode => ?_⟩
  · have hout : [Mode.maintenance].any (fun m => m == s'.boot.mode) = false := modes_any_false (by rw [hgr.boot]; simpa using hmode)
    simp only [svcTamperConfig_eq, work_bind, hgr.work, work_inModes, hout, Bool.false_eq_true, if_false]
  · have hin : [Mode.maintenance].any (fun m => m == s'.boot.mode) = true := modes_any_true (by rw [hgr.boot]; simp [hmode])
    refine ⟨fun hnot => answers_fail rfl hask.1 ?_, fun hlegal hnot => answers_fail rfl hask.1 ?_,
      fun hlegal hquiet hfits => serves_of_work rfl hask.1 ?_ (by rw [hgr.cmd])⟩
    · simp only [svcTamperConfig_eq, work_bind, hgr.work, work_inModes, hin, if_true, work_getC, work_need, hd, if_neg hnot]
    · simp only [svcTamperConfig_eq, work_bind, hgr.work, work_inModes, hin, if_true, work_getC, work_need, hd, hlegal, if_neg hnot]
    · simp only [svcTamperConfig_eq, work_bind, hgr.work, work_inModes, hin, if_true, work_getC, work_need, hd, hlegal, hquiet,
        work_capacity_fits (hgr.fits hfits), work_modC, work_pure]

/-- A DRY_FIRE whose window is not its own makes its checks. -/
theorem work_dryFire {s : State} {e : Nat} {c : Cmd} {raw : Bool} (h : ∀ d, s.alarms.dryFire = some d → d.cmd ≠ e) :
    work (svcDryFire raw) s e c = work (do
      inModes [.staged, .service, .standby, .maintenance]
      need (decide (u8 c.d.params 0 ≤ 17) && monRuns s (u8 c.d.params 0)) badField
      need (!raw) policyDenied
      need s.alarms.dryFire.isNone busyRetry
      capacity 16
      modS (fun t => { t with alarms := { t.alarms with dryFire := some { monitor := u8 c.d.params 0, cmd := e } } })
      throw .hold : Svc Octets) s e { c with journalled := true } := by
  cases hd : s.alarms.dryFire with
  | none => simp only [svcDryFire, work_bind, journalled, work_modC, work_get, hd]
  | some d => simp only [svcDryFire, work_bind, journalled, work_modC, work_get, hd, if_neg (h d hd)]

theorem tamperServices : Claims.TamperServices := by
  intro s k e c levels raw
  refine ⟨fun s' c' hask hgr => ?_, fun hask hown => ?_⟩
  · simp only [← extLegal_iff, ← extQuiet_iff]
    exact tamperConfigured hask hgr
  · intro n c' runs
    have hup := work_dryFire (c := c) (raw := raw) hown
    have hruns : (decide (u8 c.d.params 0 ≤ 17) && monRuns s (u8 c.d.params 0)) = true ↔ runs := by
      rw [Bool.and_eq_true, decide_eq_true_eq]
    refine ⟨fun h1 h2 h3 h4 => answers_fail rfl hask.1 ?_, fun hmode => ?_⟩
    · have hout : [Mode.staged, .service, .standby, .maintenance].any (fun m => m == s.boot.mode) = false :=
        modes_any_false (by simp [h1, h2, h3, h4])
      simp only [hup, work_bind, work_inModes, hout, Bool.false_eq_true, if_false]
      rfl
    · have hin : [Mode.staged, .service, .standby, .maintenance].any (fun m => m == s.boot.mode) = true := modes_any_true (by
        simpa using hmode)
      refine ⟨fun hnot => answers_fail rfl hask.1 ?_, fun hr hraw => answers_fail rfl hask.1 ?_,
        fun hr hraw hbusy => answers_fail rfl hask.1 ?_, fun hr hraw hfree hfits => holds_of_work rfl hask.1 ?_⟩
      · simp only [hup, work_bind, work_inModes, hin, if_true, work_need, if_neg (mt hruns.1 hnot)]
        rfl
      · subst hraw
        simp only [hup, work_bind, work_inModes, hin, if_true, work_need, hruns.2 hr, Bool.not_true, Bool.false_eq_true, if_false]
        rfl
      · subst hraw
        have hsome : s.alarms.dryFire.isNone = false := Option.isNone_eq_false_iff.2 (Option.isSome_iff_ne_none.2 hbusy)
        simp only [hup, work_bind, work_inModes, hin, if_true, work_need, hruns.2 hr, Bool.not_false, hsome, Bool.false_eq_true,
          if_false]
        rfl
      · subst hraw
        have hfits' : Fits s { c with journalled := true } 16 := hfits
        simp only [hup, work_bind, work_inModes, hin, if_true, work_need, hruns.2 hr, Bool.not_false, hfree, Option.isNone_none,
          work_capacity_fits hfits', work_modS, work_throw]
        rfl

/-! ### The self-tests and the mode of the entropy unit (R327, R350 to R352, R356) -/

/-- The unit as a service of its own takes it offline. -/
def takenOffline (s : State) (e : Nat) : State := s.setEntropy (fun u => { u with offline := true, offlineBy := some e })

theorem work_goOffline {s : State} (h : s.entropy.offline = false) (e : Nat) (c : Cmd) :
    work goOffline s e c = (.ok (), ⟨takenOffline s e, e, c⟩) := by
  simp only [goOffline, work_bind, work_get, work_need, h, Bool.not_false, if_true, work_modS]
  rfl

theorem work_goOffline_busy {s : State} (h : s.entropy.offline = true) (e : Nat) (c : Cmd) :
    work goOffline s e c = (.error (.fail busyRetry), ⟨s, e, c⟩) := by
  simp only [goOffline, work_bind, work_get, work_need, h, Bool.not_true, Bool.false_eq_true, if_false]

/-- Nothing fails where no cell fails. -/
theorem foldl_unmarked {f : State → Nat → State} (m : BitVec 64) (h : m = 0) (l : List Nat) (s : State) :
    l.foldl (fun s n => if m.getLsbD n then f s n else s) s = s := by
  subst h
  induction l generalizing s with
  | nil => rfl
  | cons n l ih =>
    rw [List.foldl_cons, if_neg (by simp)]
    exact ih s

/-- Without a cause in force the review leaves the unit as it is, but for the record of the causes. -/
theorem reviewCauses_quiet {s : State} (hcells : 24 ≤ healthyCells s) (hlane : s.entropy.laneFail = 0) (hok : s.entropy.failed = false) :
    reviewCauses s = s ∨ reviewCauses s = s.setEntropy (fun n => { n with failCause := 0 }) := by
  have hcause : failCauses s = 0 := by
    unfold failCauses
    dsimp only
    rw [hlane, if_neg (Nat.not_lt.2 hcells)]
    decide
  unfold reviewCauses
  split
  next => exact .inl rfl
  next =>
    refine .inr ?_
    rw [hcause]
    dsimp only
    have hkeep : (s.setEntropy (fun n => { n with failCause := 0 })).entropy.failed = false := hok
    rw [hkeep]
    exact (if_neg (by decide)).trans (if_neg (by decide))

/-- What a self-test that finds nothing leaves of the entropy unit. -/
structure OfflineFor (s t : State) (e : Nat) : Prop where
  offline : t.entropy.offline = true
  offlineBy : t.entropy.offlineBy = some e
  failed : t.entropy.failed = s.entropy.failed
  insts : t.entropy.insts = s.entropy.insts
  condMode : t.entropy.condMode = s.entropy.condMode
  so : t.so = s.so
  warden : t.warden = s.warden

theorem OfflineFor.review {s t : State} {e : Nat} (h : OfflineFor s t e) (hcells : 24 ≤ healthyCells t) (hlane : t.entropy.laneFail = 0)
    (hok : t.entropy.failed = false) : OfflineFor s (reviewCauses t) e := by
  obtain heq | heq := reviewCauses_quiet hcells hlane hok
  all_goals
    rw [heq]
    exact ⟨h.offline, h.offlineBy, h.failed, h.insts, h.condMode, h.so, h.warden⟩

/-- Known-answer tests that pass leave a unit without failed lanes alone. -/
theorem katDone_clean {s : State} (h : s.entropy.laneFail = 0) (j : Nat) : katDone s j true true = s := by
  have hset (kind : Nat) : setLaneFail s kind j false = s := by
    have hsame : s.entropy.laneFail &&& ~~~(BitVec.ofNat 12 (2 ^ (4 * kind + j))) = s.entropy.laneFail := by
      rw [h]
      exact BitVec.zero_and
    show ({ s with entropy := { s.entropy with laneFail := s.entropy.laneFail &&& ~~~(BitVec.ofNat 12 (2 ^ (4 * kind + j))) } } : State) = s
    rw [hsame]
  simp only [katDone, Bool.not_true, hset, Bool.and_self, if_true]

theorem kats_clean {s : State} (h : s.entropy.laneFail = 0) :
    (List.range 4).foldl (fun s j => katDone s j ((15 : BitVec 4).getLsbD j) ((15 : BitVec 4).getLsbD j)) s = s := by
  show katDone (katDone (katDone (katDone s 0 true true) 1 true true) 2 true true) 3 true true = s
  simp only [katDone_clean h]

theorem offlineFor_taken (s : State) (e : Nat) : OfflineFor s (takenOffline s e) e := ⟨rfl, rfl, rfl, rfl, rfl, rfl, rfl⟩

/-- RNG_SELFTEST that finds nothing (R352). -/
theorem rngSelftested {s : State} {k : CoreId} {e : Nat} {c : Cmd} {m64 : BitVec 64} (hask : Asks s k.toNat 0x8060 e c)
    (hin : [Mode.staged, .service, .standby, .maintenance].any (fun m => m == s.boot.mode) = true) (hfits : Fits s c 16)
    (hoff : s.entropy.offline = false) (hbad : ~~~s.warden.retCells &&& ~~~m64 &&& ~~~s.entropy.quarMask = 0)
    (hlane : s.entropy.laneFail = 0) (hcells : 24 ≤ healthyCells s) (hok : s.entropy.failed = false) :
    Gives (.rngSelftest k m64 15 15) s fun t => t.entropy.offline = true ∧ t.entropy.offlineBy = some e ∧
      t.entropy.failed = false ∧ t.entropy.insts = s.entropy.insts ∧
      t.cmd e = some (c.result stOk (le 8 (~~~s.warden.retCells &&& m64).toNat ++ [15, 15] ++ zeros 6)) := by
  have hleft := (offlineFor_taken s e).review hcells hlane hok
  have hserves : Serves (.rngSelftest k m64 15 15) s (reviewCauses (takenOffline s e)) e c
      (le 8 (~~~s.warden.retCells &&& m64).toNat ++ le 1 (15 : BitVec 4).toNat ++ le 1 (15 : BitVec 4).toNat ++ zeros 6) := by
    refine serves_of_work rfl hask.1 ?_ rfl
    have hbad' : ~~~(takenOffline s e).warden.retCells &&& ~~~m64 &&& ~~~(takenOffline s e).entropy.quarMask = 0 := hbad
    have hnone := foldl_unmarked (f := fun s n => failCell s n false) _ hbad' (List.range 64) (takenOffline s e)
    have hkats := kats_clean (s := takenOffline s e) hlane
    simp only [svcRngSelftest, work_bind, work_inModes, hin, if_true, work_capacity_fits hfits, work_goOffline hoff, work_getS, work_modS,
      work_pure]
    rw [hnone, hkats]
    rfl
  exact ⟨_, hserves, hleft.offline, hleft.offlineBy, hleft.failed.trans hok, hleft.insts, State.cmd_setCmd _ _ _⟩

/-- RNG_CONFIG to a mode that 24 cells pass (R351, R356). -/
theorem rngConfigured {s : State} {k : CoreId} {e : Nat} {c : Cmd} {m64 : BitVec 64} (hask : Asks s k.toNat 0x8062 e c)
    (hin : [Mode.maintenance, .diagnostic].any (fun m => m == s.boot.mode) = true)
    (hfields : (condModes.contains (u8 c.d.params 0) && zeroAt c.d.params 1 23) = true) (hfits : Fits s c 0)
    (hoff : s.entropy.offline = false) (hbad : ~~~s.warden.retCells &&& ~~~m64 &&& ~~~s.entropy.quarMask = 0)
    (hlane : s.entropy.laneFail = 0) (hcells : 24 ≤ healthyCells s) (hok : s.entropy.failed = false)
    (hpass : 24 ≤ popCount 64 (~~~s.warden.retCells &&& m64).toNat) :
    Gives (.rngConfig k m64) s fun t => t.entropy.condMode = s.entropy.condMode ∧ t.entropy.offline = true ∧
      t.entropy.offlineBy = some e ∧
      t.cmd e = some ({ c with effects := c.effects ++ [Effect.rngMode (BitVec.ofNat 8 (u8 c.d.params 0))], stateChanging := true,
                               journalled := true, keepsReplay := true }.result stOk []) := by
  have hleft := (offlineFor_taken s e).review hcells hlane hok
  have hserves : Serves (.rngConfig k m64) s (reviewCauses (takenOffline s e)) e
      { c with effects := c.effects ++ [Effect.rngMode (BitVec.ofNat 8 (u8 c.d.params 0))], stateChanging := true, journalled := true,
               keepsReplay := true } [] := by
    refine answers_ok (ch := false) rfl hask.1 ?_ (by rw [if_neg (by decide), twinInFlight, hleft.so]; exact hask.2)
    have hbad' : ~~~(takenOffline s e).warden.retCells &&& ~~~m64 &&& ~~~(takenOffline s e).entropy.quarMask = 0 := hbad
    have hnone := foldl_unmarked (f := fun s n => failCell s n true) _ hbad' (List.range 64) (takenOffline s e)
    have hgood : (decide (popCount 64 (~~~s.warden.retCells &&& m64).toNat ≥ 24) &&
        !(reviewCauses (takenOffline s e)).entropy.failed) = true := by
      rw [hleft.failed, hok, decide_eq_true hpass]
      rfl
    simp only [svcRngConfig, work_bind, work_inModes, hin, if_true, work_getC, work_need, hfields, work_capacity_fits hfits,
      work_goOffline hoff, work_getS, work_modS]
    rw [hnone]
    simp only [show (takenOffline s e).warden = s.warden from rfl, hgood, if_true, work_modC, work_pure]
  exact ⟨_, hserves, hleft.condMode, hleft.offline, hleft.offlineBy, State.cmd_setCmd _ _ _⟩

/-- What the retirement of lanes leaves: the masks of retired units grow. -/
structure LanesRetired (s t : State) : Prop where
  so : t.so = s.so
  grows : ∀ n, s.warden.retLanes.getLsbD n = true → t.warden.retLanes.getLsbD n = true

theorem LanesRetired.trans {s t u : State} (h : LanesRetired s t) (g : LanesRetired t u) : LanesRetired s u :=
  ⟨g.so.trans h.so, fun n hn => g.grows n (h.grows n hn)⟩

theorem keeps_retireLane (s : State) (hash : Bool) (n : Nat) :
    Keeps [.free, .outbox, .tb, .journal, .pair, .arrays, .warden] s (retireLane s hash n) ∧ (retireLane s hash n).warden =
      if hash then { s.warden with retHash := s.warden.retHash ||| BitVec.ofNat 16 (2 ^ n) }
      else { s.warden with retLanes := s.warden.retLanes ||| BitVec.ofNat 64 (2 ^ n) } := by
  have hset := keeps_setWarden s (if hash then { s.warden with retHash := s.warden.retHash ||| BitVec.ofNat 16 (2 ^ n) }
    else { s.warden with retLanes := s.warden.retLanes ||| BitVec.ofNat 64 (2 ^ n) })
  have hjournal := keeps_journalRetire { s with warden := if hash then { s.warden with retHash := s.warden.retHash ||| BitVec.ofNat 16 (2 ^ n) }
    else { s.warden with retLanes := s.warden.retLanes ||| BitVec.ofNat 64 (2 ^ n) } } (if hash then .hashLane else .lane) n
  unfold retireLane
  dsimp only
  exact ⟨(hset.comp hjournal (rs := [.free, .outbox, .tb, .journal, .pair, .warden])).comp (keeps_refreshCauses _),
    (keeps_refreshCauses _).warden.trans hjournal.warden⟩

theorem lanesRetired_retireLane (s : State) (hash : Bool) (n : Nat) : LanesRetired s (retireLane s hash n) := by
  obtain ⟨hkeep, hw⟩ := keeps_retireLane s hash n
  refine ⟨hkeep.so, fun m hm => ?_⟩
  rw [hw]
  cases hash with
  | true => exact hm
  | false =>
    show (s.warden.retLanes ||| BitVec.ofNat 64 (2 ^ n)).getLsbD m = true
    rw [BitVec.getLsbD_or, hm, Bool.true_or]

/-- A marked lane is retired. -/
theorem retireLane_marks (s : State) {n : Nat} (h : n < 64) : (retireLane s false n).warden.retLanes.getLsbD n = true := by
  rw [(keeps_retireLane s false n).2]
  show (s.warden.retLanes ||| BitVec.ofNat 64 (2 ^ n)).getLsbD n = true
  rw [BitVec.getLsbD_or, getLsbD_bit h]
  simp

/-- The lanes of a kind that a test marks, retired one after another. -/
def retireMarked (hash : Bool) (m : Nat → Bool) (s : State) (l : List Nat) : State :=
  l.foldl (fun s n => if m n then retireLane s hash n else s) s

theorem retireMarked_retires (hash : Bool) (m : Nat → Bool) (l : List Nat) (s : State) : LanesRetired s (retireMarked hash m s l) := by
  induction l generalizing s with
  | nil => exact ⟨rfl, fun _ h => h⟩
  | cons n l ih =>
    refine LanesRetired.trans (t := if m n then retireLane s hash n else s) ?_ (ih _)
    split
    next => exact lanesRetired_retireLane s hash n
    next => exact ⟨rfl, fun _ h => h⟩

theorem retireMarked_marks (m : Nat → Bool) {l : List Nat} {n : Nat} (hn : n < 64) (hl : n ∈ l) (hm : m n = true) (s : State) :
    (retireMarked false m s l).warden.retLanes.getLsbD n = true := by
  induction l generalizing s with
  | nil => cases hl
  | cons j l ih =>
    obtain rfl | hl := List.mem_cons.1 hl
    · refine (retireMarked_retires false m l _).grows n ?_
      show (if m n then retireLane s false n else s).warden.retLanes.getLsbD n = true
      rw [if_pos hm]
      exact retireLane_marks s hn
    · exact ih hl _

theorem retireMarked_none (hash : Bool) {m : Nat → Bool} (h : ∀ n, m n = false) (l : List Nat) (s : State) :
    retireMarked hash m s l = s := by
  induction l generalizing s with
  | nil => rfl
  | cons n l ih =>
    show retireMarked hash m (if m n then retireLane s hash n else s) l = s
    rw [h n, if_neg (by decide)]
    exact ih s

/-- The module after ARRAY_SELFTEST (R236). -/
def arraysTested (s : State) (m64 : BitVec 64) (m16 : BitVec 16) : State :=
  retireMarked true (fun n => (~~~s.warden.retHash).getLsbD n && m16.getLsbD n)
    (retireMarked false (fun n => (testable s).getLsbD n && m64.getLsbD n) s (List.range 64)) (List.range 16)

theorem serves_arraySelftest {s : State} {k : CoreId} {e : Nat} {c : Cmd} (m64 : BitVec 64) (m16 : BitVec 16)
    (hask : Asks s k.toNat 0x8030 e c)
    (hup : s.boot.mode = .staged ∨ s.boot.mode = .service ∨ s.boot.mode = .standby ∨ s.boot.mode = .maintenance) (hfits : Fits s c 16) :
    Serves (.arraySelftest k m64 m16) s (arraysTested s m64 m16) e c
      (le 8 (testable s &&& ~~~m64).toNat ++ le 2 (~~~s.warden.retHash &&& ~~~m16).toNat ++ zeros 6) := by
  refine serves_of_work rfl hask.1 ?_ rfl
  have hup' : (s.boot.mode == .staged || s.boot.mode == .service || s.boot.mode == .standby || s.boot.mode == .maintenance) = true := by
    simpa [or_assoc] using hup
  simp only [svcArraySelftest, work_bind, work_getS, work_need, hup', if_true, work_capacity_fits hfits, work_modS, work_pure]
  rfl

/-- A mask without a bit in common with another is what it leaves of it. -/
theorem and_not_of_disjoint {w : Nat} {a b : BitVec w} (h : a &&& b = 0) : a &&& ~~~b = a := by
  refine BitVec.eq_of_getLsbD_eq fun i hi => ?_
  have hbit : (a &&& b).getLsbD i = false := by rw [h]; simp
  rw [BitVec.getLsbD_and] at hbit
  rw [BitVec.getLsbD_and, BitVec.getLsbD_not, decide_eq_true hi]
  cases ha : a.getLsbD i with
  | false => rfl
  | true => rw [ha, Bool.true_and] at hbit; rw [hbit]; rfl

theorem unmarked_of_disjoint {w : Nat} {a b : BitVec w} (h : a &&& b = 0) (n : Nat) : (a.getLsbD n && b.getLsbD n) = false := by
  rw [← BitVec.getLsbD_and, h]
  simp

theorem unitsAreTested : Claims.UnitsAreTested := by
  intro s k e c m64 m16 df ex up
  have hin (h : up) : [Mode.staged, .service, .standby, .maintenance].any (fun m => m == s.boot.mode) = true := modes_any_true (by
    simpa using h)
  refine ⟨fun hask hup hfits => ⟨fun hoff => answers_fail rfl hask.1 ?_, fun hoff hbad hdf hexp hlane hcells hok => ?_⟩,
    fun hask hmode => ?_, fun hask => ⟨fun hmode => answers_fail rfl hask.1 ?_, fun hmode h1 h2 h3 h4 h5 hfits => ?_⟩,
    fun hask => ⟨fun hdown => answers_fail rfl hask.1 ?_, fun hup hfits hl hh => ?_, fun hup hfits => ?_⟩⟩
  · simp only [svcRngSelftest, work_bind, work_inModes, hin hup, if_true, work_capacity_fits hfits, work_goOffline_busy hoff]
  · subst hdf hexp
    exact rngSelftested hask (hin hup) hfits hoff hbad hlane hcells hok
  · have hin' : [Mode.maintenance, .diagnostic].any (fun m => m == s.boot.mode) = true := modes_any_true (by simpa using hmode)
    refine ⟨fun hbad => answers_fail rfl hask.1 ?_, fun hmem hz hfits => ⟨fun hoff => answers_fail rfl hask.1 ?_,
      fun hoff hbad hlane hcells hok hpass => ?_⟩⟩
    · have hfields : (condModes.contains (u8 c.d.params 0) && zeroAt c.d.params 1 23) = false := by
        obtain h | h := hbad
        · rw [← Bool.not_eq_true, Bool.and_eq_true, List.contains_iff_mem]
          exact fun hb => h hb.1
        · rw [h, Bool.and_false]
      simp only [svcRngConfig, work_bind, work_inModes, hin', if_true, work_getC, work_need, hfields, Bool.false_eq_true, if_false]
    all_goals
      have hfields : (condModes.contains (u8 c.d.params 0) && zeroAt c.d.params 1 23) = true := by
        rw [List.contains_iff_mem.2 hmem, hz]
        rfl
    · simp only [svcRngConfig, work_bind, work_inModes, hin', if_true, work_getC, work_need, hfields, work_capacity_fits hfits,
        work_goOffline_busy hoff]
    · exact rngConfigured hask hin' hfields hfits hoff hbad hlane hcells hok hpass
  · have hout : [Mode.diagnostic].any (fun m => m == s.boot.mode) = false := modes_any_false (by simpa using hmode)
    simp only [svcRngRawRead, work_bind, work_inModes, hout, Bool.false_eq_true, if_false]
  · have hin' : [Mode.diagnostic].any (fun m => m == s.boot.mode) = true := modes_any_true (by simp [hmode])
    have hfields : (decide (u8 c.d.params 0 ≤ 63) && zeroAt c.d.params 1 3 && decide (1 ≤ u32 c.d.params 4 ∧ u32 c.d.params 4 ≤ 65536) &&
        zeroAt c.d.params 8 16) = true := by
      rw [decide_eq_true h1, h2, decide_eq_true ⟨h3, h4⟩, h5]
      rfl
    refine serves_of_work rfl hask.1 ?_ rfl
    simp only [svcRngRawRead, work_bind, work_inModes, hin', if_true, work_getC, work_need, hfields, work_capacity_fits hfits, work_get,
      work_set, work_pure]
  · have hdown' : (s.boot.mode == .staged || s.boot.mode == .service || s.boot.mode == .standby || s.boot.mode == .maintenance) = false := by
      rw [← Bool.not_eq_true]
      simpa [up, or_assoc] using hdown
    simp only [svcArraySelftest, work_bind, work_getS, work_need, hdown', Bool.false_eq_true, if_false]
  · have hserves := serves_arraySelftest m64 m16 hask hup hfits
    have hsame : arraysTested s m64 m16 = s := by
      rw [arraysTested, retireMarked_none false (unmarked_of_disjoint (show testable s &&& m64 = 0 from hl)),
        retireMarked_none true (unmarked_of_disjoint hh)]
    rw [hsame, and_not_of_disjoint (show testable s &&& m64 = 0 from hl), and_not_of_disjoint hh] at hserves
    exact hserves
  · refine ⟨_, serves_arraySelftest m64 m16 hask hup hfits, fun n hn hbit => ?_⟩
    rw [BitVec.getLsbD_and] at hbit
    exact (retireMarked_retires true _ _ _).grows n (retireMarked_marks _ hn (List.mem_range.2 hn) hbit s)

/-! ### ROLE_SWAP and PAIR_FORCE (R512, R515) -/

theorem pairServices : Claims.PairServices := by
  intro s k e c peerIn
  refine ⟨fun hask hown => ?_, fun s' c' hask hgr => ?_⟩
  · intro legal ready
    have hnot : ¬ (s.pair.swap.map (·.cmd) = some e) := by
      rw [Option.map_eq_some_iff]
      exact fun ⟨w, hw, he⟩ => hown w hw he
    have hlegal : (zeroAt c.d.params 1 23 && decide (u8 c.d.params 0 ≤ 100)) = true ↔ legal := by
      rw [Bool.and_eq_true, decide_eq_true_eq]
    have hready : (s.pair.mirroring && !s.pair.copying && s.pair.swap.isNone && !modeBusy s) = true ↔ ready := by
      simp only [Bool.and_eq_true, Bool.not_eq_true', Option.isNone_iff_eq_none, and_assoc]
      rfl
    refine ⟨fun h1 => answers_fail rfl hask.1 ?_, fun h1 h2 => answers_fail rfl hask.1 ?_, fun h1 h2 h3 => answers_fail rfl hask.1 ?_,
      fun h1 h2 h3 hfits => ?_⟩
    · simp only [svcRoleSwap, work_bind, work_get, if_neg hnot, work_need, if_neg (mt hlegal.1 h1)]
    · simp only [svcRoleSwap, work_bind, work_get, if_neg hnot, work_need, hlegal.2 h1, if_true, h2, Bool.false_eq_true, if_false]
    · simp only [svcRoleSwap, work_bind, work_get, if_neg hnot, work_need, hlegal.2 h1, if_true, h2, if_neg (mt hready.1 h3)]
    · have hex := holds_of_work (i := .roleSwap k) rfl hask.1
        (b := pairVector { s with pair := { s.pair with swap := some { cmd := e, tails := tenantTails s, handed := false } } }) (c' := c) (by
          simp only [svcRoleSwap, work_bind, work_get, if_neg hnot, work_need, hlegal.2 h1, if_true, h2, hready.2 h3,
            work_capacity_fits hfits, work_modS, work_throw])
      have hpair := keeps_setPair s { s.pair with swap := some { cmd := e, tails := tenantTails s, handed := false } }
      have hvec := keeps_msixBoth { s with pair := { s.pair with swap := some { cmd := e, tails := tenantTails s, handed := false } } }
        (32 + s.pair.vec.toNat)
      refine ⟨_, hex, only_drivePins ((hpair.comp hvec (rs := [.pair, .outbox, .msix])).comp (keeps_setCmd _ e c)), State.cmd_setCmd _ _ _, ?_⟩
      exact hvec.pair
  · have hrole : s'.pair.role = s.pair.role := by
      obtain ⟨a, ht⟩ := hgr.told
      rw [ht.pair]
    have hent : s'.entropy.failed = s.entropy.failed := by
      obtain ⟨-, rfl, -⟩ | ⟨-, g, -, rfl, -⟩ := hgr
      · rfl
      · rw [(keeps_journalNow _ _ _).entropy]
    refine ⟨fun hbad => answers_fail rfl hask.1 ?_, fun h1 h2 h3 hfail => answers_fail rfl hask.1 ?_,
      fun h1 h2 h3 hok hserve hfits => serves_of_work rfl hask.1 ?_ (by rw [hgr.cmd])⟩
    · have hno : (s'.boot.mode == .standby && s'.pair.role == .detached && !peerIn) = false := by
        rw [hgr.boot, hrole]
        obtain h | h | h := hbad
        · rw [beq_eq_false_iff_ne.2 h]; rfl
        · rw [beq_eq_false_iff_ne.2 h, Bool.and_false]; rfl
        · rw [h, Bool.not_true, Bool.and_false]
      simp only [svcPairForce, work_bind, hgr.work, work_getS, work_need, hno, Bool.false_eq_true, if_false]
    all_goals
      have hyes : (s'.boot.mode == .standby && s'.pair.role == .detached && !peerIn) = true := by
        rw [hgr.boot, hrole, h1, h2, h3]
        rfl
    · simp only [svcPairForce, work_bind, hgr.work, work_getS, work_need, hyes, if_true, hent, hfail, Bool.not_true, Bool.false_eq_true,
        if_false]
    · simp only [svcPairForce, work_bind, hgr.work, work_getS, work_need, hyes, if_true, hent, hok, Bool.not_false, hserve, Bool.not_true,
        Bool.false_eq_true, if_false, work_capacity_fits (hgr.fits hfits), work_modS, work_pure]
      rfl

/-- Settles O57, by what each service's work reaches. -/
theorem managementServices : Obligations.ManagementServices := ⟨servicesReport, tamperServices, unitsAreTested, pairServices⟩

end Sys2Proof.Machine
end

section
/-! O58: the ceremony of the domain roots (R54, R317 to R322, R325). -/

namespace Sys2Proof.Machine

open Host

/-! ### What the ceremony's services share (R317, R319, R321) -/

theorem Granted.failed {s s' : State} {c c' : Cmd} (h : Granted s c s' c') : s'.entropy.failed = s.entropy.failed := by
  obtain ⟨-, rfl, -⟩ | ⟨-, g, -, rfl, -⟩ := h
  · rfl
  · rw [(keeps_journalNow _ _ _).entropy]

theorem Granted.slots {s s' : State} {c c' : Cmd} (h : Granted s c s' c') : s'.slots = s.slots := by
  obtain ⟨a, ht⟩ := h.told
  exact ht.keeps.slots

/-- What the grant and the entry of a ceremony's service leave. -/
structure Begun (s : State) (c : Cmd) (s' : State) (c' : Cmd) : Prop where
  work : ∀ e, work ceremonyStart s e c = (.ok (), ⟨s', e, c'⟩)
  input : c'.input = c.input
  stateChanging : c'.stateChanging = c.stateChanging
  boot : s'.boot = s.boot
  warden : s'.warden = s.warden
  keys : s'.keys = s.keys
  slots : s'.slots = s.slots
  failed : s'.entropy.failed = s.entropy.failed
  fits : ∀ {n}, Fits s c n → Fits s' c' n

theorem CeremonyAsks.begun {s s' : State} {k : CoreId} {op : Code} {e : Nat} {c c' : Cmd} (h : CeremonyAsks s k op e c s' c') :
    Begun s c s' c' := by
  obtain ⟨-, hmode, c1, hgr, rfl⟩ := h
  have hin : [Mode.maintenance].any (fun m => m == s'.boot.mode) = true := modes_any_true (by rw [hgr.boot]; simp [hmode])
  refine ⟨fun e => ?_, hgr.input, by rw [hgr.cmd], hgr.boot, hgr.warden, hgr.keys, hgr.slots, hgr.failed, fun hf => hgr.fits hf⟩
  simp only [ceremonyStart, work_bind, hgr.work, journalled, work_modC, work_inModes, hin, if_true]

section
variable {s : State} {e : Nat} {c : Cmd}

theorem work_openCeremony {y : Ceremony} (h : s.keys.ceremony = some y) : work openCeremony s e c = (.ok y, ⟨s, e, c⟩) := by
  simp only [openCeremony, work_bind, work_getS, h, work_pure]

theorem work_openCeremony_none (h : s.keys.ceremony = none) : work openCeremony s e c = (.error (.fail modeRefused), ⟨s, e, c⟩) := by
  simp only [openCeremony, work_bind, work_getS, h, work_fail]

theorem work_officerOf {i : Nat} (h : i < u8 s.boot.officers 0) :
    work (officerOf i) s e c = (.ok (officerKey s.boot.officers i), ⟨s, e, c⟩) := by
  simp only [officerOf, work_bind, work_getS, work_need, decide_eq_true h, if_true, work_pure]

theorem work_draws {i n : Nat} {d : Octets × State} (hok : s.entropy.failed = false) (h : Draws s i n d) :
    work (randomFrom i n) s e c = (.ok d.1, ⟨d.2, e, c⟩) := by
  obtain ⟨hserve, rfl⟩ := h
  simp only [randomFrom, work_bind, work_get, hok, hserve, Bool.false_eq_true, if_false, Bool.not_true, work_set, work_pure]

/-- A draw neither fails the unit nor touches the boot unit or the keys. -/
theorem Draws.failed {i n : Nat} {d : Octets × State} (h : Draws s i n d) : d.2.entropy.failed = s.entropy.failed := by
  obtain ⟨-, rfl⟩ := h
  unfold generate
  dsimp only
  split <;> rfl

end

/-! ### DR_ERASE and the timeout (R321, R322, R325) -/

theorem rootsAreErased : Claims.RootsAreErased := by
  intro s k e c s' c'
  dsimp only
  refine ⟨fun h => ?_, rfl⟩
  have hb := h.begun
  obtain ⟨hask, -⟩ := h
  have hany : s'.slots.table.any (fun x => x.2.f.domain.toNat == u8 c.input 0) = true ↔ ∃ x ∈ s.slots.table, x.2.f.domain.toNat = u8 c.input 0 := by
    rw [hb.slots]
    simp only [List.any_eq_true, beq_iff_eq]
  refine ⟨fun hd => answers_fail rfl hask.1 ?_, fun hd hused => answers_fail rfl hask.1 ?_,
    fun hd hfree hfits => serves_of_work rfl hask.1 ?_ hb.stateChanging⟩
  · simp only [svcDrErase, work_bind, hb.work, work_getIn, work_getS, work_need, hb.input, decide_eq_false (Nat.not_lt.2 hd),
      Bool.false_eq_true, if_false]
  · simp only [svcDrErase, work_bind, hb.work, work_getIn, work_getS, work_need, hb.input, decide_eq_true hd, if_true, hany.2 hused,
      Bool.not_true, Bool.false_eq_true, if_false]
  · have hnone : s'.slots.table.any (fun x => x.2.f.domain.toNat == u8 c.input 0) = false := by
      rw [← Bool.not_eq_true, hany]
      exact fun ⟨x, hx, he⟩ => hfree x hx he
    simp only [svcDrErase, work_bind, hb.work, work_getIn, work_getS, work_need, hb.input, decide_eq_true hd, if_true, hnone,
      Bool.not_false, work_capacity_fits (hb.fits hfits), work_modS, work_pure]

/-! ### CEREMONY_COMMIT (R54, R318, R320) -/

/-- The module with a root entered and the ceremony gone. -/
def rootEntered (s : State) (y : Ceremony) (root check : Octets) : State := { s with
  warden := { s.warden with
    roots := insertAt s.warden.roots y.index { root := root, check := check, legacy := y.legacy, m := y.m, n := y.n } }
  keys := { s.keys with ceremony := none } }

theorem installRoot_eq (s : State) (y : Ceremony) (root check : Octets) : installRoot s y root check =
    if s.warden.lc = .issued then setLifeCycle (rootEntered s y root check) .commissioned 0x8053 else rootEntered s y root check := rfl

theorem installRoot_facts (s : State) (y : Ceremony) (root check : Octets) :
    lookup (installRoot s y root check).warden.roots y.index =
        some { root := root, check := check, legacy := y.legacy, m := y.m, n := y.n } ∧
      (∀ d, d ≠ y.index → lookup (installRoot s y root check).warden.roots d = lookup s.warden.roots d) ∧
      (installRoot s y root check).keys.ceremony = none ∧
      (installRoot s y root check).warden.lc = (if s.warden.lc = .issued then .commissioned else s.warden.lc) := by
  have hroots : (installRoot s y root check).warden.roots = (rootEntered s y root check).warden.roots := by
    rw [installRoot_eq]
    split
    next => rw [setLifeCycle_warden]
    next => rfl
  rw [hroots]
  refine ⟨lookup_insertAt_same _ _ _, fun d hd => lookup_insertAt_other _ _ _ _ hd, ?_, ?_⟩
  · rw [installRoot_eq]
    split
    next => rw [(keeps_setLifeCycle _ _ _).keys]; rfl
    next => rfl
  · rw [installRoot_eq]
    split
    next => rw [setLifeCycle_warden]
    next => rfl

theorem rootsAreInstalled : Claims.RootsAreInstalled := by
  intro s k e c s' c' y h
  have hb := h.begun
  obtain ⟨hask, -⟩ := h
  refine ⟨fun hnone => answers_fail rfl hask.1 ?_, fun hsome => ?_⟩
  · simp only [svcCeremonyCommit, work_bind, hb.work, work_openCeremony_none (s := s') (by rw [hb.keys, hnone])]
  have hopen : ∀ {e c}, work openCeremony s' e c = (.ok y, ⟨s', e, c⟩) := work_openCeremony (by rw [hb.keys, hsome])
  intro root check complete agrees
  have hserves (hex : Serves (.ceremonyCommit k) s (installRoot s' y root check) e c' check) :
      Gives (.ceremonyCommit k) s fun t =>
        lookup t.warden.roots y.index = some { root := root, check := check, legacy := y.legacy, m := y.m, n := y.n } ∧
        (∀ d, d ≠ y.index → lookup t.warden.roots d = lookup s.warden.roots d) ∧ t.keys.ceremony = none ∧
        t.warden.lc = (if s.warden.lc = .issued then .commissioned else s.warden.lc) ∧ t.cmd e = some (c'.result stOk check) := by
    obtain ⟨h1, h2, h3, h4⟩ := installRoot_facts s' y root check
    rw [hb.warden] at h2 h4
    exact ⟨_, hex, h1, h2, h3, h4, State.cmd_setCmd _ _ _⟩
  cases hload : y.isLoad with
  | true =>
    have hroot : root = combineShares ((y.shares.take y.m).map (fun x => (x.1, x.2.1))) := if_pos hload
    have hcheck : check = drCheck (combineShares ((y.shares.take y.m).map (fun x => (x.1, x.2.1)))) := congrArg drCheck hroot
    have hcomplete : complete ↔ y.shares.length ≥ y.m := by simp only [complete, hload, if_true, ge_iff_le]
    have hagrees : (drCheck (combineShares ((y.shares.take y.m).map (fun x => (x.1, x.2.1)))) == y.expect &&
        y.shares.all (fun x => x.2.2 == drCheck (combineShares ((y.shares.take y.m).map (fun x => (x.1, x.2.1)))))) = true ↔ agrees := by
      rw [← hcheck, Bool.and_eq_true, beq_iff_eq, List.all_eq_true]
      simp only [beq_iff_eq]
      exact ⟨fun hh _ => hh, fun hh => hh hload⟩
    refine ⟨fun hno => answers_fail rfl hask.1 ?_, fun hyes hno => answers_fail rfl hask.1 ?_, fun hyes hag hfits =>
      hserves (serves_of_work rfl hask.1 ?_ hb.stateChanging)⟩
    · simp only [svcCeremonyCommit, work_bind, hb.work, hopen, hload, if_true, work_need, decide_eq_false (mt hcomplete.2 hno),
        Bool.false_eq_true, if_false]
    · simp only [svcCeremonyCommit, work_bind, hb.work, hopen, hload, if_true, work_need, decide_eq_true (hcomplete.1 hyes),
        if_neg (mt hagrees.1 hno)]
    · simp only [svcCeremonyCommit, work_bind, hb.work, hopen, hload, if_true, work_need, decide_eq_true (hcomplete.1 hyes),
        hagrees.2 hag, work_capacity_fits (hb.fits hfits), work_modS, work_pure, hroot, hcheck]
  | false =>
    have hroot : root = y.root := if_neg (by rw [hload]; decide)
    have hcheck : check = drCheck y.root := congrArg drCheck hroot
    have hcomplete : complete ↔ y.exported.length = y.n := by simp only [complete, hload, Bool.false_eq_true, if_false]
    refine ⟨fun hno => answers_fail rfl hask.1 ?_, fun hyes hno => absurd (fun hl => ?_) hno, fun hyes hag hfits =>
      hserves (serves_of_work rfl hask.1 ?_ hb.stateChanging)⟩
    · simp only [svcCeremonyCommit, work_bind, hb.work, hopen, hload, Bool.false_eq_true, if_false, work_need,
        decide_eq_false (mt hcomplete.2 hno)]
    · rw [hload] at hl
      cases hl
    · simp only [svcCeremonyCommit, work_bind, hb.work, hopen, hload, Bool.false_eq_true, if_false, work_need,
        decide_eq_true (hcomplete.1 hyes), if_true, work_capacity_fits (hb.fits hfits), work_modS, work_pure, hroot, hcheck]

/-! ### SHARE_EXPORT and SHARE_SUBMIT (R317 to R319, R321) -/

theorem sharesTravel : Claims.SharesTravel := by
  intro s k e c s' c' y
  dsimp only
  refine ⟨fun h => ?_, fun h => ?_⟩
  all_goals
    have hb := h.begun
    obtain ⟨hask, -⟩ := h
  · refine ⟨fun hnone => answers_fail rfl hask.1 ?_, fun hsome hz hload hidx => ?_⟩
    · simp only [svcShareExport, work_bind, hb.work, work_openCeremony_none (s := s') (by rw [hb.keys, hnone])]
    have hopen : ∀ {e c}, work openCeremony s' e c = (.ok y, ⟨s', e, c⟩) := work_openCeremony (by rw [hb.keys, hsome])
    refine ⟨fun hmem => answers_fail rfl hask.1 ?_, fun hfresh hoff => ?_⟩
    · have hbad : (zeroAt c.input 1 7 && !y.isLoad && decide (u8 c.input 0 < y.n) && !y.exported.contains (u8 c.input 0 + 1)) = false := by
        rw [List.contains_iff_mem.2 hmem, Bool.not_true, Bool.and_false]
      simp only [svcShareExport, work_bind, hb.work, hopen, work_getIn, hb.input, work_need, hbad, Bool.false_eq_true, if_false]
    have hgood : (zeroAt c.input 1 7 && !y.isLoad && decide (u8 c.input 0 < y.n) && !y.exported.contains (u8 c.input 0 + 1)) = true := by
      have hnot : y.exported.contains (u8 c.input 0 + 1) = false := by
        rw [← Bool.not_eq_true, List.contains_iff_mem]
        exact hfresh
      rw [hz, hload, decide_eq_true hidx, hnot]
      rfl
    have hofficer : ∀ {e c0}, work (officerOf (u8 c.input 0)) s' e c0 = (.ok (officerKey s'.boot.officers (u8 c.input 0)), ⟨s', e, c0⟩) :=
      work_officerOf (by rw [hb.boot]; exact hoff)
    rw [← hb.boot]
    refine ⟨fun hsig => answers_fail rfl hask.1 ?_, fun peer d v chk hsig hpeer hfits hok hdraw hfind =>
      serves_of_work rfl hask.1 ?_ hb.stateChanging⟩
    · simp only [svcShareExport, work_bind, hb.work, hopen, work_getIn, hb.input, work_need, hgood, if_true, hofficer, hsig,
        Bool.false_eq_true, if_false]
    · have hdrawn : ∀ {e c}, work (randomFrom 6 56) s' e c = (.ok d.1, ⟨d.2, e, c⟩) := work_draws (hb.failed.trans hok) hdraw
      simp only [svcShareExport, work_bind, hb.work, hopen, work_getIn, hb.input, work_need, hgood, if_true, hofficer, hsig, work_liftE,
        hpeer, work_capacity_fits (hb.fits hfits), hdrawn, hfind, setCeremony, work_modS, work_pure]
      rfl
  · refine ⟨fun hnone => answers_fail rfl hask.1 ?_, fun hsome hz hload hoff => ?_⟩
    · simp only [svcShareSubmit, work_bind, hb.work, work_openCeremony_none (s := s') (by rw [hb.keys, hnone])]
    have hopen : ∀ {e c}, work openCeremony s' e c = (.ok y, ⟨s', e, c⟩) := work_openCeremony (by rw [hb.keys, hsome])
    have hofficer : ∀ {e c0}, work (officerOf (u8 c.input 0)) s' e c0 = (.ok (officerKey s'.boot.officers (u8 c.input 0)), ⟨s', e, c0⟩) :=
      work_officerOf (by rw [hb.boot]; exact hoff)
    have hgood : (zeroAt c.input 1 7 && y.isLoad) = true := by rw [hz, hload]; rfl
    rw [← hb.boot]
    refine ⟨fun hsig => answers_fail rfl hask.1 ?_, fun peer hsig hpeer => ⟨fun hnone => answers_fail rfl hask.1 ?_, fun p hp =>
      ⟨fun hno => answers_fail rfl hask.1 ?_, fun hag hfits => serves_of_work rfl hask.1 ?_ hb.stateChanging⟩⟩⟩
    · simp only [svcShareSubmit, work_bind, hb.work, hopen, work_getIn, hb.input, work_need, hgood, if_true, hofficer, if_neg hsig]
    · simp only [svcShareSubmit, work_bind, hb.work, hopen, work_getIn, hb.input, work_need, hgood, if_true, hofficer, hsig, work_liftE,
        hpeer, hnone, work_fail]
    all_goals
      have hagrees : (decide (u8 p 1 = y.index ∧ u8 p 2 = y.m ∧ u8 p 3 = y.n ∧ 1 ≤ u8 p 0 ∧ u8 p 0 ≤ y.n) && zeroAt p 4 4 &&
          !(y.shares.any (fun z => z.1 == u8 p 0))) = true ↔ u8 p 1 = y.index ∧ u8 p 2 = y.m ∧ u8 p 3 = y.n ∧ 1 ≤ u8 p 0 ∧ u8 p 0 ≤ y.n ∧
            zeroAt p 4 4 = true ∧ ∀ z ∈ y.shares, z.1 ≠ u8 p 0 := by
        simp only [Bool.and_eq_true, decide_eq_true_eq, Bool.not_eq_true', List.any_eq_false, beq_iff_eq, and_assoc, ne_eq]
    · simp only [svcShareSubmit, work_bind, hb.work, hopen, work_getIn, hb.input, work_need, hgood, if_true, hofficer, hsig, work_liftE,
        hpeer, hp, if_neg (mt hagrees.1 hno)]
    · simp only [svcShareSubmit, work_bind, hb.work, hopen, work_getIn, hb.input, work_need, hgood, if_true, hofficer, hsig, work_liftE,
        hpeer, hp, hagrees.2 hag, work_capacity_fits (hb.fits hfits), setCeremony, work_modS, work_pure]
      rfl

/-! ### CEREMONY_BEGIN (R317 to R319) -/

theorem ceremoniesBegin : Claims.CeremoniesBegin := by
  intro s k e c s' c' d1 d2 d3 d4 sig b
  dsimp only
  intro h hok
  have hb := h.begun
  obtain ⟨hask, -⟩ := h
  have hok' : s'.entropy.failed = false := hb.failed.trans hok
  have hlegal : (decide (u8 c.input 0 < 16 ∧ (u8 c.input 1 = 1 ∨ u8 c.input 1 = 2) ∧ u8 c.input 4 < 2) && zeroAt c.input 5 3 &&
      ((u8 c.input 1 == 2) || zeroAt c.input 8 8)) = true ↔ u8 c.input 0 < 16 ∧ (u8 c.input 1 = 1 ∨ u8 c.input 1 = 2) ∧ u8 c.input 4 < 2 ∧
        zeroAt c.input 5 3 = true ∧ ((u8 c.input 1 == 2) = true ∨ zeroAt c.input 8 8 = true) := by
    simp only [Bool.and_eq_true, decide_eq_true_eq, Bool.or_eq_true, and_assoc]
  have hdr : drInstalled s' (u8 c.input 0) = drInstalled s (u8 c.input 0) := by
    unfold drInstalled
    rw [hb.warden]
  simp only [← hlegal]
  refine ⟨fun hno => answers_fail rfl hask.1 ?_, fun hyes hhas => answers_fail rfl hask.1 ?_, fun hyes hhas => ?_⟩
  · simp only [svcCeremonyBegin, work_bind, hb.work, work_getIn, work_getS, hb.input, work_need, if_neg hno]
  · simp only [svcCeremonyBegin, work_bind, hb.work, work_getIn, work_getS, hb.input, work_need, hyes, if_true, hdr, hhas, Bool.not_true,
      Bool.false_eq_true, if_false]
  have hsmall : u8 c.input 4 < 2 := (hlegal.1 hyes).2.2.1
  have hlegacy : ((u8 c.input 1 == 2) || !(u8 c.input 4).testBit 0) = true ↔ (u8 c.input 1 == 2) = true ∨ u8 c.input 4 = 0 := by
    rw [Bool.or_eq_true, Bool.not_eq_true', Nat.testBit_zero, decide_eq_false_iff_not]
    exact or_congr_right ⟨fun _ => by omega, fun _ => by omega⟩
  have hcounts : decide (2 ≤ u8 c.input 2 ∧ u8 c.input 2 ≤ u8 c.input 3 ∧ u8 c.input 3 ≤ 16 ∧
      u8 c.input 3 ≤ (s'.warden.officers.map (fun x => x.2.2)).getD 0) = true ↔ 2 ≤ u8 c.input 2 ∧ u8 c.input 2 ≤ u8 c.input 3 ∧
        u8 c.input 3 ≤ 16 ∧ u8 c.input 3 ≤ (s.warden.officers.map (fun x => x.2.2)).getD 0 := by
    rw [decide_eq_true_eq, hb.warden]
  refine ⟨fun hno => answers_fail rfl hask.1 ?_, fun hsh hopen => answers_fail rfl hask.1 ?_, fun hsh hnone hfits h1 h2 => ?_⟩
  · by_cases hc : decide (2 ≤ u8 c.input 2 ∧ u8 c.input 2 ≤ u8 c.input 3 ∧ u8 c.input 3 ≤ 16 ∧
        u8 c.input 3 ≤ (s'.warden.officers.map (fun x => x.2.2)).getD 0) = true
    · have hl : ¬ ((u8 c.input 1 == 2) || !(u8 c.input 4).testBit 0) = true := fun hl =>
        hno ⟨(hcounts.1 hc).1, (hcounts.1 hc).2.1, (hcounts.1 hc).2.2.1, (hcounts.1 hc).2.2.2, hlegacy.1 hl⟩
      simp only [svcCeremonyBegin, work_bind, hb.work, work_getIn, work_getS, hb.input, work_need, hyes, if_true, hdr, hhas, Bool.not_false,
        hc, if_neg hl]
    · simp only [svcCeremonyBegin, work_bind, hb.work, work_getIn, work_getS, hb.input, work_need, hyes, if_true, hdr, hhas, Bool.not_false,
        if_neg hc]
  all_goals
    obtain ⟨hm2, hmn, hn16, hoff, hleg⟩ := hsh
    have hc := hcounts.2 ⟨hm2, hmn, hn16, hoff⟩
    have hl := hlegacy.2 hleg
  · have hbusy : s'.keys.ceremony.isNone = false := by
      rw [hb.keys]
      exact Option.isNone_eq_false_iff.2 (Option.isSome_iff_ne_none.2 hopen)
    simp only [svcCeremonyBegin, work_bind, hb.work, work_getIn, work_getS, hb.input, work_need, hyes, if_true, hdr, hhas, Bool.not_false,
      hc, hl, hbusy, Bool.false_eq_true, if_false]
  · have hfree : s'.keys.ceremony.isNone = true := by rw [hb.keys, hnone]; rfl
    have hok1 := h1.failed.trans hok'
    have hw1 : ∀ {e c}, work (randomFrom 6 16) s' e c = (.ok d1.1, ⟨d1.2, e, c⟩) := work_draws hok' h1
    have hw2 : ∀ {e c}, work (randomFrom 6 56) d1.2 e c = (.ok d2.1, ⟨d2.2, e, c⟩) := work_draws hok1 h2
    have hok2 := h2.failed.trans hok1
    refine ⟨fun hload hsign => serves_of_work rfl hask.1 ?_ hb.stateChanging, fun hgen h3 h4 hsign =>
      serves_of_work rfl hask.1 ?_ hb.stateChanging⟩
    · have hws := work_identitySign hsign e c'
      have hyes' := hyes
      have hl' := hl
      rw [hload] at hyes' hl'
      simp only [svcCeremonyBegin, work_bind, hb.work, work_getIn, work_getS, hb.input, work_need, hload, hyes', if_true, hdr, hhas,
        Bool.not_false, hc, hl', hfree, work_capacity_fits (hb.fits hfits), hw1, hw2, work_pure]
      rw [show work (identitySign k.toNat (d1.1 ++ publicP384 (be 48 (scalarDraw d2.1)) ++ zeros 15)) d2.2 e c' = _ from hws]
      rfl
    · have hws := work_identitySign hsign e c'
      have hyes' := hyes
      have hl' := hl
      rw [hgen] at hyes' hl'
      have hw3 : ∀ {e c}, work (randomFrom 6 32) d2.2 e c = (.ok d3.1, ⟨d3.2, e, c⟩) := work_draws hok2 h3
      have hw4 : ∀ {e c0}, work (randomFrom 6 (32 * (u8 c.input 2 - 1))) d3.2 e c0 = (.ok d4.1, ⟨d4.2, e, c0⟩) :=
        work_draws (h3.failed.trans hok2) h4
      simp only [svcCeremonyBegin, work_bind, hb.work, work_getIn, work_getS, hb.input, work_need, hgen, hyes', if_true, hdr, hhas,
        Bool.not_false, hc, hl', hfree, work_capacity_fits (hb.fits hfits), hw1, hw2, hw3, hw4, Bool.false_eq_true, if_false]
      rw [show work (identitySign k.toNat (d1.1 ++ publicP384 (be 48 (scalarDraw d2.1)) ++ zeros 15)) d4.2 e c' = _ from hws]
      rfl

/-- Settles O58, by the grant and the entry of a ceremony's service, and what its work reaches from there. -/
theorem domainRootCeremony : Obligations.DomainRootCeremony :=
  ⟨ceremoniesBegin, sharesTravel, rootsAreInstalled, rootsAreErased⟩

end Sys2Proof.Machine
end

section
/-! O59: register writes (R6, R7, R44, R63, R76 to R81, R98, R99, R141, R437, R471, R501, R524). -/

namespace Sys2Proof.Machine
open Host

section RegisterWrites

variable {s t : State} {fn : Fn} {b bar2 : Bool} {i o n off : Nat} {w : BitVec 32} {v : BitVec 64}

/-! ### Where an offset falls -/

theorem inBlock_at {base size count : Nat} (hi : i < count) (ho : o < size) :
    inBlock base size count (base + size * i + o) = some (i, o) := by
  have hle : size * i + size ≤ size * count := Nat.mul_succ size i ▸ Nat.mul_le_mul_left size hi
  have hsub : base + size * i + o - base = size * i + o := by omega
  rw [inBlock, if_pos (by omega), hsub, Nat.mul_add_div (by omega), Nat.div_eq_of_lt ho, Nat.mul_add_mod,
    Nat.mod_eq_of_lt ho, Nat.add_zero]

theorem inBlock_outside {base size count : Nat} (h : off < base ∨ base + size * count ≤ off) :
    inBlock base size count off = none :=
  if_neg (by omega)

/-- An offset of BAR0 of PF0 that lies in no ring configuration, in no doorbell, and in no half of a 64-bit register. -/
abbrev PlainOffset (off : Nat) : Prop :=
  off < 2 ^ 16 ∧ off % 4 = 0 ∧ (off < 0x0140 ∨ 0x0180 ≤ off) ∧ (off < 0x1100 ∨ 0x1300 ≤ off) ∧ (off < 0x1400 ∨ 0x1800 ≤ off) ∧
  off / 8 * 8 ∉ [0x4008, 0x4018, 0x4020]

/-- No 64-bit register stands outside the ring configurations, RELAY_IN and the three of the journal. -/
theorem writeLong_none {f : BitVec 64 → BitVec 64} {acts : Bool} (hcfg : inBlock (cfgBase fn) 0x20 (phShown fn) off = none)
    (hrest : fn.vf = 0 → (off < 0x0140 ∨ 0x0180 ≤ off) ∧ off ∉ [0x4008, 0x4018, 0x4020]) : writeLong s fn off f acts = none := by
  rw [writeLong, hcfg]
  by_cases hvf : fn.vf = 0
  · obtain ⟨hrelay, hjournal⟩ := hrest hvf
    simp only [List.mem_cons, List.not_mem_nil, or_false, not_or] at hjournal
    obtain ⟨h4008, h4018, h4020⟩ := hjournal
    dsimp only
    rw [if_neg (not_not.mpr hvf), inBlock_outside hrelay]
    dsimp only
    rw [if_neg h4008, if_neg h4018, if_neg h4020]
  · exact if_pos hvf

theorem writeWord_plain (h : PlainOffset off) : writeWord s ⟨b, 0⟩ false off w = writePf0 s b off w := by
  obtain ⟨-, -, hrelay, hbell, hcfg, hjournal⟩ := h
  have hnoCfg {x : Nat} (hx : x < 0x1400 ∨ 0x1800 ≤ x) : inBlock (cfgBase ⟨b, 0⟩) 0x20 (phShown ⟨b, 0⟩) x = none :=
    inBlock_outside hx
  have hnoBell : inBlock (bellBase ⟨b, 0⟩) 0x10 (phShown ⟨b, 0⟩) off = none := inBlock_outside hbell
  rw [writeWord, if_neg Bool.false_ne_true, writeLong_none (hnoCfg (by omega)) fun _ => ⟨by omega, hjournal⟩,
    hnoCfg hcfg, hnoBell]
  rfl

theorem writeLong_cfg {o : Nat} (hi : i < phShown fn) (ho : o < 0x20) (f : BitVec 64 → BitVec 64) (acts : Bool) :
    writeLong s fn (cfgBase fn + 0x20 * i + o) f acts =
      if o = 0 then some (writeBase s fn i false f) else if o = 8 then some (writeBase s fn i true f) else none := by
  rw [writeLong, inBlock_at hi ho]
  by_cases h0 : o = 0
  · subst h0; rfl
  by_cases h8 : o = 8
  · subst h8; rfl
  · simp [h0, h8]

/-- The word at offset o, from 0x10 on, of a ring configuration. -/
theorem writeWord_cfg {o : Nat} (hi : i < phShown fn) (ho : o < 0x20) (hlow : 0x10 ≤ o) :
    writeWord s fn false (cfgBase fn + 0x20 * i + o) w = writeConfig s fn i o w := by
  have hround : (cfgBase fn + 0x20 * i + o) / 8 * 8 = cfgBase fn + 0x20 * i + o / 8 * 8 := by
    unfold cfgBase; split <;> omega
  have hlong := writeLong_cfg (s := s) hi (show o / 8 * 8 < 0x20 by omega)
  have h0 : o / 8 * 8 ≠ 0 := by omega
  have h8 : o / 8 * 8 ≠ 8 := by omega
  simp only [h0, h8, if_false] at hlong
  rw [writeWord, if_neg Bool.false_ne_true, hround, hlong, inBlock_at hi ho]

/-- A half of SQ_BASE or CQ_BASE. -/
theorem writeWord_base {o : Nat} (hi : i < phShown fn) (ho : o < 0x10) :
    ∃ f, writeWord s fn false (cfgBase fn + 0x20 * i + o) w = writeBase s fn i (decide (8 ≤ o)) f := by
  have hround : (cfgBase fn + 0x20 * i + o) / 8 * 8 = cfgBase fn + 0x20 * i + o / 8 * 8 := by
    unfold cfgBase; split <;> omega
  have hlong := writeLong_cfg (s := s) hi (show o / 8 * 8 < 0x20 by omega)
  rw [writeWord, if_neg Bool.false_ne_true, hround, hlong]
  by_cases h8 : 8 ≤ o
  · exact ⟨_, by simp [show o / 8 * 8 = 8 by omega, h8]; rfl⟩
  · exact ⟨_, by simp [show o / 8 * 8 = 0 by omega, h8]; rfl⟩

theorem writeWord_bell {o : Nat} (hi : i < phShown fn) (ho : o < 0x10) :
    writeWord s fn false (bellBase fn + 0x10 * i + o) w = writeBell s fn i o w := by
  have hnoCfg {x : Nat} (hx : x ≤ bellBase fn + 0x10 * i + o) : inBlock (cfgBase fn) 0x20 (phShown fn) x = none := by
    refine inBlock_outside (.inl ?_)
    revert hi hx; unfold bellBase cfgBase phShown; split <;> omega
  have hrest (hvf : fn.vf = 0) : bellBase fn + 0x10 * i + o < 0x1300 ∧ 0x1100 ≤ bellBase fn := by
    revert hi; rw [bellBase, phShown, if_pos hvf, if_pos hvf]; omega
  rw [writeWord, if_neg Bool.false_ne_true, writeLong_none (hnoCfg (Nat.div_mul_le_self _ _)) fun hvf => ?_,
    hnoCfg le_rfl, inBlock_at hi ho]
  obtain ⟨hhigh, hlow⟩ := hrest hvf
  refine ⟨by omega, ?_⟩
  simp only [List.mem_cons, List.not_mem_nil, or_false, not_or]
  omega

theorem writeWord_msix (hi : i < 40) (ho : o < 0x10) :
    writeWord s ⟨b, 0⟩ true (0x10 * i + o) w = writeMsix s ⟨b, 0⟩ i o w := by
  have hdiv : (0x10 * i + o) / 0x10 = i := by omega
  have hmod : (0x10 * i + o) % 0x10 = o := by omega
  rw [writeWord, if_pos rfl, if_pos ⟨rfl, by omega⟩, hdiv, hmod]

/-! ### The write itself (R6, R7, R76) -/

theorem write_unreachable {wide : Bool} {x : BitVec 16} (h : fnReachable s fn = false) :
    exec (.registerWrite fn bar2 x wide v) s = answer s :=
  congrArg answer (if_pos (by simp [h]))

/-- An address that is no multiple of the size of the write (R6). -/
theorem write_misaligned {wide : Bool} {x : BitVec 16} (h : x.toNat % (if wide then 8 else 4) ≠ 0) :
    exec (.registerWrite fn bar2 x wide v) s = answer s := by
  by_cases h4 : x.toNat % 4 = 0
  · cases wide with
    | false => exact absurd h4 h
    | true =>
      cases hreach : fnReachable s fn with
      | false => exact write_unreachable hreach
      | true =>
        refine congrArg answer ((if_neg (by simp [hreach, h4])).trans ?_)
        exact (if_neg (by decide)).trans (if_pos h)
  · exact congrArg answer (if_pos (by simp [h4]))

/-- A 32-bit write of a function that the host can reach. -/
theorem write_word (hreach : fnReachable s fn = true) (hlt : off < 2 ^ 16) (h4 : off % 4 = 0) :
    exec (.registerWrite fn bar2 (BitVec.ofNat 16 off) false (w.setWidth 64)) s = answer (writeWord s fn bar2 off w) := by
  have hoff : (BitVec.ofNat 16 off).toNat = off := (BitVec.toNat_ofNat off 16).trans (Nat.mod_eq_of_lt hlt)
  have hw : (w.setWidth 64).setWidth 32 = w := BitVec.setWidth_setWidth_of_le w (by decide)|>.trans (BitVec.setWidth_eq w)
  refine congrArg answer ((if_neg ?_).trans ((if_pos rfl).trans ?_))
  · simp [hreach, hoff, h4]
  · rw [hoff, hw]

/-- A 64-bit write to a 64-bit register. -/
theorem write_long (hreach : fnReachable s fn = true) (hlt : off < 2 ^ 16) (h8 : off % 8 = 0)
    (hlong : writeLong s fn off (fun _ => v) true = some t) :
    exec (.registerWrite fn false (BitVec.ofNat 16 off) true v) s = answer t := by
  have hoff : (BitVec.ofNat 16 off).toNat = off := (BitVec.toNat_ofNat off 16).trans (Nat.mod_eq_of_lt hlt)
  refine congrArg answer ((if_neg ?_).trans ((if_neg (by decide)).trans ((if_neg (by rw [hoff]; omega)).trans ?_)))
  · simp [hreach, hoff]; omega
  · rw [hoff, if_neg Bool.false_ne_true, hlong]

theorem reachable_pf0 (hup : (s.port b).linkUp = true) : fnReachable s ⟨b, 0⟩ = true := by
  simp [fnReachable, hup]

theorem write_plain (hup : (s.port b).linkUp = true) (h : PlainOffset off) :
    exec (pf0Write b off w) s = answer (writePf0 s b off w) :=
  (write_word (reachable_pf0 hup) h.1 h.2.1).trans (congrArg answer (writeWord_plain h))

theorem write_msix (hup : (s.port b).linkUp = true) (hi : i < 40) (ho : o < 0x10) (h4 : o % 4 = 0) :
    exec (.registerWrite ⟨b, 0⟩ true (BitVec.ofNat 16 (0x10 * i + o)) false (w.setWidth 64)) s =
      answer (writeMsix s ⟨b, 0⟩ i o w) :=
  (write_word (reachable_pf0 hup) (by omega) (by omega)).trans (congrArg answer (writeWord_msix hi ho))

/-- The three 64-bit registers of the journal block (R471). -/
theorem writeLong_journal (s : State) (b : Bool) (f : BitVec 64 → BitVec 64) (acts : Bool) (h : 0x4000 ≤ off) :
    writeLong s ⟨b, 0⟩ off f acts =
      if off = 0x4008 then some (writeJournal s b fun j => { j with streamBase := f j.streamBase })
      else if off = 0x4018 then some (writeJournal s b fun j => { j with startSeq := f j.startSeq })
      else if off = 0x4020 then some (leave (exec (.journalHead b (f s.journal.head)) s) s)
      else none := by
  have hnoCfg : inBlock (cfgBase ⟨b, 0⟩) 0x20 (phShown ⟨b, 0⟩) off = none :=
    inBlock_outside (base := 0x1400) (size := 0x20) (count := 32) (.inr (by omega))
  rw [writeLong, hnoCfg, inBlock_outside (base := 0x0140) (.inr (by omega))]
  rfl

theorem write_journal (hup : (s.port b).linkUp = true) (hoff : off = 0x4008 ∨ off = 0x4018 ∨ off = 0x4020)
    (hlong : writeLong s ⟨b, 0⟩ off (fun _ => v) true = some t) :
    exec (.registerWrite ⟨b, 0⟩ false (BitVec.ofNat 16 off) true v) s = answer t :=
  write_long (reachable_pf0 hup) (by omega) (by omega) hlong

/-! ### What the writes of one pigeonhole do (R78 to R81) -/

theorem AtPh.reachable (h : AtPh s fn i n) : fnReachable s fn = true := h.1

theorem cfg_lt (hi : i < phShown fn) (ho : o < 0x20) : cfgBase fn + 0x20 * i + o < 2 ^ 16 := by
  revert hi; unfold cfgBase phShown; split <;> omega

theorem cfg_mod (fn : Fn) (i : Nat) : cfgBase fn % 8 = 0 ∧ (cfgBase fn + 0x20 * i) % 8 = 0 := by
  unfold cfgBase; split <;> omega

theorem bell_lt (hi : i < phShown fn) (ho : o < 0x10) : bellBase fn + 0x10 * i + o < 2 ^ 16 := by
  revert hi; unfold bellBase phShown; split <;> omega

theorem bell_mod (fn : Fn) (i : Nat) : (bellBase fn + 0x10 * i) % 4 = 0 := by
  unfold bellBase; split <;> omega

theorem write_cfg (hreach : fnReachable s fn = true) (hi : i < phShown fn) (ho : o < 0x20) (hlow : 0x10 ≤ o) (h4 : o % 4 = 0) :
    exec (wordWrite fn (cfgBase fn + 0x20 * i + o) w) s = answer (writeConfig s fn i o w) := by
  have hmod := (cfg_mod fn i).2
  exact (write_word hreach (cfg_lt hi ho) (by omega)).trans (congrArg answer (writeWord_cfg hi ho hlow))

theorem write_bell (hreach : fnReachable s fn = true) (hi : i < phShown fn) (ho : o < 0x10) (h4 : o % 4 = 0) :
    exec (wordWrite fn (bellBase fn + 0x10 * i + o) w) s = answer (writeBell s fn i o w) := by
  have hmod := bell_mod fn i
  exact (write_word hreach (bell_lt hi ho) (by omega)).trans (congrArg answer (writeWord_bell hi ho))

/-- SQ_BASE (o = 0) or CQ_BASE (o = 8), written whole. -/
theorem write_base (hreach : fnReachable s fn = true) (hi : i < phShown fn) (ho : o = 0 ∨ o = 8) :
    exec (.registerWrite fn false (BitVec.ofNat 16 (cfgBase fn + 0x20 * i + o)) true v) s =
      answer (writeBase s fn i (o == 8) fun _ => v) := by
  have hmod := (cfg_mod fn i).2
  refine write_long hreach (cfg_lt hi (by omega)) (by omega) ((writeLong_cfg hi (by omega) _ true).trans ?_)
  obtain rfl | rfl := ho <;> rfl

theorem onPh_none {f : Nat → Ph → State} (h : globalPh s fn i = none) : onPh s fn i f = s := by
  rw [onPh, h]; exact ite_self s

theorem onPh_unreachable {f : Nat → Ph → State} (h : fnReachable s fn = false) : onPh s fn i f = s :=
  if_pos (by simp [h])

/-- A pigeonhole that the function's slot does not have (R76). -/
theorem writeConfig_none (h : globalPh s fn i = none) : writeConfig s fn i o w = s := by
  rw [writeConfig, onPh_none h, onPh_none h, ite_self, ite_self]

end RegisterWrites

/-! ### The clauses -/

/-- The offsets of BAR0 of PF0 that the claims name as reserved or read-only. -/
theorem writePf0_reserved (s : State) (b : Bool) (w : BitVec 32) : ∀ o ∈
    [0x0000, 0x0004, 0x0010, 0x0100, 0x0104, 0x0130, 0x0134, 0x0138, 0x0200, 0x020C, 0x0804, 0x1000, 0x1008, 0x8000],
    PlainOffset o ∧ writePf0 s b o w = s := by
  simp only [List.forall_mem_cons, List.not_mem_nil, false_implies, implies_true, and_true]
  refine ⟨?_, ?_, ?_, ?_, ?_, ?_, ?_, ?_, ?_, ?_, ?_, ?_, ?_, ?_⟩ <;> exact ⟨by decide, rfl⟩

theorem ignoredWrites : Claims.IgnoredWrites := by
  intro s fn bar2 wide off v w
  refine ⟨write_unreachable, write_misaligned, fun b o ho => ?_, fun hvf i hi hnone o ho => ?_⟩
  · cases hup : (s.port b).linkUp with
    | false => exact write_unreachable (by simp [fnReachable, hup])
    | true =>
      obtain ⟨hplain, hkeep⟩ := writePf0_reserved s b w o ho
      exact (write_plain hup hplain).trans (congrArg answer hkeep)
  · cases hreach : fnReachable s fn with
    | false => exact write_unreachable hreach
    | true =>
      have hcfg : cfgBase fn = 0x0800 := if_neg hvf
      have hshown : i < phShown fn := by rw [phShown, if_neg hvf]; exact hi
      obtain ⟨h4, hlt⟩ : o % 4 = 0 ∧ o < 0x20 := by
        revert o; decide
      by_cases hbase : o < 0x10
      · obtain ⟨f, hf⟩ := writeWord_base (s := s) (w := w) hshown hbase
        have hstay : writeBase s fn i (decide (8 ≤ o)) f = s := onPh_none hnone
        refine (write_word hreach (by omega) (by omega)).trans (congrArg answer ?_)
        rw [← hcfg, hf, hstay]
      · rw [← hcfg]
        exact (write_cfg hreach hshown hlt (by omega) h4).trans (congrArg answer (writeConfig_none hnone))

/-- The doorbells act as SQ_TAIL and CQ_HEAD (R80, R81, R608). -/
theorem doorbells_write {s : State} {fn : Fn} {i : BitVec 6} (w : BitVec 32) (hi : i.toNat < phShown fn) :
    exec (wordWrite fn (bellBase fn + 0x10 * i.toNat) w) s = exec (.sqTail fn i (w.extractLsb' 0 16)) s ∧
    exec (wordWrite fn (bellBase fn + 0x10 * i.toNat + 4) w) s = exec (.cqHead fn i (w.extractLsb' 0 16)) s := by
  have hname : BitVec.ofNat 6 i.toNat = i := BitVec.ofNat_toNat ..
  cases hreach : fnReachable s fn with
  | false =>
    exact ⟨(write_unreachable hreach).trans (congrArg answer (onPh_unreachable hreach)).symm,
      (write_unreachable hreach).trans (congrArg answer (onPh_unreachable hreach)).symm⟩
  | true =>
    have hsq : answer (writeBell s fn i.toNat 0 w) = exec (.sqTail fn i (w.extractLsb' 0 16)) s := by
      rw [writeBell, if_pos rfl, hname]; rfl
    have hcq : answer (writeBell s fn i.toNat 4 w) = exec (.cqHead fn i (w.extractLsb' 0 16)) s := by
      rw [writeBell, if_neg (by decide), if_pos rfl, hname]; rfl
    exact ⟨(write_bell (o := 0) hreach hi (by decide) rfl).trans hsq, (write_bell hreach hi (by decide) rfl).trans hcq⟩

/-- ENABLE written 1 acts as its row (R78). -/
theorem enable_write {s : State} {fn : Fn} {i : BitVec 6} {w : BitVec 32} (hi : i.toNat < phShown fn)
    (hbit : w.getLsbD 16 = true) :
    exec (wordWrite fn (cfgBase fn + 0x20 * i.toNat + 0x10) w) s =
      exec (.enable fn i (w.extractLsb' 0 5) (w.extractLsb' 8 6)) s := by
  have hname : BitVec.ofNat 6 i.toNat = i := BitVec.ofNat_toNat ..
  cases hreach : fnReachable s fn with
  | false => exact (write_unreachable hreach).trans (congrArg answer (onPh_unreachable hreach)).symm
  | true =>
    refine (write_cfg hreach hi (by decide) (by decide) rfl).trans ?_
    rw [writeConfig, if_pos rfl]
    cases hph : globalPh s fn i.toNat with
    | none => rw [onPh_none hph]; exact congrArg answer (onPh_none hph).symm
    | some n => rw [onPh_of_atPh ⟨hreach, hph⟩, if_pos hbit, hname]; rfl

/-- ENABLE written 0 acts as its row while it is 1, and leaves the other fields of the word while the pigeonhole is
off (R79). -/
theorem disable_write {s : State} {fn : Fn} {i : BitVec 6} {n : Nat} {w : BitVec 32} (hi : i.toNat < phShown fn)
    (hat : AtPh s fn i.toNat n) (hbit : w.getLsbD 16 = false) :
    ((s.ph n).enable = true →
      exec (wordWrite fn (cfgBase fn + 0x20 * i.toNat + 0x10) w) s = exec (.enableOff fn i) s) ∧
    ((s.ph n).enable = false → (s.ph n).draining = false →
      exec (wordWrite fn (cfgBase fn + 0x20 * i.toNat + 0x10) w) s =
        answer (s.setPh n { s.ph n with depthLog2 := w.extractLsb' 0 5, vector := w.extractLsb' 8 6 })) := by
  have hname : BitVec.ofNat 6 i.toNat = i := BitVec.ofNat_toNat ..
  have hword : exec (wordWrite fn (cfgBase fn + 0x20 * i.toNat + 0x10) w) s =
      answer (writeConfig s fn i.toNat 0x10 w) := write_cfg hat.reachable hi (by decide) (by decide) rfl
  rw [writeConfig, if_pos rfl, onPh_of_atPh hat] at hword
  dsimp only at hword
  rw [if_neg (ne_true_of_eq_false hbit), hname] at hword
  refine ⟨fun hon => ?_, fun hoff hdrain => ?_⟩
  · rw [hword, if_pos hon]; rfl
  · rw [hword, if_neg (ne_true_of_eq_false hoff), if_neg (ne_true_of_eq_false hdrain)]; rfl

theorem writePf0_imgCtrl (s : State) (b : Bool) (w : BitVec 32) : writePf0 s b 0x012C w =
    if w.getLsbD 1 then leave (exec .abort s) s else if w.getLsbD 0 then leave (exec (.start b) s) s else s := rfl

theorem writePf0_resetCtrl (s : State) (b : Bool) (w : BitVec 32) : writePf0 s b 0x013C w =
    if 0x013C = 0x013C ∧ w.getLsbD 0 then leave (exec (.warm (w.extractLsb' 8 8)) s) s else s := rfl

theorem writesActAsRows : Claims.WritesActAsRows := by
  intro s fn b i w v
  refine ⟨fun hi => ?_, fun hup => ?_⟩
  · obtain ⟨hsq, hcq⟩ := doorbells_write (s := s) w hi
    exact ⟨hsq, hcq, fun hbit => enable_write hi hbit, fun n hat hbit => disable_write hi hat hbit⟩
  · have plain {o : Nat} (h : PlainOffset o) : exec (pf0Write b o w) s = answer (writePf0 s b o w) := write_plain hup h
    refine ⟨plain (by decide), plain (by decide), plain (by decide), plain (by decide), fun habort => ?_,
      fun habort hstart => ?_, fun hreset => ?_, ?_, ?_, fun hi hmask => ?_⟩
    · rw [plain (by decide), writePf0_imgCtrl, if_pos habort]; rfl
    · rw [plain (by decide), writePf0_imgCtrl, if_neg (ne_true_of_eq_false habort), if_pos hstart]; rfl
    · rw [plain (by decide), writePf0_resetCtrl, if_pos ⟨rfl, hreset⟩]; rfl
    · exact write_journal (t := leave (exec (.journalHead b v) s) s) hup (.inr (.inr rfl)) (writeLong_journal s b _ true (by decide))
    · exact write_long (t := leave (exec (.relayIn v) s) s) (reachable_pf0 hup) (by decide) rfl rfl
    · have hname : BitVec.ofNat 6 i.toNat = i := BitVec.ofNat_toNat ..
      have hword : writeMsix s ⟨b, 0⟩ i.toNat 12 w = leave (exec (.msixUnmask ⟨b, 0⟩ i) s) s := by
        refine (if_neg (ne_true_of_eq_false hmask)).trans ?_
        rw [hname]; rfl
      rw [write_msix hup hi (by decide) rfl, hword]; rfl

/-- The ring bases, ignored while ENABLE is 1 or a drain runs, and COUNT and TIME_US (R79, R98). -/
theorem ring_fields_hold {s : State} {fn : Fn} {i n : Nat} (w : BitVec 32) (v : BitVec 64) (hat : AtPh s fn i n)
    (hi : i < phShown fn) :
    ((s.ph n).enable = true ∨ (s.ph n).draining = true →
      exec (.registerWrite fn false (BitVec.ofNat 16 (cfgBase fn + 0x20 * i)) true v) s = answer s ∧
      exec (.registerWrite fn false (BitVec.ofNat 16 (cfgBase fn + 0x20 * i + 8)) true v) s = answer s) ∧
    ((s.ph n).enable = false → (s.ph n).draining = false →
      exec (.registerWrite fn false (BitVec.ofNat 16 (cfgBase fn + 0x20 * i)) true v) s =
        answer (s.setPh n { s.ph n with sqBase := v }) ∧
      exec (.registerWrite fn false (BitVec.ofNat 16 (cfgBase fn + 0x20 * i + 8)) true v) s =
        answer (s.setPh n { s.ph n with cqBase := v })) ∧
    exec (wordWrite fn (cfgBase fn + 0x20 * i + 0x14) w) s =
      answer (s.setPh n { s.ph n with count := w.extractLsb' 0 8, timeUs := w.extractLsb' 8 10 }) := by
  have hsq := write_base (v := v) hat.reachable hi (.inl rfl)
  have hcq := write_base (v := v) hat.reachable hi (.inr rfl)
  have hcount : exec (wordWrite fn (cfgBase fn + 0x20 * i + 0x14) w) s = answer (writeConfig s fn i 0x14 w) :=
    write_cfg hat.reachable hi (by decide) (by decide) rfl
  rw [writeBase, onPh_of_atPh hat] at hsq hcq
  rw [writeConfig, if_neg (by decide), if_pos rfl, onPh_of_atPh hat] at hcount
  refine ⟨fun hbusy => ?_, fun hoff hdrain => ?_, hcount⟩
  · have hguard : ((s.ph n).enable || (s.ph n).draining) = true := by simpa using hbusy
    exact ⟨hsq.trans (congrArg answer (if_pos hguard)), hcq.trans (congrArg answer (if_pos hguard))⟩
  · have hguard : ¬((s.ph n).enable || (s.ph n).draining) = true := by simp [hoff, hdrain]
    exact ⟨hsq.trans (congrArg answer (if_neg hguard)), hcq.trans (congrArg answer (if_neg hguard))⟩

theorem writesHold : Claims.WritesHold := by
  intro s fn b i n w v
  refine ⟨fun hat hi => ring_fields_hold w v hat hi, fun hup => ?_⟩
  have plain {o : Nat} (h : PlainOffset o) : exec (pf0Write b o w) s = answer (writePf0 s b o w) := write_plain hup h
  refine ⟨plain (by decide), plain (by decide), plain (by decide), plain (by decide), ?_, plain (by decide),
    plain (by decide), plain (by decide), plain (by decide), plain (by decide), plain (by decide), plain (by decide),
    ?_, ?_, plain (by decide), plain (by decide), fun hi => ?_⟩
  · refine (plain (by decide)).trans (congrArg answer ?_)
    have hlease : (fld w 0 10).toNat = w.toNat % 1024 := by simp [fld]
    exact hlease ▸ rfl
  · exact write_journal hup (.inl rfl) (writeLong_journal s b _ true (by decide))
  · exact write_journal hup (.inr (.inl rfl)) (writeLong_journal s b _ true (by decide))
  · exact ⟨write_msix (o := 0) hup hi (by decide) rfl, write_msix hup hi (by decide) rfl, write_msix hup hi (by decide) rfl,
      fun hmask => (write_msix hup hi (by decide) rfl).trans (congrArg answer (if_pos hmask))⟩

/-- Settles O59: a write reaches the one register at its offset, so every clause reads off the function of that
register's block. -/
theorem registerWrites : Obligations.RegisterWrites :=
  ⟨ignoredWrites, writesActAsRows, writesHold⟩

end Sys2Proof.Machine
end

end
